-- ==== Sys2Proof/Word.lean ====
section
/-! DEFINITION. The words of the module and their plainest arithmetic (R12, R13, R171, R176). -/

namespace Sys2Proof

/-- A 32-bit word: a scalar register or a unit register (R171). -/
abbrev Word := BitVec 32

/-- One byte of memory. -/
abbrev Byte := BitVec 8

/-- A vector register, element 0 in bits [31:0] (R171). -/
abbrev Vec := BitVec 128

/-- An accumulator, 64 integer and 32 fraction bits, signed (R171). -/
abbrev Acc := BitVec 96

/-- Bits [lo + w - 1 : lo] of a number. -/
def field (x lo w : Nat) : Nat := x / 2 ^ lo % 2 ^ w

/-- Bit i of a number. -/
def bitOf (x i : Nat) : Bool := x / 2 ^ i % 2 == 1

/-- A Bool as a number. -/
def ofB (b : Bool) : Nat := if b then 1 else 0

/-- The number whose bit i is p i, for i below n. -/
def bitsOf (n : Nat) (p : Nat → Bool) : Nat :=
  (List.range n).foldl (fun a i => a + ofB (p i) * 2 ^ i) 0

/-- x with bit i set to b. -/
def withBit (x i : Nat) (b : Bool) : Nat :=
  if bitOf x i then (if b then x else x - 2 ^ i) else (if b then x + 2 ^ i else x)

/-- A number read as a w-bit two's complement value. -/
def sextN (w x : Nat) : Int := if x % 2 ^ w < 2 ^ (w - 1) then (x % 2 ^ w : Nat) else (x % 2 ^ w : Nat) - (2 ^ w : Nat)

/-- An integer modulo 2^w, as a number. -/
def wrapN (w : Nat) (x : Int) : Nat := (x % (2 ^ w : Nat)).toNat

/-- An integer held between two bounds. -/
def clampI (lo hi x : Int) : Int := if x < lo then lo else if hi < x then hi else x

/-- x divided by d > 0, rounded to the nearest integer, ties to even (R177). -/
def rneDiv (x : Int) (d : Nat) : Int :=
  let q := x / (d : Int)
  let r := x % (d : Int)
  if 2 * r < d then q else if (d : Int) < 2 * r then q + 1 else if q % 2 = 0 then q else q + 1

/-- x / d rounded up. -/
def ceilDiv (x d : Nat) : Nat := (x + d - 1) / d

/-- The little-endian bytes of a number, n of them (R13). -/
def leBytes : Nat → Nat → List Byte
  | 0, _ => []
  | n + 1, x => BitVec.ofNat 8 x :: leBytes n (x / 256)

/-- The number that little-endian bytes spell (R13). -/
def leNat : List Byte → Nat
  | [] => 0
  | b :: bs => b.toNat + 256 * leNat bs

/-- The byte at offset i of a block of bytes, 0 past its end. -/
def byteAt (bs : List Byte) (i : Nat) : Nat := (bs.getD i 0).toNat

/-- The 16-bit number at offset i of a block. -/
def u16At (bs : List Byte) (i : Nat) : Nat := leNat ((bs.drop i).take 2)

/-- The 32-bit number at offset i of a block. -/
def u32At (bs : List Byte) (i : Nat) : Nat := leNat ((bs.drop i).take 4)

/-- The n-byte number at offset i of a block. -/
def unAt (bs : List Byte) (i n : Nat) : Nat := leNat ((bs.drop i).take n)

/-- n zero bytes. -/
def zeros (n : Nat) : List Byte := List.replicate n 0

/-- A block cut or filled with zeros to n bytes. -/
def padTo (n : Nat) (bs : List Byte) : List Byte := bs.take n ++ zeros (n - bs.length)

/-- One bit of the reflected CRC-32C register. -/
def crcBit (c : Nat) : Nat := if c % 2 = 1 then (c / 2) ^^^ 0x82F63B78 else c / 2

/-- One byte into the CRC-32C register. -/
def crcByte (c : Nat) (b : Byte) : Nat :=
  crcBit (crcBit (crcBit (crcBit (crcBit (crcBit (crcBit (crcBit (c ^^^ b.toNat))))))))

/-- CRC-32C of a block (R519 and others name it; PRESUMED the standard Castagnoli CRC, log entry 10). -/
def crc32c (bs : List Byte) : Nat := (bs.foldl crcByte 0xFFFFFFFF) ^^^ 0xFFFFFFFF

end Sys2Proof
end

