-- ==== Sys2Proof/Config.lean ====
section
/-! DEFINITION. What an implementation fixes and the spec does not give bit for bit: the free values. Each is an opaque
constant, so that a claim is true whatever its value is. -/

namespace Sys2Proof

/-- What a run's signature covers, in issue order (R248): a register write (kind, number, value), a memory word written,
a queued unit write, a JACC, a CUE, a LEASE request. -/
inductive SigItem where
  | reg (kind number value : Nat)
  | mem (addr value : Nat)
  | unitWrite (unit idx value : Nat)
  | jacc (slot : Nat) (value : Nat) (mark inv : Bool)
  | cue (entry : Nat)
  | lease (op resource : Nat)
  deriving DecidableEq, Repr

/-- The bytes of the Poldon boot ROM (R35; log entry 5). -/
opaque Config.bootRom : Nat → Byte

/-- The digests by which the boot ROM extends MEAS0 at a start, over itself and the base camp program (R238; log entry 5). -/
opaque Config.bootMeasures : List (List Byte)

/-- The words of the factory trim OTP (R35, R374; log entry 5). -/
opaque Config.otpWord : Nat → Word

/-- The words of the random generator, one for each draw (R429, R483; log entry 7). -/
opaque Config.random : Nat → Word

/-- The signature of a run (R248 names the CRC and what it covers, not how the items are written out; log entry 8). -/
opaque Config.signature : List SigItem → Word

/-- ECDSA P-256 verification: key 0 the Isaoskyn key (R233, R483), key 1 the owner's, whose 64-byte public key then precedes
the signature (R483; log entry 9). -/
opaque Config.verify : (key : Nat) → (message signature : List Byte) → Bool

/-- The module's own ECDSA P-256 signature (R489; log entry 9). -/
opaque Config.sign : (message : List Byte) → List Byte

/-- Coefficients of the resampler: numerator over 2^31 for channel offset index, phase and tap (R161; log entry 11). -/
opaque Config.rsmpCoef : (phase tap : Nat) → Int

/-- The scale of the resampler's coefficients (R161; log entry 11). -/
opaque Config.rsmpShift : Nat

/-- The fraction bits below Q1.31 of the Rogowski integrator's 64-bit state, and its state where a step leaves 64 bits
(R159; log entry 13). -/
opaque Config.integFrac : Nat
opaque Config.integOver : Int → BitVec 64

/-- The ROM coefficients, signed Q1.23 (R153; log entry 3): a linear-phase half-band stage of 2 m + 1 taps, at distance d
from its middle; a minimum-phase one, by tap; HB0; the factory DRP set of an ORDER and OPT. -/
opaque Config.halfTap : (m d : Nat) → BitVec 24
opaque Config.minTap : (m tap : Nat) → BitVec 24
opaque Config.hb0Tap : (tap : Nat) → BitVec 24
opaque Config.drpTap : (order opt tap : Nat) → BitVec 24

/-- A word of the rate converter of BITIN, from the measured frequency, DEC, its place in the grain and the words before it
(R141; log entry 52). -/
opaque Config.rateConvert : (fmeas dec i : Nat) → List Word → Word

/-- The temperature of a mean reading of the diode sensor with the quad's factory offset, in 0.01 °C (R128, R373; log entry
53). -/
opaque Config.diodeTemp : (sum : Int) → (n : Nat) → (offset : Int) → Int

/-- Whether a quotient that is no integer is rounded up, where the spec does not say how; and a quotient by zero (log
entry 14). -/
opaque Config.roundUp : (num : Int) → (den : Nat) → Bool
opaque Config.overZero : (num : Int) → Int

/-- A quotient as an integer, where the spec does not say how it is rounded: one of its two neighbours (log entry 14). -/
def Config.round (num : Int) (den : Nat) : Int :=
  if den = 0 then Config.overZero num
  else if num % (den : Int) = 0 then num / (den : Int)
  else num / (den : Int) + (if Config.roundUp num den then 1 else 0)

/-- How far a part of bin c lies from its exact value, in 2^-47, however the engine computes it (R303; log entry 14). -/
opaque Config.binError : (points : List Int) → (c : Nat) → (imag : Bool) → Int

/-- What is stored for a value its field cannot hold (log entry 14). -/
opaque Config.tooBig : (value : Nat) → Nat

/-- How far the delay of the minimum-phase option lies from its table, in 2^-32 grain, by tracked period (R157 gives it within
±0.5 µs; log entry 14). -/
opaque Config.delayError : (plen : Nat) → Int

/-- The bytes of areas of always-on SRAM whose layout no rule gives (area, what it stands for, byte; log entry 15). -/
opaque Config.areaByte : (area : Nat) → (what : List Nat) → (byte : Nat) → Byte

/-- The words of cairn areas whose bytes no rule lays out: carry slots and freed ring bytes (area, word; log entry 15). -/
opaque Config.cairnWord : (area word : Nat) → Word

/-- A value the spec leaves open, one for each use (log entry 7). -/
opaque Config.openValue : Nat → Nat

/-- The arithmetic error of base camp's reactive (or apparent) increment of a pitch, in 2^-32, from the points of ch 0–6
(R283 bounds it; log entry 12). -/
opaque Config.baseError : (apparent : Bool) → List (List Int) → Int

end Sys2Proof
end

