-- ==== Sys2Proof/Syntax.lean ====
section
/-! DEFINITION. The commands of the block: one constructor for each row of spec/opcode_table.json, with its operands. -/

namespace Sys2Proof

/-- A processor: frame lane L0–L4 or control core CC0, CC1 (R171). -/
inductive Proc where
  | lane (n : Fin 5)
  | cc (c : Fin 2)
  deriving DecidableEq, Repr

/-- The streams of a channel (R190). -/
inductive Stream where
  | grain
  | pitch
  | strided
  deriving DecidableEq, Repr

/-- Sums of a comparison x against r over its values (R384): of x·r, of r², of x and of r. -/
structure Sums where
  sxr : Int
  srr : Int
  sx : Int
  sr : Int
  deriving DecidableEq, Repr

/-- What the tamper supervisor reads at a tick (R465, R466): aux codes of the light sensor, the Hall sensor, the
magnetoresistive sensor, the rectified supply and the die (none where the urgent request was dropped); the bandgap
comparator; the PLL out of lock with its reference present; the sources in which a detector fails a test asked for. -/
structure TickIn where
  light : Option Int
  hall : Option Int
  mr : Option Int
  supply : Option Int
  die : Option Int
  bandgap : Bool
  pllOut : Bool
  testFail : Nat
  deriving DecidableEq, Repr

/-- What the converters gave in the grain that ends: the 400 bits of every core (R371), bit 0 the oldest; the bits of
BD1–BD8, bit 0 the oldest, with their number on BCLKI (400 of them on BCLKO, R140); the measured bit clock in 100 Hz
(R142). -/
structure Measure where
  cores : Vector (BitVec 400) 38
  bits : Vector (BitVec 672) 8
  edges : Nat
  fmeas : BitVec 18
  deriving DecidableEq, Repr


/-- The commands the block takes: one constructor for each row of the table of operations and events
(opcode_table.json). Instructions name the processor that executes them; an event carries which one it is and what
the spec leaves to be measured. -/
inductive Instr where
  /-- XTAL_REF_LOST (R26): The crystal monitor finds the 25.6 MHz reference missing, switches the PLL to the RC
  oscillator, sets CLKDEG and raises the clock tamper source. -/
  | xtalRefLost
  /-- XTAL_REF_RETURN (R26): The crystal has run again for 4096 grains, so the reference switches back at a grain
  boundary and CLKDEG clears. -/
  | xtalRefReturn
  /-- SLOW_CRYSTAL_FAIL (R27): The 32.768 kHz crystal fails, SLOW runs from the internal RC oscillator and SLOWDEG
  sets. -/
  | slowCrystalFail
  /-- PLL_LOCK (R25): The PLL reports lock, CORE leaves the RC oscillator and the grain counter starts or resumes.
  -/
  | pllLock
  /-- SYS_FAULT_CLEAR (R42): Writing one to SYS.FAULT.VALID clears VALID and MORE together, unless a new fault falls
  in the same cycle. -/
  | sysFaultClear
  /-- GRAIN_BOUNDARY (R68): The sub-grain phase wraps, TIME.GRAIN increments and the phases of the new grain begin.
  -/
  | grainBoundary (m : Measure)
  /-- TIE_RECORD (R72): Every 4096 SLOW cycles the TIME unit writes the RTC, grain and phase tie record to always-on
  SRAM. -/
  | tieRecord
  /-- SPLIT_LOW_READ (R71): A read of the low word of a split register latches its high word for a later read. -/
  | splitLowRead (p : Proc) (unit reg : Fin 256)
  /-- PPS_EDGE (R76): A PPS edge is timestamped, accepted or rejected, and on acceptance UTCOFF, PPSSEC and UTCRATE
  are updated. -/
  | ppsEdge (rising : Bool)
  /-- PPS_EDGE_MISSED (R77): An expected PPS edge is not accepted in its window, and after four such misses PPSLOCK
  clears and PPSLOST sets. -/
  | ppsEdgeMissed
  /-- ZERO_CROSSING (R81): The pitch tracker finds a positive zero crossing of ch 0, judges it against its tests and
  updates QUAL and the tracker state. -/
  | zeroCrossing (t : Nat) (amp : Word)
  /-- TRACKER_TIMEOUT (R81): No qualifying crossing arrives within 1.5 periods, or ACQUIRE runs out, so the tracker
  enters HOLD and QUAL is set to 0. -/
  | trackerTimeout
  /-- PITCH_COMPLETE (R80): A pitch completes at the grain boundary after its point 511, and PSTART, PLEN and PITCH
  are loaded. -/
  | pitchComplete (pos : Fin 12) (held : Bool)
  /-- BLOCK_BOUNDARY (R82): The last pitch of a block completes, a new block begins and NOM60 writes take effect. -/
  | blockBoundary (bulk : BitVec 16)
  /-- INTERVAL_BOUNDARY (R83): A 10-minute UTC boundary passes, so the running aggregation interval ends short and a
  new one begins. -/
  | intervalBoundary
  /-- CUE_CANCEL_TAG (R92): A write of a tag to TIME.CUECANCEL.TAG removes every pending cue that carries that tag.
  -/
  | cueCancelTag (tag : BitVec 8)
  /-- CUE_CANCEL_ALL (R92): Setting TIME.CUECANCEL.ALL removes every pending cue. -/
  | cueCancelAll
  /-- TIMECODE_FRAME_SEND (R95): The leader sends a timecode frame at every grain divisible by 32. -/
  | timecodeFrameSend (readbackBad : Bool)
  /-- TIMECODE_FRAME_RECEIVE (R96): A follower receives a timecode frame, checks its CRC and advances its join state
  machine. -/
  | timecodeFrameReceive (frame : List Byte)
  /-- FOLLOWER_REPLY_SEND (R97): A follower sends its 14-byte reply 4p + 2 grains after detecting the frame sync. -/
  | followerReplySend
  /-- FOLLOWER_REPLY_RECEIVE (R98): The leader times a follower's reply and computes its round trip. -/
  | followerReplyReceive (frame : List Byte)
  /-- REPLY_MISSED (R97): A follower misses three replies in a row, so it is cleared from MEMBERS and MEMBERLOST
  sets. -/
  | replyMissed (pos : Fin 8)
  /-- CHAIN_STEP (R101): At the end of RANGING a follower steps TIME.GRAIN to the leader's count at its next
  boundary and journals the step. -/
  | chainStep
  /-- FRAME_LOSS (R103): A follower misses three consecutive timecode frames and enters HOLDOVER on its own crystal.
  -/
  | frameLoss
  /-- HEIR_TAKEOVER (R104): A follower with HEIR set has heard no frame for 1024 grains and becomes leader. -/
  | heirTakeover
  /-- LEADER_LISTEN_END (R105): A module set as leader has listened for 64 grains without hearing a frame and starts
  sending. -/
  | leaderListenEnd
  /-- LEADER_SILENCE_END (R105): The random 32–255 grain silence after two corrupted read-backs ends and the leader
  listens again. -/
  | leaderSilenceEnd
  /-- HANDOVER_GO (R106): A write of CHAIN.HANDOVER starts the hand-over countdown, or sets MEMBERLOST when the
  target is not a member. -/
  | handoverGo (pos : Fin 8)
  /-- HANDOVER_SWITCH (R106): At H + 128 the old leader falls silent and the target sends frames as the new leader.
  -/
  | handoverSwitch
  /-- OVERLOAD_TRIP (R113): A core's overload detector trips, so its integrators reset, its samples clip and OVL
  sets. -/
  | overloadTrip (q : Fin 4) (k : Fin 4) (which : Fin 3)
  /-- SPARE_SETTLED (R117): After 64 grains of settling the channel stream becomes the median of both cores and the
  spare. -/
  | spareSettled (q : Fin 4)
  /-- DUAL_DECISION_SECOND (R470): The second logic path decides a retire, alarm, unlock or zeroize 1–255 cycles
  after the first, and a disagreement sets FI. -/
  | dualDecisionSecond (agree : Bool)
  /-- RETIRE_COMMIT (R120): The retire bit's two-phase cairn write commits, a retire record is journalled and the
  stream changes over at the next boundary. -/
  | retireCommit
  /-- TRAVERSE_DWELL_END (R126): The spare's dwell at a position runs out and the spare moves to the next position
  of the traverse. -/
  | traverseDwellEnd (q : Fin 4) (pos : Fin 8)
  /-- STRIDE_REQUEST (R129): A write of QUADq.MODE.STRIDE requests Stride for the slot, or is refused with
  STRIDEREF. -/
  | strideRequest (q : Fin 4) (v : Word)
  /-- OW_TEST_GO (R137): A write of QUADq.OWGO.GO starts an open-wire test at the next grain boundary, unless a test
  is running. -/
  | owTestGo (q : Fin 4)
  /-- BITCLK_LOSS (R142): The clock-presence monitor declares the bit clock lost, marks the samples invalid and
  journals the loss. -/
  | bitclkLoss (f : BitVec 18)
  /-- BITCLK_REQUALIFY (R142): After 1024 grains of good clock the CIC and converter are flushed, CLKOK sets and the
  end is journalled. -/
  | bitclkRequalify
  /-- BITSTREAM_STUCK (R143): A bitstream holds 256 equal bits, so STUCK sets and its samples are invalid. -/
  | bitstreamStuck (k : Fin 8)
  /-- BITSTREAM_RANGE_EXCEED (R143): A bitstream channel exceeds LIM for RGRAINS consecutive grains and OVR sets. -/
  | bitstreamRangeExceed (k : Fin 8)
  /-- FILT_CFG_WRITE (R150): A write of FILT.CFGk is judged whole, and it changes ORDER and OPT at the next boundary
  or is refused with CFGREF. -/
  | filtCfgWrite (k : Fin 24) (v : Word)
  /-- FILT_SWAP (R166): A write of FILT.SWAP orders a bank swap of the masked channels, or it is refused when it
  splits a declared pair. -/
  | filtSwap (v : Word)
  /-- ACTIVE_BANK_WRITE (R165): A write to an active bank register is ignored and sets ACTWR. -/
  | activeBankWrite (rsmp : Bool) (idx : Fin 256) (v : Word)
  /-- COEF_DATA_ACCESS (R169): An access to FILT.CDATA reads or writes the addressed tap and advances TAP. -/
  | coefDataAccess (write : Bool) (v : Word)
  /-- ADD (R205): Integer add with flags. -/
  | add (p : Proc) (d a b : Fin 32)
  /-- SUB (R205): Integer subtract with flags. -/
  | sub (p : Proc) (d a b : Fin 32)
  /-- AND (R205): Bitwise and. -/
  | and (p : Proc) (d a b : Fin 32)
  /-- OR (R205): Bitwise or. -/
  | or (p : Proc) (d a b : Fin 32)
  /-- XOR (R205): Bitwise exclusive or. -/
  | xor (p : Proc) (d a b : Fin 32)
  /-- ANDN (R205): Bitwise and-not. -/
  | andn (p : Proc) (d a b : Fin 32)
  /-- SLL (R205): Shift left by the immediate X. -/
  | sll (p : Proc) (d a : Fin 32) (x : Fin 32)
  /-- SRL (R205): Logical shift right by the immediate X. -/
  | srl (p : Proc) (d a : Fin 32) (x : Fin 32)
  /-- SRA (R205): Arithmetic shift right by the immediate X. -/
  | sra (p : Proc) (d a : Fin 32) (x : Fin 32)
  /-- SLLV (R205): Shift left by a register amount. -/
  | sllv (p : Proc) (d a b : Fin 32)
  /-- SRLV (R205): Logical shift right by a register amount. -/
  | srlv (p : Proc) (d a b : Fin 32)
  /-- SRAV (R205): Arithmetic shift right by a register amount. -/
  | srav (p : Proc) (d a b : Fin 32)
  /-- CMPLT (R205): Signed less-than compare. -/
  | cmplt (p : Proc) (d a b : Fin 32)
  /-- CMPLTU (R205): Unsigned less-than compare. -/
  | cmpltu (p : Proc) (d a b : Fin 32)
  /-- MIN (R205): Signed minimum. -/
  | min (p : Proc) (d a b : Fin 32)
  /-- MAX (R205): Signed maximum. -/
  | max (p : Proc) (d a b : Fin 32)
  /-- QADD (R205): Saturating add. -/
  | qadd (p : Proc) (d a b : Fin 32)
  /-- QSUB (R205): Saturating subtract. -/
  | qsub (p : Proc) (d a b : Fin 32)
  /-- QABS (R205): Saturating absolute value. -/
  | qabs (p : Proc) (d a : Fin 32)
  /-- QNEG (R205): Saturating negation. -/
  | qneg (p : Proc) (d a : Fin 32)
  /-- MUL (R207): Low word of a product. -/
  | mul (p : Proc) (d a b : Fin 32)
  /-- MULH (R207): High word of a signed product. -/
  | mulh (p : Proc) (d a b : Fin 32)
  /-- MULHU (R207): High word of an unsigned product. -/
  | mulhu (p : Proc) (d a b : Fin 32)
  /-- QMUL (R207): Rounded, saturating Q1.31 multiply. -/
  | qmul (p : Proc) (d a b : Fin 32)
  /-- DIV (R208): Signed divide, with fixed results for the no-exact-result cases. -/
  | div (p : Proc) (d a b : Fin 32)
  /-- DIVU (R208): Unsigned divide. -/
  | divu (p : Proc) (d a b : Fin 32)
  /-- REM (R208): Signed remainder. -/
  | rem (p : Proc) (d a b : Fin 32)
  /-- REMU (R208): Unsigned remainder. -/
  | remu (p : Proc) (d a b : Fin 32)
  /-- SQRT (R207): Integer square root. -/
  | sqrt (p : Proc) (d a : Fin 32)
  /-- QSQRT (R207): Q1.31 square root. -/
  | qsqrt (p : Proc) (d a : Fin 32)
  /-- ADDI (R209): Add of a sign-extended immediate. -/
  | addi (p : Proc) (d a : Fin 32) (imm : BitVec 16)
  /-- ANDI (R209): And with a zero-extended immediate. -/
  | andi (p : Proc) (d a : Fin 32) (imm : BitVec 16)
  /-- ORI (R209): Or with a zero-extended immediate. -/
  | ori (p : Proc) (d a : Fin 32) (imm : BitVec 16)
  /-- XORI (R209): Exclusive or with a zero-extended immediate. -/
  | xori (p : Proc) (d a : Fin 32) (imm : BitVec 16)
  /-- HIMM (R209): Load the immediate into the high half. -/
  | himm (p : Proc) (d : Fin 32) (imm : BitVec 16)
  /-- CMPLTI (R209): Signed compare against an immediate. -/
  | cmplti (p : Proc) (d a : Fin 32) (imm : BitVec 16)
  /-- CMPLTIU (R209): Unsigned compare against an immediate. -/
  | cmpltiu (p : Proc) (d a : Fin 32) (imm : BitVec 16)
  /-- LD (R210): Word load, with the alignment, range and lease checks. -/
  | ld (p : Proc) (d a : Fin 32) (imm : BitVec 16) (memErr : Bool)
  /-- ST (R210): Word store. -/
  | st (p : Proc) (d a : Fin 32) (imm : BitVec 16)
  /-- VLD (R210): Vector load. -/
  | vld (p : Proc) (d : Fin 16) (a : Fin 32) (imm : BitVec 16) (memErr : Bool)
  /-- VST (R210): Vector store. -/
  | vst (p : Proc) (d : Fin 16) (a : Fin 32) (imm : BitVec 16)
  /-- VADD (R211): Element-wise wrapping add. -/
  | vadd (p : Proc) (d a b : Fin 16)
  /-- VSUB (R211): Element-wise wrapping subtract. -/
  | vsub (p : Proc) (d a b : Fin 16)
  /-- VQADD (R211): Element-wise saturating add. -/
  | vqadd (p : Proc) (d a b : Fin 16)
  /-- VQSUB (R211): Element-wise saturating subtract. -/
  | vqsub (p : Proc) (d a b : Fin 16)
  /-- VQMUL (R211): Element-wise Q1.31 multiply. -/
  | vqmul (p : Proc) (d a b : Fin 16)
  /-- VMUL (R211): Element-wise low-word multiply. -/
  | vmul (p : Proc) (d a b : Fin 16)
  /-- VAND (R211): Element-wise and. -/
  | vand (p : Proc) (d a b : Fin 16)
  /-- VOR (R211): Element-wise or. -/
  | vor (p : Proc) (d a b : Fin 16)
  /-- VXOR (R211): Element-wise exclusive or. -/
  | vxor (p : Proc) (d a b : Fin 16)
  /-- VSLL (R211): Element-wise shift left. -/
  | vsll (p : Proc) (d a : Fin 16) (x : Fin 32)
  /-- VSRA (R211): Element-wise arithmetic shift right. -/
  | vsra (p : Proc) (d a : Fin 16) (x : Fin 32)
  /-- VMIN (R211): Element-wise signed minimum. -/
  | vmin (p : Proc) (d a b : Fin 16)
  /-- VMAX (R211): Element-wise signed maximum. -/
  | vmax (p : Proc) (d a b : Fin 16)
  /-- VQABS (R211): Element-wise saturating absolute value. -/
  | vqabs (p : Proc) (d a : Fin 16)
  /-- VMAC (R212): Fractional vector multiply-accumulate. -/
  | vmac (p : Proc) (d : Fin 8) (a b : Fin 16) (x : Fin 64)
  /-- VMACI (R212): Integer vector multiply-accumulate. -/
  | vmaci (p : Proc) (d : Fin 8) (a b : Fin 16) (x : Fin 64)
  /-- VMSU (R212): Fractional vector multiply-subtract. -/
  | vmsu (p : Proc) (d : Fin 8) (a b : Fin 16) (x : Fin 64)
  /-- VMSUI (R212): Integer vector multiply-subtract. -/
  | vmsui (p : Proc) (d : Fin 8) (a b : Fin 16) (x : Fin 64)
  /-- VINS (R213): Insert a scalar into a vector element. -/
  | vins (p : Proc) (d : Fin 16) (a : Fin 32) (e : Fin 4)
  /-- VEXT (R213): Extract a vector element to a scalar. -/
  | vext (p : Proc) (d : Fin 32) (a : Fin 16) (e : Fin 4)
  /-- VBC (R213): Broadcast a scalar to every element. -/
  | vbc (p : Proc) (d : Fin 16) (a : Fin 32)
  /-- VMOV (R213): Vector move. -/
  | vmov (p : Proc) (d a : Fin 16)
  /-- VSUM (R213): Sum of the four elements. -/
  | vsum (p : Proc) (d : Fin 32) (a : Fin 16)
  /-- ACLR (R214): Clear an accumulator. -/
  | aclr (p : Proc) (d : Fin 8)
  /-- AMOV (R214): Accumulator move. -/
  | amov (p : Proc) (d a : Fin 8)
  /-- AADDS (R214): Add a scaled scalar to an accumulator. -/
  | aadds (p : Proc) (d : Fin 8) (a : Fin 32) (x : Fin 64)
  /-- AADD (R214): Add one accumulator to another. -/
  | aadd (p : Proc) (d a : Fin 8)
  /-- ASUB (R214): Subtract one accumulator from another. -/
  | asub (p : Proc) (d a : Fin 8)
  /-- ARND (R214): Round an accumulator to Q1.31. -/
  | arnd (p : Proc) (d : Fin 32) (a : Fin 8) (x : Fin 64)
  /-- ARDW (R214): Read one word of an accumulator. -/
  | ardw (p : Proc) (d : Fin 32) (a : Fin 8) (w : Fin 3)
  /-- AWRW (R214): Write one word of an accumulator. -/
  | awrw (p : Proc) (d : Fin 8) (a : Fin 32) (w : Fin 3)
  /-- MAC (R215): Fractional scalar multiply-accumulate. -/
  | mac (p : Proc) (d : Fin 8) (a b : Fin 32) (x : Fin 64)
  /-- MACI (R215): Integer scalar multiply-accumulate. -/
  | maci (p : Proc) (d : Fin 8) (a b : Fin 32) (x : Fin 64)
  /-- MSU (R215): Fractional scalar multiply-subtract. -/
  | msu (p : Proc) (d : Fin 8) (a b : Fin 32) (x : Fin 64)
  /-- MSUI (R215): Integer scalar multiply-subtract. -/
  | msui (p : Proc) (d : Fin 8) (a b : Fin 32) (x : Fin 64)
  /-- LOOP (R216): Starts a hardware loop, or skips its body when the count is zero. -/
  | loop (p : Proc) (k : Bool) (a : Fin 32) (cnt : BitVec 12) (len : BitVec 8)
  /-- IFEQ (R217): Branch if equal. -/
  | ifeq (p : Proc) (a b : Fin 32) (off : BitVec 16)
  /-- IFNE (R217): Branch if not equal. -/
  | ifne (p : Proc) (a b : Fin 32) (off : BitVec 16)
  /-- IFLT (R217): Branch if signed less. -/
  | iflt (p : Proc) (a b : Fin 32) (off : BitVec 16)
  /-- IFGE (R217): Branch if signed greater or equal. -/
  | ifge (p : Proc) (a b : Fin 32) (off : BitVec 16)
  /-- IFLTU (R217): Branch if unsigned less. -/
  | ifltu (p : Proc) (a b : Fin 32) (off : BitVec 16)
  /-- IFGEU (R217): Branch if unsigned greater or equal. -/
  | ifgeu (p : Proc) (a b : Fin 32) (off : BitVec 16)
  /-- CALL (R218): PC-relative call, with fault 0x07 inside a loop. -/
  | call (p : Proc) (d : Fin 32) (imm : BitVec 16)
  /-- JUMP (R218): Register jump with link. -/
  | jump (p : Proc) (d a : Fin 32)
  /-- UR (R219): Unit register read. -/
  | ur (p : Proc) (d : Fin 32) (unit reg : Fin 256) (a : Fin 32)
  /-- UW (R219): Unit register write. -/
  | uw (p : Proc) (d : Fin 32) (unit reg : Fin 256) (a : Fin 32)
  /-- USET (R219): Unit register set bits. -/
  | uset (p : Proc) (d : Fin 32) (unit reg : Fin 256) (a : Fin 32)
  /-- UCLR (R219): Unit register clear bits. -/
  | uclr (p : Proc) (d : Fin 32) (unit reg : Fin 256) (a : Fin 32)
  /-- STG (R220): Take one stream sample into a scalar. -/
  | stg (p : Proc) (d : Fin 32) (ch : Fin 24) (strm : Stream) (idx : Fin 512) (a : Fin 32)
  /-- STVC (R220): Take four channels at one index into a vector. -/
  | stvc (p : Proc) (d : Fin 16) (ch : Fin 24) (strm : Stream) (idx : Fin 512) (a : Fin 32)
  /-- STVI (R220): Take four indices of one channel into a vector. -/
  | stvi (p : Proc) (d : Fin 16) (ch : Fin 24) (strm : Stream) (idx : Fin 512) (a : Fin 32)
  /-- JACC (R221): Pass an accumulator to a slot as a pending increment. -/
  | jacc (p : Proc) (d : Fin 32) (a : Fin 8) (x : Fin 64)
  /-- LEASE_TAKE (R222): Take a lease on a resource. -/
  | leaseTake (p : Proc) (d : Fin 32) (x : Fin 64)
  /-- LEASE_RENEW (R222): Renew a held lease. -/
  | leaseRenew (p : Proc) (d : Fin 32) (x : Fin 64)
  /-- LEASE_RELEASE (R222): Release a lease, which starts its rollback. -/
  | leaseRelease (p : Proc) (d : Fin 32) (x : Fin 64)
  /-- LEASE_QUERY (R222): Query the state of a lease. -/
  | leaseQuery (p : Proc) (d : Fin 32) (x : Fin 64)
  /-- PERMIT (R497): Request a power permit, which is granted, queued or refused. -/
  | permit (p : Proc) (d a b : Fin 32) (cls : Fin 4) (nowait : Bool)
  /-- CUE (R224): Insert a cue entry, with the checks of R86. -/
  | cue (p : Proc) (d : Fin 32) (a : Fin 16)
  /-- MEXT (R225): Extend a measurement register with 32 bytes. -/
  | mext (p : Proc) (x : Fin 4) (a : Fin 32)
  /-- BSWAP (R226): Bank swap with the effect of a FILT.SWAP write. -/
  | bswap (p : Proc) (a : Fin 32) (bankB : Bool)
  /-- CSR_READ (R227): Read a control-status register. -/
  | csrRead (p : Proc) (d : Fin 32) (c : Fin 32)
  /-- CSR_WRITE (R227): Write a control-status register. -/
  | csrWrite (p : Proc) (d a : Fin 32) (c : Fin 32)
  /-- CSR_SET (R227): Set bits in a control-status register. -/
  | csrSet (p : Proc) (d a : Fin 32) (c : Fin 32)
  /-- CSR_CLEAR (R227): Clear bits in a control-status register. -/
  | csrClear (p : Proc) (d a : Fin 32) (c : Fin 32)
  /-- NOP (R228): No operation. -/
  | nop (p : Proc)
  /-- END (R228): Ends the run, hands over the increments and cues, or returns a control core to its dispatcher. -/
  | endRun (p : Proc)
  /-- WAIT (R228): Holds the core until an interrupt or a wake. -/
  | wait (p : Proc)
  /-- RETI (R228): Returns from a handler and restores that level's loop stack. -/
  | reti (p : Proc)
  /-- TRAP (R228): Raises fault 0x0B. -/
  | trap (p : Proc) (x : Fin 64)
  /-- FLR (R228): Read the flags register. -/
  | flr (p : Proc) (d : Fin 32)
  /-- FLW (R228): Write the flags register. -/
  | flw (p : Proc) (a : Fin 32)
  /-- NORMAL_ENTRY (R198): A control core takes a normal presentation at an instruction boundary and enters its
  normal handler. -/
  | normalEntry (c : Fin 2)
  /-- FAST_ENTRY (R198): A control core takes a fast presentation and enters its fast handler on the shadow bank. -/
  | fastEntry (c : Fin 2)
  /-- GRAIN_PROGRAM_START (R230): At phase 384 each lane starts its grain program, or a pitch slice when it has
  none. -/
  | grainProgramStart (n : Fin 5)
  /-- STANDBY_RECOMPUTE (R247): At phase 3340 in a disagreeing grain the standby recomputes the pair's runs from its
  mirror. -/
  | standbyRecompute
  /-- VOTE_TAIL (R250): At phase 6296 the vote is decided and the selected queue, cue insertions and increments are
  applied. -/
  | voteTail
  /-- STANDBY_REBUILD_END (R251): The loser finishes self-test and its 768-grain memory copy, and it becomes a
  voting standby. -/
  | standbyRebuildEnd
  /-- LANE_SELFTEST_FAIL (R252): A lane's self-test fails, or it loses a second vote, and a decision to retire it is
  taken. -/
  | laneSelftestFail (n : Fin 5)
  /-- LANE_RETIRE_COMMIT (R252): INSVC is committed to the cairn, a retire record is journalled, fault 0x23 is
  recorded and the lane's leases are revoked. -/
  | laneRetireCommit
  /-- INSTALL_SECTIONS_DONE (R239): At grain I + 4 the copied lane set makes its first grain-program run. -/
  | installSectionsDone (n : Fin 5)
  /-- CUE_PROGRAM_START (R253): A queued cue program starts when no handler runs, after the service context is
  saved. -/
  | cueProgramStart (c : Fin 2)
  /-- LEASE_EXPIRY (R257): A lease term runs out, so the supervisor revokes it, records fault 0x21 and starts the
  rollback. -/
  | leaseExpiry (x : Fin 12)
  /-- LEASE_ROLLBACK_DONE (R257): A resource's rollback completes and it becomes free, or it passes to a waiting
  supervisor. -/
  | leaseRollbackDone (x : Fin 12)
  /-- LEASE_ROLLBACK_OVERDUE (R509): A rollback has not freed its resource within twice its bound, which causes a
  fatal-lease reset. -/
  | leaseRollbackOverdue (x : Fin 12)
  /-- NRG_BIND_WRITE (R268): A write of a slot binding through the window is accepted, or it is refused whole with
  BINDREF. -/
  | nrgBindWrite (p : Proc) (idx : Fin 3) (v : Word)
  /-- TARIFF_WRITE (R275): A write changes the tariff T, records its grain and journals a tariff-change event. -/
  | tariffWrite (t : BitVec 3) (byCue : Bool)
  /-- PULSE_END (R287): A pulse's high time ends, and the output frees 2H grains after its start. -/
  | pulseEnd (n : Fin 4)
  /-- PULSE_SOURCE_WRITE (R290): A write of a different source or constant clears the output's accumulator and
  backlog. -/
  | pulseSourceWrite (n : Fin 4) (isSrc : Bool) (v : Word)
  /-- EWVAL_WRITE (R292): A write of PULSE.EWVAL is compared with the threshold, and it trips or releases the watch.
  -/
  | ewvalWrite (v : Word)
  /-- EW_STALE (R293): No EWVAL write arrives for STALE grains, so EWSTALE sets and HWATCH goes active. -/
  | ewStale
  /-- F10_WINDOW_END (R302): A 10-second window ends and the 10-s frequency is posted. -/
  | f10WindowEnd
  /-- PQ_BLOCK_POST (R311): A block's PQ results are posted to the quantity store and BLK registers. -/
  | pqBlockPost
  /-- SUPRA_WINDOW_END (R307): A 6400-grain strided window ends and its supraharmonic bands are computed. -/
  | supraWindowEnd
  /-- PQ_THR_WRITE (R314): A threshold write is accepted for the next block boundary, or it is refused whole with
  THRREF. -/
  | pqThrWrite (idx : Fin 2) (v : Word)
  /-- UDIN_WRITE (R298): A non-zero Udin write clears LEARN and takes effect at the next block boundary. -/
  | udinWrite (port : Fin 2) (v : Word)
  /-- CAPT_ARM (R328): CAPT.CMD.ARM arms the ring and takes PRE and POST, or it is refused with ARMREF. -/
  | captArm
  /-- CAPT_TRIG (R327): A software or PQ-event trigger ends arming and starts the post-trigger count, or is counted
  as missed. -/
  | captTrig
  /-- CAPT_DISARM (R328): CAPT.CMD.DISARM returns the ring to idle from any state except drawing. -/
  | captDisarm
  /-- CAPT_PRE_FILLED (R327): PRE grains have been filled and the ring stands armed. -/
  | captPreFilled
  /-- CAPT_FREEZE (R327): POST grains have been recorded and the capture freezes. -/
  | captFreeze
  /-- DRAW_GO (R330): CAPT.DRAW.GO starts or continues a draw to the host, or it is refused with DRAWREF. -/
  | drawGo (p : Proc) (v : Word)
  /-- DRAW_PARCEL (R528): When the outbound buffer has room, the next DATA parcel of frames is sent, and the draw
  ends after the last. -/
  | drawParcel
  /-- AON_BELAY_COMMIT (R337): A belay image written through the bulk port is committed in always-on SRAM. -/
  | aonBelayCommit
  /-- CAIRN_BELAY_COMMIT (R338): A cairn belay's state record and commit word are written, committing it and the
  records before it. -/
  | cairnBelayCommit
  /-- SUPPLY_FAIL_WARNING (R345): The bulk voltage has been below THR for a grain, so the warning is raised and the
  final belay sequence begins. -/
  | supplyFailWarning (cell : BitVec 16)
  /-- CLOSING_SNAPSHOT (R335): Every 64 grains after the final snapshot, while the warning persists, a closing belay
  is made. -/
  | closingSnapshot
  /-- SUPPLY_FAIL_CLEAR (R495): The bulk voltage has held above THR + HYST for 64 grains, so the warning clears and
  closing belays stop. -/
  | supplyFailClear
  /-- RESET_ASSERT (R347): The reset is asserted when the pre-reset belay commits, or 48 grains after the decision.
  -/
  | resetAssert
  /-- SEGMENT_FOLD (R363): HEAD must enter a segment holding unacknowledged records, so that segment is folded into
  the carry. -/
  | segmentFold
  /-- FOLD_COMMIT (R363): The carry's two-phase write commits and the segment is freed. -/
  | foldCommit
  /-- JOURNAL_PARCEL_SEND (R528): Records below CSEQ are sent to the host in a JOURNAL parcel when the buffer has
  room. -/
  | journalParcelSend
  /-- STAGED_APPEND_GO (R365): JRNL.STGGO stages an event record of unit 0x28, or it is refused with STGREF. -/
  | stagedAppendGo
  /-- STAGE_DATA_WRITE (R369): A write of JRNL.STGDATA stores the next staged data word and advances the index. -/
  | stageDataWrite (v : Word)
  /-- PORT_OPEN (R344): CAIRN.PCTL.OPEN zeroes the alternate trim slot's commit word and starts copying the
  committed slot. -/
  | portOpen (p : Proc) (area : BitVec 2)
  /-- PORT_COPY_DONE (R344): The slot copy completes and BUSY clears. -/
  | portCopyDone
  /-- PORT_DATA_WRITE (R344): A write of CAIRN.PDATA writes the word at WORD and advances WORD. -/
  | portDataWrite (p : Proc) (v : Word)
  /-- PORT_COMMIT (R344): CAIRN.PCTL.COMMIT writes the commit word, or is refused when it would change the
  retirement fields. -/
  | portCommit (p : Proc)
  /-- PORT_ABORT (R344): CAIRN.PCTL.ABORT abandons the open write and leaves the committed slot untouched. -/
  | portAbort (p : Proc)
  /-- CAIRN_ADDR_WRITE (R370): A write of CAIRN.RADDR starts fetching the addressed word. -/
  | cairnAddrWrite (v : Word)
  /-- CAIRN_DATA_READ (R370): A read of CAIRN.RDATA returns the word, or zero with RERR, and advances WORD. -/
  | cairnDataRead
  /-- SELFCAL_GO (R375): TRIM.SCCTL.GO starts SELFCAL at the next boundary, or it is refused with SCREF. -/
  | selfcalGo (p : Proc) (permit : BitVec 4)
  /-- SELFCAL_PHASE_END (R376): A 768-grain SELFCAL phase ends, its cores rejoin with new codes and the next phase
  begins. -/
  | selfcalPhaseEnd (phase : Fin 4)
  /-- CALIBRATION_WRITE (R381): A write of CALG, CALO or RATIO takes effect at the next boundary, guarded at SERVICE
  level after START. -/
  | calibrationWrite (p : Proc) (idx : Fin 256) (v : Word)
  /-- DRIFT_SAVE (R387): Every DSAVE blocks the supervisor writes the drift state to the trim record. -/
  | driftSave
  /-- DRIFT_RESET (R388): TRIM.DCTL.RESET zeroes every drift target and an, at SERVICE level. -/
  | driftReset (p : Proc)
  /-- SHNODE_RESTART (R386): TRIM.SHNODE.RESTART makes the next window the new baseline. -/
  | shnodeRestart (p : Proc)
  /-- OTP_DATA_READ (R389): A read of TRIM.ODATA returns the OTP word and advances WORD. -/
  | otpDataRead
  /-- AUX_GO (R393): AUX.CMD.GO starts a result, waits for REFRDY, or is refused with GOREF. -/
  | auxGo (p : Proc)
  /-- AUX_STOP (R394): AUX.CMD.STOP lets the conversion finish, discards its result and clears BUSY. -/
  | auxStop (p : Proc)
  /-- AUX_CAL (R399): AUX.CMD.CAL starts the 20-step self-calibration, or it is refused with CALREF. -/
  | auxCal (p : Proc)
  /-- AUX_CAL_STEP_END (R399): A calibration step completes, and CALOK sets after the last. -/
  | auxCalStepEnd
  /-- AUX_CONVERSION_END (R392): A conversion completes, and the result is formed when its average is complete. -/
  | auxConversionEnd (code : Int)
  /-- AUX_RESULT_READ (R395): A read of AUX.RESULT latches RINFO and clears NEW. -/
  | auxResultRead (p : Proc)
  /-- AUX_CH_WRITE (R391): A write of AUX.CH selects the channel, or it is refused with CHREF. -/
  | auxChWrite (p : Proc) (v : Word)
  /-- AUX_REF_READY (R396): The chosen reference becomes ready and REFRDY sets. -/
  | auxRefReady
  /-- URGENT_REQUEST (R397): An urgent request aborts the running conversion and converts its channel, or it is held
  or dropped. -/
  | urgentRequest (src : Fin 3) (ch : BitVec 5)
  /-- URGENT_CONVERSION_END (R397): The urgent result goes to the requester, URGBUSY clears and the aborted
  conversion restarts. -/
  | urgentConversionEnd (code : Int)
  /-- IRQ_PRESENT (R410): A pending source is chosen for an eligible target and presented to a core or to the host.
  -/
  | irqPresent
  /-- WAIT_WAKE (R409): A core in WAIT with IE clear is woken by an eligible pending source without taking it. -/
  | waitWake (c : Fin 2)
  /-- SWSET_WRITE (R404): A write of IRQ.SWSETc makes the named software sources of core c arrive. -/
  | swsetWrite (c : Fin 2) (mask : BitVec 8)
  /-- IRQ_TIMER_WRITE (R405): A write of IRQ.TMRc starts the timer, or restarts its count at the next boundary. -/
  | irqTimerWrite (c : Fin 2) (v : Word)
  /-- CORE_TIMER_EXPIRY (R405): A core's timer reaches the end of its period and TIMER arrives. -/
  | coreTimerExpiry (c : Fin 2)
  /-- SCNT_READ (R407): A read of IRQ.SCNT returns and clears the arrival count and SAT. -/
  | scntRead (p : Proc)
  /-- IRQ_MASK_WRITE (R413): A write of a mask, GDIS or TEN holds sources back and may withdraw a presentation. -/
  | irqMaskWrite (idx : Fin 256) (v : Word)
  /-- IRQ_PEND_CLEAR (R407): Writing one to a pending bit clears it and withdraws its presentation. -/
  | irqPendClear (idx : Fin 256) (v : Word)
  /-- HOLDOFF_END (R414): A group's hold-off interval ends and its sources can be chosen again. -/
  | holdoffEnd (g : Fin 8)
  /-- LINE_LEVEL_CHANGE (R416): An external line's filtered level changes and its source arrives when the edge
  matches. -/
  | lineLevelChange (l : Fin 3)
  /-- LINE_EDGE_LATCH (R417): A raw edge sets LATCH, and in BIVOUAC may wake the module or start the outage view. -/
  | lineEdgeLatch (l : Fin 3) (rising : Bool)
  /-- MODEM_TX_GO (R435): MODEM.TXGO.GO releases a frame from its slot, or it is refused with TXREF or LENREF. -/
  | modemTxGo (p : Proc)
  /-- MODEM_TX_CANCEL (R441): MODEM.TXGO.CANCEL stops the frame at the next symbol boundary with RESULT 6. -/
  | modemTxCancel (p : Proc)
  /-- MODEM_FRAME_START (R428): A released frame or retry begins at its candidate zero-crossing instant once its
  permit and the access rule allow. -/
  | modemFrameStart
  /-- MODEM_FRAME_END (R435): The last symbol of a frame is sent, and an unacknowledged frame ends with RESULT 2. -/
  | modemFrameEnd
  /-- MODEM_CHANNEL_BUSY (R429): Band C energy above LBTTHR for 4 ms marks the channel busy. -/
  | modemChannelBusy
  /-- LBT_BACKOFF_END (R429): The random 85–115 ms idle back-off ends and a deferred band C start may proceed. -/
  | lbtBackoffEnd
  /-- MODEM_PREAMBLE_SYNC (R432): The receiver matches the preamble, declares sync and fixes symbol timing for the
  body. -/
  | modemPreambleSync
  /-- MODEM_RX_DECODE (R433): A received body is decoded, and it is delivered to the ring, dropped or counted as a
  CRC failure. -/
  | modemRxDecode (began : Nat) (symbols : Nat)
  /-- MODEM_ACK_SEND (R436): An ACK frame starts at the first candidate instant after decoding, if its NOWAIT permit
  is granted. -/
  | modemAckSend
  /-- MODEM_ACK_TIMEOUT (R437): No matching ACK arrives within ACKTO, so the frame is retried or ends with RESULT 3.
  -/
  | modemAckTimeout
  /-- GLASS_MODE_WRITE (R446): A write of GLASS.CTRL.MODE selects the panel type, or is refused with CFGREF while EN
  is set. -/
  | glassModeWrite (p : Proc) (v : Word)
  /-- LCDCFG_WRITE (R447): A write of GLASS.LCDCFG is accepted for the next frame boundary, or refused with CFGREF.
  -/
  | lcdcfgWrite (p : Proc) (v : Word)
  /-- NTC_REQUEST (R449): Every second the driver requests an NTC reading and updates the panel temperature and pump
  target. -/
  | ntcRequest (code : Option Int)
  /-- PUMP_FAULT (R450): VLCD has been out of band for 64 periods, so PUMPFLT sets, the outputs go to MGND and EN
  clears. -/
  | pumpFault
  /-- TABLE_DATA_ACCESS (R452): An access to GLASS.TDATA reads or writes a phase word, advances PHASE and clears
  TVALID on a write. -/
  | tableDataAccess (p : Proc) (write : Bool) (v : Word)
  /-- TABLE_CHECK (R452): GLASS.TCHK.GO checks a waveform table's balance and sets TVALID or TBLREF. -/
  | tableCheck (p : Proc) (v : Word)
  /-- REGION_MASK_WRITE (R454): A region mask write is stored, or refused with REQREF on overlap, flag or running
  region. -/
  | regionMaskWrite (p : Proc) (r : Fin 8) (high : Bool) (v : Word)
  /-- GLASS_UPDATE_REQUEST (R454): GLASS.RQGO.GO places a bistable update in the region's pending slot, superseding
  any earlier one. -/
  | glassUpdateRequest (p : Proc) (v : Word)
  /-- GLASS_UPDATE_START (R455): Once a cairn commit covers the started record, the update ramps the pump,
  compensates and runs its phases. -/
  | glassUpdateStart
  /-- GLASS_UPDATE_END (R455): A bistable update completes, BST takes the image, source 0x50 is raised and the ended
  record is staged. -/
  | glassUpdateEnd
  /-- OUTAGE_VIEW_END (R461): The 10 s outage view expires and GLASS powers down. -/
  | outageViewEnd
  /-- CRACK_READING (R462): Every PER seconds the crack loop is read and its baseline and flags are updated. -/
  | crackReading (code : Option Int)
  /-- CRACK_PULSE_CHECK (R463): The always-on comparator pulses the loop, and PFAIL is set or cleared. -/
  | crackPulseCheck (ok : Bool)
  /-- TAMPER_TICK (R466): At each tick the supervisor reads the detectors, combines them and judges events and
  alarms. -/
  | tamperTick (t : TickIn)
  /-- TAMPER_TEST (R471): A write of TAMP.TEST drives the stimuli of the masked sources at the next tick and posts
  TESTRES. -/
  | tamperTest (p : Proc) (v : Word)
  /-- TEST_PORT_LEAVE_RESET (R465): The test port leaves Test-Logic-Reset and probe detector 1 latches. -/
  | testPortLeaveReset
  /-- SESSION_IDLE_TIMEOUT (R485): IDLE minutes pass with no authenticated parcel and the session ends. -/
  | sessionIdleTimeout
  /-- NONCE_EXPIRY (R483): A challenge nonce expires 60 s after issue. -/
  | nonceExpiry
  /-- ACCESS_CLOSE (R485): Writing one to ACCESS.CLOSE.CLOSE ends the session. -/
  | accessClose
  /-- MEAS_DATA_READ (R491): A read of ACCESS.MDATA returns the selected word and advances WORD. -/
  | measDataRead (p : Proc)
  /-- QUOTE_SIGNED (R489): A quote over the copied measurement registers is signed and returned in a QUOTE parcel.
  -/
  | quoteSigned
  /-- PERMIT_QUEUED_GRANT (R498): At a grain boundary queued permits are granted in class and arrival order as the
  budget allows. -/
  | permitQueuedGrant
  /-- PERMIT_RELEASE (R499): A write of PERMIT.REL releases or withdraws the holder's permit, or sets RELREF. -/
  | permitRelease (p : Proc) (v : Word)
  /-- PERMIT_EXPIRY (R499): A permit's hold runs out at a grain boundary and its slot is freed. -/
  | permitExpiry (n : Fin 16)
  /-- HOST_ABSENCE_TIMEOUT (R501): No parcel is accepted for HOSTTO seconds, so lane sets stop and base camp runs
  from the next block boundary. -/
  | hostAbsenceTimeout
  /-- BIVOUAC_ENTRY_DECIDE (R503): The warning has persisted 512 grains with a usable cell, so the bivouac entry
  sequence runs. -/
  | bivouacEntryDecide
  /-- BULK_DROPOUT (R503): The bulk voltage falls below drop-out and bivouac entry is decided at once. -/
  | bulkDropout
  /-- BIVOUAC_WINDOW (R504): A SENTRY window powers up, converts entries, ticks the tamper supervisor and powers
  down. -/
  | bivouacWindow (codes : List Int) (t : TickIn) (pulseOk : Bool)
  /-- MAINS_RETURN (R505): Mains holds for 64 SLOW cycles in BIVOUAC and a bivouac exit restores state and starts
  base camp. -/
  | mainsReturn (saveGood aonGood : Bool)
  /-- MAINS_UP (R509): Mains comes up from OFF or with the always-on state kept, and a cold or warm start runs. -/
  | mainsUp (aonGood : Bool)
  /-- CELL_EXHAUSTED (R500): The cell can no longer hold the always-on state and the module goes OFF. -/
  | cellExhausted
  /-- RAIL_COLLAPSE (R500): The supply fails with no usable cell and the rails collapse into OFF. -/
  | railCollapse
  /-- BROWN_OUT (R509): The MAIN rail drops below its monitor level for 1 µs and a brown-out restart follows. -/
  | brownOut
  /-- WATCHDOG_SERVE (R510): A write of 0x5A to RST.WDSERVEc by its own core restarts the watchdog period. -/
  | watchdogServe (p : Proc) (c : Fin 2) (v : Word)
  /-- WATCHDOG_WARN (R510): WARN ms of the watchdog period remain and WDWARN arrives. -/
  | watchdogWarn (c : Fin 2)
  /-- WATCHDOG_EXPIRY (R510): A watchdog expires, fault 0x20 is recorded and a supervisor reset of kind 0x05
  follows. -/
  | watchdogExpiry (c : Fin 2)
  /-- RESET_REQUEST (R509): A write of 0xC3 to RST.CMD.KEY requests a reset of kind 0x07. -/
  | resetRequest (p : Proc) (v : Word)
  /-- ZEROIZE_RESET (R509): A zeroize in RUN or BASE CAMP is followed by a reset of kind 0x0A. -/
  | zeroizeReset
  /-- TEST_PORT_RESET (R509): The test port's module-reset instruction causes a reset of kind 0x0B. -/
  | testPortReset
  /-- HRESET (R55): HRESET_N held low for 1 µs resets the host die and the module without a pre-reset belay. -/
  | hreset
  /-- HOST_DIE_READY (R518): 1 ms after HVDD reaches its minimum the host die starts serving transactions. -/
  | hostDieReady
  /-- HVDD_LOSS (R537): HVDD falls below 1.6 V for 1 µs and the host die resets. -/
  | hvddLoss
  /-- SPI_STATUS (R516): The STATUS command returns the status word. -/
  | spiStatus
  /-- SPI_WRITE (R518): The WRITE command takes a parcel into an inbound slot, or discards it. -/
  | spiWrite (len : BitVec 24) (bytes : List Byte)
  /-- SPI_READ (R516): The READ command sends the next outbound parcel and removes it at CS_N rise. -/
  | spiRead (whole : Bool)
  /-- SPI_REPEAT (R516): The REPEAT command sends again the last parcel removed by READ. -/
  | spiRepeat
  /-- SPI_INVALID_COMMAND (R516): An unknown command byte ends the transaction and is counted in NDISC. -/
  | spiInvalidCommand
  /-- PARCEL_LOAD (R526): A LOAD parcel writes an image part to staging and runs the loader when the image
  completes. -/
  | parcelLoad
  /-- PARCEL_ACK (R362): An ACK parcel acknowledges journal records up to a sequence number. -/
  | parcelAck
  /-- ORDER_START (R558): The START order is checked and accepted for application at a grain boundary, or refused.
  -/
  | orderStart
  /-- ORDER_INSTALL (R239): The INSTALL order installs a staged image into a lane, the roped pair or a control core.
  -/
  | orderInstall
  /-- ORDER_REMOVE (R563): The REMOVE order removes a lane set, the roped set, a cue program or a service program.
  -/
  | orderRemove
  /-- ORDER_CUE (R525): The CUE order inserts a cue and returns its result code. -/
  | orderCue
  /-- ORDER_SET_UTC (R75): The SET UTC order names a UTC second and its grain, to be loaded at the next boundary. -/
  | orderSetUtc
  /-- ORDER_SELFCAL (R525): The SELFCAL order requests a permit with NOWAIT and writes GO. -/
  | orderSelfcal
  /-- ORDER_RESET (R525): The RESET order is answered and then proceeds as a reset of kind 0x08. -/
  | orderReset
  /-- ORDER_OPEN_SERVICE (R482): The OPEN SERVICE order opens SERVICE when the password matches the verifier, or
  counts a failure. -/
  | orderOpenService
  /-- ORDER_CHALLENGE (R483): The CHALLENGE order returns a fresh 32-byte nonce. -/
  | orderChallenge
  /-- ORDER_ANSWER (R483): The ANSWER order verifies a signature and opens OWNER or VENDOR, or counts a failure. -/
  | orderAnswer
  /-- ORDER_CLOSE (R485): The CLOSE order ends the session. -/
  | orderClose
  /-- ORDER_TARIFF (R275): The durable tariff order is committed to the queue and acknowledged. -/
  | orderTariff
  /-- ORDER_ADJUST (R280): The durable adjustment order is accepted at OWNER level and committed to the queue. -/
  | orderAdjust
  /-- ORDER_TAMPER_CLEAR (R473): The durable tamper clear order is accepted at OWNER or VENDOR level and committed.
  -/
  | orderTamperClear
  /-- ACCESS_SET_VERIFIER (R486): The access order of kind 1 sets the SERVICE verifier and increments KGEN. -/
  | accessSetVerifier
  /-- ACCESS_REMOVE_VERIFIER (R486): The access order of kind 2 removes the SERVICE verifier. -/
  | accessRemoveVerifier
  /-- ACCESS_PRODUCTION_LOCK (R481): The access order of kind 3 fuses the owner fingerprint and PLOCK. -/
  | accessProductionLock
  /-- ACCESS_SET_IDLE (R486): The access order of kind 4 sets ACCESS.CTRL.IDLE. -/
  | accessSetIdle
  /-- VIEW_INVENTORY (R527): READ view 0x0001 returns the SYS inventory registers. -/
  | viewInventory
  /-- VIEW_STATUS (R527): READ view 0x0002 returns the status registers. -/
  | viewStatus
  /-- VIEW_TOTALS (R527): READ view 0x0003 returns committed or live totals of a range of slots. -/
  | viewTotals
  /-- VIEW_INTERRUPTS (R410): READ view 0x0004 returns the host pending bits and clears them and their sources. -/
  | viewInterrupts
  /-- VIEW_QUANTITY_STORE (R527): READ view 0x0005 returns bytes of the quantity store. -/
  | viewQuantityStore
  /-- VIEW_UNIT (R527): READ view 0x0006 reads unit registers in index order, clearing RC fields. -/
  | viewUnit
  /-- VIEW_CAIRN (R527): READ view 0x0007 returns words of a cairn area. -/
  | viewCairn
  /-- VIEW_QUOTE (R489): READ view 0x0008 copies the measurement registers and requests a signed quote. -/
  | viewQuote
  /-- VIEW_START_REPORT (R529): READ view 0x0009 returns the start report. -/
  | viewStartReport
  /-- OUTBOUND_LEN_WRITE (R531): A write of HOST.OBLEN starts composing an outbound parcel. -/
  | outboundLenWrite (v : Word)
  /-- OUTBOUND_DATA_WRITE (R531): A write of HOST.OBDATA appends the next payload word. -/
  | outboundDataWrite (v : Word)
  /-- OUTBOUND_GO (R531): HOST.OBGO completes the header, queues the parcel and frees an answered slot, or is
  refused while OBFULL. -/
  | outboundGo (v : Word)
  /-- INBOUND_DATA_READ (R531): A read of HOST.IBDATA returns the selected inbound word and advances WORD. -/
  | inboundDataRead (p : Proc)
  /-- COUNTER_READ_CLEAR (R16): A read of an RC field returns it and sets it to its reset value. -/
  | counterReadClear (p : Proc) (unit reg : Fin 256)
  /-- REGISTER_WRITE (R191): A write to a register without its own row acts by its fields' access codes. -/
  | registerWrite (p : Proc) (unit reg : Fin 256) (v : Word)
  /-- SUPPLY_GLITCH (R465): An internal-rail step beyond ±10 % lasting 20 ns to 1 µs is caught and latched by the
  glitch comparator of the supply tamper source. -/
  | supplyGlitch
  /-- MODEM_CHANNEL_IDLE (R429): The band C energy on channel M falls back below LBTTHR, so the channel goes idle
  and a random 85–115 ms back-off is drawn. -/
  | modemChannelIdle
  /-- LCD_FRAME_BOUNDARY (R447): A multiplexed LCD frame ends in the GLASS clock, so pending LCDCFG and LIMG writes
  take effect, the slot phases alternate and the pump moves up to 10 mV toward its target. -/
  | lcdFrameBoundary
  /-- HVDD_UP (R518): HVDD reaches its minimum, so the host die begins its 1 ms start with HRDY low and MISO at high
  impedance, and HWATCH is held low. -/
  | hvddUp
  /-- TEST_LOGIC_RESET (R553): TRST_N is held low for at least 100 ns and resets the test logic back into Test-
  Logic-Reset. -/
  | testLogicReset
  /-- CAIRN_READ_READY (R370): 32 CORE cycles after a RADDR write or an RDATA read the addressed cairn word is
  fetched, and READY sets. -/
  | cairnReadReady
  deriving DecidableEq, Repr

end Sys2Proof
end

