-- ==== Sys2Proof/Decode.lean ====
section
/-! DEFINITION. The decoder of the table's words. Every row of spec/opcode_table.json has an empty list of fields: no row
gives bits, so no word spells a command. The words of the processors' instructions (R185–R187) are the business of
Machine/QDecode.lean, which the loader uses. -/

namespace Sys2Proof

/-- The command an nbits-wide word of the table spells: none, since the table gives no row any bits. -/
def decodeTableWord (_nbits _w : Nat) : Option Instr := none

end Sys2Proof
end

