-- ==== Sys2Proof/Machine/State.lean ====
section
/-! DEFINITION. The state of the module as plain data: the field file (every register field), the state behind the
registers, the memory, and the queue of commands. -/

namespace Sys2Proof.Machine

/-! ## Register fields -/

/-- Survival classes (R17). -/
inductive Surv where
  | s0 | s1 | s2 | s3 | s4
  deriving DecidableEq, Repr

/-- Access codes (R16). -/
inductive Access where
  | rw | ro | wo | w1c | rc
  deriving DecidableEq, Repr

/-- A register field (R15): its unit, register index, lowest bit and width; the bank tells apart the copies of a
window register (the selection) and of a private register (the processor, R562). -/
structure Fld where
  unit : Nat
  idx : Nat
  lo : Nat
  w : Nat
  bank : Nat
  reset : Nat
  surv : Surv
  acc : Access
  deriving DecidableEq, Repr

/-- The order of the field file: unit, index, bank, bit, and then whatever else tells two fields apart. -/
def Fld.code (f : Fld) : List Nat :=
  [f.unit, f.idx, f.bank, f.lo, f.w, f.reset,
   match f.surv with | .s0 => 0 | .s1 => 1 | .s2 => 2 | .s3 => 3 | .s4 => 4,
   match f.acc with | .rw => 0 | .ro => 1 | .wo => 2 | .w1c => 3 | .rc => 4]

/-- A field of a register table, with the values that are stored in place of others: (from, to, stored). -/
structure Cell where
  fld : Fld
  sub : List (Nat × Nat × Nat)
  deriving DecidableEq, Repr

/-- A row of a register table: first index, number of copies, distance between copies, fields. -/
structure Reg where
  base : Nat
  count : Nat
  stride : Nat
  cells : List Cell
  deriving DecidableEq, Repr

/-! ## The part and the clocks -/

/-- What the fuses fix (R2, R3, R40), and whether the 32.768 kHz crystal is fitted (R65). -/
structure Part where
  big : Bool          -- MS2400, else MS1200
  optL : Bool
  optG : Bool
  serialLo : Nat
  serialHi : Nat
  stepping : Nat
  romver : Nat
  slowXtal : Bool
  deriving DecidableEq, Repr

/-- A tie record: RTC, grain and phase of one instant (R72). -/
structure Tie where
  rtc : Nat
  grain : Nat
  phase : Nat
  deriving DecidableEq, Repr

/-- The clocks. `now` counts CORE cycles since reset, `glen` is the length of the running grain (6400, or one more or
less while the chain steers, R70), `lostAt` the grain in which the reference was last lost (R26). -/
structure Clock where
  now : Nat
  grain : Nat
  phase : Nat
  glen : Nat
  rtc : Nat
  slowPh : Nat
  pllLock : Bool
  xtalOk : Bool
  slowOk : Bool
  tie : Option Tie
  lostAt : Nat
  deriving DecidableEq, Repr

/-! ## Processors -/

/-- One entry of a loop stack: first and last instruction of the body, iterations still owed (R216). -/
structure Loop where
  first : Word
  last : Word
  n : Nat
  deriving DecidableEq, Repr

/-- A register bank (R171). -/
structure Bank where
  s : Vector Word 32
  v : Vector Vec 16
  acc : Vector Acc 8
  fl : Word
  deriving DecidableEq, Repr

/-- What a program runs in: registers, pc and loop stack (R174, R216). -/
structure Context where
  bank : Bank
  pc : Word
  loops : List Loop
  deriving DecidableEq, Repr

/-- The two runs of a lane (R174, R230). -/
inductive RunKind where
  | grain | pitch
  deriving DecidableEq, Repr

/-- How a unit instruction writes (R191). -/
inductive WriteOp where
  | write | set | clear
  deriving DecidableEq, Repr

/-- A queued unit write of the roped pair (R195). -/
structure QWrite where
  unit : Nat
  idx : Nat
  op : WriteOp
  value : Word
  deriving DecidableEq, Repr

/-- An increment handed to a slot by JACC (R221): raw 64.32 value and the marks of `fl` at issue. -/
structure Inc where
  slot : Nat
  value : Int
  mrk : Bool
  inv : Bool
  deriving DecidableEq, Repr

/-- An ended run or slice of a member of the pair, as the comparison sees it (R248). -/
structure RunRec where
  kind : RunKind
  sig : List SigItem
  pc : Word
  fault : Option Nat
  deriving DecidableEq, Repr

/-- A frame lane (R171, R174, R195, R244). The run's own queue, cues, increments, signature and store log come first
to `wq`, `cueq`, `incs`, `sig`; a completed run or slice moves them to the grain's outputs. `inbox` holds results
served once for the pair that this member has yet to receive (R195, R222). -/
structure Lane where
  g : Context
  p : Context
  snapG : Context
  snapP : Context
  cur : Option RunKind
  sliceLeft : Nat
  pitchDue : Bool
  pitchOn : Bool
  wq : List QWrite
  cueq : List Vec
  incs : List Inc
  pitchIncs : List Inc
  sig : List SigItem
  outQ : List QWrite
  outCues : List Vec
  outIncs : List (List Inc)
  runs : List RunRec
  log : List (Nat × Word)
  inbox : List Word
  prot : List (Nat × Nat)
  imgG : Option (List Byte)
  imgP : Option (List Byte)
  startAt : Nat
  ranAt : Nat
  deriving DecidableEq, Repr

/-- What a control core is running at its base level (R253). -/
inductive CoreRun where
  | service
  | cueProg (n : Nat)
  | idle
  deriving DecidableEq, Repr

/-- A presentation: source and the cycle of the presentation (R410). -/
structure Present where
  src : Nat
  cycle : Nat
  deriving DecidableEq, Repr

/-- A saved service program, held by WAIT or not (R253). -/
structure SavedRun where
  bank : Bank
  shadow : Vector Word 16
  pc : Word
  loops : List Loop
  waiting : Bool
  deriving DecidableEq, Repr

/-- A control core (R171, R196, R216, R253, R410). Its control-status registers stand in the field file (unit 0x100 +
c). -/
structure CoreSt where
  bank : Bank
  shadow : Vector Word 16
  pc : Word
  loopsBase : List Loop
  loopsMid : List Loop
  loopsFast : List Loop
  halted : Bool
  waiting : Bool
  run : CoreRun
  saved : Option SavedRun
  newSvc : Option Word
  launch : List Nat
  normal : Option Present
  fast : Option Present
  deriving DecidableEq, Repr

/-- Whether the mains side runs (R39, R500): RUN and BASE CAMP are told apart by PWR.STATE.STATE. -/
inductive PowerState where
  | on | bivouac | off
  deriving DecidableEq, Repr

/-- A running or completed pitch (R79, R80): its start in units of 2^-32 grain, its length 10.22, whether held, its index
in the block, the boundary at which it completes, the channels resampled for it (R164). -/
structure Pitch where
  start : Nat
  plen : Nat
  held : Bool
  pos : Nat
  done : Nat
  en : Nat
  deriving DecidableEq, Repr

/-- The pitch tracker behind TIME.TRK (R79–R83). Crossing times count 2^-32 grain. `prevX`, `prevPer` are the last
crossing of the run and its implied period, `lastQ` the last qualifying crossing in TRACK, `lastMet` the last that met
the amplitude and frequency tests, `met` how many did since ACQUIRE began at `acq`; `lastStart` is the start of the
last pitch begun, `running` the pitches not yet complete, `nextHeld` the next free-running start; `n60` and `pos` are
the block length in force and the index of the next pitch; `blockDue` waits for BLOCK_BOUNDARY; `ivPos` counts the
interval's blocks, `ivEnd` notes a 10-minute boundary passed, `tenIdx` the running 10-minute index, `ivDone` a completed
interval (partial or not), `last` the pitch completed last, `lastWhole` the start of the last whole one. -/
structure Tracker where
  acq : Nat
  prevX : Option Nat
  prevPer : Option Nat
  lastQ : Nat
  lastMet : Option Nat
  met : Nat
  lastStart : Option Nat
  lastPer : Nat
  running : List Pitch
  nextHeld : Nat
  n60 : Bool
  pos : Nat
  blockDue : Bool
  ivPos : Nat
  ivEnd : Bool
  tenIdx : Nat
  ivDone : Option Bool
  last : Option Pitch
  lastWhole : Nat
  deriving DecidableEq, Repr

/-- PPS behind its registers (R76, R77), in CORE cycles of the grain count: the last accepted edge, consecutive accepted
and missed edges, the last 16 intervals newest first, whether PPSSEC has been written for the next first edge, and the
edge from which UTCRATE scales, which a loss of lock leaves standing for the hold-over. -/
structure Pps where
  last : Option Nat
  run : Nat
  missed : Nat
  intervals : List Nat
  armed : Bool
  ref : Option Nat
  deriving DecidableEq, Repr

/-- A pending cue (R84) and the holder code of its inserter (R91). -/
structure Cue where
  due : Nat
  unit : Nat
  reg : Nat
  action : Nat
  tag : Nat
  arg : Nat
  owner : Nat
  deriving DecidableEq, Repr

/-- The chain link behind its registers (R95–R106); `sent` is the grain of the last frame sent, `joined`
who reported locked in its last reply. -/
structure Chain where
  chvdd : Bool
  good : Nat
  lastFrame : Nat
  sync : Option Nat
  delay : Nat
  outliers : Nat
  stepPend : Option (Int × Nat)
  listenUntil : Option Nat
  silentUntil : Option Nat
  handover : Option (Nat × Nat)
  switchAt : Option Nat
  frameStart : Nat
  miss : List Nat
  replied : List Bool
  joined : List Bool
  results : List (Nat × Nat)
  lastRanged : Nat
  badReadback : Nat
  tx : List Byte
  lost : Bool
  sent : Option Nat
  deriving DecidableEq, Repr

/-! ## The sense front end -/

/-- A comparison over the running pitch (R116, R384), in codes: its values, the sum of the differences and of their
squares, the estimator's sums. -/
structure Cmp where
  n : Nat
  se : Int
  see : Int
  sums : Sums
  deriving DecidableEq, Repr

/-- A running open-wire test (R137): slots, pitches left in the phase, phase (0 baseline, 1 the discarded pitch, 2
measured), test currents on, baseline and measured sums by slot with the words they hold, overloads by slot, NPITCH. -/
structure OwTest where
  mask : Nat
  phase : Nat
  left : Nat
  n : Nat
  live : Bool
  base : List Int
  baseN : Nat
  meas : List Int
  measN : Nat
  ovl : Nat
  deriving DecidableEq, Repr

/-- What a retire decision names (R119, R122, R252). -/
inductive RetireWhat where
  | core (q k j : Nat)
  | spare (q : Nat)
  | lane (n : Nat)
  deriving DecidableEq, Repr

/-- A decision taken by the first of two paths (R470): a retire, an alarm of a source with its responses, an unlock to a
level, a zeroize. -/
inductive Decision where
  | retire (what : RetireWhat)
  | alarm (src mask : Nat) (cellOnly : Bool)
  | unlock (level : Nat)
  | zeroize (src : Nat)
  deriving DecidableEq, Repr

/-- A pending second decision: due at a CORE cycle, 1 to 255 after the first. -/
structure Pending2 where
  what : Decision
  due : Nat
  deriving DecidableEq, Repr

/-- A quad behind its registers (R117–R137): the traverse position and the dwell left there, the grain the spare
connected and whether it has settled; the slot a summons holds, the pitches of its vote so far and whether each
comparison has passed in it; the slots that wait for the spare; failing pitches by slot since the last vote; failing
pitches of the traversing spare; the slot in Stride (where STRIDEON is set), Stride's two counts of failing comparisons
and latest results, its latest gain of each core against the spare (0.01 ppm), and an end asked for (2 summons, 3
retirement); by slot, the grain up to which its stream carries the first core alone after Stride began or ended; the
open-wire test and one asked for; the applied interleave corrections (gain LSBs, the position of the delay trim); the
estimator's pitches, values and sums, twin by slot, then of the spare's slot; the spare's words of the dwell, their sum
and number; the latest REF and ZERO results. -/
structure Quad where
  pos : Nat
  dwell : Nat
  connected : Nat
  settled : Bool
  summons : Option Nat
  voting : Bool
  votePitches : Nat
  aPass : Bool
  bPass : Bool
  waiting : List Nat
  sinceVote : List Nat
  spareFails : Nat
  sFails : List Nat
  sPass : List Bool
  sGain : List (Option Int)
  strideK : Nat
  strideEnd : Nat
  alone : List Nat
  ow : Option OwTest
  owGo : Bool
  ilvG : Int
  ilvS : Nat
  estN : List Nat
  estTwin : List Cmp
  spN : Nat
  spA : Cmp
  spB : Cmp
  dwSum : Int
  dwN : Nat
  dev : Int
  os : Int
  deriving DecidableEq, Repr

/-- SELFCAL behind TRIM.SCSTAT (R375–R379): its first grain, the permit, the quads whose phase is abandoned; the sums of
each core's words with its input shorted and at the bandgap. -/
structure SelfCal where
  start : Nat
  permit : Nat
  abandoned : Nat
  shorted : List Int
  bandgap : List Int
  deriving DecidableEq, Repr

/-- The shared-node comparison of a phase (R386): the pitches of the window, the baseline in 0.01 ppm,
whether the next window becomes it, whether the deviation is over the limit. -/
structure ShNode where
  n : Nat
  base : Option Int
  fresh : Bool
  above : Bool
  deriving DecidableEq, Repr

/-- The bitstream monitor behind BITIN (R142, R143): the grain of the last bad clock, whether its frequency is in range;
grains over the limit by channel, and the grains up to which a stuck channel's samples are invalid. -/
structure BitMon where
  goodSince : Nat
  inRange : Bool
  above : List Nat
  stuckEnd : List Nat
  deriving DecidableEq, Repr

/-- A sample (R190, R220): Q1.31 value, its marks (bit 0 settling, 1 held, 2 verifying, 3 unverified, 4 bank swap,
5 open-wire test, 6 degraded; R179), invalid. -/
structure Smp where
  val : Word
  marks : Nat
  inv : Bool
  deriving DecidableEq, Repr

/-- A pitch whose points are being evaluated (R164): the points so far, newest first, each with the PGA gain codes in
force for it (R555) and the channels on bank B at its fill (R168); the channels in which a point saturated. -/
structure Build where
  pitch : Pitch
  next : Nat
  points : List (List Smp × List Nat × Nat)
  sat : Nat
  deriving DecidableEq, Repr

/-- A CIC decimator (R147, R148): the last 256 bits of its alignment delay, the newest bit 255; its integrator and comb
registers; the bits since its last word. -/
structure Cic where
  line : BitVec 256
  integ : List Nat
  comb : List Nat
  count : Nat
  deriving DecidableEq, Repr

/-- The stages from 256 kS/s to 32 kS/s (R146): the words HB1, HB2, DRP and HB3 hold, newest first. -/
structure Dec where
  hb1 : List Word
  hb2 : List Word
  drp : List Word
  hb3 : List Word
  deriving DecidableEq, Repr

/-- The skew estimate of a quad over the running pitch (R133): the last difference and the last two spare words, the sums
Σ d·x′ and Σ x′². -/
structure Skew where
  d : Int
  s1 : Int
  s2 : Int
  num : Int
  den : Int
  deriving DecidableEq, Repr

/-- The converters' side of the chain (R113, R116, R130, R146–R152): the CIC decimators of cores 0–37 and of BD1–BD8; the
merged ones of QUAD0–3 in Stride and of channel M, with HB0's words by quad; the words before BITIN's rate converter; the
running grain's overload trips (core, MOD period) and the running pitch's (a mask of cores); the later stages of ch 0–23,
of each slot's difference and of its first converter, of each spare's two differences and of the spare; the comparisons
of the running pitch by slot and by spare; the sum of each slot's channel words and their number; the skew estimates;
channel M's words. -/
structure Front where
  cics : List Cic
  merged : List Cic
  hb0 : List (List Word)
  conv : List (List Word)
  trips : List (Nat × Nat)
  tripped : Nat
  chan : List Dec
  twin : List Dec
  first : List Dec
  diff0 : List Dec
  diff1 : List Dec
  spare : List Dec
  cmp : List Cmp
  cmp0 : List Cmp
  cmp1 : List Cmp
  sums : List Int
  n : Nat
  skew : List Skew
  m : List Word
  deriving DecidableEq, Repr

/-- The streams (R21, R22, R190): this and the previous grain's samples of ch 0–23, their 512 kS/s words by channel
(empty where it is not in Stride), the points of the latest whole pitch by channel with that pitch (R164), and after
them those of ch 0–6 without the host's calibration (R283); the last 48 grains of samples, likewise, and of PGA gains,
newest first; the integrators' state and last input by channel (R159); the grains up to which a channel is marked
settling and bank swap; a swap ordered for the next fill; the pitches being evaluated; the converters' side. -/
structure Streams where
  now : List Smp
  prev : List Smp
  strNow : List (List Smp)
  strPrev : List (List Smp)
  pitch : List (List Smp)
  whole : Option Pitch
  wholeGains : List (List Nat)
  hist : List (List Smp)
  gains : List (List Nat)
  integ : List (BitVec 64 × Word)
  settle : List Nat
  swapEnd : List Nat
  swap : Option (Nat × Nat)
  builds : List Build
  front : Front
  deriving DecidableEq, Repr

/-! ## Programs and the roped pair -/

/-- An INSTALL or REMOVE of a lane set, executed and waiting for the boundary (R239, R563): target lane or 0x0F, the grain
and pitch images (none for a REMOVE), FORCE. -/
structure LaneOrder where
  target : Nat
  images : Option (Option (List Byte) × Option (List Byte))
  force : Bool
  deriving DecidableEq, Repr

/-- What the standby applies to its mirror in the next grain (R247): its lane, the selected store log, and contexts G and P
with their snapshots, but in a copy of R251 only in its last grain. -/
structure MirrorUp where
  lane : Nat
  log : List (Nat × Word)
  ctx : Option (Vector Context 4)
  deriving DecidableEq, Repr

/-- The roped pair behind LEASE.ROPE (R240, R247–R252): the grain at which SOLO ends, at which the standby takes the new
image, and from which it copies the mirror; the standby recomputes in this grain; the last lost vote of each lane; the
mirror's update and the roles (first, second, standby) of the next grain. -/
structure Rope where
  soloEnd : Option Nat
  takeAt : Option Nat
  copyAt : Option Nat
  recomputing : Bool
  voted : Bool
  lostAt : List (Option Nat)
  mirror : Option MirrorUp
  roles : Option (Nat × Nat × Nat)
  deriving DecidableEq, Repr

/-- A lease behind LEASE.HOLD (R256–R258): the CORE cycle it expires, the cycle its rollback began, who lost it by
revocation and may still be told so (holder codes). -/
structure LeaseSt where
  expires : Nat
  rollAt : Nat
  lost : List Nat
  deriving DecidableEq, Repr


/-! ## Energy, pulses and the journal -/

/-- An accumulator slot behind NRG.BIND and its window (R265): total and T0–T7 in 2^-64 µ-units, the grain its binding
took effect, the grain of its last booking since the restart, a binding write
that waits for the boundary, an adjustment or conversion in the interval (R353), results of the owner withheld by a fault
in the block (R201). -/
structure Slot where
  tot : BitVec 128
  subs : Vector (BitVec 128) 8
  bindAt : Nat
  last : Option Nat
  newBind : Bool
  adj : Bool
  faulted : Bool
  deriving DecidableEq, Repr

/-- What always-on memory holds of a pulse output (R290): A, the backlog, the count, the source and constant A belongs
to. -/
structure PulseHeld where
  acc : Nat
  blog : Nat
  cnt : Nat
  src : Nat
  const : Nat
  deriving DecidableEq, Repr

/-- A pulse output behind its registers (R285–R290): A in 2^-64 of its unit, the requests made in the running grain, the
start of the last pulse, the grains at which the pulse ends and the output is free, the source and constant A belongs
to, and whether the host has written them since the restart; the pulse is high; what the belay being written and the last
one committed in always-on SRAM hold. -/
structure PulseOut where
  acc : Nat
  reqNow : Nat
  start : Option Nat
  highEnd : Nat
  freeAt : Nat
  src : Nat
  const : Nat
  srcOk : Bool
  constOk : Bool
  high : Bool
  pend : PulseHeld
  held : PulseHeld
  deriving DecidableEq, Repr

/-- The export watch behind its registers (R292, R293): the boundary from which grains without a write are counted,
tripped, stale (until the next write), and the HWATCH level. -/
structure Watch where
  since : Nat
  tripped : Bool
  stale : Bool
  hwatch : Bool
  deriving DecidableEq, Repr

/-- A journal record to be or already appended, without its sequence number (R351): the bytes from 20 to LEN − 5; staged by
a program through the journal writer (R365). -/
structure JRec where
  type : Nat
  flags : Nat
  epoch : Nat
  grain : Nat
  body : List Byte
  byProg : Bool
  deriving DecidableEq, Repr

/-- A record in the ring (R360): its byte offset, sequence number and content. -/
structure RingRec where
  off : Nat
  seq : Nat
  what : JRec
  deriving DecidableEq, Repr

/-- A slot as a belay holds it (R343). -/
structure SlotImg where
  qty : Nat
  mode : Nat
  qd : Nat
  flags : Nat
  tot : BitVec 128
  subs : List (BitVec 128)
  deriving DecidableEq, Repr

/-- The evidence block of a belay (R474). -/
structure Evidence where
  alarm : Nat
  detflt : Nat
  fi : Bool
  locked : Bool
  kgen : Nat
  fails : Nat
  dropped : Nat
  backoff : Nat
  resp : List Nat
  deriving DecidableEq, Repr

/-- A belay image: the content of a state record or an always-on half (R343). -/
structure Belay where
  gen : Nat
  epoch : Nat
  kind : Nat
  t : Nat
  snap : Nat
  rtc : Nat
  nextseq : Nat
  head : Nat
  tail : Nat
  ackseq : Nat
  lastord : Nat
  retgen : Nat
  ev : Evidence
  slots : List SlotImg
  deriving DecidableEq, Repr

/-- The kinds of belay of R335. -/
inductive BelayKind where
  | pitch | block | final | closing | prereset | evidence
  deriving DecidableEq, Repr

/-- An entry of a belay or coalesced record (R353): slot, sub-register, flags, increment in 2^-32 µ-units. -/
structure IncEntry where
  slot : Nat
  sub : Nat
  flags : Nat
  inc : Int
  deriving DecidableEq, Repr

/-- The carry (R359, R364). Counts are of belay, event, order, wrap, retire, tamper and gap records. -/
structure Carry where
  gen : Nat
  valid : Bool
  empty : Bool
  first : Nat
  last : Nat
  fromG : Nat
  grain : Nat
  epoch : Nat
  flags : Nat
  entries : List IncEntry
  counts : List Nat
  tail : Nat
  deriving DecidableEq, Repr

/-- An entry of the durable-order queue (R367), with the access level and KGEN at acceptance, which its application needs
(R473, R486) and R367 gives no bytes (log entry 15). -/
structure QEntry where
  ordno : Nat
  pseq : Nat
  ocode : Nat
  level : Nat
  kgen : Nat
  body : List Byte
  deriving DecidableEq, Repr

/-- A slot of the trim record: generation, validity and its nonzero words by index (R342, R388). -/
structure TrimSlot where
  gen : Nat
  valid : Bool
  words : List (Nat × Word)
  deriving DecidableEq, Repr

/-- The cairn write port (R344): open on the alternate slot, busy copying, or busy with a word up to a cycle. -/
structure CairnPort where
  opened : Bool
  copying : Bool
  work : List (Nat × Word)
  until' : Nat
  deriving DecidableEq, Repr

/-- The cairn: what survives everything (R341, R342). Each two-slot area holds two copies with a validity; a write of the
state record, of the carry or of an order entry was torn and its place is not written again yet. -/
structure Cairn where
  stA : Option Belay
  stB : Option Belay
  cyA : Option Carry
  cyB : Option Carry
  trA : TrimSlot
  trB : TrimSlot
  orders : List QEntry
  tornSt : Bool
  tornCy : Bool
  tornOrd : Bool
  ring : List RingRec
  deriving DecidableEq, Repr

/-- The journal behind its registers: staged records; next number, head, tail, acknowledged; the carry; the belay made
last, the one being written to always-on SRAM and the one waiting for its cairn commit; the grains and kinds of the
next snapshot; whether the records that the waiting belay is to cover are appended (R338); the segment to fold. -/
structure Jrnl where
  staged : List JRec
  nextseq : Nat
  cseq : Nat
  ackseq : Nat
  head : Nat
  tail : Nat
  epoch : Nat
  gen : Nat
  lastord : Nat
  nextord : Nat
  retgen : Nat
  prev : List SlotImg
  prevSnap : Nat
  due : List BelayKind
  lastPitchSnap : Nat
  aonPend : Option Belay
  cairnPend : Option Belay
  committed : Option Belay
  carry : Carry
  carryPend : Option Carry
  fold : Bool
  covered : Bool
  stg : List Word
  deriving DecidableEq, Repr

/-! ## Power quality and capture -/

/-- A PQ event being formed (R315–R320, R324): number, kind, port, phases (and byte 10's other bits), start at the pads in
2^-32 grain, half-cycle windows so far, extreme and its channel, the entry's flags, Udin in force, UTC second at start. -/
structure PqEvent where
  evno : Nat
  kind : Nat
  port : Nat
  phases : Nat
  start : Nat
  windows : Nat
  ext : Nat
  extCh : Nat
  flags : Nat
  udin : Nat
  utc : Nat
  deriving DecidableEq, Repr

/-- The machines of a port (R309, R310, R315, R316, R319): dip, swell, interruption; the sequence class seen and for how
many blocks; the neutral indicators with their blocks at or above and below the threshold; the transient, its points
below the threshold, and by phase and index the previous pitch's point, whether it was part of a transient, and the last
that was not. -/
structure PqPort where
  dip : Option PqEvent
  swell : Option PqEvent
  int : Option PqEvent
  seqNew : Nat
  seqN : Nat
  dispOn : Bool
  dispUp : Nat
  dispDown : Nat
  mismOn : Bool
  mismUp : Nat
  mismDown : Nat
  trans : Option PqEvent
  quiet : Nat
  ref : List (List (Option (Word × Bool × Word)))
  deriving DecidableEq, Repr

/-- What a completed block leaves for its posting (R82, R83): completion grain, the 150/180-cycle interval it ends
(partial), its 10-minute index, unsynchronised, completed in TRACK. -/
structure BlockInfo where
  grain : Nat
  ivDone : Option Bool
  ten : Nat
  unsync : Bool
  track : Bool
  deriving DecidableEq, Repr

/-- An aggregate in formation (R312): blocks, flags, start of the first pitch, completion grain of the last, UTC second,
served channels, channels of the supraharmonic bands, pitches and their total length in 2^-32 grain; for each value the
count and the sum of squares. -/
structure PqAgg where
  blocks : Nat
  flags : Nat
  start : Nat
  grain : Nat
  utc : Nat
  served : Nat
  bands : Nat
  pitches : Nat
  length : Nat
  sums : List (Nat × Nat)
  deriving DecidableEq, Repr

/-- A quad's supraharmonic results (R307): its channel, whether settling, 740 bands. -/
structure Supra where
  chan : Nat
  settling : Bool
  bands : List Nat
  deriving DecidableEq, Repr

/-- The PQ engine behind its registers: the machines of ports A and B; the points of the running pitch handled so far
and the second half of the pitch before; the marks of each channel's latest window (bit 7 invalid); the starts of
completed pitches that end a block and are not yet whole; the pitches of the running block with their points by
channel, and blocks whole and not yet posted, with flagged windows and the grain each became whole in; block infos;
the aggregates in formation with the 10-minute and 2-hour indexes; the pitches of the 10-s window (start, end, held),
its end and whether it began unsynchronised; the strided words of the running and of the ended window (its end) by
quad with the settling mark, and results not yet posted with their window's end; the supply interruption; events open
at a reset; events of base camp or RUN run on alike. -/
structure Pq where
  ports : Vector PqPort 2
  pos : Nat
  half : List (List Smp)
  halfStart : Nat
  win : List Nat
  ends : List Nat
  pts : List (Pitch × List (List Smp))
  flagged : Bool
  ready : List (List (Pitch × List (List Smp)) × Bool × Nat)
  infos : List BlockInfo
  iv : Option PqAgg
  ten : Option PqAgg
  tenIx : Nat
  two : Option PqAgg
  twoIx : Nat
  f10 : List (Nat × Nat × Bool)
  f10End : Nat
  f10Unsync : Bool
  words : List (List Word)
  settling : Nat
  ended : Option (List (List Word) × Nat × Nat)
  supra : List (Nat × List (Option Supra))
  supply : Option PqEvent
  atReset : List PqEvent
  deriving DecidableEq, Repr

/-- The capture behind its registers (R327, R328, R330): PRE and POST as armed, the first grain filled, the grain of each
channel's last mark, the holder and permit of a draw. -/
structure Capt where
  pre : Nat
  post : Nat
  first : Nat
  marks : List Nat
  who : Nat
  permit : Nat
  deriving DecidableEq, Repr

/-! ## The auxiliary converter -/

/-- An urgent request (R397): source (1 supply monitor, 2 tamper, 3 glass), channel, and the CORE cycle its conversion
ends once it runs. -/
structure Urgent where
  src : Nat
  ch : Nat
  stop : Option Nat
  deriving DecidableEq, Repr

/-- The converter behind its registers (R392–R400): the running conversion's end (none while it waits); the result in
formation: channel, 2^AVG, sum and conversions so far; STOP asked for; the
layout and CONT as the last conversion began; the result's marks as written and whether it is
unread; the calibration step and its end; the cycles at which the internal and the chosen reference are ready; the boot
calibration still owed; the urgent request; the last code each requester received. -/
structure AuxSt where
  stop : Option Nat
  ch : Nat
  avg : Nat
  sum : Int
  n : Nat
  uncal : Bool
  discard : Bool
  align : Bool
  cont : Bool
  new : Bool
  info : Nat
  calStep : Nat
  calEnd : Nat
  intAt : Nat
  refAt : Nat
  bootCal : Bool
  urgent : Option Urgent
  got : List (Option Int)
  deriving DecidableEq, Repr

/-- An external line (R416, R417): raw and filtered level, the SLOW cycle of the last raw change, an edge latched and
not yet confirmed. -/
structure ExtLine where
  raw : Bool
  filt : Bool
  since : Nat
  unconfirmed : Bool
  deriving DecidableEq, Repr

/-- The interrupt controller behind its registers (R405, R410, R414): the cycle each group's hold-off ends, the grain at
which each core's timer next arrives, the presentations to the host, the external lines. -/
structure Irq where
  holdEnd : Vector Nat 8
  timerDue : Vector (Option Nat) 2
  host : List Present
  lines : Vector ExtLine 3
  deriving DecidableEq, Repr

/-! ## The line modem -/

/-- A frame the modem sends (R423, R435–R440): TX slot, DST, payload length, SEQ, acknowledgement asked for, an ACK
frame; band, ATT, class and retries as released; attempts begun; the grain of release of the running attempt, its first
symbol (CORE cycles of the grain count) and the grain its last symbol ends once chosen; its body once begun; the permit
in hand or queued; the grain of the ACK deadline. -/
structure TxFrame where
  slot : Nat
  dst : Nat
  len : Nat
  seq : Nat
  wantAck : Bool
  isAck : Bool
  band : Nat
  att : Nat
  cls : Nat
  retries : Nat
  tries : Nat
  release : Nat
  begins : Option Nat
  stops : Nat
  body : List Byte
  permit : Option Nat
  deadline : Option Nat
  deriving DecidableEq, Repr

/-- The energies of a received symbol (R430): its four tones, and bins 56–92 but for them. -/
structure SymEnergy where
  t0 : Nat
  t1 : Nat
  t2 : Nat
  t3 : Nat
  rest : Nat
  deriving DecidableEq, Repr

/-- The modem behind its registers: the frame in progress, an ACK to send; next SEQ; the band C channel busy, the grain
it has to stay idle to, the random idle time; the end of the module's last transmission; a body in reception: the grain
its preamble ended, words of that grain before it, channel M's words of the running symbol, the symbols so far; the last
SEQ of each source, least recent first; the ring holds 64 unread entries; the RESULT of a frame that stops at the next
symbol boundary (R429–R441). -/
structure ModemSt where
  tx : Option TxFrame
  ack : Option TxFrame
  seq : Nat
  busy : Bool
  idleTo : Option Nat
  lastEnd : Option Nat
  rxAt : Option Nat
  rxSkip : Nat
  rxWords : List Word
  rxSyms : List SymEnergy
  heard : List (Nat × Nat)
  full : Bool
  stopping : Option Nat
  deriving DecidableEq, Repr


/-! ## The glass driver -/

/-- A bistable request (R454): image of 52 segments, table, permit. -/
structure GlassReq where
  image : Nat
  table : Nat
  permit : Nat
  deriving DecidableEq, Repr

/-- A bistable update (R455–R459): region (8 the tamper flag) with its segments, the request, its started record, the
class of each segment; once it drives, the RTC at which it began, GDIV, and the balance of each segment then; where it
stops early, the SLOW cycles after its beginning and LASTRES. -/
structure GlassUpd where
  region : Nat
  mask : Nat
  req : GlassReq
  started : JRec
  classes : List Nat
  began : Option Nat
  gdiv : Nat
  bal0 : List Int
  stopAt : Option (Nat × Nat)
  deriving DecidableEq, Repr

/-- GLASS behind its registers: requests by region, the update, a flag update owed, and its permit
refused since the last block boundary; balance by segment; the grain of the
last temperature request and its consecutive drops; the pump voltage in mV, LCD frames; the crack loop's first readings,
the RTC of its last reading and pulse, consecutive drops and failed pulses; the RTC at which the outage view ends. -/
structure GlassSt where
  pend : List (Nat × GlassReq)
  upd : Option GlassUpd
  flagOwed : Bool
  flagAsked : Bool
  bal : List Int
  ntcAt : Nat
  ntcDrops : Nat
  pump : Nat
  frames : Nat
  learn : List Nat
  crkAt : Nat
  crkDrops : Nat
  pulseAt : Nat
  pulseFails : Nat
  viewEnd : Option Nat
  deriving DecidableEq, Repr


/-! ## Tamper supervisor and access -/

/-- A tamper source between ticks (R465–R469): the RTC of its events, the combined value of the last tick, a clear applied
since; ticks of disagreement; consecutive dropped readings, the last values and the last codes of its two aux detectors;
its latches. -/
structure TampSrc where
  hist : List Nat
  comb : Bool
  cleared : Bool
  apart : Nat
  drop1 : Nat
  drop2 : Nat
  val1 : Bool
  val2 : Bool
  code1 : Nat
  code2 : Nat
  latch1 : Bool
  latch2 : Bool
  deriving DecidableEq, Repr

/-- An entry of the cell-only ring (R478): source, kind, responses, detectors, RTC, codes. -/
structure RingEntry where
  src : Nat
  kind : Nat
  resp : Nat
  dets : Nat
  rtc : Nat
  code1 : Nat
  code2 : Nat
  deriving DecidableEq, Repr

/-- The supervisor behind TAMP: sources, the ring, the RTC of the last tick, the sources to test at the next one, a
zeroize performed that a reset follows. -/
structure Tamp where
  src : Vector TampSrc 8
  ring : List RingEntry
  lastTick : Nat
  test : Nat
  zeroized : Bool
  deriving DecidableEq, Repr

/-- A quote asked for (R489): the slot and SEQ of its parcel, and bytes 0–199 as copied. -/
structure QuoteReq where
  slot : Nat
  seq : Nat
  body : List Byte
  deriving DecidableEq, Repr

/-- ACCESS behind its registers (R480–R489): nonce and the RTC at which it expires, SERVICE verifier, fused fingerprint,
RTC of the last authenticated parcel and of the end of the back-off, MEAS0–MEAS3, quotes asked for. -/
structure AccessSt where
  nonce : Option (List Byte × Nat)
  verifier : Option (List Byte)
  fingerprint : Option (List Byte)
  lastAuth : Nat
  retryAt : Nat
  meas : Vector (List Byte) 4
  quotes : List QuoteReq
  deriving DecidableEq, Repr

/-! ## Power states, permits and resets -/

/-- A reset the module has decided to make (R347): its kind and the grain of the decision. -/
structure ResetDue where
  kind : Nat
  grain : Nat
  deriving DecidableEq, Repr

/-- A gap record owed since the restart (R348, R357): its start, its epoch, cause and flags. -/
structure GapDue where
  start : Nat
  epoch : Nat
  cause : Nat
  flags : Nat
  deriving DecidableEq, Repr

/-- The supply side behind PERMIT, PWR and RST: the numbers of queued requests in order of arrival and of permits in
order of grant; the grain of the warning; a reset decided; a host-absence fallback that waits for the block boundary; a
START accepted (SEQ and entries); the CORE cycle each watchdog was last served and whether its warning has been given;
windows left of an alarm watch and the RTC of the last window; the gap record owed; whether the save area holds the S1
state. -/
structure PowerSt where
  queue : List Nat
  grants : List Nat
  warnAt : Option Nat
  reset : Option ResetDue
  absence : Bool
  start : Option (Nat × List Byte)
  served : Vector Nat 2
  warned : Vector Bool 2
  alarmWatch : Nat
  lastWindow : Nat
  gap : Option GapDue
  saved : Bool
  deriving DecidableEq, Repr


/-! ## The host link -/

/-- A parcel in an inbound slot (R522). -/
structure InParcel where
  slot : Nat
  type : Nat
  seq : Nat
  body : List Byte
  deriving DecidableEq, Repr

/-- A stored answer (R524): SEQ of the accepted parcel, type and payload of its answer. -/
structure Stored where
  seq : Nat
  type : Nat
  body : List Byte
  deriving DecidableEq, Repr

/-- The link (R516–R531): HVDD present, host die serving; inbound parcels oldest first and whether the handler has taken
the first; parcels waiting outbound; the parcel last removed; stored answers, oldest first; the payload being composed;
what the module last shifted out; the RTC of the last accepted parcel; LENGTH and the parts received of the image being
staged, images accepted and waiting for INSTALL; the next journal number to deliver, the LAST of the carry delivered and
the parts of it sent; the start report, and whether it still waits for room in the outbound buffer; HWATCH is held low
since HVDD rose (R54). -/
structure LinkSt where
  hvdd : Bool
  live : Bool
  inb : List InParcel
  taken : Bool
  outb : List (List Byte)
  last : Option (List Byte)
  stored : List Stored
  words : List Byte
  miso : List Byte
  lastIn : Nat
  imgLen : Option Nat
  parts : List (Nat × Nat)
  staged : List (List Byte)
  nextRec : Nat
  carrySent : Nat
  carryPart : Nat
  report : List Byte
  owed : Bool
  polHeld : Bool
  deriving DecidableEq, Repr


/-! ## The machine -/

/-- Why the machine stops. -/
inductive Fault where
  /-- A lane met an instruction that the loader never admits to a lane (R181, R220, R222): raised by the meanings of
  control-profile instructions and of illegal encodings on a lane. Safe: the spec says a lane never meets one. -/
  | loaderExcludes
  deriving DecidableEq, Repr

/-- Why a command has no meaning. -/
inductive Refusal where
  /-- The command is not modelled yet: raised by Dispatch only. Safe. -/
  | notModelled (mnemonic : String)
  /-- An operand lies outside what its row can carry (a list of the wrong length, a number wider than its field):
  raised by the meanings that take such operands. Safe: no such command exists. -/
  | illFormed
  deriving DecidableEq, Repr

/-- The state of the module and the queue of commands that wait. -/
structure State where
  part : Part
  /-- The register fields that differ from their reset value, in rising order (R15). -/
  flds : List (Fld × Nat)
  /-- The fields whose value in force differs from reset, for those that take effect at a boundary. -/
  force : List (Fld × Nat)
  /-- RAM bytes that differ from zero, by control-core address, in rising order (R35). -/
  mem : List (Nat × Byte)
  clock : Clock
  lanes : Vector Lane 5
  cores : Vector CoreSt 2
  power : PowerState
  tracker : Tracker
  pps : Pps
  /-- A set-UTC order waiting for the next boundary: second and grain (R75). -/
  utcSet : Option (Nat × Nat)
  /-- The cue table in table order (R87). -/
  cues : List Cue
  chain : Chain
  quads : Vector Quad 4
  selfCal : Option SelfCal
  shNode : Vector ShNode 3
  bitMon : BitMon
  /-- Blocks since the last drift save (R387). -/
  driftBlocks : Nat
  /-- Blocks ramped since the drift state began (R388). -/
  rampBlocks : Nat
  /-- First decisions whose second has not come (R470). -/
  second : List Pending2
  /-- Retirements agreed on and not yet committed (R120, R252). -/
  retiring : List RetireWhat
  /-- Retirements committed whose change-over waits for the boundary (R120). -/
  changeOver : List RetireWhat
  streams : Streams
  /-- Installed control programs: INSTALL code and image (R241). -/
  progs : List (Nat × List Byte)
  /-- Lane sets to install or remove at the next boundary. -/
  laneOrders : List LaneOrder
  rope : Rope
  leases : Vector LeaseSt 12
  slots : Vector Slot 72
  /-- The responses of the last alarm of each tamper source (R474). -/
  resp : Vector Nat 8
  pulse : Vector PulseOut 4
  watch : Watch
  cairn : Cairn
  jrnl : Jrnl
  port : CairnPort
  /-- The CORE cycle at which CAIRN.RDATA is ready (R370). -/
  readAt : Nat
  pq : Pq
  capt : Capt
  aux : AuxSt
  irq : Irq
  /-- The value the last read command returned (the model's own; log entry 1). -/
  readData : Word
  modem : ModemSt
  glass : GlassSt
  tamp : Tamp
  access : AccessSt
  pwr : PowerSt
  link : LinkSt
  /-- Index of the next free value (the model's own; log entry 7). -/
  free : Nat
  /-- The commands that wait, first in first out. -/
  pending : List Instr
  deriving DecidableEq, Repr

/-! ## Reset -/

/-- A bank of zeros (R197). -/
def Bank.zero : Bank := ⟨Vector.replicate 32 0, Vector.replicate 16 0, Vector.replicate 8 0, 0⟩

/-- A context of zeros (R175). -/
def Context.zero : Context := ⟨Bank.zero, 0, []⟩

/-- A lane with no run and nothing installed. -/
def Lane.zero : Lane where
  g := Context.zero
  p := Context.zero
  snapG := Context.zero
  snapP := Context.zero
  cur := none
  sliceLeft := 0
  pitchDue := false
  pitchOn := false
  wq := []
  cueq := []
  incs := []
  pitchIncs := []
  sig := []
  outQ := []
  outCues := []
  outIncs := []
  runs := []
  log := []
  inbox := []
  prot := []
  imgG := none
  imgP := none
  startAt := 0
  ranAt := 0

/-- A control core at reset (R197). -/
def CoreSt.zero (pc : Word) : CoreSt where
  bank := Bank.zero
  shadow := Vector.replicate 16 0
  pc := pc
  loopsBase := []
  loopsMid := []
  loopsFast := []
  halted := false
  waiting := false
  run := .service
  saved := none
  newSvc := none
  launch := []
  normal := none
  fast := none

/-- The tracker before PLL lock. -/
def Tracker.zero : Tracker := ⟨0, none, none, 0, none, 0, none, 0, [], 0, false, 0, false, 0, false, 0, none, none, 0⟩

/-- PPS at reset. -/
def Pps.zero : Pps := ⟨none, 0, 0, [], false, none⟩

/-- The chain link at reset; CHVDD is taken as connected (log entry 2). -/
def Chain.zero : Chain :=
  ⟨true, 0, 0, none, 0, 0, none, none, none, none, none, 0, List.replicate 8 0, List.replicate 8 false,
   List.replicate 8 false, [], 0, 0, [], false, none⟩

/-- No sums yet. -/
def Sums.zero : Sums := ⟨0, 0, 0, 0⟩

/-- A comparison before any value. -/
def Cmp.zero : Cmp := ⟨0, 0, 0, Sums.zero⟩

/-- A quad at reset. -/
def Quad.zero : Quad where
  pos := 0
  dwell := 4096
  connected := 0
  settled := false
  summons := none
  voting := false
  votePitches := 0
  aPass := false
  bPass := false
  waiting := []
  sinceVote := [0, 0, 0, 0]
  spareFails := 0
  sFails := [0, 0]
  sPass := [true, true]
  sGain := [none, none]
  strideK := 0
  strideEnd := 0
  alone := [0, 0, 0, 0]
  ow := none
  owGo := false
  ilvG := 0
  ilvS := 0
  estN := [0, 0, 0, 0]
  estTwin := List.replicate 4 Cmp.zero
  spN := 0
  spA := Cmp.zero
  spB := Cmp.zero
  dwSum := 0
  dwN := 0
  dev := 0
  os := 0

/-- The shared-node comparison at reset. -/
def ShNode.zero : ShNode := ⟨0, none, true, false⟩

/-- Stages before any word, and a comparison before any value. -/
def Cic.zero : Cic := ⟨0, [], [], 0⟩
def Dec.zero : Dec := ⟨[], [], [], []⟩
def Skew.zero : Skew := ⟨0, 0, 0, 0, 0⟩

/-- The converters' side at reset. -/
def Front.zero : Front where
  cics := List.replicate 46 Cic.zero
  merged := List.replicate 5 Cic.zero
  hb0 := List.replicate 4 []
  conv := List.replicate 8 []
  trips := []
  tripped := 0
  chan := List.replicate 24 Dec.zero
  twin := List.replicate 16 Dec.zero
  first := List.replicate 16 Dec.zero
  diff0 := List.replicate 4 Dec.zero
  diff1 := List.replicate 4 Dec.zero
  spare := List.replicate 4 Dec.zero
  cmp := List.replicate 16 Cmp.zero
  cmp0 := List.replicate 4 Cmp.zero
  cmp1 := List.replicate 4 Cmp.zero
  sums := List.replicate 16 0
  n := 0
  skew := List.replicate 4 Skew.zero
  m := []

/-- Stream buffers before the first fill. -/
def Streams.zero : Streams where
  now := []
  prev := []
  strNow := []
  strPrev := []
  pitch := []
  whole := none
  wholeGains := []
  hist := []
  gains := []
  integ := List.replicate 24 (0, 0)
  settle := List.replicate 24 0
  swapEnd := List.replicate 24 0
  swap := none
  builds := []
  front := Front.zero

/-- The roped pair at reset. -/
def Rope.zero : Rope := ⟨none, none, none, false, false, [none, none, none, none, none], none, none⟩


/-- A slot at zero (R341). -/
def Slot.zero : Slot := ⟨0, Vector.replicate 8 0, 0, none, false, false, false⟩

/-- Nothing held: no source (R296). -/
def PulseHeld.zero : PulseHeld := ⟨0, 0, 0, 0x7F + 256 * 8, 1000⟩

/-- A pulse output at reset: no source (R296). -/
def PulseOut.zero : PulseOut :=
  ⟨0, 0, none, 0, 0, 0x7F + 256 * 8, 1000, false, false, false, PulseHeld.zero, PulseHeld.zero⟩

/-- An empty carry (R364). -/
def Carry.zero : Carry := ⟨0, true, true, 0, 0, 0, 0, 0, 0, [], List.replicate 7 0, 0⟩

/-- The state record that production leaves in a fresh module's cairn (log entry 2): nothing booked, nothing recorded. -/
def Belay.factory : Belay where
  gen := 1
  epoch := 0
  kind := 0
  t := 0
  snap := 0
  rtc := 0
  nextseq := 1
  head := 0
  tail := 0
  ackseq := 0
  lastord := 0
  retgen := 0
  ev := ⟨0, 0, false, false, 0, 0, 0, 0, List.replicate 8 0⟩
  slots := List.replicate 72 ⟨0, 0, 0, 0, 0, List.replicate 8 0⟩

/-- The cairn of a fresh module (log entry 2): the factory's state record, an empty carry, a trim record that retires
nothing (format, every lane in service, the check word of a zero drift state, R388), no order, an empty ring. -/
def Cairn.zero : Cairn :=
  ⟨some Belay.factory, none, some { Carry.zero with gen := 1 }, none,
   ⟨1, true, [(0, 1), (3, 0x1F00), (190, 0x64AD4945)]⟩, ⟨0, true, []⟩, [], false, false, false, []⟩

/-- The journal before the first record (R350). -/
def Jrnl.zero : Jrnl where
  staged := []
  nextseq := 1
  cseq := 1
  ackseq := 0
  head := 0
  tail := 0
  epoch := 1
  gen := 1
  lastord := 0
  nextord := 1
  retgen := 0
  prev := []
  prevSnap := 0
  due := []
  lastPitchSnap := 0
  aonPend := none
  cairnPend := none
  committed := some Belay.factory
  carry := { Carry.zero with gen := 1 }
  carryPend := none
  fold := false
  covered := true
  stg := []

/-- The machines of a port at rest. -/
def PqPort.zero : PqPort := ⟨none, none, none, 0, 0, false, 0, 0, false, 0, 0, none, 0, [[], [], []]⟩

/-- The PQ engine at reset. -/
def Pq.zero : Pq where
  ports := Vector.replicate 2 PqPort.zero
  pos := 0
  half := []
  halfStart := 0
  win := List.replicate 16 0
  ends := []
  pts := []
  flagged := false
  ready := []
  infos := []
  iv := none
  ten := none
  tenIx := 0
  two := none
  twoIx := 0
  f10 := []
  f10End := 0
  f10Unsync := true
  words := [[], [], [], []]
  settling := 0
  ended := none
  supra := []
  supply := none
  atReset := []

/-- The capture at reset. -/
def Capt.zero : Capt := ⟨0, 0, 0, List.replicate 24 0, 0xFF, 0⟩


/-- The converter at reset: the internal reference is ready 200 µs later (R396). -/
def AuxSt.zero (now : Nat) : AuxSt where
  stop := none
  ch := 0x10
  avg := 0
  sum := 0
  n := 0
  uncal := true
  discard := false
  align := false
  cont := false
  new := false
  info := 0
  calStep := 0
  calEnd := 0
  intAt := now + 40960
  refAt := now + 40960
  bootCal := true
  urgent := none
  got := [none, none, none, none]


/-- The interrupt controller at reset. -/
def Irq.zero : Irq :=
  ⟨Vector.replicate 8 0, Vector.replicate 2 none, [], Vector.replicate 3 ⟨false, false, 0, false⟩⟩

/-- The modem at reset. -/
def ModemSt.zero : ModemSt := ⟨none, none, 0, false, none, none, none, 0, [], [], [], false, none⟩


/-- GLASS at reset. -/
def GlassSt.zero : GlassSt := ⟨[], none, false, false, List.replicate 52 0, 0, 0, 0, 0, [], 0, 0, 0, 0, none⟩


/-- A tamper source at reset. -/
def TampSrc.zero : TampSrc := ⟨[], false, false, 0, 0, 0, false, false, 0, 0, false, false⟩

/-- The supervisor at a cold start. -/
def Tamp.zero : Tamp := ⟨Vector.replicate 8 TampSrc.zero, [], 0, 0, false⟩

/-- MEAS0–MEAS3 at reset (R487). -/
def measZero : Vector (List Byte) 4 := Vector.replicate 4 (List.replicate 32 0)

/-- ACCESS of a fresh module. -/
def AccessSt.zero : AccessSt := ⟨none, none, none, 0, 0, measZero, []⟩


/-- The supply side at a cold start. -/
def PowerSt.zero : PowerSt :=
  ⟨[], [], none, none, false, none, Vector.replicate 2 0, Vector.replicate 2 false, 0, 0, none, false⟩


/-- The link at a cold start with the host die running (log entry 2). -/
def LinkSt.zero : LinkSt := ⟨true, true, [], false, [], none, [], [], [], 0, none, [], [], 1, 0, 0, [], false, true⟩


/-- The module after a cold start of a fresh MS2400-LG, before the PLL locks (R25, R500; the choice of the part and of the
instant is log entry 2). -/
def State.reset : State where
  part := ⟨true, true, true, 0x1000, 1, 1, 1, true⟩
  flds := []
  force := []
  mem := []
  clock := ⟨0, 0, 0, 6400, 0, 0, false, true, true, none, 0⟩
  lanes := Vector.replicate 5 Lane.zero
  cores := #v[CoreSt.zero 0, CoreSt.zero 0x100]
  power := .on
  tracker := Tracker.zero
  pps := Pps.zero
  utcSet := none
  cues := []
  chain := Chain.zero
  quads := Vector.replicate 4 Quad.zero
  selfCal := none
  shNode := Vector.replicate 3 ShNode.zero
  bitMon := ⟨0, false, List.replicate 8 0, List.replicate 8 0⟩
  driftBlocks := 0
  rampBlocks := 0
  second := []
  retiring := []
  changeOver := []
  streams := Streams.zero
  progs := []
  laneOrders := []
  rope := Rope.zero
  leases := Vector.replicate 12 ⟨0, 0, []⟩
  slots := Vector.replicate 72 Slot.zero
  resp := Vector.replicate 8 0
  pulse := Vector.replicate 4 PulseOut.zero
  watch := ⟨0, false, false, false⟩
  cairn := Cairn.zero
  jrnl := Jrnl.zero
  port := ⟨false, false, [], 0⟩
  readAt := 0
  pq := Pq.zero
  capt := Capt.zero
  aux := AuxSt.zero 0
  irq := Irq.zero
  readData := 0
  modem := ModemSt.zero
  glass := GlassSt.zero
  tamp := Tamp.zero
  access := AccessSt.zero
  pwr := { PowerSt.zero with gap := some ⟨0, 0, 2, 2⟩ }
  link := LinkSt.zero
  free := 0
  pending := []

end Sys2Proof.Machine
end

