-- ==== Sys2Proof/Machine/Fields.lean ====
section
/-! DEFINITION. The register fields of the spec, one constant each, under the name the spec gives it:
UNIT.REGISTER.FIELD (R11). A register the unit repeats takes its index as an argument; a window register takes the
selection (or the processor whose private copy it is, R562) as its bank. A field whose Reset column says "—" has
reset 0 here unless a rule gives a value: such fields are views of the state they report (log entry 2). -/

namespace Sys2Proof.Machine


/-! SYS (01_architecture.md R40) -/

def SYS.ID.FAMILY : Fld := ⟨0, 0x00, 16, 16, 0, 0x4D53, .s4, .ro⟩
def SYS.ID.PART : Fld := ⟨0, 0x00, 8, 8, 0, 0, .s4, .ro⟩
def SYS.ID.STEP : Fld := ⟨0, 0x00, 0, 8, 0, 0, .s4, .ro⟩
def SYS.OPT.G : Fld := ⟨0, 0x01, 1, 1, 0, 0, .s4, .ro⟩
def SYS.OPT.L : Fld := ⟨0, 0x01, 0, 1, 0, 0, .s4, .ro⟩
def SYS.SERIAL0.SERLO : Fld := ⟨0, 0x02, 0, 32, 0, 0, .s4, .ro⟩
def SYS.SERIAL1.SERHI : Fld := ⟨0, 0x03, 0, 32, 0, 0, .s4, .ro⟩
def SYS.UNITS.PRES (k : Nat) : Fld := ⟨0, 0x04 + k, 0, 32, 0, 0, .s4, .ro⟩
def SYS.CHAN.M : Fld := ⟨0, 0x08, 24, 1, 0, 0, .s4, .ro⟩
def SYS.CHAN.CH : Fld := ⟨0, 0x08, 0, 24, 0, 0, .s4, .ro⟩
def SYS.QUAD.QP : Fld := ⟨0, 0x09, 0, 4, 0, 0, .s4, .ro⟩
def SYS.LANE.STBY : Fld := ⟨0, 0x0A, 8, 3, 0, 4, .s0, .ro⟩
def SYS.LANE.INSVC : Fld := ⟨0, 0x0A, 0, 5, 0, 0x1F, .s3, .ro⟩
def SYS.ROM.ROMVER : Fld := ⟨0, 0x0B, 0, 16, 0, 0, .s4, .ro⟩
def SYS.STATUS.TRIMFLT : Fld := ⟨0, 0x0C, 3, 1, 0, 0, .s0, .ro⟩
def SYS.STATUS.TRIM1 : Fld := ⟨0, 0x0C, 2, 1, 0, 0, .s0, .ro⟩
def SYS.STATUS.SLOWDEG : Fld := ⟨0, 0x0C, 1, 1, 0, 0, .s2, .ro⟩
def SYS.STATUS.CLKDEG : Fld := ⟨0, 0x0C, 0, 1, 0, 0, .s0, .ro⟩
def SYS.FAULT.VALID : Fld := ⟨0, 0x10, 31, 1, 0, 0, .s2, .w1c⟩
def SYS.FAULT.MORE : Fld := ⟨0, 0x10, 30, 1, 0, 0, .s2, .w1c⟩
def SYS.FAULT.UNIT : Fld := ⟨0, 0x10, 16, 8, 0, 0, .s2, .ro⟩
def SYS.FAULT.WHO : Fld := ⟨0, 0x10, 8, 8, 0, 0, .s2, .ro⟩
def SYS.FAULT.CODE : Fld := ⟨0, 0x10, 0, 8, 0, 0, .s2, .ro⟩
def SYS.FGRAINLO.GLO : Fld := ⟨0, 0x11, 0, 32, 0, 0, .s2, .ro⟩
def SYS.FGRAINHI.GHI : Fld := ⟨0, 0x12, 0, 32, 0, 0, .s2, .ro⟩
def SYS.FPC.PC : Fld := ⟨0, 0x13, 0, 32, 0, 0, .s2, .ro⟩
def SYS.FCOUNT.SAT : Fld := ⟨0, 0x14, 31, 1, 0, 0, .s2, .rc⟩
def SYS.FCOUNT.COUNT : Fld := ⟨0, 0x14, 0, 31, 0, 0, .s2, .rc⟩

/-! TIME (03_timebase_and_cues.md R108) -/

def TIME.GRAINLO.GLO : Fld := ⟨1, 0x00, 0, 32, 0, 0, .s2, .ro⟩
def TIME.GRAINHI.GHI : Fld := ⟨1, 0x01, 0, 32, 0, 0, .s2, .ro⟩
def TIME.PHASE.PH : Fld := ⟨1, 0x02, 0, 13, 0, 0, .s0, .ro⟩
def TIME.CTRL.HOLD : Fld := ⟨1, 0x03, 3, 1, 0, 0, .s1, .rw⟩
def TIME.CTRL.PPSPOL : Fld := ⟨1, 0x03, 2, 1, 0, 0, .s1, .rw⟩
def TIME.CTRL.PPSEN : Fld := ⟨1, 0x03, 1, 1, 0, 0, .s1, .rw⟩
def TIME.CTRL.NOM60 : Fld := ⟨1, 0x03, 0, 1, 0, 0, .s1, .rw⟩
def TIME.TRK.QUAL : Fld := ⟨1, 0x04, 8, 8, 0, 0, .s0, .ro⟩
def TIME.TRK.HELD : Fld := ⟨1, 0x04, 2, 1, 0, 0, .s0, .ro⟩
def TIME.TRK.STATE : Fld := ⟨1, 0x04, 0, 2, 0, 0, .s0, .ro⟩
def TIME.PLEN.PLEN : Fld := ⟨1, 0x05, 0, 32, 0, 0, .s0, .ro⟩
def TIME.PSTARTLO.PSLO : Fld := ⟨1, 0x06, 0, 32, 0, 0, .s0, .ro⟩
def TIME.PSTARTHI.PSHI : Fld := ⟨1, 0x07, 0, 32, 0, 0, .s0, .ro⟩
def TIME.PSTARTFR.PSFR : Fld := ⟨1, 0x08, 0, 32, 0, 0, .s0, .ro⟩
def TIME.PITCHLO.PLO : Fld := ⟨1, 0x09, 0, 32, 0, 0, .s0, .ro⟩
def TIME.PITCHHI.PHI : Fld := ⟨1, 0x0A, 0, 32, 0, 0, .s0, .ro⟩
def TIME.BLKPOS.POS : Fld := ⟨1, 0x0B, 0, 4, 0, 0, .s0, .ro⟩
def TIME.RTCLO.RLO : Fld := ⟨1, 0x0C, 0, 32, 0, 0, .s2, .ro⟩
def TIME.RTCHI.RHI : Fld := ⟨1, 0x0D, 0, 32, 0, 0, .s2, .ro⟩
def TIME.UTCOFFLO.ULO : Fld := ⟨1, 0x0E, 0, 32, 0, 0, .s2, .ro⟩
def TIME.UTCOFFHI.UHI : Fld := ⟨1, 0x0F, 0, 32, 0, 0, .s2, .ro⟩
def TIME.UTCOFFFR.UFR : Fld := ⟨1, 0x10, 0, 32, 0, 0, .s2, .ro⟩
def TIME.UTCSTAT.SRC : Fld := ⟨1, 0x11, 3, 2, 0, 0, .s2, .ro⟩
def TIME.UTCSTAT.PPSLOST : Fld := ⟨1, 0x11, 2, 1, 0, 0, .s1, .w1c⟩
def TIME.UTCSTAT.PPSLOCK : Fld := ⟨1, 0x11, 1, 1, 0, 0, .s1, .ro⟩
def TIME.UTCSTAT.VALID : Fld := ⟨1, 0x11, 0, 1, 0, 0, .s2, .ro⟩
def TIME.UTCRATE.RATE : Fld := ⟨1, 0x12, 0, 32, 0, 0, .s1, .ro⟩
def TIME.PPSSEC.SEC : Fld := ⟨1, 0x13, 0, 32, 0, 0, .s1, .rw⟩
def TIME.PPSGLO.PGLO : Fld := ⟨1, 0x14, 0, 32, 0, 0, .s1, .ro⟩
def TIME.PPSGHI.PGHI : Fld := ⟨1, 0x15, 0, 32, 0, 0, .s1, .ro⟩
def TIME.PPSCYC.CYC : Fld := ⟨1, 0x16, 0, 13, 0, 0, .s1, .ro⟩
def TIME.PPSREJ.SAT : Fld := ⟨1, 0x17, 31, 1, 0, 0, .s1, .rc⟩
def TIME.PPSREJ.COUNT : Fld := ⟨1, 0x17, 0, 31, 0, 0, .s1, .rc⟩
def TIME.CUESTAT.FULL : Fld := ⟨1, 0x20, 16, 1, 0, 0, .s0, .ro⟩
def TIME.CUESTAT.USED : Fld := ⟨1, 0x20, 0, 9, 0, 0, .s0, .ro⟩
def TIME.CUEREF.SAT : Fld := ⟨1, 0x21, 31, 1, 0, 0, .s0, .rc⟩
def TIME.CUEREF.COUNT : Fld := ⟨1, 0x21, 0, 31, 0, 0, .s0, .rc⟩
def TIME.CUELATE.SAT : Fld := ⟨1, 0x22, 31, 1, 0, 0, .s0, .rc⟩
def TIME.CUELATE.COUNT : Fld := ⟨1, 0x22, 0, 31, 0, 0, .s0, .rc⟩
def TIME.CUEFAIL.SAT : Fld := ⟨1, 0x23, 31, 1, 0, 0, .s0, .rc⟩
def TIME.CUEFAIL.COUNT : Fld := ⟨1, 0x23, 0, 31, 0, 0, .s0, .rc⟩
def TIME.CUECANCEL.ALL : Fld := ⟨1, 0x24, 8, 1, 0, 0, .s0, .wo⟩
def TIME.CUECANCEL.TAG : Fld := ⟨1, 0x24, 0, 8, 0, 0, .s0, .wo⟩
def TIME.CUENEXTLO.NLO : Fld := ⟨1, 0x25, 0, 32, 0, 0xFFFFFFFF, .s0, .ro⟩
def TIME.CUENEXTHI.NHI : Fld := ⟨1, 0x26, 0, 32, 0, 0xFFFFFFFF, .s0, .ro⟩
def TIME.CUEIDX.IDX : Fld := ⟨1, 0x28, 0, 8, 0, 0, .s0, .rw⟩
def TIME.CUEW.WORD (k : Nat) : Fld := ⟨1, 0x29 + k, 0, 32, 0, 0, .s0, .ro⟩

/-! CHAIN (03_timebase_and_cues.md R109) -/

def CHAIN.CTRL.HEIR : Fld := ⟨2, 0x00, 5, 1, 0, 0, .s0, .rw⟩
def CHAIN.CTRL.POS : Fld := ⟨2, 0x00, 2, 3, 0, 0, .s0, .rw⟩
def CHAIN.CTRL.ROLE : Fld := ⟨2, 0x00, 1, 1, 0, 0, .s0, .rw⟩
def CHAIN.CTRL.EN : Fld := ⟨2, 0x00, 0, 1, 0, 0, .s0, .rw⟩
def CHAIN.STATUS.LPOS : Fld := ⟨2, 0x01, 8, 3, 0, 0, .s0, .ro⟩
def CHAIN.STATUS.STATE : Fld := ⟨2, 0x01, 0, 3, 0, 0, .s0, .ro⟩
def CHAIN.MEMBERS.MEM : Fld := ⟨2, 0x02, 0, 8, 0, 0, .s0, .ro⟩
def CHAIN.RTT.RTT : Fld := ⟨2, 0x03, 0, 16, 0, 0, .s0, .ro⟩
def CHAIN.PHERR.ERR : Fld := ⟨2, 0x04, 0, 16, 0, 0, .s0, .ro⟩
def CHAIN.FLAGS.MEMBERLOST : Fld := ⟨2, 0x05, 4, 1, 0, 0, .s0, .w1c⟩
def CHAIN.FLAGS.OUTLIER : Fld := ⟨2, 0x05, 3, 1, 0, 0, .s0, .w1c⟩
def CHAIN.FLAGS.LOSS : Fld := ⟨2, 0x05, 2, 1, 0, 0, .s0, .w1c⟩
def CHAIN.FLAGS.STEP : Fld := ⟨2, 0x05, 1, 1, 0, 0, .s0, .w1c⟩
def CHAIN.FLAGS.CONFLICT : Fld := ⟨2, 0x05, 0, 1, 0, 0, .s0, .w1c⟩
def CHAIN.STEPLO.SLO : Fld := ⟨2, 0x06, 0, 32, 0, 0, .s0, .ro⟩
def CHAIN.STEPHI.SHI : Fld := ⟨2, 0x07, 0, 32, 0, 0, .s0, .ro⟩
def CHAIN.CRCERR.SAT : Fld := ⟨2, 0x08, 31, 1, 0, 0, .s0, .rc⟩
def CHAIN.CRCERR.COUNT : Fld := ⟨2, 0x08, 0, 31, 0, 0, .s0, .rc⟩
def CHAIN.HANDOVER.GO : Fld := ⟨2, 0x09, 8, 1, 0, 0, .s0, .wo⟩
def CHAIN.HANDOVER.TARGET : Fld := ⟨2, 0x09, 0, 3, 0, 0, .s0, .wo⟩

/-! QUAD (04_sense_front_end.md R144) -/

def QUAD.MODE.TRAVEN (q : Nat) : Fld := ⟨16 + q, 0x00, 4, 1, 0, 1, .s0, .rw⟩
def QUAD.MODE.SCH (q : Nat) : Fld := ⟨16 + q, 0x00, 1, 2, 0, 0, .s0, .rw⟩
def QUAD.MODE.STRIDE (q : Nat) : Fld := ⟨16 + q, 0x00, 0, 1, 0, 0, .s0, .rw⟩
def QUAD.STATUS.ILVSETTLING (q : Nat) : Fld := ⟨16 + q, 0x01, 11, 1, 0, 0, .s0, .ro⟩
def QUAD.STATUS.STRIDEABORT (q : Nat) : Fld := ⟨16 + q, 0x01, 10, 1, 0, 0, .s0, .w1c⟩
def QUAD.STATUS.STRIDEREF (q : Nat) : Fld := ⟨16 + q, 0x01, 9, 1, 0, 0, .s0, .w1c⟩
def QUAD.STATUS.STRIDEON (q : Nat) : Fld := ⟨16 + q, 0x01, 8, 1, 0, 0, .s0, .ro⟩
def QUAD.STATUS.SPAT (q : Nat) : Fld := ⟨16 + q, 0x01, 4, 4, 0, 0, .s0, .ro⟩
def QUAD.STATUS.SPUSE (q : Nat) : Fld := ⟨16 + q, 0x01, 1, 3, 0, 0, .s0, .ro⟩
def QUAD.STATUS.NOSPARE (q : Nat) : Fld := ⟨16 + q, 0x01, 0, 1, 0, 0, .s3, .ro⟩
def QUAD.DWELL.IDWELL (q : Nat) : Fld := ⟨16 + q, 0x02, 16, 16, 0, 256, .s0, .rw⟩
def QUAD.DWELL.DWELL (q : Nat) : Fld := ⟨16 + q, 0x02, 0, 16, 0, 4096, .s0, .rw⟩
def QUAD.PLIM.RMSLIM (q : Nat) : Fld := ⟨16 + q, 0x03, 16, 16, 0, 300, .s0, .rw⟩
def QUAD.PLIM.MEANLIM (q : Nat) : Fld := ⟨16 + q, 0x03, 0, 16, 0, 100, .s0, .rw⟩
def QUAD.PCNT.VOTEN (q : Nat) : Fld := ⟨16 + q, 0x04, 4, 4, 0, 2, .s0, .rw⟩
def QUAD.PCNT.FAILN (q : Nat) : Fld := ⟨16 + q, 0x04, 0, 4, 0, 3, .s0, .rw⟩
def QUAD.RETIRED.SPRET (q : Nat) : Fld := ⟨16 + q, 0x05, 8, 1, 0, 0, .s3, .ro⟩
def QUAD.RETIRED.C1RET (q : Nat) : Fld := ⟨16 + q, 0x05, 4, 4, 0, 0, .s3, .ro⟩
def QUAD.RETIRED.C0RET (q : Nat) : Fld := ⟨16 + q, 0x05, 0, 4, 0, 0, .s3, .ro⟩
def QUAD.VOTES.SAT (q : Nat) : Fld := ⟨16 + q, 0x06, 31, 1, 0, 0, .s0, .rc⟩
def QUAD.VOTES.COUNT (q : Nat) : Fld := ⟨16 + q, 0x06, 0, 31, 0, 0, .s0, .rc⟩
def QUAD.TRANS.SAT (q : Nat) : Fld := ⟨16 + q, 0x07, 31, 1, 0, 0, .s0, .rc⟩
def QUAD.TRANS.COUNT (q : Nat) : Fld := ⟨16 + q, 0x07, 0, 31, 0, 0, .s0, .rc⟩
def QUAD.DIFF.DRMS (q k : Nat) : Fld := ⟨16 + q, 0x08 + 2 * k, 16, 16, 0, 0, .s0, .ro⟩
def QUAD.DIFF.DMEAN (q k : Nat) : Fld := ⟨16 + q, 0x08 + 2 * k, 0, 16, 0, 0, .s0, .ro⟩
def QUAD.CHST.AMBCNT (q k : Nat) : Fld := ⟨16 + q, 0x09 + 2 * k, 12, 4, 0, 0, .s0, .ro⟩
def QUAD.CHST.AMBIG (q k : Nat) : Fld := ⟨16 + q, 0x09 + 2 * k, 11, 1, 0, 0, .s0, .w1c⟩
def QUAD.CHST.OVLS (q k : Nat) : Fld := ⟨16 + q, 0x09 + 2 * k, 10, 1, 0, 0, .s0, .w1c⟩
def QUAD.CHST.OVL1 (q k : Nat) : Fld := ⟨16 + q, 0x09 + 2 * k, 9, 1, 0, 0, .s0, .w1c⟩
def QUAD.CHST.OVL0 (q k : Nat) : Fld := ⟨16 + q, 0x09 + 2 * k, 8, 1, 0, 0, .s0, .w1c⟩
def QUAD.CHST.UNVERIFIED (q k : Nat) : Fld := ⟨16 + q, 0x09 + 2 * k, 7, 1, 0, 0, .s0, .ro⟩
def QUAD.CHST.SUSPECT (q k : Nat) : Fld := ⟨16 + q, 0x09 + 2 * k, 6, 1, 0, 0, .s0, .ro⟩
def QUAD.CHST.CORES (q k : Nat) : Fld := ⟨16 + q, 0x09 + 2 * k, 4, 2, 0, 0, .s3, .ro⟩
def QUAD.CHST.FAILCNT (q k : Nat) : Fld := ⟨16 + q, 0x09 + 2 * k, 0, 4, 0, 0, .s0, .ro⟩
def QUAD.CFG.FORCE (q k : Nat) : Fld := ⟨16 + q, 0x10 + k, 13, 2, 0, 0, .s0, .rw⟩
def QUAD.CFG.NTEST (q k : Nat) : Fld := ⟨16 + q, 0x10 + k, 11, 1, 0, 0, .s0, .rw⟩
def QUAD.CFG.NUP (q k : Nat) : Fld := ⟨16 + q, 0x10 + k, 10, 1, 0, 0, .s0, .rw⟩
def QUAD.CFG.N10 (q k : Nat) : Fld := ⟨16 + q, 0x10 + k, 9, 1, 0, 0, .s0, .rw⟩
def QUAD.CFG.NEN (q k : Nat) : Fld := ⟨16 + q, 0x10 + k, 8, 1, 0, 0, .s0, .rw⟩
def QUAD.CFG.PTEST (q k : Nat) : Fld := ⟨16 + q, 0x10 + k, 7, 1, 0, 0, .s0, .rw⟩
def QUAD.CFG.PUP (q k : Nat) : Fld := ⟨16 + q, 0x10 + k, 6, 1, 0, 0, .s0, .rw⟩
def QUAD.CFG.P10 (q k : Nat) : Fld := ⟨16 + q, 0x10 + k, 5, 1, 0, 0, .s0, .rw⟩
def QUAD.CFG.PEN (q k : Nat) : Fld := ⟨16 + q, 0x10 + k, 4, 1, 0, 0, .s0, .rw⟩
def QUAD.CFG.GAIN (q k : Nat) : Fld := ⟨16 + q, 0x10 + k, 0, 3, 0, 0, .s0, .rw⟩
def QUAD.OWCTL.MASK (q : Nat) : Fld := ⟨16 + q, 0x14, 8, 4, 0, 0, .s0, .rw⟩
def QUAD.OWCTL.NPITCH (q : Nat) : Fld := ⟨16 + q, 0x14, 0, 8, 0, 8, .s0, .rw⟩
def QUAD.OWGO.GO (q : Nat) : Fld := ⟨16 + q, 0x15, 0, 1, 0, 0, .s0, .wo⟩
def QUAD.OWRES.DONE (q k : Nat) : Fld := ⟨16 + q, 0x18 + k, 31, 1, 0, 0, .s0, .ro⟩
def QUAD.OWRES.OPEN (q k : Nat) : Fld := ⟨16 + q, 0x18 + k, 30, 1, 0, 0, .s0, .ro⟩
def QUAD.OWRES.FAIL (q k : Nat) : Fld := ⟨16 + q, 0x18 + k, 29, 1, 0, 0, .s0, .ro⟩
def QUAD.OWRES.SHIFT (q k : Nat) : Fld := ⟨16 + q, 0x18 + k, 0, 24, 0, 0, .s0, .ro⟩
def QUAD.OWWIN.HI (q k : Nat) : Fld := ⟨16 + q, 0x1C + k, 16, 16, 0, 0x7FFF, .s0, .rw⟩
def QUAD.OWWIN.LO (q k : Nat) : Fld := ⟨16 + q, 0x1C + k, 0, 16, 0, 0x8000, .s0, .rw⟩
def QUAD.IREF.VALID (q : Nat) : Fld := ⟨16 + q, 0x20, 31, 1, 0, 0, .s0, .ro⟩
def QUAD.IREF.DEV (q : Nat) : Fld := ⟨16 + q, 0x20, 0, 16, 0, 0, .s0, .ro⟩
def QUAD.IAVDD.VALID (q : Nat) : Fld := ⟨16 + q, 0x21, 31, 1, 0, 0, .s0, .ro⟩
def QUAD.IAVDD.MV (q : Nat) : Fld := ⟨16 + q, 0x21, 0, 16, 0, 0, .s0, .ro⟩
def QUAD.ITEMP.VALID (q : Nat) : Fld := ⟨16 + q, 0x22, 31, 1, 0, 0, .s0, .ro⟩
def QUAD.ITEMP.T (q : Nat) : Fld := ⟨16 + q, 0x22, 0, 16, 0, 0, .s0, .ro⟩
def QUAD.IZERO.VALID (q : Nat) : Fld := ⟨16 + q, 0x23, 31, 1, 0, 0, .s0, .ro⟩
def QUAD.IZERO.OFS (q : Nat) : Fld := ⟨16 + q, 0x23, 0, 16, 0, 0, .s0, .ro⟩
def QUAD.ILVGAIN.GERR (q : Nat) : Fld := ⟨16 + q, 0x24, 0, 16, 0, 0, .s0, .ro⟩
def QUAD.ILVSKEW.SKEW (q : Nat) : Fld := ⟨16 + q, 0x25, 0, 16, 0, 0, .s0, .ro⟩

/-! BITIN (04_sense_front_end.md R145) -/

def BITIN.CTRL.DEC : Fld := ⟨20, 0x00, 16, 7, 0, 50, .s0, .rw⟩
def BITIN.CTRL.EN : Fld := ⟨20, 0x00, 8, 8, 0, 0, .s0, .rw⟩
def BITIN.CTRL.BCLKOEN : Fld := ⟨20, 0x00, 6, 1, 0, 1, .s0, .rw⟩
def BITIN.CTRL.SKEW : Fld := ⟨20, 0x00, 2, 4, 0, 8, .s0, .rw⟩
def BITIN.CTRL.EDGE : Fld := ⟨20, 0x00, 1, 1, 0, 0, .s0, .rw⟩
def BITIN.CTRL.CLKSRC : Fld := ⟨20, 0x00, 0, 1, 0, 0, .s0, .rw⟩
def BITIN.STATUS.OVR : Fld := ⟨20, 0x01, 24, 8, 0, 0, .s0, .w1c⟩
def BITIN.STATUS.STUCK : Fld := ⟨20, 0x01, 16, 8, 0, 0, .s0, .w1c⟩
def BITIN.STATUS.VALID : Fld := ⟨20, 0x01, 8, 8, 0, 0, .s0, .ro⟩
def BITIN.STATUS.REQUAL : Fld := ⟨20, 0x01, 3, 1, 0, 0, .s0, .ro⟩
def BITIN.STATUS.FREQERR : Fld := ⟨20, 0x01, 2, 1, 0, 0, .s0, .w1c⟩
def BITIN.STATUS.CLKLOST : Fld := ⟨20, 0x01, 1, 1, 0, 0, .s0, .w1c⟩
def BITIN.STATUS.CLKOK : Fld := ⟨20, 0x01, 0, 1, 0, 0, .s0, .ro⟩
def BITIN.FMEAS.F : Fld := ⟨20, 0x02, 0, 18, 0, 0, .s0, .ro⟩
def BITIN.LOSSCNT.SAT : Fld := ⟨20, 0x03, 31, 1, 0, 0, .s0, .rc⟩
def BITIN.LOSSCNT.COUNT : Fld := ⟨20, 0x03, 0, 31, 0, 0, .s0, .rc⟩
def BITIN.RLIM.RGRAINS : Fld := ⟨20, 0x04, 16, 8, 0, 8, .s0, .rw⟩
def BITIN.RLIM.LIM : Fld := ⟨20, 0x04, 0, 16, 0, 0x6666, .s0, .rw⟩

/-! FILT (05_filter_chain.md R169) -/

def FILT.STATUS.SETREF : Fld := ⟨24, 0x00, 3, 1, 0, 0, .s0, .w1c⟩
def FILT.STATUS.CFGREF : Fld := ⟨24, 0x00, 2, 1, 0, 0, .s0, .w1c⟩
def FILT.STATUS.SWAPREF : Fld := ⟨24, 0x00, 1, 1, 0, 0, .s0, .w1c⟩
def FILT.STATUS.ACTWR : Fld := ⟨24, 0x00, 0, 1, 0, 0, .s0, .w1c⟩
def FILT.SWAP.BANK : Fld := ⟨24, 0x01, 25, 1, 0, 0, .s0, .wo⟩
def FILT.SWAP.MASK : Fld := ⟨24, 0x01, 0, 24, 0, 0, .s0, .wo⟩
def FILT.ACTIVE.B : Fld := ⟨24, 0x02, 0, 24, 0, 0, .s0, .ro⟩
def FILT.SWAPGLO.GLO : Fld := ⟨24, 0x03, 0, 32, 0, 0, .s0, .ro⟩
def FILT.SWAPGHI.GHI : Fld := ⟨24, 0x04, 0, 32, 0, 0, .s0, .ro⟩
def FILT.CADDR.BANK : Fld := ⟨24, 0x06, 15, 1, 0, 0, .s0, .rw⟩
def FILT.CADDR.SET : Fld := ⟨24, 0x06, 8, 2, 0, 1, .s0, .rw⟩
def FILT.CADDR.TAP : Fld := ⟨24, 0x06, 0, 7, 0, 0, .s0, .rw⟩
def FILT.CDATA.COEF (b : Nat) : Fld := ⟨24, 0x07, 0, 24, b, 0, .s0, .rw⟩
def FILT.SAT.SAT : Fld := ⟨24, 0x08, 0, 24, 0, 0, .s0, .w1c⟩
def FILT.CFG.OPT (k : Nat) : Fld := ⟨24, 0x20 + k, 4, 1, 0, 0, .s0, .rw⟩
def FILT.CFG.ORDER (k : Nat) : Fld := ⟨24, 0x20 + k, 0, 3, 0, 5, .s0, .rw⟩
def FILT.CHA.LEAK (k : Nat) : Fld := ⟨24, 0x40 + k, 3, 5, 0, 16, .s0, .rw⟩
def FILT.CHA.INTEN (k : Nat) : Fld := ⟨24, 0x40 + k, 2, 1, 0, 0, .s0, .rw⟩
def FILT.CHA.DRPSET (k : Nat) : Fld := ⟨24, 0x40 + k, 0, 2, 0, 0, .s0, .rw⟩
def FILT.CHB.LEAK (k : Nat) : Fld := ⟨24, 0x60 + k, 3, 5, 0, 16, .s0, .rw⟩
def FILT.CHB.INTEN (k : Nat) : Fld := ⟨24, 0x60 + k, 2, 1, 0, 0, .s0, .rw⟩
def FILT.CHB.DRPSET (k : Nat) : Fld := ⟨24, 0x60 + k, 0, 2, 0, 0, .s0, .rw⟩
def FILT.IGA.K (k : Nat) : Fld := ⟨24, 0x80 + k, 0, 32, 0, 0x02836741, .s0, .rw⟩
def FILT.IGB.K (k : Nat) : Fld := ⟨24, 0xA0 + k, 0, 32, 0, 0x02836741, .s0, .rw⟩

/-! RSMP (05_filter_chain.md R170) -/

def RSMP.CTRL.EN : Fld := ⟨25, 0x00, 0, 24, 0, 0, .s0, .rw⟩
def RSMP.STATUS.ACTWR : Fld := ⟨25, 0x01, 0, 1, 0, 0, .s0, .w1c⟩
def RSMP.LAG.LAG : Fld := ⟨25, 0x02, 0, 5, 0, 24, .s4, .ro⟩
def RSMP.PHA.PH (k : Nat) : Fld := ⟨25, 0x20 + k, 0, 32, 0, 0, .s0, .rw⟩
def RSMP.PHB.PH (k : Nat) : Fld := ⟨25, 0x40 + k, 0, 32, 0, 0, .s0, .rw⟩

/-! CSR (06_quineg_model.md R196) -/

def CSR.CORE.ID (c : Nat) : Fld := ⟨256 + c, 0x00, 0, 1, 0, 0, .s0, .ro⟩
def CSR.STAT.INFAULT (c : Nat) : Fld := ⟨256 + c, 0x01, 3, 1, 0, 0, .s0, .ro⟩
def CSR.STAT.INNORM (c : Nat) : Fld := ⟨256 + c, 0x01, 2, 1, 0, 0, .s0, .ro⟩
def CSR.STAT.INFAST (c : Nat) : Fld := ⟨256 + c, 0x01, 1, 1, 0, 0, .s0, .ro⟩
def CSR.STAT.IE (c : Nat) : Fld := ⟨256 + c, 0x01, 0, 1, 0, 0, .s0, .rw⟩
def CSR.EPC.PC (c : Nat) : Fld := ⟨256 + c, 0x02, 0, 32, 0, 0, .s0, .rw⟩
def CSR.ECAUSE.INT (c : Nat) : Fld := ⟨256 + c, 0x03, 31, 1, 0, 0, .s0, .ro⟩
def CSR.ECAUSE.CODE (c : Nat) : Fld := ⟨256 + c, 0x03, 0, 8, 0, 0, .s0, .ro⟩
def CSR.EFL.FL (c : Nat) : Fld := ⟨256 + c, 0x04, 0, 32, 0, 0, .s0, .rw⟩
def CSR.FEPC.PC (c : Nat) : Fld := ⟨256 + c, 0x05, 0, 32, 0, 0, .s0, .rw⟩
def CSR.FFL.FL (c : Nat) : Fld := ⟨256 + c, 0x06, 0, 32, 0, 0, .s0, .rw⟩
def CSR.VEC.BASE (c : Nat) : Fld := ⟨256 + c, 0x07, 8, 24, 0, 0x000000, .s0, .rw⟩
def CSR.CYCLO.CLO (c : Nat) : Fld := ⟨256 + c, 0x08, 0, 32, 0, 0, .s0, .ro⟩
def CSR.CYCHI.CHI (c : Nat) : Fld := ⟨256 + c, 0x09, 0, 32, 0, 0, .s0, .ro⟩
def CSR.FADDR.ADDR (c : Nat) : Fld := ⟨256 + c, 0x0A, 0, 32, 0, 0, .s0, .ro⟩
def CSR.SCR.DATA (c k : Nat) : Fld := ⟨256 + c, 0x0C + k, 0, 32, 0, 0, .s0, .rw⟩

/-! LEASE (08_programs_and_lanes.md R259) -/

def LEASE.ROPE.SOLO : Fld := ⟨4, 0x00, 15, 1, 0, 0, .s0, .ro⟩
def LEASE.ROPE.REBUILD : Fld := ⟨4, 0x00, 14, 1, 0, 0, .s0, .ro⟩
def LEASE.ROPE.NOSTBY : Fld := ⟨4, 0x00, 13, 1, 0, 0, .s0, .ro⟩
def LEASE.ROPE.SECOND : Fld := ⟨4, 0x00, 8, 3, 0, 1, .s0, .ro⟩
def LEASE.ROPE.FIRST : Fld := ⟨4, 0x00, 0, 3, 0, 0, .s0, .ro⟩
def LEASE.DISAGREE.SAT : Fld := ⟨4, 0x01, 31, 1, 0, 0, .s0, .rc⟩
def LEASE.DISAGREE.COUNT : Fld := ⟨4, 0x01, 0, 31, 0, 0, .s0, .rc⟩
def LEASE.VOTE.LOSER : Fld := ⟨4, 0x02, 16, 3, 0, 7, .s0, .ro⟩
def LEASE.VOTE.OUTCOME : Fld := ⟨4, 0x02, 0, 3, 0, 0, .s0, .ro⟩
def LEASE.VGRAINLO.GLO : Fld := ⟨4, 0x03, 0, 32, 0, 0, .s0, .ro⟩
def LEASE.VGRAINHI.GHI : Fld := ⟨4, 0x04, 0, 32, 0, 0, .s0, .ro⟩
def LEASE.LOST.CNT : Fld := ⟨4, 0x05, 0, 20, 0, 0, .s0, .ro⟩
def LEASE.REVOKES.SAT : Fld := ⟨4, 0x08, 31, 1, 0, 0, .s0, .rc⟩
def LEASE.REVOKES.COUNT : Fld := ⟨4, 0x08, 0, 31, 0, 0, .s0, .rc⟩
def LEASE.LASTREV.REASON : Fld := ⟨4, 0x09, 16, 2, 0, 0, .s0, .ro⟩
def LEASE.LASTREV.HOLDER : Fld := ⟨4, 0x09, 8, 8, 0, 0xFF, .s0, .ro⟩
def LEASE.LASTREV.RES : Fld := ⟨4, 0x09, 0, 8, 0, 0, .s0, .ro⟩
def LEASE.HOLD.SUPWAIT (x : Nat) : Fld := ⟨4, 0x10 + x, 11, 1, 0, 0, .s0, .ro⟩
def LEASE.HOLD.STATE (x : Nat) : Fld := ⟨4, 0x10 + x, 9, 2, 0, 0, .s0, .ro⟩
def LEASE.HOLD.HOLDER (x : Nat) : Fld := ⟨4, 0x10 + x, 0, 8, 0, 0xFF, .s0, .ro⟩
def LEASE.REM.CYC (x : Nat) : Fld := ⟨4, 0x20 + x, 0, 32, 0, 0, .s0, .ro⟩

/-! NRG (09_energy.md R295) -/

def NRG.STATUS.ORPHAN : Fld := ⟨32, 0x00, 3, 1, 0, 0, .s0, .w1c⟩
def NRG.STATUS.CLAMPF : Fld := ⟨32, 0x00, 2, 1, 0, 0, .s0, .w1c⟩
def NRG.STATUS.WRAPF : Fld := ⟨32, 0x00, 1, 1, 0, 0, .s0, .w1c⟩
def NRG.STATUS.BINDREF : Fld := ⟨32, 0x00, 0, 1, 0, 0, .s0, .w1c⟩
def NRG.SEL.SUB (b : Nat) : Fld := ⟨32, 0x01, 8, 4, b, 8, .s0, .rw⟩
def NRG.SEL.SLOT (b : Nat) : Fld := ⟨32, 0x01, 0, 7, b, 0, .s0, .rw⟩
def NRG.BIND.QTY (b : Nat) : Fld := ⟨32, 0x02, 24, 8, b, 0, .s3, .rw⟩
def NRG.BIND.MODE (b : Nat) : Fld := ⟨32, 0x02, 22, 2, b, 0, .s3, .rw⟩
def NRG.BIND.WT (b : Nat) : Fld := ⟨32, 0x02, 21, 1, b, 0, .s0, .rw⟩
def NRG.BIND.TEN (b : Nat) : Fld := ⟨32, 0x02, 20, 1, b, 0, .s0, .rw⟩
def NRG.BIND.QD (b : Nat) : Fld := ⟨32, 0x02, 16, 4, b, 0, .s3, .rw⟩
def NRG.BIND.OWNER (b : Nat) : Fld := ⟨32, 0x02, 0, 4, b, 0xF, .s0, .rw⟩
def NRG.KLO.KFR (b : Nat) : Fld := ⟨32, 0x03, 0, 32, b, 0, .s0, .rw⟩
def NRG.KHI.KINT (b : Nat) : Fld := ⟨32, 0x04, 0, 32, b, 0, .s0, .rw⟩
def NRG.TOTLO.ILO (b : Nat) : Fld := ⟨32, 0x05, 0, 32, b, 0, .s3, .ro⟩
def NRG.TOTHI.IHI (b : Nat) : Fld := ⟨32, 0x06, 0, 32, b, 0, .s3, .ro⟩
def NRG.TOTFR.FR (b : Nat) : Fld := ⟨32, 0x07, 0, 32, b, 0, .s3, .ro⟩
def NRG.TARIFF.T : Fld := ⟨32, 0x08, 0, 3, 0, 0, .s3, .rw⟩
def NRG.TSWLO.GLO : Fld := ⟨32, 0x09, 0, 32, 0, 0, .s0, .ro⟩
def NRG.TSWHI.GHI : Fld := ⟨32, 0x0A, 0, 32, 0, 0, .s0, .ro⟩
def NRG.SFLAGS.WRAP (b : Nat) : Fld := ⟨32, 0x0B, 4, 1, b, 0, .s0, .ro⟩
def NRG.SFLAGS.CLAMP (b : Nat) : Fld := ⟨32, 0x0B, 3, 1, b, 0, .s0, .ro⟩
def NRG.SFLAGS.UNVER (b : Nat) : Fld := ⟨32, 0x0B, 2, 1, b, 0, .s0, .ro⟩
def NRG.SFLAGS.INV (b : Nat) : Fld := ⟨32, 0x0B, 1, 1, b, 0, .s0, .ro⟩
def NRG.SFLAGS.MRK (b : Nat) : Fld := ⟨32, 0x0B, 0, 1, b, 0, .s0, .ro⟩
def NRG.LASTLO.GLO (b : Nat) : Fld := ⟨32, 0x0C, 0, 32, b, 0, .s0, .ro⟩
def NRG.LASTHI.GHI (b : Nat) : Fld := ⟨32, 0x0D, 0, 32, b, 0, .s0, .ro⟩
def NRG.DCFG.DEXP (b : Nat) : Fld := ⟨32, 0x0E, 0, 4, b, 8, .s0, .rw⟩
def NRG.DISP.NEG (b : Nat) : Fld := ⟨32, 0x0F, 31, 1, b, 0, .s3, .ro⟩
def NRG.DISP.VALUE (b : Nat) : Fld := ⟨32, 0x0F, 0, 27, b, 0, .s3, .ro⟩
def NRG.DWRAP.WRAPS (b : Nat) : Fld := ⟨32, 0x10, 0, 16, b, 0, .s3, .ro⟩
def NRG.BCSTAT.BCRUN : Fld := ⟨32, 0x11, 8, 1, 0, 1, .s0, .ro⟩
def NRG.BCSTAT.NZ : Fld := ⟨32, 0x11, 0, 8, 0, 0, .s3, .ro⟩

/-! PULSE (09_energy.md R296) -/

def PULSE.CTRL.HSEL1 : Fld := ⟨33, 0x00, 10, 2, 0, 1, .s0, .rw⟩
def PULSE.CTRL.HSEL0 : Fld := ⟨33, 0x00, 8, 2, 0, 0, .s0, .rw⟩
def PULSE.CTRL.H1EN : Fld := ⟨33, 0x00, 5, 1, 0, 0, .s0, .rw⟩
def PULSE.CTRL.H0EN : Fld := ⟨33, 0x00, 4, 1, 0, 0, .s0, .rw⟩
def PULSE.CTRL.EN : Fld := ⟨33, 0x00, 0, 4, 0, 0, .s0, .rw⟩
def PULSE.STATUS.EWSTALE : Fld := ⟨33, 0x01, 17, 1, 0, 0, .s0, .w1c⟩
def PULSE.STATUS.EWTRIP : Fld := ⟨33, 0x01, 16, 1, 0, 0, .s0, .ro⟩
def PULSE.STATUS.BUSY : Fld := ⟨33, 0x01, 8, 4, 0, 0, .s0, .ro⟩
def PULSE.STATUS.SRCREF : Fld := ⟨33, 0x01, 4, 4, 0, 0, .s0, .w1c⟩
def PULSE.STATUS.BLSAT : Fld := ⟨33, 0x01, 0, 4, 0, 0, .s0, .w1c⟩
def PULSE.SRC.TSEL (n : Nat) : Fld := ⟨33, 0x04 + n, 8, 4, 0, 8, .s0, .rw⟩
def PULSE.SRC.SLOT (n : Nat) : Fld := ⟨33, 0x04 + n, 0, 7, 0, 0x7F, .s0, .rw⟩
def PULSE.CONST.C (n : Nat) : Fld := ⟨33, 0x08 + n, 0, 20, 0, 1000, .s0, .rw⟩
def PULSE.BLOG.COUNT (n : Nat) : Fld := ⟨33, 0x0C + n, 0, 16, 0, 0, .s2, .ro⟩
def PULSE.CNT.COUNT (n : Nat) : Fld := ⟨33, 0x10 + n, 0, 32, 0, 0, .s2, .ro⟩
def PULSE.LOST.SAT (n : Nat) : Fld := ⟨33, 0x14 + n, 31, 1, 0, 0, .s0, .rc⟩
def PULSE.LOST.COUNT (n : Nat) : Fld := ⟨33, 0x14 + n, 0, 31, 0, 0, .s0, .rc⟩
def PULSE.EWCTRL.STALE : Fld := ⟨33, 0x20, 4, 4, 0, 4, .s0, .rw⟩
def PULSE.EWCTRL.POL : Fld := ⟨33, 0x20, 2, 1, 0, 0, .s0, .rw⟩
def PULSE.EWCTRL.DIR : Fld := ⟨33, 0x20, 1, 1, 0, 0, .s0, .rw⟩
def PULSE.EWCTRL.EN : Fld := ⟨33, 0x20, 0, 1, 0, 0, .s0, .rw⟩
def PULSE.EWTRIP.TRIP : Fld := ⟨33, 0x21, 0, 32, 0, 0, .s0, .rw⟩
def PULSE.EWHYST.HYST : Fld := ⟨33, 0x22, 0, 31, 0, 0, .s0, .rw⟩
def PULSE.EWVAL.VAL : Fld := ⟨33, 0x23, 0, 32, 0, 0, .s0, .rw⟩
def PULSE.EWTRIPS.SAT : Fld := ⟨33, 0x24, 31, 1, 0, 0, .s0, .rc⟩
def PULSE.EWTRIPS.COUNT : Fld := ⟨33, 0x24, 0, 31, 0, 0, .s0, .rc⟩
def PULSE.EWCHGLO.GLO : Fld := ⟨33, 0x25, 0, 32, 0, 0, .s0, .ro⟩
def PULSE.EWCHGHI.GHI : Fld := ⟨33, 0x26, 0, 32, 0, 0, .s0, .ro⟩

/-! PQ (10_power_quality.md R331) -/

def PQ.CTRL.THDN : Fld := ⟨36, 0x00, 16, 6, 0, 40, .s0, .rw⟩
def PQ.CTRL.PHB : Fld := ⟨36, 0x00, 12, 3, 0, 0b111, .s0, .rw⟩
def PQ.CTRL.PHA : Fld := ⟨36, 0x00, 8, 3, 0, 0b111, .s0, .rw⟩
def PQ.CTRL.IHGRP : Fld := ⟨36, 0x00, 6, 1, 0, 0, .s0, .rw⟩
def PQ.CTRL.HGRP : Fld := ⟨36, 0x00, 5, 1, 0, 0, .s0, .rw⟩
def PQ.CTRL.TREN : Fld := ⟨36, 0x00, 4, 1, 0, 0, .s0, .rw⟩
def PQ.CTRL.SUPRA : Fld := ⟨36, 0x00, 3, 1, 0, 0, .s0, .rw⟩
def PQ.CTRL.HARM : Fld := ⟨36, 0x00, 2, 1, 0, 0, .s0, .rw⟩
def PQ.CTRL.ENB : Fld := ⟨36, 0x00, 1, 1, 0, 0, .s0, .rw⟩
def PQ.CTRL.ENA : Fld := ⟨36, 0x00, 0, 1, 0, 1, .s0, .rw⟩
def PQ.STATUS.THRREF : Fld := ⟨36, 0x01, 18, 1, 0, 0, .s0, .w1c⟩
def PQ.STATUS.NOPITCH : Fld := ⟨36, 0x01, 17, 1, 0, 0, .s0, .w1c⟩
def PQ.STATUS.SUPINT : Fld := ⟨36, 0x01, 16, 1, 0, 0, .s0, .ro⟩
def PQ.STATUS.NEUT : Fld := ⟨36, 0x01, 12, 4, 0, 0, .s0, .ro⟩
def PQ.STATUS.SEQB : Fld := ⟨36, 0x01, 10, 2, 0, 0, .s0, .ro⟩
def PQ.STATUS.SEQA : Fld := ⟨36, 0x01, 8, 2, 0, 0, .s0, .ro⟩
def PQ.STATUS.ACT : Fld := ⟨36, 0x01, 2, 6, 0, 0, .s0, .ro⟩
def PQ.STATUS.LEARNB : Fld := ⟨36, 0x01, 1, 1, 0, 0, .s0, .ro⟩
def PQ.STATUS.LEARNA : Fld := ⟨36, 0x01, 0, 1, 0, 0, .s0, .ro⟩
def PQ.UDINA.UDIN : Fld := ⟨36, 0x02, 0, 32, 0, 0, .s0, .rw⟩
def PQ.UDINB.UDIN : Fld := ⟨36, 0x03, 0, 32, 0, 0, .s0, .rw⟩
def PQ.THR1.SWELL : Fld := ⟨36, 0x04, 16, 16, 0, 11000, .s0, .rw⟩
def PQ.THR1.DIP : Fld := ⟨36, 0x04, 0, 16, 0, 9000, .s0, .rw⟩
def PQ.THR2.HYST : Fld := ⟨36, 0x05, 16, 16, 0, 200, .s0, .rw⟩
def PQ.THR2.INT : Fld := ⟨36, 0x05, 0, 16, 0, 500, .s0, .rw⟩
def PQ.NTHR.MISM : Fld := ⟨36, 0x06, 16, 16, 0, 2000, .s0, .rw⟩
def PQ.NTHR.DISP : Fld := ⟨36, 0x06, 0, 16, 0, 1000, .s0, .rw⟩
def PQ.NCFG.IMIN : Fld := ⟨36, 0x07, 16, 16, 0, 0x0290, .s0, .rw⟩
def PQ.NCFG.NBLK : Fld := ⟨36, 0x07, 0, 8, 0, 5, .s0, .rw⟩
def PQ.TRTHR.THR : Fld := ⟨36, 0x08, 0, 16, 0, 1000, .s0, .rw⟩
def PQ.HRMS.RMS (k : Nat) : Fld := ⟨36, 0x10 + k, 0, 32, 0, 0, .s0, .ro⟩
def PQ.CRMS.RMS (k : Nat) : Fld := ⟨36, 0x20 + k, 0, 32, 0, 0, .s0, .ro⟩
def PQ.F10.F : Fld := ⟨36, 0x30, 0, 32, 0, 0, .s0, .ro⟩
def PQ.F10STAT.UNSYNC : Fld := ⟨36, 0x31, 2, 1, 0, 0, .s0, .ro⟩
def PQ.F10STAT.HELD : Fld := ⟨36, 0x31, 1, 1, 0, 0, .s0, .ro⟩
def PQ.F10STAT.VALID : Fld := ⟨36, 0x31, 0, 1, 0, 0, .s0, .ro⟩
def PQ.F10GLO.GLO : Fld := ⟨36, 0x32, 0, 32, 0, 0, .s0, .ro⟩
def PQ.F10GHI.GHI : Fld := ⟨36, 0x33, 0, 32, 0, 0, .s0, .ro⟩
def PQ.BLKLO.GLO : Fld := ⟨36, 0x34, 0, 32, 0, 0, .s0, .ro⟩
def PQ.BLKHI.GHI : Fld := ⟨36, 0x35, 0, 32, 0, 0, .s0, .ro⟩
def PQ.NDIP.SAT : Fld := ⟨36, 0x40, 31, 1, 0, 0, .s0, .rc⟩
def PQ.NDIP.COUNT : Fld := ⟨36, 0x40, 0, 31, 0, 0, .s0, .rc⟩
def PQ.NSWL.SAT : Fld := ⟨36, 0x41, 31, 1, 0, 0, .s0, .rc⟩
def PQ.NSWL.COUNT : Fld := ⟨36, 0x41, 0, 31, 0, 0, .s0, .rc⟩
def PQ.NINT.SAT : Fld := ⟨36, 0x42, 31, 1, 0, 0, .s0, .rc⟩
def PQ.NINT.COUNT : Fld := ⟨36, 0x42, 0, 31, 0, 0, .s0, .rc⟩
def PQ.NTRANS.SAT : Fld := ⟨36, 0x43, 31, 1, 0, 0, .s0, .rc⟩
def PQ.NTRANS.COUNT : Fld := ⟨36, 0x43, 0, 31, 0, 0, .s0, .rc⟩
def PQ.NSUP.SAT : Fld := ⟨36, 0x44, 31, 1, 0, 0, .s0, .rc⟩
def PQ.NSUP.COUNT : Fld := ⟨36, 0x44, 0, 31, 0, 0, .s0, .rc⟩
def PQ.EVNEXT.EVNO : Fld := ⟨36, 0x48, 0, 32, 0, 0, .s0, .ro⟩

/-! CAPT (10_power_quality.md R332) -/

def CAPT.CTRL.TRIGSRC : Fld := ⟨37, 0x00, 8, 7, 0, 0, .s0, .rw⟩
def CAPT.PRE.PRE : Fld := ⟨37, 0x01, 0, 16, 0, 16000, .s0, .rw⟩
def CAPT.POST.POST : Fld := ⟨37, 0x02, 0, 16, 0, 16000, .s0, .rw⟩
def CAPT.CMD.DISARM : Fld := ⟨37, 0x03, 2, 1, 0, 0, .s0, .wo⟩
def CAPT.CMD.TRIG : Fld := ⟨37, 0x03, 1, 1, 0, 0, .s0, .wo⟩
def CAPT.CMD.ARM : Fld := ⟨37, 0x03, 0, 1, 0, 0, .s0, .wo⟩
def CAPT.STATUS.PRESHORT : Fld := ⟨37, 0x04, 11, 1, 0, 0, .s0, .ro⟩
def CAPT.STATUS.INCOMPLETE : Fld := ⟨37, 0x04, 10, 1, 0, 0, .s0, .w1c⟩
def CAPT.STATUS.DRAWREF : Fld := ⟨37, 0x04, 9, 1, 0, 0, .s0, .w1c⟩
def CAPT.STATUS.ARMREF : Fld := ⟨37, 0x04, 8, 1, 0, 0, .s0, .w1c⟩
def CAPT.STATUS.STATE : Fld := ⟨37, 0x04, 0, 3, 0, 0, .s0, .ro⟩
def CAPT.CAUSE.CAUSE : Fld := ⟨37, 0x05, 0, 8, 0, 0, .s0, .ro⟩
def CAPT.TGLO.GLO : Fld := ⟨37, 0x06, 0, 32, 0, 0, .s0, .ro⟩
def CAPT.TGHI.GHI : Fld := ⟨37, 0x07, 0, 32, 0, 0, .s0, .ro⟩
def CAPT.FIRSTLO.GLO : Fld := ⟨37, 0x08, 0, 32, 0, 0, .s0, .ro⟩
def CAPT.FIRSTHI.GHI : Fld := ⟨37, 0x09, 0, 32, 0, 0, .s0, .ro⟩
def CAPT.COUNT.COUNT : Fld := ⟨37, 0x0A, 0, 16, 0, 0, .s0, .ro⟩
def CAPT.MISSED.SAT : Fld := ⟨37, 0x0B, 31, 1, 0, 0, .s0, .rc⟩
def CAPT.MISSED.COUNT : Fld := ⟨37, 0x0B, 0, 31, 0, 0, .s0, .rc⟩
def CAPT.DRAW.RESTART : Fld := ⟨37, 0x0C, 9, 1, 0, 0, .s0, .wo⟩
def CAPT.DRAW.GO : Fld := ⟨37, 0x0C, 8, 1, 0, 0, .s0, .wo⟩
def CAPT.DRAW.PERMIT : Fld := ⟨37, 0x0C, 0, 4, 0, 0, .s0, .wo⟩
def CAPT.DRAWPOS.POS : Fld := ⟨37, 0x0D, 0, 16, 0, 0, .s0, .ro⟩
def CAPT.MARKS.MARKS : Fld := ⟨37, 0x0E, 0, 24, 0, 0, .s0, .ro⟩

/-! JRNL (11_journal_and_cairn.md R369) -/

def JRNL.STATUS.ACKHI : Fld := ⟨40, 0x00, 4, 1, 0, 0, .s0, .w1c⟩
def JRNL.STATUS.STGREF : Fld := ⟨40, 0x00, 3, 1, 0, 0, .s0, .w1c⟩
def JRNL.STATUS.ORDFULL : Fld := ⟨40, 0x00, 2, 1, 0, 0, .s0, .ro⟩
def JRNL.STATUS.LOWFREE : Fld := ⟨40, 0x00, 1, 1, 0, 0, .s0, .ro⟩
def JRNL.STATUS.COAL : Fld := ⟨40, 0x00, 0, 1, 0, 0, .s3, .ro⟩
def JRNL.NEXTSEQLO.SLO : Fld := ⟨40, 0x01, 0, 32, 0, 0, .s3, .ro⟩
def JRNL.NEXTSEQHI.SHI : Fld := ⟨40, 0x02, 0, 16, 0, 0, .s3, .ro⟩
def JRNL.CSEQLO.SLO : Fld := ⟨40, 0x03, 0, 32, 0, 0, .s3, .ro⟩
def JRNL.CSEQHI.SHI : Fld := ⟨40, 0x04, 0, 16, 0, 0, .s3, .ro⟩
def JRNL.ACKSEQLO.SLO : Fld := ⟨40, 0x05, 0, 32, 0, 0, .s3, .ro⟩
def JRNL.ACKSEQHI.SHI : Fld := ⟨40, 0x06, 0, 16, 0, 0, .s3, .ro⟩
def JRNL.SEG.FREE : Fld := ⟨40, 0x07, 8, 6, 0, 0, .s3, .ro⟩
def JRNL.SEG.HEADSEG : Fld := ⟨40, 0x07, 0, 6, 0, 0, .s3, .ro⟩
def JRNL.LOWWAT.LW : Fld := ⟨40, 0x08, 0, 6, 0, 8, .s0, .rw⟩
def JRNL.COALCNT.SAT : Fld := ⟨40, 0x09, 31, 1, 0, 0, .s0, .rc⟩
def JRNL.COALCNT.COUNT : Fld := ⟨40, 0x09, 0, 31, 0, 0, .s0, .rc⟩
def JRNL.GAPCNT.SAT : Fld := ⟨40, 0x0A, 31, 1, 0, 0, .s0, .rc⟩
def JRNL.GAPCNT.COUNT : Fld := ⟨40, 0x0A, 0, 31, 0, 0, .s0, .rc⟩
def JRNL.EPOCH.EPOCH : Fld := ⟨40, 0x0B, 0, 16, 0, 0, .s3, .ro⟩
def JRNL.GENLO.GLO : Fld := ⟨40, 0x0C, 0, 32, 0, 0, .s3, .ro⟩
def JRNL.GENHI.GHI : Fld := ⟨40, 0x0D, 0, 32, 0, 0, .s3, .ro⟩
def JRNL.SNAPLO.GLO : Fld := ⟨40, 0x0E, 0, 32, 0, 0, .s3, .ro⟩
def JRNL.SNAPHI.GHI : Fld := ⟨40, 0x0F, 0, 32, 0, 0, .s3, .ro⟩
def JRNL.LASTORD.ORDNO : Fld := ⟨40, 0x10, 0, 32, 0, 0, .s3, .ro⟩
def JRNL.ORDPEND.COUNT : Fld := ⟨40, 0x11, 0, 8, 0, 0, .s3, .ro⟩
def JRNL.STGCTL.KIND : Fld := ⟨40, 0x18, 0, 8, 0, 0, .s0, .rw⟩
def JRNL.STGDATA.DATA : Fld := ⟨40, 0x19, 0, 32, 0, 0, .s0, .wo⟩
def JRNL.STGGO.GO : Fld := ⟨40, 0x1A, 0, 1, 0, 0, .s0, .wo⟩

/-! CAIRN (11_journal_and_cairn.md R370) -/

def CAIRN.STATUS.TORN : Fld := ⟨41, 0x00, 4, 4, 0, 0, .s0, .ro⟩
def CAIRN.STATUS.PREF : Fld := ⟨41, 0x00, 3, 1, 0, 0, .s0, .w1c⟩
def CAIRN.STATUS.CYFLT : Fld := ⟨41, 0x00, 2, 1, 0, 0, .s0, .ro⟩
def CAIRN.STATUS.TRFLT : Fld := ⟨41, 0x00, 1, 1, 0, 0, .s0, .ro⟩
def CAIRN.STATUS.STFLT : Fld := ⟨41, 0x00, 0, 1, 0, 0, .s0, .ro⟩
def CAIRN.PCTL.ABORT : Fld := ⟨41, 0x01, 9, 1, 0, 0, .s0, .wo⟩
def CAIRN.PCTL.COMMIT : Fld := ⟨41, 0x01, 8, 1, 0, 0, .s0, .wo⟩
def CAIRN.PCTL.OPEN : Fld := ⟨41, 0x01, 7, 1, 0, 0, .s0, .wo⟩
def CAIRN.PCTL.AREA : Fld := ⟨41, 0x01, 0, 2, 0, 0, .s0, .wo⟩
def CAIRN.PADDR.WORD : Fld := ⟨41, 0x02, 0, 10, 0, 0, .s0, .rw⟩
def CAIRN.PDATA.DATA : Fld := ⟨41, 0x03, 0, 32, 0, 0, .s0, .wo⟩
def CAIRN.PSTAT.DONE : Fld := ⟨41, 0x04, 2, 1, 0, 0, .s0, .ro⟩
def CAIRN.PSTAT.BUSY : Fld := ⟨41, 0x04, 1, 1, 0, 0, .s0, .ro⟩
def CAIRN.PSTAT.OPEN : Fld := ⟨41, 0x04, 0, 1, 0, 0, .s0, .ro⟩
def CAIRN.RAREA.AREA : Fld := ⟨41, 0x08, 0, 3, 0, 0, .s0, .rw⟩
def CAIRN.RADDR.WORD : Fld := ⟨41, 0x09, 0, 16, 0, 0, .s0, .rw⟩
def CAIRN.RDATA.DATA : Fld := ⟨41, 0x0A, 0, 32, 0, 0, .s0, .ro⟩
def CAIRN.RSTAT.RERR : Fld := ⟨41, 0x0B, 1, 1, 0, 0, .s0, .w1c⟩
def CAIRN.RSTAT.READY : Fld := ⟨41, 0x0B, 0, 1, 0, 0, .s0, .ro⟩

/-! TRIM (12_calibration_and_drift.md R389) -/

def TRIM.STATUS.SCABORT : Fld := ⟨44, 0x00, 8, 1, 0, 0, .s0, .w1c⟩
def TRIM.STATUS.SCREF : Fld := ⟨44, 0x00, 7, 1, 0, 0, .s0, .w1c⟩
def TRIM.STATUS.SHDEV : Fld := ⟨44, 0x00, 6, 1, 0, 0, .s0, .ro⟩
def TRIM.STATUS.TFREEZE : Fld := ⟨44, 0x00, 5, 1, 0, 0, .s3, .ro⟩
def TRIM.STATUS.DRIFTLOST : Fld := ⟨44, 0x00, 4, 1, 0, 0, .s0, .ro⟩
def TRIM.STATUS.DIFF : Fld := ⟨44, 0x00, 3, 1, 0, 0, .s0, .ro⟩
def TRIM.STATUS.C1BAD : Fld := ⟨44, 0x00, 2, 1, 0, 0, .s0, .ro⟩
def TRIM.STATUS.C0BAD : Fld := ⟨44, 0x00, 1, 1, 0, 0, .s0, .ro⟩
def TRIM.STATUS.FROZEN : Fld := ⟨44, 0x00, 0, 1, 0, 0, .s0, .ro⟩
def TRIM.SCCTL.SPSLOT : Fld := ⟨44, 0x01, 16, 8, 0, 0, .s0, .rw⟩
def TRIM.SCCTL.PERMIT : Fld := ⟨44, 0x01, 1, 4, 0, 0, .s0, .wo⟩
def TRIM.SCCTL.GO : Fld := ⟨44, 0x01, 0, 1, 0, 0, .s0, .wo⟩
def TRIM.SCSTAT.MSKIP : Fld := ⟨44, 0x02, 16, 1, 0, 0, .s0, .ro⟩
def TRIM.SCSTAT.STRSKIP : Fld := ⟨44, 0x02, 12, 4, 0, 0, .s0, .ro⟩
def TRIM.SCSTAT.ABANDON : Fld := ⟨44, 0x02, 8, 4, 0, 0, .s0, .ro⟩
def TRIM.SCSTAT.PHASE : Fld := ⟨44, 0x02, 0, 3, 0, 0, .s0, .ro⟩
def TRIM.CSEL.CORE : Fld := ⟨44, 0x03, 0, 6, 0, 0, .s0, .rw⟩
def TRIM.CFACT.FOFS (b : Nat) : Fld := ⟨44, 0x04, 16, 12, b, 0, .s4, .ro⟩
def TRIM.CFACT.FGAIN (b : Nat) : Fld := ⟨44, 0x04, 0, 16, b, 0, .s4, .ro⟩
def TRIM.CSC.SCG (b : Nat) : Fld := ⟨44, 0x05, 16, 16, b, 0, .s0, .ro⟩
def TRIM.CSC.SCO (b : Nat) : Fld := ⟨44, 0x05, 0, 16, b, 0, .s0, .ro⟩
def TRIM.CDRIFT.DG (b : Nat) : Fld := ⟨44, 0x06, 16, 16, b, 0, .s3, .ro⟩
def TRIM.CDRIFT.DOFS (b : Nat) : Fld := ⟨44, 0x06, 0, 16, b, 0, .s3, .ro⟩
def TRIM.CTARGET.TG (b : Nat) : Fld := ⟨44, 0x07, 16, 16, b, 0, .s0, .ro⟩
def TRIM.CTARGET.TO (b : Nat) : Fld := ⟨44, 0x07, 0, 16, b, 0, .s0, .ro⟩
def TRIM.CREL.A (b : Nat) : Fld := ⟨44, 0x08, 0, 32, b, 0, .s3, .ro⟩
def TRIM.CDAC.GAIN (b : Nat) : Fld := ⟨44, 0x09, 16, 16, b, 0, .s0, .ro⟩
def TRIM.CDAC.OFS (b : Nat) : Fld := ⟨44, 0x09, 0, 12, b, 0, .s0, .ro⟩
def TRIM.CSTAT.LIMIT (b : Nat) : Fld := ⟨44, 0x0A, 3, 1, b, 0, .s0, .ro⟩
def TRIM.CSTAT.CLAMP (b : Nat) : Fld := ⟨44, 0x0A, 2, 1, b, 0, .s0, .ro⟩
def TRIM.CSTAT.RETIRED (b : Nat) : Fld := ⟨44, 0x0A, 1, 1, b, 0, .s3, .ro⟩
def TRIM.CSTAT.ABSENT (b : Nat) : Fld := ⟨44, 0x0A, 0, 1, b, 0, .s4, .ro⟩
def TRIM.DCTL.RESET : Fld := ⟨44, 0x10, 1, 1, 0, 0, .s0, .wo⟩
def TRIM.DCTL.FREEZE : Fld := ⟨44, 0x10, 0, 1, 0, 0, .s0, .rw⟩
def TRIM.DCFG.NEST : Fld := ⟨44, 0x11, 16, 12, 0, 256, .s0, .rw⟩
def TRIM.DCFG.MINSIG : Fld := ⟨44, 0x11, 0, 16, 0, 50000, .s0, .rw⟩
def TRIM.DSAVE.BLK : Fld := ⟨44, 0x12, 0, 8, 0, 16, .s0, .rw⟩
def TRIM.QCOM.TARGET (q : Nat) : Fld := ⟨44, 0x14 + q, 16, 16, 0, 0, .s0, .ro⟩
def TRIM.QCOM.QCOM (q : Nat) : Fld := ⟨44, 0x14 + q, 0, 16, 0, 0, .s3, .ro⟩
def TRIM.SHNODE.RESTART : Fld := ⟨44, 0x18, 3, 1, 0, 0, .s0, .wo⟩
def TRIM.SHNODE.EN : Fld := ⟨44, 0x18, 0, 3, 0, 0, .s0, .rw⟩
def TRIM.SHLIM.LIM : Fld := ⟨44, 0x19, 0, 16, 0, 300, .s0, .rw⟩
def TRIM.SHDEV.VALID (p : Nat) : Fld := ⟨44, 0x1A + p, 31, 1, 0, 0, .s0, .ro⟩
def TRIM.SHDEV.DEV (p : Nat) : Fld := ⟨44, 0x1A + p, 0, 24, 0, 0, .s0, .ro⟩
def TRIM.OSEL.WORD : Fld := ⟨44, 0x20, 0, 12, 0, 0, .s0, .rw⟩
def TRIM.ODATA.DATA : Fld := ⟨44, 0x21, 0, 32, 0, 0, .s4, .ro⟩
def TRIM.CALG.G (k : Nat) : Fld := ⟨44, 0x40 + k, 0, 32, 0, 0x40000000, .s0, .rw⟩
def TRIM.CALO.O (k : Nat) : Fld := ⟨44, 0x60 + k, 0, 32, 0, 0, .s0, .rw⟩
def TRIM.RATIO.R (k : Nat) : Fld := ⟨44, 0x80 + k, 0, 32, 0, 0, .s0, .rw⟩

/-! AUX (13_aux_converter.md R402) -/

def AUX.CTRL.ACQ : Fld := ⟨48, 0x00, 8, 10, 0, 32, .s0, .rw⟩
def AUX.CTRL.CONT : Fld := ⟨48, 0x00, 7, 1, 0, 0, .s0, .rw⟩
def AUX.CTRL.ALIGN : Fld := ⟨48, 0x00, 6, 1, 0, 0, .s0, .rw⟩
def AUX.CTRL.REF : Fld := ⟨48, 0x00, 4, 2, 0, 0, .s0, .rw⟩
def AUX.CTRL.AVG : Fld := ⟨48, 0x00, 0, 4, 0, 0, .s0, .rw⟩
def AUX.CH.SEL : Fld := ⟨48, 0x01, 0, 5, 0, 0x10, .s0, .rw⟩
def AUX.CMD.CAL : Fld := ⟨48, 0x02, 2, 1, 0, 0, .s0, .wo⟩
def AUX.CMD.STOP : Fld := ⟨48, 0x02, 1, 1, 0, 0, .s0, .wo⟩
def AUX.CMD.GO : Fld := ⟨48, 0x02, 0, 1, 0, 0, .s0, .wo⟩
def AUX.STATUS.CALREF : Fld := ⟨48, 0x03, 11, 1, 0, 0, .s0, .w1c⟩
def AUX.STATUS.OVR : Fld := ⟨48, 0x03, 10, 1, 0, 0, .s0, .w1c⟩
def AUX.STATUS.CHREF : Fld := ⟨48, 0x03, 9, 1, 0, 0, .s0, .w1c⟩
def AUX.STATUS.GOREF : Fld := ⟨48, 0x03, 8, 1, 0, 0, .s0, .w1c⟩
def AUX.STATUS.URGBUSY : Fld := ⟨48, 0x03, 4, 1, 0, 0, .s0, .ro⟩
def AUX.STATUS.CALBUSY : Fld := ⟨48, 0x03, 3, 1, 0, 0, .s0, .ro⟩
def AUX.STATUS.CALOK : Fld := ⟨48, 0x03, 2, 1, 0, 0, .s0, .ro⟩
def AUX.STATUS.BUSY : Fld := ⟨48, 0x03, 1, 1, 0, 0, .s0, .ro⟩
def AUX.STATUS.REFRDY : Fld := ⟨48, 0x03, 0, 1, 0, 0, .s0, .ro⟩
def AUX.RESULT.DATA : Fld := ⟨48, 0x04, 0, 32, 0, 0, .s0, .ro⟩
def AUX.RINFO.NEW : Fld := ⟨48, 0x05, 31, 1, 0, 0, .s0, .ro⟩
def AUX.RINFO.UNCAL : Fld := ⟨48, 0x05, 30, 1, 0, 0, .s0, .ro⟩
def AUX.RINFO.SIGNED : Fld := ⟨48, 0x05, 29, 1, 0, 0, .s0, .ro⟩
def AUX.RINFO.CH : Fld := ⟨48, 0x05, 0, 5, 0, 0, .s0, .ro⟩
def AUX.UDROP.SAT : Fld := ⟨48, 0x06, 16, 1, 0, 0, .s0, .rc⟩
def AUX.UDROP.COUNT : Fld := ⟨48, 0x06, 0, 16, 0, 0, .s0, .rc⟩
def AUX.ULAST.SRC : Fld := ⟨48, 0x07, 8, 2, 0, 0, .s0, .ro⟩
def AUX.ULAST.CH : Fld := ⟨48, 0x07, 0, 5, 0, 0, .s0, .ro⟩

/-! IRQ (14_interrupts.md R419) -/

def IRQ.GCTL.TEN : Fld := ⟨8, 0x00, 1, 3, 0, 0b011, .s1, .rw⟩
def IRQ.GCTL.GDIS : Fld := ⟨8, 0x00, 0, 1, 0, 0, .s1, .rw⟩
def IRQ.STATUS.HACT : Fld := ⟨8, 0x01, 0, 1, 0, 0, .s0, .ro⟩
def IRQ.SEL.PB (b : Nat) : Fld := ⟨8, 0x02, 8, 1, b, 0, .s0, .rw⟩
def IRQ.SEL.SRC (b : Nat) : Fld := ⟨8, 0x02, 0, 7, b, 0, .s0, .rw⟩
def IRQ.SCFG.RRLAST (b : Nat) : Fld := ⟨8, 0x03, 8, 2, b, 3, .s0, .ro⟩
def IRQ.SCFG.GRP (b : Nat) : Fld := ⟨8, 0x03, 5, 3, b, 0, .s1, .rw⟩
def IRQ.SCFG.CLASS (b : Nat) : Fld := ⟨8, 0x03, 4, 1, b, 0, .s1, .rw⟩
def IRQ.SCFG.TSET (b : Nat) : Fld := ⟨8, 0x03, 0, 3, b, 0b001, .s1, .rw⟩
def IRQ.SCNT.SAT (b : Nat) : Fld := ⟨8, 0x04, 8, 1, b, 0, .s0, .rc⟩
def IRQ.SCNT.COUNT (b : Nat) : Fld := ⟨8, 0x04, 0, 8, b, 0, .s0, .rc⟩
def IRQ.CCSTAT.FAST (c : Nat) : Fld := ⟨8, 0x05 + c, 8, 8, 0, 0xFF, .s0, .ro⟩
def IRQ.CCSTAT.PRES (c : Nat) : Fld := ⟨8, 0x05 + c, 0, 8, 0, 0xFF, .s0, .ro⟩
def IRQ.PPEND.PEND (c : Nat) : Fld := ⟨8, 0x08 + c, 0, 16, 0, 0, .s0, .w1c⟩
def IRQ.PMASK.MASK (c : Nat) : Fld := ⟨8, 0x0A + c, 0, 16, 0, 0xFFFF, .s1, .rw⟩
def IRQ.SWSET.SET (c : Nat) : Fld := ⟨8, 0x0C + c, 0, 8, 0, 0, .s0, .wo⟩
def IRQ.SPEND.PEND (n : Nat) : Fld := ⟨8, 0x10 + n, 0, 32, 0, 0, .s0, .w1c⟩
def IRQ.SMASK.MASK (n : Nat) : Fld := ⟨8, 0x14 + n, 0, 32, 0, 0xFFFFFFFF, .s1, .rw⟩
def IRQ.HPEND.PEND (n : Nat) : Fld := ⟨8, 0x18 + n, 0, 32, 0, 0, .s0, .ro⟩
def IRQ.HOLD.RUN (g : Nat) : Fld := ⟨8, 0x20 + g, 31, 1, 0, 0, .s0, .ro⟩
def IRQ.HOLD.HOLD (g : Nat) : Fld := ⟨8, 0x20 + g, 0, 16, 0, 0, .s1, .rw⟩
def IRQ.TMR.EN (c : Nat) : Fld := ⟨8, 0x28 + c, 16, 1, 0, 0, .s0, .rw⟩
def IRQ.TMR.PERIOD (c : Nat) : Fld := ⟨8, 0x28 + c, 0, 16, 0, 1, .s0, .rw⟩
def IRQ.XCFG.WAKE (l : Nat) : Fld := ⟨8, 0x30 + l, 10, 1, 0, 0, .s1, .rw⟩
def IRQ.XCFG.EDGE (l : Nat) : Fld := ⟨8, 0x30 + l, 8, 2, 0, 2, .s1, .rw⟩
def IRQ.XCFG.FLT (l : Nat) : Fld := ⟨8, 0x30 + l, 0, 8, 0, 32, .s1, .rw⟩
def IRQ.XSTAT.GLITCH : Fld := ⟨8, 0x34, 8, 3, 0, 0, .s2, .w1c⟩
def IRQ.XSTAT.LATCH : Fld := ⟨8, 0x34, 4, 3, 0, 0, .s2, .w1c⟩
def IRQ.XSTAT.LEVEL : Fld := ⟨8, 0x34, 0, 3, 0, 0, .s0, .ro⟩

/-! MODEM (15_line_modem.md R445) -/

def MODEM.CTRL.BAND : Fld := ⟨52, 0x00, 1, 1, 0, 0, .s0, .rw⟩
def MODEM.CTRL.EN : Fld := ⟨52, 0x00, 0, 1, 0, 0, .s0, .rw⟩
def MODEM.STATUS.RXOVF : Fld := ⟨52, 0x01, 8, 1, 0, 0, .s0, .w1c⟩
def MODEM.STATUS.LENREF : Fld := ⟨52, 0x01, 7, 1, 0, 0, .s0, .w1c⟩
def MODEM.STATUS.TXREF : Fld := ⟨52, 0x01, 6, 1, 0, 0, .s0, .w1c⟩
def MODEM.STATUS.PERMWAIT : Fld := ⟨52, 0x01, 5, 1, 0, 0, .s0, .ro⟩
def MODEM.STATUS.LBTWAIT : Fld := ⟨52, 0x01, 4, 1, 0, 0, .s0, .ro⟩
def MODEM.STATUS.WAITACK : Fld := ⟨52, 0x01, 3, 1, 0, 0, .s0, .ro⟩
def MODEM.STATUS.RXSYNC : Fld := ⟨52, 0x01, 2, 1, 0, 0, .s0, .ro⟩
def MODEM.STATUS.TXON : Fld := ⟨52, 0x01, 1, 1, 0, 0, .s0, .ro⟩
def MODEM.STATUS.TXBUSY : Fld := ⟨52, 0x01, 0, 1, 0, 0, .s0, .ro⟩
def MODEM.ADDR.ADDR : Fld := ⟨52, 0x02, 0, 16, 0, 0xFFFE, .s0, .rw⟩
def MODEM.TXCFG.RETRY : Fld := ⟨52, 0x03, 12, 3, 0, 4, .s0, .rw⟩
def MODEM.TXCFG.PCLS : Fld := ⟨52, 0x03, 8, 2, 0, 2, .s0, .rw⟩
def MODEM.TXCFG.ATT : Fld := ⟨52, 0x03, 0, 5, 0, 30, .s0, .rw⟩
def MODEM.TXDESC.DST : Fld := ⟨52, 0x04, 16, 16, 0, 0xFFFF, .s0, .rw⟩
def MODEM.TXDESC.NOACK : Fld := ⟨52, 0x04, 15, 1, 0, 0, .s0, .rw⟩
def MODEM.TXDESC.LEN : Fld := ⟨52, 0x04, 4, 9, 0, 0, .s0, .rw⟩
def MODEM.TXDESC.SLOT : Fld := ⟨52, 0x04, 0, 3, 0, 0, .s0, .rw⟩
def MODEM.TXGO.CANCEL : Fld := ⟨52, 0x05, 1, 1, 0, 0, .s0, .wo⟩
def MODEM.TXGO.GO : Fld := ⟨52, 0x05, 0, 1, 0, 0, .s0, .wo⟩
def MODEM.TXRES.SEQ : Fld := ⟨52, 0x06, 8, 8, 0, 0, .s0, .ro⟩
def MODEM.TXRES.TRIES : Fld := ⟨52, 0x06, 4, 3, 0, 0, .s0, .ro⟩
def MODEM.TXRES.RESULT : Fld := ⟨52, 0x06, 0, 3, 0, 0, .s0, .ro⟩
def MODEM.TXSTLO.GLO : Fld := ⟨52, 0x07, 0, 32, 0, 0, .s0, .ro⟩
def MODEM.TXSTHI.GHI : Fld := ⟨52, 0x08, 0, 32, 0, 0, .s0, .ro⟩
def MODEM.ACKTO.TO : Fld := ⟨52, 0x09, 0, 16, 0, 12800, .s0, .rw⟩
def MODEM.RXCFG.LBTTHR : Fld := ⟨52, 0x0A, 16, 16, 0, 0x0400, .s0, .rw⟩
def MODEM.RXCFG.PROMISC : Fld := ⟨52, 0x0A, 8, 1, 0, 0, .s0, .rw⟩
def MODEM.RXCFG.ERAT : Fld := ⟨52, 0x0A, 0, 4, 0, 8, .s0, .rw⟩
def MODEM.RXHEAD.HEAD : Fld := ⟨52, 0x0B, 0, 6, 0, 0, .s0, .ro⟩
def MODEM.RXTAIL.TAIL : Fld := ⟨52, 0x0C, 0, 6, 0, 0, .s0, .rw⟩
def MODEM.NRX.SAT : Fld := ⟨52, 0x0D, 31, 1, 0, 0, .s0, .rc⟩
def MODEM.NRX.COUNT : Fld := ⟨52, 0x0D, 0, 31, 0, 0, .s0, .rc⟩
def MODEM.NCRC.SAT : Fld := ⟨52, 0x0E, 31, 1, 0, 0, .s0, .rc⟩
def MODEM.NCRC.COUNT : Fld := ⟨52, 0x0E, 0, 31, 0, 0, .s0, .rc⟩
def MODEM.NRETRY.SAT : Fld := ⟨52, 0x0F, 31, 1, 0, 0, .s0, .rc⟩
def MODEM.NRETRY.COUNT : Fld := ⟨52, 0x0F, 0, 31, 0, 0, .s0, .rc⟩
def MODEM.NERAS.SAT : Fld := ⟨52, 0x10, 31, 1, 0, 0, .s0, .rc⟩
def MODEM.NERAS.COUNT : Fld := ⟨52, 0x10, 0, 31, 0, 0, .s0, .rc⟩
def MODEM.NDUP.SAT : Fld := ⟨52, 0x11, 31, 1, 0, 0, .s0, .rc⟩
def MODEM.NDUP.COUNT : Fld := ⟨52, 0x11, 0, 31, 0, 0, .s0, .rc⟩
def MODEM.PERMIT.VALID : Fld := ⟨52, 0x12, 4, 1, 0, 0, .s0, .ro⟩
def MODEM.PERMIT.NUM : Fld := ⟨52, 0x12, 0, 4, 0, 0, .s0, .ro⟩

/-! GLASS (16_glass.md R464) -/

def GLASS.CTRL.MODE : Fld := ⟨56, 0x00, 1, 2, 0, 0, .s1, .rw⟩
def GLASS.CTRL.EN : Fld := ⟨56, 0x00, 0, 1, 0, 0, .s1, .rw⟩
def GLASS.STATUS.CFGREF : Fld := ⟨56, 0x01, 9, 1, 0, 0, .s0, .w1c⟩
def GLASS.STATUS.REQREF : Fld := ⟨56, 0x01, 8, 1, 0, 0, .s0, .w1c⟩
def GLASS.STATUS.TBLREF : Fld := ⟨56, 0x01, 7, 1, 0, 0, .s0, .w1c⟩
def GLASS.STATUS.PUMPFLT : Fld := ⟨56, 0x01, 6, 1, 0, 0, .s0, .w1c⟩
def GLASS.STATUS.TSTALE : Fld := ⟨56, 0x01, 5, 1, 0, 0, .s0, .ro⟩
def GLASS.STATUS.VIEWON : Fld := ⟨56, 0x01, 4, 1, 0, 0, .s0, .ro⟩
def GLASS.STATUS.BALUNK : Fld := ⟨56, 0x01, 3, 1, 0, 0, .s2, .ro⟩
def GLASS.STATUS.COMPPEND : Fld := ⟨56, 0x01, 2, 1, 0, 0, .s2, .ro⟩
def GLASS.STATUS.BUSY : Fld := ⟨56, 0x01, 1, 1, 0, 0, .s0, .ro⟩
def GLASS.STATUS.PUMPOK : Fld := ⟨56, 0x01, 0, 1, 0, 0, .s0, .ro⟩
def GLASS.LCDCFG.H : Fld := ⟨56, 0x02, 16, 4, 0, 1, .s1, .rw⟩
def GLASS.LCDCFG.GDIV : Fld := ⟨56, 0x02, 8, 6, 0, 32, .s1, .rw⟩
def GLASS.LCDCFG.BIAS : Fld := ⟨56, 0x02, 4, 2, 0, 2, .s1, .rw⟩
def GLASS.LCDCFG.MUX : Fld := ⟨56, 0x02, 0, 3, 0, 3, .s1, .rw⟩
def GLASS.VLCD.SLOPE : Fld := ⟨56, 0x03, 16, 5, 0, 0, .s1, .rw⟩
def GLASS.VLCD.VSET : Fld := ⟨56, 0x03, 0, 13, 0, 3000, .s1, .rw⟩
def GLASS.NTC.C0 : Fld := ⟨56, 0x04, 16, 16, 0, 0, .s1, .rw⟩
def GLASS.NTC.NTCEN : Fld := ⟨56, 0x04, 7, 1, 0, 0, .s1, .rw⟩
def GLASS.NTC.CH : Fld := ⟨56, 0x04, 0, 3, 0, 0, .s1, .rw⟩
def GLASS.NTCK.K : Fld := ⟨56, 0x05, 0, 16, 0, 0, .s1, .rw⟩
def GLASS.TEMP.VOUT : Fld := ⟨56, 0x06, 16, 16, 0, 0, .s0, .ro⟩
def GLASS.TEMP.T : Fld := ⟨56, 0x06, 0, 16, 0, 2500, .s1, .ro⟩
def GLASS.LIMGLO.SEG (c : Nat) : Fld := ⟨56, 0x10 + 2 * c, 0, 32, 0, 0, .s0, .rw⟩
def GLASS.LIMGHI.SEG (c : Nat) : Fld := ⟨56, 0x11 + 2 * c, 0, 20, 0, 0, .s0, .rw⟩
def GLASS.FIMGLO.SEG (c : Nat) : Fld := ⟨56, 0x20 + 2 * c, 0, 32, 0, 0, .s1, .rw⟩
def GLASS.FIMGHI.SEG (c : Nat) : Fld := ⟨56, 0x21 + 2 * c, 0, 20, 0, 0, .s1, .rw⟩
def GLASS.RMLO.MASK (r : Nat) : Fld := ⟨56, 0x30 + 2 * r, 0, 32, 0, 0, .s0, .rw⟩
def GLASS.RMHI.MASK (r : Nat) : Fld := ⟨56, 0x31 + 2 * r, 0, 20, 0, 0, .s0, .rw⟩
def GLASS.BSTLO.DARK : Fld := ⟨56, 0x40, 0, 32, 0, 0, .s2, .ro⟩
def GLASS.BSTHI.UNKNOWN : Fld := ⟨56, 0x41, 20, 1, 0, 0, .s2, .ro⟩
def GLASS.BSTHI.DARK : Fld := ⟨56, 0x41, 0, 20, 0, 0, .s2, .ro⟩
def GLASS.RQLO.DARK : Fld := ⟨56, 0x42, 0, 32, 0, 0, .s0, .rw⟩
def GLASS.RQHI.DARK : Fld := ⟨56, 0x43, 0, 20, 0, 0, .s0, .rw⟩
def GLASS.RQGO.GO : Fld := ⟨56, 0x44, 12, 1, 0, 0, .s0, .wo⟩
def GLASS.RQGO.PERMIT : Fld := ⟨56, 0x44, 8, 4, 0, 0, .s0, .wo⟩
def GLASS.RQGO.TABLE : Fld := ⟨56, 0x44, 4, 2, 0, 0, .s0, .wo⟩
def GLASS.RQGO.REGION : Fld := ⟨56, 0x44, 0, 3, 0, 0, .s0, .wo⟩
def GLASS.BSTAT.PEND : Fld := ⟨56, 0x45, 24, 8, 0, 0, .s0, .ro⟩
def GLASS.BSTAT.STEP : Fld := ⟨56, 0x45, 16, 8, 0, 0, .s0, .ro⟩
def GLASS.BSTAT.PHASE : Fld := ⟨56, 0x45, 12, 4, 0, 0, .s0, .ro⟩
def GLASS.BSTAT.COMP : Fld := ⟨56, 0x45, 11, 1, 0, 0, .s0, .ro⟩
def GLASS.BSTAT.RUNREG : Fld := ⟨56, 0x45, 8, 3, 0, 0, .s0, .ro⟩
def GLASS.BSTAT.RUN : Fld := ⟨56, 0x45, 7, 1, 0, 0, .s0, .ro⟩
def GLASS.BSTAT.LASTRES : Fld := ⟨56, 0x45, 3, 4, 0, 0, .s0, .ro⟩
def GLASS.BSTAT.LASTREG : Fld := ⟨56, 0x45, 0, 3, 0, 0, .s0, .ro⟩
def GLASS.NSUP.SAT : Fld := ⟨56, 0x46, 31, 1, 0, 0, .s0, .rc⟩
def GLASS.NSUP.COUNT : Fld := ⟨56, 0x46, 0, 31, 0, 0, .s0, .rc⟩
def GLASS.TADDR.TABLE : Fld := ⟨56, 0x48, 4, 2, 0, 0, .s0, .rw⟩
def GLASS.TADDR.PHASE : Fld := ⟨56, 0x48, 0, 4, 0, 0, .s0, .rw⟩
def GLASS.TDATA.WORD (b : Nat) : Fld := ⟨56, 0x49, 0, 16, b, 0, .s0, .rw⟩
def GLASS.TCHK.GO : Fld := ⟨56, 0x4A, 8, 1, 0, 0, .s0, .wo⟩
def GLASS.TCHK.TABLE : Fld := ⟨56, 0x4A, 0, 2, 0, 0, .s0, .wo⟩
def GLASS.TVALID.VALID : Fld := ⟨56, 0x4B, 0, 4, 0, 0, .s0, .ro⟩
def GLASS.BSEL.SEG (b : Nat) : Fld := ⟨56, 0x4C, 0, 6, b, 0, .s0, .rw⟩
def GLASS.BAL.BAL (b : Nat) : Fld := ⟨56, 0x4D, 0, 32, b, 0, .s2, .ro⟩
def GLASS.TFLAG.TABLE : Fld := ⟨56, 0x4E, 20, 2, 0, 0, .s1, .rw⟩
def GLASS.TFLAG.EN : Fld := ⟨56, 0x4E, 16, 1, 0, 0, .s1, .rw⟩
def GLASS.TFLAG.SEG : Fld := ⟨56, 0x4E, 8, 6, 0, 0, .s1, .rw⟩
def GLASS.TFLAG.COM : Fld := ⟨56, 0x4E, 0, 3, 0, 0, .s1, .rw⟩
def GLASS.VIEW.LINES : Fld := ⟨56, 0x50, 1, 2, 0, 0, .s1, .rw⟩
def GLASS.VIEW.EN : Fld := ⟨56, 0x50, 0, 1, 0, 0, .s1, .rw⟩
def GLASS.CRKCFG.LIM : Fld := ⟨56, 0x58, 16, 16, 0, 200, .s1, .rw⟩
def GLASS.CRKCFG.PER : Fld := ⟨56, 0x58, 8, 8, 0, 10, .s1, .rw⟩
def GLASS.CRKCFG.EN : Fld := ⟨56, 0x58, 0, 1, 0, 0, .s1, .rw⟩
def GLASS.CRKPCFG.PPER : Fld := ⟨56, 0x59, 0, 8, 0, 32, .s1, .rw⟩
def GLASS.CRKRES.VALID : Fld := ⟨56, 0x5A, 31, 1, 0, 0, .s0, .ro⟩
def GLASS.CRKRES.R : Fld := ⟨56, 0x5A, 0, 16, 0, 0, .s0, .ro⟩
def GLASS.CRKBASE.VALID : Fld := ⟨56, 0x5B, 31, 1, 0, 0, .s2, .ro⟩
def GLASS.CRKBASE.R : Fld := ⟨56, 0x5B, 0, 16, 0, 0, .s2, .ro⟩
def GLASS.CRKSTAT.STALE : Fld := ⟨56, 0x5C, 4, 1, 0, 0, .s0, .ro⟩
def GLASS.CRKSTAT.PFAIL : Fld := ⟨56, 0x5C, 3, 1, 0, 0, .s0, .ro⟩
def GLASS.CRKSTAT.OPEN : Fld := ⟨56, 0x5C, 2, 1, 0, 0, .s0, .ro⟩
def GLASS.CRKSTAT.DRIFT : Fld := ⟨56, 0x5C, 1, 1, 0, 0, .s0, .ro⟩
def GLASS.CRKSTAT.BASENEW : Fld := ⟨56, 0x5C, 0, 1, 0, 0, .s0, .ro⟩

/-! TAMP (17_tamper_and_access.md R490) -/

def TAMP.STICKY.FI : Fld := ⟨60, 0x00, 16, 1, 0, 0, .s3, .ro⟩
def TAMP.STICKY.DETFLT : Fld := ⟨60, 0x00, 8, 8, 0, 0, .s3, .ro⟩
def TAMP.STICKY.ALARM : Fld := ⟨60, 0x00, 0, 8, 0, 0, .s3, .ro⟩
def TAMP.STATE.D2 : Fld := ⟨60, 0x01, 16, 8, 0, 0, .s0, .ro⟩
def TAMP.STATE.D1 : Fld := ⟨60, 0x01, 8, 8, 0, 0, .s0, .ro⟩
def TAMP.STATE.COMB : Fld := ⟨60, 0x01, 0, 8, 0, 0, .s0, .ro⟩
def TAMP.INFORCE.RESP : Fld := ⟨60, 0x02, 2, 3, 0, 0, .s3, .ro⟩
def TAMP.RING.DROP : Fld := ⟨60, 0x03, 16, 16, 0, 0, .s2, .ro⟩
def TAMP.RING.USED : Fld := ⟨60, 0x03, 0, 5, 0, 0, .s2, .ro⟩
def TAMP.SEL.SRC (b : Nat) : Fld := ⟨60, 0x04, 0, 3, b, 0, .s0, .rw⟩
def TAMP.CFG.WIN (b : Nat) : Fld := ⟨60, 0x05, 16, 16, b, 60, .s1, .rw⟩
def TAMP.CFG.N (b : Nat) : Fld := ⟨60, 0x05, 12, 4, b, 1, .s1, .rw⟩
def TAMP.CFG.RESP (b : Nat) : Fld := ⟨60, 0x05, 6, 6, b, 0b000011, .s1, .rw⟩
def TAMP.CFG.D2EN (b : Nat) : Fld := ⟨60, 0x05, 3, 1, b, (if b ≤ 1 then 0 else 1), .s1, .rw⟩
def TAMP.CFG.D1EN (b : Nat) : Fld := ⟨60, 0x05, 2, 1, b, 1, .s1, .rw⟩
def TAMP.CFG.COMB (b : Nat) : Fld := ⟨60, 0x05, 1, 1, b, 0, .s1, .rw⟩
def TAMP.CFG.EN (b : Nat) : Fld := ⟨60, 0x05, 0, 1, b, 1, .s1, .rw⟩
def TAMP.THR1.HI (b : Nat) : Fld := ⟨60, 0x06, 16, 16, b, (if b = 1 then 0x7FFF else 0xFFFF), .s1, .rw⟩
def TAMP.THR1.LO (b : Nat) : Fld := ⟨60, 0x06, 0, 16, b, (if b = 1 then 0x8000 else 0), .s1, .rw⟩
def TAMP.THR2.HI (b : Nat) : Fld := ⟨60, 0x07, 16, 16, b, 0xFFFF, .s1, .rw⟩
def TAMP.THR2.LO (b : Nat) : Fld := ⟨60, 0x07, 0, 16, b, 0, .s1, .rw⟩
def TAMP.DFWIN.TICKS : Fld := ⟨60, 0x08, 0, 16, 0, 64, .s1, .rw⟩
def TAMP.CNT.SAT : Fld := ⟨60, 0x09, 31, 1, 0, 0, .s2, .rc⟩
def TAMP.CNT.COUNT : Fld := ⟨60, 0x09, 0, 31, 0, 0, .s2, .rc⟩
def TAMP.TEST.MASK : Fld := ⟨60, 0x0A, 0, 8, 0, 0, .s0, .wo⟩
def TAMP.TESTRES.FAIL : Fld := ⟨60, 0x0B, 8, 8, 0, 0, .s0, .w1c⟩
def TAMP.TESTRES.DONE : Fld := ⟨60, 0x0B, 0, 8, 0, 0, .s0, .w1c⟩
def TAMP.AVAIL.D2 : Fld := ⟨60, 0x0C, 8, 8, 0, 0, .s0, .ro⟩
def TAMP.AVAIL.D1 : Fld := ⟨60, 0x0C, 0, 8, 0, 0, .s0, .ro⟩

/-! ACCESS (17_tamper_and_access.md R491) -/

def ACCESS.LEVEL.FPSET : Fld := ⟨61, 0x00, 12, 1, 0, 0, .s4, .ro⟩
def ACCESS.LEVEL.PLOCK : Fld := ⟨61, 0x00, 11, 1, 0, 0, .s4, .ro⟩
def ACCESS.LEVEL.PWSET : Fld := ⟨61, 0x00, 10, 1, 0, 0, .s2, .ro⟩
def ACCESS.LEVEL.LOCKED : Fld := ⟨61, 0x00, 9, 1, 0, 0, .s3, .ro⟩
def ACCESS.LEVEL.LEVEL : Fld := ⟨61, 0x00, 0, 3, 0, 0, .s0, .ro⟩
def ACCESS.FAIL.COUNT : Fld := ⟨61, 0x01, 0, 16, 0, 0, .s3, .ro⟩
def ACCESS.BACKOFF.SEC : Fld := ⟨61, 0x02, 0, 12, 0, 0, .s3, .ro⟩
def ACCESS.KGEN.KGEN : Fld := ⟨61, 0x03, 0, 32, 0, 0, .s3, .ro⟩
def ACCESS.CTRL.IDLE : Fld := ⟨61, 0x04, 0, 8, 0, 15, .s1, .rw⟩
def ACCESS.CLOSE.CLOSE : Fld := ⟨61, 0x05, 0, 1, 0, 0, .s0, .wo⟩
def ACCESS.MSEL.WORD (b : Nat) : Fld := ⟨61, 0x08, 2, 3, b, 0, .s0, .rw⟩
def ACCESS.MSEL.REG (b : Nat) : Fld := ⟨61, 0x08, 0, 2, b, 0, .s0, .rw⟩
def ACCESS.MDATA.DATA (b : Nat) : Fld := ⟨61, 0x09, 0, 32, b, 0, .s0, .ro⟩
def ACCESS.MCNT.CNT : Fld := ⟨61, 0x0A, 0, 32, 0, 0, .s0, .ro⟩

/-! PERMIT (18_power_states_and_reset.md R513) -/

def PERMIT.BUDGET.LIMIT : Fld := ⟨3, 0x00, 0, 16, 0, 2600, .s1, .rw⟩
def PERMIT.EFFECT.SUPPLY : Fld := ⟨3, 0x01, 16, 16, 0, 2000, .s0, .ro⟩
def PERMIT.EFFECT.EFF : Fld := ⟨3, 0x01, 0, 16, 0, 2000, .s0, .ro⟩
def PERMIT.USE.QUEUED : Fld := ⟨3, 0x02, 16, 16, 0, 0, .s0, .ro⟩
def PERMIT.USE.GRANTED : Fld := ⟨3, 0x02, 0, 16, 0, 0, .s0, .ro⟩
def PERMIT.BASE.BASE : Fld := ⟨3, 0x03, 0, 16, 0, 950, .s4, .ro⟩
def PERMIT.MAXHOLD.GRAINS : Fld := ⟨3, 0x04, 0, 24, 0, 960000, .s1, .rw⟩
def PERMIT.REL.NUM : Fld := ⟨3, 0x05, 0, 4, 0, 0, .s0, .wo⟩
def PERMIT.STATUS.FROZEN : Fld := ⟨3, 0x06, 2, 1, 0, 0, .s0, .ro⟩
def PERMIT.STATUS.REVOKED : Fld := ⟨3, 0x06, 1, 1, 0, 0, .s0, .w1c⟩
def PERMIT.STATUS.RELREF : Fld := ⟨3, 0x06, 0, 1, 0, 0, .s0, .w1c⟩
def PERMIT.REVOKES.SAT : Fld := ⟨3, 0x07, 31, 1, 0, 0, .s0, .rc⟩
def PERMIT.REVOKES.COUNT : Fld := ⟨3, 0x07, 0, 31, 0, 0, .s0, .rc⟩
def PERMIT.SLOT.DRAW (p : Nat) : Fld := ⟨3, 0x10 + p, 16, 16, 0, 0, .s0, .ro⟩
def PERMIT.SLOT.HOLDER (p : Nat) : Fld := ⟨3, 0x10 + p, 8, 8, 0, 0xFF, .s0, .ro⟩
def PERMIT.SLOT.CLASS (p : Nat) : Fld := ⟨3, 0x10 + p, 4, 2, 0, 0, .s0, .ro⟩
def PERMIT.SLOT.STATE (p : Nat) : Fld := ⟨3, 0x10 + p, 0, 2, 0, 0, .s0, .ro⟩
def PERMIT.REM.GRAINS (p : Nat) : Fld := ⟨3, 0x20 + p, 0, 24, 0, 0, .s0, .ro⟩

/-! PWR (18_power_states_and_reset.md R514) -/

def PWR.STATE.HOSTABS : Fld := ⟨64, 0x00, 10, 1, 0, 0, .s0, .w1c⟩
def PWR.STATE.CELLOK : Fld := ⟨64, 0x00, 9, 1, 0, 0, .s0, .ro⟩
def PWR.STATE.SFW : Fld := ⟨64, 0x00, 8, 1, 0, 0, .s0, .ro⟩
def PWR.STATE.STATE : Fld := ⟨64, 0x00, 0, 1, 0, 1, .s0, .ro⟩
def PWR.SFTHR.HYST : Fld := ⟨64, 0x01, 8, 8, 0, 20, .s1, .rw⟩
def PWR.SFTHR.THR : Fld := ⟨64, 0x01, 0, 8, 0, 100, .s1, .rw⟩
def PWR.BULK.V : Fld := ⟨64, 0x02, 0, 16, 0, 0, .s0, .ro⟩
def PWR.CELL.MV : Fld := ⟨64, 0x03, 0, 16, 0, 0, .s2, .ro⟩
def PWR.HOSTTO.SEC : Fld := ⟨64, 0x04, 0, 16, 0, 0, .s1, .rw⟩
def PWR.DOM.ON : Fld := ⟨64, 0x05, 0, 7, 0, 0, .s0, .ro⟩
def PWR.BVCFG.EN : Fld := ⟨64, 0x08, 16, 8, 0, 0, .s1, .rw⟩
def PWR.BVCFG.PERIOD : Fld := ⟨64, 0x08, 0, 9, 0, 4, .s1, .rw⟩
def PWR.BVWIN.SAT : Fld := ⟨64, 0x09, 31, 1, 0, 0, .s2, .rc⟩
def PWR.BVWIN.COUNT : Fld := ⟨64, 0x09, 0, 31, 0, 0, .s2, .rc⟩
def PWR.BVCH.SEL (n : Nat) : Fld := ⟨64, 0x10 + n, 0, 5, 0, 0x11, .s1, .rw⟩
def PWR.BVTHR.HI (n : Nat) : Fld := ⟨64, 0x18 + n, 16, 16, 0, 0xFFFF, .s1, .rw⟩
def PWR.BVTHR.LO (n : Nat) : Fld := ⟨64, 0x18 + n, 0, 16, 0, 0, .s1, .rw⟩
def PWR.BVCNT.SAT (n : Nat) : Fld := ⟨64, 0x20 + n, 31, 1, 0, 0, .s2, .rc⟩
def PWR.BVCNT.COUNT (n : Nat) : Fld := ⟨64, 0x20 + n, 0, 31, 0, 0, .s2, .rc⟩
def PWR.BVLAST.CODE (n : Nat) : Fld := ⟨64, 0x28 + n, 0, 16, 0, 0, .s2, .ro⟩

/-! RST (18_power_states_and_reset.md R515) -/

def RST.CAUSE.SAVEBAD : Fld := ⟨65, 0x00, 16, 1, 0, 0, .s0, .ro⟩
def RST.CAUSE.PREV : Fld := ⟨65, 0x00, 8, 8, 0, 0, .s2, .ro⟩
def RST.CAUSE.CAUSE : Fld := ⟨65, 0x00, 0, 8, 0, 1, .s0, .ro⟩
def RST.NRESET.SAT : Fld := ⟨65, 0x01, 31, 1, 0, 0, .s2, .rc⟩
def RST.NRESET.COUNT : Fld := ⟨65, 0x01, 0, 31, 0, 0, .s2, .rc⟩
def RST.CMD.KEY : Fld := ⟨65, 0x02, 0, 8, 0, 0, .s0, .wo⟩
def RST.WDCFG.WARN (c : Nat) : Fld := ⟨65, 0x04 + c, 16, 16, 0, 100, .s0, .rw⟩
def RST.WDCFG.PERIOD (c : Nat) : Fld := ⟨65, 0x04 + c, 0, 16, 0, 1000, .s0, .rw⟩
def RST.WDSERVE.KEY (c : Nat) : Fld := ⟨65, 0x06 + c, 0, 8, 0, 0, .s0, .wo⟩
def RST.WDREM.MS (c : Nat) : Fld := ⟨65, 0x08 + c, 0, 16, 0, 1000, .s0, .ro⟩

/-! HOST (19_host_link.md R531) -/

def HOST.STATUS.EXPVALID : Fld := ⟨72, 0x00, 6, 1, 0, 0, .s0, .ro⟩
def HOST.STATUS.HRDY : Fld := ⟨72, 0x00, 5, 1, 0, 0, .s0, .ro⟩
def HOST.STATUS.OBFULL : Fld := ⟨72, 0x00, 4, 1, 0, 0, .s0, .ro⟩
def HOST.STATUS.FREE : Fld := ⟨72, 0x00, 0, 4, 0, 8, .s0, .ro⟩
def HOST.EXP.SEQ : Fld := ⟨72, 0x01, 0, 32, 0, 0, .s0, .ro⟩
def HOST.DWMARK.SEQ : Fld := ⟨72, 0x02, 0, 32, 0, 0, .s3, .ro⟩
def HOST.WMARK.SEQ : Fld := ⟨72, 0x03, 0, 32, 0, 0, .s1, .ro⟩
def HOST.OUTSEQ.SEQ : Fld := ⟨72, 0x04, 0, 32, 0, 0, .s0, .ro⟩
def HOST.IBSEL.SLOT (b : Nat) : Fld := ⟨72, 0x08, 8, 3, b, 0, .s0, .rw⟩
def HOST.IBSEL.WORD (b : Nat) : Fld := ⟨72, 0x08, 0, 8, b, 0, .s0, .rw⟩
def HOST.IBDATA.DATA (b : Nat) : Fld := ⟨72, 0x09, 0, 32, b, 0, .s0, .ro⟩
def HOST.IBPEND.PEND : Fld := ⟨72, 0x0A, 0, 8, 0, 0, .s0, .ro⟩
def HOST.OBLEN.LEN : Fld := ⟨72, 0x0C, 0, 13, 0, 0, .s0, .rw⟩
def HOST.OBDATA.DATA : Fld := ⟨72, 0x0D, 0, 32, 0, 0, .s0, .wo⟩
def HOST.OBGO.TYPE : Fld := ⟨72, 0x0E, 8, 8, 0, 0, .s0, .wo⟩
def HOST.OBGO.DUP : Fld := ⟨72, 0x0E, 7, 1, 0, 0, .s0, .wo⟩
def HOST.OBGO.SLOT : Fld := ⟨72, 0x0E, 4, 3, 0, 0, .s0, .wo⟩
def HOST.OBGO.ANSWER : Fld := ⟨72, 0x0E, 1, 1, 0, 0, .s0, .wo⟩
def HOST.OBGO.GO : Fld := ⟨72, 0x0E, 0, 1, 0, 0, .s0, .wo⟩
def HOST.OBFREE.BYTES : Fld := ⟨72, 0x0F, 0, 14, 0, 8192, .s0, .ro⟩
def HOST.NBAD.SAT : Fld := ⟨72, 0x10, 31, 1, 0, 0, .s0, .rc⟩
def HOST.NBAD.COUNT : Fld := ⟨72, 0x10, 0, 31, 0, 0, .s0, .rc⟩
def HOST.NDISC.SAT : Fld := ⟨72, 0x11, 31, 1, 0, 0, .s0, .rc⟩
def HOST.NDISC.COUNT : Fld := ⟨72, 0x11, 0, 31, 0, 0, .s0, .rc⟩
def HOST.NGAP.SAT : Fld := ⟨72, 0x12, 31, 1, 0, 0, .s0, .rc⟩
def HOST.NGAP.COUNT : Fld := ⟨72, 0x12, 0, 31, 0, 0, .s0, .rc⟩
def HOST.NDUP.SAT : Fld := ⟨72, 0x13, 31, 1, 0, 0, .s0, .rc⟩
def HOST.NDUP.COUNT : Fld := ⟨72, 0x13, 0, 31, 0, 0, .s0, .rc⟩

end Sys2Proof.Machine
end

