-- ==== Sys2Proof/Machine/RegTable.lean ====
section
/-! DEFINITION. The register tables of the units: for each register its first index, how many copies it has and how far
apart, and its fields with the values the spec says are stored in place of others. -/

namespace Sys2Proof.Machine

/-- The registers of SYS (01_architecture.md R40). -/
def regsSys : List Reg :=
  [ ⟨0x00, 1, 1, [⟨SYS.ID.FAMILY, []⟩, ⟨SYS.ID.PART, []⟩, ⟨SYS.ID.STEP, []⟩]⟩,
    ⟨0x01, 1, 1, [⟨SYS.OPT.G, []⟩, ⟨SYS.OPT.L, []⟩]⟩,
    ⟨0x02, 1, 1, [⟨SYS.SERIAL0.SERLO, []⟩]⟩,
    ⟨0x03, 1, 1, [⟨SYS.SERIAL1.SERHI, []⟩]⟩,
    ⟨0x04, 4, 1, [⟨SYS.UNITS.PRES 0, []⟩]⟩,
    ⟨0x08, 1, 1, [⟨SYS.CHAN.M, []⟩, ⟨SYS.CHAN.CH, []⟩]⟩,
    ⟨0x09, 1, 1, [⟨SYS.QUAD.QP, []⟩]⟩,
    ⟨0x0A, 1, 1, [⟨SYS.LANE.STBY, []⟩, ⟨SYS.LANE.INSVC, []⟩]⟩,
    ⟨0x0B, 1, 1, [⟨SYS.ROM.ROMVER, []⟩]⟩,
    ⟨0x0C, 1, 1, [⟨SYS.STATUS.TRIMFLT, []⟩, ⟨SYS.STATUS.TRIM1, []⟩, ⟨SYS.STATUS.SLOWDEG, []⟩, ⟨SYS.STATUS.CLKDEG, []⟩]⟩,
    ⟨0x10, 1, 1, [⟨SYS.FAULT.VALID, []⟩, ⟨SYS.FAULT.MORE, []⟩, ⟨SYS.FAULT.UNIT, []⟩, ⟨SYS.FAULT.WHO, []⟩, ⟨SYS.FAULT.CODE, []⟩]⟩,
    ⟨0x11, 1, 1, [⟨SYS.FGRAINLO.GLO, []⟩]⟩,
    ⟨0x12, 1, 1, [⟨SYS.FGRAINHI.GHI, []⟩]⟩,
    ⟨0x13, 1, 1, [⟨SYS.FPC.PC, []⟩]⟩,
    ⟨0x14, 1, 1, [⟨SYS.FCOUNT.SAT, []⟩, ⟨SYS.FCOUNT.COUNT, []⟩]⟩ ]

/-- The registers of TIME (03_timebase_and_cues.md R108). -/
def regsTime : List Reg :=
  [ ⟨0x00, 1, 1, [⟨TIME.GRAINLO.GLO, []⟩]⟩,
    ⟨0x01, 1, 1, [⟨TIME.GRAINHI.GHI, []⟩]⟩,
    ⟨0x02, 1, 1, [⟨TIME.PHASE.PH, []⟩]⟩,
    ⟨0x03, 1, 1, [⟨TIME.CTRL.HOLD, []⟩, ⟨TIME.CTRL.PPSPOL, []⟩, ⟨TIME.CTRL.PPSEN, []⟩, ⟨TIME.CTRL.NOM60, []⟩]⟩,
    ⟨0x04, 1, 1, [⟨TIME.TRK.QUAL, []⟩, ⟨TIME.TRK.HELD, []⟩, ⟨TIME.TRK.STATE, []⟩]⟩,
    ⟨0x05, 1, 1, [⟨TIME.PLEN.PLEN, []⟩]⟩,
    ⟨0x06, 1, 1, [⟨TIME.PSTARTLO.PSLO, []⟩]⟩,
    ⟨0x07, 1, 1, [⟨TIME.PSTARTHI.PSHI, []⟩]⟩,
    ⟨0x08, 1, 1, [⟨TIME.PSTARTFR.PSFR, []⟩]⟩,
    ⟨0x09, 1, 1, [⟨TIME.PITCHLO.PLO, []⟩]⟩,
    ⟨0x0A, 1, 1, [⟨TIME.PITCHHI.PHI, []⟩]⟩,
    ⟨0x0B, 1, 1, [⟨TIME.BLKPOS.POS, []⟩]⟩,
    ⟨0x0C, 1, 1, [⟨TIME.RTCLO.RLO, []⟩]⟩,
    ⟨0x0D, 1, 1, [⟨TIME.RTCHI.RHI, []⟩]⟩,
    ⟨0x0E, 1, 1, [⟨TIME.UTCOFFLO.ULO, []⟩]⟩,
    ⟨0x0F, 1, 1, [⟨TIME.UTCOFFHI.UHI, []⟩]⟩,
    ⟨0x10, 1, 1, [⟨TIME.UTCOFFFR.UFR, []⟩]⟩,
    ⟨0x11, 1, 1, [⟨TIME.UTCSTAT.SRC, []⟩, ⟨TIME.UTCSTAT.PPSLOST, []⟩, ⟨TIME.UTCSTAT.PPSLOCK, []⟩, ⟨TIME.UTCSTAT.VALID, []⟩]⟩,
    ⟨0x12, 1, 1, [⟨TIME.UTCRATE.RATE, []⟩]⟩,
    ⟨0x13, 1, 1, [⟨TIME.PPSSEC.SEC, []⟩]⟩ ]
  ++ [ ⟨0x14, 1, 1, [⟨TIME.PPSGLO.PGLO, []⟩]⟩,
    ⟨0x15, 1, 1, [⟨TIME.PPSGHI.PGHI, []⟩]⟩,
    ⟨0x16, 1, 1, [⟨TIME.PPSCYC.CYC, []⟩]⟩,
    ⟨0x17, 1, 1, [⟨TIME.PPSREJ.SAT, []⟩, ⟨TIME.PPSREJ.COUNT, []⟩]⟩,
    ⟨0x20, 1, 1, [⟨TIME.CUESTAT.FULL, []⟩, ⟨TIME.CUESTAT.USED, []⟩]⟩,
    ⟨0x21, 1, 1, [⟨TIME.CUEREF.SAT, []⟩, ⟨TIME.CUEREF.COUNT, []⟩]⟩,
    ⟨0x22, 1, 1, [⟨TIME.CUELATE.SAT, []⟩, ⟨TIME.CUELATE.COUNT, []⟩]⟩,
    ⟨0x23, 1, 1, [⟨TIME.CUEFAIL.SAT, []⟩, ⟨TIME.CUEFAIL.COUNT, []⟩]⟩,
    ⟨0x24, 1, 1, [⟨TIME.CUECANCEL.ALL, []⟩, ⟨TIME.CUECANCEL.TAG, []⟩]⟩,
    ⟨0x25, 1, 1, [⟨TIME.CUENEXTLO.NLO, []⟩]⟩,
    ⟨0x26, 1, 1, [⟨TIME.CUENEXTHI.NHI, []⟩]⟩,
    ⟨0x28, 1, 1, [⟨TIME.CUEIDX.IDX, []⟩]⟩,
    ⟨0x29, 4, 1, [⟨TIME.CUEW.WORD 0, []⟩]⟩ ]

/-- The registers of CHAIN (03_timebase_and_cues.md R109). -/
def regsChain : List Reg :=
  [ ⟨0x00, 1, 1, [⟨CHAIN.CTRL.HEIR, []⟩, ⟨CHAIN.CTRL.POS, []⟩, ⟨CHAIN.CTRL.ROLE, []⟩, ⟨CHAIN.CTRL.EN, []⟩]⟩,
    ⟨0x01, 1, 1, [⟨CHAIN.STATUS.LPOS, []⟩, ⟨CHAIN.STATUS.STATE, []⟩]⟩,
    ⟨0x02, 1, 1, [⟨CHAIN.MEMBERS.MEM, []⟩]⟩,
    ⟨0x03, 1, 1, [⟨CHAIN.RTT.RTT, []⟩]⟩,
    ⟨0x04, 1, 1, [⟨CHAIN.PHERR.ERR, []⟩]⟩,
    ⟨0x05, 1, 1, [⟨CHAIN.FLAGS.MEMBERLOST, []⟩, ⟨CHAIN.FLAGS.OUTLIER, []⟩, ⟨CHAIN.FLAGS.LOSS, []⟩, ⟨CHAIN.FLAGS.STEP, []⟩, ⟨CHAIN.FLAGS.CONFLICT, []⟩]⟩,
    ⟨0x06, 1, 1, [⟨CHAIN.STEPLO.SLO, []⟩]⟩,
    ⟨0x07, 1, 1, [⟨CHAIN.STEPHI.SHI, []⟩]⟩,
    ⟨0x08, 1, 1, [⟨CHAIN.CRCERR.SAT, []⟩, ⟨CHAIN.CRCERR.COUNT, []⟩]⟩,
    ⟨0x09, 1, 1, [⟨CHAIN.HANDOVER.GO, []⟩, ⟨CHAIN.HANDOVER.TARGET, []⟩]⟩ ]

/-- The registers of QUAD (04_sense_front_end.md R144). -/
def regsQuad : List Reg :=
  [ ⟨0x00, 1, 1, [⟨QUAD.MODE.TRAVEN 0, []⟩, ⟨QUAD.MODE.SCH 0, []⟩, ⟨QUAD.MODE.STRIDE 0, []⟩]⟩,
    ⟨0x01, 1, 1, [⟨QUAD.STATUS.ILVSETTLING 0, []⟩, ⟨QUAD.STATUS.STRIDEABORT 0, []⟩, ⟨QUAD.STATUS.STRIDEREF 0, []⟩, ⟨QUAD.STATUS.STRIDEON 0, []⟩, ⟨QUAD.STATUS.SPAT 0, []⟩, ⟨QUAD.STATUS.SPUSE 0, []⟩, ⟨QUAD.STATUS.NOSPARE 0, []⟩]⟩,
    ⟨0x02, 1, 1, [⟨QUAD.DWELL.IDWELL 0, [(0, 15, 16)]⟩, ⟨QUAD.DWELL.DWELL 0, [(0, 255, 256)]⟩]⟩,
    ⟨0x03, 1, 1, [⟨QUAD.PLIM.RMSLIM 0, []⟩, ⟨QUAD.PLIM.MEANLIM 0, []⟩]⟩,
    ⟨0x04, 1, 1, [⟨QUAD.PCNT.VOTEN 0, [(0, 0, 1)]⟩, ⟨QUAD.PCNT.FAILN 0, [(0, 0, 1)]⟩]⟩,
    ⟨0x05, 1, 1, [⟨QUAD.RETIRED.SPRET 0, []⟩, ⟨QUAD.RETIRED.C1RET 0, []⟩, ⟨QUAD.RETIRED.C0RET 0, []⟩]⟩,
    ⟨0x06, 1, 1, [⟨QUAD.VOTES.SAT 0, []⟩, ⟨QUAD.VOTES.COUNT 0, []⟩]⟩,
    ⟨0x07, 1, 1, [⟨QUAD.TRANS.SAT 0, []⟩, ⟨QUAD.TRANS.COUNT 0, []⟩]⟩,
    ⟨0x08, 4, 2, [⟨QUAD.DIFF.DRMS 0 0, []⟩, ⟨QUAD.DIFF.DMEAN 0 0, []⟩]⟩,
    ⟨0x09, 4, 2, [⟨QUAD.CHST.AMBCNT 0 0, []⟩, ⟨QUAD.CHST.AMBIG 0 0, []⟩, ⟨QUAD.CHST.OVLS 0 0, []⟩, ⟨QUAD.CHST.OVL1 0 0, []⟩, ⟨QUAD.CHST.OVL0 0 0, []⟩, ⟨QUAD.CHST.UNVERIFIED 0 0, []⟩, ⟨QUAD.CHST.SUSPECT 0 0, []⟩, ⟨QUAD.CHST.CORES 0 0, []⟩, ⟨QUAD.CHST.FAILCNT 0 0, []⟩]⟩,
    ⟨0x10, 4, 1, [⟨QUAD.CFG.FORCE 0 0, []⟩, ⟨QUAD.CFG.NTEST 0 0, []⟩, ⟨QUAD.CFG.NUP 0 0, []⟩, ⟨QUAD.CFG.N10 0 0, []⟩, ⟨QUAD.CFG.NEN 0 0, []⟩, ⟨QUAD.CFG.PTEST 0 0, []⟩, ⟨QUAD.CFG.PUP 0 0, []⟩, ⟨QUAD.CFG.P10 0 0, []⟩, ⟨QUAD.CFG.PEN 0 0, []⟩, ⟨QUAD.CFG.GAIN 0 0, [(6, 7, 5)]⟩]⟩,
    ⟨0x14, 1, 1, [⟨QUAD.OWCTL.MASK 0, []⟩, ⟨QUAD.OWCTL.NPITCH 0, [(0, 0, 1)]⟩]⟩,
    ⟨0x15, 1, 1, [⟨QUAD.OWGO.GO 0, []⟩]⟩,
    ⟨0x18, 4, 1, [⟨QUAD.OWRES.DONE 0 0, []⟩, ⟨QUAD.OWRES.OPEN 0 0, []⟩, ⟨QUAD.OWRES.FAIL 0 0, []⟩, ⟨QUAD.OWRES.SHIFT 0 0, []⟩]⟩,
    ⟨0x1C, 4, 1, [⟨QUAD.OWWIN.HI 0 0, []⟩, ⟨QUAD.OWWIN.LO 0 0, []⟩]⟩,
    ⟨0x20, 1, 1, [⟨QUAD.IREF.VALID 0, []⟩, ⟨QUAD.IREF.DEV 0, []⟩]⟩,
    ⟨0x21, 1, 1, [⟨QUAD.IAVDD.VALID 0, []⟩, ⟨QUAD.IAVDD.MV 0, []⟩]⟩,
    ⟨0x22, 1, 1, [⟨QUAD.ITEMP.VALID 0, []⟩, ⟨QUAD.ITEMP.T 0, []⟩]⟩,
    ⟨0x23, 1, 1, [⟨QUAD.IZERO.VALID 0, []⟩, ⟨QUAD.IZERO.OFS 0, []⟩]⟩,
    ⟨0x24, 1, 1, [⟨QUAD.ILVGAIN.GERR 0, []⟩]⟩ ]
  ++ [ ⟨0x25, 1, 1, [⟨QUAD.ILVSKEW.SKEW 0, []⟩]⟩ ]

/-- The registers of BITIN (04_sense_front_end.md R145). -/
def regsBitin : List Reg :=
  [ ⟨0x00, 1, 1, [⟨BITIN.CTRL.DEC, [(0, 19, 20), (79, 127, 78)]⟩, ⟨BITIN.CTRL.EN, []⟩, ⟨BITIN.CTRL.BCLKOEN, []⟩, ⟨BITIN.CTRL.SKEW, []⟩, ⟨BITIN.CTRL.EDGE, []⟩, ⟨BITIN.CTRL.CLKSRC, []⟩]⟩,
    ⟨0x01, 1, 1, [⟨BITIN.STATUS.OVR, []⟩, ⟨BITIN.STATUS.STUCK, []⟩, ⟨BITIN.STATUS.VALID, []⟩, ⟨BITIN.STATUS.REQUAL, []⟩, ⟨BITIN.STATUS.FREQERR, []⟩, ⟨BITIN.STATUS.CLKLOST, []⟩, ⟨BITIN.STATUS.CLKOK, []⟩]⟩,
    ⟨0x02, 1, 1, [⟨BITIN.FMEAS.F, []⟩]⟩,
    ⟨0x03, 1, 1, [⟨BITIN.LOSSCNT.SAT, []⟩, ⟨BITIN.LOSSCNT.COUNT, []⟩]⟩,
    ⟨0x04, 1, 1, [⟨BITIN.RLIM.RGRAINS, []⟩, ⟨BITIN.RLIM.LIM, []⟩]⟩ ]

/-- The registers of FILT (05_filter_chain.md R169). -/
def regsFilt : List Reg :=
  [ ⟨0x00, 1, 1, [⟨FILT.STATUS.SETREF, []⟩, ⟨FILT.STATUS.CFGREF, []⟩, ⟨FILT.STATUS.SWAPREF, []⟩, ⟨FILT.STATUS.ACTWR, []⟩]⟩,
    ⟨0x01, 1, 1, [⟨FILT.SWAP.BANK, []⟩, ⟨FILT.SWAP.MASK, []⟩]⟩,
    ⟨0x02, 1, 1, [⟨FILT.ACTIVE.B, []⟩]⟩,
    ⟨0x03, 1, 1, [⟨FILT.SWAPGLO.GLO, []⟩]⟩,
    ⟨0x04, 1, 1, [⟨FILT.SWAPGHI.GHI, []⟩]⟩,
    ⟨0x06, 1, 1, [⟨FILT.CADDR.BANK, []⟩, ⟨FILT.CADDR.SET, []⟩, ⟨FILT.CADDR.TAP, []⟩]⟩,
    ⟨0x07, 1, 1, [⟨FILT.CDATA.COEF 0, []⟩]⟩,
    ⟨0x08, 1, 1, [⟨FILT.SAT.SAT, []⟩]⟩,
    ⟨0x20, 24, 1, [⟨FILT.CFG.OPT 0, []⟩, ⟨FILT.CFG.ORDER 0, [(0, 2, 5), (6, 7, 5)]⟩]⟩,
    ⟨0x40, 24, 1, [⟨FILT.CHA.LEAK 0, [(0, 9, 10), (26, 31, 25)]⟩, ⟨FILT.CHA.INTEN 0, []⟩, ⟨FILT.CHA.DRPSET 0, []⟩]⟩,
    ⟨0x60, 24, 1, [⟨FILT.CHB.LEAK 0, [(0, 9, 10), (26, 31, 25)]⟩, ⟨FILT.CHB.INTEN 0, []⟩, ⟨FILT.CHB.DRPSET 0, []⟩]⟩,
    ⟨0x80, 24, 1, [⟨FILT.IGA.K 0, []⟩]⟩,
    ⟨0xA0, 24, 1, [⟨FILT.IGB.K 0, []⟩]⟩ ]

/-- The registers of RSMP (05_filter_chain.md R170). -/
def regsRsmp : List Reg :=
  [ ⟨0x00, 1, 1, [⟨RSMP.CTRL.EN, []⟩]⟩,
    ⟨0x01, 1, 1, [⟨RSMP.STATUS.ACTWR, []⟩]⟩,
    ⟨0x02, 1, 1, [⟨RSMP.LAG.LAG, []⟩]⟩,
    ⟨0x20, 24, 1, [⟨RSMP.PHA.PH 0, []⟩]⟩,
    ⟨0x40, 24, 1, [⟨RSMP.PHB.PH 0, []⟩]⟩ ]

/-- The registers of CSR (06_quineg_model.md R196). -/
def regsCsr : List Reg :=
  [ ⟨0x00, 1, 1, [⟨CSR.CORE.ID 0, []⟩]⟩,
    ⟨0x01, 1, 1, [⟨CSR.STAT.INFAULT 0, []⟩, ⟨CSR.STAT.INNORM 0, []⟩, ⟨CSR.STAT.INFAST 0, []⟩, ⟨CSR.STAT.IE 0, []⟩]⟩,
    ⟨0x02, 1, 1, [⟨CSR.EPC.PC 0, []⟩]⟩,
    ⟨0x03, 1, 1, [⟨CSR.ECAUSE.INT 0, []⟩, ⟨CSR.ECAUSE.CODE 0, []⟩]⟩,
    ⟨0x04, 1, 1, [⟨CSR.EFL.FL 0, []⟩]⟩,
    ⟨0x05, 1, 1, [⟨CSR.FEPC.PC 0, []⟩]⟩,
    ⟨0x06, 1, 1, [⟨CSR.FFL.FL 0, []⟩]⟩,
    ⟨0x07, 1, 1, [⟨CSR.VEC.BASE 0, []⟩]⟩,
    ⟨0x08, 1, 1, [⟨CSR.CYCLO.CLO 0, []⟩]⟩,
    ⟨0x09, 1, 1, [⟨CSR.CYCHI.CHI 0, []⟩]⟩,
    ⟨0x0A, 1, 1, [⟨CSR.FADDR.ADDR 0, []⟩]⟩,
    ⟨0x0C, 4, 1, [⟨CSR.SCR.DATA 0 0, []⟩]⟩ ]

/-- The registers of LEASE (08_programs_and_lanes.md R259). -/
def regsLease : List Reg :=
  [ ⟨0x00, 1, 1, [⟨LEASE.ROPE.SOLO, []⟩, ⟨LEASE.ROPE.REBUILD, []⟩, ⟨LEASE.ROPE.NOSTBY, []⟩, ⟨LEASE.ROPE.SECOND, []⟩, ⟨LEASE.ROPE.FIRST, []⟩]⟩,
    ⟨0x01, 1, 1, [⟨LEASE.DISAGREE.SAT, []⟩, ⟨LEASE.DISAGREE.COUNT, []⟩]⟩,
    ⟨0x02, 1, 1, [⟨LEASE.VOTE.LOSER, []⟩, ⟨LEASE.VOTE.OUTCOME, []⟩]⟩,
    ⟨0x03, 1, 1, [⟨LEASE.VGRAINLO.GLO, []⟩]⟩,
    ⟨0x04, 1, 1, [⟨LEASE.VGRAINHI.GHI, []⟩]⟩,
    ⟨0x05, 1, 1, [⟨LEASE.LOST.CNT, []⟩]⟩,
    ⟨0x08, 1, 1, [⟨LEASE.REVOKES.SAT, []⟩, ⟨LEASE.REVOKES.COUNT, []⟩]⟩,
    ⟨0x09, 1, 1, [⟨LEASE.LASTREV.REASON, []⟩, ⟨LEASE.LASTREV.HOLDER, []⟩, ⟨LEASE.LASTREV.RES, []⟩]⟩,
    ⟨0x10, 12, 1, [⟨LEASE.HOLD.SUPWAIT 0, []⟩, ⟨LEASE.HOLD.STATE 0, []⟩, ⟨LEASE.HOLD.HOLDER 0, []⟩]⟩,
    ⟨0x20, 12, 1, [⟨LEASE.REM.CYC 0, []⟩]⟩ ]

/-- The registers of NRG (09_energy.md R295). -/
def regsNrg : List Reg :=
  [ ⟨0x00, 1, 1, [⟨NRG.STATUS.ORPHAN, []⟩, ⟨NRG.STATUS.CLAMPF, []⟩, ⟨NRG.STATUS.WRAPF, []⟩, ⟨NRG.STATUS.BINDREF, []⟩]⟩,
    ⟨0x01, 1, 1, [⟨NRG.SEL.SUB 0, [(9, 15, 8)]⟩, ⟨NRG.SEL.SLOT 0, [(72, 127, 71)]⟩]⟩,
    ⟨0x02, 1, 1, [⟨NRG.BIND.QTY 0, []⟩, ⟨NRG.BIND.MODE 0, []⟩, ⟨NRG.BIND.WT 0, []⟩, ⟨NRG.BIND.TEN 0, []⟩, ⟨NRG.BIND.QD 0, []⟩, ⟨NRG.BIND.OWNER 0, []⟩]⟩,
    ⟨0x03, 1, 1, [⟨NRG.KLO.KFR 0, []⟩]⟩,
    ⟨0x04, 1, 1, [⟨NRG.KHI.KINT 0, []⟩]⟩,
    ⟨0x05, 1, 1, [⟨NRG.TOTLO.ILO 0, []⟩]⟩,
    ⟨0x06, 1, 1, [⟨NRG.TOTHI.IHI 0, []⟩]⟩,
    ⟨0x07, 1, 1, [⟨NRG.TOTFR.FR 0, []⟩]⟩,
    ⟨0x08, 1, 1, [⟨NRG.TARIFF.T, []⟩]⟩,
    ⟨0x09, 1, 1, [⟨NRG.TSWLO.GLO, []⟩]⟩,
    ⟨0x0A, 1, 1, [⟨NRG.TSWHI.GHI, []⟩]⟩,
    ⟨0x0B, 1, 1, [⟨NRG.SFLAGS.WRAP 0, []⟩, ⟨NRG.SFLAGS.CLAMP 0, []⟩, ⟨NRG.SFLAGS.UNVER 0, []⟩, ⟨NRG.SFLAGS.INV 0, []⟩, ⟨NRG.SFLAGS.MRK 0, []⟩]⟩,
    ⟨0x0C, 1, 1, [⟨NRG.LASTLO.GLO 0, []⟩]⟩,
    ⟨0x0D, 1, 1, [⟨NRG.LASTHI.GHI 0, []⟩]⟩,
    ⟨0x0E, 1, 1, [⟨NRG.DCFG.DEXP 0, [(12, 15, 11)]⟩]⟩,
    ⟨0x0F, 1, 1, [⟨NRG.DISP.NEG 0, []⟩, ⟨NRG.DISP.VALUE 0, []⟩]⟩,
    ⟨0x10, 1, 1, [⟨NRG.DWRAP.WRAPS 0, []⟩]⟩,
    ⟨0x11, 1, 1, [⟨NRG.BCSTAT.BCRUN, []⟩, ⟨NRG.BCSTAT.NZ, []⟩]⟩ ]

/-- The registers of PULSE (09_energy.md R296). -/
def regsPulse : List Reg :=
  [ ⟨0x00, 1, 1, [⟨PULSE.CTRL.HSEL1, []⟩, ⟨PULSE.CTRL.HSEL0, []⟩, ⟨PULSE.CTRL.H1EN, []⟩, ⟨PULSE.CTRL.H0EN, []⟩, ⟨PULSE.CTRL.EN, []⟩]⟩,
    ⟨0x01, 1, 1, [⟨PULSE.STATUS.EWSTALE, []⟩, ⟨PULSE.STATUS.EWTRIP, []⟩, ⟨PULSE.STATUS.BUSY, []⟩, ⟨PULSE.STATUS.SRCREF, []⟩, ⟨PULSE.STATUS.BLSAT, []⟩]⟩,
    ⟨0x04, 4, 1, [⟨PULSE.SRC.TSEL 0, [(9, 15, 8)]⟩, ⟨PULSE.SRC.SLOT 0, [(64, 126, 127)]⟩]⟩,
    ⟨0x08, 4, 1, [⟨PULSE.CONST.C 0, [(0, 0, 1), (1000001, 1048575, 1000000)]⟩]⟩,
    ⟨0x0C, 4, 1, [⟨PULSE.BLOG.COUNT 0, []⟩]⟩,
    ⟨0x10, 4, 1, [⟨PULSE.CNT.COUNT 0, []⟩]⟩,
    ⟨0x14, 4, 1, [⟨PULSE.LOST.SAT 0, []⟩, ⟨PULSE.LOST.COUNT 0, []⟩]⟩,
    ⟨0x20, 1, 1, [⟨PULSE.EWCTRL.STALE, [(0, 0, 1)]⟩, ⟨PULSE.EWCTRL.POL, []⟩, ⟨PULSE.EWCTRL.DIR, []⟩, ⟨PULSE.EWCTRL.EN, []⟩]⟩,
    ⟨0x21, 1, 1, [⟨PULSE.EWTRIP.TRIP, []⟩]⟩,
    ⟨0x22, 1, 1, [⟨PULSE.EWHYST.HYST, []⟩]⟩,
    ⟨0x23, 1, 1, [⟨PULSE.EWVAL.VAL, []⟩]⟩,
    ⟨0x24, 1, 1, [⟨PULSE.EWTRIPS.SAT, []⟩, ⟨PULSE.EWTRIPS.COUNT, []⟩]⟩,
    ⟨0x25, 1, 1, [⟨PULSE.EWCHGLO.GLO, []⟩]⟩,
    ⟨0x26, 1, 1, [⟨PULSE.EWCHGHI.GHI, []⟩]⟩ ]

/-- The registers of PQ (10_power_quality.md R331). -/
def regsPq : List Reg :=
  [ ⟨0x00, 1, 1, [⟨PQ.CTRL.THDN, [(0, 39, 40)]⟩, ⟨PQ.CTRL.PHB, []⟩, ⟨PQ.CTRL.PHA, []⟩, ⟨PQ.CTRL.IHGRP, []⟩, ⟨PQ.CTRL.HGRP, []⟩, ⟨PQ.CTRL.TREN, []⟩, ⟨PQ.CTRL.SUPRA, []⟩, ⟨PQ.CTRL.HARM, []⟩, ⟨PQ.CTRL.ENB, []⟩, ⟨PQ.CTRL.ENA, []⟩]⟩,
    ⟨0x01, 1, 1, [⟨PQ.STATUS.THRREF, []⟩, ⟨PQ.STATUS.NOPITCH, []⟩, ⟨PQ.STATUS.SUPINT, []⟩, ⟨PQ.STATUS.NEUT, []⟩, ⟨PQ.STATUS.SEQB, []⟩, ⟨PQ.STATUS.SEQA, []⟩, ⟨PQ.STATUS.ACT, []⟩, ⟨PQ.STATUS.LEARNB, []⟩, ⟨PQ.STATUS.LEARNA, []⟩]⟩,
    ⟨0x02, 1, 1, [⟨PQ.UDINA.UDIN, []⟩]⟩,
    ⟨0x03, 1, 1, [⟨PQ.UDINB.UDIN, []⟩]⟩,
    ⟨0x04, 1, 1, [⟨PQ.THR1.SWELL, []⟩, ⟨PQ.THR1.DIP, []⟩]⟩,
    ⟨0x05, 1, 1, [⟨PQ.THR2.HYST, []⟩, ⟨PQ.THR2.INT, []⟩]⟩,
    ⟨0x06, 1, 1, [⟨PQ.NTHR.MISM, []⟩, ⟨PQ.NTHR.DISP, []⟩]⟩,
    ⟨0x07, 1, 1, [⟨PQ.NCFG.IMIN, []⟩, ⟨PQ.NCFG.NBLK, [(0, 0, 1)]⟩]⟩,
    ⟨0x08, 1, 1, [⟨PQ.TRTHR.THR, []⟩]⟩,
    ⟨0x10, 16, 1, [⟨PQ.HRMS.RMS 0, []⟩]⟩,
    ⟨0x20, 16, 1, [⟨PQ.CRMS.RMS 0, []⟩]⟩,
    ⟨0x30, 1, 1, [⟨PQ.F10.F, []⟩]⟩,
    ⟨0x31, 1, 1, [⟨PQ.F10STAT.UNSYNC, []⟩, ⟨PQ.F10STAT.HELD, []⟩, ⟨PQ.F10STAT.VALID, []⟩]⟩,
    ⟨0x32, 1, 1, [⟨PQ.F10GLO.GLO, []⟩]⟩,
    ⟨0x33, 1, 1, [⟨PQ.F10GHI.GHI, []⟩]⟩,
    ⟨0x34, 1, 1, [⟨PQ.BLKLO.GLO, []⟩]⟩,
    ⟨0x35, 1, 1, [⟨PQ.BLKHI.GHI, []⟩]⟩,
    ⟨0x40, 1, 1, [⟨PQ.NDIP.SAT, []⟩, ⟨PQ.NDIP.COUNT, []⟩]⟩,
    ⟨0x41, 1, 1, [⟨PQ.NSWL.SAT, []⟩, ⟨PQ.NSWL.COUNT, []⟩]⟩,
    ⟨0x42, 1, 1, [⟨PQ.NINT.SAT, []⟩, ⟨PQ.NINT.COUNT, []⟩]⟩ ]
  ++ [ ⟨0x43, 1, 1, [⟨PQ.NTRANS.SAT, []⟩, ⟨PQ.NTRANS.COUNT, []⟩]⟩,
    ⟨0x44, 1, 1, [⟨PQ.NSUP.SAT, []⟩, ⟨PQ.NSUP.COUNT, []⟩]⟩,
    ⟨0x48, 1, 1, [⟨PQ.EVNEXT.EVNO, []⟩]⟩ ]

/-- The registers of CAPT (10_power_quality.md R332). -/
def regsCapt : List Reg :=
  [ ⟨0x00, 1, 1, [⟨CAPT.CTRL.TRIGSRC, []⟩]⟩,
    ⟨0x01, 1, 1, [⟨CAPT.PRE.PRE, []⟩]⟩,
    ⟨0x02, 1, 1, [⟨CAPT.POST.POST, [(0, 0, 1)]⟩]⟩,
    ⟨0x03, 1, 1, [⟨CAPT.CMD.DISARM, []⟩, ⟨CAPT.CMD.TRIG, []⟩, ⟨CAPT.CMD.ARM, []⟩]⟩,
    ⟨0x04, 1, 1, [⟨CAPT.STATUS.PRESHORT, []⟩, ⟨CAPT.STATUS.INCOMPLETE, []⟩, ⟨CAPT.STATUS.DRAWREF, []⟩, ⟨CAPT.STATUS.ARMREF, []⟩, ⟨CAPT.STATUS.STATE, []⟩]⟩,
    ⟨0x05, 1, 1, [⟨CAPT.CAUSE.CAUSE, []⟩]⟩,
    ⟨0x06, 1, 1, [⟨CAPT.TGLO.GLO, []⟩]⟩,
    ⟨0x07, 1, 1, [⟨CAPT.TGHI.GHI, []⟩]⟩,
    ⟨0x08, 1, 1, [⟨CAPT.FIRSTLO.GLO, []⟩]⟩,
    ⟨0x09, 1, 1, [⟨CAPT.FIRSTHI.GHI, []⟩]⟩,
    ⟨0x0A, 1, 1, [⟨CAPT.COUNT.COUNT, []⟩]⟩,
    ⟨0x0B, 1, 1, [⟨CAPT.MISSED.SAT, []⟩, ⟨CAPT.MISSED.COUNT, []⟩]⟩,
    ⟨0x0C, 1, 1, [⟨CAPT.DRAW.RESTART, []⟩, ⟨CAPT.DRAW.GO, []⟩, ⟨CAPT.DRAW.PERMIT, []⟩]⟩,
    ⟨0x0D, 1, 1, [⟨CAPT.DRAWPOS.POS, []⟩]⟩,
    ⟨0x0E, 1, 1, [⟨CAPT.MARKS.MARKS, []⟩]⟩ ]

/-- The registers of JRNL (11_journal_and_cairn.md R369). -/
def regsJrnl : List Reg :=
  [ ⟨0x00, 1, 1, [⟨JRNL.STATUS.ACKHI, []⟩, ⟨JRNL.STATUS.STGREF, []⟩, ⟨JRNL.STATUS.ORDFULL, []⟩, ⟨JRNL.STATUS.LOWFREE, []⟩, ⟨JRNL.STATUS.COAL, []⟩]⟩,
    ⟨0x01, 1, 1, [⟨JRNL.NEXTSEQLO.SLO, []⟩]⟩,
    ⟨0x02, 1, 1, [⟨JRNL.NEXTSEQHI.SHI, []⟩]⟩,
    ⟨0x03, 1, 1, [⟨JRNL.CSEQLO.SLO, []⟩]⟩,
    ⟨0x04, 1, 1, [⟨JRNL.CSEQHI.SHI, []⟩]⟩,
    ⟨0x05, 1, 1, [⟨JRNL.ACKSEQLO.SLO, []⟩]⟩,
    ⟨0x06, 1, 1, [⟨JRNL.ACKSEQHI.SHI, []⟩]⟩,
    ⟨0x07, 1, 1, [⟨JRNL.SEG.FREE, []⟩, ⟨JRNL.SEG.HEADSEG, []⟩]⟩,
    ⟨0x08, 1, 1, [⟨JRNL.LOWWAT.LW, []⟩]⟩,
    ⟨0x09, 1, 1, [⟨JRNL.COALCNT.SAT, []⟩, ⟨JRNL.COALCNT.COUNT, []⟩]⟩,
    ⟨0x0A, 1, 1, [⟨JRNL.GAPCNT.SAT, []⟩, ⟨JRNL.GAPCNT.COUNT, []⟩]⟩,
    ⟨0x0B, 1, 1, [⟨JRNL.EPOCH.EPOCH, []⟩]⟩,
    ⟨0x0C, 1, 1, [⟨JRNL.GENLO.GLO, []⟩]⟩,
    ⟨0x0D, 1, 1, [⟨JRNL.GENHI.GHI, []⟩]⟩,
    ⟨0x0E, 1, 1, [⟨JRNL.SNAPLO.GLO, []⟩]⟩,
    ⟨0x0F, 1, 1, [⟨JRNL.SNAPHI.GHI, []⟩]⟩,
    ⟨0x10, 1, 1, [⟨JRNL.LASTORD.ORDNO, []⟩]⟩,
    ⟨0x11, 1, 1, [⟨JRNL.ORDPEND.COUNT, []⟩]⟩,
    ⟨0x18, 1, 1, [⟨JRNL.STGCTL.KIND, []⟩]⟩,
    ⟨0x19, 1, 1, [⟨JRNL.STGDATA.DATA, []⟩]⟩ ]
  ++ [ ⟨0x1A, 1, 1, [⟨JRNL.STGGO.GO, []⟩]⟩ ]

/-- The registers of CAIRN (11_journal_and_cairn.md R370). -/
def regsCairn : List Reg :=
  [ ⟨0x00, 1, 1, [⟨CAIRN.STATUS.TORN, []⟩, ⟨CAIRN.STATUS.PREF, []⟩, ⟨CAIRN.STATUS.CYFLT, []⟩, ⟨CAIRN.STATUS.TRFLT, []⟩, ⟨CAIRN.STATUS.STFLT, []⟩]⟩,
    ⟨0x01, 1, 1, [⟨CAIRN.PCTL.ABORT, []⟩, ⟨CAIRN.PCTL.COMMIT, []⟩, ⟨CAIRN.PCTL.OPEN, []⟩, ⟨CAIRN.PCTL.AREA, []⟩]⟩,
    ⟨0x02, 1, 1, [⟨CAIRN.PADDR.WORD, []⟩]⟩,
    ⟨0x03, 1, 1, [⟨CAIRN.PDATA.DATA, []⟩]⟩,
    ⟨0x04, 1, 1, [⟨CAIRN.PSTAT.DONE, []⟩, ⟨CAIRN.PSTAT.BUSY, []⟩, ⟨CAIRN.PSTAT.OPEN, []⟩]⟩,
    ⟨0x08, 1, 1, [⟨CAIRN.RAREA.AREA, []⟩]⟩,
    ⟨0x09, 1, 1, [⟨CAIRN.RADDR.WORD, []⟩]⟩,
    ⟨0x0A, 1, 1, [⟨CAIRN.RDATA.DATA, []⟩]⟩,
    ⟨0x0B, 1, 1, [⟨CAIRN.RSTAT.RERR, []⟩, ⟨CAIRN.RSTAT.READY, []⟩]⟩ ]

/-- The registers of TRIM (12_calibration_and_drift.md R389). -/
def regsTrim : List Reg :=
  [ ⟨0x00, 1, 1, [⟨TRIM.STATUS.SCABORT, []⟩, ⟨TRIM.STATUS.SCREF, []⟩, ⟨TRIM.STATUS.SHDEV, []⟩, ⟨TRIM.STATUS.TFREEZE, []⟩, ⟨TRIM.STATUS.DRIFTLOST, []⟩, ⟨TRIM.STATUS.DIFF, []⟩, ⟨TRIM.STATUS.C1BAD, []⟩, ⟨TRIM.STATUS.C0BAD, []⟩, ⟨TRIM.STATUS.FROZEN, []⟩]⟩,
    ⟨0x01, 1, 1, [⟨TRIM.SCCTL.SPSLOT, []⟩, ⟨TRIM.SCCTL.PERMIT, []⟩, ⟨TRIM.SCCTL.GO, []⟩]⟩,
    ⟨0x02, 1, 1, [⟨TRIM.SCSTAT.MSKIP, []⟩, ⟨TRIM.SCSTAT.STRSKIP, []⟩, ⟨TRIM.SCSTAT.ABANDON, []⟩, ⟨TRIM.SCSTAT.PHASE, []⟩]⟩,
    ⟨0x03, 1, 1, [⟨TRIM.CSEL.CORE, [(38, 63, 37)]⟩]⟩,
    ⟨0x04, 1, 1, [⟨TRIM.CFACT.FOFS 0, []⟩, ⟨TRIM.CFACT.FGAIN 0, []⟩]⟩,
    ⟨0x05, 1, 1, [⟨TRIM.CSC.SCG 0, []⟩, ⟨TRIM.CSC.SCO 0, []⟩]⟩,
    ⟨0x06, 1, 1, [⟨TRIM.CDRIFT.DG 0, []⟩, ⟨TRIM.CDRIFT.DOFS 0, []⟩]⟩,
    ⟨0x07, 1, 1, [⟨TRIM.CTARGET.TG 0, []⟩, ⟨TRIM.CTARGET.TO 0, []⟩]⟩,
    ⟨0x08, 1, 1, [⟨TRIM.CREL.A 0, []⟩]⟩,
    ⟨0x09, 1, 1, [⟨TRIM.CDAC.GAIN 0, []⟩, ⟨TRIM.CDAC.OFS 0, []⟩]⟩,
    ⟨0x0A, 1, 1, [⟨TRIM.CSTAT.LIMIT 0, []⟩, ⟨TRIM.CSTAT.CLAMP 0, []⟩, ⟨TRIM.CSTAT.RETIRED 0, []⟩, ⟨TRIM.CSTAT.ABSENT 0, []⟩]⟩,
    ⟨0x10, 1, 1, [⟨TRIM.DCTL.RESET, []⟩, ⟨TRIM.DCTL.FREEZE, []⟩]⟩,
    ⟨0x11, 1, 1, [⟨TRIM.DCFG.NEST, [(0, 15, 16)]⟩, ⟨TRIM.DCFG.MINSIG, []⟩]⟩,
    ⟨0x12, 1, 1, [⟨TRIM.DSAVE.BLK, [(0, 0, 1)]⟩]⟩,
    ⟨0x14, 4, 1, [⟨TRIM.QCOM.TARGET 0, []⟩, ⟨TRIM.QCOM.QCOM 0, []⟩]⟩,
    ⟨0x18, 1, 1, [⟨TRIM.SHNODE.RESTART, []⟩, ⟨TRIM.SHNODE.EN, []⟩]⟩,
    ⟨0x19, 1, 1, [⟨TRIM.SHLIM.LIM, []⟩]⟩,
    ⟨0x1A, 3, 1, [⟨TRIM.SHDEV.VALID 0, []⟩, ⟨TRIM.SHDEV.DEV 0, []⟩]⟩,
    ⟨0x20, 1, 1, [⟨TRIM.OSEL.WORD, []⟩]⟩,
    ⟨0x21, 1, 1, [⟨TRIM.ODATA.DATA, []⟩]⟩ ]
  ++ [ ⟨0x40, 24, 1, [⟨TRIM.CALG.G 0, []⟩]⟩,
    ⟨0x60, 24, 1, [⟨TRIM.CALO.O 0, []⟩]⟩,
    ⟨0x80, 24, 1, [⟨TRIM.RATIO.R 0, []⟩]⟩ ]

/-- The registers of AUX (13_aux_converter.md R402). -/
def regsAux : List Reg :=
  [ ⟨0x00, 1, 1, [⟨AUX.CTRL.ACQ, [(0, 8, 9)]⟩, ⟨AUX.CTRL.CONT, []⟩, ⟨AUX.CTRL.ALIGN, []⟩, ⟨AUX.CTRL.REF, [(3, 3, 0)]⟩, ⟨AUX.CTRL.AVG, [(9, 15, 8)]⟩]⟩,
    ⟨0x01, 1, 1, [⟨AUX.CH.SEL, []⟩]⟩,
    ⟨0x02, 1, 1, [⟨AUX.CMD.CAL, []⟩, ⟨AUX.CMD.STOP, []⟩, ⟨AUX.CMD.GO, []⟩]⟩,
    ⟨0x03, 1, 1, [⟨AUX.STATUS.CALREF, []⟩, ⟨AUX.STATUS.OVR, []⟩, ⟨AUX.STATUS.CHREF, []⟩, ⟨AUX.STATUS.GOREF, []⟩, ⟨AUX.STATUS.URGBUSY, []⟩, ⟨AUX.STATUS.CALBUSY, []⟩, ⟨AUX.STATUS.CALOK, []⟩, ⟨AUX.STATUS.BUSY, []⟩, ⟨AUX.STATUS.REFRDY, []⟩]⟩,
    ⟨0x04, 1, 1, [⟨AUX.RESULT.DATA, []⟩]⟩,
    ⟨0x05, 1, 1, [⟨AUX.RINFO.NEW, []⟩, ⟨AUX.RINFO.UNCAL, []⟩, ⟨AUX.RINFO.SIGNED, []⟩, ⟨AUX.RINFO.CH, []⟩]⟩,
    ⟨0x06, 1, 1, [⟨AUX.UDROP.SAT, []⟩, ⟨AUX.UDROP.COUNT, []⟩]⟩,
    ⟨0x07, 1, 1, [⟨AUX.ULAST.SRC, []⟩, ⟨AUX.ULAST.CH, []⟩]⟩ ]

/-- The registers of IRQ (14_interrupts.md R419). -/
def regsIrq : List Reg :=
  [ ⟨0x00, 1, 1, [⟨IRQ.GCTL.TEN, []⟩, ⟨IRQ.GCTL.GDIS, []⟩]⟩,
    ⟨0x01, 1, 1, [⟨IRQ.STATUS.HACT, []⟩]⟩,
    ⟨0x02, 1, 1, [⟨IRQ.SEL.PB 0, []⟩, ⟨IRQ.SEL.SRC 0, [(112, 127, 111)]⟩]⟩,
    ⟨0x03, 1, 1, [⟨IRQ.SCFG.RRLAST 0, []⟩, ⟨IRQ.SCFG.GRP 0, []⟩, ⟨IRQ.SCFG.CLASS 0, []⟩, ⟨IRQ.SCFG.TSET 0, []⟩]⟩,
    ⟨0x04, 1, 1, [⟨IRQ.SCNT.SAT 0, []⟩, ⟨IRQ.SCNT.COUNT 0, []⟩]⟩,
    ⟨0x05, 2, 1, [⟨IRQ.CCSTAT.FAST 0, []⟩, ⟨IRQ.CCSTAT.PRES 0, []⟩]⟩,
    ⟨0x08, 2, 1, [⟨IRQ.PPEND.PEND 0, []⟩]⟩,
    ⟨0x0A, 2, 1, [⟨IRQ.PMASK.MASK 0, []⟩]⟩,
    ⟨0x0C, 2, 1, [⟨IRQ.SWSET.SET 0, []⟩]⟩,
    ⟨0x10, 3, 1, [⟨IRQ.SPEND.PEND 0, []⟩]⟩,
    ⟨0x14, 3, 1, [⟨IRQ.SMASK.MASK 0, []⟩]⟩,
    ⟨0x18, 3, 1, [⟨IRQ.HPEND.PEND 0, []⟩]⟩,
    ⟨0x20, 8, 1, [⟨IRQ.HOLD.RUN 0, []⟩, ⟨IRQ.HOLD.HOLD 0, []⟩]⟩,
    ⟨0x28, 2, 1, [⟨IRQ.TMR.EN 0, []⟩, ⟨IRQ.TMR.PERIOD 0, [(0, 0, 1)]⟩]⟩,
    ⟨0x30, 3, 1, [⟨IRQ.XCFG.WAKE 0, []⟩, ⟨IRQ.XCFG.EDGE 0, [(3, 3, 2)]⟩, ⟨IRQ.XCFG.FLT 0, [(0, 0, 1)]⟩]⟩,
    ⟨0x34, 1, 1, [⟨IRQ.XSTAT.GLITCH, []⟩, ⟨IRQ.XSTAT.LATCH, []⟩, ⟨IRQ.XSTAT.LEVEL, []⟩]⟩ ]

/-- The registers of MODEM (15_line_modem.md R445). -/
def regsModem : List Reg :=
  [ ⟨0x00, 1, 1, [⟨MODEM.CTRL.BAND, []⟩, ⟨MODEM.CTRL.EN, []⟩]⟩,
    ⟨0x01, 1, 1, [⟨MODEM.STATUS.RXOVF, []⟩, ⟨MODEM.STATUS.LENREF, []⟩, ⟨MODEM.STATUS.TXREF, []⟩, ⟨MODEM.STATUS.PERMWAIT, []⟩, ⟨MODEM.STATUS.LBTWAIT, []⟩, ⟨MODEM.STATUS.WAITACK, []⟩, ⟨MODEM.STATUS.RXSYNC, []⟩, ⟨MODEM.STATUS.TXON, []⟩, ⟨MODEM.STATUS.TXBUSY, []⟩]⟩,
    ⟨0x02, 1, 1, [⟨MODEM.ADDR.ADDR, [(65535, 65535, 65534)]⟩]⟩,
    ⟨0x03, 1, 1, [⟨MODEM.TXCFG.RETRY, [(5, 7, 4)]⟩, ⟨MODEM.TXCFG.PCLS, []⟩, ⟨MODEM.TXCFG.ATT, [(31, 255, 30)]⟩]⟩,
    ⟨0x04, 1, 1, [⟨MODEM.TXDESC.DST, []⟩, ⟨MODEM.TXDESC.NOACK, []⟩, ⟨MODEM.TXDESC.LEN, [(257, 511, 256)]⟩, ⟨MODEM.TXDESC.SLOT, []⟩]⟩,
    ⟨0x05, 1, 1, [⟨MODEM.TXGO.CANCEL, []⟩, ⟨MODEM.TXGO.GO, []⟩]⟩,
    ⟨0x06, 1, 1, [⟨MODEM.TXRES.SEQ, []⟩, ⟨MODEM.TXRES.TRIES, []⟩, ⟨MODEM.TXRES.RESULT, []⟩]⟩,
    ⟨0x07, 1, 1, [⟨MODEM.TXSTLO.GLO, []⟩]⟩,
    ⟨0x08, 1, 1, [⟨MODEM.TXSTHI.GHI, []⟩]⟩,
    ⟨0x09, 1, 1, [⟨MODEM.ACKTO.TO, []⟩]⟩,
    ⟨0x0A, 1, 1, [⟨MODEM.RXCFG.LBTTHR, []⟩, ⟨MODEM.RXCFG.PROMISC, []⟩, ⟨MODEM.RXCFG.ERAT, [(0, 0, 1)]⟩]⟩,
    ⟨0x0B, 1, 1, [⟨MODEM.RXHEAD.HEAD, []⟩]⟩,
    ⟨0x0C, 1, 1, [⟨MODEM.RXTAIL.TAIL, []⟩]⟩,
    ⟨0x0D, 1, 1, [⟨MODEM.NRX.SAT, []⟩, ⟨MODEM.NRX.COUNT, []⟩]⟩,
    ⟨0x0E, 1, 1, [⟨MODEM.NCRC.SAT, []⟩, ⟨MODEM.NCRC.COUNT, []⟩]⟩,
    ⟨0x0F, 1, 1, [⟨MODEM.NRETRY.SAT, []⟩, ⟨MODEM.NRETRY.COUNT, []⟩]⟩,
    ⟨0x10, 1, 1, [⟨MODEM.NERAS.SAT, []⟩, ⟨MODEM.NERAS.COUNT, []⟩]⟩,
    ⟨0x11, 1, 1, [⟨MODEM.NDUP.SAT, []⟩, ⟨MODEM.NDUP.COUNT, []⟩]⟩,
    ⟨0x12, 1, 1, [⟨MODEM.PERMIT.VALID, []⟩, ⟨MODEM.PERMIT.NUM, []⟩]⟩ ]

/-- The registers of GLASS (16_glass.md R464). -/
def regsGlass : List Reg :=
  [ ⟨0x00, 1, 1, [⟨GLASS.CTRL.MODE, [(2, 3, 0)]⟩, ⟨GLASS.CTRL.EN, []⟩]⟩,
    ⟨0x01, 1, 1, [⟨GLASS.STATUS.CFGREF, []⟩, ⟨GLASS.STATUS.REQREF, []⟩, ⟨GLASS.STATUS.TBLREF, []⟩, ⟨GLASS.STATUS.PUMPFLT, []⟩, ⟨GLASS.STATUS.TSTALE, []⟩, ⟨GLASS.STATUS.VIEWON, []⟩, ⟨GLASS.STATUS.BALUNK, []⟩, ⟨GLASS.STATUS.COMPPEND, []⟩, ⟨GLASS.STATUS.BUSY, []⟩, ⟨GLASS.STATUS.PUMPOK, []⟩]⟩,
    ⟨0x02, 1, 1, [⟨GLASS.LCDCFG.H, [(0, 0, 1), (9, 15, 8)]⟩, ⟨GLASS.LCDCFG.GDIV, [(0, 7, 8), (33, 63, 32)]⟩, ⟨GLASS.LCDCFG.BIAS, []⟩, ⟨GLASS.LCDCFG.MUX, [(6, 7, 5)]⟩]⟩,
    ⟨0x03, 1, 1, [⟨GLASS.VLCD.SLOPE, [(21, 31, 20)]⟩, ⟨GLASS.VLCD.VSET, [(0, 2499, 2500), (6001, 8191, 6000)]⟩]⟩,
    ⟨0x04, 1, 1, [⟨GLASS.NTC.C0, []⟩, ⟨GLASS.NTC.NTCEN, []⟩, ⟨GLASS.NTC.CH, [(6, 7, 5)]⟩]⟩,
    ⟨0x05, 1, 1, [⟨GLASS.NTCK.K, []⟩]⟩,
    ⟨0x06, 1, 1, [⟨GLASS.TEMP.VOUT, []⟩, ⟨GLASS.TEMP.T, []⟩]⟩,
    ⟨0x10, 8, 2, [⟨GLASS.LIMGLO.SEG 0, []⟩]⟩,
    ⟨0x11, 8, 2, [⟨GLASS.LIMGHI.SEG 0, []⟩]⟩,
    ⟨0x20, 8, 2, [⟨GLASS.FIMGLO.SEG 0, []⟩]⟩,
    ⟨0x21, 8, 2, [⟨GLASS.FIMGHI.SEG 0, []⟩]⟩,
    ⟨0x30, 8, 2, [⟨GLASS.RMLO.MASK 0, []⟩]⟩,
    ⟨0x31, 8, 2, [⟨GLASS.RMHI.MASK 0, []⟩]⟩,
    ⟨0x40, 1, 1, [⟨GLASS.BSTLO.DARK, []⟩]⟩,
    ⟨0x41, 1, 1, [⟨GLASS.BSTHI.UNKNOWN, []⟩, ⟨GLASS.BSTHI.DARK, []⟩]⟩,
    ⟨0x42, 1, 1, [⟨GLASS.RQLO.DARK, []⟩]⟩,
    ⟨0x43, 1, 1, [⟨GLASS.RQHI.DARK, []⟩]⟩,
    ⟨0x44, 1, 1, [⟨GLASS.RQGO.GO, []⟩, ⟨GLASS.RQGO.PERMIT, []⟩, ⟨GLASS.RQGO.TABLE, []⟩, ⟨GLASS.RQGO.REGION, []⟩]⟩,
    ⟨0x45, 1, 1, [⟨GLASS.BSTAT.PEND, []⟩, ⟨GLASS.BSTAT.STEP, []⟩, ⟨GLASS.BSTAT.PHASE, []⟩, ⟨GLASS.BSTAT.COMP, []⟩, ⟨GLASS.BSTAT.RUNREG, []⟩, ⟨GLASS.BSTAT.RUN, []⟩, ⟨GLASS.BSTAT.LASTRES, []⟩, ⟨GLASS.BSTAT.LASTREG, []⟩]⟩,
    ⟨0x46, 1, 1, [⟨GLASS.NSUP.SAT, []⟩, ⟨GLASS.NSUP.COUNT, []⟩]⟩ ]
  ++ [ ⟨0x48, 1, 1, [⟨GLASS.TADDR.TABLE, []⟩, ⟨GLASS.TADDR.PHASE, []⟩]⟩,
    ⟨0x49, 1, 1, [⟨GLASS.TDATA.WORD 0, []⟩]⟩,
    ⟨0x4A, 1, 1, [⟨GLASS.TCHK.GO, []⟩, ⟨GLASS.TCHK.TABLE, []⟩]⟩,
    ⟨0x4B, 1, 1, [⟨GLASS.TVALID.VALID, []⟩]⟩,
    ⟨0x4C, 1, 1, [⟨GLASS.BSEL.SEG 0, [(52, 63, 51)]⟩]⟩,
    ⟨0x4D, 1, 1, [⟨GLASS.BAL.BAL 0, []⟩]⟩,
    ⟨0x4E, 1, 1, [⟨GLASS.TFLAG.TABLE, []⟩, ⟨GLASS.TFLAG.EN, []⟩, ⟨GLASS.TFLAG.SEG, []⟩, ⟨GLASS.TFLAG.COM, []⟩]⟩,
    ⟨0x50, 1, 1, [⟨GLASS.VIEW.LINES, []⟩, ⟨GLASS.VIEW.EN, []⟩]⟩,
    ⟨0x58, 1, 1, [⟨GLASS.CRKCFG.LIM, []⟩, ⟨GLASS.CRKCFG.PER, [(0, 0, 1)]⟩, ⟨GLASS.CRKCFG.EN, []⟩]⟩,
    ⟨0x59, 1, 1, [⟨GLASS.CRKPCFG.PPER, [(0, 0, 1)]⟩]⟩,
    ⟨0x5A, 1, 1, [⟨GLASS.CRKRES.VALID, []⟩, ⟨GLASS.CRKRES.R, []⟩]⟩,
    ⟨0x5B, 1, 1, [⟨GLASS.CRKBASE.VALID, []⟩, ⟨GLASS.CRKBASE.R, []⟩]⟩,
    ⟨0x5C, 1, 1, [⟨GLASS.CRKSTAT.STALE, []⟩, ⟨GLASS.CRKSTAT.PFAIL, []⟩, ⟨GLASS.CRKSTAT.OPEN, []⟩, ⟨GLASS.CRKSTAT.DRIFT, []⟩, ⟨GLASS.CRKSTAT.BASENEW, []⟩]⟩ ]

/-- The registers of TAMP (17_tamper_and_access.md R490). -/
def regsTamp : List Reg :=
  [ ⟨0x00, 1, 1, [⟨TAMP.STICKY.FI, []⟩, ⟨TAMP.STICKY.DETFLT, []⟩, ⟨TAMP.STICKY.ALARM, []⟩]⟩,
    ⟨0x01, 1, 1, [⟨TAMP.STATE.D2, []⟩, ⟨TAMP.STATE.D1, []⟩, ⟨TAMP.STATE.COMB, []⟩]⟩,
    ⟨0x02, 1, 1, [⟨TAMP.INFORCE.RESP, []⟩]⟩,
    ⟨0x03, 1, 1, [⟨TAMP.RING.DROP, []⟩, ⟨TAMP.RING.USED, []⟩]⟩,
    ⟨0x04, 1, 1, [⟨TAMP.SEL.SRC 0, []⟩]⟩,
    ⟨0x05, 1, 1, [⟨TAMP.CFG.WIN 0, [(0, 0, 1)]⟩, ⟨TAMP.CFG.N 0, [(0, 0, 1)]⟩, ⟨TAMP.CFG.RESP 0, []⟩, ⟨TAMP.CFG.D2EN 0, []⟩, ⟨TAMP.CFG.D1EN 0, []⟩, ⟨TAMP.CFG.COMB 0, []⟩, ⟨TAMP.CFG.EN 0, []⟩]⟩,
    ⟨0x06, 1, 1, [⟨TAMP.THR1.HI 0, []⟩, ⟨TAMP.THR1.LO 0, []⟩]⟩,
    ⟨0x07, 1, 1, [⟨TAMP.THR2.HI 0, []⟩, ⟨TAMP.THR2.LO 0, []⟩]⟩,
    ⟨0x08, 1, 1, [⟨TAMP.DFWIN.TICKS, [(0, 0, 1)]⟩]⟩,
    ⟨0x09, 1, 1, [⟨TAMP.CNT.SAT, []⟩, ⟨TAMP.CNT.COUNT, []⟩]⟩,
    ⟨0x0A, 1, 1, [⟨TAMP.TEST.MASK, []⟩]⟩,
    ⟨0x0B, 1, 1, [⟨TAMP.TESTRES.FAIL, []⟩, ⟨TAMP.TESTRES.DONE, []⟩]⟩,
    ⟨0x0C, 1, 1, [⟨TAMP.AVAIL.D2, []⟩, ⟨TAMP.AVAIL.D1, []⟩]⟩ ]

/-- The registers of ACCESS (17_tamper_and_access.md R491). -/
def regsAccess : List Reg :=
  [ ⟨0x00, 1, 1, [⟨ACCESS.LEVEL.FPSET, []⟩, ⟨ACCESS.LEVEL.PLOCK, []⟩, ⟨ACCESS.LEVEL.PWSET, []⟩, ⟨ACCESS.LEVEL.LOCKED, []⟩, ⟨ACCESS.LEVEL.LEVEL, []⟩]⟩,
    ⟨0x01, 1, 1, [⟨ACCESS.FAIL.COUNT, []⟩]⟩,
    ⟨0x02, 1, 1, [⟨ACCESS.BACKOFF.SEC, []⟩]⟩,
    ⟨0x03, 1, 1, [⟨ACCESS.KGEN.KGEN, []⟩]⟩,
    ⟨0x04, 1, 1, [⟨ACCESS.CTRL.IDLE, [(0, 0, 1)]⟩]⟩,
    ⟨0x05, 1, 1, [⟨ACCESS.CLOSE.CLOSE, []⟩]⟩,
    ⟨0x08, 1, 1, [⟨ACCESS.MSEL.WORD 0, []⟩, ⟨ACCESS.MSEL.REG 0, []⟩]⟩,
    ⟨0x09, 1, 1, [⟨ACCESS.MDATA.DATA 0, []⟩]⟩,
    ⟨0x0A, 1, 1, [⟨ACCESS.MCNT.CNT, []⟩]⟩ ]

/-- The registers of PERMIT (18_power_states_and_reset.md R513). -/
def regsPermit : List Reg :=
  [ ⟨0x00, 1, 1, [⟨PERMIT.BUDGET.LIMIT, [(2601, 65535, 2600)]⟩]⟩,
    ⟨0x01, 1, 1, [⟨PERMIT.EFFECT.SUPPLY, []⟩, ⟨PERMIT.EFFECT.EFF, []⟩]⟩,
    ⟨0x02, 1, 1, [⟨PERMIT.USE.QUEUED, []⟩, ⟨PERMIT.USE.GRANTED, []⟩]⟩,
    ⟨0x03, 1, 1, [⟨PERMIT.BASE.BASE, []⟩]⟩,
    ⟨0x04, 1, 1, [⟨PERMIT.MAXHOLD.GRAINS, [(0, 0, 1)]⟩]⟩,
    ⟨0x05, 1, 1, [⟨PERMIT.REL.NUM, []⟩]⟩,
    ⟨0x06, 1, 1, [⟨PERMIT.STATUS.FROZEN, []⟩, ⟨PERMIT.STATUS.REVOKED, []⟩, ⟨PERMIT.STATUS.RELREF, []⟩]⟩,
    ⟨0x07, 1, 1, [⟨PERMIT.REVOKES.SAT, []⟩, ⟨PERMIT.REVOKES.COUNT, []⟩]⟩,
    ⟨0x10, 16, 1, [⟨PERMIT.SLOT.DRAW 0, []⟩, ⟨PERMIT.SLOT.HOLDER 0, []⟩, ⟨PERMIT.SLOT.CLASS 0, []⟩, ⟨PERMIT.SLOT.STATE 0, []⟩]⟩,
    ⟨0x20, 16, 1, [⟨PERMIT.REM.GRAINS 0, []⟩]⟩ ]

/-- The registers of PWR (18_power_states_and_reset.md R514). -/
def regsPwr : List Reg :=
  [ ⟨0x00, 1, 1, [⟨PWR.STATE.HOSTABS, []⟩, ⟨PWR.STATE.CELLOK, []⟩, ⟨PWR.STATE.SFW, []⟩, ⟨PWR.STATE.STATE, []⟩]⟩,
    ⟨0x01, 1, 1, [⟨PWR.SFTHR.HYST, [(0, 0, 1)]⟩, ⟨PWR.SFTHR.THR, [(0, 79, 80), (201, 255, 200)]⟩]⟩,
    ⟨0x02, 1, 1, [⟨PWR.BULK.V, []⟩]⟩,
    ⟨0x03, 1, 1, [⟨PWR.CELL.MV, []⟩]⟩,
    ⟨0x04, 1, 1, [⟨PWR.HOSTTO.SEC, []⟩]⟩,
    ⟨0x05, 1, 1, [⟨PWR.DOM.ON, []⟩]⟩,
    ⟨0x08, 1, 1, [⟨PWR.BVCFG.EN, []⟩, ⟨PWR.BVCFG.PERIOD, [(0, 0, 1), (257, 511, 256)]⟩]⟩,
    ⟨0x09, 1, 1, [⟨PWR.BVWIN.SAT, []⟩, ⟨PWR.BVWIN.COUNT, []⟩]⟩,
    ⟨0x10, 8, 1, [⟨PWR.BVCH.SEL 0, []⟩]⟩,
    ⟨0x18, 8, 1, [⟨PWR.BVTHR.HI 0, []⟩, ⟨PWR.BVTHR.LO 0, []⟩]⟩,
    ⟨0x20, 8, 1, [⟨PWR.BVCNT.SAT 0, []⟩, ⟨PWR.BVCNT.COUNT 0, []⟩]⟩,
    ⟨0x28, 8, 1, [⟨PWR.BVLAST.CODE 0, []⟩]⟩ ]

/-- The registers of RST (18_power_states_and_reset.md R515). -/
def regsRst : List Reg :=
  [ ⟨0x00, 1, 1, [⟨RST.CAUSE.SAVEBAD, []⟩, ⟨RST.CAUSE.PREV, []⟩, ⟨RST.CAUSE.CAUSE, []⟩]⟩,
    ⟨0x01, 1, 1, [⟨RST.NRESET.SAT, []⟩, ⟨RST.NRESET.COUNT, []⟩]⟩,
    ⟨0x02, 1, 1, [⟨RST.CMD.KEY, []⟩]⟩,
    ⟨0x04, 2, 1, [⟨RST.WDCFG.WARN 0, []⟩, ⟨RST.WDCFG.PERIOD 0, [(0, 0, 1)]⟩]⟩,
    ⟨0x06, 2, 1, [⟨RST.WDSERVE.KEY 0, []⟩]⟩,
    ⟨0x08, 2, 1, [⟨RST.WDREM.MS 0, []⟩]⟩ ]

/-- The registers of HOST (19_host_link.md R531). -/
def regsHost : List Reg :=
  [ ⟨0x00, 1, 1, [⟨HOST.STATUS.EXPVALID, []⟩, ⟨HOST.STATUS.HRDY, []⟩, ⟨HOST.STATUS.OBFULL, []⟩, ⟨HOST.STATUS.FREE, []⟩]⟩,
    ⟨0x01, 1, 1, [⟨HOST.EXP.SEQ, []⟩]⟩,
    ⟨0x02, 1, 1, [⟨HOST.DWMARK.SEQ, []⟩]⟩,
    ⟨0x03, 1, 1, [⟨HOST.WMARK.SEQ, []⟩]⟩,
    ⟨0x04, 1, 1, [⟨HOST.OUTSEQ.SEQ, []⟩]⟩,
    ⟨0x08, 1, 1, [⟨HOST.IBSEL.SLOT 0, []⟩, ⟨HOST.IBSEL.WORD 0, []⟩]⟩,
    ⟨0x09, 1, 1, [⟨HOST.IBDATA.DATA 0, []⟩]⟩,
    ⟨0x0A, 1, 1, [⟨HOST.IBPEND.PEND, []⟩]⟩,
    ⟨0x0C, 1, 1, [⟨HOST.OBLEN.LEN, []⟩]⟩,
    ⟨0x0D, 1, 1, [⟨HOST.OBDATA.DATA, []⟩]⟩,
    ⟨0x0E, 1, 1, [⟨HOST.OBGO.TYPE, []⟩, ⟨HOST.OBGO.DUP, []⟩, ⟨HOST.OBGO.SLOT, []⟩, ⟨HOST.OBGO.ANSWER, []⟩, ⟨HOST.OBGO.GO, []⟩]⟩,
    ⟨0x0F, 1, 1, [⟨HOST.OBFREE.BYTES, []⟩]⟩,
    ⟨0x10, 1, 1, [⟨HOST.NBAD.SAT, []⟩, ⟨HOST.NBAD.COUNT, []⟩]⟩,
    ⟨0x11, 1, 1, [⟨HOST.NDISC.SAT, []⟩, ⟨HOST.NDISC.COUNT, []⟩]⟩,
    ⟨0x12, 1, 1, [⟨HOST.NGAP.SAT, []⟩, ⟨HOST.NGAP.COUNT, []⟩]⟩,
    ⟨0x13, 1, 1, [⟨HOST.NDUP.SAT, []⟩, ⟨HOST.NDUP.COUNT, []⟩]⟩ ]

end Sys2Proof.Machine
end

