-- ==== Sys2Proof/Machine/Ops.lean ====
section
/-! DEFINITION. The named operations over the field file, the memory, the clocks, the interrupt sources and the fault
record, which every meaning is written with. -/

namespace Sys2Proof.Machine

/-! ## Sparse lists in canonical form -/

/-- Lexicographic order of two lists of numbers. -/
def lexLt : List Nat → List Nat → Bool
  | _, [] => false
  | [], _ :: _ => true
  | a :: as, b :: bs => if a < b then true else if b < a then false else lexLt as bs

/-- The value a sparse list holds for a key, d where it lists none. -/
def sparseGet {κ α : Type} [DecidableEq κ] (d : α) (k : κ) : List (κ × α) → α
  | [] => d
  | (k', v) :: l => if k' = k then v else sparseGet d k l

/-- The list without a key. -/
def sparseErase {κ α : Type} [DecidableEq κ] (k : κ) : List (κ × α) → List (κ × α)
  | [] => []
  | (k', v) :: l => if k' = k then sparseErase k l else (k', v) :: sparseErase k l

/-- The list with an entry put before the first greater key. -/
def sparseInsert {κ α : Type} (lt : κ → κ → Bool) (k : κ) (v : α) : List (κ × α) → List (κ × α)
  | [] => [(k, v)]
  | (k', v') :: l => if lt k k' then (k, v) :: (k', v') :: l else (k', v') :: sparseInsert lt k v l

/-- Write one key: a value equal to the default removes the entry. -/
def sparsePut {κ α : Type} [DecidableEq κ] [DecidableEq α] (lt : κ → κ → Bool) (d : α) (k : κ) (v : α)
    (l : List (κ × α)) : List (κ × α) :=
  if v = d then sparseErase k l else sparseInsert lt k v (sparseErase k l)

/-- The form of a sparse list: keys strictly rising, no entry equal to what an unlisted key reads as. -/
def sparseWf {κ α : Type} [DecidableEq α] (lt : κ → κ → Bool) (d : κ → α) : List (κ × α) → Bool
  | [] => true
  | (k, v) :: l => decide (v ≠ d k) && l.all (fun e => lt k e.1) && sparseWf lt d l

/-! ## Register fields -/

/-- The order of the field file. -/
def Fld.lt (a b : Fld) : Bool := lexLt a.code b.code

/-- The value of a field (R15: its reset value until written). -/
def State.get (s : State) (f : Fld) : Nat := sparseGet f.reset f s.flds

/-- Write a field, at its width. -/
def State.set (s : State) (f : Fld) (v : Nat) : State :=
  { s with flds := sparsePut Fld.lt f.reset f (v % 2 ^ f.w) s.flds }

/-- A one-bit field as a Bool. -/
def State.on (s : State) (f : Fld) : Bool := s.get f != 0

/-- Write a one-bit field. -/
def State.flag (s : State) (f : Fld) (b : Bool) : State := s.set f (ofB b)

/-- Bit i of a field. -/
def State.bit (s : State) (f : Fld) (i : Nat) : Bool := bitOf (s.get f) i

/-- Set bit i of a field. -/
def State.setBit (s : State) (f : Fld) (i : Nat) (b : Bool) : State := s.set f (withBit (s.get f) i b)

/-- Write a 64-bit value into its low and high fields. -/
def State.set2 (s : State) (lo hi : Fld) (v : Nat) : State := (s.set lo v).set hi (v / 2 ^ 32)

/-- The 64-bit value of a low and a high field. -/
def State.get2 (s : State) (lo hi : Fld) : Nat := s.get lo + 2 ^ 32 * s.get hi

/-- The value in force of a field whose writes take effect at a boundary. -/
def State.eff (s : State) (f : Fld) : Nat := sparseGet f.reset f s.force

/-- A boundary puts a field's written value in force. -/
def State.takeEffect (s : State) (f : Fld) : State :=
  { s with force := sparsePut Fld.lt f.reset f (s.get f) s.force }

/-- A value is put in force beside the one written. -/
def State.force' (s : State) (f : Fld) (v : Nat) : State := { s with force := sparsePut Fld.lt f.reset f v s.force }

/-- A saturating counter and its SAT bit (R41): an increment that finds the counter full sets SAT. -/
def State.bump (s : State) (count sat : Fld) : State :=
  if s.get count + 1 < 2 ^ count.w then s.set count (s.get count + 1) else s.flag sat true

/-- A counter that stops at its greatest value. -/
def State.incSat (s : State) (f : Fld) : State :=
  if s.get f + 1 < 2 ^ f.w then s.set f (s.get f + 1) else s

/-- A field's copy in another bank (R562 and the window registers). Two resets depend on the tamper source (R490). -/
def Fld.at (f : Fld) (b : Nat) : Fld :=
  { f with
    bank := b
    reset := if f.unit = 0x3C ∧ f.idx = 5 ∧ f.lo = 3 then (if b ≤ 1 then 0 else 1)
             else if f.unit = 0x3C ∧ f.idx = 6 then
               (if f.lo = 16 then (if b = 1 then 0x7FFF else 0xFFFF) else (if b = 1 then 0x8000 else 0))
             else f.reset }

/-! ## Registers by their tables (R15, R16) -/

/-- The row of a table that holds an index, and which copy it is. -/
def findReg (rows : List Reg) (idx : Nat) : Option (Reg × Nat) :=
  match rows.find? (fun r => decide (r.base ≤ idx ∧ (idx - r.base) / r.stride < r.count ∧ (idx - r.base) % r.stride = 0)) with
  | none => none
  | some r => some (r, (idx - r.base) / r.stride)

/-- The cells of register idx of a unit, in one bank. -/
def cellsOf (rows : List Reg) (unit idx bank : Nat) : Option (List Cell) :=
  (findReg rows idx).map (fun rk => rk.1.cells.map (fun c =>
    { c with fld := { c.fld.at bank with unit := unit, idx := idx } }))

/-- What a read returns (R16): WO fields read zero. -/
def State.readCells (s : State) (cs : List Cell) : Nat :=
  cs.foldl (fun a c => a + (if c.fld.acc = .wo then 0 else s.get c.fld) * 2 ^ c.fld.lo) 0

/-- A read sets RC fields to their reset value in the same access (R16). -/
def State.clearRC (s : State) (cs : List Cell) : State :=
  cs.foldl (fun t c => if c.fld.acc = .rc then t.set c.fld c.fld.reset else t) s

/-- The value stored for one written (the tables' "stored as"). -/
def storedAs (sub : List (Nat × Nat × Nat)) (v : Nat) : Nat :=
  match sub.find? (fun r => decide (r.1 ≤ v ∧ v ≤ r.2.1)) with
  | none => v
  | some r => r.2.2

/-- One field of a written word acts by its access code (R16): RW is set, a one clears a W1C bit, the rest ignore it. -/
def State.writeCell (s : State) (v : Nat) (c : Cell) : State :=
  match c.fld.acc with
  | .rw => s.set c.fld (storedAs c.sub (field v c.fld.lo c.fld.w))
  | .w1c => s.set c.fld (s.get c.fld &&& (2 ^ c.fld.w - 1 - field v c.fld.lo c.fld.w))
  | _ => s

/-- A written word acts field by field. -/
def State.writeCells (s : State) (cs : List Cell) (v : Nat) : State := cs.foldl (fun t c => t.writeCell v c) s

/-! ## Memory (R35) -/

/-- The byte at a control-core address: boot ROM bytes are Config's, a RAM byte never written reads 0 (R181). -/
def State.byte (s : State) (a : Nat) : Byte := if a < 0x80000 then Config.bootRom a else sparseGet 0 a s.mem

/-- n bytes upward from an address. -/
def State.bytes (s : State) (a : Nat) : Nat → List Byte
  | 0 => []
  | n + 1 => s.byte a :: s.bytes (a + 1) n

/-- The listed entries of a run of bytes from an address: those that are not zero. -/
def runOf (a : Nat) : List Byte → List (Nat × Byte)
  | [] => []
  | b :: bs => if b = 0 then runOf (a + 1) bs else (a, b) :: runOf (a + 1) bs

/-- Write bytes upward from an address. -/
def State.setBytes (s : State) (a : Nat) (bs : List Byte) : State :=
  { s with mem := s.mem.filter (fun e => decide (e.1 < a)) ++ runOf a bs ++
      s.mem.filter (fun e => decide (a + bs.length ≤ e.1)) }

/-- Write a RAM byte. -/
def State.setByte (s : State) (a : Nat) (b : Byte) : State := s.setBytes a [b]

/-- The little-endian word at an address (R183). -/
def State.word (s : State) (a : Nat) : Word := BitVec.ofNat 32 (leNat (s.bytes a 4))

/-- Write a word. -/
def State.setWord (s : State) (a : Nat) (w : Word) : State := s.setBytes a (leBytes 4 w.toNat)

/-- Clear a region. -/
def State.clearMem (s : State) (a n : Nat) : State :=
  { s with mem := s.mem.filter (fun e => decide (e.1 < a ∨ a + n ≤ e.1)) }

/-- The memory is in its canonical form. -/
def memWf (m : List (Nat × Byte)) : Bool := sparseWf (fun x y => decide (x < y)) (fun _ => (0 : Byte)) m

/-- The field file is in its canonical form. -/
def fldsWf (l : List (Fld × Nat)) : Bool := sparseWf Fld.lt (fun f => f.reset) l

/-- The control-core regions of R35. -/
inductive Region where
  | rom | capture | control | laneMem (n : Nat) | table | quantity | modem | aon | none
  deriving DecidableEq, Repr

/-- The region of a control-core address (R35). -/
def regionOf (a : Nat) : Region :=
  if a < 0x80000 then .rom
  else if 0x10000000 ≤ a ∧ a < 0x10400000 then .capture
  else if 0x10400000 ≤ a ∧ a < 0x10580000 then .control
  else if 0x10580000 ≤ a ∧ a < 0x10670000 then .laneMem ((a - 0x10580000) / 0x30000)
  else if 0x10670000 ≤ a ∧ a < 0x10680000 then .table
  else if 0x10680000 ≤ a ∧ a < 0x10780000 then .quantity
  else if 0x10780000 ≤ a ∧ a < 0x10800000 then .modem
  else if 0x20000000 ≤ a ∧ a < 0x20010000 then .aon
  else .none

/-- Where lane n's address lies in the control-core view: its own memory and the shared tables, nothing else (R35). -/
def laneAddr (n a : Nat) : Option Nat :=
  if a < 0x30000 then some (0x10580000 + n * 0x30000 + a)
  else if 0x40000 ≤ a ∧ a < 0x50000 then some (0x10670000 + (a - 0x40000))
  else none

/-! ## The part -/

/-- A unit of the unit map (R34) is present on the part (R7, R33). -/
def Part.hasUnit (p : Part) (u : Nat) : Bool :=
  if u = 0x12 ∨ u = 0x13 then p.big
  else if u = 0x34 then p.optL
  else if u = 0x38 then p.optG
  else u ∈ [0x00, 0x01, 0x02, 0x03, 0x04, 0x08, 0x10, 0x11, 0x14, 0x18, 0x19, 0x20, 0x21, 0x24, 0x25, 0x28, 0x29,
            0x2C, 0x30, 0x3C, 0x3D, 0x40, 0x41, 0x48]

/-- A channel is present (R2, R10). -/
def Part.hasChan (p : Part) (k : Nat) : Bool :=
  if p.big then decide (k < 24) else decide (k < 7 ∨ k = 14 ∨ (16 ≤ k ∧ k < 20))

/-- A quad is present (R2). -/
def Part.hasQuad (p : Part) (q : Nat) : Bool := if p.big then decide (q < 4) else decide (q < 2)

/-- How many quads there are. -/
def Part.quads (p : Part) : Nat := if p.big then 4 else 2

/-! ## Clocks -/

/-- n CORE cycles pass (R24: 6250 of them are one SLOW cycle). The phase is left to its writer. -/
def State.elapse (s : State) (n : Nat) : State :=
  { s with clock := { s.clock with
      now := s.clock.now + n
      slowPh := (s.clock.slowPh + n) % 6250
      rtc := s.clock.rtc + (s.clock.slowPh + n) / 6250 } }

/-- n SLOW cycles pass while CORE is off: the RTC alone counts (R39, R72). -/
def State.elapseSlow (s : State) (n : Nat) : State :=
  { s with clock := { s.clock with rtc := s.clock.rtc + n } }

/-- What an empty queue lets pass (DESIGN CHOICE, log entry 1): one CORE cycle while the mains side runs, the phase
stopping at the last of the grain and while the PLL is not locked (R25, R68); one SLOW cycle in BIVOUAC; nothing in OFF. -/
def State.tick (s : State) : State :=
  match s.power with
  | .on =>
    let t := s.elapse 1
    if t.clock.pllLock ∧ t.clock.phase + 1 < t.clock.glen then
      { t with clock := { t.clock with phase := t.clock.phase + 1 } }
    else t
  | .bivouac => s.elapseSlow 1
  | .off => s

/-- What a command does to the mains side: nothing while that does not run (R39). -/
def State.whenOn (s t : State) : State := if s.power = .on then t else s

/-- The count of SLOW cycles at which a second has 32 768 of them (R24). -/
def slowHz : Nat := 32768

/-! ## Interrupt sources (R403–R407) -/

/-- The bank of an interrupt source's window: shared source n, or private source n of core c. -/
def irqBank (core src : Nat) : Nat := if src < 0x10 then 0x100 + 0x10 * core + src else src

/-- A shared source that exists on the part (R406). -/
def Part.hasSource (p : Part) (src : Nat) : Bool :=
  if 0x48 ≤ src ∧ src ≤ 0x4A then p.optL
  else if 0x50 ≤ src ∧ src ≤ 0x52 then p.optG
  else decide ((0x10 ≤ src ∧ src ≤ 0x3E) ∨ (0x40 ≤ src ∧ src ≤ 0x44) ∨ (0x58 ≤ src ∧ src ≤ 0x5A) ∨
               (0x60 ≤ src ∧ src ≤ 0x62))

/-- The arrival counter of a source (R407). -/
def State.countArrival (s : State) (b : Nat) : State :=
  if s.get (IRQ.SCNT.COUNT b) = 255 then s.flag (IRQ.SCNT.SAT b) true
  else s.set (IRQ.SCNT.COUNT b) (s.get (IRQ.SCNT.COUNT b) + 1)

/-- A shared source arrives: it pends and is counted (R407). -/
def State.arrive (s : State) (src : Nat) : State :=
  if s.part.hasSource src then
    (s.setBit (IRQ.SPEND.PEND ((src - 0x10) / 32)) ((src - 0x10) % 32) true).countArrival src
  else s

/-- A private source of core c arrives (R404, R407). -/
def State.arrivePrivate (s : State) (c src : Nat) : State :=
  if src < 0x0A then (s.setBit (IRQ.PPEND.PEND c) src true).countArrival (irqBank c src) else s

/-- A status bit sets; its source arrives when it was clear (R406: when the condition begins). -/
def State.raise (s : State) (f : Fld) (src : Nat) : State :=
  if s.on f then s else (s.flag f true).arrive src

/-! ## The fault record (R41) -/

/-- A fault is recorded, or sets MORE, and is counted (R41). -/
def State.recordFault (s : State) (who code unit : Nat) (pc : Nat) : State :=
  let s := s.bump SYS.FCOUNT.COUNT SYS.FCOUNT.SAT
  if s.on SYS.FAULT.VALID then s.flag SYS.FAULT.MORE true
  else
    (((((s.set SYS.FAULT.UNIT unit).set SYS.FAULT.WHO who).set SYS.FAULT.CODE code).set2 SYS.FGRAINLO.GLO SYS.FGRAINHI.GHI
      s.clock.grain).set SYS.FPC.PC pc).raise SYS.FAULT.VALID 0x3B

/-- The supervisor's fault codes 0x20–0x23 (R200): WHO 0x10. No instruction faulted, and R41 does not say what FPC then
holds: the model records 0 (DESIGN CHOICE, log entry 51). -/
def State.supervisorFault (s : State) (code unit : Nat) : State := s.recordFault 0x10 code unit 0

/-! ## The access level (R480, R481) -/

/-- The level in force: 0 CLOSED, 1 SERVICE, 2 OWNER, 3 VENDOR; at least OWNER until the production lock. -/
def State.level (s : State) : Nat :=
  if s.on ACCESS.LEVEL.PLOCK then s.get ACCESS.LEVEL.LEVEL else max 2 (s.get ACCESS.LEVEL.LEVEL)

/-! ## Free values -/

/-- A fresh word of the random generator. -/
def State.draw (s : State) : Word × State := (Config.random s.free, { s with free := s.free + 1 })

/-- A value the spec leaves open, and the state that has used it. -/
def State.openVal (s : State) : Nat × State := (Config.openValue s.free, { s with free := s.free + 1 })

/-! ## Lists -/

/-- A list with element i changed. -/
def modAt {α : Type} (l : List α) (i : Nat) (f : α → α) : List α := l.modify i f

/-- Fold a state over numbers 0 to n − 1. -/
def State.forN (s : State) (n : Nat) (f : Nat → State → State) : State := (List.range n).foldl (fun t i => f i t) s

end Sys2Proof.Machine
end

