-- ==== Sys2Proof/Machine/Flags.lean ====
section
/-! DEFINITION. Every flag computation of Quineg (R177–R179, R206–R208). -/

namespace Sys2Proof.Machine

/-- Bit i of a word set or cleared. -/
def putBit (w : Word) (i : Nat) (b : Bool) : Word :=
  if b then w ||| BitVec.twoPow 32 i else w &&& ~~~(BitVec.twoPow 32 i)

/-- Z and N from a result (R206). -/
def flagsZN (fl r : Word) : Word := putBit (putBit fl 0 (r == 0)) 1 r.msb

/-- Z, N, C and V of a + b (R206): C the carry out, V where the signed result is not the exact sum. -/
def flagsAdd (fl a b : Word) : Word :=
  putBit (putBit (flagsZN fl (a + b)) 2 (decide (2 ^ 32 ≤ a.toNat + b.toNat)))
    3 (decide ((a + b).toInt ≠ a.toInt + b.toInt))

/-- Z, N, C and V of a − b (R206): C set when no borrow occurs. -/
def flagsSub (fl a b : Word) : Word :=
  putBit (putBit (flagsZN fl (a - b)) 2 (decide (b.toNat ≤ a.toNat)))
    3 (decide ((a - b).toInt ≠ a.toInt - b.toInt))

/-- The writable bits of `fl` (R179). -/
def flMask : Word := 0x00007F0F#32

/-- A sticky bit sets where its condition holds (R179). -/
def sticky (fl : Word) (i : Nat) (c : Bool) : Word := if c then putBit fl i true else fl

/-- Positions of the sticky bits (R179). -/
abbrev flSAT : Nat := 8
abbrev flAOV : Nat := 9
abbrev flDZ : Nat := 10
abbrev flSQN : Nat := 11
abbrev flLCL : Nat := 12
abbrev flINV : Nat := 13
abbrev flMRK : Nat := 14

/-- sat32: the value held to the signed 32-bit range, and whether it clamped (R177). -/
def sat32 (x : Int) : Word × Bool :=
  (BitVec.ofInt 32 (clampI (-(2 ^ 31)) (2 ^ 31 - 1) x), decide (x < -(2 ^ 31) ∨ 2 ^ 31 ≤ x))

/-- acc: a raw 64.32 value held to the accumulator range, and whether it clamped (R178). -/
def accClamp (x : Int) : Acc × Bool :=
  (BitVec.ofInt 96 (clampI (-(2 ^ 95)) (2 ^ 95 - 1) x), decide (x < -(2 ^ 95) ∨ 2 ^ 95 ≤ x))

end Sys2Proof.Machine
end

