-- ==== Sys2Proof/Machine/Dsp.lean ====
section
/-! DEFINITION. The arithmetic of the decimation stages: CIC decimators, the half-band stages and DRP, the rate converter of
BITIN, the Rogowski integrator (05_filter_chain.md R146–R153, R159; 04_sense_front_end.md R139–R141). -/

namespace Sys2Proof.Machine

/-! ## Roots and quotients -/

/-- ⌊√n⌋ of a number below 2^(2k). -/
def rootFloor (k n : Nat) : Nat :=
  ((List.range k).reverse).foldl (fun r b => if (r + 2 ^ b) * (r + 2 ^ b) ≤ n then r + 2 ^ b else r) 0

/-- √(s/n) as an integer: one of its two neighbours where it is none (log entry 14). -/
def rootQ (s n : Nat) : Nat :=
  let r := rootFloor 80 (s / n)
  if r * r * n = s then r else if Config.roundUp s n then r + 1 else r

/-- The middle one of three. -/
def median (a b c : Int) : Int := max (min a b) (min (max a b) c)

/-- An integer as a Q1.31 word, held to its limits. -/
def toQ31 (x : Int) : Word := (sat32 x).1

/-! ## CIC decimators (R147, R148) -/

/-- The width of the integrator and comb registers of order N: 18, 24 or 30 bits. -/
def cicWidth (order : Nat) : Nat := 6 * order

/-- The integrator registers take one bit: each adds the one before it, modulo 2^w. -/
def integrators (w : Nat) (x : Nat) : List Nat → List Nat
  | [] => []
  | r :: rs => (r + x) % 2 ^ w :: integrators w ((r + x) % 2 ^ w) rs

/-- The comb registers take the last integrator's value: what comes out, and the registers after. -/
def combs (w : Nat) (x : Nat) : List Nat → Nat × List Nat
  | [] => (x, [])
  | r :: rs => ((combs w ((x + 2 ^ w - r) % 2 ^ w) rs).1, x :: (combs w ((x + 2 ^ w - r) % 2 ^ w) rs).2)

/-- The registers of a decimator of order N: those it lacks hold 0 (log entry 52). -/
def orderRegs (order : Nat) (l : List Nat) : List Nat := (l ++ List.replicate order 0).take order

/-- One bit enters a CIC of order N, registers of w bits, that decimates by `by'`: the decimator after it, and the value
it gives where a word is complete. -/
def Cic.bit (order w by' : Nat) (c : Cic) (b : Bool) : Cic × Option Nat :=
  let i := integrators w (ofB b) (orderRegs order c.integ)
  if c.count + 1 < by' then ({ c with integ := i, count := c.count + 1 }, none)
  else
    let o := combs w (i.getLastD 0) (orderRegs order c.comb)
    ({ c with integ := i, comb := o.2, count := 0 }, some o.1)

/-- n bits in turn, the integrators reset in the periods named (R113): the decimator after them, and its values, oldest
first. -/
def Cic.run (order w by' : Nat) (resets : List Nat) (bits : Nat → Bool) (n : Nat) (c : Cic) : Cic × List Nat :=
  let r := (List.range n).foldl (fun (a : Cic × List Nat) i =>
    let c := if resets.contains i then { a.1 with integ := [] } else a.1
    let x := c.bit order w by' (bits i)
    (x.1, match x.2 with | none => a.2 | some v => v :: a.2)) (c, [])
  (r.1, r.2.reverse)

/-- The word of a decimator's value v: 2ρ − 1 with ρ = v/R^N, in Q1.31, held to its limits (R139, R147). -/
def cicWord (order by' v : Nat) : Word :=
  toQ31 (Config.round ((2 * (v : Int) - (by' ^ order : Nat)) * 2 ^ 31) (by' ^ order))

/-- The alignment delay of a core's bitstream, in MOD periods (R148). -/
def alignDelay (order : Nat) : Nat := if order = 3 then 249 else if order = 4 then 225 else 200

/-- The delay of a CIC of order N that decimates by R, in half periods of its input clock (R148, R151, R152). -/
def cicDelay (order by' : Nat) : Nat := order * (by' - 1)

/-- The 400 bits of a grain pass the alignment delay and the CIC (R147, R148): eight words (their phase in the grain: log
entry 52). -/
def Cic.grain (order : Nat) (resets : List Nat) (bits : BitVec 400) (c : Cic) : Cic × List Word :=
  let all := c.line.toNat + bits.toNat * 2 ^ 256
  let r := c.run order (cicWidth order) 50 resets (fun i => Nat.testBit all (256 + i - alignDelay order)) 400
  ({ r.1 with line := BitVec.ofNat 256 (all / 2 ^ 400) }, r.2.map (cicWord order 50))

/-- Two cores' bits merged bit by bit (R130) pass an order-5 CIC by 50 at 25.6 MHz (R151): sixteen words. -/
def Cic.mergedGrain (resets : List Nat) (b0 b1 : BitVec 400) (c : Cic) : Cic × List Word :=
  let r := c.run 5 30 50 resets (fun i => if i % 2 = 0 then b0.toNat.testBit (i / 2) else b1.toNat.testBit (i / 2)) 800
  (r.1, r.2.map (cicWord 5 50))

/-- The bits of a grain on BCLKI pass a CIC that decimates by DEC (R141), its registers wide enough for 78^5. -/
def Cic.external (order dec n : Nat) (bits : BitVec 672) (c : Cic) : Cic × List Word :=
  let r := c.run order 36 dec [] (fun i => bits.toNat.testBit i) n
  (r.1, r.2.map (cicWord order dec))

/-! ## FIR stages (R153) -/

/-- Products of Q1.31 words (newest first) and Q1.23 coefficients, accumulated in 56 bits (log entry 52). -/
def firSum (coef : Nat → Int) (xs : List Word) : Int :=
  (BitVec.ofInt 56 (xs.zipIdx.foldl (fun (a : Int) e => if e.1 = 0 then a else a + coef e.2 * e.1.toInt) 0)).toInt

/-- An output of a stage: rounded, ties to even, and saturated; whether it saturated (R153). -/
def firOut (coef : Nat → Int) (xs : List Word) : Word × Bool := sat32 (rneDiv (firSum coef xs) (2 ^ 23))

/-- Words pass a stage of n taps that decimates by d, oldest first, one output after every d: its history after them, newest
first, its outputs, and whether one saturated. -/
def firStage (n d : Nat) (coef : Nat → Int) (hist xs : List Word) : List Word × List Word × Bool :=
  let r := xs.zipIdx.foldl (fun (a : List Word × List Word × Bool) e =>
    let h := (e.1 :: a.1).take n
    if (e.2 + 1) % d = 0 then (h, (firOut coef h).1 :: a.2.1, a.2.2 || (firOut coef h).2) else (h, a.2.1, a.2.2))
    (hist, [], false)
  (r.1, r.2.1.reverse, r.2.2)

/-- A tap of a half-band stage of 2 m + 1 taps in ROM: linear-phase, symmetric about a middle tap of one half, with every
other tap zero; minimum-phase without that property (R146, R153). -/
def halfBand (minPhase : Bool) (m j : Nat) : Int :=
  if minPhase then (Config.minTap m j).toInt
  else
    let d := if j < m then m - j else j - m
    if d = 0 then 2 ^ 22 else if d % 2 = 0 then 0 else (Config.halfTap m d).toInt

/-- A tap of HB0 in ROM (R151). -/
def hb0Tap (j : Nat) : Int := (Config.hb0Tap j).toInt

/-- Eight words at 256 kS/s pass HB1, HB2, DRP and HB3 (R146): the chain after them, the grain's value, and whether a stage
saturated. -/
def Dec.grain (minPhase : Bool) (drp : Nat → Int) (c : Dec) (xs : List Word) : Dec × Word × Bool :=
  let a := firStage 11 2 (halfBand minPhase 5) c.hb1 xs
  let b := firStage 19 2 (halfBand minPhase 9) c.hb2 a.2.1
  let d := firStage 128 1 drp c.drp b.2.1
  let e := firStage 39 2 (halfBand minPhase 19) c.hb3 d.2.1
  (⟨a.1, b.1, d.1, e.1⟩, e.2.1.getLastD 0, a.2.2 || b.2.2 || d.2.2 || e.2.2)

/-! ## The rate converter of BITIN (R141) -/

/-- Word i of a grain on the 256 kS/s grid, from the latest words before the converter (newest first), two words behind:
a constant stream stays that constant (R141; log entry 52). -/
def rateWord (fmeas dec i : Nat) (hist : List Word) : Word :=
  match hist with
  | [] => 0
  | x :: rest => if rest.all (fun y => y == x) then x else Config.rateConvert fmeas dec i hist

/-! ## The Rogowski integrator (R159) -/

/-- The state y in 2^-(31 + f), f the state's fraction bits below Q1.31, after a step of the recurrence (R159; log entry
13): k is in 2^-32. -/
def rogowski (leak k : Nat) (y : BitVec 64) (x0 x1 : Word) : BitVec 64 :=
  let v := y.toInt - Config.round y.toInt (2 ^ leak) + Config.round (k * (x0.toInt + x1.toInt) * 2 ^ Config.integFrac) (2 ^ 33)
  if -(2 ^ 63) ≤ v ∧ v < 2 ^ 63 then BitVec.ofInt 64 v else Config.integOver v

/-- The integrator's output: rounded and saturated as R153 lays down, and whether it saturated. -/
def rogowskiOut (y : BitVec 64) : Word × Bool := sat32 (rneDiv y.toInt (2 ^ Config.integFrac))

/-! ## Statistics (R112, R116, R384) -/

/-- The sum of n codes as a mean in units of 1/u ppm FS: 5·2^31/8 codes are 10^6 ppm FS (R112). -/
def codesToPpm (u : Nat) (sum : Int) (n : Nat) : Int := Config.round (sum * (8 * 10 ^ 6 * u : Nat)) (n * (5 * 2 ^ 31))

/-- |mean| of a sum of n codes is at most a limit in ppm FS, exactly. -/
def meanWithin (lim : Nat) (sum : Int) (n : Nat) : Bool := decide (sum.natAbs * (8 * 10 ^ 6) ≤ lim * n * (5 * 2 ^ 31))

/-- The RMS of n codes of the given sum of squares is at most (at least) a limit in ppm FS, exactly. -/
def rmsWithin (lim : Nat) (squares : Int) (n : Nat) : Bool :=
  decide (squares * (8 * 10 ^ 6) ^ 2 ≤ ((lim * (5 * 2 ^ 31)) ^ 2 * n : Nat))
def rmsAtLeast (lim : Nat) (squares : Int) (n : Nat) : Bool :=
  decide (((lim * (5 * 2 ^ 31)) ^ 2 * n : Nat) ≤ squares * (8 * 10 ^ 6) ^ 2)

/-- The RMS in ppm FS as an integer. -/
def rmsPpm (squares : Int) (n : Nat) : Nat := rootQ (squares.toNat * (8 * 10 ^ 6) ^ 2) (n * (5 * 2 ^ 31) ^ 2)

/-- One more value of a comparison: e = r − x or x − r, whichever the monitor forms (`sign` is −1 or 1: x = r + sign e). -/
def Cmp.add (c : Cmp) (sign : Int) (e r : Word) : Cmp :=
  let x := r.toInt + sign * e.toInt
  { n := c.n + 1
    se := c.se + e.toInt
    see := c.see + e.toInt * e.toInt
    sums := ⟨c.sums.sxr + x * r.toInt, c.sums.srr + r.toInt * r.toInt, c.sums.sx + x, c.sums.sr + r.toInt⟩ }

/-- Within MEANLIM and RMSLIM (R116). -/
def Cmp.within (c : Cmp) (meanLim rmsLim : Nat) : Bool := meanWithin meanLim c.se c.n && rmsWithin rmsLim c.see c.n

end Sys2Proof.Machine
end

