-- ==== Sys2Proof/Machine/Dft.lean ====
section
/-! DEFINITION. The transforms, phases and symmetrical components of the PQ engine (10_power_quality.md R303, R306, R308),
in fixed point with 60 fraction bits: what they leave of the exact values lies far below the results' last place, and how
the engine rounds a result is open (log entry 14). -/

namespace Sys2Proof.Machine

/-- π · 2^60, rounded down. -/
def pi60 : Nat := 0x3243F6A8885A308D

/-- √2 · 2^60 and √3 · 2^60, rounded down. -/
def sqrtTwo60 : Nat := rootFloor 64 (2 * 2 ^ 120)
def sqrtThree60 : Nat := rootFloor 64 (3 * 2 ^ 120)

/-- Terms of the power series of an angle x (60 fraction bits) from the one given on: alternating, each over the next two
factors. -/
def series (x2 : Int) : Nat → Nat → Int → Int
  | 0, _, _ => 0
  | n + 1, k, term => term + series x2 n (k + 2) (-(term * x2 / 2 ^ 60) / ((k + 1) * (k + 2) : Nat))

/-- Cosine and sine of an angle in 2^-60, up to a quarter turn. -/
def cosSin (x : Int) : Int × Int := (series (x * x / 2 ^ 60) 16 0 (2 ^ 60), series (x * x / 2 ^ 60) 16 1 x)

/-- Cosine and sine of a/n turn, 60 fraction bits. -/
def turn (a n : Nat) : Int × Int :=
  let r := a % n
  let q := 4 * r / n
  let c := cosSin ((4 * r - q * n : Nat) * (pi60 : Nat) / (2 * n : Nat) : Nat)
  match q with
  | 0 => c
  | 1 => (-c.2, c.1)
  | 2 => (-c.1, -c.2)
  | _ => (c.2, -c.1)

/-- Σ x[m] · exp(−j 2π c m / n) over n values, 60 fraction bits (R261, R303). -/
def dft (c : Nat) (xs : List Int) : Int × Int :=
  xs.zipIdx.foldl (fun (a : Int × Int) e =>
    if e.1 = 0 then a
    else
      let t := turn (c * e.2) xs.length
      (a.1 + e.1 * t.1, a.2 - e.1 * t.2)) (0, 0)

/-- A part of Y(c) in 2^-47, within one unit of the exact value however the engine computes it (log entry 14). -/
def binPart (xs : List Int) (c : Nat) (imag : Bool) (sum : Int) : Int :=
  let scale : Nat := if c = 0 then 2 ^ 60 else sqrtTwo60
  sum * scale * 2 ^ 16 / ((xs.length : Nat) * 2 ^ 120 : Nat) + clampI (-1) 1 (Config.binError xs c imag)

/-- Bin c of n points (R303): the parts of X(0)/n or of √2·X(c)/n in 2^-47. -/
def bin (c : Nat) (xs : List Int) : Int × Int :=
  let x := dft c xs
  (binPart xs c false x.1, binPart xs c true x.2)

/-- The product with the unit phasor of t, 60 fraction bits. -/
def rotate (z t : Int × Int) : Int × Int := (z.1 * t.1 - z.2 * t.2, z.1 * t.2 + z.2 * t.1)

/-- The largest k below 2^16 with k/2^16 turn at most the angle of z, by bits, the angle lying in the first quadrant. -/
def angleBits (z : Int × Int) : Nat :=
  ((List.range 14).reverse).foldl (fun k b =>
    if 0 ≤ (rotate z (turn (2 ^ 16 - (k + 2 ^ b)) (2 ^ 16))).2 then k + 2 ^ b else k) 0

/-- The phase of p against r in 2^-16 turn (R306): one of the two neighbours where it is none. A phasor of zero has none, and
any value may stand there. -/
def phaseOf (p r : Int × Int) : Nat :=
  let z := (p.1 * r.1 + p.2 * r.2, p.2 * r.1 - p.1 * r.2)
  if z = (0, 0) then (Config.overZero (p.1 + p.2)).toNat % 2 ^ 16
  else
    let q := if 0 < z.1 ∧ 0 ≤ z.2 then 0 else if z.1 ≤ 0 ∧ 0 < z.2 then 1 else if z.1 < 0 ∧ z.2 ≤ 0 then 2 else 3
    let w := match q with
      | 0 => z
      | 1 => (z.2, -z.1)
      | 2 => (-z.1, -z.2)
      | _ => (-z.2, z.1)
    let k := angleBits w
    (k + 2 ^ 14 * q + (if w.2 = 0 then 0 else if Config.roundUp z.1 z.2.natAbs then 1 else 0)) % 2 ^ 16

/-- The length of 3·z, z a sum of phasors in 2^-47 with parts in 2^-107. -/
def lengthOf (z : Int × Int) : Nat := rootQ (z.1.natAbs ^ 2 + z.2.natAbs ^ 2) (9 * 2 ^ 120)

/-- |z0|, |z1| and |z2| of three phasors (R308), in their unit. -/
def symmetric (a b c : Int × Int) : Nat × Nat × Nat :=
  let up : Int × Int := (-(2 ^ 59), sqrtThree60 / 2)
  let down : Int × Int := (-(2 ^ 59), -(sqrtThree60 / 2 : Nat))
  let add := fun (x y z : Int × Int) => (x.1 + y.1 + z.1, x.2 + y.2 + z.2)
  let a' : Int × Int := (a.1 * 2 ^ 60, a.2 * 2 ^ 60)
  let one : Int × Int := (2 ^ 60, 0)
  (lengthOf (add a' (rotate b one) (rotate c one)), lengthOf (add a' (rotate b up) (rotate c down)),
    lengthOf (add a' (rotate b down) (rotate c up)))

/-- A coefficient of base camp's transform: Q1.31 rounded to nearest, held to its range (R283). -/
def q31Coef (x : Int) : Int := clampI (-(2 ^ 31)) (2 ^ 31 - 1) (rneDiv x (2 ^ 29))

/-- Σ x[m] · exp(−j 2π m / 512) with Q1.31 coefficients (R283). -/
def baseDft (xs : List Int) : Int × Int :=
  xs.zipIdx.foldl (fun (a : Int × Int) e =>
    if e.1 = 0 then a
    else
      let t := turn e.2 512
      (a.1 + e.1 * q31Coef t.1, a.2 - e.1 * q31Coef t.2)) (0, 0)

end Sys2Proof.Machine
end

