-- ==== Sys2Proof/Machine/Image.lean ====
section
/-! DEFINITION. The fields of a program image (R232–R234), read from its bytes. -/

namespace Sys2Proof.Machine

/-- KIND: 0 grain, 1 pitch, 2 cue, 3 service (R232). -/
def imgKind (i : List Byte) : Nat := byteAt i 4
/-- ROPED (R232). -/
def imgRoped (i : List Byte) : Bool := bitOf (byteAt i 5) 0
/-- VENDOR (R232). -/
def imgVendor (i : List Byte) : Bool := bitOf (byteAt i 5) 1
/-- LENGTH (R232). -/
def imgLength (i : List Byte) : Nat := u32At i 8
/-- NSECT (R232). -/
def imgNsect (i : List Byte) : Nat := u16At i 12
/-- TARGET (R232). -/
def imgTarget (i : List Byte) : Nat := byteAt i 14
/-- PROGNO (R232). -/
def imgProgno (i : List Byte) : Nat := byteAt i 15
/-- ENTRY (R232). -/
def imgEntry (i : List Byte) : Nat := u32At i 16
/-- SLICE (R232). -/
def imgSlice (i : List Byte) : Nat := u32At i 20
/-- DECLWC (R232). -/
def imgDeclwc (i : List Byte) : Nat := u32At i 24
/-- IMGID (R232). -/
def imgId (i : List Byte) : Nat := u32At i 28
/-- CHECK (R232). -/
def imgCheck (i : List Byte) : Nat := u32At i 32

/-- A section descriptor (R233). -/
structure Section where
  type : Nat
  offset : Nat
  len : Nat
  addr : Nat
  deriving DecidableEq, Repr

/-- The k-th descriptor (R233). -/
def imgSection (i : List Byte) (k : Nat) : Section :=
  ⟨byteAt i (64 + 16 * k), u32At i (68 + 16 * k), u32At i (72 + 16 * k), u32At i (76 + 16 * k)⟩

/-- All the sections of an image (R233). -/
def imgSections (i : List Byte) : List Section := (List.range (imgNsect i)).map (imgSection i)

/-- The code section (R233: exactly one). -/
def imgCode (i : List Byte) : Section := ((imgSections i).find? (fun x => x.type == 1)).getD ⟨1, 0, 0, 0⟩

/-- The bytes of a section. -/
def imgBytes (i : List Byte) (x : Section) : List Byte := (i.drop x.offset).take x.len

/-- The address of the first instruction (R232). -/
def imgStart (i : List Byte) : Word := BitVec.ofNat 32 ((imgCode i).addr + imgEntry i)

/-- The records of the declarations section, eight bytes each (R234). -/
def imgDecls (i : List Byte) : List (List Byte) :=
  match (imgSections i).find? (fun x => x.type == 3) with
  | none => []
  | some x => (List.range (x.len / 8)).map (fun k => (i.drop (x.offset + 8 * k)).take 8)

/-- How an image declares a unit: 1 for reading, 2 for reading and writing, 0 not at all (R193, R234). -/
def imgUnit (i : List Byte) (u : Nat) : Nat :=
  match (imgDecls i).find? (fun r => byteAt r 0 == 1 && byteAt r 1 == u) with
  | none => 0
  | some r => byteAt r 2

/-- The streams an image declares for a channel (R234). -/
def imgChan (i : List Byte) (k : Nat) : Nat :=
  match (imgDecls i).find? (fun r => byteAt r 0 == 2 && byteAt r 1 == k) with
  | none => 0
  | some r => byteAt r 2

/-- An image declares a channel, whatever streams its record names (R155, R234). -/
def imgDeclares (i : List Byte) (k : Nat) : Bool := (imgDecls i).any (fun r => byteAt r 0 == 2 && byteAt r 1 == k)

/-- The voltage–current pairs an image declares (R234). -/
def imgPairs (i : List Byte) : List (Nat × Nat) :=
  ((imgDecls i).filter (fun r => byteAt r 0 == 3)).map (fun r => (byteAt r 1, byteAt r 2))

/-- An image declares a lease (R222, R234). -/
def imgLease (i : List Byte) (x : Nat) : Bool := (imgDecls i).any (fun r => byteAt r 0 == 4 && byteAt r 1 == x)

/-- The shared-table ranges an image declares, in 16-byte units (R234). -/
def imgTables (i : List Byte) : List (Nat × Nat) :=
  ((imgDecls i).filter (fun r => byteAt r 0 == 5)).map (fun r => (u16At r 2, u16At r 4))

end Sys2Proof.Machine
end

