-- ==== Sys2Proof/Machine/Operands.lean ====
section
/-! DEFINITION. Every operand form of Quineg: scalar, vector and accumulator registers, effective addresses, branch
targets, stream takes (R171, R185, R190, R210). -/

namespace Sys2Proof.Machine

/-- The registers an instruction works on, with what it adds to the run's signature (R248). -/
structure Regs where
  bank : Bank
  sig : List SigItem
  deriving DecidableEq, Repr

/-- A scalar register; s0 reads zero (R171). -/
def Regs.sr (r : Regs) (i : Fin 32) : Word := if i = 0 then 0 else r.bank.s[i]

/-- Write a scalar register; a write to s0 is discarded (R171). -/
def Regs.setS (r : Regs) (i : Fin 32) (x : Word) : Regs :=
  if i = 0 then r
  else { bank := { r.bank with s := r.bank.s.set i x }, sig := r.sig ++ [.reg 0 i x.toNat] }

/-- A vector register. -/
def Regs.vr (r : Regs) (i : Fin 16) : Vec := r.bank.v[i]

/-- Write a vector register. -/
def Regs.setV (r : Regs) (i : Fin 16) (x : Vec) : Regs :=
  { bank := { r.bank with v := r.bank.v.set i x }, sig := r.sig ++ [.reg 1 i x.toNat] }

/-- An accumulator. -/
def Regs.ar (r : Regs) (i : Fin 8) : Acc := r.bank.acc[i]

/-- Write an accumulator. -/
def Regs.setA (r : Regs) (i : Fin 8) (x : Acc) : Regs :=
  { bank := { r.bank with acc := r.bank.acc.set i x }, sig := r.sig ++ [.reg 2 i x.toNat] }

/-- The flags. -/
def Regs.fl (r : Regs) : Word := r.bank.fl

/-- Write the flags; a change is part of the signature (R248). -/
def Regs.setFl (r : Regs) (x : Word) : Regs :=
  if x = r.bank.fl then r
  else { bank := { r.bank with fl := x }, sig := r.sig ++ [.reg 3 0 x.toNat] }

/-- A sticky flag sets where its condition holds. -/
def Regs.stick (r : Regs) (i : Nat) (c : Bool) : Regs := r.setFl (sticky r.bank.fl i c)

/-- Element i of a vector (R171: e0 is bits [31:0]). -/
def elem (v : Vec) (i : Nat) : Word := v.extractLsb' (32 * i) 32

/-- A vector from its elements. -/
def vec4 (e0 e1 e2 e3 : Word) : Vec := e3 ++ e2 ++ e1 ++ e0

/-- A vector with element i replaced. -/
def setElem (v : Vec) (i : Fin 4) (x : Word) : Vec :=
  vec4 (if i = 0 then x else elem v 0) (if i = 1 then x else elem v 1) (if i = 2 then x else elem v 2)
    (if i = 3 then x else elem v 3)

/-- Element by element, two vectors. -/
def vmap2 (f : Word → Word → Word) (a b : Vec) : Vec :=
  vec4 (f (elem a 0) (elem b 0)) (f (elem a 1) (elem b 1)) (f (elem a 2) (elem b 2)) (f (elem a 3) (elem b 3))

/-- Some element meets a condition. -/
def vany2 (f : Word → Word → Bool) (a b : Vec) : Bool :=
  f (elem a 0) (elem b 0) || f (elem a 1) (elem b 1) || f (elem a 2) (elem b 2) || f (elem a 3) (elem b 3)

/-- Word w of an accumulator: 0 the fraction, 1 and 2 the integer part (R214). -/
def accWord (a : Acc) (w : Nat) : Word := a.extractLsb' (32 * w) 32

/-- An accumulator with word w replaced (R214). -/
def setAccWord (a : Acc) (w : Fin 3) (x : Word) : Acc :=
  (if w = 2 then x else accWord a 2) ++ (if w = 1 then x else accWord a 1) ++ (if w = 0 then x else accWord a 0)

/-- The effective address of a memory instruction (R210): modulo 2^32. -/
def Regs.ea (r : Regs) (a : Fin 32) (imm : BitVec 16) : Word := r.sr a + imm.signExtend 32

/-- The target of a branch or CALL: address + 4 × the signed offset (R217, R218). -/
def branchTarget (pc : Word) (off : BitVec 16) : Word := pc + (off.signExtend 32 <<< 2)

/-- The index of a stream or unit instruction: base + sA, an unsigned sum (R190, R191). -/
def Regs.index (r : Regs) (base : Nat) (a : Fin 32) : Nat := base + (r.sr a).toNat

/-- The number of valid indices of a stream (R190). -/
def streamSize : Stream → Nat
  | .grain => 2
  | .pitch => 512
  | .strided => 32

/-- Sample i of a channel in the stream buffers (R190): none where the channel has no such stream now. -/
def Streams.sample (b : Streams) (st : Stream) (ch i : Nat) : Option Smp :=
  match st with
  | .grain => if i = 0 then b.now[ch]? else b.prev[ch]?
  | .pitch => (b.pitch.getD ch [])[i]?
  | .strided => if i < 16 then (b.strNow.getD ch [])[i]? else (b.strPrev.getD ch [])[i - 16]?

/-- What a take gives (R190, R220): the value, whether MRK sets, whether INV sets. An invalid or missing sample reads
zero and sets INV. -/
def Streams.take (b : Streams) (st : Stream) (ch i : Nat) : Word × Bool × Bool :=
  match b.sample st ch i with
  | none => (0, false, true)
  | some x => if x.inv then (0, false, true) else (x.val, decide (x.marks ≠ 0), false)

end Sys2Proof.Machine
end

