-- ==== Sys2Proof/Machine/Proc.lean ====
section
/-! DEFINITION. How a processor executes one instruction: which registers it sees, how its pc and loop stack advance, how
a fault is taken (R198–R202, R216, R244). -/

namespace Sys2Proof.Machine

/-- The fault-record code of a processor (R40). -/
def procWho : Proc → Nat
  | .lane n => n
  | .cc c => 8 + c

/-- Lane n. -/
def State.lane (s : State) (n : Fin 5) : Lane := s.lanes[n]

/-- Change lane n. -/
def State.setLane (s : State) (n : Fin 5) (l : Lane) : State := { s with lanes := s.lanes.set n l }

/-- Control core c. -/
def State.core (s : State) (c : Fin 2) : CoreSt := s.cores[c]

/-- Change control core c. -/
def State.setCore (s : State) (c : Fin 2) (k : CoreSt) : State := { s with cores := s.cores.set c k }

/-- A lane is one of the roped pair (R246). -/
def State.inPair (s : State) (n : Nat) : Bool := s.get LEASE.ROPE.FIRST == n || s.get LEASE.ROPE.SECOND == n

/-- The standby works in the pair's place: it recomputes a disputed grain, or runs the old set alone (R240, R250). -/
def State.standIn (s : State) (n : Nat) : Bool :=
  s.get SYS.LANE.STBY == n && (s.rope.recomputing || s.on LEASE.ROPE.SOLO)

/-- A lane runs the roped set: it acts in the pair's name. -/
def State.roped (s : State) (n : Nat) : Bool := s.inPair n || s.standIn n

/-- The other member of the pair. -/
def State.partner (s : State) (n : Fin 5) : Fin 5 :=
  Fin.ofNat 5 (if s.get LEASE.ROPE.FIRST == n.val then s.get LEASE.ROPE.SECOND else s.get LEASE.ROPE.FIRST)

/-! ## The levels of a control core (R198, R216) -/

/-- A handler runs on core c (R198). -/
def State.inHandler (s : State) (c : Nat) : Bool :=
  s.on (CSR.STAT.INFAULT c) || s.on (CSR.STAT.INNORM c) || s.on (CSR.STAT.INFAST c)

/-- The loop stack of the level core c runs at (R216). -/
def State.coreLoops (s : State) (c : Fin 2) : List Loop :=
  if s.on (CSR.STAT.INFAST c) then (s.core c).loopsFast
  else if s.inHandler c then (s.core c).loopsMid else (s.core c).loopsBase

/-- Write the loop stack of the level core c runs at. -/
def State.setCoreLoops (s : State) (c : Fin 2) (l : List Loop) : State :=
  s.setCore c (if s.on (CSR.STAT.INFAST c) then { s.core c with loopsFast := l }
    else if s.inHandler c then { s.core c with loopsMid := l } else { s.core c with loopsBase := l })

/-- The bank core c sees: s16–s31 name the shadow bank while a fast handler runs (R198). -/
def State.coreBank (s : State) (c : Fin 2) : Bank :=
  if s.on (CSR.STAT.INFAST c) then
    { (s.core c).bank with s := Vector.ofFn (fun i : Fin 32 =>
        if h : 16 ≤ i.val then (s.core c).shadow[i.val - 16]'(by omega) else (s.core c).bank.s[i]) }
  else (s.core c).bank

/-- Write the bank core c sees. -/
def State.setCoreBank (s : State) (c : Fin 2) (b : Bank) : State :=
  if s.on (CSR.STAT.INFAST c) then
    s.setCore c { s.core c with
      shadow := Vector.ofFn (fun i : Fin 16 => b.s[i.val + 16])
      bank := { b with s := Vector.ofFn (fun i : Fin 32 => if i.val < 16 then b.s[i] else (s.core c).bank.s[i]) } }
  else s.setCore c { s.core c with bank := b }

/-! ## The running context -/

/-- The context of a lane's run: G for the grain program, P for a slice (R174). -/
def Lane.ctx (l : Lane) : Context := match l.cur with | some .pitch => l.p | _ => l.g

/-- Write the context of the lane's run. -/
def Lane.setCtx (l : Lane) (c : Context) : Lane :=
  match l.cur with | some .pitch => { l with p := c } | _ => { l with g := c }

/-- The registers the processor sees. -/
def State.bankOf (s : State) : Proc → Bank
  | .lane n => (s.lane n).ctx.bank
  | .cc c => s.coreBank c

/-- The address of the instruction the processor executes. -/
def State.pcOf (s : State) : Proc → Word
  | .lane n => (s.lane n).ctx.pc
  | .cc c => (s.core c).pc

/-- The loop stack of the running level. -/
def State.loopsOf (s : State) : Proc → List Loop
  | .lane n => (s.lane n).ctx.loops
  | .cc c => s.coreLoops c

/-- Write registers, pc and loop stack of the processor's running context, and the signature of a lane's run. -/
def State.setRun (s : State) (p : Proc) (r : Regs) (pc : Word) (loops : List Loop) : State :=
  match p with
  | .lane n =>
    s.setLane n { (s.lane n).setCtx ⟨r.bank, pc, loops⟩ with sig := (s.lane n).sig ++ r.sig }
  | .cc c =>
    let s := (s.setCoreLoops c loops).setCoreBank c r.bank
    s.setCore c { s.core c with pc := pc }

/-- The processor executes instructions now: its power domain is on, a lane has a run in progress, a control core has
neither halted nor is held by WAIT, and has a program or a handler to run (R39, R199, R228, R244, R253). -/
def State.runs (s : State) (p : Proc) : Bool :=
  s.power == .on &&
  match p with
  | .lane n => (s.lane n).cur.isSome
  | .cc c => !(s.core c).halted && !(s.core c).waiting && ((s.core c).run != .idle || s.inHandler c)

/-- The next address and loop stack after the instruction at pc completes (R216): the end of a body starts its next
iteration, or pops the entry and counts for the enclosing body. -/
def nextPc (pc : Word) : List Loop → Word × List Loop
  | [] => (pc + 4, [])
  | l :: ls =>
    if l.last = pc then (if 1 < l.n then (l.first, { l with n := l.n - 1 } :: ls) else nextPc pc ls)
    else (pc + 4, l :: ls)

/-! ## Runs of a lane (R201, R244, R248) -/

/-- The slice budget of the pitch program (R232). -/
def Lane.budget (l : Lane) : Nat := match l.imgP with | none => 0 | some i => imgSlice i

/-- The grain's slice begins where pitch work is pending (R244): the first slice of a pitch starts at ENTRY with `fl`
clear and a snapshot (R175); a later one resumes. -/
def Lane.beginSlice (l : Lane) : Lane :=
  match l.imgP with
  | none => { l with cur := none }
  | some i =>
    if l.pitchOn then { l with cur := some .pitch, sliceLeft := imgSlice i, sig := [] }
    else if l.pitchDue then
      let c : Context := ⟨{ l.p.bank with fl := 0 }, imgStart i, []⟩
      { l with cur := some .pitch, sliceLeft := imgSlice i, sig := [], p := c, snapP := c, pitchDue := false,
               pitchOn := true, pitchIncs := [] }
    else { l with cur := none }

/-- The record of an ended run or slice, for the comparison (R248). -/
def Lane.noteRun (l : Lane) (kind : RunKind) (pc : Word) (fault : Option Nat) : Lane :=
  { l with runs := l.runs ++ [⟨kind, l.sig, pc, fault⟩], sig := [] }

/-- The run's queue and cues become outputs of the grain (R195, R94). -/
def Lane.flush (l : Lane) : Lane :=
  { l with outQ := l.outQ ++ l.wq, outCues := l.outCues ++ l.cueq, wq := [], cueq := [] }

/-- A slice ends with its program unfinished: context P, pc and loop stack are kept (R244). -/
def Lane.suspend (l : Lane) : Lane := { (l.noteRun .pitch l.p.pc none).flush with cur := none }

/-- A lane fault (R201): the run stops, its queue, cues and increments are discarded and the context is restored to the
snapshot; a grain program's fault leaves the slice to run. -/
def Lane.faultRun (l : Lane) (code : Nat) : Lane :=
  match l.cur with
  | some .pitch =>
    { (l.noteRun .pitch l.p.pc (some code)) with
      p := l.snapP, wq := [], cueq := [], pitchIncs := [], cur := none, pitchOn := false }
  | _ =>
    ({ (l.noteRun .grain l.g.pc (some code)) with
      g := l.snapG, wq := [], cueq := [], incs := [], cur := none }).beginSlice

/-! ## Faults -/

/-- A fault of the executing instruction: its code, the unit it addresses (0xFF none), the data address of a memory
fault (R41, R196). -/
structure Trap where
  code : Nat
  unit : Nat
  addr : Option Word
  deriving DecidableEq, Repr

/-- A fault that is none of memory and none of a unit. -/
def trapCode (code : Nat) : Trap := ⟨code, 0xFF, none⟩

/-- Fault entry of a control core (R198), or the double fault that stops it (R199). -/
def State.coreTrap (s : State) (c : Fin 2) (t : Trap) : State :=
  let s := match t.addr with | none => s | some a => s.set (CSR.FADDR.ADDR c) a.toNat
  let pc := (s.core c).pc
  if s.inHandler c then
    ((s.recordFault (8 + c) 0x0C t.unit pc.toNat).setCore c { s.core c with halted := true }).arrive 0x3A
  else
    let s := s.recordFault (8 + c) t.code t.unit pc.toNat
    let s := ((s.set (CSR.EPC.PC c) pc.toNat).set (CSR.EFL.FL c) (s.core c).bank.fl.toNat)
    let s := ((s.flag (CSR.ECAUSE.INT c) false).set (CSR.ECAUSE.CODE c) t.code).flag (CSR.STAT.INFAULT c) true
    s.setCore c { s.core c with pc := BitVec.ofNat 32 (256 * s.get (CSR.VEC.BASE c)), loopsMid := [] }

/-- Two members' records of one run agree (R248): the same signature and end pc, or the same fault at the same
instruction. -/
def RunRec.same (a b : RunRec) : Bool :=
  a.kind == b.kind && a.pc == b.pc && a.fault == b.fault &&
    (a.fault.isSome || Config.signature a.sig == Config.signature b.sig)

/-- A run of a member of the pair has ended: once the other's has, the two are compared (R248). -/
def State.pairCompare (s : State) (n : Fin 5) : State :=
  if s.inPair n then
    match (s.lane n).runs.getLast?, (s.lane (s.partner n)).runs[(s.lane n).runs.length - 1]? with
    | some a, some b =>
      if a.same b then (if a.fault.isSome then s.set LEASE.VOTE.OUTCOME 5 else s)
      else ((s.bump LEASE.DISAGREE.COUNT LEASE.DISAGREE.SAT).set2 LEASE.VGRAINLO.GLO LEASE.VGRAINHI.GHI
        s.clock.grain).arrive 0x38
    | _, _ => s
  else s

/-- The quantities that a lane outside the pair feeds, the slots bound to it, are marked faulted in this block (R201). -/
def State.markFaulted (s : State) (n : Fin 5) : State :=
  if s.roped n then s
  else { s with slots := s.slots.mapFinIdx (fun i x _ =>
    if i < 64 ∧ s.eff (NRG.BIND.OWNER i) = n.val then { x with faulted := true } else x) }

/-- A fault of the executing instruction is taken (R200–R202). -/
def State.trap (s : State) (p : Proc) (t : Trap) : State :=
  match p with
  | .lane n =>
    (((s.recordFault n t.code t.unit (s.pcOf p).toNat).markFaulted n).setLane n ((s.lane n).faultRun t.code)).pairCompare n
  | .cc c => s.coreTrap c t

/-! ## One instruction -/

/-- What an instruction does when it does not fault: registers, the rest of the state, the next pc where it is not the
sequential one, the loop stack. -/
structure Eff where
  regs : Regs
  st : State
  jump : Option Word
  loops : List Loop
  deriving DecidableEq, Repr

/-- The slice has too few cycles left for the next instruction (R244). -/
def State.sliceOver (s : State) (p : Proc) (cost : Nat) : Bool :=
  match p with
  | .lane n => (s.lane n).cur == some .pitch && decide ((s.lane n).sliceLeft < cost)
  | .cc _ => false

/-- An instruction of a slice uses its cycles (R189, R244). -/
def State.charge (s : State) (p : Proc) (cost : Nat) : State :=
  match p with
  | .lane n =>
    if (s.lane n).cur = some .pitch then s.setLane n { s.lane n with sliceLeft := (s.lane n).sliceLeft - cost } else s
  | .cc _ => s

/-- Suspend the slice of a lane. -/
def State.suspend (s : State) (p : Proc) : State :=
  match p with
  | .lane n => (s.setLane n (s.lane n).suspend).pairCompare n
  | .cc _ => s

/-- The processor executes one instruction of the given cost: nothing where it does not run; a slice without the cycles
suspends; a fault is taken; otherwise the results are written and the pc advances (R173, R189, R202, R216). -/
def State.instr (s : State) (p : Proc) (cost : Nat) (body : State → Regs → Except Trap Eff) : State :=
  if s.runs p then
    if s.sliceOver p cost then s.suspend p
    else match body s ⟨s.bankOf p, []⟩ with
      | .error t => s.trap p t
      | .ok e =>
        match e.jump with
        | some pc => (e.st.setRun p e.regs pc e.loops).charge p cost
        | none => (e.st.setRun p e.regs (nextPc (s.pcOf p) e.loops).1 (nextPc (s.pcOf p) e.loops).2).charge p cost
  else s

/-- An instruction that only computes registers. -/
def State.regOp (s : State) (p : Proc) (cost : Nat) (f : Regs → Regs) : State :=
  s.instr p cost (fun s r => .ok ⟨f r, s, none, s.loopsOf p⟩)

end Sys2Proof.Machine
end

