-- ==== Sys2Proof/Machine/Memory.lean ====
section
/-! DEFINITION. Loads, stores and the stream instructions (R183, R190, R210, R220). -/

namespace Sys2Proof.Machine

/-- The holder code of a processor in the LEASE unit: the pair holds in its own name (R222, R259). -/
def State.holder (s : State) : Proc → Nat
  | .lane n => if s.roped n then 5 else n
  | .cc c => 8 + c

/-- The processor holds lease x (R256, R259). -/
def State.holds (s : State) (p : Proc) (x : Nat) : Bool :=
  s.get (LEASE.HOLD.STATE x) == 1 && s.get (LEASE.HOLD.HOLDER x) == s.holder p

/-- A store would reach a lane's code region (R235). -/
def Lane.protects (l : Lane) (a n : Nat) : Bool := l.prot.any (fun r => decide (a < r.2 ∧ r.1 < a + n))

/-- A core's store at an address would reach the code region of lane k. -/
def State.laneCode (s : State) (k a n : Nat) : Bool :=
  decide (k < 5) && (s.lane (Fin.ofNat 5 k)).protects (a - (0x10580000 + k * 0x30000)) n

/-- The checks of a memory instruction in the order of R210: alignment, map and store rights, capture-ring lease. -/
def State.memCheck (s : State) (p : Proc) (store : Bool) (a : Word) (n : Nat) : Option Trap :=
  if a.toNat % n ≠ 0 then some ⟨0x03, 0xFF, some a⟩
  else match p with
    | .lane k =>
      if (laneAddr k a.toNat).isNone || (store && (decide (0x30000 ≤ a.toNat) || (s.lane k).protects a.toNat n)) then
        some ⟨0x04, 0xFF, some a⟩
      else none
    | .cc _ =>
      match regionOf a.toNat with
      | .none => some ⟨0x04, 0xFF, some a⟩
      | .rom => if store then some ⟨0x04, 0xFF, some a⟩ else none
      | .capture => if store then some ⟨0x04, 0xFF, some a⟩
                    else if s.holds p 2 then none else some ⟨0x05, 0xFF, some a⟩
      | .laneMem k => if store && s.laneCode k a.toNat n then some ⟨0x04, 0xFF, some a⟩ else none
      | .modem => if store && decide (0x1078A000 ≤ a.toNat) then some ⟨0x04, 0xFF, some a⟩ else none
      | _ => none

/-- The control-core address of a processor's address. -/
def procAddr (p : Proc) (a : Nat) : Nat := match p with | .lane k => (laneAddr k a).getD 0 | .cc _ => a

/-- A lane notes a stored word in its store log (R247). -/
def State.logStore (s : State) (p : Proc) (a : Nat) (w : Word) : State :=
  match p with
  | .lane n => s.setLane n { s.lane n with log := (s.lane n).log ++ [(a, w)] }
  | .cc _ => s

/-- Store one word at a processor's address. -/
def State.storeWord (s : State) (p : Proc) (a : Nat) (w : Word) : State :=
  (s.setWord (procAddr p a) w).logStore p a w

/-- A load (R210): the checks, then the uncorrectable error, then the words. -/
def State.load (s : State) (p : Proc) (a : Fin 32) (imm : BitVec 16) (n : Nat) (memErr : Bool)
    (wr : Regs → Nat → Regs) : State :=
  s.instr p 2 (fun s r =>
    match s.memCheck p false (r.ea a imm) n with
    | some t => .error t
    | none =>
      if memErr then .error ⟨0x0A, 0xFF, some (r.ea a imm)⟩
      else .ok ⟨wr r (procAddr p (r.ea a imm).toNat), s, none, s.loopsOf p⟩)

/-- LD (R210). -/
def execLd (p : Proc) (d a : Fin 32) (imm : BitVec 16) (memErr : Bool) (s : State) : Host.Outcome State Fault Refusal :=
  .next (s.load p a imm 4 memErr (fun r m => r.setS d (s.word m)))

/-- VLD (R210): e0–e3 from ascending addresses. -/
def execVld (p : Proc) (d : Fin 16) (a : Fin 32) (imm : BitVec 16) (memErr : Bool) (s : State) : Host.Outcome State Fault Refusal :=
  .next (s.load p a imm 16 memErr
    (fun r m => r.setV d (vec4 (s.word m) (s.word (m + 4)) (s.word (m + 8)) (s.word (m + 12)))))

/-- ST (R210). -/
def execSt (p : Proc) (d a : Fin 32) (imm : BitVec 16) (s : State) : Host.Outcome State Fault Refusal :=
  .next (s.instr p 1 (fun s r =>
    match s.memCheck p true (r.ea a imm) 4 with
    | some t => .error t
    | none =>
      .ok ⟨{ r with sig := r.sig ++ [.mem (r.ea a imm).toNat (r.sr d).toNat] },
        s.storeWord p (r.ea a imm).toNat (r.sr d), none, s.loopsOf p⟩))

/-- VST (R210): e0–e3 to ascending addresses. -/
def execVst (p : Proc) (d : Fin 16) (a : Fin 32) (imm : BitVec 16) (s : State) : Host.Outcome State Fault Refusal :=
  .next (s.instr p 1 (fun s r =>
    match s.memCheck p true (r.ea a imm) 16 with
    | some t => .error t
    | none =>
      let m := (r.ea a imm).toNat
      .ok ⟨{ r with sig := r.sig ++ (List.range 4).map (fun i => .mem (m + 4 * i) (elem (r.vr d) i).toNat) },
        (((s.storeWord p m (elem (r.vr d) 0)).storeWord p (m + 4) (elem (r.vr d) 1)).storeWord p (m + 8)
          (elem (r.vr d) 2)).storeWord p (m + 12) (elem (r.vr d) 3), none, s.loopsOf p⟩))

/-! ## Streams (R190, R220) -/

/-- MRK and INV of a take (R179). -/
def Regs.marks (r : Regs) (mrk inv : Bool) : Regs := (r.stick flMRK mrk).stick flINV inv

/-- A stream instruction: profile violation on a control core (R180), index fault 0x08 (R190), else the take. -/
def State.streamOp (s : State) (p : Proc) (st : Stream) (idx : Fin 512) (a : Fin 32) (span : Nat)
    (wr : Regs → Nat → Regs) : State :=
  s.instr p 2 (fun s r =>
    match p with
    | .cc _ => .error (trapCode 0x02)
    | .lane _ =>
      if streamSize st < r.index idx a + span then .error (trapCode 0x08)
      else .ok ⟨wr r (r.index idx a), s, none, s.loopsOf p⟩)

/-- STG (R220). -/
def execStg (p : Proc) (d : Fin 32) (ch : Fin 24) (strm : Stream) (idx : Fin 512) (a : Fin 32) (s : State) : Host.Outcome State Fault Refusal :=
  .next (s.streamOp p strm idx a 1 (fun r i =>
    let x := s.streams.take strm ch i
    (r.setS d x.1).marks x.2.1 x.2.2))

/-- Four takes into a vector, each on its own (R220). -/
def takeFour (b : Streams) (st : Stream) (r : Regs) (d : Fin 16) (ch i : Nat → Nat) : Regs :=
  let x := fun j => b.take st (ch j) (i j)
  (r.setV d (vec4 (x 0).1 (x 1).1 (x 2).1 (x 3).1)).marks
    ((x 0).2.1 || (x 1).2.1 || (x 2).2.1 || (x 3).2.1) ((x 0).2.2 || (x 1).2.2 || (x 2).2.2 || (x 3).2.2)

/-- STVC (R220). A CH above 20 is an illegal encoding (R190): fault 0x01 on a control core, and never on a lane. -/
def execStvc (p : Proc) (d : Fin 16) (ch : Fin 24) (strm : Stream) (idx : Fin 512) (a : Fin 32) (s : State) : Host.Outcome State Fault Refusal :=
  if 20 < ch.val then
    match p with
    | .lane _ => .fault .loaderExcludes
    | .cc _ => .next (s.instr p 2 (fun _ _ => .error (trapCode 0x01)))
  else .next (s.streamOp p strm idx a 1 (fun r i => takeFour s.streams strm r d (fun j => ch + j) (fun _ => i)))

/-- STVI (R220): indices i to i + 3, all valid (R190). -/
def execStvi (p : Proc) (d : Fin 16) (ch : Fin 24) (strm : Stream) (idx : Fin 512) (a : Fin 32) (s : State) : Host.Outcome State Fault Refusal :=
  .next (s.streamOp p strm idx a 4 (fun r i => takeFour s.streams strm r d (fun _ => ch) (fun j => i + j)))

end Sys2Proof.Machine
end

