-- ==== Sys2Proof/Machine/Irq.lean ====
section
/-! DEFINITION. The interrupt controller (14_interrupts.md): selection, presentation, taking, masks, hold-off, timers and
external lines; handler entry (R198). -/

namespace Sys2Proof.Machine

/-- Whose copy of a private register a processor reaches (R562): lanes 0–4, cores 5 and 6, the roped pair 7. -/
def State.copyOf (s : State) : Proc → Nat
  | .lane n => if s.roped n then 7 else n
  | .cc c => 5 + c

/-! ## Settings of a source (R408) -/

/-- Pending (R407). -/
def State.irqPending (s : State) (core src : Nat) : Bool :=
  if src < 0x10 then s.bit (IRQ.PPEND.PEND core) src else s.bit (IRQ.SPEND.PEND ((src - 0x10) / 32)) ((src - 0x10) % 32)

/-- Held back by its mask bit (R412). -/
def State.irqMasked (s : State) (core src : Nat) : Bool :=
  if src < 0x10 then s.bit (IRQ.PMASK.MASK core) src else s.bit (IRQ.SMASK.MASK ((src - 0x10) / 32)) ((src - 0x10) % 32)

/-- Clear the pending bit. -/
def State.irqUnpend (s : State) (core src : Nat) : State :=
  if src < 0x10 then s.setBit (IRQ.PPEND.PEND core) src false
  else s.setBit (IRQ.SPEND.PEND ((src - 0x10) / 32)) ((src - 0x10) % 32) false

/-- The target set: bits 0 CC0, 1 CC1, 2 host; a private source's is its owner (R408). -/
def State.tset (s : State) (core src : Nat) : Nat :=
  if src < 0x10 then 2 ^ core else s.get (IRQ.SCFG.TSET src)

/-- A source's hold-off group is in hold-off (R414). -/
def State.inHoldoff (s : State) (core src : Nat) : Bool :=
  decide (s.clock.now < s.irq.holdEnd.toList.getD (s.get (IRQ.SCFG.GRP (irqBank core src))) 0)

/-- The source is presented and not yet taken (R410). -/
def State.outstanding (s : State) (core src : Nat) : Bool :=
  let here := fun (c : Fin 2) (x : Option Present) =>
    match x with | none => false | some q => q.src == src && (decide (0x10 ≤ src) || c.val == core)
  here 0 (s.core 0).normal || here 0 (s.core 0).fast || here 1 (s.core 1).normal || here 1 (s.core 1).fast ||
    (decide (0x10 ≤ src) && s.irq.host.any (fun q => q.src == src))

/-- The four conditions every considered source meets (R409). -/
def State.considered (s : State) (core src : Nat) : Bool :=
  s.irqPending core src && !s.irqMasked core src && !s.on IRQ.GCTL.GDIS && !s.inHoldoff core src

/-- A fast source (R408). -/
def State.irqFast (s : State) (core src : Nat) : Bool := s.on (IRQ.SCFG.CLASS (irqBank core src))

/-- Core c could take a source of the class, IE apart (R409). -/
def State.coreOpen (s : State) (c : Fin 2) (fast : Bool) : Bool :=
  bitOf (s.get IRQ.GCTL.TEN) c && !(s.core c).halted &&
  if fast then !s.on (CSR.STAT.INFAST c) && (s.core c).fast.isNone
  else !s.inHandler c && (s.core c).normal.isNone

/-- A target can take the source now: 0 CC0, 1 CC1, 2 host (R409). -/
def State.canTake (s : State) (core src t : Nat) : Bool :=
  bitOf (s.tset core src) t &&
  match t with
  | 0 => s.coreOpen 0 (s.irqFast core src) && s.on (CSR.STAT.IE 0)
  | 1 => s.coreOpen 1 (s.irqFast core src) && s.on (CSR.STAT.IE 1)
  | _ => bitOf (s.get IRQ.GCTL.TEN) 2

/-- The cyclic order of the targets, starting after the last taker (R409). -/
def rrOrder (last : Nat) : List Nat := match last with | 0 => [1, 2, 0] | 1 => [2, 0, 1] | _ => [0, 1, 2]

/-- The member of the target set chosen for a source in this cycle (R409). -/
def State.chosen (s : State) (core src : Nat) : Option Nat :=
  if s.considered core src && !s.outstanding core src then
    (rrOrder (s.get (IRQ.SCFG.RRLAST (irqBank core src)))).find? (fun t => s.canTake core src t)
  else none

/-- All sources by rising number, private ones of one core first. -/
def sourcesOf (core : Nat) : List (Nat × Nat) :=
  (List.range 10).map (fun i => (core, i)) ++ (List.range 0x53).map (fun i => (0, 0x10 + i))

/-- The source that wins core c in this cycle: fast before normal, then the lowest number (R409). -/
def State.winner (s : State) (c : Nat) : Option (Nat × Nat) :=
  let l := (sourcesOf c).filter (fun x => s.chosen x.1 x.2 == some c)
  (l.find? (fun x => s.irqFast x.1 x.2)).or (l.find? (fun x => !s.irqFast x.1 x.2))

/-- Present a source to core c in the next cycle (R410). -/
def State.presentCore (s : State) (c : Fin 2) (x : Option (Nat × Nat)) : State :=
  match x with
  | none => s
  | some (k, src) =>
    let q : Present := ⟨src, s.clock.now + 1⟩
    if s.irqFast k src then s.setCore c { s.core c with fast := some q }
    else (s.set (IRQ.CCSTAT.PRES c) src).setCore c { s.core c with normal := some q }

/-- Present a source to the host: its HPEND bit sets (R410). -/
def State.presentHost (s : State) (src : Nat) : State :=
  { s.setBit (IRQ.HPEND.PEND ((src - 0x10) / 32)) ((src - 0x10) % 32) true with
    irq := { s.irq with host := s.irq.host ++ [⟨src, s.clock.now + 1⟩] } }

/-- IRQ_PRESENT (R409, R410): the controller's choices of one cycle, one presentation for each core and every source
whose turn is the host's. -/
def execIrqPresent (s : State) : Host.Outcome State Fault Refusal :=
  .next (if s.power = .on then
    let w0 := s.winner 0
    let w1 := s.winner 1
    let hs := ((List.range 0x53).map (· + 0x10)).filter (fun src => s.chosen 0 src == some 2)
    hs.foldl State.presentHost ((s.presentCore 0 w0).presentCore 1 w1)
  else s)

/-! ## Taking (R198, R410, R411, R414) -/

/-- A take: pending clears, RRLAST is the taker, the group's hold-off starts. -/
def State.takeSource (s : State) (core src taker : Nat) : State :=
  let b := irqBank core src
  let s := (s.irqUnpend core src).set (IRQ.SCFG.RRLAST b) taker
  let g := s.get (IRQ.SCFG.GRP b)
  let h := s.get (IRQ.HOLD.HOLD g)
  if h = 0 then s
  else { s with irq := { s.irq with
      holdEnd := Vector.ofFn (fun i : Fin 8 => if i.val = g then s.clock.now + 200 * h else s.irq.holdEnd[i]) } }

/-- NORMAL_ENTRY (R198): core c takes its normal presentation where entry is allowed. -/
def execNormalEntry (c : Fin 2) (s : State) : Host.Outcome State Fault Refusal :=
  .next (match (s.core c).normal with
    | none => s
    | some q =>
      if s.power = .on ∧ ¬ (s.core c).halted ∧ s.on (CSR.STAT.IE c) ∧ ¬ s.inHandler c then
        let s := (s.takeSource c q.src c).set (IRQ.CCSTAT.PRES c) 0xFF
        let s := (s.set (CSR.EPC.PC c) (s.core c).pc.toNat).set (CSR.EFL.FL c) (s.core c).bank.fl.toNat
        let s := ((s.flag (CSR.ECAUSE.INT c) true).set (CSR.ECAUSE.CODE c) q.src).flag (CSR.STAT.INNORM c) true
        s.setCore c { s.core c with
          pc := BitVec.ofNat 32 (256 * s.get (CSR.VEC.BASE c) + 0x40), loopsMid := [], waiting := false, normal := none }
      else s)

/-- FAST_ENTRY (R198): core c takes its fast presentation, in a normal or a fault handler too. -/
def execFastEntry (c : Fin 2) (s : State) : Host.Outcome State Fault Refusal :=
  .next (match (s.core c).fast with
    | none => s
    | some q =>
      if s.power = .on ∧ ¬ (s.core c).halted ∧ s.on (CSR.STAT.IE c) ∧ ¬ s.on (CSR.STAT.INFAST c) then
        let s := (s.takeSource c q.src c).set (IRQ.CCSTAT.FAST c) q.src
        let s := (s.set (CSR.FEPC.PC c) (s.core c).pc.toNat).set (CSR.FFL.FL c) (s.core c).bank.fl.toNat
        let s := s.flag (CSR.STAT.INFAST c) true
        s.setCore c { s.core c with
          pc := BitVec.ofNat 32 (256 * s.get (CSR.VEC.BASE c) + 0x80), loopsFast := [], waiting := false, fast := none }
      else s)

/-- WAIT_WAKE (R409): a core in WAIT with IE clear resumes while an eligible source is pending; nothing is taken. -/
def execWaitWake (c : Fin 2) (s : State) : Host.Outcome State Fault Refusal :=
  .next (if s.power = .on ∧ (s.core c).waiting ∧ ¬ s.on (CSR.STAT.IE c) ∧
      (sourcesOf c).any (fun x => s.considered x.1 x.2 && bitOf (s.tset x.1 x.2) c && s.coreOpen c (s.irqFast x.1 x.2)) then
    s.setCore c { s.core c with waiting := false } else s)

/-! ## Withdrawal (R412, R413) -/

/-- A presentation is held back now: its mask, GDIS or its target's TEN bit (R412). -/
def State.heldBack (s : State) (core src t : Nat) : Bool :=
  s.irqMasked core src || s.on IRQ.GCTL.GDIS || !bitOf (s.get IRQ.GCTL.TEN) t

/-- Withdraw the presentations that a condition names. -/
def State.withdraw (s : State) (p : State → Nat → Nat → Present → Bool) : State :=
  let core := fun (s : State) (c : Fin 2) =>
    let s := match (s.core c).normal with
      | some q => if p s c c q then (s.set (IRQ.CCSTAT.PRES c) 0xFF).setCore c { s.core c with normal := none } else s
      | none => s
    match (s.core c).fast with
    | some q => if p s c c q then s.setCore c { s.core c with fast := none } else s
    | none => s
  let s := core (core s 0) 1
  s.irq.host.foldl (fun t q =>
    if p t 0 2 q then
      { t.setBit (IRQ.HPEND.PEND ((q.src - 0x10) / 32)) ((q.src - 0x10) % 32) false with
        irq := { t.irq with host := t.irq.host.filter (· ≠ q) } }
    else t) s

/-- A write of a mask, GDIS or TEN in cycle P + 4 or later withdraws (R413). -/
def State.maskWithdraw (s : State) : State :=
  s.withdraw (fun t core tgt q => t.heldBack core q.src tgt && decide (q.cycle + 4 ≤ t.clock.now))

/-- A cleared pending bit withdraws its presentation in any cycle (R413). -/
def State.clearWithdraw (s : State) : State := s.withdraw (fun t core _ q => !t.irqPending core q.src)

/-! ## The registers -/

/-- Start or restart core c's timer by the write of IRQ.TMRc (R405). -/
def State.timerWrite (s : State) (c : Nat) (v : Nat) : State :=
  let was := s.on (IRQ.TMR.EN c)
  let old := s.get (IRQ.TMR.PERIOD c)
  let s := (s.flag (IRQ.TMR.EN c) (bitOf v 16)).set (IRQ.TMR.PERIOD c) (if v % 2 ^ 16 = 0 then 1 else v % 2 ^ 16)
  let due := if !bitOf v 16 then none
    else if was && s.get (IRQ.TMR.PERIOD c) == old then s.irq.timerDue.toList.getD c none
    else some (s.clock.grain + 1 + s.get (IRQ.TMR.PERIOD c))
  { s with irq := { s.irq with
      timerDue := Vector.ofFn (fun i : Fin 2 => if i.val = c then due else s.irq.timerDue[i]) } }

/-- The software sources named by a write of SWSETc arrive (R404). -/
def State.swset (s : State) (c v : Nat) : State :=
  s.forN 8 (fun i t => if bitOf v i then t.arrivePrivate c i else t)

/-- The source a window register acts on, by the copy of IRQ.SEL (R408, R562): its bank. -/
def State.irqSel (s : State) (b : Nat) : Nat := irqBank (s.get (IRQ.SEL.PB b)) (s.get (IRQ.SEL.SRC b))

/-- A source that has settings: private 0–9, or a shared source the part has (R403, R406). -/
def State.irqReal (s : State) (b : Nat) : Bool :=
  let src := s.get (IRQ.SEL.SRC b)
  if src < 0x10 then decide (src < 0x0A) else s.part.hasSource src

/-- The bank of an IRQ register for copy b. -/
def irqRegBank (s : State) (b idx : Nat) : Nat := if idx = 2 then b else if idx = 3 ∨ idx = 4 then s.irqSel b else 0

/-- The registers that are views (R409, R410, R414, R416). -/
def irqView (s : State) (b idx : Nat) : Option Nat :=
  if idx = 1 then some (ofB (s.irq.host ≠ []))
  else if idx = 3 then
    if s.irqReal b then
      some (s.tset (s.get (IRQ.SEL.PB b)) (s.get (IRQ.SEL.SRC b)) + 16 * s.get (IRQ.SCFG.CLASS (s.irqSel b)) +
        32 * s.get (IRQ.SCFG.GRP (s.irqSel b)) + 256 * s.get (IRQ.SCFG.RRLAST (s.irqSel b)))
    else some 0
  else if 0x20 ≤ idx ∧ idx < 0x28 then
    some (s.get (IRQ.HOLD.HOLD (idx - 0x20)) +
      2 ^ 31 * ofB (decide (s.clock.now < s.irq.holdEnd.toList.getD (idx - 0x20) 0)))
  else if idx = 0x34 then
    some (bitsOf 3 (fun l => (s.irq.lines.toList.getD l ⟨false, false, 0, false⟩).filt) +
      16 * s.get IRQ.XSTAT.LATCH + 256 * s.get IRQ.XSTAT.GLITCH)
  else none

/-- The writes that do more than store (R404, R405, R407, R408, R412). -/
def irqWrite (s : State) (b idx v : Nat) : Option State :=
  if idx = 0 ∨ idx = 0x0A ∨ idx = 0x0B ∨ (0x14 ≤ idx ∧ idx < 0x17) then
    some ((s.writeCells ((cellsOf regsIrq 8 idx 0).getD []) v).maskWithdraw)
  else if idx = 3 then
    some (if s.irqReal b then
      s.writeCells (((cellsOf regsIrq 8 3 (s.irqSel b)).getD []).filter
        (fun c => decide (¬ (c.fld.lo = 0 ∧ s.get (IRQ.SEL.SRC b) < 0x10)))) v else s)
  else if idx = 0x08 ∨ idx = 0x09 ∨ (0x10 ≤ idx ∧ idx < 0x13) then
    some ((s.writeCells ((cellsOf regsIrq 8 idx 0).getD []) v).clearWithdraw)
  else if idx = 0x0C ∨ idx = 0x0D then some (s.swset (idx - 0x0C) v)
  else if idx = 0x28 ∨ idx = 0x29 then some (s.timerWrite (idx - 0x28) v)
  else none

/-- SWSET_WRITE (R404). -/
def execSwsetWrite (c : Fin 2) (mask : BitVec 8) (s : State) : Host.Outcome State Fault Refusal := .next (s.whenOn (s.swset c mask.toNat))

/-- IRQ_TIMER_WRITE (R405). -/
def execIrqTimerWrite (c : Fin 2) (v : Word) (s : State) : Host.Outcome State Fault Refusal := .next (s.whenOn (s.timerWrite c v.toNat))

/-- CORE_TIMER_EXPIRY (R405): TIMER arrives in the due boundary's grain, and the next period runs. -/
def execCoreTimerExpiry (c : Fin 2) (s : State) : Host.Outcome State Fault Refusal :=
  .next (s.whenOn (match s.irq.timerDue[c] with
    | none => s
    | some g =>
      if g ≤ s.clock.grain then
        let t := s.arrivePrivate c 8
        { t with irq := { t.irq with timerDue := t.irq.timerDue.set c (some (g + t.get (IRQ.TMR.PERIOD c))) } }
      else s))

/-- SCNT_READ (R407): COUNT and SAT of the reader's selected source, cleared by the read. -/
def execScntRead (p : Proc) (s : State) : Host.Outcome State Fault Refusal :=
  let cs := (cellsOf regsIrq 8 4 (s.irqSel (s.copyOf p))).getD []
  .next (s.whenOn { s.clearRC cs with readData := BitVec.ofNat 32 (s.readCells cs) })

/-- IRQ_MASK_WRITE (R412, R413): GCTL, PMASKc or SMASKn. -/
def execIrqMaskWrite (idx : Fin 256) (v : Word) (s : State) : Host.Outcome State Fault Refusal :=
  if idx.val ∈ [0x00, 0x0A, 0x0B, 0x14, 0x15, 0x16] then .next (s.whenOn ((irqWrite s 0 idx v.toNat).getD s)) else .refused .illFormed

/-- IRQ_PEND_CLEAR (R407, R413): PPENDc or SPENDn. -/
def execIrqPendClear (idx : Fin 256) (v : Word) (s : State) : Host.Outcome State Fault Refusal :=
  if idx.val ∈ [0x08, 0x09, 0x10, 0x11, 0x12] then .next (s.whenOn ((irqWrite s 0 idx v.toNat).getD s)) else .refused .illFormed

/-- HOLDOFF_END (R414): once its cycles have passed, the interval is over. -/
def execHoldoffEnd (g : Fin 8) (s : State) : Host.Outcome State Fault Refusal :=
  .next (s.whenOn (if s.irq.holdEnd[g] ≤ s.clock.now then { s with irq := { s.irq with holdEnd := s.irq.holdEnd.set g 0 } } else s))

/-! ## External lines (R416, R417) -/

/-- An edge matches IRQ.XCFGl.EDGE (R416). -/
def State.edgeMatches (s : State) (l : Nat) (rising : Bool) : Bool :=
  match s.get (IRQ.XCFG.EDGE l) with | 0 => !rising | 1 => rising | _ => true

/-- The filter length in SLOW cycles (R416: 0 is stored as 1). -/
def State.filterLen (s : State) (l : Nat) : Nat := max 1 (s.get (IRQ.XCFG.FLT l))

/-- Change external line l. -/
def State.setLine (s : State) (l : Fin 3) (x : ExtLine) : State :=
  { s with irq := { s.irq with lines := s.irq.lines.set l x } }

/-- LINE_LEVEL_CHANGE (R416): the raw line has held its new level for FLT SLOW cycles; the source arrives where the
change matches EDGE. -/
def execLineLevelChange (l : Fin 3) (s : State) : Host.Outcome State Fault Refusal :=
  let x := s.irq.lines[l]
  .next (if s.power = .on ∧ x.raw ≠ x.filt ∧ x.since + s.filterLen l ≤ s.clock.rtc then
    let t := s.setLine l { x with filt := x.raw, unconfirmed := false }
    if s.edgeMatches l x.raw then t.arrive (0x60 + l) else t
  else s)

/-- A raw edge of line l (R417): LATCH sets where it matches; in RUN and BASE CAMP an edge back to the filtered level
makes the unconfirmed latch a glitch. -/
def State.rawEdge (s : State) (l : Fin 3) (rising : Bool) : State :=
  let x := s.irq.lines[l]
  let t := if s.edgeMatches l rising then s.setBit IRQ.XSTAT.LATCH l true else s
  let open' := x.unconfirmed || s.edgeMatches l rising
  if s.power = .on ∧ rising = x.filt then
    (if open' then t.setBit IRQ.XSTAT.GLITCH l true else t).setLine l
      { x with raw := rising, since := s.clock.rtc, unconfirmed := false }
  else t.setLine l { x with raw := rising, since := s.clock.rtc, unconfirmed := open' }

end Sys2Proof.Machine
end

