-- ==== Sys2Proof/Machine/Time.lean ====
section
/-! DEFINITION. Clocks, grains, the RTC tie, UTC and PPS, the pitch tracker, blocks and intervals, the cue table
(01_architecture.md R25–R27, R42; 03_timebase_and_cues.md R68–R94). -/

namespace Sys2Proof.Machine

/-! ## Clocks -/

/-- XTAL_REF_LOST (R26): the PLL reference goes to the RC oscillator and CLKDEG sets; the grain count goes on. The clock
tamper source's detector reads CLKDEG. -/
def execXtalRefLost (s : State) : Host.Outcome State Fault Refusal :=
  .next (s.whenOn ({ s with clock := { s.clock with xtalOk := false, lostAt := s.clock.grain } }.raise SYS.STATUS.CLKDEG 0x3E))

/-- XTAL_REF_RETURN (R26): the crystal has run for 4096 grains, so at least so many have passed since it was lost; the
reference switches back at a grain boundary and CLKDEG clears. -/
def execXtalRefReturn (s : State) : Host.Outcome State Fault Refusal :=
  .next (if s.power = .on ∧ s.on SYS.STATUS.CLKDEG ∧ s.clock.phase = 0 ∧ s.clock.lostAt + 4096 ≤ s.clock.grain then
    ({ s with clock := { s.clock with xtalOk := true } }.flag SYS.STATUS.CLKDEG false).arrive 0x3E else s)

/-- SLOW runs from its crystal: that is fitted and has not failed (R27, R65). -/
def State.slowGood (s : State) : Bool := s.part.slowXtal && s.clock.slowOk

/-- SLOW_CRYSTAL_FAIL (R27): SLOW runs from its RC oscillator. -/
def execSlowCrystalFail (s : State) : Host.Outcome State Fault Refusal :=
  .next (if s.power = .off then s
    else { s with clock := { s.clock with slowOk := false } }.raise SYS.STATUS.SLOWDEG 0x3E)

/-- SYS_FAULT_CLEAR (R42): VALID and MORE clear together. -/
def execSysFaultClear (s : State) : Host.Outcome State Fault Refusal :=
  .next (s.whenOn ((s.flag SYS.FAULT.VALID false).flag SYS.FAULT.MORE false))

/-- The grain count rebuilt from a tie (R72): grain and phase after E SLOW cycles. -/
def rebuild (t : Tie) (rtc : Nat) : Nat × Nat :=
  let cycles := t.phase + (rtc - t.rtc) * 6250
  (t.grain + cycles / 6400, cycles % 6400)

/-- The nominal period in 2^-32 grain (R81): 640 grains, or 533 1/3 rounded to the nearest. -/
def nominalPeriod (n60 : Bool) : Nat := if n60 then (rneDiv (1600 * 2 ^ 32) 3).toNat else 640 * 2 ^ 32

/-- The tracker as ACQUIRE begins at a grain (R81, R82). -/
def Tracker.acquire (t : Tracker) (grain : Nat) (n60 : Bool) : Tracker :=
  { Tracker.zero with acq := grain * 2 ^ 32, n60 := n60, tenIdx := t.tenIdx }

/-- Position of the present cycle in the grain count, in CORE cycles (R68). -/
def State.cycle (s : State) : Nat := s.clock.grain * 6400 + s.clock.phase

/-- Bytes of an area of always-on SRAM whose layout no rule gives: a function of what the area stands for (log entry 15). -/
def State.putArea (s : State) (off len : Nat) (what : List Nat) : State :=
  s.setBytes (0x20000000 + off) ((List.range len).map (Config.areaByte off what))

/-- A tie record is written: the TIME unit holds it and the timebase area has it (R36, R72). -/
def State.putTie (s : State) (t : Tie) : State :=
  { s with clock := { s.clock with tie := some t } }.putArea 0x2000 0x400 [t.rtc, t.grain, t.phase]

/-- TIE_RECORD (R72): the grain count and phase at the last SLOW edge that is a multiple of 4096. -/
def execTieRecord (s : State) : Host.Outcome State Fault Refusal :=
  let back := s.clock.rtc % 4096 * 6250 + s.clock.slowPh
  let edge := s.clock.rtc - s.clock.rtc % 4096
  .next (if s.power = .on ∧ s.clock.pllLock ∧ back ≤ s.cycle ∧ (s.clock.tie.map Tie.rtc) ≠ some edge then
    s.putTie ⟨edge, (s.cycle - back) / 6400, (s.cycle - back) % 6400⟩
  else s)

/-- The tie written at the SLOW edge on which CORE stops (R72). -/
def State.tieNow (s : State) : State := s.putTie ⟨s.clock.rtc, s.clock.grain, s.clock.phase⟩

/-! ## UTC (R74–R78) -/

/-- The UTC offset in 2^-32 grain, signed (R74). -/
def State.utcOff (s : State) : Int :=
  sextN 64 (s.get2 TIME.UTCOFFLO.ULO TIME.UTCOFFHI.UHI) * 2 ^ 32 + (s.get TIME.UTCOFFFR.UFR : Int)

/-- Write the UTC offset. -/
def State.setUtcOff (s : State) (x : Int) : State :=
  (s.set2 TIME.UTCOFFLO.ULO TIME.UTCOFFHI.UHI (wrapN 64 (x / 2 ^ 32))).set TIME.UTCOFFFR.UFR (wrapN 32 x)

/-- The pending set-UTC order is loaded at a grain boundary (R75). -/
def State.utcLoad (s : State) : State :=
  match s.utcSet with
  | none => s
  | some (sec, grain) =>
    let s := s.setUtcOff (((sec * 32000 : Nat) - grain : Int) * 2 ^ 32)
    { (s.flag TIME.UTCSTAT.VALID true).set TIME.UTCSTAT.SRC 1 with utcSet := none }

/-- The module takes UTC from a chain leader (R78): a follower in any state of R99. -/
def State.isFollower (s : State) : Bool := decide (1 ≤ s.get CHAIN.STATUS.STATE ∧ s.get CHAIN.STATUS.STATE ≤ 5)

/-- UTC of the running grain in grains. Where it comes from PPS it is scaled by UTCRATE from the last accepted edge on, in
the hold-over after a loss of lock too (R74, R76, R77); a follower takes the leader's as it is (R78). -/
def State.utcGrain (s : State) : Int :=
  let since : Int := match s.pps.ref with
    | none => 0
    | some c => if s.get TIME.UTCSTAT.SRC = 2 ∧ s.isFollower = false then s.clock.grain - (c / 6400 : Nat) else 0
  ((s.clock.grain : Int) * 2 ^ 32 + s.utcOff - since * sextN 32 (s.get TIME.UTCRATE.RATE) * 2 ^ 32 / 10 ^ 9) / 2 ^ 32

/-- The edge lies within 3.2 grains of one second after the last accepted one, at the current rate (R76). -/
def State.ppsInWindow (s : State) (last t : Nat) : Bool :=
  let rate := sextN 32 (s.get TIME.UTCRATE.RATE)
  decide ((((t : Int) - last - 204800000) * 10 ^ 9 - 204800000 * rate).natAbs ≤ 20480 * 10 ^ 9)

/-- UTCRATE over the last 16 accepted intervals, in 10^-9 (R76). -/
def ppsRate (l : List Nat) : Int :=
  if l = [] then 0
  else Config.round (((l.foldl (· + ·) 0 : Nat) - (l.length * 204800000 : Nat) : Int) * 10 ^ 9) (l.length * 204800000)

/-- An accepted edge at cycle t (R76, R77). -/
def State.ppsAccept (s : State) (t : Nat) : State :=
  let iv := match s.pps.last with | none => [] | some l => [t - l]
  let ivs := (iv ++ s.pps.intervals).take 16
  let run := s.pps.run + 1
  let sec := s.get TIME.PPSSEC.SEC
  let s := s.setUtcOff ((sec * 32000 : Nat) * 2 ^ 32 - Config.round ((t : Int) * 2 ^ 32) 6400)
  let s := (s.set TIME.PPSSEC.SEC (sec + 1)).set TIME.UTCRATE.RATE (wrapN 32 (ppsRate ivs))
  let s := (s.set TIME.UTCSTAT.SRC 2).flag TIME.UTCSTAT.VALID true
  let s := if 4 ≤ run then s.flag TIME.UTCSTAT.PPSLOCK true else s
  { s with pps := ⟨some t, run, 0, ivs, true, some t⟩ }.arrive 0x14

/-- Every edge of the chosen polarity is timestamped, accepted or not (R76). -/
def State.ppsStamp (s : State) (t : Nat) : State :=
  (s.set2 TIME.PPSGLO.PGLO (TIME.PPSGHI.PGHI.at 1) (t / 6400)).set TIME.PPSCYC.CYC (t % 6400)

/-- A rejected edge (R76): it is counted, and the run of accepted edges ends (R77). -/
def State.ppsReject (s : State) : State :=
  { s.bump TIME.PPSREJ.COUNT TIME.PPSREJ.SAT with pps := { s.pps with run := 0 } }

/-- PPS_EDGE (R76): an edge of the chosen polarity, timestamped with the barrier latency removed (R29); a follower
ignores it (R78). -/
def execPpsEdge (rising : Bool) (s : State) : Host.Outcome State Fault Refusal :=
  let t := s.cycle - 40
  .next (if s.power = .on ∧ s.on TIME.CTRL.PPSEN ∧ s.on TIME.CTRL.PPSPOL = !rising ∧ ¬ s.isFollower then
    let u := s.ppsStamp t
    match s.pps.last with
    | none => if s.pps.armed then u.ppsAccept t else u
    | some l => if s.ppsInWindow l t then u.ppsAccept t else u.ppsReject
  else s)

/-- PPS_EDGE_MISSED (R77): the window of the next expected edge has passed; at the fourth miss in a row lock is lost and
UTC holds over. A follower ignores PPS (R78). The next edge is a first edge, for which PPSSEC must be written anew; a write
of PPSSEC before PPSEN is set counts (DESIGN CHOICE, log entry 51). -/
def execPpsEdgeMissed (s : State) : Host.Outcome State Fault Refusal :=
  .next (match s.pps.last with
    | none => s
    | some l =>
      if s.power = .on ∧ s.on TIME.CTRL.PPSEN ∧ s.isFollower = false ∧ l + 204800000 * (s.pps.missed + 1) + 20480 < s.cycle then
        if s.pps.missed + 1 < 4 then { s with pps := { s.pps with missed := s.pps.missed + 1, run := 0 } }
        else
          { (s.flag TIME.UTCSTAT.PPSLOCK false).raise TIME.UTCSTAT.PPSLOST 0x15 with
            pps := { s.pps with last := none, run := 0, missed := 0, armed := false } }
      else s)

/-! ## The pitch tracker (R79–R81) -/

/-- ⌈x⌉ to a whole grain, x in 2^-32 grain. -/
def ceilGrain (x : Nat) : Nat := (x + 2 ^ 32 - 1) / 2 ^ 32

/-- A pitch starts at t with length p: PLEN rounds to 2^-22, and it completes at the first boundary after its point 511
(R79, R80). -/
def State.startPitch (s : State) (t p : Nat) (held : Bool) : State :=
  let plen := min (rneDiv p 1024).toNat (2 ^ 32 - 1)
  let n := if s.tracker.n60 then 12 else 10
  let en := s.get RSMP.CTRL.EN ||| (if s.on NRG.BCSTAT.BCRUN then 0x7F else 0)
  let x : Pitch := ⟨t, plen, held, s.tracker.pos, (t + 511 * 2 * plen) / 2 ^ 32 + 1, en⟩
  { s.set TIME.BLKPOS.POS s.tracker.pos with tracker := { s.tracker with
      lastStart := some t, lastPer := p, pos := (s.tracker.pos + 1) % n, running := s.tracker.running ++ [x] } }

/-- Entry to HOLD: QUAL is set to 0 and the next held pitch starts at a given time (R81). -/
def State.enterHold (s : State) (t : Nat) : State :=
  { (s.set TIME.TRK.STATE 2).set TIME.TRK.QUAL 0 with tracker := { s.tracker with nextHeld := t } }

/-- Held pitches run free at the nominal period up to a time (R81); at most n of them start. -/
def State.holdRun : Nat → Nat → State → State
  | 0, _, s => s
  | n + 1, upTo, s =>
    if s.get TIME.TRK.STATE = 2 ∧ s.tracker.nextHeld ≤ upTo then
      let p := nominalPeriod s.tracker.n60
      let s := s.startPitch s.tracker.nextHeld p true
      State.holdRun n upTo { s with tracker := { s.tracker with nextHeld := s.tracker.nextHeld + p } }
    else s

/-- The fundamental reaches 1 % of full scale (R81). -/
def ampOk (amp : Word) : Bool := decide (2 ^ 31 ≤ amp.toNat * 100)

/-- An implied period lies within 42.5–69.0 Hz (R81): 32 000 / 69.0 to 32 000 / 42.5 grains. -/
def freqOk (per : Nat) : Bool := decide (320000 * 2 ^ 32 ≤ per * 690 ∧ per * 425 ≤ 320000 * 2 ^ 32)

/-- A period lies within ±5 % of the previous one (R81). -/
def near5 (per prev : Nat) : Bool := decide (((per : Int) - prev).natAbs * 20 ≤ prev)

/-- The interval from the crossing a new one is judged against: the last qualifying one in TRACK, the last of the run
elsewhere. -/
def State.crossInterval (s : State) (t : Nat) : Option Nat :=
  if s.get TIME.TRK.STATE = 1 then some (t - s.tracker.lastQ) else s.tracker.prevX.map (t - ·)

/-- The crossing qualifies, whatever the state: amplitude alone as the first of a run, then also frequency, then also ±5 %
(R81). -/
def State.crossOk (s : State) (t : Nat) (amp : Word) : Bool :=
  let iv := (s.crossInterval t).getD 0
  let five := match s.tracker.prevPer with | none => false | some p => near5 iv p
  ampOk amp &&
  (if s.get TIME.TRK.QUAL = 0 then true
   else if s.get TIME.TRK.QUAL = 1 then freqOk iv
   else freqOk iv && five)

/-- QUAL and the run after a crossing (R81). -/
def State.judgeCrossing (s : State) (t : Nat) (amp : Word) : State :=
  if s.crossOk t amp then
    let per := if 1 ≤ s.get TIME.TRK.QUAL then s.crossInterval t else none
    { s.incSat TIME.TRK.QUAL with tracker := { s.tracker with prevX := some t, prevPer := per } }
  else if s.get TIME.TRK.STATE = 1 then s.set TIME.TRK.QUAL 0
  else { s.set TIME.TRK.QUAL (ofB (ampOk amp)) with tracker := { s.tracker with prevX := some t, prevPer := none } }

/-- ZERO_CROSSING (R81): a positive crossing of the filtered fundamental at time t (2^-32 grain) with its amplitude
(Q1.31) is judged; the tracker enters or follows TRACK, or ends ACQUIRE in HOLD at the 64th crossing that met the
tests. -/
def execZeroCrossing (t : Nat) (amp : Word) (s : State) : Host.Outcome State Fault Refusal :=
  .next (if s.power = .on ∧ s.clock.pllLock then
    let st := s.get TIME.TRK.STATE
    let iv := (s.crossInterval t).getD 0
    let ok := s.crossOk t amp
    let af := ampOk amp && (match s.crossInterval t with | none => true | some p => freqOk p)
    let u := s.judgeCrossing t amp
    let u := if af then { u with tracker := { u.tracker with lastMet := some t } } else u
    if st = 1 then
      if ok then { u with tracker := { u.tracker with lastQ := t } }.startPitch t iv false else u
    else if st = 0 then
      let u := if af then { u with tracker := { u.tracker with met := u.tracker.met + 1 } } else u
      if 8 ≤ u.get TIME.TRK.QUAL ∧ ¬ u.on TIME.CTRL.HOLD then
        ({ u with tracker := { u.tracker with lastQ := t } }.set TIME.TRK.STATE 1).startPitch t iv false
      else if 64 ≤ u.tracker.met then u.enterHold (ceilGrain t * 2 ^ 32)
      else u
    else if 8 ≤ u.get TIME.TRK.QUAL ∧ ¬ u.on TIME.CTRL.HOLD then
      ({ u with tracker := { u.tracker with lastQ := t } }.set TIME.TRK.STATE 1).startPitch t iv false
    else u
  else s)

/-- The time at which the tracker gives up (R81): 1.5 periods after the last qualifying crossing in TRACK, 1.5 nominal
periods after the start of ACQUIRE or the last crossing that met the tests. -/
def State.trackDeadline (s : State) : Nat :=
  if s.get TIME.TRK.STATE = 1 then s.tracker.lastQ + 3 * s.tracker.lastPer / 2
  else (match s.tracker.lastMet with | none => s.tracker.acq | some t => max s.tracker.acq t)
    + 3 * nominalPeriod s.tracker.n60 / 2

/-- The start of the first held pitch (R81): the boundary at which HOLD is entered from ACQUIRE; from TRACK the rule names no
start, and the model takes one nominal period after the start of the last pitch (DESIGN CHOICE, log entry 51). -/
def State.firstHeld (s : State) (deadline : Nat) : Nat :=
  match s.tracker.lastStart with
  | some t => t + nominalPeriod s.tracker.n60
  | none => ceilGrain deadline * 2 ^ 32

/-- TRACKER_TIMEOUT (R81): the deadline is reached, or CTRL.HOLD is set: HOLD. -/
def execTrackerTimeout (s : State) : Host.Outcome State Fault Refusal :=
  let now := s.clock.grain * 2 ^ 32
  .next (if s.power = .on ∧ s.clock.pllLock ∧ s.get TIME.TRK.STATE ≠ 2 then
    if s.on TIME.CTRL.HOLD then State.holdRun 4 now (s.enterHold (s.firstHeld now))
    else if s.trackDeadline ≤ now then State.holdRun 4 now (s.enterHold (s.firstHeld s.trackDeadline))
    else s
  else s)

/-! ## Blocks and intervals (R82, R83) -/

/-- The index of the running 10-minute interval: of UTC, or of the RTC while UTC is not valid (R83). -/
def State.tenMinute (s : State) : Nat :=
  if s.on TIME.UTCSTAT.VALID then (s.utcGrain / 19200000).toNat else s.clock.rtc / (slowHz * 600)

/-- The interval count at the end of a block (R83): the 15th block ends the interval, and a 10-minute boundary ends it
short. -/
def State.intervalAtBlock (s : State) : State :=
  let n := s.tracker.ivPos + 1
  { s with tracker := { s.tracker with
      ivPos := if n = 15 ∨ s.tracker.ivEnd then 0 else n
      ivEnd := false
      ivDone := if n = 15 then some false else if s.tracker.ivEnd then some true else none } }

/-! ## The cue table (R84–R93) -/

/-- The register table of a unit number (R34). -/
def tableOf (u : Nat) : List Reg :=
  if u = 0x00 then regsSys else if u = 0x01 then regsTime else if u = 0x02 then regsChain
  else if u = 0x03 then regsPermit else if u = 0x04 then regsLease else if u = 0x08 then regsIrq
  else if 0x10 ≤ u ∧ u ≤ 0x13 then regsQuad else if u = 0x14 then regsBitin else if u = 0x18 then regsFilt
  else if u = 0x19 then regsRsmp else if u = 0x20 then regsNrg else if u = 0x21 then regsPulse
  else if u = 0x24 then regsPq else if u = 0x25 then regsCapt else if u = 0x28 then regsJrnl
  else if u = 0x29 then regsCairn else if u = 0x2C then regsTrim else if u = 0x30 then regsAux
  else if u = 0x34 then regsModem else if u = 0x38 then regsGlass else if u = 0x3C then regsTamp
  else if u = 0x3D then regsAccess else if u = 0x40 then regsPwr else if u = 0x41 then regsRst
  else if u = 0x48 then regsHost else []

/-- The lease resources that do not exist have no registers of their own (R259: x is 0–5 or 8–11). -/
def regDefined (u idx : Nat) : Bool :=
  (findReg (tableOf u) idx).isSome &&
  !(u == 0x04 && ((decide (0x16 ≤ idx ∧ idx < 0x18)) || decide (0x26 ≤ idx ∧ idx < 0x28)))

/-- The positions' result registers of a quad are undefined on the MS1200 (R128). -/
def quadDefined (p : Part) (idx : Nat) : Bool := p.big || !(decide (0x20 ≤ idx ∧ idx ≤ 0x23))

/-- A register index its unit defines on the part (R33, R259). -/
def Part.defines (p : Part) (u idx : Nat) : Bool :=
  regDefined u idx && (!(decide (0x10 ≤ u ∧ u ≤ 0x13)) || quadDefined p idx)

/-- The registers private to each processor (R562). -/
def isPrivate (u idx : Nat) : Bool :=
  (u, idx) ∈ [(0x20, 0x01), (0x08, 0x02), (0x3C, 0x04), (0x3D, 0x08), (0x38, 0x4C), (0x48, 0x08)]

/-- The cue that four words spell (R84). -/
def cueOf (e : Vec) (owner : Nat) : Cue :=
  let w2 := (elem e 2).toNat
  ⟨(elem e 0).toNat + 2 ^ 32 * (elem e 1).toNat, field w2 0 8, field w2 8 8, field w2 16 4, field w2 24 8,
   (elem e 3).toNat, owner⟩

/-- The words of a cue (R84). -/
def Cue.word (c : Cue) (i : Nat) : Nat :=
  match i with
  | 0 => c.due % 2 ^ 32
  | 1 => c.due / 2 ^ 32 % 2 ^ 32
  | 2 => c.unit + 256 * c.reg + 2 ^ 16 * c.action + 2 ^ 24 * c.tag
  | _ => c.arg

/-- The code-3 checks of R86, with a lane's declarations where a lane inserts (R224). -/
def cueBad (p : Part) (c : Cue) (laneDecl : Option (Nat → Nat)) : Bool :=
  (if c.action = 4 then !(c.unit == 1 && decide (c.reg ≤ 2) && decide (c.arg ≤ 63))
   else !(decide (1 ≤ c.action ∧ c.action ≤ 3)) || !p.defines c.unit c.reg || isPrivate c.unit c.reg) ||
  (match laneDecl with | none => false | some f => f c.unit != 2)

/-- The result code of the checks before the table's room (R86): 3, 1 or 0; past is judged against a grain. -/
def cueCheck (p : Part) (c : Cue) (laneDecl : Option (Nat → Nat)) (grain : Nat) : Nat :=
  if cueBad p c laneDecl then 3 else if c.due ≤ grain then 1 else 0

/-- A refused insertion (R86). -/
def State.cueRefused (s : State) : State := (s.bump TIME.CUEREF.COUNT TIME.CUEREF.SAT).arrive 0x13

/-- The table with a cue put after those due no later (R87). -/
def cueInsert (c : Cue) : List Cue → List Cue
  | [] => [c]
  | x :: l => if c.due < x.due then c :: x :: l else x :: cueInsert c l

/-- The table takes a cue, or refuses it as full (R86, R87): the result code. -/
def State.cueAdd (s : State) (c : Cue) : Nat × State :=
  if 256 ≤ s.cues.length then (2, s.cueRefused)
  else
    let i := s.get TIME.CUEIDX.IDX
    let before := (s.cues.filter (fun x => decide (x.due ≤ c.due))).length
    let s' := { s with cues := cueInsert c s.cues }
    (0, if before ≤ i ∧ i < s.cues.length then s'.set TIME.CUEIDX.IDX (i + 1) else s')

/-- Remove the cues that a condition names (R87, R92): the selected index moves with its entry. -/
def State.cueRemove (s : State) (p : Cue → Bool) : State :=
  let i := s.get TIME.CUEIDX.IDX
  { s.set TIME.CUEIDX.IDX (i - ((s.cues.take i).filter p).length) with cues := s.cues.filter (fun c => !p c) }

/-- CUE_CANCEL_TAG (R92). -/
def execCueCancelTag (tag : BitVec 8) (s : State) : Host.Outcome State Fault Refusal :=
  .next (s.whenOn (s.cueRemove (fun c => c.tag == tag.toNat)))

/-- CUE_CANCEL_ALL (R92). -/
def execCueCancelAll (s : State) : Host.Outcome State Fault Refusal := .next (s.whenOn (s.cueRemove (fun _ => true)))

/-- A cue refused at execution (R91). -/
def State.cueFailed (s : State) : State := (s.bump TIME.CUEFAIL.COUNT TIME.CUEFAIL.SAT).arrive 0x13

/-! ## The registers of TIME (R108) -/

/-- The views of TIME. -/
def timeView (s : State) (idx : Nat) : Option Nat :=
  if idx = 0x00 then some (s.clock.grain % 2 ^ 32)
  else if idx = 0x02 then some s.clock.phase
  else if idx = 0x0C then some (s.clock.rtc % 2 ^ 32)
  else if idx = 0x20 then some (s.cues.length + 2 ^ 16 * ofB (decide (256 ≤ s.cues.length)))
  else if idx = 0x25 then some ((match s.cues with | [] => 2 ^ 64 - 1 | c :: _ => c.due) % 2 ^ 32)
  else if idx = 0x26 then some ((match s.cues with | [] => 2 ^ 64 - 1 | c :: _ => c.due) / 2 ^ 32)
  else if 0x29 ≤ idx ∧ idx ≤ 0x2C then
    some (match s.cues[s.get TIME.CUEIDX.IDX]? with | none => 0 | some c => c.word (idx - 0x29))
  else none

/-- The high words that a read of a low word latches (R71, R108). PITCH and PPSG keep their true high words in banks of
their own. -/
def timeLatch (s : State) (idx : Nat) : State :=
  if idx = 0x00 then s.set TIME.GRAINHI.GHI (s.clock.grain / 2 ^ 32)
  else if idx = 0x0C then s.set TIME.RTCHI.RHI (s.clock.rtc / 2 ^ 32)
  else if idx = 0x09 then s.set TIME.PITCHHI.PHI (s.get (TIME.PITCHHI.PHI.at 1))
  else if idx = 0x14 then s.set TIME.PPSGHI.PGHI (s.get (TIME.PPSGHI.PGHI.at 1))
  else s

/-- The writes of TIME that do more than store (R76, R81, R92). -/
def timeWrite (s : State) (idx v : Nat) : Option State :=
  if idx = 0x24 then
    some (if bitOf v 8 then s.cueRemove (fun _ => true) else s.cueRemove (fun c => c.tag == v % 256))
  else if idx = 0x13 then some { s.set TIME.PPSSEC.SEC v with pps := { s.pps with armed := true } }
  else if idx = 0x03 then
    let was := s.on TIME.CTRL.PPSEN
    let t := s.writeCells ((cellsOf regsTime 1 3 0).getD []) v
    some (if t.on TIME.CTRL.PPSEN && !was then { t with pps := { Pps.zero with armed := s.pps.armed, ref := s.pps.ref } } else t)
  else none

end Sys2Proof.Machine
end

