-- ==== Sys2Proof/Machine/Records.lean ====
section
/-! DEFINITION. Journal records before they are numbered (R350–R358): how a unit stages one. -/

namespace Sys2Proof.Machine

/-- A little-endian field of n bytes, of a signed value. -/
def leInt (n : Nat) (x : Int) : List Byte := leBytes n (wrapN (8 * n) x)

/-- 8 bytes of integer part and 4 of fraction, from 2^-32 units (R356). -/
def leQ (x : Int) : List Byte := leInt 8 (x / 2 ^ 32) ++ leBytes 4 (wrapN 32 x)

/-- The flags of a record (R351). -/
def State.recFlags (s : State) (reconstructed : Bool) : Nat :=
  ofB reconstructed + 2 * ofB (!s.on TIME.UTCSTAT.VALID || s.get CHAIN.STATUS.STATE == 5) +
    4 * ofB (s.on SYS.STATUS.CLKDEG) + 8 * ofB (s.get PWR.STATE.STATE == 1)

/-- Stage a record whose content stands at a grain (R350, R351). -/
def State.stageAt (s : State) (type grain : Nat) (reconstructed : Bool) (body : List Byte) : State :=
  { s with jrnl := { s.jrnl with
      staged := s.jrnl.staged ++ [⟨type, s.recFlags reconstructed, s.jrnl.epoch, grain, body, false⟩] } }

/-- Stage a record of the running grain. -/
def State.stage (s : State) (type : Nat) (body : List Byte) : State := s.stageAt type s.clock.grain false body

/-- An event record (R355): unit, kind, 64 bytes of data. -/
def State.stageEvent (s : State) (unit kind : Nat) (data : List Byte) : State :=
  s.stage 2 ([BitVec.ofNat 8 unit, BitVec.ofNat 8 kind, 0, 0] ++ padTo 64 data)

/-- A wrap record (R358). -/
def State.stageWrap (s : State) (slot sub dir : Nat) : State :=
  s.stage 6 [BitVec.ofNat 8 slot, BitVec.ofNat 8 sub, BitVec.ofNat 8 dir, 0]

/-- A retire record (R358). -/
def State.stageRetire (s : State) (what unit which : Nat) : State :=
  s.stage 7 [BitVec.ofNat 8 what, BitVec.ofNat 8 unit, BitVec.ofNat 8 which, 0]

/-- A tamper record (R358). -/
def State.stageTamper (s : State) (source kind responses : Nat) (copied : Bool) (rtc : Nat) : State :=
  s.stage 8 ([BitVec.ofNat 8 source, BitVec.ofNat 8 kind, BitVec.ofNat 8 responses, BitVec.ofNat 8 (ofB copied)] ++
    leBytes 8 rtc)

/-- An order-outcome record (R356), filled up with zeros so that LEN is a multiple of 4 (R351). -/
def State.stageOutcome (s : State) (reconstructed : Bool) (ordno pseq ocode : Nat) (data : List Byte) : State :=
  s.stageAt 3 s.clock.grain reconstructed
    (leBytes 4 ordno ++ leBytes 4 pseq ++ leBytes 2 ocode ++ leBytes 2 data.length ++ zeros 8 ++ data ++
      zeros ((4 - data.length % 4) % 4))

/-- UTC second of a grain, 0 while UTC is not valid. -/
def State.utcSecond (s : State) (grain : Nat) : Nat :=
  if s.on TIME.UTCSTAT.VALID then (((grain : Int) * 2 ^ 32 + s.utcOff) / 2 ^ 32 / 32000).toNat % 2 ^ 32 else 0

/-- The body of a gap record (R357). -/
def State.gapBody (s : State) (from' upTo cause flags epoch : Nat) : List Byte :=
  leBytes 8 from' ++ leBytes 8 upTo ++ [BitVec.ofNat 8 cause, BitVec.ofNat 8 flags] ++ leBytes 2 epoch ++
    leBytes 4 (if flags % 4 ≠ 0 then 0 else s.utcSecond from') ++ leBytes 4 (s.utcSecond upTo)

/-- A gap record is staged (R348, R357). -/
def State.stageGap (s : State) (from' upTo cause flags epoch : Nat) : State :=
  s.stage 5 (s.gapBody from' upTo cause flags epoch)

/-- The gap record of a start (R357 causes 1 to 3). -/
def JRec.startGap (r : JRec) : Bool := r.type == 5 && decide ((r.body.getD 16 0).toNat ≠ 4)

/-- A gap record takes its body anew. -/
def JRec.regap (body : List Byte) (r : JRec) : JRec := if r.startGap then { r with body := body } else r

/-- The gap record of the start, staged or appended and in no cairn commit yet, ends at a grain: the first whose bookings
are metered again (R348, R357). -/
def State.closeGap (s : State) (grain : Nat) : State :=
  match s.pwr.gap with
  | none => s
  | some g =>
    let body := s.gapBody g.start grain g.cause g.flags g.epoch
    { s with
      jrnl := { s.jrnl with staged := s.jrnl.staged.map (JRec.regap body) }
      cairn := { s.cairn with ring := s.cairn.ring.map (fun r =>
        if s.jrnl.cseq ≤ r.seq then { r with what := r.what.regap body } else r) }
      pwr := { s.pwr with gap := none } }

/-- The grain in which the first pitch of the start has begun, else the given one. -/
def State.gapEnd (s : State) (grain : Nat) : Nat :=
  match s.tracker.running with
  | [] => grain
  | p :: _ => p.start / 2 ^ 32

/-- The length of a record (R351). -/
def JRec.len (r : JRec) : Nat := 24 + r.body.length

/-- The bytes of a record with its sequence number (R351). -/
def JRec.bytes (r : JRec) (seq : Nat) : List Byte :=
  let b := [BitVec.ofNat 8 r.type, BitVec.ofNat 8 r.flags] ++ leBytes 2 r.len ++ leBytes 6 seq ++ leBytes 2 r.epoch ++
    leBytes 8 r.grain ++ r.body
  b ++ leBytes 4 (crc32c b)

end Sys2Proof.Machine
end

