-- ==== Sys2Proof/Machine/Pulse.lean ====
section
/-! DEFINITION. Pulse outputs and the export watch (R285–R294, R296). -/

namespace Sys2Proof.Machine

/-! ## Requests (R286, R288) -/

/-- The pulse threshold 10^9 µ-units, in 2^-64. -/
def pulseUnit : Nat := 10 ^ 9 * 2 ^ 64

/-- k pulse requests of output n (R286, R288): counted, added to the backlog up to 65 535, the rest dropped. -/
def State.pulseRequest (s : State) (n : Fin 4) (k : Nat) : State :=
  let add := min k (65535 - s.get (PULSE.BLOG.COUNT n))
  let lost := k - add
  let s := s.set (PULSE.CNT.COUNT n) (s.get (PULSE.CNT.COUNT n) + k)
  let s := s.set (PULSE.BLOG.COUNT n) (s.get (PULSE.BLOG.COUNT n) + add)
  let s := { s with pulse := s.pulse.set n { s.pulse[n] with reqNow := s.pulse[n].reqNow + add } }
  if lost = 0 then s
  else
    let c := s.get (PULSE.LOST.COUNT n) + lost
    let s := if c < 2 ^ 31 then s.set (PULSE.LOST.COUNT n) c
      else (s.set (PULSE.LOST.COUNT n) (2 ^ 31 - 1)).flag (PULSE.LOST.SAT n) true
    if s.bit PULSE.STATUS.BLSAT n then s else (s.setBit PULSE.STATUS.BLSAT n true).arrive 0x23

/-- Output n takes a booking of its source (R285, R286); a signed source emits nothing and sets SRCREF. -/
def State.pulseTake (s : State) (n : Fin 4) (slot : Nat) (signed : Bool) (sub : Nat) (v : Int) : State :=
  if s.get (PULSE.SRC.SLOT n) = slot ∧ slot < 64 ∧ (8 ≤ s.get (PULSE.SRC.TSEL n) ∨ s.get (PULSE.SRC.TSEL n) = sub) then
    if signed then s.setBit PULSE.STATUS.SRCREF n true
    else
      let a := s.pulse[n].acc + s.get (PULSE.CONST.C n) * v.toNat
      { s with pulse := s.pulse.set n { s.pulse[n] with acc := a % pulseUnit } }.pulseRequest n (a / pulseUnit)
  else s

/-- A booking, after the mode and the clamp, reaches the outputs it is the source of (R286). -/
def State.pulseBooked (s : State) (slot : Nat) (signed : Bool) (sub : Nat) (v : Int) : State :=
  (List.finRange 4).foldl (fun t n => t.pulseTake n slot signed sub v) s

/-! ## Pulses (R287, R289, R290) -/

/-- A pulse of output n ends and the output is free again, by the grain (R287). -/
def State.pulseEnd (s : State) (n : Fin 4) : State :=
  let x := s.pulse[n]
  let s := { s with pulse := s.pulse.set n { x with high := x.high && decide (s.clock.grain < x.highEnd) } }
  s.setBit PULSE.STATUS.BUSY n (decide (s.clock.grain < x.freeAt))

/-- The high time of a pulse that starts (R287). -/
def pulseHigh (waited : Bool) (delta : Nat) : Nat := if waited then 8 else if 128 ≤ delta then 64 else delta / 2

/-- A pulse of output n starts at the boundary where the output is free, has a backlog and its source and constant have
been written again (R285, R287, R290). -/
def State.pulseStart (s : State) (n : Fin 4) (signed : Bool) : State :=
  let x := s.pulse[n]
  let backlog := s.get (PULSE.BLOG.COUNT n)
  let g := s.clock.grain
  if x.freeAt ≤ g ∧ backlog ≠ 0 ∧ x.srcOk ∧ x.constOk ∧ s.get (PULSE.SRC.SLOT n) < 64 ∧ ¬ signed then
    let h := pulseHigh (decide (x.reqNow < backlog)) (match x.start with | none => 128 | some t => g - t)
    { (s.set (PULSE.BLOG.COUNT n) (backlog - 1)).setBit PULSE.STATUS.BUSY n true with
      pulse := s.pulse.set n { x with start := some g, highEnd := g + h, freeAt := g + 2 * h, high := true } }
  else s

/-- The source slot of output n has MODE signed (R285). -/
def State.pulseSigned (s : State) (n : Nat) : Bool := s.get (NRG.BIND.MODE (s.get (PULSE.SRC.SLOT n))) == 0

/-- The boundary of the pulse outputs (R287); the requests of the ended grain are old from now on. -/
def State.pulseBoundary (s : State) : State :=
  let s := (List.finRange 4).foldl (fun t n => (t.pulseEnd n).pulseStart n (t.pulseSigned n)) s
  { s with pulse := s.pulse.map (fun x => { x with reqNow := 0 }) }

/-- PULSE_END (R287): at its grain boundary the pulse of output n falls, or the output is free again; a free output with a
backlog starts its next pulse. Inside a grain no pulse edge falls. -/
def execPulseEnd (n : Fin 4) (s : State) : Host.Outcome State Fault Refusal :=
  .next (if s.power = .on ∧ s.clock.pllLock ∧ s.clock.phase = 0 then (s.pulseEnd n).pulseStart n (s.pulseSigned n) else s)

/-- The level of pad CFn (R285, R289). -/
def State.cfPad (s : State) (n : Fin 4) : Bool := s.power == .on && s.pulse[n].high && s.bit PULSE.CTRL.EN n

/-- What a belay's snapshot takes of output n (R290). -/
def State.pulseImage (s : State) (n : Fin 4) : PulseHeld :=
  ⟨s.pulse[n].acc, s.get (PULSE.BLOG.COUNT n), s.get (PULSE.CNT.COUNT n), s.pulse[n].src, s.pulse[n].const⟩

/-- The pulse outputs are taken with the belay (R290). -/
def State.pulseSnap (s : State) : State :=
  { s with pulse := Vector.ofFn (fun n : Fin 4 => { s.pulse[n] with pend := s.pulseImage n }) }

/-- The belay is committed in always-on SRAM, the pulse outputs with it. -/
def State.pulseCommit (s : State) : State := { s with pulse := s.pulse.map (fun x => { x with held := x.pend }) }

/-- The copy that HCFm drives, 40 cycles before it reaches the pad (R289). -/
def State.hcfCopy (s : State) (m : Nat) : Bool :=
  s.power == .on && s.on (if m = 0 then PULSE.CTRL.H0EN else PULSE.CTRL.H1EN) &&
  s.pulse[Fin.ofNat 4 (s.get (if m = 0 then PULSE.CTRL.HSEL0 else PULSE.CTRL.HSEL1))].high

/-- A write of SRCn or CONSTn (R285, R290): a different source or constant clears A and the backlog; the next pulse has
no previous one. -/
def State.pulseSource (s : State) (n : Fin 4) (isSrc : Bool) (v : Nat) : State :=
  let s := s.writeCells ((cellsOf regsPulse 0x21 ((if isSrc then 4 else 8) + n) 0).getD []) v
  let x := s.pulse[n]
  let new := if isSrc then s.get (PULSE.SRC.SLOT n) + 256 * s.get (PULSE.SRC.TSEL n) else s.get (PULSE.CONST.C n)
  let same := new == (if isSrc then x.src else x.const)
  let x : PulseOut := if isSrc then { x with src := new, srcOk := true } else { x with const := new, constOk := true }
  let x : PulseOut := { x with start := none, acc := if same then x.acc else 0, reqNow := if same then x.reqNow else 0 }
  let s : State := { s with pulse := s.pulse.set n x }
  let s := if same then s else s.set (PULSE.BLOG.COUNT n) 0
  if isSrc && decide (s.get (PULSE.SRC.SLOT n) < 64) && s.pulseSigned n then s.setBit PULSE.STATUS.SRCREF n true else s

/-- PULSE_SOURCE_WRITE (R290). -/
def execPulseSourceWrite (n : Fin 4) (isSrc : Bool) (v : Word) (s : State) : Host.Outcome State Fault Refusal :=
  .next (s.whenOn (s.pulseSource n isSrc v.toNat))

/-! ## The export watch (R292, R293) -/

/-- HWATCH by its three conditions (R292). -/
def State.watchLevel (s : State) : Bool :=
  let active := s.watch.tripped || !s.on PULSE.EWCTRL.EN || s.watch.stale
  if active then s.on PULSE.EWCTRL.POL else !s.on PULSE.EWCTRL.POL

/-- HWATCH follows; a change records its grain. -/
def State.watchDrive (s : State) : State :=
  if s.watchLevel = s.watch.hwatch then s
  else { s.set2 PULSE.EWCHGLO.GLO PULSE.EWCHGHI.GHI s.clock.grain with watch := { s.watch with hwatch := s.watchLevel } }

/-- A write of EWVAL is compared (R292) and ends a stale feed (R293). -/
def State.watchValue (s : State) (v : Nat) : State :=
  let s := s.set PULSE.EWVAL.VAL v
  let x := sextN 32 v
  let trip := sextN 32 (s.get PULSE.EWTRIP.TRIP)
  let hyst : Int := s.get PULSE.EWHYST.HYST
  let down := !s.on PULSE.EWCTRL.DIR
  let trips := if down then decide (x < trip) else decide (trip < x)
  let releases := if down then decide (trip + hyst ≤ x) else decide (x ≤ trip - hyst)
  let s := { s with watch := { s.watch with stale := false, since := s.clock.grain + 1 } }
  let s :=
    if ¬ s.watch.tripped ∧ trips then
      (({ s with watch := { s.watch with tripped := true } }.flag PULSE.STATUS.EWTRIP true).bump
        PULSE.EWTRIPS.COUNT PULSE.EWTRIPS.SAT).arrive 0x24
    else if s.watch.tripped ∧ releases then
      ({ s with watch := { s.watch with tripped := false } }.flag PULSE.STATUS.EWTRIP false).arrive 0x24
    else s
  s.watchDrive

/-- EWVAL_WRITE (R292). -/
def execEwvalWrite (v : Word) (s : State) : Host.Outcome State Fault Refusal := .next (s.whenOn (s.watchValue v.toNat))

/-- EW_STALE (R293): STALE grains without a write have passed. -/
def execEwStale (s : State) : Host.Outcome State Fault Refusal :=
  .next (if s.power = .on ∧ s.on PULSE.EWCTRL.EN ∧ ¬ s.watch.stale ∧
      s.watch.since + s.get PULSE.EWCTRL.STALE ≤ s.clock.grain then
    ({ s with watch := { s.watch with stale := true } }.raise PULSE.STATUS.EWSTALE 0x25).watchDrive
  else s)

/-- The writes of PULSE that do more than store (R285, R290, R292, R293). A write of EWCTRL sets HWATCH's polarity (R54); the
count of grains without a write of EWVAL starts at the boundary at which EN sets, which is the running one for a cue. -/
def pulseWrite (s : State) (idx v : Nat) : Option State :=
  if h : 4 ≤ idx ∧ idx < 8 then some (s.pulseSource ⟨idx - 4, by omega⟩ true v)
  else if h : 8 ≤ idx ∧ idx < 12 then some (s.pulseSource ⟨idx - 8, by omega⟩ false v)
  else if idx = 0x20 then
    let was := s.on PULSE.EWCTRL.EN
    let s := s.writeCells ((cellsOf regsPulse 0x21 0x20 0).getD []) v
    let s := if s.on PULSE.EWCTRL.EN && !was then
        { s with watch := { s.watch with since := s.clock.grain + ofB (s.clock.phase != 0), stale := false } } else s
    some { s.watchDrive with link := { s.link with polHeld := false } }
  else if idx = 0x23 then some (s.watchValue v)
  else none

end Sys2Proof.Machine
end

