-- ==== Sys2Proof/Machine/Nrg.lean ====
section
/-! DEFINITION. Accumulator slots, bindings, bookings, tariffs, adjustments, base camp totals (R265–R284, R295). -/

namespace Sys2Proof.Machine

/-! ## Slots (R265–R268, R283) -/

/-- The base camp slots' quantity codes and modes (R283). -/
def baseQty (b : Nat) : Nat := [0x10, 0x11, 0x12, 0x13, 0x13, 0x33, 0x43, 0x13].getD b 0
def baseMode (b : Nat) : Nat := [0, 0, 0, 2, 3, 0, 1, 1].getD b 0

/-- QTY, MODE and QD of a slot (R266, R283). -/
def State.slotQty (s : State) (n : Nat) : Nat := if 64 ≤ n then baseQty (n - 64) else s.get (NRG.BIND.QTY n)
def State.slotMode (s : State) (n : Nat) : Nat := if 64 ≤ n then baseMode (n - 64) else s.get (NRG.BIND.MODE n)
def State.slotQd (s : State) (n : Nat) : Nat := if 64 ≤ n then 0 else s.get (NRG.BIND.QD n)

/-- The scale in force, 32.32 (R266, R283). -/
def State.slotK (s : State) (n : Nat) : Nat :=
  if 64 ≤ n then 2 ^ 32 else s.eff (NRG.KLO.KFR n) + 2 ^ 32 * s.eff (NRG.KHI.KINT n)

/-- The weighting in force. -/
def State.slotWt (s : State) (n : Nat) : Bool := decide (64 ≤ n) || s.eff (NRG.BIND.WT n) != 0

/-- The owner in force, 0xF unbound. -/
def State.slotOwner (s : State) (n : Nat) : Nat := if 64 ≤ n then 0xF else s.eff (NRG.BIND.OWNER n)

/-- The owner code of a lane's program: 5 for the roped pair (R266). -/
def State.ownerCode (s : State) (n : Fin 5) : Nat := if s.roped n then 5 else n

/-- Change a slot. -/
def State.setSlot (s : State) (n : Fin 72) (x : Slot) : State := { s with slots := s.slots.set n x }

/-- The slot a number names, 71 for a greater one. -/
def slotIx (n : Nat) : Fin 72 := if h : n < 72 then ⟨n, h⟩ else 71

/-- A register of a slot: 0–7 a sub-register, 8 the total. -/
def Slot.reg (x : Slot) (i : Nat) : BitVec 128 := if h : i < 8 then x.subs[i] else x.tot

/-- Write a register of a slot. -/
def Slot.setReg (x : Slot) (i : Nat) (v : BitVec 128) : Slot :=
  if h : i < 8 then { x with subs := x.subs.set i v } else { x with tot := v }

/-- The value of a register, signed or unsigned by the mode (R265, R279). -/
def regValue (mode : Nat) (v : BitVec 128) : Int := if mode = 0 then v.toInt else v.toNat

/-- A value held in a register wraps: 0 upward, 1 downward (R279). -/
def wrapsTo (mode : Nat) (x : Int) : Option Nat :=
  if mode = 0 then (if 2 ^ 127 ≤ x then some 0 else if x < -(2 ^ 127) then some 1 else none)
  else if 2 ^ 128 ≤ x then some 0 else if x < 0 then some 1 else none

/-- Add a value to a register, modulo 2^64 integer parts; a wrap sets WRAP and WRAPF and is recorded (R279). -/
def State.slotAdd (s : State) (n : Fin 72) (i : Nat) (v : Int) : State :=
  let x := s.slots[n]
  let sum := regValue (s.slotMode n) (x.reg i) + v
  let s := s.setSlot n (x.setReg i (BitVec.ofInt 128 sum))
  match wrapsTo (s.slotMode n) sum with
  | none => s
  | some dir => (((s.flag (NRG.SFLAGS.WRAP n) true).flag NRG.STATUS.WRAPF true).stageWrap n i dir).arrive 0x20

/-! ## Booking (R269–R274) -/

/-- The mode applied to a booking (R270). -/
def applyMode (mode : Nat) (v : Int) : Int :=
  if mode = 0 then v else if mode = 1 then v.natAbs else if mode = 2 then max v 0 else max (-v) 0

/-- Grains since the slot's last booking, or since its binding took effect, 1 to 1024 (R270). -/
def State.bookGrains (s : State) (n : Fin 72) : Nat :=
  min 1024 (max 1 (s.clock.grain - (s.slots[n].last.getD s.slots[n].bindAt)))

/-- The clamp of R270, R272, in 2^-64 µ-units. -/
def State.bookLimit (s : State) (n : Fin 72) : Int := 4096 * s.bookGrains n * 2 ^ 64

/-- The tariff sub-register a booking goes to (R274). -/
def State.bookSub (s : State) (n : Nat) : Nat :=
  if n < 64 ∧ s.eff (NRG.BIND.TEN n) ≠ 0 then s.get NRG.TARIFF.T else 0

/-- Set the slot's flags for the block in progress (R273). -/
def State.slotFlags (s : State) (n : Nat) (mrk inv unver : Bool) : State :=
  let s := if mrk then s.flag (NRG.SFLAGS.MRK n) true else s
  let s := if inv then s.flag (NRG.SFLAGS.INV n) true else s
  if unver then s.flag (NRG.SFLAGS.UNVER n) true else s

/-- A scaled value, in 2^-64 µ-units, is booked: mode, clamp, total, sub-register, pulses (R270–R274, R286). -/
def State.post (s : State) (n : Fin 72) (v : Int) : State :=
  let v := applyMode (s.slotMode n) v
  let lim := s.bookLimit n
  let above := decide (lim < v.natAbs)
  let v := if above then (if v < 0 then -lim else lim) else v
  let s := if above then ((s.flag (NRG.SFLAGS.CLAMP n) true).flag NRG.STATUS.CLAMPF true).arrive 0x21 else s
  let t := s.bookSub n
  let s := (s.slotAdd n 8 v).slotAdd n t v
  let s := s.setSlot n { s.slots[n] with last := some s.clock.grain }
  s.pulseBooked n (s.slotMode n == 0) t v

/-- The length of the pitch whose stream is whole, 10.22 (R270); open where no pitch is whole yet. -/
def State.wholeLen (s : State) : Nat × State :=
  match s.streams.whole with
  | some p => (p.plen, s)
  | none => (s.openVal.1 % 2 ^ 32, s.openVal.2)

/-- An increment, scaled (R270): in 2^-64 µ-units, exact, then rounded once. -/
def scaleInc (wt : Bool) (pk k : Nat) (inc : Int) : Int := if wt then rneDiv (inc * pk * k) (2 ^ 31) else inc * k

/-- The run's sum for a slot is booked, or discarded where its owner is another (R269, R270, R273). -/
def State.book (s : State) (n : Fin 64) (owner : Nat) (inc : Int) (mrk inv unver : Bool) : State :=
  if s.slotOwner n ≠ owner then (s.flag NRG.STATUS.ORPHAN true).arrive 0x22
  else
    let ps := if s.slotWt n then s.wholeLen else (0, s)
    (ps.2.slotFlags n mrk inv unver).post (slotIx n) (scaleInc (s.slotWt n) ps.1 (s.slotK n) inc)

/-- A base camp booking (R283, R555): K = 1.0, WT 1. -/
def State.bookBase (s : State) (b : Fin 8) (plen : Nat) (inc : Int) (mrk inv : Bool) : State :=
  (s.slotFlags (64 + b) mrk inv false).post (slotIx (64 + b)) (scaleInc true plen (2 ^ 32) inc)

/-- The increments of one run for one slot are summed and booked once (R269). -/
def sumIncs (l : List Inc) (slot : Nat) : Option (Int × Bool × Bool) :=
  let m := l.filter (fun i => i.slot == slot)
  if m = [] then none
  else some ((m.map Inc.value).foldl (· + ·) 0, m.any Inc.mrk, m.any Inc.inv)

/-- A run's increments are booked, slot by slot (R269); the gap of the start ends here at the latest (R348). -/
def State.bookIncs (s : State) (owner : Nat) (unver : Bool) (l : List Inc) : State :=
  let s := if l = [] then s else s.closeGap (s.gapEnd s.clock.grain)
  (List.finRange 64).foldl (fun (t : State) (n : Fin 64) =>
    match sumIncs l n with
    | none => t
    | some (v, m, i) => t.book n owner v m i unver) s

/-! ## Tariffs (R274–R277) -/

/-- A write of T; a change records its grain and writes an event record (R275): cause 0 cue, 1 program, 2 order. -/
def State.setTariff (s : State) (t cause : Nat) : State :=
  let old := s.get NRG.TARIFF.T
  let new := t % 8
  if old = new then s
  else ((s.set NRG.TARIFF.T new).set2 NRG.TSWLO.GLO NRG.TSWHI.GHI s.clock.grain).stageEvent 0x20 1
    [BitVec.ofNat 8 old, BitVec.ofNat 8 new, BitVec.ofNat 8 cause]

/-! ## Adjustments and conversions (R280, R284) -/

/-- Set every register of a slot to zero. -/
def Slot.clear (x : Slot) : Slot := { x with tot := 0, subs := Vector.replicate 8 0, adj := true }

/-- A register adjustment (R280): sub-register 0–7, or 8 for clear; the amount in 2^-32 µ-units. -/
def State.adjust (s : State) (n : Fin 64) (sub : Nat) (amount : Int) : State :=
  let m := slotIx n
  if 8 ≤ sub then s.setSlot m s.slots[m].clear
  else
    let s := (s.slotAdd m 8 (amount * 2 ^ 32)).slotAdd m sub (amount * 2 ^ 32)
    s.setSlot m { s.slots[m] with adj := true }

/-- The value booked to a target for a raw total in 2^-64 (R284): R × K, the target's mode applied. -/
def convertValue (mode k : Nat) (raw : Int) : Int := applyMode mode (rneDiv (raw * k) (2 ^ 32))

/-- A base camp slot is converted into its target (R284): no clamp and no pulses. -/
def State.convert (s : State) (b : Fin 8) (target : Fin 64) (sub : Nat) : State :=
  let m := slotIx (64 + b)
  let t := slotIx target
  let v := convertValue (s.slotMode target) (s.slotK target) (regValue (baseMode b) s.slots[m].tot)
  let s := (s.slotAdd t 8 v).slotAdd t (if sub < 8 then sub else s.get NRG.TARIFF.T) v
  (s.setSlot t { s.slots[t] with adj := true }).setSlot m s.slots[m].clear

/-! ## The boundary (R268) -/

/-- The written OWNER, WT, TEN and K of a slot take effect. -/
def State.bindTakes (s : State) (n : Fin 64) : State :=
  let m := slotIx n
  if s.slots[m].newBind then
    let s := [NRG.BIND.OWNER n, NRG.BIND.WT n, NRG.BIND.TEN n, NRG.KLO.KFR n, NRG.KHI.KINT n].foldl State.takeEffect s
    s.setSlot m { s.slots[m] with newBind := false, bindAt := s.clock.grain }
  else s

/-- Base camp's slots count from the first boundary at which it runs after the restart (R270). -/
def State.baseBinds (s : State) : State :=
  if s.on NRG.BCSTAT.BCRUN ∧ (slotIx 64 |> fun n => s.slots[n].newBind) then
    { s with slots := s.slots.mapFinIdx (fun i x _ =>
      if 64 ≤ i then { x with newBind := false, bindAt := s.clock.grain } else x) }
  else s

/-- All written bindings take effect at the boundary. -/
def State.bindBoundary (s : State) : State := ((List.finRange 64).foldl State.bindTakes s).baseBinds

/-! ## The registers (R295) -/

/-- The selected slot and sub-register of copy b. -/
def State.nrgSlot (s : State) (b : Nat) : Fin 72 := slotIx (s.get (NRG.SEL.SLOT b))
def State.nrgSub (s : State) (b : Nat) : Nat := s.get (NRG.SEL.SUB b)

/-- The bank of an NRG register for copy b: the selection for window registers, the copy for SEL. -/
def nrgRegBank (s : State) (b idx : Nat) : Nat :=
  if idx = 1 then b
  else if (2 ≤ idx ∧ idx < 5) ∨ (0x0B ≤ idx ∧ idx < 0x11) then s.nrgSlot b else 0

/-- |total| in display units (R282). -/
def displayUnits (mode dexp : Nat) (v : BitVec 128) : Nat := (regValue mode v).natAbs / (10 ^ dexp * 2 ^ 64)

/-- The views of NRG. -/
def nrgView (s : State) (b idx : Nat) : Option Nat :=
  let n := s.nrgSlot b
  let v := s.slots[n].reg (s.nrgSub b)
  if idx = 0x02 ∧ 64 ≤ n.val then some (s.slotQty n * 2 ^ 24 + s.slotMode n * 2 ^ 22 + 2 ^ 21 + 0xF)
  else if idx = 0x04 ∧ 64 ≤ n.val then some 1
  else if idx = 0x05 then some (v.toNat / 2 ^ 64 % 2 ^ 32)
  else if idx = 0x0C then some (s.slots[n].last.getD 0 % 2 ^ 32)
  else if idx = 0x0D then some (s.slots[n].last.getD 0 / 2 ^ 32 % 2 ^ 32)
  else if idx = 0x0F then
    some (displayUnits (s.slotMode n) (s.get (NRG.DCFG.DEXP n)) v % 10 ^ 8 +
      2 ^ 31 * ofB (decide (regValue (s.slotMode n) v < 0)))
  else if idx = 0x10 then some (displayUnits (s.slotMode n) (s.get (NRG.DCFG.DEXP n)) v / 10 ^ 8 % 2 ^ 16)
  else if idx = 0x11 then
    some (256 * s.get NRG.BCSTAT.BCRUN + bitsOf 8 (fun i => s.slots[slotIx (64 + i)].tot != 0))
  else none

/-- A read of TOTLO latches TOTHI and TOTFR (R295). -/
def nrgLatch (s : State) (b idx : Nat) : State :=
  if idx = 0x05 then
    let v := (s.slots[s.nrgSlot b].reg (s.nrgSub b)).toNat
    (s.set (NRG.TOTHI.IHI 0) (v / 2 ^ 96)).set (NRG.TOTFR.FR 0) (v / 2 ^ 32)
  else s

/-- WHERE names a port the part has (R23, R267): the MS1200 lacks port B, D3 and D4. -/
def Part.hasWhere (p : Part) (w : Nat) : Bool :=
  decide (w ≠ 0xF) && (p.big || decide (w < 4 ∨ w = 8 ∨ w = 9 ∨ (0xC ≤ w ∧ w < 0xF)))

/-- A binding write is refused whole (R268). -/
def State.bindBad (s : State) (n : Fin 72) (v : Nat) : Bool :=
  let qty := field v 24 8
  decide (64 ≤ n.val) || decide (qty / 16 = 0 ∨ 8 ≤ qty / 16) || !s.part.hasWhere (qty % 16) ||
  ((s.slotQty n != qty || s.slotMode n != field v 22 2 || s.slotQd n != field v 16 4) &&
    (s.slots[n].tot != 0 || s.slots[n].subs.toList.any (· != 0)))

/-- A write of BIND, KLO or KHI of a slot (R268). -/
def State.bindWrite (s : State) (n : Fin 72) (idx v : Nat) : State :=
  if 64 ≤ n.val ∨ (idx = 2 ∧ s.bindBad n v) then s.flag NRG.STATUS.BINDREF true
  else
    let s := s.writeCells ((cellsOf regsNrg 0x20 idx n).getD []) v
    s.setSlot n { s.slots[n] with newBind := true }

/-- The writes of NRG that do more than store. -/
def nrgWrite (s : State) (b idx v : Nat) : Option State :=
  if 2 ≤ idx ∧ idx < 5 then some (s.bindWrite (s.nrgSlot b) idx v)
  else if idx = 8 then some (s.setTariff v 1)
  else none

/-- NRG_BIND_WRITE (R268): processor p's write of BIND, KLO or KHI of its selected slot. -/
def execNrgBindWrite (p : Proc) (idx : Fin 3) (v : Word) (s : State) : Host.Outcome State Fault Refusal :=
  .next (s.whenOn (s.bindWrite (s.nrgSlot (s.copyOf p)) (2 + idx) v.toNat))

/-- TARIFF_WRITE (R275): a cue or a unit write changes T. -/
def execTariffWrite (t : BitVec 3) (byCue : Bool) (s : State) : Host.Outcome State Fault Refusal :=
  .next (s.whenOn (s.setTariff t.toNat (if byCue then 0 else 1)))

end Sys2Proof.Machine
end

