-- ==== Sys2Proof/Machine/Jrnl.lean ====
section
/-! DEFINITION. Snapshots and belays, the journal ring, coalescing, the durable-order queue (R333–R369). -/

namespace Sys2Proof.Machine

/-! ## Images (R334, R343) -/

/-- The slot flags as a number (R353). -/
def State.flagsOf (s : State) (n : Nat) : Nat :=
  s.get (NRG.SFLAGS.MRK n) + 2 * s.get (NRG.SFLAGS.INV n) + 4 * s.get (NRG.SFLAGS.UNVER n) +
    8 * s.get (NRG.SFLAGS.CLAMP n) + 16 * s.get (NRG.SFLAGS.WRAP n)

/-- A slot as a belay holds it. -/
def State.slotImg (s : State) (n : Fin 72) : SlotImg :=
  ⟨s.slotQty n, s.slotMode n, s.slotQd n, s.flagsOf n, s.slots[n].tot, s.slots[n].subs.toList⟩

/-- The tamper sticky flags and access state (R474). -/
def State.evidence (s : State) : Evidence :=
  ⟨s.get TAMP.STICKY.ALARM, s.get TAMP.STICKY.DETFLT, s.on TAMP.STICKY.FI, s.on ACCESS.LEVEL.LOCKED,
   s.get ACCESS.KGEN.KGEN, s.get ACCESS.FAIL.COUNT, s.get TAMP.RING.DROP, s.get ACCESS.BACKOFF.SEC, s.resp.toList⟩

/-- A total or sub-register in an image: integer part, fraction, residue (R343). -/
def imgReg (v : BitVec 128) : List Byte :=
  leBytes 8 (v.toNat / 2 ^ 64) ++ leBytes 4 (v.toNat / 2 ^ 32) ++ leBytes 4 v.toNat

/-- A slot's 148 bytes (R343). -/
def SlotImg.bytes (x : SlotImg) : List Byte :=
  [BitVec.ofNat 8 x.qty, BitVec.ofNat 8 (x.mode + 4 * x.qd), BitVec.ofNat 8 x.flags, 0] ++ imgReg x.tot ++
    padTo 128 (x.subs.flatMap imgReg)

/-- The evidence block's 64 bytes (R474). -/
def Evidence.bytes (e : Evidence) : List Byte :=
  padTo 64 ([BitVec.ofNat 8 e.alarm, BitVec.ofNat 8 e.detflt, BitVec.ofNat 8 (ofB e.fi + 2 * ofB e.locked), 0] ++
    leBytes 4 e.kgen ++ leBytes 2 e.fails ++ leBytes 2 e.dropped ++ leBytes 4 e.backoff ++
    padTo 8 (e.resp.map (BitVec.ofNat 8)))

/-- The data phase of an image: 0x2A20 bytes (R343). -/
def Belay.data (b : Belay) : List Byte :=
  leBytes 2 1 ++ leBytes 2 b.epoch ++ [BitVec.ofNat 8 b.kind, BitVec.ofNat 8 b.t, 0, 0] ++ leBytes 8 b.snap ++
    leBytes 8 b.rtc ++ leBytes 8 b.nextseq ++ leBytes 4 b.head ++ leBytes 4 b.tail ++ leBytes 8 b.ackseq ++
    leBytes 4 b.lastord ++ leBytes 4 b.retgen ++ zeros 8 ++ b.ev.bytes ++
    padTo 10656 (b.slots.flatMap SlotImg.bytes)

/-- The commit word (R340). -/
def commitWord (gen : Nat) (data : List Byte) : List Byte :=
  let w := leBytes 8 gen ++ leBytes 4 (crc32c data)
  w ++ leBytes 4 (crc32c w)

/-- A half or slot of 12 KiB that holds an image: data, the reserved rest, the commit word. -/
def Belay.bytes (b : Belay) : List Byte := padTo 0x2FF0 b.data ++ commitWord b.gen b.data

/-- A register read from an image. -/
def imgRegAt (i : List Byte) (o : Nat) : BitVec 128 :=
  BitVec.ofNat 128 (unAt i o 8 * 2 ^ 64 + u32At i (o + 8) * 2 ^ 32 + u32At i (o + 12))

/-- A slot read from an image. -/
def readSlot (i : List Byte) : SlotImg :=
  ⟨byteAt i 0, byteAt i 1 % 4, byteAt i 1 / 4 % 16, byteAt i 2, imgRegAt i 4,
   (List.range 8).map (fun k => imgRegAt i (20 + 16 * k))⟩

/-- The image a half holds, where its commit word checks (R341). -/
def readBelay (i : List Byte) : Option Belay :=
  let data := i.take 0x2A20
  let gen := unAt i 0x2FF0 8
  if i.length = 0x3000 ∧ i.drop 0x2FF0 = commitWord gen data ∧ gen ≠ 0 then
    let e := (i.drop 0x40).take 64
    some {
      gen := gen, epoch := u16At i 2, kind := byteAt i 4, t := byteAt i 5, snap := unAt i 8 8, rtc := unAt i 16 8
      nextseq := unAt i 24 6, head := u32At i 32, tail := u32At i 36, ackseq := unAt i 40 6, lastord := u32At i 48
      retgen := u32At i 52
      ev := ⟨byteAt e 0, byteAt e 1, bitOf (byteAt e 2) 0, bitOf (byteAt e 2) 1, u32At e 4, u16At e 8, u16At e 10,
        u32At e 12, (List.range 8).map (fun k => byteAt e (16 + k))⟩
      slots := (List.range 72).map (fun k => readSlot ((i.drop (0x80 + 148 * k)).take 148)) }
  else none

/-- The always-on halves (R336): h = 0 at 0x2000_3000, h = 1 at 0x2000_6000. -/
def halfAddr (h : Nat) : Nat := 0x20003000 + 0x3000 * h

/-- What an always-on half holds, where it checks. -/
def State.half (s : State) (h : Nat) : Option Belay := readBelay (s.bytes (halfAddr h) 0x3000)

/-- The generation of what may be absent. -/
def genOf (b : Option Belay) : Nat := match b with | none => 0 | some x => x.gen

/-- The newer of two copies (R341). -/
def newer (a b : Option Belay) : Option Belay := if genOf a < genOf b then b else a

/-! ## Increments (R353, R354) -/

/-- The 64.32 part of a register. -/
def q96 (v : BitVec 128) : Int := (v.toNat / 2 ^ 32 : Nat)

/-- A difference modulo 2^96 read as signed (R354). -/
def inc96 (now before : BitVec 128) : Int := sextN 96 (wrapN 96 (q96 now - q96 before))

/-- The entries of one slot (R353): the increments that are not zero, or sub-register 0 where only flags are set. -/
def slotEntries (n : Nat) (flags : Nat) (now before : List (BitVec 128)) : List IncEntry :=
  let l := ((List.range 8).map (fun i => (⟨n, i, flags, inc96 (now.getD i 0) (before.getD i 0)⟩ : IncEntry))).filter
    (fun e => decide (e.inc ≠ 0))
  if l = [] ∧ flags ≠ 0 then [⟨n, 0, flags, 0⟩] else l

/-- The entries of a belay record, in rising order. -/
def State.incEntries (s : State) : List IncEntry :=
  (List.finRange 72).flatMap (fun (n : Fin 72) =>
    slotEntries n (s.flagsOf n + 32 * ofB s.slots[n].adj) s.slots[n].subs.toList
      ((s.jrnl.prev[n.val]?).map SlotImg.subs |>.getD (List.replicate 8 0)))

/-- An entry's 16 bytes (R353). -/
def IncEntry.bytes (e : IncEntry) : List Byte :=
  [BitVec.ofNat 8 e.slot, BitVec.ofNat 8 e.sub, BitVec.ofNat 8 e.flags, 0] ++ leQ e.inc

/-- Cut a list into parts of at most n; at least one part. -/
def partsOf {α : Type} (n : Nat) : Nat → List α → List (List α)
  | 0, l => [l]
  | k + 1, l => if l.length ≤ n then [l] else l.take n :: partsOf n k (l.drop n)

/-- The belay records of a belay (R353): one part for each 253 entries. -/
def State.stageBelay (s : State) (b : Belay) : State :=
  let parts := partsOf 253 3 s.incEntries
  (List.range parts.length).foldl (fun t i =>
    let es := parts.getD i []
    t.stageAt 1 b.snap false (leBytes 8 b.gen ++ leBytes 8 s.jrnl.prevSnap ++
      [BitVec.ofNat 8 b.kind, BitVec.ofNat 8 b.t, BitVec.ofNat 8 (i + 1), BitVec.ofNat 8 parts.length] ++
      leBytes 2 es.length ++ zeros 2 ++ es.flatMap IncEntry.bytes)) s

/-! ## Belays (R334–R338) -/

/-- The code of a kind (R335). -/
def BelayKind.code : BelayKind → Nat
  | .pitch => 0 | .block => 1 | .final => 2 | .closing => 3 | .prereset => 4 | .evidence => 5

/-- The kind a belay carries when several fall due (R335). -/
def belayKindOf (due : List BelayKind) : Option BelayKind :=
  [BelayKind.prereset, .final, .closing, .evidence, .block, .pitch].find? (fun k => due.contains k)

/-- A belay of a kind falls due at the next boundary. -/
def State.belayDue (s : State) (k : BelayKind) : State :=
  if s.jrnl.due.contains k then s else { s with jrnl := { s.jrnl with due := s.jrnl.due ++ [k] } }

/-- The snapshot of a belay (R334). Its journal numbers are completed when its records have been appended. -/
def State.snapshot (s : State) (k : BelayKind) : Belay where
  gen := s.jrnl.gen + 1
  epoch := s.jrnl.epoch
  kind := k.code
  t := s.get NRG.TARIFF.T
  snap := s.clock.grain
  rtc := s.clock.rtc
  nextseq := s.jrnl.nextseq
  head := s.jrnl.head
  tail := s.jrnl.tail
  ackseq := s.jrnl.ackseq
  lastord := s.jrnl.lastord
  retgen := s.jrnl.retgen
  ev := s.evidence
  slots := (List.finRange 72).map s.slotImg

/-- The slot flags are cleared once the block belay record carries them (R273), the faulted mark with them (log entry 17). -/
def State.clearSlotFlags (s : State) : State :=
  let s : State := { s with slots := s.slots.map (fun x => { x with faulted := false }) }
  s.forN 72 (fun n t =>
    [NRG.SFLAGS.MRK n, NRG.SFLAGS.INV n, NRG.SFLAGS.UNVER n, NRG.SFLAGS.CLAMP n, NRG.SFLAGS.WRAP n].foldl (fun u f => u.set f 0) t)

/-- The one belay of a boundary at which some fall due (R335): pitch belays go to always-on SRAM alone, the others also
to the cairn, in place of one not yet committed (R338). -/
def State.makeBelay (s : State) : State :=
  match belayKindOf s.jrnl.due with
  | none => s
  | some k =>
    let s := if k = .pitch then s else s.closeGap (s.gapEnd s.clock.grain)
    let b := s.snapshot k
    let s := s.pulseSnap
    let j := { s.jrnl with gen := b.gen, aonPend := some b, due := [] }
    if k = .pitch then { s with jrnl := j }
    else
      let t := { s with jrnl := { j with covered := false } }.stageBelay b
      let t := { t with
        jrnl := { t.jrnl with prev := b.slots, prevSnap := b.snap, cairnPend := some b }
        slots := t.slots.map (fun x => { x with adj := false }) }
      if s.jrnl.due.contains .block then t.clearSlotFlags else t

/-- A pitch belay falls due after 768 grains with no pitch completed (R335). -/
def State.pitchBelayTimer (s : State) : State :=
  if s.jrnl.lastPitchSnap + 768 ≤ s.clock.grain then
    let t := s.belayDue .pitch
    { t with jrnl := { t.jrnl with lastPitchSnap := s.clock.grain } }
  else s

/-! ## The ring (R350, R360) -/

/-- The bytes of the ring: 40 segments of 4 KiB (R342). -/
def ringSize : Nat := 163840

/-- The order of types within one staging phase (R350). -/
def typeOrder : List Nat := [5, 1, 3, 6, 7, 8, 2]

/-- The staged records in the order in which they are numbered. -/
def stagingOrder (l : List JRec) : List JRec := typeOrder.flatMap (fun t => l.filter (fun r => r.type == t))

/-- Where a record of a length begins: at HEAD, or at the next segment where the rest is too small (R360). -/
def placeAt (head len : Nat) : Nat :=
  if head % 4096 + len ≤ 4096 then head % ringSize else (head / 4096 + 1) * 4096 % ringSize

/-- The records of a segment. -/
def inSegment (k : Nat) (r : RingRec) : Bool := r.off / 4096 == k

/-- TAIL: the offset of the oldest record retained, HEAD where there is none. -/
def tailOf (ring : List RingRec) (head : Nat) : Nat := match ring with | [] => head | r :: _ => r.off

/-- The numbers of a pending belay follow the append of its records (R338). -/
def State.renumber (s : State) (b : Belay) : Belay :=
  { b with nextseq := s.jrnl.nextseq, head := s.jrnl.head, tail := s.jrnl.tail, ackseq := s.jrnl.ackseq }

/-- The record of the waiting belay and every record staged before it are appended: the belay covers them (R338). -/
def State.cover (s : State) : State :=
  if s.jrnl.covered then s
  else { s with jrnl := { s.jrnl with
    covered := true, aonPend := s.jrnl.aonPend.map s.renumber, cairnPend := s.jrnl.cairnPend.map s.renumber } }

/-- The number of segments without a record above ACKSEQ (R369 FREE). -/
def State.freeSegs (s : State) : Nat :=
  ((List.range 40).filter (fun k =>
    !(s.cairn.ring.any (fun r => inSegment k r && decide (s.jrnl.ackseq < r.seq))))).length

/-- The queue entries in use: those above the LASTORD that a cairn belay has committed (R366). -/
def State.ordersInUse (s : State) : List QEntry :=
  let done := match newer s.cairn.stA s.cairn.stB with | none => 0 | some b => b.lastord
  s.cairn.orders.filter (fun e => decide (done < e.ordno))

/-- LOWFREE, ORDFULL and COAL follow (R366, R369). -/
def State.jrnlStatus (s : State) : State :=
  let s := if s.freeSegs < s.get JRNL.LOWWAT.LW then s.raise JRNL.STATUS.LOWFREE 0x2B else s.flag JRNL.STATUS.LOWFREE false
  (s.flag JRNL.STATUS.ORDFULL (decide (128 ≤ s.ordersInUse.length))).flag JRNL.STATUS.COAL (!s.jrnl.carry.empty)

/-- The journal-head area of always-on SRAM follows the journal's numbers (R36; log entry 15). -/
def State.mirrorHeads (s : State) : State :=
  let j := s.jrnl
  s.putArea 0x2800 0x800 [j.nextseq, j.cseq, j.ackseq, j.head, j.tail]

/-- Append one record, or wait for a fold where HEAD enters a segment with unacknowledged records (R360, R363): the new
state, and whether it was appended. -/
def State.appendOne (s : State) (r : JRec) : Bool × State :=
  let at' := placeAt s.jrnl.head r.len
  let k := at' / 4096
  let enters := decide (at' % 4096 = 0)
  if enters && s.cairn.ring.any (fun x => inSegment k x && decide (s.jrnl.ackseq < x.seq)) then
    (false, { s with jrnl := { s.jrnl with fold := true } })
  else
    let ring := if enters then s.cairn.ring.filter (fun x => !inSegment k x) else s.cairn.ring
    let ring := ring ++ [⟨at', s.jrnl.nextseq, r⟩]
    let head := (at' + r.len) % ringSize
    let s := { s with
      cairn := { s.cairn with ring := ring }
      jrnl := { s.jrnl with nextseq := s.jrnl.nextseq + 1, head := head, tail := tailOf ring head } }
    (true, if r.type = 5 then s.bump JRNL.GAPCNT.COUNT JRNL.GAPCNT.SAT else s)

/-- Append records in order until one must wait. -/
def State.appendAll (s : State) : List JRec → State
  | [] => { s with jrnl := { s.jrnl with staged := [] } }.cover
  | r :: rs =>
    match s.appendOne r with
    | (true, t) => t.appendAll rs
    | (false, t) => { t with jrnl := { t.jrnl with staged := r :: rs } }

/-- The journal-staging phase (R69, R350): nothing is appended while a fold is under way (R363). -/
def State.appendStaged (s : State) : State :=
  if s.jrnl.fold then s else (s.appendAll (stagingOrder s.jrnl.staged)).jrnlStatus.mirrorHeads

/-! ## Commits (R336–R340) -/

/-- Write one of the two slots of an area: the one that does not hold the committed copy (R340). -/
def commitState (c : Cairn) (b : Belay) : Cairn :=
  if genOf c.stA ≤ genOf c.stB then { c with stA := some b, tornSt := false } else { c with stB := some b, tornSt := false }

/-- The half that the next belay goes to: that of the older generation. -/
def State.nextHalf (s : State) : Nat := if genOf (s.half 0) ≤ genOf (s.half 1) then 0 else 1

/-- The belay being written to always-on SRAM is committed there. -/
def State.aonCommit (s : State) : State :=
  match s.jrnl.aonPend with
  | none => s
  | some b => { (s.setBytes (halfAddr s.nextHalf) b.bytes).pulseCommit with jrnl := { s.jrnl with aonPend := none } }

/-- AON_BELAY_COMMIT (R336, R337, R290): the image goes to the half of the older generation, the pulse outputs with it. -/
def execAonBelayCommit (s : State) : Host.Outcome State Fault Refusal := .next (if s.power = .on then s.aonCommit else s)

/-- The cairn write port is held by another than the supervisor (R258, R338). -/
def State.portHeld (s : State) : Bool := s.get (LEASE.HOLD.STATE 0) != 0 && s.get (LEASE.HOLD.HOLDER 0) != 0x10

/-- The drift terms are due to be saved (R387). -/
def State.driftDue (s : State) : Bool := decide (s.get TRIM.DSAVE.BLK ≤ s.driftBlocks)

/-- The supervisor needs the cairn write port (R258): a cairn belay, a retirement or a drift save waits for it. -/
def State.portWanted (s : State) : Bool := s.jrnl.cairnPend.isSome || s.retiring != [] || s.driftDue

/-- The supervisor has no more need of the cairn write port and the journal writer: what it holds becomes free. -/
def State.supervisorDone (s : State) : State :=
  if s.portWanted then s
  else [0, 1].foldl (fun (t : State) x =>
    if t.get (LEASE.HOLD.STATE x) = 1 ∧ t.get (LEASE.HOLD.HOLDER x) = 0x10 then
      (t.set (LEASE.HOLD.STATE x) 0).set (LEASE.HOLD.HOLDER x) 0xFF else t) s

/-- The commit word of a cairn belay (R338): it commits the records appended before it, LASTORD frees queue entries, and
CSEQ advances. -/
def State.cairnCommit (s : State) (b : Belay) : State :=
  let old := s.jrnl.cseq
  let s := { s with
    cairn := commitState s.cairn b
    jrnl := { s.jrnl with cairnPend := none, committed := some b, cseq := b.nextseq } }
  (if old < b.nextseq then s.arrive 0x2D else s).jrnlStatus.mirrorHeads

/-- The state record of the waiting belay is being written: the port is free, the belay's record and those staged before
it are appended (R338). -/
def State.cairnWriting (s : State) : Bool := s.jrnl.cairnPend.isSome && !s.portHeld && s.jrnl.covered

/-- The waiting belay is committed in the cairn, where it can be. -/
def State.cairnTry (s : State) : State :=
  match s.jrnl.cairnPend with
  | none => s
  | some b => if s.cairnWriting then (s.cairnCommit b).supervisorDone else s

/-- CAIRN_BELAY_COMMIT (R338): with the port free and the belay's record appended. -/
def execCairnBelayCommit (s : State) : Host.Outcome State Fault Refusal := .next (if s.power = .on then s.cairnTry else s)

/-! ## Coalescing (R359, R363, R364) -/

/-- The entries of a belay record's body (R353). -/
def bodyEntries (body : List Byte) : List IncEntry :=
  (List.range (u16At body 20)).map (fun e =>
    ⟨byteAt body (24 + 16 * e), byteAt body (25 + 16 * e), byteAt body (26 + 16 * e),
     sextN 96 (unAt body (28 + 16 * e) 8 * 2 ^ 32 + u32At body (36 + 16 * e))⟩)

/-- Sum an entry into the carry's entries, flags ORed, in rising order of slot and sub-register (R363). -/
def addEntry (e : IncEntry) : List IncEntry → List IncEntry
  | [] => [e]
  | x :: l =>
    if x.slot = e.slot ∧ x.sub = e.sub then
      { x with flags := x.flags ||| e.flags, inc := sextN 96 (wrapN 96 (x.inc + e.inc)) } :: l
    else if e.slot < x.slot ∨ (e.slot = x.slot ∧ e.sub < x.sub) then e :: x :: l
    else x :: addEntry e l

/-- The place of a type in the carry's counts: belay, event, order, wrap, retire, tamper, gap. -/
def countIx (type : Nat) : Nat := [1, 2, 3, 6, 7, 8, 5].idxOf type

/-- Fold one record into the carry (R363). -/
def foldRec (c : Carry) (r : RingRec) : Carry :=
  let w := r.what
  let first := c.empty
  let noBelay := c.counts.getD 0 0 == 0
  { c with
    empty := false
    first := if first then r.seq else c.first
    last := r.seq
    fromG := if w.type = 1 && (first || noBelay) then unAt w.body 8 8 else if first then 0 else c.fromG
    grain := w.grain
    epoch := w.epoch
    flags := w.flags
    entries := if w.type = 1 then (bodyEntries w.body).foldl (fun l e => addEntry e l) (if first then [] else c.entries)
      else if first then [] else c.entries
    counts := (if first then List.replicate 7 0 else c.counts).modify (countIx w.type) (· + 1) }

/-- The segment HEAD must enter next. -/
def State.nextSegment (s : State) : Nat :=
  match stagingOrder s.jrnl.staged with
  | [] => (s.jrnl.head + 4095) / 4096 % 40
  | r :: _ => placeAt s.jrnl.head r.len / 4096

/-- SEGMENT_FOLD (R363): every record of the segment HEAD must enter goes into the carry to be written. -/
def execSegmentFold (s : State) : Host.Outcome State Fault Refusal :=
  .next (if s.power = .on ∧ s.jrnl.fold ∧ s.jrnl.carryPend = none then
    let k := s.nextSegment
    let keep := s.cairn.ring.filter (fun r => !inSegment k r)
    let c := (s.cairn.ring.filter (inSegment k)).foldl foldRec s.jrnl.carry
    { s with jrnl := { s.jrnl with carryPend := some { c with gen := c.gen + 1, tail := tailOf keep s.jrnl.head } } }
  else s)

/-- The generation of a carry copy. -/
def carryGen (c : Option Carry) : Nat := match c with | none => 0 | some x => x.gen

/-- FOLD_COMMIT (R363): the carry's two-phase write commits, and the segment is free. -/
def execFoldCommit (s : State) : Host.Outcome State Fault Refusal :=
  .next (match s.jrnl.carryPend with
    | none => s
    | some c =>
      if s.power = .on then
        let k := s.nextSegment
        let keep := s.cairn.ring.filter (fun r => !inSegment k r)
        let cairn := if carryGen s.cairn.cyA ≤ carryGen s.cairn.cyB then { s.cairn with cyA := some c, tornCy := false }
          else { s.cairn with cyB := some c, tornCy := false }
        let s := { s with
          cairn := { cairn with ring := keep }
          jrnl := { s.jrnl with
            carry := { c with empty := c.empty || decide (c.last ≤ s.jrnl.ackseq) }
            carryPend := none
            fold := false
            tail := c.tail } }
        ((s.bump JRNL.COALCNT.COUNT JRNL.COALCNT.SAT).arrive 0x2C).jrnlStatus.mirrorHeads
      else s)

/-- The parts of the coalesced record that delivers the carry (R359, R364). -/
def Carry.records (c : Carry) : List (List Byte) :=
  let parts := partsOf 251 3 c.entries
  (List.range parts.length).map (fun i =>
    let es : List IncEntry := parts.getD i []
    let n := fun (k : Nat) => (c.counts.getD k 0 : Nat)
    (⟨4, c.flags, c.epoch, c.grain, leBytes 6 c.first ++ [BitVec.ofNat 8 (i + 1), BitVec.ofNat 8 parts.length] ++
      leBytes 8 c.fromG ++ leBytes 2 es.length ++ zeros 2 ++ leBytes 4 (n 0) ++ leBytes 4 (n 1) ++ leBytes 2 (n 2) ++
      leBytes 2 (n 3) ++ leBytes 2 (n 4) ++ leBytes 2 (n 5) ++ leBytes 4 (n 6) ++ zeros 4 ++
      es.flatMap IncEntry.bytes, false⟩ : JRec).bytes c.last)

/-! ## Acknowledgement (R362, R364) -/

/-- An ACK names a sequence number (R362). -/
def State.ack (s : State) (n : Nat) : State :=
  let high := decide (s.jrnl.cseq ≤ n)
  let n := if high then s.jrnl.cseq - 1 else n
  let s := if high then s.flag JRNL.STATUS.ACKHI true else s
  if n ≤ s.jrnl.ackseq then s
  else
    let c := if s.jrnl.carry.last ≤ n then { s.jrnl.carry with empty := true } else s.jrnl.carry
    let t : State := { s with jrnl := { s.jrnl with ackseq := n, carry := c } }
    t.jrnlStatus.mirrorHeads

/-! ## Durable orders (R366) -/

/-- Orders accepted and not yet applied, in ORDNO order. -/
def State.pendingOrders (s : State) : List QEntry := s.cairn.orders.filter (fun e => decide (s.jrnl.lastord < e.ordno))

/-- A queue entry's 128 bytes (R367). -/
def QEntry.bytes (e : QEntry) : List Byte :=
  let a := leBytes 4 e.ordno ++ leBytes 4 e.pseq ++ leBytes 2 e.ocode ++ leBytes 2 e.body.length ++ zeros 4 ++
    padTo 96 e.body
  let b := leBytes 4 e.ordno ++ leBytes 4 (crc32c a)
  a ++ b ++ leBytes 4 (crc32c b) ++ zeros 4

/-- The mirror of the queue in always-on SRAM (R36) takes an entry: at place (n − 1) mod 64, which the size of the area
suggests (DEDUCED, log entry 15). -/
def State.mirrorOrder (s : State) (e : QEntry) : State := s.setBytes (0x20009000 + 128 * ((e.ordno - 1) % 64)) e.bytes

/-- A durable order that passed its checks takes the next number and a queue entry (R366): none where all 128 are in
use. Entry n stands at place (n − 1) mod 128 (R342). -/
def State.queueOrder (s : State) (pseq ocode level kgen : Nat) (body : List Byte) : Option (Nat × State) :=
  if 128 ≤ s.ordersInUse.length then none
  else
    let e : QEntry := ⟨s.jrnl.nextord, pseq, ocode, level, kgen, body⟩
    let t : State := { s with
      cairn := { s.cairn with
        orders := s.cairn.orders.filter (fun x => (x.ordno - 1) % 128 != (e.ordno - 1) % 128) ++ [e], tornOrd := false }
      jrnl := { s.jrnl with nextord := s.jrnl.nextord + 1 } }
    some (e.ordno, (t.mirrorOrder e).jrnlStatus)

/-! ## Staged appends (R365) -/

/-- STAGE_DATA_WRITE (R369): the next staged data word. -/
def State.stageData (s : State) (v : Word) : State :=
  if s.jrnl.stg.length < 16 then { s with jrnl := { s.jrnl with stg := s.jrnl.stg ++ [v] } } else s

/-- STAGED_APPEND_GO (R365): an event record of unit 0x28, refused where the 4 KiB staging buffer cannot take it. -/
def State.stageGo (s : State) : State :=
  let used := (s.jrnl.staged.map JRec.len).foldl (· + ·) 0
  let data := s.jrnl.stg.flatMap (fun w => leBytes 4 w.toNat)
  let s := { s with jrnl := { s.jrnl with stg := [] } }
  if 4096 < used + 92 then s.flag JRNL.STATUS.STGREF true
  else
    let t := s.stageEvent 0x28 (s.get JRNL.STGCTL.KIND) data
    { t with jrnl := { t.jrnl with staged := t.jrnl.staged.mapIdx (fun i r =>
      if i = s.jrnl.staged.length then { r with byProg := true } else r) } }

/-! ## The registers (R369) -/

/-- The views of JRNL. -/
def jrnlView (s : State) (idx : Nat) : Option Nat :=
  let j := s.jrnl
  if idx = 0x01 then some (j.nextseq % 2 ^ 32)
  else if idx = 0x03 then some (j.cseq % 2 ^ 32)
  else if idx = 0x05 then some (j.ackseq % 2 ^ 32)
  else if idx = 0x07 then some (j.head % ringSize / 4096 + 256 * s.freeSegs)
  else if idx = 0x0B then some j.epoch
  else if idx = 0x0C then some (genOf j.committed % 2 ^ 32)
  else if idx = 0x0E then some ((match j.committed with | none => 0 | some b => b.snap) % 2 ^ 32)
  else if idx = 0x10 then some j.lastord
  else if idx = 0x11 then some s.pendingOrders.length
  else none

/-- The latched high words (R369). -/
def jrnlLatch (s : State) (idx : Nat) : State :=
  let j := s.jrnl
  if idx = 0x01 then s.set JRNL.NEXTSEQHI.SHI (j.nextseq / 2 ^ 32)
  else if idx = 0x03 then s.set JRNL.CSEQHI.SHI (j.cseq / 2 ^ 32)
  else if idx = 0x05 then s.set JRNL.ACKSEQHI.SHI (j.ackseq / 2 ^ 32)
  else if idx = 0x0C then s.set JRNL.GENHI.GHI (genOf j.committed / 2 ^ 32)
  else if idx = 0x0E then s.set JRNL.SNAPHI.GHI ((match j.committed with | none => 0 | some b => b.snap) / 2 ^ 32)
  else s

/-- The writes of JRNL that do more than store. -/
def jrnlWrite (s : State) (idx v : Nat) : Option State :=
  if idx = 0x08 then some (s.set JRNL.LOWWAT.LW v).jrnlStatus
  else if idx = 0x19 then some (s.stageData (BitVec.ofNat 32 v))
  else if idx = 0x1A then some (if bitOf v 0 then s.stageGo else s)
  else none

end Sys2Proof.Machine
end

