-- ==== Sys2Proof/Machine/Filt.lean ====
section
/-! DEFINITION. The filter chain's settings, resampler, banks and swaps (05_filter_chain.md). The stages themselves are in
Dsp.lean, and what the converters' bits become in Front.lean. -/

namespace Sys2Proof.Machine

/-! ## Channels -/

/-- The quad slot 4 q + k of an analogue channel (R110). -/
def chanSlot (k : Nat) : Option Nat :=
  if k < 4 then some k else if k < 7 then some k else if k = 14 then some 7
  else if k < 11 then some (k + 1) else if k < 14 then some (k + 1) else if k = 15 then some 15 else none

/-- The channel of a quad slot (R110). -/
def slotChan (i : Nat) : Nat := [0, 1, 2, 3, 4, 5, 6, 14, 7, 8, 9, 10, 11, 12, 13, 15].getD i 0

/-- A voltage channel, whose GAIN and INTEN are read-only zero (R111, R159). -/
def isVoltage (k : Nat) : Bool := k ∈ [0, 1, 2, 7, 8, 9, 16, 18, 20, 22]

/-- A channel is in Stride (R129). -/
def State.strided (s : State) (k : Nat) : Bool :=
  match chanSlot k with
  | none => false
  | some i => s.on (QUAD.STATUS.STRIDEON (i / 4)) && (s.quads.toList.getD (i / 4) Quad.zero).strideK == i % 4

/-- The active bank of a channel: false A, true B (R165). -/
def State.bankB (s : State) (k : Nat) : Bool := s.bit FILT.ACTIVE.B k

/-- INTEN, LEAK and K of the active bank (R159). -/
def State.inten (s : State) (k : Nat) : Bool := if s.bankB k then s.on (FILT.CHB.INTEN k) else s.on (FILT.CHA.INTEN k)
def State.leak (s : State) (k : Nat) : Nat := if s.bankB k then s.get (FILT.CHB.LEAK k) else s.get (FILT.CHA.LEAK k)
def State.igain (s : State) (k : Nat) : Nat := if s.bankB k then s.get (FILT.IGB.K k) else s.get (FILT.IGA.K k)

/-- The phase correction of the active bank, in 2^-28 grain (R163). -/
def State.phaseCorr (s : State) (k : Nat) : Int :=
  sextN 32 (if s.bankB k then s.get (RSMP.PHB.PH k) else s.get (RSMP.PHA.PH k))

/-- Channel k runs on one core of its own in a phase of SELFCAL (R377), so that it is marked verifying. -/
def State.verifying (s : State) (k : Nat) : Bool :=
  match s.selfCal, chanSlot k with
  | some c, some i =>
    (s.get TRIM.SCSTAT.PHASE == 1 || s.get TRIM.SCSTAT.PHASE == 2) && !bitOf c.abandoned (i / 4) &&
      !(s.get (QUAD.STATUS.SPUSE (i / 4)) == 3 && s.get (QUAD.STATUS.SPAT (i / 4)) == i % 4) && !s.strided k
  | _, _ => false

/-- Mark a channel settling for the samples of n grains from a grain on. -/
def State.settleFor (s : State) (k g n : Nat) : State :=
  { s with streams := { s.streams with settle := s.streams.settle.modify k (max (g + n)) } }

/-! ## Settings that take effect at a boundary (R111, R150, R155, R380) -/

/-- A setting of channel k takes effect and settles. -/
def State.settleTake (s : State) (k : Nat) (f : Fld) (n : Nat) : State :=
  if s.get f = s.eff f then s else (s.takeEffect f).settleFor k s.clock.grain n

/-- ORDER, OPT, GAIN, FORCE and the calibration of every channel at a boundary. -/
def State.frontSettings (s : State) : State :=
  s.forN 24 (fun k t =>
    let t := (t.settleTake k (FILT.CFG.ORDER k) 64).settleTake k (FILT.CFG.OPT k) 45
    let t := (t.settleTake k (TRIM.CALG.G k) 1).settleTake k (TRIM.CALO.O k) 1
    match chanSlot k with
    | none => t
    | some i => (t.settleTake k (QUAD.CFG.GAIN (i / 4) (i % 4)) 64).takeEffect (QUAD.CFG.FORCE (i / 4) (i % 4)))

/-! ## Bank swaps (R166–R168) -/

/-- The programs installed in lanes. -/
def State.laneImages (s : State) : List (List Byte) :=
  s.lanes.toList.flatMap (fun l => l.imgG.toList ++ l.imgP.toList)

/-- A declared pair is split by a mask (R167). -/
def State.splitsPair (s : State) (mask : Nat) : Bool :=
  s.laneImages.any (fun i => (imgPairs i).any (fun p => bitOf mask p.1 != bitOf mask p.2))

/-- A write of FILT.SWAP (R166, R167): the state, and whether it was refused. -/
def State.swapOrder (s : State) (v : Nat) : Bool × State :=
  let mask := bitsOf 24 (fun k => bitOf v k && s.part.hasChan k)
  if s.splitsPair mask then (true, s.raise FILT.STATUS.SWAPREF 0x1F)
  else (false, { s with streams := { s.streams with swap := some (mask, field v 25 1) } })

/-- The swap of one channel at a fill: bank, marks, and a started integrator at zero (R160, R168). -/
def State.swapChan (s : State) (bank k : Nat) : State :=
  if s.bankB k = (bank == 1) then s
  else
    let was := s.inten k
    let g := s.clock.grain
    let s := s.setBit FILT.ACTIVE.B k (bank == 1)
    let s := { s with streams := { s.streams with swapEnd := s.streams.swapEnd.set k (g + 20) } }
    if s.inten k && !was then
      { s with streams := { s.streams with integ := s.streams.integ.set k (0, 0) } }.settleFor k g (2 ^ (s.leak k + 2))
    else s

/-- A pending swap is applied at the stream fill (R166). -/
def State.swapApply (s : State) : State :=
  match s.streams.swap with
  | none => s
  | some (mask, bank) =>
    let s := { s with streams := { s.streams with swap := none } }
    let s := s.forN 24 (fun k t => if bitOf mask k then t.swapChan bank k else t)
    s.set2 FILT.SWAPGLO.GLO FILT.SWAPGHI.GHI s.clock.grain

/-! ## The grain stream (R69, R159, R380) -/

/-- The marks of a channel's sample in the running grain (R179): held while the tracker is in HOLD (log entry 52). -/
def State.sampleMarks (s : State) (k : Nat) : Nat :=
  let g := s.clock.grain
  let slot := chanSlot k
  let sus := match slot with | none => false | some i => s.on (QUAD.CHST.SUSPECT (i / 4) (i % 4))
  let unv := match slot with | none => false | some i => s.on (QUAD.CHST.UNVERIFIED (i / 4) (i % 4))
  let ow := match slot with
    | none => false
    | some i => match (s.quads.toList.getD (i / 4) Quad.zero).ow with
      | none => false
      | some t => t.live && bitOf t.mask (i % 4)
  ofB (decide (g < s.streams.settle.getD k 0)) + 2 * ofB (s.get TIME.TRK.STATE == 2) + 4 * ofB (sus || s.verifying k) + 8 * ofB unv +
    16 * ofB (decide (g < s.streams.swapEnd.getD k 0)) + 32 * ofB ow + 64 * ofB (s.on SYS.STATUS.CLKDEG)

/-- The input of channel k has no power: in BASE CAMP only the quads of port A and BD1 to BD4 have (R39, R50, R507). -/
def State.unpowered (s : State) (k : Nat) : Bool :=
  s.get PWR.STATE.STATE == 1 && (match chanSlot k with | some i => decide (8 ≤ i) | none => decide (20 ≤ k))

/-- The sample of channel k is invalid: absent, without power, or a bitstream not valid (R10, R142, R507). -/
def State.sampleInvalid (s : State) (k : Nat) : Bool :=
  !s.part.hasChan k || s.unpowered k || (decide (16 ≤ k) && !s.bit BITIN.STATUS.VALID (k - 16))

/-- The host calibration of R380, at the values in force. -/
def calibrate (g o : Nat) (x : Word) : Word := (sat32 (rneDiv (g * (x.toInt + sextN 32 o)) (2 ^ 30))).1

/-! ## Group delays (R148, R152, R156, R157) -/

/-- The delay from the pads to the words at 256 kS/s, in CORE cycles as a quotient (R148, R151, R152): alignment and CIC; for
a bitstream the sample point besides, or on BCLKI the CIC at its own clock and the rate converter's two words. -/
def State.wordDelay (s : State) (k : Nat) : Nat × Nat :=
  let n := s.eff (FILT.CFG.ORDER k)
  let aligned := 8 * (2 * alignDelay n + cicDelay n 50)
  if k < 16 then (aligned, 1)
  else if s.eff BITIN.CTRL.CLKSRC = 0 then (aligned + s.get BITIN.CTRL.SKEW, 1)
  else
    let f := s.get BITIN.FMEAS.F
    (cicDelay n (s.get BITIN.CTRL.DEC) * 1024000 + 1600 * f, f)

/-- The delay of the minimum-phase option in 0.1 µs, by frequency in 0.1 Hz, over the range of the tracker (R157). -/
def minPhaseTable : List (Nat × Nat) :=
  [(425, 1569), (450, 1569), (500, 1570), (550, 1571), (600, 1573), (650, 1574), (690, 1575)]

/-- The table at a pitch length of 2^-22 grain, between its points by a straight line, in 2^-32 grain (0.1 µs is 2^32 / 312.5). -/
def minPhaseAt (plen : Nat) : Nat :=
  let f := 320000 * 2 ^ 22
  let at' := fun (a b : Nat × Nat) =>
    (a.2 * (b.1 - a.1) * plen + (b.2 - a.2) * (f - a.1 * plen)) * 2 ^ 32 * 10 / ((b.1 - a.1) * plen * 3125)
  match (minPhaseTable.zip minPhaseTable.tail).find? (fun p => decide (f ≤ p.2.1 * plen)) with
  | some p => at' p.1 p.2
  | none => 1575 * 2 ^ 32 * 10 / 3125

/-- The group delay of the minimum-phase option at a tracked period, within ±0.5 µs of the table (R157). -/
def minDelay (plen : Nat) : Nat :=
  ((minPhaseAt plen : Int) + clampI (-(5 * 2 ^ 32 * 10 / 3125)) (5 * 2 ^ 32 * 10 / 3125) (Config.delayError plen)).toNat

/-! ## The pitch stream (R161–R164) -/

/-- The coefficient of phase p and tap j; phase 256 is phase 0 advanced by one sample (R161). -/
def coefAt (p j : Nat) : Int :=
  if p < 256 then Config.rsmpCoef p j else if j = 0 then 0 else Config.rsmpCoef 0 (j - 1)

/-- The resampled value from 32 samples and a fraction φ (R161), rounded and saturated, and whether it saturated (R153). -/
def resample (phi : Nat) (xs : List Int) : Word × Bool :=
  let p := phi / 2 ^ 24
  let w : Int := (phi % 2 ^ 24 : Nat)
  let sum := (List.range 32).foldl (fun (a : Int) j =>
    a + xs.getD j 0 * ((2 ^ 24 - w) * coefAt p j + w * coefAt (p + 1) j)) 0
  sat32 (rneDiv sum (2 ^ (24 + Config.rsmpShift)))

/-- The sample of channel k that entered in a grain, from the last 48 (R161). -/
def State.histSample (s : State) (k : Nat) (g : Int) : Smp :=
  let back : Int := s.clock.grain - g
  if back < 0 then ⟨0, 1, true⟩ else ((s.streams.hist.getD back.toNat []).getD k ⟨0, 1, true⟩)

/-- Where the samples and points of ch 0–6 without the host's gain, offset and phase correction stand, which base camp meters
(R283): after those of ch 0–23. -/
def rawChan (c : Nat) : Nat := 24 + c

/-- The phase correction of a place: none of base camp's. -/
def State.corrOf (s : State) (k : Nat) : Int := if k < 24 then s.phaseCorr k else 0

/-- A place's channel is resampled for a pitch. -/
def Pitch.takes (p : Pitch) (k : Nat) : Bool := bitOf p.en (if k < 24 then k else k - 24)

/-- One point of one channel (R163, R164): marked as the samples it needs are, and held in a held pitch; and whether it
saturated. -/
def State.pointOf (s : State) (p : Pitch) (i k : Nat) : Smp × Bool :=
  let tau : Int := (p.start + i * 2 * p.plen : Nat) + s.corrOf k * 16
  let n := tau / 2 ^ 32
  let l := (List.range 32).map (fun (j : Nat) => s.histSample k (n - 15 + (j : Int)))
  let marks := l.foldl (fun a x => a ||| x.marks) (2 * ofB p.held)
  if l.any Smp.inv then (⟨0, marks, true⟩, false)
  else
    let y := resample (tau % 2 ^ 32).toNat (l.map (fun x => x.val.toInt))
    (⟨y.1, marks, false⟩, y.2)

/-- The points of a pitch due by the running grain are evaluated (R164), at most n of them. -/
def State.buildPoints (s : State) : Nat → Build → Build
  | 0, b => b
  | n + 1, b =>
    if b.next < 512 ∧ (b.pitch.start + b.next * 2 * b.pitch.plen) / 2 ^ 32 + 24 ≤ s.clock.grain then
      let pt := (List.range 31).map (fun k =>
        if b.pitch.takes k then s.pointOf b.pitch b.next k else (⟨0, 0, true⟩, false))
      s.buildPoints n { b with
        next := b.next + 1
        points := (pt.map Prod.fst, s.streams.gains.getD 8 [], s.get FILT.ACTIVE.B) :: b.points
        sat := b.sat ||| bitsOf 24 (fun k => (pt.getD k (⟨0, 0, true⟩, false)).2) }
    else b

/-- Points of channel k were delivered under each bank (R168). -/
def Build.bothBanks (x : Build) (k : Nat) : Bool :=
  x.points.any (fun p => bitOf p.2.2 k) && x.points.any (fun p => !bitOf p.2.2 k)

/-- A sample with the bank-swap mark. -/
def Smp.markSwap (x : Smp) : Smp := { x with marks := x.marks ||| 16 }

/-- A whole pitch becomes the pitch stream (R164): by channel, empty where not resampled; marked bank swap where both banks
delivered points of it (R168). -/
def Streams.makeWhole (b : Streams) (x : Build) : Streams :=
  let pts := x.points.reverse
  { b with
    pitch := (List.range 31).map (fun k =>
      if x.pitch.takes k then
        let l := pts.map (fun p => p.1.getD k ⟨0, 0, true⟩)
        if x.bothBanks k then l.map Smp.markSwap else l
      else [])
    whole := some x.pitch
    wholeGains := pts.map (fun p => p.2.1)
    builds := b.builds.filter (fun y => y.pitch ≠ x.pitch) }

/-- Channels in which a stage, the integrator or the resampler saturated (R153): FILT.SAT and source 0x1F. -/
def State.stageSat (s : State) (mask : Nat) : State :=
  if mask = 0 then s else (s.set FILT.SAT.SAT (s.get FILT.SAT.SAT ||| mask)).arrive 0x1F

/-- Pitches begun since the last fill join those being evaluated; points are placed; a finished pitch is whole: the state
and whether one became whole. -/
def State.fillPoints (s : State) : Bool × State :=
  let known := s.streams.builds.map Build.pitch
  let fresh := (s.tracker.running.filter (fun p => !known.contains p && decide (s.tracker.lastWhole < p.start))).map
    (fun p => (⟨p, 0, [], 0⟩ : Build))
  let bs := (s.streams.builds ++ fresh).map (s.buildPoints 4)
  let s := { s with streams := { s.streams with builds := bs.map (fun (b : Build) => { b with sat := 0 }) } }
  let s := s.stageSat (bs.foldl (fun (a : Nat) (b : Build) => a ||| b.sat) 0)
  match bs.find? (fun b => decide (512 ≤ b.next)) with
  | none => (false, s)
  | some b => (true, { s with
      streams := s.streams.makeWhole { b with sat := 0 }, tracker := { s.tracker with lastWhole := b.pitch.start } })

/-! ## Base camp's pitch (R283, R555) -/

/-- The points of port A for base camp: the voltage of phase p, and its current in 2^-36, referred to gain 1. -/
def State.baseU (s : State) (p : Nat) : List Int := (s.streams.pitch.getD (rawChan p) []).map (fun x => x.val.toInt)
def State.baseI (s : State) (p : Nat) : List Int :=
  (s.streams.pitch.getD (rawChan (3 + p)) []).mapIdx (fun m x =>
    x.val.toInt * 2 ^ (5 - (s.streams.wholeGains.getD m []).getD (3 + p) 0))

/-- 512 P of a phase, exact, in 2^-67. -/
def State.baseActive (s : State) (p : Nat) : Int := (List.zipWith (· * ·) (s.baseU p) (s.baseI p)).foldl (· + ·) 0

/-- 512 Q1 of a phase in 2^-137: Im(U · conj I)/256 of the transforms with Q1.31 coefficients (R261, R283). -/
def State.baseReactive (s : State) (p : Nat) : Int :=
  let u := baseDft (s.baseU p)
  let i := baseDft (s.baseI p)
  u.2 * i.1 - u.1 * i.2

/-- 512 Urms Irms of a phase in 2^-67 (R261). -/
def State.baseApparent (s : State) (p : Nat) : Nat :=
  let sq := fun (l : List Int) => l.foldl (fun (a : Nat) x => a + x.natAbs ^ 2) 0
  rootFloor 80 (sq (s.baseU p) * sq (s.baseI p))

/-- The arithmetic error of Q1 or S, below 2^-24 of full-scale power (R283), in 2^-32 of 512 times that power. -/
def State.baseErr (s : State) (apparent : Bool) : Int :=
  clampI (-(2 ^ 17 - 1)) (2 ^ 17 - 1) (Config.baseError apparent ((List.range 7).map s.baseU))

/-- The whole pitch is booked to BC0–BC7 while base camp runs. -/
def State.baseCampPitch (s : State) : State :=
  match s.streams.whole with
  | none => s
  | some p =>
    if s.on NRG.BCSTAT.BCRUN then
      let w := (List.range 3).map s.baseActive
      let sum := fun (l : List Int) => l.foldl (· + ·) 0
      let inc := w.map (fun x => Config.round x (2 ^ 35))
      let tot := Config.round (sum w) (2 ^ 35)
      let q1 := Config.round (sum ((List.range 3).map s.baseReactive)) (2 ^ 105) + s.baseErr false
      let va := Config.round (sum ((List.range 3).map (fun p => (s.baseApparent p : Int)))) (2 ^ 35) + s.baseErr true
      let all := ((List.range 6).map (fun c => s.streams.pitch.getD (rawChan c) [])).flatten
      let mrk := all.any (fun x => decide (x.marks ≠ 0))
      let inv := all.any Smp.inv
      let v := [inc.getD 0 0, inc.getD 1 0, inc.getD 2 0, tot, tot, q1, va, tot]
      (List.finRange 8).foldl (fun (t : State) (b : Fin 8) => t.bookBase b p.plen (v.getD b 0) mrk inv) s
    else s

/-! ## The registers (R150, R155, R165, R169, R170) -/

/-- BCLKI/DEC lies in its window of 240–272 kS/s (R141), FMEAS in 100 Hz. -/
def State.decOk (s : State) : Bool :=
  let f := s.get BITIN.FMEAS.F * 100
  decide (240000 * s.get BITIN.CTRL.DEC ≤ f ∧ f ≤ 272000 * s.get BITIN.CTRL.DEC)

/-- A write of FILT.CFGk is refused whole (R150, R155). -/
def State.cfgBad (s : State) (k v : Nat) : Bool :=
  (s.strided k && v % 8 != 5) ||
  (decide (16 ≤ k) && s.on BITIN.CTRL.CLKSRC && !s.decOk) ||
  (field v 4 1 != s.get (FILT.CFG.OPT k) && s.laneImages.any (fun i => imgDeclares i k))

/-- A write of FILT.CFGk. -/
def State.cfgWrite (s : State) (k v : Nat) : State :=
  if ¬ s.part.hasChan k then s
  else if s.cfgBad k v then s.raise FILT.STATUS.CFGREF 0x1F
  else s.writeCells ((cellsOf regsFilt 0x18 (0x20 + k) 0).getD []) v

/-- FILT_CFG_WRITE (R150). -/
def execFiltCfgWrite (k : Fin 24) (v : Word) (s : State) : Host.Outcome State Fault Refusal := .next (s.whenOn (s.cfgWrite k v.toNat))

/-- FILT_SWAP (R166). -/
def execFiltSwap (v : Word) (s : State) : Host.Outcome State Fault Refusal := .next (s.whenOn ((s.swapOrder v.toNat).2))

/-- A bank register of channel k: a write to the active bank is ignored (R165). -/
def State.bankWrite (s : State) (unit idx k : Nat) (b : Bool) (v : Nat) : State :=
  if ¬ s.part.hasChan k then s
  else if s.bankB k = b then
    s.raise (if unit = 0x18 then FILT.STATUS.ACTWR else RSMP.STATUS.ACTWR) 0x1F
  else
    let s := s.writeCells ((cellsOf (if unit = 0x18 then regsFilt else regsRsmp) unit idx 0).getD []) v
    if unit = 0x18 ∧ isVoltage k ∧ idx < 0x80 then
      s.set (if b then FILT.CHB.INTEN k else FILT.CHA.INTEN k) 0 else s

/-- Which bank a bank register belongs to, and its channel (R169, R170). -/
def bankReg (unit idx : Nat) : Option (Nat × Bool) :=
  let lo := if unit = 0x18 then 0x40 else 0x20
  let hi := if unit = 0x18 then 0xC0 else 0x60
  if lo ≤ idx ∧ idx < hi ∧ idx % 32 < 24 then some (idx % 32, idx / 32 % 2 == (if unit = 0x18 then 1 else 0)) else none

/-- ACTIVE_BANK_WRITE (R165): a write of a bank register of FILT or RSMP. -/
def execActiveBankWrite (rsmp : Bool) (idx : Fin 256) (v : Word) (s : State) : Host.Outcome State Fault Refusal :=
  let u := if rsmp then 0x19 else 0x18
  match bankReg u idx with
  | none => .refused .illFormed
  | some (k, b) => .next (s.whenOn (s.bankWrite u idx k b v.toNat))

/-- The addressed tap of CADDR: its place in the coefficient RAM (R169). -/
def State.coefBank (s : State) : Nat :=
  s.get FILT.CADDR.BANK * 512 + s.get FILT.CADDR.SET * 128 + s.get FILT.CADDR.TAP

/-- The addressed set is selected by some channel's active bank (R165). -/
def State.setActive (s : State) : Bool :=
  (List.range 24).any (fun k => ofB (s.bankB k) == s.get FILT.CADDR.BANK && s.part.hasChan k &&
    (if s.bankB k then s.get (FILT.CHB.DRPSET k) else s.get (FILT.CHA.DRPSET k)) == s.get FILT.CADDR.SET)

/-- TAP advances after an access of CDATA, wrapping at 127. -/
def State.tapNext (s : State) : State := s.set FILT.CADDR.TAP (s.get FILT.CADDR.TAP + 1)

/-- A write of CDATA. -/
def State.coefWrite (s : State) (v : Nat) : State :=
  (if s.setActive then s.raise FILT.STATUS.ACTWR 0x1F else s.set (FILT.CDATA.COEF s.coefBank) v).tapNext

/-- COEF_DATA_ACCESS (R169): reads or writes the addressed tap and advances TAP. -/
def execCoefDataAccess (write : Bool) (v : Word) (s : State) : Host.Outcome State Fault Refusal :=
  .next (s.whenOn (if write then s.coefWrite v.toNat
    else { s.tapNext with readData := BitVec.ofNat 32 (s.get (FILT.CDATA.COEF s.coefBank)) }))

/-- The views of FILT: the addressed tap; absent channels read zero. -/
def filtView (s : State) (idx : Nat) : Option Nat :=
  if idx = 7 then some (s.get (FILT.CDATA.COEF s.coefBank))
  else if 0x20 ≤ idx ∧ idx < 0xC0 ∧ ¬ s.part.hasChan (idx % 32) then some 0 else none

/-- The views of RSMP. -/
def rsmpView (s : State) (idx : Nat) : Option Nat :=
  if 0x20 ≤ idx ∧ idx < 0x60 ∧ ¬ s.part.hasChan (idx % 32) then some 0 else none

/-- What a read of a FILT register does besides. -/
def filtAfterRead (s : State) (idx : Nat) : State := if idx = 7 then s.tapNext else s

/-- The writes of FILT that do more than store. -/
def filtWrite (s : State) (idx v : Nat) : Option State :=
  if idx = 1 then some (s.swapOrder v).2
  else if idx = 6 then
    some (if field v 8 2 = 0 then s.raise FILT.STATUS.SETREF 0x1F
      else s.writeCells ((cellsOf regsFilt 0x18 6 0).getD []) v)
  else if idx = 7 then some (s.coefWrite v)
  else if 0x20 ≤ idx ∧ idx < 0x38 then some (s.cfgWrite (idx - 0x20) v)
  else (bankReg 0x18 idx).map (fun kb => s.bankWrite 0x18 idx kb.1 kb.2 v)

/-- The writes of RSMP that do more than store. -/
def rsmpWrite (s : State) (idx v : Nat) : Option State :=
  (bankReg 0x19 idx).map (fun kb => s.bankWrite 0x19 idx kb.1 kb.2 v)

end Sys2Proof.Machine
end

