-- ==== Sys2Proof/Machine/Front.lean ====
section
/-! DEFINITION. From the converters' bits to the grain stream (04_sense_front_end.md, 05_filter_chain.md): the cores' CIC
words, their combination by Twin, median, FORCE, SELFCAL and Stride, the stages of R146, the monitor of R116, and the stream
fill. -/

namespace Sys2Proof.Machine

/-! ## Cores and slots -/

/-- The core number of a slot's core (R371). -/
def coreNo (q k j : Nat) : Nat := 2 * slotChan (4 * q + k) + j

/-- The two converters of slot k of quad q in service (R144 CORES): by core number. -/
def State.pairOf (s : State) (q k : Nat) : Nat × Nat :=
  match s.get (QUAD.CHST.CORES q k) with
  | 1 => (coreNo q k 0, 32 + q)
  | 2 => (32 + q, coreNo q k 1)
  | _ => (coreNo q k 0, coreNo q k 1)

/-- The word of the OTP copy in use. -/
def State.otpUsed (s : State) (w : Nat) : Nat :=
  (Config.otpWord ((if s.on TRIM.STATUS.C0BAD then 2048 else 0) + w)).toNat

/-- The quad's state behind its registers, by number. -/
def State.quadAt (s : State) (q : Nat) : Quad := s.quads.toList.getD q Quad.zero

/-- The slot of quad q in Stride (R129): the one named where Stride came into effect. -/
def State.strideSlot (s : State) (q : Nat) : Option Nat :=
  if s.on (QUAD.STATUS.STRIDEON q) then some (s.quadAt q).strideK else none

/-- The spare serves slot k in a use and has settled there (R117, R377). -/
def State.spareOn (s : State) (q k use : Nat) : Bool :=
  s.get (QUAD.STATUS.SPUSE q) == use && s.get (QUAD.STATUS.SPAT q) == k && (s.quadAt q).settled

/-- The order of a core's CIC (R147): its channel's; a spare's that of the channel it serves; 5 where there is none (log
entry 52). -/
def State.coreOrder (s : State) (n : Nat) : Nat :=
  if n < 32 then s.eff (FILT.CFG.ORDER (n / 2))
  else if n < 36 then
    (if s.get (QUAD.STATUS.SPAT (n - 32)) < 4 then
      s.eff (FILT.CFG.ORDER (slotChan (4 * (n - 32) + s.get (QUAD.STATUS.SPAT (n - 32))))) else 5)
  else 5

/-- The MOD periods of the running grain in which a core tripped (R113). -/
def State.tripsOf (s : State) (n : Nat) : List Nat :=
  (s.streams.front.trips.filter (fun t => t.1 == n)).map Prod.snd

/-- A word clipped to ±0.75 (R113). -/
def clip (x : Word) : Word := BitVec.ofInt 32 (clampI (-(3 * 2 ^ 29)) (3 * 2 ^ 29) x.toInt)

/-- The words of a grain, clipped where the core tripped in it (R113). -/
def clipIf (trips : List Nat) (l : List Word) : List Word := if trips = [] then l else l.map clip

/-! ## The words of the grain that ends -/

/-- What the grain that ends leaves for the next stream fill: by channel its eight words at 256 kS/s; by slot the
difference of its converters and the first one's words; by quad the spare's two differences and its words; by channel
the 512 kS/s words where Stride gives them; the channels in which HB0 saturated. -/
structure GrainWords where
  chan : List (List Word)
  twin : List (List Word)
  first : List (List Word)
  diff0 : List (List Word)
  diff1 : List (List Word)
  spare : List (List Word)
  strided : List (List Word)
  sat : Nat
  deriving DecidableEq, Repr

/-- Word by word. -/
def zipWords (f : Int → Int → Int) (a b : List Word) : List Word := List.zipWith (fun x y => toQ31 (f x.toInt y.toInt)) a b

/-- The twin average (R115). -/
def average (a b : List Word) : List Word := zipWords (fun x y => Config.round (x + y) 2) a b

/-- The median of three, word by word (R117). -/
def medianWords (a b c : List Word) : List Word :=
  List.zipWith (fun x yz => BitVec.ofInt 32 (median x.toInt yz.1.toInt yz.2.toInt)) a (b.zip c)

/-- The cores' decimators and words for a grain's bits (R147, R148). -/
def State.coreWords (s : State) (m : Measure) : List (Cic × List Word) :=
  (List.range 38).map (fun n =>
    let r := (s.streams.front.cics.getD n Cic.zero).grain (s.coreOrder n) (s.tripsOf n) (m.cores.toList.getD n 0)
    (r.1, clipIf (s.tripsOf n) r.2))

/-- The merged stream of two cores (R130, R151). -/
def State.mergedWords (s : State) (m : Measure) (i c0 c1 : Nat) : Cic × List Word :=
  let r := (s.streams.front.merged.getD i Cic.zero).mergedGrain
    ((s.tripsOf c0).map (fun t => 2 * t) ++ (s.tripsOf c1).map (fun t => 2 * t + 1))
    (m.cores.toList.getD c0 0) (m.cores.toList.getD c1 0)
  (r.1, clipIf (s.tripsOf c0 ++ s.tripsOf c1) r.2)

/-- Bitstream k's decimator, the words before the rate converter, and its words on the 256 kS/s grid (R139–R141): from
BCLKO as an analogue core of the same order, from BCLKI through the converter. -/
def State.bitWords (s : State) (m : Measure) (k : Nat) : Cic × List Word × List Word :=
  let order := s.eff (FILT.CFG.ORDER (16 + k))
  let c := s.streams.front.cics.getD (38 + k) Cic.zero
  if ¬ s.bit BITIN.CTRL.EN k then (Cic.zero, [], [])
  else if s.eff BITIN.CTRL.CLKSRC = 0 then
    let r := c.grain order [] ((m.bits.toList.getD k 0).setWidth 400)
    (r.1, [], r.2)
  else
    let r := c.external order (min 78 (max 20 (s.get BITIN.CTRL.DEC))) m.edges (m.bits.toList.getD k 0)
    let h := (r.2.reverse ++ s.streams.front.conv.getD k []).take 16
    (r.1, h, (List.range 8).map (fun i => rateWord m.fmeas.toNat (s.get BITIN.CTRL.DEC) i h))

/-- SELFCAL has taken the first (0) or second (1) converter of slot k off line in this grain (R376, R377). -/
def State.calMissing (s : State) (q k : Nat) : Option Nat :=
  match s.selfCal with
  | none => none
  | some c =>
    if bitOf c.abandoned q || s.strideSlot q == some k then none
    else match s.get TRIM.SCSTAT.PHASE with
      | 1 => some 0
      | 2 => some 1
      | _ => none

/-- The words of the channel in slot k (R115, R117, R121, R123, R131, R377): Stride's merged stream, its first core alone
about entry and exit, the partner (with the spare where it covers the slot) under SELFCAL, the forced core, the median
while the vote's spare has settled, else the average of the pair. -/
def State.slotWords (s : State) (w : Nat → List Word) (hb0 : List Word) (q k : Nat) : List Word :=
  let p := s.pairOf q k
  let a := w p.1
  let b := w p.2
  let sp := w (32 + q)
  if s.clock.grain < (s.quadAt q).alone.getD k 0 then a
  else if s.strideSlot q = some k then hb0
  else match s.calMissing q k with
    | some 0 => if s.spareOn q k 3 then average sp b else b
    | some _ => if s.spareOn q k 3 then average a sp else a
    | none =>
      if s.eff (QUAD.CFG.FORCE q k) = 1 then a
      else if s.eff (QUAD.CFG.FORCE q k) = 2 then b
      else if s.spareOn q k 1 then medianWords a b sp
      else average a b

/-- Sums of words added by index. -/
def addWords (sums : List Int) (l : List (List Word)) : List Int :=
  sums.mapIdx (fun i v => v + (l.getD i []).foldl (fun a x => a + x.toInt) 0)

/-- SELFCAL's readings of the grain (R376): input shorted in grains 64–319 of a phase, at the bandgap in 384–703. -/
def State.calReadings (s : State) (words : List (List Word)) : Option SelfCal :=
  s.selfCal.map (fun c =>
    let at' := (s.clock.grain - c.start) % 768
    if s.get TRIM.SCSTAT.PHASE = 0 ∨ s.clock.grain < c.start then c
    else if 64 ≤ at' ∧ at' < 320 then { c with shorted := addWords c.shorted words }
    else if 384 ≤ at' ∧ at' < 704 then { c with bandgap := addWords c.bandgap words }
    else c)

/-- The spare's readings of an internal position (R128): after settling. -/
def State.dwellReadings (s : State) (q : Nat) (x : Quad) (words : List (List Word)) : Quad :=
  if s.get (QUAD.STATUS.SPUSE q) = 0 ∧ 4 ≤ x.pos ∧ x.settled then
    { x with
      dwSum := x.dwSum + (words.getD (32 + q) []).foldl (fun a y => a + y.toInt) 0
      dwN := x.dwN + (words.getD (32 + q) []).length }
  else x

/-- The end of a grain at the converters: their words, under the settings that were in force in it. -/
def State.frontEnd (s : State) (m : Measure) : GrainWords × State :=
  let f := s.streams.front
  let cores := s.coreWords m
  let words := cores.map Prod.snd
  let w := fun (n : Nat) => words.getD n []
  let merged := (List.range 4).map (fun q => match s.strideSlot q with
    | none => (Cic.zero, [])
    | some k => s.mergedWords m q (coreNo q k 0) (coreNo q k 1))
  let hb0 := (List.range 4).map (fun q => firStage 24 2 hb0Tap (f.hb0.getD q []) (merged.getD q (Cic.zero, [])).2)
  let chM := s.mergedWords m 4 36 37
  let bd := (List.range 8).map (fun k => s.bitWords m k)
  let slot := fun (i : Nat) => s.slotWords w (hb0.getD (i / 4) ([], [], false)).2.1 (i / 4) (i % 4)
  let slots := (List.range 16).map slot
  let pairs := (List.range 16).map (fun i => s.pairOf (i / 4) (i % 4))
  let at' := fun (q : Nat) => s.get (QUAD.STATUS.SPAT q)
  let inStride := fun (c : Nat) => match chanSlot c with
    | none => none
    | some i => if s.strided c && decide ((s.quadAt (i / 4)).alone.getD (i % 4) 0 ≤ s.clock.grain) then some (i / 4) else none
  ({ chan := (List.range 24).map (fun c => match chanSlot c with
        | some i => slots.getD i []
        | none => (bd.getD (c - 16) (Cic.zero, [], [])).2.2)
     twin := pairs.map (fun p => zipWords (fun x y => x - y) (w p.1) (w p.2))
     first := pairs.map (fun p => w p.1)
     diff0 := (List.range 4).map (fun q => zipWords (fun x y => x - y) (w (coreNo q (at' q) 0)) (w (32 + q)))
     diff1 := (List.range 4).map (fun q => zipWords (fun x y => x - y) (w (coreNo q (at' q) 1)) (w (32 + q)))
     spare := (List.range 4).map (fun q => w (32 + q))
     strided := (List.range 24).map (fun c => match inStride c with
        | none => []
        | some q => (merged.getD q (Cic.zero, [])).2)
     sat := bitsOf 16 (fun c => match inStride c with
        | none => false
        | some q => (hb0.getD q ([], [], false)).2.2) },
   { s with
      selfCal := s.calReadings words
      quads := s.quads.mapIdx (fun q x => s.dwellReadings q x words)
      streams := { s.streams with front := { f with
        cics := cores.map Prod.fst ++ bd.map Prod.fst
        merged := merged.map Prod.fst ++ [chM.1]
        hb0 := (List.range 4).map (fun q => if s.on (QUAD.STATUS.STRIDEON q) then (hb0.getD q ([], [], false)).1 else [])
        conv := bd.map (fun b => b.2.1)
        trips := []
        sums := addWords f.sums slots
        n := f.n + 1
        m := if s.part.optL then chM.2 else [] } } })

/-! ## The stream fill (R69, R146) -/

/-- The DRP coefficients of channel k by its active bank (R153): set 0 the factory set of its ORDER and OPT. -/
def State.drpCoef (s : State) (k j : Nat) : Int :=
  let b := s.bankB k
  let set := if b then s.get (FILT.CHB.DRPSET k) else s.get (FILT.CHA.DRPSET k)
  if set = 0 then (Config.drpTap (s.eff (FILT.CFG.ORDER k)) (s.eff (FILT.CFG.OPT k)) j).toInt
  else sextN 24 (s.get (FILT.CDATA.COEF (512 * ofB b + 128 * set + j)))

/-- Eight words pass the later stages with channel k's settings. -/
def State.lateStages (s : State) (k : Nat) (c : Dec) (xs : List Word) : Dec × Word × Bool :=
  c.grain (s.eff (FILT.CFG.OPT k) == 1) (s.drpCoef k) xs

/-- One channel's sample enters: the integrator where enabled (R159), then the calibration (R380); the sample, the
integrator's state and last input, the sample before the calibration (R283), and whether the integrator saturated. -/
def State.chanFill (s : State) (k : Nat) (x : Word) : Smp × (BitVec 64 × Word) × Smp × Bool :=
  let y := s.streams.integ.getD k (0, 0)
  if s.sampleInvalid k then (⟨0, s.sampleMarks k, true⟩, y, ⟨0, s.sampleMarks k, true⟩, false)
  else
    let y' := if s.inten k then rogowski (s.leak k) (s.igain k) y.1 y.2 x else y.1
    let out := if s.inten k then rogowskiOut y' else (x, false)
    (⟨calibrate (s.eff (TRIM.CALG.G k)) (s.eff (TRIM.CALO.O k)) out.1, s.sampleMarks k, false⟩, (y', x),
      ⟨out.1, s.sampleMarks k, false⟩, out.2)

/-- The strided words of channel k in the buffers, marked as its sample is (R190; log entry 52). -/
def State.stridedFill (s : State) (k : Nat) (l : List Word) : List Smp :=
  l.map (fun w => if s.sampleInvalid k then (⟨0, 0, true⟩ : Smp) else ⟨w, s.sampleMarks k, false⟩)

/-- A new value of the skew sums (R133): the derivative of the spare's stream at its middle value of three (log entry 52). -/
def Skew.add (k : Skew) (d sp : Int) : Skew :=
  ⟨d, sp, k.s1, k.num + k.d * (sp - k.s2), k.den + (sp - k.s2) * (sp - k.s2)⟩

/-- The monitor of R116 in a grain: every slot's difference, and the spare's against both cores of the slot it serves once
it has settled there. -/
def State.monitorFill (s : State) (g : GrainWords) : Front :=
  let f := s.streams.front
  let run := fun (i : Nat) (c : List Dec) (l : List (List Word)) (k : Nat) =>
    if s.part.hasQuad (k / 4) then s.lateStages (slotChan k) (c.getD i Dec.zero) (l.getD i []) else (Dec.zero, 0, false)
  let twin := (List.range 16).map (fun i => run i f.twin g.twin i)
  let first := (List.range 16).map (fun i => run i f.first g.first i)
  let at' := fun (q : Nat) => s.get (QUAD.STATUS.SPAT q)
  let live := fun (q : Nat) => decide (at' q < 4) && (s.quadAt q).settled
  let spRun := fun (c : List Dec) (l : List (List Word)) => (List.range 4).map (fun q =>
    if at' q < 4 then run q c l (4 * q + at' q) else (Dec.zero, 0, false))
  let d0 := spRun f.diff0 g.diff0
  let d1 := spRun f.diff1 g.diff1
  let sp := spRun f.spare g.spare
  let v := fun (l : List (Dec × Word × Bool)) (i : Nat) => (l.getD i (Dec.zero, 0, false)).2.1
  { f with
    twin := twin.map Prod.fst, first := first.map Prod.fst
    diff0 := d0.map Prod.fst, diff1 := d1.map Prod.fst, spare := sp.map Prod.fst
    cmp := f.cmp.mapIdx (fun i c => c.add (-1) (v twin i) (v first i))
    cmp0 := f.cmp0.mapIdx (fun q c => if live q then c.add 1 (v d0 q) (v sp q) else c)
    cmp1 := f.cmp1.mapIdx (fun q c => if live q then c.add 1 (v d1 q) (v sp q) else c)
    skew := f.skew.mapIdx (fun q k => if live q then k.add (v d1 q).toInt (v sp q).toInt else k) }

/-- The stream fill (R69): the sample of every channel and the strided words enter the buffers. -/
def State.fillGrain (s : State) (g : GrainWords) : State :=
  let f := s.monitorFill g
  let late := (List.range 24).map (fun k =>
    if s.part.hasChan k then s.lateStages k (f.chan.getD k Dec.zero) (g.chan.getD k []) else (Dec.zero, 0, false))
  let l := late.mapIdx (fun k r => s.chanFill k r.2.1)
  let b := s.streams
  let gains := (List.range 24).map (fun k =>
    match chanSlot k with | none => 0 | some i => s.eff (QUAD.CFG.GAIN (i / 4) (i % 4)))
  let sat := g.sat ||| bitsOf 24 (fun k => (late.getD k (Dec.zero, 0, false)).2.2 ||
    (l.getD k (⟨0, 0, true⟩, (0, 0), ⟨0, 0, true⟩, false)).2.2.2)
  ({ s with streams := { b with
      prev := b.now, now := l.map Prod.fst, integ := l.map (fun x => x.2.1)
      hist := ((l.map Prod.fst ++ (l.take 7).map (fun x => x.2.2.1)) :: b.hist).take 48, gains := (gains :: b.gains).take 16
      strPrev := b.strNow, strNow := g.strided.mapIdx (fun k w => s.stridedFill k w)
      front := { f with chan := late.map Prod.fst } } } : State).stageSat sat

end Sys2Proof.Machine
end

