-- ==== Sys2Proof/Machine/Quad.lean ====
section
/-! DEFINITION. Twin converters, plausibility, the vote, retirement, the roving spare, Stride, open-wire tests and
bitstream inputs (04_sense_front_end.md). -/

namespace Sys2Proof.Machine

/-- Change quad q. -/
def State.setQuad (s : State) (q : Fin 4) (x : Quad) : State := { s with quads := s.quads.set q x }

/-- Change quad q by a function. -/
def State.modQuad (s : State) (q : Fin 4) (f : Quad → Quad) : State := s.setQuad q (f s.quads[q])

/-! ## Decisions taken twice (R119, R470) -/

/-- The first path has decided; the second decides 1–255 CORE cycles later, by the TRNG. -/
def State.decideFirst (s : State) (d : Decision) : State :=
  let r := s.draw
  { r.2 with second := r.2.second ++ [⟨d, s.clock.now + 1 + r.1.toNat % 255⟩] }

/-- The paths disagree: FI sets, a tamper record of kind 3 is written and source 0x42 raised (R470, R358). -/
def State.faultInjection (s : State) (source third : Nat) : State :=
  (((s.flag TAMP.STICKY.FI true).stageTamper source 3 third false s.clock.rtc).arrive 0x42).belayDue .evidence

/-- Source and third byte of the kind-3 record of a retire decision (R358). -/
def retireSource : RetireWhat → Nat × Nat
  | .core q k j => (0x10, coreNo q k j)
  | .spare q => (0x10, 32 + q)
  | .lane n => (0x11, n)

/-! ## The spare (R117, R123–R126) -/

/-- The spare returns to its previous use; the lowest waiting slot gets it next (R123). -/
def Quad.freeSpare (x : Quad) : Quad :=
  { x with
    voting := false
    votePitches := 0
    summons := x.waiting.min?
    waiting := match x.waiting.min? with | none => [] | some k => x.waiting.erase k }

/-- A failing slot summons the spare, or waits where another channel's vote has it (R117, R123). -/
def Quad.summon (x : Quad) (k : Nat) : Quad :=
  if x.summons = some k then x
  else match x.summons with
    | none => { x with summons := some k }
    | some _ => { x with waiting := if x.waiting.contains k then x.waiting else x.waiting ++ [k] }

/-- What uses the spare at a boundary, and where it is (R124, R125): (SPUSE, SPAT). -/
def State.spareUse (s : State) (q : Fin 4) : Nat × Nat :=
  let x := s.quads[q]
  if s.on (QUAD.STATUS.NOSPARE q) then (5, 15)
  else match x.summons with
    | some k => (1, k)
    | none =>
      match s.strideSlot q with
      | some k => (2, k)
      | none =>
        let ph := s.get TRIM.SCSTAT.PHASE
        let ab := match s.selfCal with | none => true | some c => bitOf c.abandoned q
        if s.selfCal.isSome && !ab && (ph == 1 || ph == 2) then (3, field (s.get TRIM.SCCTL.SPSLOT) (2 * q.val) 2)
        else if s.selfCal.isSome && !ab && ph == 3 then (3, 15)
        else if s.on (QUAD.MODE.TRAVEN q) then (0, x.pos) else (4, 15)

/-- The channels of a quad whose cores rejoin under SELFCAL settle for the grain (R378): in phases A and B every one of
them but a strided one. -/
def State.rejoinSettle (s : State) (q : Nat) : State :=
  if s.get TRIM.SCSTAT.PHASE = 1 ∨ s.get TRIM.SCSTAT.PHASE = 2 then
    s.forN 4 (fun k t => if t.strideSlot q = some k then t else t.settleFor (slotChan (4 * q + k)) t.clock.grain 1)
  else s

/-- The quad's SELFCAL phase is abandoned: a higher use takes the spare (R125, R379); its cores rejoin. -/
def State.abandonPhase (s : State) (q : Fin 4) : State :=
  match s.selfCal with
  | none => s
  | some c =>
    if bitOf c.abandoned q ∨ s.get TRIM.SCSTAT.PHASE = 0 then s
    else { (s.rejoinSettle q).setBit TRIM.SCSTAT.ABANDON q true with selfCal := some { c with abandoned := withBit c.abandoned q true } }

/-- A summons that takes the spare ends Stride, whether in effect or asked for (R125, R134). -/
def State.spareClaims (s : State) (q : Fin 4) : State :=
  if s.quads[q].summons.isSome ∧ (s.on (QUAD.STATUS.STRIDEON q) ∨ s.on (QUAD.MODE.STRIDE q)) then
    s.modQuad q (fun x => { x with strideEnd := if x.strideEnd = 0 then 2 else x.strideEnd })
  else s

/-- The spare moves at a grain boundary (R117, R125, R126). -/
def State.spareBoundary (s : State) (q : Fin 4) : State :=
  let s := if s.quads[q].summons.isSome ∨ s.on (QUAD.STATUS.STRIDEON q) then s.abandonPhase q else s
  let u := s.spareUse q
  if s.get (QUAD.STATUS.SPUSE q) = u.1 ∧ s.get (QUAD.STATUS.SPAT q) = u.2 then s
  else ((s.set (QUAD.STATUS.SPUSE q) u.1).set (QUAD.STATUS.SPAT q) u.2).modQuad q
    (fun x => { x with connected := s.clock.grain, settled := false, spareFails := 0, spN := 0, spA := Cmp.zero,
                       spB := Cmp.zero })

/-- SPARE_SETTLED (R117): 64 grains after it connected the spare's words count. -/
def execSpareSettled (q : Fin 4) (s : State) : Host.Outcome State Fault Refusal :=
  .next (if s.power = .on ∧ s.part.hasQuad q ∧ s.get (QUAD.STATUS.SPAT q) < 8 ∧
      s.quads[q].connected + 64 ≤ s.clock.grain then s.modQuad q (fun x => { x with settled := true }) else s)

/-- How many positions the traverse has (R126). -/
def Part.positions (p : Part) : Nat := if p.big then 8 else 4

/-- The result of an internal dwell is posted (R128). -/
def State.postInternal (s : State) (q pos : Nat) (r : Int) : State :=
  let v := wrapN 16 r
  match pos with
  | 4 => (s.set (QUAD.IREF.DEV q) v).flag (QUAD.IREF.VALID q) true
  | 5 => (s.set (QUAD.IAVDD.MV q) v).flag (QUAD.IAVDD.VALID q) true
  | 6 => (s.set (QUAD.ITEMP.T q) v).flag (QUAD.ITEMP.VALID q) true
  | 7 => (s.set (QUAD.IZERO.OFS q) v).flag (QUAD.IZERO.VALID q) true
  | _ => s

/-- The result of an internal dwell (R128): the deviation of the reference from its factory reading in 0.1 ppm, less the
spare's own gain drift (R384); the analogue supply in mV through its divider by 8, 800 mV being one (R112); the diode's
temperature in 0.01 °C; the offset in 0.01 ppm FS (log entry 53). -/
def State.dwellResult (s : State) (q : Nat) (x : Quad) : Int :=
  let otp := fun (w : Nat) => (s.otpUsed (0xA0 + 4 * q + w))
  match x.pos with
  | 4 =>
    let base := sextN 32 (otp 0)
    Config.round ((x.dwSum - base * x.dwN) * 10 ^ 7 * (if base < 0 then -1 else 1)) (base.natAbs * x.dwN) -
      Config.round (sextN 16 (s.get (TRIM.CDRIFT.DG (32 + q))) * 80000) 65536
  | 5 => Config.round (x.dwSum * 6400) (x.dwN * 2 ^ 31)
  | 6 => Config.diodeTemp x.dwSum x.dwN (sextN 16 (otp 1))
  | _ => codesToPpm 100 x.dwSum x.dwN

/-- TRAVERSE_DWELL_END (R126): the dwell at a position has run out; an internal position posts its mean result and the spare goes to the
next position. -/
def execTraverseDwellEnd (q : Fin 4) (pos : Fin 8) (s : State) : Host.Outcome State Fault Refusal :=
  .next (if s.power = .on ∧ s.part.hasQuad q ∧ s.get (QUAD.STATUS.SPUSE q) = 0 ∧ s.quads[q].dwell = 0 ∧
      s.quads[q].pos = pos then
    let x := s.quads[q]
    let result := s.dwellResult q x
    let t := if 4 ≤ x.pos then s.postInternal q x.pos result else s
    let next := (x.pos + 1) % s.part.positions
    t.setQuad q { x with
      pos := next
      dwell := if 4 ≤ next then s.get (QUAD.DWELL.IDWELL q) else s.get (QUAD.DWELL.DWELL q)
      dwSum := 0
      dwN := 0
      dev := if x.pos = 4 then result else x.dev
      os := if x.pos = 7 then result else x.os }
  else s)

/-! ## Plausibility and the vote (R116–R123) -/

/-- A comparison of the pitch lies within the limits (R116). -/
def State.withinLimits (s : State) (q : Nat) (c : Cmp) : Bool :=
  c.within (s.get (QUAD.PLIM.MEANLIM q)) (s.get (QUAD.PLIM.RMSLIM q))

/-- The pitch's comparison of a slot's converters, and of the spare with core 0 or 1 of the slot it serves. -/
def State.twinCmp (s : State) (q k : Nat) : Cmp := s.streams.front.cmp.getD (4 * q + k) Cmp.zero
def State.spareCmp (s : State) (q j : Nat) : Cmp :=
  (if j = 0 then s.streams.front.cmp0 else s.streams.front.cmp1).getD q Cmp.zero

/-- Core n tripped in the pitch (R113). -/
def State.tripped (s : State) (n : Nat) : Bool := bitOf s.streams.front.tripped n

/-- Either converter of a slot tripped in the pitch. -/
def State.slotTripped (s : State) (q k : Nat) : Bool := s.tripped (s.pairOf q k).1 || s.tripped (s.pairOf q k).2

/-- The verdict of a pitch on a slot (R113, R116): none where both its converters tripped. -/
def State.pitchVerdict (s : State) (q k : Nat) : Option Bool :=
  if s.tripped (s.pairOf q k).1 ∧ s.tripped (s.pairOf q k).2 then none
  else if s.slotTripped q k then some false
  else some (s.withinLimits q (s.twinCmp q k))

/-- A slot is judged as twins: not while SELFCAL has a core of it off line (R377) nor in Stride (R132). -/
def State.judged (s : State) (q : Fin 4) (k : Nat) : Bool :=
  let ph := s.get TRIM.SCSTAT.PHASE
  let cal := match s.selfCal with | none => false | some c => (ph == 1 || ph == 2) && !bitOf c.abandoned q
  !cal && s.strideSlot q != some k

/-- A passing pitch of a slot (R117, R118). -/
def State.slotPasses (s : State) (q : Fin 4) (k : Nat) : State :=
  let s := (s.set (QUAD.CHST.FAILCNT q k) 0).flag (QUAD.CHST.UNVERIFIED q k) false
  let x : Quad := { s.quads[q] with sinceVote := s.quads[q].sinceVote.set k 0, waiting := s.quads[q].waiting.erase k }
  if x.summons = some k ∧ x.voting then s.setQuad q x
  else
    let s := (s.set (QUAD.CHST.AMBCNT q k) 0).flag (QUAD.CHST.SUSPECT q k) false
    s.setQuad q (if x.summons = some k then x.freeSpare else x)

/-- A failing pitch of a slot: count, suspicion, summons; at FAILN the vote opens, or UNVERIFIED sets without a spare
(R117, R118, R123). -/
def State.slotFails (s : State) (q : Fin 4) (k : Nat) : State :=
  let s := s.incSat (QUAD.CHST.FAILCNT q k)
  let s := s.raise (QUAD.CHST.SUSPECT q k) 0x18
  let n := s.quads[q].sinceVote.getD k 0 + 1
  let s := s.modQuad q (fun x => { x with sinceVote := x.sinceVote.set k n })
  if s.on (QUAD.STATUS.NOSPARE q) then
    (if s.get (QUAD.PCNT.FAILN q) ≤ s.get (QUAD.CHST.FAILCNT q k) then s.flag (QUAD.CHST.UNVERIFIED q k) true else s)
  else if s.on (QUAD.CHST.UNVERIFIED q k) then s
  else s.modQuad q (fun x => x.summon k)

/-- The slot that holds the spare opens its vote once it has failed FAILN pitches (R118). -/
def State.openVote (s : State) (q : Fin 4) : State :=
  match s.quads[q].summons with
  | none => s
  | some k =>
    if ¬ s.quads[q].voting ∧ s.quads[q].settled ∧ s.get (QUAD.PCNT.FAILN q) ≤ s.quads[q].sinceVote.getD k 0 then
      s.modQuad q (fun x => { x with voting := true, votePitches := 0, aPass := false, bPass := false })
    else s

/-- An ambiguous vote (R118). -/
def State.ambiguous (s : State) (q : Fin 4) (k : Nat) : State :=
  let s := (s.flag (QUAD.CHST.AMBIG q k) true).incSat (QUAD.CHST.AMBCNT q k)
  let s := if 3 ≤ s.get (QUAD.CHST.AMBCNT q k) then s.flag (QUAD.CHST.UNVERIFIED q k) true else s
  s.modQuad q (fun x => { x with sinceVote := x.sinceVote.set k 0 })

/-- A vote is decided (R118): transient, retire core 0 or 1, or ambiguous. -/
def State.decideVote (s : State) (q : Fin 4) (k : Nat) (a b : Bool) : State :=
  let s := (s.bump (QUAD.VOTES.COUNT q) (QUAD.VOTES.SAT q)).arrive 0x19
  let s := s.modQuad q (fun x => { x with voting := false, sinceVote := x.sinceVote.set k 0 })
  if a ∧ b then
    ((s.bump (QUAD.TRANS.COUNT q) (QUAD.TRANS.SAT q)).flag (QUAD.CHST.SUSPECT q k) false).modQuad q Quad.freeSpare
  else if a then s.decideFirst (.retire (.core q k 1))
  else if b then s.decideFirst (.retire (.core q k 0))
  else (s.ambiguous q k).modQuad q Quad.freeSpare

/-- One pitch of an open vote (R118). -/
def State.votePitch (s : State) (q : Fin 4) (k : Nat) : State :=
  let x := s.quads[q]
  let a := x.aPass || s.withinLimits q (s.spareCmp q 0)
  let b := x.bPass || s.withinLimits q (s.spareCmp q 1)
  let n := x.votePitches + 1
  let s := s.setQuad q { x with aPass := a, bPass := b, votePitches := n }
  if s.get (QUAD.PCNT.VOTEN q) ≤ n then s.decideVote q k a b else s

/-- A passing comparison clears what an ambiguous outcome left, a failing one sets SUSPECT (R117, R118, R132). -/
def State.strideResult (s : State) (q : Fin 4) (k : Nat) (ok : Bool) : State :=
  if ok then ((s.flag (QUAD.CHST.UNVERIFIED q k) false).set (QUAD.CHST.AMBCNT q k) 0).flag (QUAD.CHST.SUSPECT q k) false
  else s.raise (QUAD.CHST.SUSPECT q k) 0x18

/-- Stride's check of the aligned core against the spare (R132): even pitches core 0, odd ones core 1; none once the channel
is UNVERIFIED (R118). -/
def State.stridePitch (s : State) (q : Fin 4) (k : Nat) (odd : Bool) : State :=
  let x := s.quads[q]
  if ¬ x.settled then s
  else
    let j := ofB odd
    let ok := s.withinLimits q (s.spareCmp q j) && !s.tripped (coreNo q k j)
    let n := if ok then 0 else x.sFails.getD j 0 + 1
    let s := (s.setQuad q { x with sFails := x.sFails.set j n, sPass := x.sPass.set j ok }).strideResult q k ok
    if n = 0 ∨ n < s.get (QUAD.PCNT.FAILN q) ∨ s.on (QUAD.CHST.UNVERIFIED q k) then s
    else if x.sPass.getD (1 - j) true then
      (s.modQuad q (fun y => { y with sFails := y.sFails.set j 0 })).decideFirst (.retire (.core q k j))
    else (s.ambiguous q k).modQuad q (fun y => { y with sFails := [0, 0] })

/-- The check of the traversing spare against a slot whose twins pass each other (R113, R122). -/
def State.sparePitch (s : State) (q : Fin 4) (k : Nat) : State :=
  let x := s.quads[q]
  if s.get (QUAD.STATUS.SPUSE q) = 0 ∧ x.pos = k ∧ x.settled ∧ s.pitchVerdict q k = some true then
    let bad := !s.withinLimits q (s.spareCmp q 0) && !s.withinLimits q (s.spareCmp q 1)
    let n := if bad then x.spareFails + 1 else 0
    if bad ∧ s.get (QUAD.PCNT.FAILN q) ≤ n then
      (s.setQuad q { x with spareFails := 0 }).decideFirst (.retire (.spare q))
    else s.setQuad q { x with spareFails := n }
  else s

/-- The comparison a slot's pitch is reported by (R116): its converters' difference; in Stride the aligned core's against
the spare (R132). -/
def State.reported (s : State) (q : Fin 4) (k : Nat) (odd : Bool) : Cmp :=
  if s.strideSlot q = some k then s.spareCmp q (ofB odd) else s.twinCmp q k

/-- The statistics and the judgement of one slot at the end of a pitch (R116–R123, R132). -/
def State.slotPitch (s : State) (q : Fin 4) (k : Nat) (odd : Bool) : State :=
  let c := s.reported q k odd
  let s := if c.n = 0 then s
    else (s.set (QUAD.DIFF.DMEAN q k) (wrapN 16 (clampI (-32767) 32767 (codesToPpm 1 c.se c.n)))).set (QUAD.DIFF.DRMS q k)
      (min 65535 (rmsPpm c.see c.n))
  if s.strideSlot q = some k then s.stridePitch q k odd
  else if ¬ s.judged q k then s
  else
    let voting := s.quads[q].voting && s.quads[q].summons == some k
    let s := match s.pitchVerdict q k with
      | none => s
      | some true => s.slotPasses q k
      | some false => s.slotFails q k
    let s := s.sparePitch q k
    if voting then s.votePitch q k else s

/-! ## Open-wire tests (R137) -/

/-- A write of one to OWGO.GO: refused while a test runs; DONE of the slots to test is cleared. -/
def State.owStart (s : State) (q : Fin 4) : Bool × State :=
  if s.quads[q].ow.isSome ∨ s.quads[q].owGo then (true, s)
  else (false, (s.modQuad q (fun x => { x with owGo := true })).forN 4 (fun k t =>
    if bitOf (s.get (QUAD.OWCTL.MASK q)) k then t.flag (QUAD.OWRES.DONE q k) false else t))

/-- OW_TEST_GO (R137). -/
def execOwTestGo (q : Fin 4) (s : State) : Host.Outcome State Fault Refusal :=
  .next (s.whenOn (if s.part.hasQuad q then (s.owStart q).2 else s))

/-- The test asked for starts at the boundary, with the MASK and NPITCH that stand there; DONE was cleared for the MASK at
GO (log entry 53). -/
def State.owBoundary (s : State) (q : Fin 4) : State :=
  if s.quads[q].owGo then
    let n := s.get (QUAD.OWCTL.NPITCH q)
    s.modQuad q (fun x => { x with
      owGo := false
      ow := some ⟨s.get (QUAD.OWCTL.MASK q), 0, n, n, false, [0, 0, 0, 0], 0, [0, 0, 0, 0], 0, 0⟩ })
  else s

/-- The result of one slot is posted (R137). -/
def State.owPost (s : State) (q : Nat) (t : OwTest) (k : Nat) : State :=
  if bitOf t.mask k then
    let shift := codesToPpm 1 (t.meas.getD k 0 * t.baseN - t.base.getD k 0 * t.measN) (t.baseN * t.measN)
    let lo := sextN 16 (s.get (QUAD.OWWIN.LO q k)) * 4
    let hi := sextN 16 (s.get (QUAD.OWWIN.HI q k)) * 4
    let s := (s.set (QUAD.OWRES.SHIFT q k) (wrapN 24 shift)).flag (QUAD.OWRES.OPEN q k) (bitOf t.ovl k)
    (s.flag (QUAD.OWRES.FAIL q k) (decide (shift < lo ∨ hi < shift))).flag (QUAD.OWRES.DONE q k) true
  else s

/-- One pitch of a running test (R137): the means are of the channel streams' words. The pins go on at the boundary that
ends the last baseline pitch: that boundary is read as the one that follows the baseline (log entry 53). -/
def State.owPitch (s : State) (q : Fin 4) : State :=
  match s.quads[q].ow with
  | none => s
  | some t =>
    let add := fun (l : List Int) => l.mapIdx (fun k v => v + s.streams.front.sums.getD (4 * q + k) 0)
    let n := 8 * s.streams.front.n
    if t.phase = 0 then
      let t' : OwTest := { t with base := add t.base, baseN := t.baseN + n, left := t.left - 1 }
      s.modQuad q (fun x => { x with ow := some (if t'.left = 0 then { t' with phase := 1, live := true } else t') })
    else if t.phase = 1 then s.modQuad q (fun x => { x with ow := some { t with phase := 2, left := t.n } })
    else
      let ovl := bitsOf 4 (fun k => bitOf t.ovl k || s.slotTripped q k)
      let t' : OwTest := { t with meas := add t.meas, measN := t.measN + n, ovl := ovl, left := t.left - 1 }
      if t'.left = 0 then
        ((s.forN 4 (fun k u => u.owPost q t' k)).modQuad q (fun x => { x with ow := none })).arrive 0x1C
      else s.modQuad q (fun x => { x with ow := some t' })

/-! ## Stride (R129–R134) -/

/-- A write of MODE is refused (R129). -/
def State.strideBad (s : State) (q : Fin 4) (v : Nat) : Bool :=
  let sch := field v 1 2
  (s.on (QUAD.MODE.STRIDE q) && sch != s.get (QUAD.MODE.SCH q)) ||
  (bitOf v 0 && !s.on (QUAD.MODE.STRIDE q) &&
    (s.on (QUAD.STATUS.NOSPARE q) || s.quads[q].summons.isSome ||
      s.get (FILT.CFG.ORDER (slotChan (4 * q + sch))) != 5))

/-- A write of QUADq.MODE: the state, and whether it was refused. -/
def State.modeWrite (s : State) (q : Fin 4) (v : Nat) : Bool × State :=
  if s.strideBad q v then (true, s.raise (QUAD.STATUS.STRIDEREF q) 0x1B)
  else (false, s.writeCells ((cellsOf regsQuad (16 + q) 0 0).getD []) v)

/-- STRIDE_REQUEST (R129). -/
def execStrideRequest (q : Fin 4) (v : Word) (s : State) : Host.Outcome State Fault Refusal :=
  .next (s.whenOn (if s.part.hasQuad q then (s.modeWrite q v.toNat).2 else s))

/-- The delay trim's factory position of a core (R373). -/
def State.factorySkew (s : State) (n : Nat) : Nat :=
  if s.on SYS.STATUS.TRIMFLT then 32 else field (s.otpUsed (10 + 4 * n)) 0 6

/-- Stride leaves the slot that has it: its first core alone for two grains (R131). -/
def State.strideOff (s : State) (q : Fin 4) : State :=
  if s.on (QUAD.STATUS.STRIDEON q) then
    ((s.flag (QUAD.STATUS.STRIDEON q) false).flag (QUAD.STATUS.ILVSETTLING q) false).modQuad q
      (fun x => { x with alone := x.alone.set x.strideK (s.clock.grain + 2) })
  else s

/-- Stride takes the slot SCH names: core 0 alone for two grains, the interleave corrections at their start (R131, R133; log
entry 53). -/
def State.strideTakes (s : State) (q : Fin 4) : State :=
  let k := s.get (QUAD.MODE.SCH q)
  ((s.flag (QUAD.STATUS.STRIDEON q) true).flag (QUAD.STATUS.ILVSETTLING q) true).modQuad q (fun x => { x with
    strideK := k, strideEnd := 0, sFails := [0, 0], sPass := [true, true], sGain := [none, none]
    ilvG := 0, ilvS := s.factorySkew (coreNo q k 1), alone := x.alone.set k (s.clock.grain + 2) })

/-- Stride ends by the module, with STRIDEABORT and an event record (R134). -/
def State.strideAbort (s : State) (q : Fin 4) : State :=
  let x := s.quads[q]
  let k := if s.on (QUAD.STATUS.STRIDEON q) then x.strideK else s.get (QUAD.MODE.SCH q)
  let s := ((s.strideOff q).flag (QUAD.MODE.STRIDE q) false).raise (QUAD.STATUS.STRIDEABORT q) 0x1B
  (s.stageEvent (16 + q) 1 [BitVec.ofNat 8 k, BitVec.ofNat 8 (x.strideEnd - 1)]).modQuad q
    (fun y => { y with strideEnd := 0 })

/-- Stride begins or ends at a boundary (R129, R131, R134). -/
def State.strideBoundary (s : State) (q : Fin 4) : State :=
  let s := s.spareClaims q
  let x := s.quads[q]
  if x.strideEnd ≠ 0 then s.strideAbort q
  else if s.on (QUAD.STATUS.STRIDEON q) ∧ s.on (QUAD.MODE.STRIDE q) ∧ s.get (QUAD.MODE.SCH q) = x.strideK then s
  else
    let s := s.strideOff q
    if s.on (QUAD.MODE.STRIDE q) then s.strideTakes q else s

/-- The relative gain of a comparison, in 0.01 ppm (R384). -/
def gainOf (c : Cmp) : Int := Config.round ((c.sums.sxr - c.sums.srr) * 10 ^ 8) c.sums.srr.toNat

/-- The gain estimate of a pitch (R133): core 1's gain against core 0's, each by its latest pitch against the spare, in 0.1
ppm (log entry 53). -/
def State.ilvGainEst (s : State) (q : Fin 4) (odd : Bool) : State :=
  let c := s.spareCmp q (ofB odd)
  if c.sums.srr = 0 then s
  else
    let g := s.quads[q].sGain.set (ofB odd) (some (gainOf c))
    let s := s.modQuad q (fun x => { x with sGain := g })
    match g with
    | [some g0, some g1] => s.set (QUAD.ILVGAIN.GERR q) (wrapN 16 (clampI (-32768) 32767 (Config.round (g1 - g0) 10)))
    | _ => s

/-- The skew estimate of an odd pitch, −Σ d·x′ / Σ x′² in ps, the samples 31.25 µs apart (R133). -/
def State.ilvSkewEst (s : State) (q : Fin 4) : State :=
  let k := s.streams.front.skew.getD q Skew.zero
  if k.den = 0 then s
  else s.set (QUAD.ILVSKEW.SKEW q) (wrapN 16 (clampI (-32768) 32767 (Config.round (-2 * 31250000 * k.num) k.den.toNat)))

/-- The interleave estimates of a pitch (R133), and the end of ILVSETTLING. -/
def State.ilvPitch (s : State) (q : Fin 4) (odd : Bool) : State :=
  if s.on (QUAD.STATUS.STRIDEON q) ∧ s.quads[q].settled then
    let s := s.ilvGainEst q odd
    let s := if odd then s.ilvSkewEst q else s
    let known := s.quads[q].sGain.all Option.isSome
    let g := sextN 16 (s.get (QUAD.ILVGAIN.GERR q))
    let k := sextN 16 (s.get (QUAD.ILVSKEW.SKEW q))
    if known ∧ g.natAbs ≤ 50 ∧ k.natAbs ≤ 10 then s.flag (QUAD.STATUS.ILVSETTLING q) false else s
  else s

/-- The step of the interleave gain correction at a block, in gain LSBs (R133): at most 1 ppm. -/
def State.ilvStep (s : State) (q : Nat) : Int :=
  if s.on (QUAD.STATUS.STRIDEON q) then
    clampI (-8) 8 (Config.round (-(sextN 16 (s.get (QUAD.ILVGAIN.GERR q))) * 65536) 80000) else 0

/-- The interleave correction of a block (R133): at most 1 ppm of gain and one of 64 positions of the delay trim toward the
estimates; an estimate within 6 ps, about a position, leaves the trim (log entry 53). -/
def State.ilvBlock (s : State) (q : Fin 4) : State :=
  if s.on (QUAD.STATUS.STRIDEON q) then
    let k := sextN 16 (s.get (QUAD.ILVSKEW.SKEW q))
    s.modQuad q (fun x => { x with
      ilvG := x.ilvG + s.ilvStep q
      ilvS := if 6 < k then x.ilvS - 1 else if k < -6 then min 63 (x.ilvS + 1) else x.ilvS })
  else s

/-! ## Pitch and boundary of a quad -/

/-- One quad at the end of a pitch. -/
def State.quadPitch (s : State) (q : Fin 4) : State :=
  if s.part.hasQuad q then
    let odd := decide (s.get TIME.PITCHLO.PLO % 2 = 1)
    let s := s.forN 4 (fun k t => t.slotPitch q k odd)
    let s := ((s.openVote q).owPitch q).ilvPitch q odd
    if s.get (QUAD.STATUS.SPUSE q) = 0 ∧ s.quads[q].connected < s.clock.grain then
      s.modQuad q (fun x => { x with dwell := x.dwell - 1 }) else s
  else s

/-- The comparisons, sums and overloads of the next pitch begin (R116). -/
def Front.nextPitch (f : Front) : Front :=
  { f with
    tripped := 0
    cmp := List.replicate 16 Cmp.zero, cmp0 := List.replicate 4 Cmp.zero, cmp1 := List.replicate 4 Cmp.zero
    sums := List.replicate 16 0, n := 0
    skew := f.skew.map (fun k => { k with num := 0, den := 0 }) }

/-- CORES of a slot after a change-over, NOSPARE, and the end of a strided channel's Stride (R121, R122, R134). SUSPECT of the
channel, whose failing core is gone, clears with the change-over (log entry 53). -/
def State.changeOne (s : State) : RetireWhat → State
  | .core q k j =>
    let s := (s.set (QUAD.CHST.CORES q k) (if j = 0 then 2 else 1)).flag (QUAD.STATUS.NOSPARE q) true
    let s := s.flag (QUAD.CHST.SUSPECT q k) false
    let strided := s.strideSlot q == some k
    s.modQuad (Fin.ofNat 4 q) (fun x => { x with
      summons := none
      voting := false
      waiting := []
      strideEnd := if strided then 3 else x.strideEnd })
  | .spare q => s.flag (QUAD.STATUS.NOSPARE q) true
  | .lane _ => s

/-- The boundary work of the quads. -/
def State.quadBoundary (s : State) : State :=
  let s : State := { s.changeOver.foldl State.changeOne s with changeOver := [] }
  (List.finRange 4).foldl (fun (t : State) (q : Fin 4) =>
    if t.part.hasQuad q then ((t.owBoundary q).strideBoundary q).spareBoundary q else t) s

/-- The number of the core that trips on slot k: core 0, core 1 or the spare (R371). -/
def tripCore (q k : Nat) (which : Fin 3) : Nat :=
  match which with | 0 => coreNo q k 0 | 1 => coreNo q k 1 | 2 => 32 + q

/-- OVERLOAD_TRIP (R113): core 0, core 1 or the spare on a slot. Its integrators reset in the MOD period of the trip, its
words of the grain are clipped to ±0.75, and the pitch counts the trip; OVL sets. -/
def execOverloadTrip (q : Fin 4) (k : Fin 4) (which : Fin 3) (s : State) : Host.Outcome State Fault Refusal :=
  .next (if s.power = .on ∧ s.part.hasQuad q then
    let f := s.streams.front
    let n := tripCore q k which
    let t : State := { s with streams := { s.streams with front := { f with
      trips := f.trips ++ [(n, min 399 (s.clock.phase / 16))]
      tripped := if bitOf f.tripped n then f.tripped else f.tripped + 2 ^ n } } }
    t.flag (match which with | 0 => QUAD.CHST.OVL0 q k | 1 => QUAD.CHST.OVL1 q k | 2 => QUAD.CHST.OVLS q k) true
  else s)

/-! ## The registers of QUAD (R144) -/

/-- The views of QUAD: IDWELL is reserved on the MS1200 and reads zero there (R14, R144). -/
def quadView (s : State) (q : Fin 4) (idx : Nat) : Option Nat :=
  if idx = 2 ∧ ¬ s.part.big then some (s.get (QUAD.DWELL.DWELL q)) else none

/-- The writes of QUAD that do more than store. -/
def quadWrite (s : State) (q : Fin 4) (idx v : Nat) : Option State :=
  if idx = 0 then some (s.modeWrite q v).2
  else if idx = 2 then
    let t := s.writeCells ((cellsOf regsQuad (16 + q) 2 0).getD []) v
    some (if s.part.big then t else t.set (QUAD.DWELL.IDWELL q) (s.get (QUAD.DWELL.IDWELL q)))
  else if 0x10 ≤ idx ∧ idx < 0x14 then
    let t := s.writeCells ((cellsOf regsQuad (16 + q) idx 0).getD []) v
    some (if isVoltage (slotChan (4 * q + (idx - 0x10))) then t.set (QUAD.CFG.GAIN q (idx - 0x10)) 0 else t)
  else if idx = 0x15 then some (if bitOf v 0 then (s.owStart q).2 else s)
  else none

/-! ## Bitstream inputs (R139–R143) -/

/-- The bitstreams the part has: BD1–BD4, or all eight (R145). -/
def Part.bitMask (p : Part) : Nat := if p.big then 0xFF else 0x0F

/-- The clock is lost (R142): the 1024 good grains begin anew, and the loss is counted and journalled. -/
def State.bitclkLost (s : State) : State :=
  let s := { s with bitMon := { s.bitMon with goodSince := s.clock.grain } }
  let s := s.flag BITIN.STATUS.REQUAL true
  let s := ((s.flag BITIN.STATUS.CLKLOST true).flag BITIN.STATUS.CLKOK false).bump BITIN.LOSSCNT.COUNT BITIN.LOSSCNT.SAT
  let s := s.set BITIN.STATUS.VALID 0
  (s.stageEvent 0x14 1 [BitVec.ofNat 8 (s.readCells ((cellsOf regsBitin 0x14 1 0).getD []))]).arrive 0x1D

/-- BITCLK_LOSS (R142): no edge for 128 cycles, or the measured frequency has left its range. -/
def execBitclkLoss (f : BitVec 18) (s : State) : Host.Outcome State Fault Refusal :=
  .next (if s.power = .on then
    (({ s with bitMon := { s.bitMon with inRange := false } } : State).set BITIN.FMEAS.F f.toNat).bitclkLost
  else s)

/-- The bitstreams' CIC decimators and the rate converter are flushed (R142). -/
def State.bitFlush (s : State) : State :=
  let f := s.streams.front
  { s with streams := { s.streams with front := { f with
    cics := f.cics.take 38 ++ List.replicate 8 Cic.zero, conv := List.replicate 8 [] } } }

/-- BITCLK_REQUALIFY (R142): 1024 grains of good clock; CIC and converter are flushed, and the samples are valid from the next
boundary. -/
def execBitclkRequalify (s : State) : Host.Outcome State Fault Refusal :=
  .next (if s.power = .on ∧ ¬ s.on BITIN.STATUS.CLKOK ∧ s.bitMon.goodSince + 1024 ≤ s.clock.grain then
    let t := (s.bitFlush.flag BITIN.STATUS.CLKOK true).flag BITIN.STATUS.REQUAL false
    (t.stageEvent 0x14 2 [BitVec.ofNat 8 (t.readCells ((cellsOf regsBitin 0x14 1 0).getD []))]).arrive 0x1D
  else s)

/-- BITSTREAM_STUCK (R143): 256 equal bits; samples are invalid for 64 grains more. -/
def execBitstreamStuck (k : Fin 8) (s : State) : Host.Outcome State Fault Refusal :=
  .next (if s.power = .on ∧ s.bit BITIN.CTRL.EN k then
    let t := if s.bit BITIN.STATUS.STUCK k then s else (s.setBit BITIN.STATUS.STUCK k true).arrive 0x1E
    { t with bitMon := { t.bitMon with stuckEnd := t.bitMon.stuckEnd.set k (t.clock.grain + 65) } }
  else s)

/-- BITSTREAM_RANGE_EXCEED (R143): the limit has been exceeded for RGRAINS grains. -/
def execBitstreamRangeExceed (k : Fin 8) (s : State) : Host.Outcome State Fault Refusal :=
  .next (if s.power = .on ∧ s.get BITIN.RLIM.RGRAINS ≤ s.bitMon.above.getD k 0 ∧ ¬ s.bit BITIN.STATUS.OVR k then
    (s.setBit BITIN.STATUS.OVR k true).arrive 0x1E else s)

/-- The frequency, in 100 Hz, lies within 4.8–20.8 MHz (R142). -/
def bitclkInRange (f : Nat) : Bool := decide (48000 ≤ f ∧ f ≤ 208000)

/-- FMEAS of a boundary: a frequency that leaves its range is a loss; while it is out the 1024 grains do not begin (R142). -/
def State.bitMeasure (s : State) (f : Nat) : State :=
  let was := s.bitMon.inRange
  let s : State := { s.set BITIN.FMEAS.F f with bitMon := { s.bitMon with inRange := bitclkInRange f } }
  if bitclkInRange f then s
  else if was then s.bitclkLost
  else { s with bitMon := { s.bitMon with goodSince := s.clock.grain } }

/-- The boundary work of BITIN: a changed clock source, the measured rate, the valid channels (R140–R143). -/
def State.bitBoundary (s : State) (f : Nat) : State :=
  let s := s.bitMeasure f
  let s := if s.get BITIN.CTRL.CLKSRC = s.eff BITIN.CTRL.CLKSRC then s
    else (s.takeEffect BITIN.CTRL.CLKSRC).bitclkLost
  let rateBad := s.eff BITIN.CTRL.CLKSRC != 0 && !s.decOk
  let s := if rateBad then s.flag BITIN.STATUS.FREQERR true else s
  s.set BITIN.STATUS.VALID (bitsOf 8 (fun k => s.on BITIN.STATUS.CLKOK && !rateBad && s.bit BITIN.CTRL.EN k &&
    decide (s.bitMon.stuckEnd.getD k 0 ≤ s.clock.grain)))

/-- Grains over the limit, after a fill (R143). -/
def State.bitRange (s : State) : State :=
  { s with bitMon := { s.bitMon with above := s.bitMon.above.mapIdx (fun k n =>
      let x := s.streams.now.getD (16 + k) ⟨0, 0, true⟩
      if !x.inv && decide (s.get BITIN.RLIM.LIM * 2 ^ 16 < x.val.toInt.natAbs) then n + 1 else 0) } }

/-- The writes of BITIN that do more than store. -/
def bitinWrite (s : State) (idx v : Nat) : Option State :=
  if idx = 0 then
    let t := s.writeCells ((cellsOf regsBitin 0x14 0 0).getD []) v
    some (t.set BITIN.CTRL.EN (t.get BITIN.CTRL.EN &&& s.part.bitMask))
  else none

end Sys2Proof.Machine
end

