-- ==== Sys2Proof/Machine/Cairn.lean ====
section
/-! DEFINITION. The trim record, the cairn's write and read ports, and retirements (R119–R122, R252, R340–R344, R370,
R388). -/

namespace Sys2Proof.Machine

/-! ## The trim record (R342, R388) -/

/-- A word of a trim slot. -/
def wordsGet (l : List (Nat × Word)) (i : Nat) : Word := sparseGet 0 i l

/-- Write a word of a trim slot; words of zero are not listed. -/
def wordsPut (l : List (Nat × Word)) (i : Nat) (v : Word) : List (Nat × Word) :=
  sparsePut (fun a b => decide (a < b)) 0 i v l

/-- The 4080 data bytes of a trim slot. -/
def trimData (l : List (Nat × Word)) : List Byte :=
  (List.range 1020).flatMap (fun i => leBytes 4 (wordsGet l i).toNat)

/-- Which slot holds the committed trim record (R341): 0 A, 1 B, none where both are bad. -/
def Cairn.trimSel (c : Cairn) : Option Nat :=
  if c.trA.valid && (!c.trB.valid || decide (c.trB.gen ≤ c.trA.gen)) then some 0
  else if c.trB.valid then some 1 else none

/-- The committed trim record: no word where it is lost. -/
def Cairn.trim (c : Cairn) : TrimSlot :=
  match c.trimSel with
  | some 0 => c.trA
  | some _ => c.trB
  | none => ⟨0, true, []⟩

/-- The slot the next write goes to loses its commit word (R340). -/
def Cairn.trimInvalidate (c : Cairn) : Cairn :=
  if c.trimSel = some 0 then { c with trB := { c.trB with valid := false } }
  else { c with trA := { c.trA with valid := false } }

/-- The two-phase write of the trim record (R340): the slot that does not hold the committed copy takes the words and a
generation one greater than the other's. -/
def Cairn.writeTrim (c : Cairn) (w : List (Nat × Word)) : Cairn :=
  let t : TrimSlot := ⟨c.trim.gen + 1, true, w⟩
  if c.trimSel = some 0 then { c with trB := t } else { c with trA := t }

/-! ## The write port (R344) -/

/-- BUSY (R344, R370): the copy, or the write of a word, which takes 32 cycles (R339), is in progress. -/
def State.portBusy (s : State) : Bool := s.port.copying || decide (s.clock.now < s.port.until')

/-- The view of PSTAT (R370). -/
def State.pstatView (s : State) : Nat :=
  s.get CAIRN.PSTAT.OPEN + 2 * ofB s.portBusy + 4 * s.get CAIRN.PSTAT.DONE

/-- A refused port write (R344). -/
def State.portRefused (s : State) : State := s.raise CAIRN.STATUS.PREF 0x2F

/-- OPEN: a write begins, and the committed slot is copied into the alternate one. -/
def State.portOpen (s : State) : State :=
  let t := (s.flag CAIRN.PSTAT.DONE false).flag CAIRN.PSTAT.OPEN true
  { t with cairn := t.cairn.trimInvalidate, port := ⟨true, true, [], 0⟩ }

/-- PORT_COPY_DONE: the working slot holds the committed words. -/
def State.portCopied (s : State) : State :=
  if s.port.copying then
    { s with port := { s.port with copying := false, work := s.cairn.trim.words } }
  else s

/-- A word of the slot that a holder may change (R388): the drift words need VENDOR level. -/
def State.portWordOk (s : State) (w : Nat) : Bool :=
  decide (w < 1020) && (!(decide (4 ≤ w ∧ w ≤ 190)) || decide (3 ≤ s.level))

/-- PORT_DATA_WRITE: the word at WORD is written and WORD advances. -/
def State.portData (s : State) (v : Word) : State :=
  let w := s.get CAIRN.PADDR.WORD
  if s.portBusy ∨ ¬ s.port.opened ∨ s.portWordOk w = false then s.portRefused
  else { s.set CAIRN.PADDR.WORD (w + 1) with
    port := { s.port with work := wordsPut s.port.work w v, until' := s.clock.now + 32 } }

/-- The words that only the supervisor may change: RETGEN, the retired-core map, INSVC (R388). -/
def retireWords (l : List (Nat × Word)) : List Word := [wordsGet l 1, wordsGet l 2, wordsGet l 3]

/-- The write port is closed. -/
def State.portClose (s : State) : State :=
  { s.flag CAIRN.PSTAT.OPEN false with port := ⟨false, false, [], 0⟩ }

/-- COMMIT: the commit word makes the written slot the committed one, unless the retirement words would change. -/
def State.portCommit (s : State) : State :=
  if ¬ s.port.opened ∨ retireWords s.port.work ≠ retireWords s.cairn.trim.words then s.portRefused
  else
    let t : State := { s with cairn := s.cairn.writeTrim s.port.work }
    ((t.portClose).flag CAIRN.PSTAT.DONE true).arrive 0x2F

/-- ABORT, or a rollback on revocation (R257): the open write is abandoned. -/
def State.portAbort (s : State) : State := s.portClose

/-- PORT_COPY_DONE. -/
def execPortCopyDone (s : State) : Host.Outcome State Fault Refusal := .next (s.whenOn s.portCopied)

/-! ## The read port (R370) -/

/-- The words of an area: state, carry, trim, order queue, ring, identity (R342). -/
def areaWords (area : Nat) : Nat := [3072, 2560, 1024, 4096, 40960, 256].getD area 0

/-- A little-endian word of bytes. -/
def wordOf (bs : List Byte) (w : Nat) : Word := BitVec.ofNat 32 (u32At bs (4 * w))

/-- The ring byte that stands at an offset: a record's, or open where no rule says what freed space holds (log entry
15); the rest of a segment behind its last record is marked 0x00 (R360). -/
def State.ringWord (s : State) (w : Nat) : Word :=
  let o := 4 * w
  match s.cairn.ring.find? (fun r => decide (r.off ≤ o ∧ o < r.off + r.what.len)) with
  | some r => wordOf (r.what.bytes r.seq) ((o - r.off) / 4)
  | none =>
    if s.cairn.ring.any (fun r => r.off / 4096 == o / 4096 && decide (r.off + r.what.len ≤ o)) &&
        s.jrnl.head / 4096 != o / 4096 then 0
    else Config.cairnWord 4 w

/-- The data words of a carry slot: open, since no rule lays them out, but a function of what the carry holds (log entry 15). -/
def Carry.data (c : Carry) : List Byte :=
  let what := [c.gen, c.first, c.last, c.fromG, c.grain, c.epoch, c.flags, c.tail, ofB c.empty] ++ c.counts ++
    c.entries.flatMap (fun e => [e.slot, e.sub, e.flags, wrapN 96 e.inc])
  (List.range 10224).map (Config.areaByte 0x9000 what)

/-- A word of the committed carry slot: its data and its commit word (R340, R364). -/
def Cairn.carryWord (c : Cairn) (w : Nat) : Word :=
  match (if carryGen c.cyA < carryGen c.cyB then c.cyB else c.cyA) with
  | none => 0
  | some x => if w < 2556 then wordOf x.data w else wordOf (commitWord x.gen x.data) (w - 2556)

/-- The word of an area (R342). -/
def State.cairnRead (s : State) (area w : Nat) : Word :=
  if area = 0 then (match newer s.cairn.stA s.cairn.stB with | none => 0 | some b => wordOf b.bytes w)
  else if area = 1 then s.cairn.carryWord w
  else if area = 2 then
    let t := s.cairn.trim
    if w < 1020 then wordsGet t.words w else wordOf (commitWord t.gen (trimData t.words)) (w - 1020)
  else if area = 3 then
    (match s.cairn.orders.find? (fun e => (e.ordno - 1) % 128 == w / 32) with
     | none => 0
     | some e => wordOf e.bytes (w % 32))
  else if area = 4 then s.ringWord w
  else Config.cairnWord 5 w

/-- A fetch begins: ready 32 CORE cycles later. -/
def State.cairnFetch (s : State) : State :=
  { s.flag CAIRN.RSTAT.READY false with readAt := s.clock.now + 32 }

/-- CAIRN_ADDR_WRITE. -/
def State.cairnAddr (s : State) (v : Nat) : State := (s.set CAIRN.RADDR.WORD v).cairnFetch

/-- CAIRN_READ_READY: the addressed word is fetched; beyond the area it is zero and RERR sets. -/
def State.cairnReady (s : State) : State :=
  if s.on CAIRN.RSTAT.READY ∨ s.clock.now < s.readAt ∨ s.readAt = 0 then s
  else
    let area := s.get CAIRN.RAREA.AREA
    let w := s.get CAIRN.RADDR.WORD
    if areaWords area ≤ w then ((s.set CAIRN.RDATA.DATA 0).flag CAIRN.RSTAT.RERR true).flag CAIRN.RSTAT.READY true
    else (s.set CAIRN.RDATA.DATA (s.cairnRead area w).toNat).flag CAIRN.RSTAT.READY true

/-- What a read of RDATA returns. -/
def State.cairnDataView (s : State) : Nat := if s.on CAIRN.RSTAT.READY then s.get CAIRN.RDATA.DATA else 0

/-- What a read of RDATA does: RERR where it came before READY; WORD advances and the next word is fetched. -/
def State.cairnAfterData (s : State) : State :=
  let s := if s.on CAIRN.RSTAT.READY then s else s.flag CAIRN.RSTAT.RERR true
  (s.set CAIRN.RADDR.WORD (s.get CAIRN.RADDR.WORD + 1)).cairnFetch

/-- CAIRN_ADDR_WRITE. -/
def execCairnAddrWrite (v : Word) (s : State) : Host.Outcome State Fault Refusal := .next (s.whenOn (s.cairnAddr v.toNat))

/-- CAIRN_READ_READY. -/
def execCairnReadReady (s : State) : Host.Outcome State Fault Refusal := .next (s.whenOn s.cairnReady)

/-- CAIRN_DATA_READ. -/
def execCairnDataRead (s : State) : Host.Outcome State Fault Refusal :=
  .next (s.whenOn { s.cairnAfterData with readData := BitVec.ofNat 32 s.cairnDataView })

/-- The views of CAIRN. -/
def cairnView (s : State) (idx : Nat) : Option Nat :=
  if idx = 0x04 then some s.pstatView else if idx = 0x0A then some s.cairnDataView else none

/-- What a read of CAIRN does besides. -/
def cairnAfterRead (s : State) (idx : Nat) : State := if idx = 0x0A then s.cairnAfterData else s

/-- A written PCTL is refused where it asks for something for another area than the trim record, or while BUSY (R344). -/
def State.portCtlBad (s : State) (v : Nat) : Bool :=
  (bitOf v 7 || bitOf v 8 || bitOf v 9) && (v % 4 != 1 || s.portBusy)

/-- A written PCTL acts: ABORT, COMMIT, OPEN, in that order. -/
def State.portCtl (s : State) (v : Nat) : State :=
  if s.portCtlBad v then s.portRefused else
  let s := if bitOf v 9 then s.portAbort else s
  let s := if bitOf v 8 then s.portCommit else s
  if bitOf v 7 then s.portOpen else s

/-- The writes of CAIRN that do more than store. -/
def cairnWrite (s : State) (idx v : Nat) : Option State :=
  if idx = 0x01 then some (s.portCtl v)
  else if idx = 0x03 then some (s.portData (BitVec.ofNat 32 v))
  else if idx = 0x09 then some (s.cairnAddr (v % 2 ^ 16))
  else none

/-! ## Retirements (R120, R252) -/

/-- The trim record's words after a retirement: RETGEN counts it, the map or INSVC names it. -/
def retireTrim (l : List (Nat × Word)) (w : RetireWhat) (insvc : Nat) : List (Nat × Word) :=
  let l := wordsPut l 1 (wordsGet l 1 + 1)
  match w with
  | .core q k j => wordsPut l 2 (BitVec.ofNat 32 (withBit (wordsGet l 2).toNat (8 * q + 4 * j + k) true))
  | .spare q => wordsPut l 3 (BitVec.ofNat 32 (withBit (wordsGet l 3).toNat q true))
  | .lane _ =>
    let x := (wordsGet l 3).toNat
    wordsPut l 3 (BitVec.ofNat 32 (x - field x 8 5 * 256 + insvc * 256))

/-- The journal's retire record: a core (what, which), the spare, a lane (R358). -/
def State.stageRetireOf (s : State) : RetireWhat → State
  | .core q k j => s.stageRetire 0 (16 + q) (2 * k + j)
  | .spare q => s.stageRetire 1 (16 + q) 0
  | .lane n => s.stageRetire 2 0 n

/-- The registers that show a retirement. -/
def State.showRetired (s : State) : RetireWhat → State
  | .core q k j =>
    (s.setBit (if j = 0 then QUAD.RETIRED.C0RET q else QUAD.RETIRED.C1RET q) k true).flag
      (TRIM.CSTAT.RETIRED (coreNo q k j)) true
  | .spare q => (s.flag (QUAD.RETIRED.SPRET q) true).flag (TRIM.CSTAT.RETIRED (32 + q)) true
  | .lane n => s.setBit SYS.LANE.INSVC n false

/-- The two-phase write, the record and the registers of one retirement. -/
def State.commitRetire (s : State) (w : RetireWhat) : State :=
  let s := s.showRetired w
  let s : State := { s with
    cairn := s.cairn.writeTrim (retireTrim s.cairn.trim.words w (s.get SYS.LANE.INSVC))
    jrnl := { s.jrnl with retgen := s.jrnl.retgen + 1 } }
  s.stageRetireOf w

/-- RETIRE_COMMIT (R120, R122): the first converter retirement decided, with the write port free; the stream changes over
at the next boundary. -/
def execRetireCommit (s : State) : Host.Outcome State Fault Refusal :=
  .next (if s.power = .on ∧ ¬ s.portHeld then
    match s.retiring.find? (fun w => match w with | .lane _ => false | _ => true) with
    | none => s
    | some w =>
      let t := (s.commitRetire w).arrive 0x1A
      ({ t with retiring := t.retiring.erase w, changeOver := t.changeOver ++ [w] } : State).supervisorDone
  else s)

end Sys2Proof.Machine
end

