-- ==== Sys2Proof/Machine/Trim.lean ====
section
/-! DEFINITION. Trims, self-calibration and drift tracking (12_calibration_and_drift.md). -/

namespace Sys2Proof.Machine

/-! ## Cores (R371) -/

/-- A core the part has (R4). -/
def Part.hasCore (p : Part) (n : Nat) : Bool :=
  if n < 32 then p.hasChan (n / 2) else if n < 36 then p.hasQuad (n - 32) else decide (n < 38) && p.optL

/-- The quad of a core: none for channel M. -/
def coreQuad (n : Nat) : Option (Fin 4) :=
  if n < 32 then (chanSlot (n / 2)).map (fun i => Fin.ofNat 4 (i / 4))
  else if n < 36 then some (Fin.ofNat 4 (n - 32)) else none

/-! ## Factory trims and the codes (R372–R374) -/

/-- The factory gain code: nominal under trim fault (R374). -/
def State.fgain (s : State) (n : Nat) : Nat :=
  if s.on SYS.STATUS.TRIMFLT then 0x8000 else s.otpUsed (8 + 4 * n) % 2 ^ 16

/-- The factory offset code. -/
def State.fofs (s : State) (n : Nat) : Nat :=
  if s.on SYS.STATUS.TRIMFLT then 0x800 else field (s.otpUsed (8 + 4 * n)) 16 12

/-- The common term of a core's quad, and the interleave correction of a strided core 1 (R133). -/
def State.quadTerms (s : State) (n : Nat) : Int :=
  match coreQuad n with
  | none => 0
  | some q =>
    let strided := match s.strideSlot q with | none => false | some k => n == coreNo q k 1
    sextN 16 (s.get (TRIM.QCOM.QCOM q)) + (if strided then s.quads[q].ilvG else 0)

/-- The gain code before its clamp (R372). -/
def State.rawGain (s : State) (n : Nat) : Int :=
  s.fgain n + sextN 16 (s.get (TRIM.CSC.SCG n)) + s.quadTerms n + sextN 16 (s.get (TRIM.CDRIFT.DG n))

/-- The offset code before its clamp (R372). -/
def State.rawOfs (s : State) (n : Nat) : Int :=
  s.fofs n + sextN 16 (s.get (TRIM.CSC.SCO n)) + sextN 16 (s.get (TRIM.CDRIFT.DOFS n))

/-- A code that its clamp changes sets CLAMP (R372). -/
def State.noteClamp (s : State) (n : Nat) : State :=
  if s.rawGain n < 0 ∨ 0xFFFF < s.rawGain n ∨ s.rawOfs n < 0 ∨ 0xFFF < s.rawOfs n then
    s.flag (TRIM.CSTAT.CLAMP n) true else s

/-- The clamps of every core. -/
def State.noteClamps (s : State) : State := s.forN 38 (fun n t => if t.part.hasCore n then t.noteClamp n else t)

/-! ## The freeze of the ramp (R383) -/

/-- The ramp is frozen by the host or by tamper. -/
def State.rampFrozen (s : State) : Bool := s.on TRIM.DCTL.FREEZE || s.on TRIM.STATUS.TFREEZE

/-- FROZEN follows: any reason (R389). -/
def State.showFrozen (s : State) : State :=
  s.flag TRIM.STATUS.FROZEN (s.rampFrozen || s.on TRIM.STATUS.SHDEV)

/-! ## SELFCAL (R375–R379) -/

/-- GO is refused (R375). -/
def State.selfCalBad (s : State) (who permit : Nat) : Bool :=
  s.get (PERMIT.SLOT.STATE permit) != 2 || s.get (PERMIT.SLOT.HOLDER permit) != who ||
  decide (s.get (PERMIT.SLOT.DRAW permit) < 180) || decide (s.get (PERMIT.REM.GRAINS permit) < 2304) ||
  s.selfCal.isSome || s.on PWR.STATE.SFW

/-- GO by a holder, with a permit's number: SELFCAL begins at the next boundary (R375, R376). -/
def State.selfCalGo (s : State) (who permit : Nat) : State :=
  if s.selfCalBad who permit then s.flag TRIM.STATUS.SCREF true
  else
    let t : State := { s with selfCal := some ⟨s.clock.grain + 1, permit, 0, List.replicate 38 0, List.replicate 38 0⟩ }
    (((t.set TRIM.SCSTAT.PHASE 0).set TRIM.SCSTAT.ABANDON 0).set TRIM.SCSTAT.STRSKIP 0).set TRIM.SCSTAT.MSKIP 0

/-- SELFCAL ends, or is cut short. -/
def State.selfCalStop (s : State) (phase : Nat) : State :=
  ({ s with selfCal := none }.set TRIM.SCSTAT.PHASE phase).arrive 0x30

/-- The permit ends, is revoked, or a supply-fail warning is raised (R379): the phase in progress is abandoned in every
quad, whose cores rejoin. -/
def State.selfCalAbort (s : State) : State :=
  match s.selfCal with
  | none => s
  | some c =>
    let running := decide (s.get TRIM.SCSTAT.PHASE ≠ 0)
    let s := s.forN 4 (fun q t => if running && t.part.hasQuad q && !bitOf c.abandoned q then
      (t.rejoinSettle q).setBit TRIM.SCSTAT.ABANDON q true else t)
    (s.selfCalStop 0).flag TRIM.STATUS.SCABORT true

/-- The strided quads skip their strided channel (R377). -/
def State.strideSkips (s : State) : State :=
  s.forN 4 (fun q t => if t.on (QUAD.STATUS.STRIDEON q) then t.setBit TRIM.SCSTAT.STRSKIP q true else t)

/-- Phase A begins at its boundary (R376). -/
def State.selfCalBoundary (s : State) : State :=
  match s.selfCal with
  | none => s
  | some c =>
    if s.get TRIM.SCSTAT.PHASE = 0 ∧ c.start ≤ s.clock.grain then (s.set TRIM.SCSTAT.PHASE 1).strideSkips else s

/-- The cores a phase takes off line (R376, R377). -/
def State.phaseCores (s : State) (phase : Nat) : List Nat :=
  if phase = 3 then
    (List.range 4).filterMap (fun q => if s.part.hasQuad q && !s.on (QUAD.STATUS.NOSPARE q) then some (32 + q) else none) ++
      (if s.part.optL && !s.on TRIM.SCSTAT.MSKIP then [36, 37] else [])
  else
    (List.range 16).filterMap (fun i =>
      let q := i / 4
      if s.part.hasQuad q && s.strideSlot q != some (i % 4) then
        some (if phase = 1 then (s.pairOf q (i % 4)).1 else (s.pairOf q (i % 4)).2)
      else none)

/-- The offset residual SELFCAL gives core n (R376): minus the mean of 256 grains of words, in offset LSBs of 0.5 ppm FS. -/
def State.calOffset (c : SelfCal) (n : Nat) : Int := -codesToPpm 2 (c.shorted.getD n 0) (256 * 8)

/-- The gain residual (R376): −(r/REFRD − 1) for the mean r of 320 grains of words, in gain LSBs; zero under trim fault
(R374). -/
def State.calGain (s : State) (c : SelfCal) (n : Nat) : Int :=
  if s.on SYS.STATUS.TRIMFLT then 0
  else
    let ref := sextN 32 (s.otpUsed (9 + 4 * n)) * (320 * 8)
    0 - Config.round ((c.bandgap.getD n 0 - ref) * 10 ^ 6 * 65536 * (if ref < 0 then -1 else 1)) (ref.natAbs * 8000)

/-- A core rejoins with its new residuals (R376), unless its quad's phase was abandoned (R379). -/
def State.rejoin (s : State) (c : SelfCal) (n : Nat) : State :=
  let skip := match coreQuad n with | none => false | some q => bitOf c.abandoned q
  if skip then s
  else ((s.set (TRIM.CSC.SCO n) (wrapN 16 (State.calOffset c n))).set (TRIM.CSC.SCG n) (wrapN 16 (s.calGain c n))).noteClamp n

/-- SELFCAL_PHASE_END (R376): 768 grains after the named phase began its cores rejoin and the next phase begins. -/
def execSelfcalPhaseEnd (phase : Fin 4) (s : State) : Host.Outcome State Fault Refusal :=
  .next (match s.selfCal with
    | none => s
    | some c =>
      let ph := s.get TRIM.SCSTAT.PHASE
      if s.power = .on ∧ ph = phase ∧ 1 ≤ ph ∧ c.start + 768 * ph ≤ s.clock.grain then
        let cores := s.phaseCores ph
        let t := cores.foldl (fun t n => t.rejoin c n) s
        let t := t.forN 4 (fun q u => if bitOf c.abandoned q then u else u.rejoinSettle q)
        if ph = 3 then t.selfCalStop 4
        else
          let t : State := { t with selfCal := some { c with
            abandoned := 0, shorted := List.replicate 38 0, bandgap := List.replicate 38 0 } }
          let t := t.set TRIM.SCSTAT.PHASE (ph + 1)
          if ph = 1 then t.strideSkips
          else if t.get (LEASE.HOLD.STATE 3) = 1 then t.flag TRIM.SCSTAT.MSKIP true else t
      else s)

/-! ## The estimator (R384, R385) -/

/-- A pitch qualifies for the comparisons of slot k (R384), its reference's RMS aside. -/
def State.estQualifies (s : State) (q : Fin 4) (k : Nat) : Bool :=
  let ow := match s.quads[q].ow with | none => false | some t => t.live && bitOf t.mask k
  s.get TIME.TRK.STATE == 1 && !s.on SYS.STATUS.TRIMFLT && s.judged q k && !ow &&
    decide (s.streams.settle.getD (slotChan (4 * q + k)) 0 ≤ (match s.tracker.last with | none => 0 | some p => p.start / 2 ^ 32))

/-- Add a pitch's values to a window's. -/
def addCmp (a b : Cmp) : Cmp :=
  ⟨a.n + b.n, a.se + b.se, a.see + b.see,
    ⟨a.sums.sxr + b.sums.sxr, a.sums.srr + b.sums.srr, a.sums.sx + b.sums.sx, a.sums.sr + b.sums.sr⟩⟩

/-- The relative offset of a window (R384), in 0.01 ppm FS. -/
def ofsOf (c : Cmp) : Int := codesToPpm 100 (c.sums.sx - c.sums.sr) c.n

/-- aₙ of a core, in 0.01 ppm. -/
def State.relOf (s : State) (n : Nat) : Int := sextN 32 (s.get (TRIM.CREL.A n))

/-- Set aₙ. -/
def State.setRel (s : State) (n : Nat) (a : Int) : State := s.set (TRIM.CREL.A n) (wrapN 32 a)

/-- The converters of a quad in service (R385). -/
def State.inService (s : State) (q : Nat) : List Nat :=
  let cores := (List.range 4).flatMap (fun k => [(s.pairOf q k).1, (s.pairOf q k).2])
  if s.on (QUAD.STATUS.NOSPARE q) then cores.eraseDups else cores ++ [32 + q]

/-- m: the mean of aₙ over the converters in service, the spare counted as 0 while it is a spare (R385). -/
def State.meanRel (s : State) (q : Nat) : Int :=
  let l := s.inService q
  let spare := !s.on (QUAD.STATUS.NOSPARE q)
  Config.round (l.foldl (fun a n => a + (if spare && n == 32 + q then 0 else s.relOf n)) 0) l.length

/-- A limit sets LIMIT and source 0x31 (R385). -/
def State.limitHit (s : State) (n : Nat) : State := (s.flag (TRIM.CSTAT.LIMIT n) true).arrive 0x31

/-- The gain target of a core: dg − (a − m), within ±2000 ppm (R385). -/
def State.targetGain (s : State) (n : Nat) (a m : Int) : State :=
  let t := sextN 16 (s.get (TRIM.CDRIFT.DG n)) - Config.round ((a - m) * 65536) 800000
  let c := clampI (-16384) 16384 t
  let s := s.set (TRIM.CTARGET.TG n) (wrapN 16 c)
  if c = t then s else s.limitHit n

/-- The offset target of a core: dofs − (os + mean(core − spare)), within ±500 ppm FS (R385). -/
def State.targetOfs (s : State) (n : Nat) (os rel : Int) : State :=
  let t := sextN 16 (s.get (TRIM.CDRIFT.DOFS n)) - Config.round (os + rel) 50
  let c := clampI (-1000) 1000 t
  let s := s.set (TRIM.CTARGET.TO n) (wrapN 16 c)
  if c = t then s else s.limitHit n

/-- The common target: qcom − dev/10 ppm, within ±2000 ppm (R385), on the MS2400. -/
def State.targetCommon (s : State) (q : Fin 4) (dev : Int) : State :=
  if s.part.big ∧ ¬ s.on SYS.STATUS.TRIMFLT then
    let t := sextN 16 (s.get (TRIM.QCOM.QCOM q)) - Config.round (dev * 65536) 80000
    let c := clampI (-16384) 16384 t
    let s := s.set (TRIM.QCOM.TARGET q) (wrapN 16 c)
    if c = t then s
    else ((s.inService q).foldl (fun (u : State) n => u.flag (TRIM.CSTAT.LIMIT n) true) s).arrive 0x31
  else s

/-- A twin window (R385): the pair keeps its mean and takes the measured difference. -/
def State.twinWindow (s : State) (q : Fin 4) (k : Nat) (w : Cmp) : State :=
  let p := s.pairOf q k
  let d := gainOf w
  let a0 := s.relOf p.1
  let a1 := s.relOf p.2
  let s := (s.setRel p.1 (Config.round (a0 + a1 - d) 2)).setRel p.2 (Config.round (a0 + a1 + d) 2)
  let m := s.meanRel q
  (s.targetGain p.1 (s.relOf p.1) m).targetGain p.2 (s.relOf p.2) m

/-- A spare window on slot k (R385). -/
def State.spareWindow (s : State) (q : Fin 4) (k : Nat) (w0 w1 : Cmp) : State :=
  let c0 := coreNo q k 0
  let c1 := coreNo q k 1
  let s := (s.setRel c0 (gainOf w0)).setRel c1 (gainOf w1)
  let m := s.meanRel q
  let s := ((s.targetGain c0 (gainOf w0) m).targetGain c1 (gainOf w1) m).targetGain (32 + q) 0 m
  if s.part.big then
    let os := s.quads[q].os
    (s.targetOfs c0 os (ofsOf w0)).targetOfs c1 os (ofsOf w1)
  else s

/-- One pitch of the twin comparison of a slot: core 1 against core 0. -/
def State.twinPitch (s : State) (q : Fin 4) (k : Nat) : State :=
  let c := s.twinCmp q k
  if s.estQualifies q k && !s.slotTripped q k && rmsAtLeast (s.get TRIM.DCFG.MINSIG) c.sums.srr c.n then
    let x := s.quads[q]
    let n := x.estN.getD k 0 + 1
    let w := addCmp (x.estTwin.getD k Cmp.zero) c
    if s.get TRIM.DCFG.NEST ≤ n then
      (s.setQuad q { x with estN := x.estN.set k 0, estTwin := x.estTwin.set k Cmp.zero }).twinWindow q k w
    else s.setQuad q { x with estN := x.estN.set k n, estTwin := x.estTwin.set k w }
  else s

/-- One pitch of the spare's comparison with the slot it dwells on: each core against the spare. -/
def State.spareEst (s : State) (q : Fin 4) (k : Nat) : State :=
  let x := s.quads[q]
  let c0 := s.spareCmp q 0
  if s.get (QUAD.STATUS.SPUSE q) == 0 && x.pos == k && x.settled && s.estQualifies q k && !s.slotTripped q k &&
      !s.tripped (32 + q) && rmsAtLeast (s.get TRIM.DCFG.MINSIG) c0.sums.srr c0.n then
    let n := x.spN + 1
    let a := addCmp x.spA c0
    let b := addCmp x.spB (s.spareCmp q 1)
    if s.get TRIM.DCFG.NEST ≤ n then
      (s.setQuad q { x with spN := 0, spA := Cmp.zero, spB := Cmp.zero }).spareWindow q k a b
    else s.setQuad q { x with spN := n, spA := a, spB := b }
  else s

/-- The estimator at the end of a pitch. -/
def State.driftPitch (s : State) (q : Fin 4) : State :=
  if s.part.hasQuad q then s.forN 4 (fun k t => (t.twinPitch q k).spareEst q k) else s

/-! ## The ramp (R383) -/

/-- The step of a quad's common term: within what the interleave step leaves of 8 LSBs. -/
def State.commonStep (s : State) (q : Nat) : Int :=
  if (s.on TRIM.STATUS.SHDEV && (q == 0 || q == 2)) then 0
  else
    let i := s.ilvStep q
    clampI (-8 + max (-i) 0) (8 - max i 0) (sextN 16 (s.get (TRIM.QCOM.TARGET q)) - sextN 16 (s.get (TRIM.QCOM.QCOM q)))

/-- One core's gain term moves: at most 8 LSBs, and 8 in all with what else moves its code. -/
def State.rampGain (s : State) (n : Nat) (other : Int) : State :=
  let d := sextN 16 (s.get (TRIM.CDRIFT.DG n))
  let step := clampI (max (-8) (-8 - other)) (min 8 (8 - other)) (sextN 16 (s.get (TRIM.CTARGET.TG n)) - d)
  s.set (TRIM.CDRIFT.DG n) (wrapN 16 (d + step))

/-- One core's offset term moves by at most 1 LSB. -/
def State.rampOfs (s : State) (n : Nat) : State :=
  let d := sextN 16 (s.get (TRIM.CDRIFT.DOFS n))
  s.set (TRIM.CDRIFT.DOFS n) (wrapN 16 (d + clampI (-1) 1 (sextN 16 (s.get (TRIM.CTARGET.TO n)) - d)))

/-- What else moves the gain code of core n at this block. -/
def State.otherStep (s : State) (n : Nat) : Int :=
  match coreQuad n with
  | none => 0
  | some q =>
    let strided := match s.strideSlot q with | none => false | some k => n == coreNo q k 1
    s.commonStep q + (if strided then s.ilvStep q else 0)

/-- The drift ramp of a block boundary, before the interleave correction of the block is applied (R383). -/
def State.rampBlock (s : State) : State :=
  let s := { s with driftBlocks := s.driftBlocks + 1 }
  if s.rampFrozen then s
  else
    let s0 := s
    let s := s.forN 36 (fun n t => if t.part.hasCore n then (t.rampGain n (s0.otherStep n)).rampOfs n else t)
    let s := s.forN 4 (fun q t => if t.part.hasQuad q then
      t.set (TRIM.QCOM.QCOM q) (wrapN 16 (sextN 16 (t.get (TRIM.QCOM.QCOM q)) + s0.commonStep q)) else t)
    { s.noteClamps with rampBlocks := s.rampBlocks + 1 }

/-! ## The shared node (R386) -/

/-- One window of phase p: the cycle RMS of ports A and B. -/
def State.shWindow (s : State) (p : Fin 3) (a b : Nat) : State :=
  let x := s.shNode[p]
  let ra := a * s.get (TRIM.RATIO.R p)
  let rb := b * s.get (TRIM.RATIO.R (7 + p))
  let dev := Config.round (((rb : Int) - ra) * 10 ^ 8) ra
  if x.fresh then { s with shNode := s.shNode.set p { x with n := 0, base := some dev, fresh := false, above := false } }
  else
    let d := dev - x.base.getD 0
    let above := decide (s.get TRIM.SHLIM.LIM * 100 < d.natAbs)
    let s := (s.set (TRIM.SHDEV.DEV p) (wrapN 24 (Config.round d 100))).flag (TRIM.SHDEV.VALID p) true
    { s with shNode := s.shNode.set p { x with n := 0, above := above } }

/-- SHDEV follows the phases: source 0x32 when it sets. -/
def State.shFollow (s : State) : State :=
  (if s.shNode.toList.any (fun x => x.above) then s.raise TRIM.STATUS.SHDEV 0x32
    else s.flag TRIM.STATUS.SHDEV false).showFrozen

/-- One pitch of the comparison, by the cycle RMS values last posted (R301, R386; log entry 53). -/
def State.shPitch (s : State) : State :=
  if s.part.big then
    ((List.finRange 3).foldl (fun (t : State) (p : Fin 3) =>
      if t.bit TRIM.SHNODE.EN p ∧ t.get (TRIM.RATIO.R p) ≠ 0 ∧ t.get (TRIM.RATIO.R (7 + p)) ≠ 0 then
        let x := t.shNode[p]
        if t.get TRIM.DCFG.NEST ≤ x.n + 1 then t.shWindow p (t.get (PQ.CRMS.RMS p)) (t.get (PQ.CRMS.RMS (7 + p)))
        else { t with shNode := t.shNode.set p { x with n := x.n + 1 } }
      else t) s).shFollow
  else s

/-- A write of SHNODE: a phase newly declared, or RESTART, takes a new baseline. -/
def State.shWrite (s : State) (v : Nat) : State :=
  if ¬ s.part.big then s
  else
    let old := s.get TRIM.SHNODE.EN
    let s := s.set TRIM.SHNODE.EN (v % 8)
    let s : State := { s with shNode := s.shNode.mapIdx (fun p x =>
      if bitOf v 3 || (bitOf v p && !bitOf old p) then { x with n := 0, fresh := true }
      else if bitOf v p then x else { x with above := false }) }
    s.shFollow

/-! ## The drift state in the trim record (R387, R388) -/

/-- Two signed 16-bit terms in a word. -/
def pack16 (lo hi : Nat) : Word := BitVec.ofNat 32 (lo % 2 ^ 16 + hi * 2 ^ 16)

/-- The drift words of the state: 4 to 189. -/
def State.driftWords (s : State) : List (Nat × Word) :=
  [(4, BitVec.ofNat 32 s.clock.grain), (5, BitVec.ofNat 32 (s.clock.grain / 2 ^ 32)), (6, BitVec.ofNat 32 s.rampBlocks)] ++
  (List.range 38).flatMap (fun n =>
    [(16 + 4 * n, pack16 (s.get (TRIM.CDRIFT.DG n)) (s.get (TRIM.CDRIFT.DOFS n))),
     (17 + 4 * n, BitVec.ofNat 32 (s.get (TRIM.CREL.A n))),
     (18 + 4 * n, pack16 (s.get (TRIM.CTARGET.TG n)) (s.get (TRIM.CTARGET.TO n)))]) ++
  (List.range 4).map (fun q => (168 + 4 * q, pack16 (s.get (TRIM.QCOM.QCOM q)) (s.get (TRIM.QCOM.TARGET q)))) ++
  ((List.finRange 3).flatMap (fun (p : Fin 3) => match s.shNode[p].base with
    | none => [(184 + 2 * p.val, 0), (185 + 2 * p.val, 0)]
    | some b => [(184 + 2 * p.val, BitVec.ofInt 32 b), (185 + 2 * p.val, 1)]))

/-- The drift check word (R388). -/
def driftCheck (l : List (Nat × Word)) : Word :=
  BitVec.ofNat 32 (crc32c ((List.range 186).flatMap (fun i => leBytes 4 (wordsGet l (4 + i)).toNat)))

/-- DRIFT_SAVE (R387): every DSAVE blocks, with the write port free. -/
def execDriftSave (s : State) : Host.Outcome State Fault Refusal :=
  .next (if s.power = .on ∧ s.driftDue ∧ ¬ s.portHeld then
    let w := s.driftWords.foldl (fun l e => wordsPut l e.1 e.2) s.cairn.trim.words
    ({ s with cairn := s.cairn.writeTrim (wordsPut w 190 (driftCheck w)), driftBlocks := 0 } : State).supervisorDone
  else s)

/-- The drift terms are loaded from the committed record at a restart (R387): zero and DRIFTLOST where the check fails. The
targets are S0 and begin at zero (R389; log entry 56). -/
def State.loadDrift (s : State) : State :=
  let l := s.cairn.trim.words
  let ok := wordsGet l 190 == driftCheck l
  let get := fun (i : Nat) => if ok then (wordsGet l i).toNat else 0
  let s := s.flag TRIM.STATUS.DRIFTLOST (!ok)
  let s := s.forN 38 (fun n t =>
    ((((t.set (TRIM.CDRIFT.DG n) (get (16 + 4 * n))).set (TRIM.CDRIFT.DOFS n) (get (16 + 4 * n) / 2 ^ 16)).set
      (TRIM.CREL.A n) (get (17 + 4 * n))).set (TRIM.CTARGET.TG n) 0).set (TRIM.CTARGET.TO n) 0)
  let s := s.forN 4 (fun q t => (t.set (TRIM.QCOM.QCOM q) (get (168 + 4 * q))).set (TRIM.QCOM.TARGET q) 0)
  let s : State := { s with rampBlocks := get 6, driftBlocks := 0, shNode := s.shNode.mapIdx (fun p _ =>
    { ShNode.zero with base := if bitOf (get (185 + 2 * p)) 0 then some (sextN 32 (get (184 + 2 * p))) else none }) }
  s.noteClamps.showFrozen

/-- The retired-core map of the record, in the registers (R120): RETIRED, CORES, NOSPARE, INSVC. -/
def State.loadRetired (s : State) : State :=
  let l := s.cairn.trim.words
  let map := (wordsGet l 2).toNat
  let w3 := (wordsGet l 3).toNat
  let s := s.set SYS.LANE.INSVC (if s.cairn.trimSel.isNone then 0x1F else field w3 8 5)
  s.forN 4 (fun q t =>
    let c0 := field map (8 * q) 4
    let c1 := field map (8 * q + 4) 4
    let t := ((t.set (QUAD.RETIRED.C0RET q) c0).set (QUAD.RETIRED.C1RET q) c1).flag (QUAD.RETIRED.SPRET q) (bitOf w3 q)
    let t := t.flag (QUAD.STATUS.NOSPARE q) (decide (c0 ≠ 0 ∨ c1 ≠ 0) || bitOf w3 q)
    let t := t.flag (TRIM.CSTAT.RETIRED (32 + q)) (bitOf w3 q)
    t.forN 4 (fun k u =>
      let u := (u.flag (TRIM.CSTAT.RETIRED (coreNo q k 0)) (bitOf c0 k)).flag (TRIM.CSTAT.RETIRED (coreNo q k 1)) (bitOf c1 k)
      u.set (QUAD.CHST.CORES q k) (if bitOf c0 k then 2 else if bitOf c1 k then 1 else 0)))

/-- Every drift target and every aₙ becomes zero (R389 DCTL.RESET). -/
def State.driftReset (s : State) : State :=
  let s := s.forN 38 (fun n t => ((t.set (TRIM.CTARGET.TG n) 0).set (TRIM.CTARGET.TO n) 0).set (TRIM.CREL.A n) 0)
  s.forN 4 (fun q t => t.set (TRIM.QCOM.TARGET q) 0)

/-! ## The registers (R381, R389) -/

/-- The bank of the window registers 0x04–0x0A: the core CSEL selects. -/
def trimRegBank (s : State) (idx : Nat) : Nat := if 4 ≤ idx ∧ idx ≤ 0x0A then s.get TRIM.CSEL.CORE else 0

/-- The views of TRIM: the codes, the window of an absent core, the OTP word. -/
def trimView (s : State) (idx : Nat) : Option Nat :=
  let n := s.get TRIM.CSEL.CORE
  if 4 ≤ idx ∧ idx ≤ 0x0A ∧ ¬ s.part.hasCore n then some (if idx = 0x0A then 1 else 0)
  else if idx = 4 then some (s.fgain n + 2 ^ 16 * s.fofs n)
  else if idx = 9 then some ((clampI 0 0xFFFF (s.rawGain n)).toNat * 2 ^ 16 + (clampI 0 0xFFF (s.rawOfs n)).toNat)
  else if idx = 0x21 then some (Config.otpWord (s.get TRIM.OSEL.WORD)).toNat
  else none

/-- A read of ODATA advances WORD. -/
def trimAfterRead (s : State) (idx : Nat) : State :=
  if idx = 0x21 then s.set TRIM.OSEL.WORD (s.get TRIM.OSEL.WORD + 1) else s

/-- OTP_DATA_READ (R389). -/
def execOtpDataRead (s : State) : Host.Outcome State Fault Refusal :=
  .next (s.whenOn { trimAfterRead s 0x21 with readData := Config.otpWord (s.get TRIM.OSEL.WORD) })

/-- The access level a write of TRIM requires (R381, R388). -/
def trimLevel (s : State) (idx v : Nat) : Nat :=
  if 0x40 ≤ idx ∧ idx < 0x98 then (if s.get PWR.STATE.STATE = 0 then 1 else 0)
  else if idx = 0x10 ∧ bitOf v 1 then 1 else 0

/-- The writes of TRIM that do more than store. -/
def trimWrite (s : State) (who idx v : Nat) : Option State :=
  if idx = 1 then
    let t := s.set TRIM.SCCTL.SPSLOT (field v 16 8)
    some (if bitOf v 0 then t.selfCalGo who (field v 1 4) else t)
  else if idx = 0x10 then
    let t := (s.set TRIM.DCTL.FREEZE (v % 2)).showFrozen
    some (if bitOf v 1 then t.driftReset else t)
  else if idx = 0x18 then some (s.shWrite v).showFrozen
  else if 0x40 ≤ idx ∧ idx < 0x98 ∧ ¬ s.part.hasChan (idx % 32) then some s
  else none

end Sys2Proof.Machine
end

