-- ==== Sys2Proof/Machine/Chain.lean ====
section
/-! DEFINITION. The chain link (03_timebase_and_cues.md R95–R109). -/

namespace Sys2Proof.Machine

/-- Change the link's state behind its registers. -/
def State.modChain (s : State) (f : Chain → Chain) : State := { s with chain := f s.chain }

/-- STATE changes: source 0x17 (R406). -/
def State.chainGo (s : State) (st : Nat) : State :=
  if s.get CHAIN.STATUS.STATE = st then s else (s.set CHAIN.STATUS.STATE st).arrive 0x17

/-- The link runs: enabled, with CHVDD connected (R56), the mains side on. -/
def State.chainOn (s : State) : Bool := s.power == .on && s.on CHAIN.CTRL.EN && s.chain.chvdd

/-! ## Frames (R96, R97) -/

/-- The timecode frame of the running grain: UTC flags, hand-over, the ranged follower and its round trip. -/
def State.timecode (s : State) (ranged : Option (Nat × Nat)) : List Byte :=
  let ho := match s.chain.handover with | none => (0, 0) | some h => h
  let pend := decide (0 < ho.2)
  let b := [1, BitVec.ofNat 8 (s.get CHAIN.CTRL.POS),
      BitVec.ofNat 8 (ofB (s.on TIME.UTCSTAT.VALID) + 2 * ofB (s.on TIME.UTCSTAT.PPSLOCK) + 4 * ofB pend)] ++
    leBytes 8 s.clock.grain ++ leBytes 4 (s.get TIME.UTCOFFLO.ULO) ++ leBytes 4 (s.get TIME.UTCOFFHI.UHI) ++
    leBytes 4 (s.get TIME.UTCOFFFR.UFR) ++
    [BitVec.ofNat 8 (match ranged with | none => 0 | some r => r.1 + 8),
     BitVec.ofNat 8 (if pend then ho.1 + 16 * ho.2 else 0)] ++
    leBytes 4 (match ranged with | none => 0 | some r => r.2)
  [0xAA, 0xAA, 0xC3] ++ b ++ leBytes 4 (crc32c b)

/-- A follower's reply. -/
def State.reply (s : State) : List Byte :=
  let st := s.get CHAIN.STATUS.STATE
  let b := [2, BitVec.ofNat 8 (s.get CHAIN.CTRL.POS), BitVec.ofNat 8 (ofB (st == 4) + 2 * ofB (st == 5))] ++
    leBytes 4 s.clock.grain
  [0xAA, 0xAA, 0xC3] ++ b ++ leBytes 4 (crc32c b)

/-- A frame of a type and length whose check word is right. -/
def frameGood (type len : Nat) (f : List Byte) : Bool :=
  f.length == len && f.take 3 == [0xAA, 0xAA, 0xC3] && byteAt f 3 == type &&
    u32At f (len - 4) == crc32c ((f.drop 3).take (len - 7))

/-! ## The leader -/

/-- The follower whose round trip the next frame carries (R98): of those that replied, one that does not report locked, else
the next in rotation. -/
def Chain.pickRanged (c : Chain) : Option (Nat × Nat) :=
  match c.results.find? (fun r => !c.joined.getD r.1 false) with
  | some r => some r
  | none =>
    match c.results.find? (fun r => decide (c.lastRanged < r.1)) with
    | some r => some r
    | none => c.results.head?

/-- Replies of the period that ends: who missed (R97). -/
def State.countReplies (s : State) : State :=
  let mem := s.get CHAIN.MEMBERS.MEM
  s.modChain (fun c => { c with
    miss := c.miss.mapIdx (fun p n => if bitOf mem p && !c.replied.getD p false then n + 1 else 0)
    replied := List.replicate 8 false })

/-- After a frame: the next period begins, the hand-over counts down. -/
def State.frameSent (s : State) (ranged : Option (Nat × Nat)) (bad : Bool) : State :=
  s.modChain (fun c => { c with
    frameStart := s.clock.now
    tx := s.timecode ranged
    results := []
    sent := some s.clock.grain
    lastRanged := match ranged with | none => c.lastRanged | some r => r.1
    handover := c.handover.map (fun h => (h.1, h.2 - 1))
    badReadback := if bad then c.badReadback + 1 else 0 })

/-- Two corrupted read-backs in a row (R105): silence for 32–255 grains, during which STATE shows LISTEN (DESIGN CHOICE, log
entry 51). -/
def State.silence (s : State) : State :=
  if 2 ≤ s.chain.badReadback then
    let r := s.draw
    (r.2.modChain (fun c => { c with badReadback := 0, silentUntil := some (s.clock.grain + 32 + r.1.toNat % 224) })).chainGo 1
  else s

/-- A planned hand-over has been counted down. -/
def State.handedOver (s : State) : Bool := match s.chain.handover with | none => false | some h => h.2 == 0

/-- TIMECODE_FRAME_SEND (R95): once at phase 0 of a grain divisible by 32; whether the read-back was corrupted is measured. -/
def execTimecodeFrameSend (readbackBad : Bool) (s : State) : Host.Outcome State Fault Refusal :=
  .next (if s.chainOn ∧ s.get CHAIN.STATUS.STATE = 6 ∧ s.clock.grain % 32 = 0 ∧ s.clock.phase = 0 ∧
      s.chain.sent ≠ some s.clock.grain ∧ s.handedOver = false then
    let t := s.countReplies
    let r := t.chain.pickRanged
    ((t.frameSent r readbackBad).silence)
  else s)

/-- FOLLOWER_REPLY_RECEIVE (R98): the round trip of a follower; a bad check word is counted. -/
def execFollowerReplyReceive (frame : List Byte) (s : State) : Host.Outcome State Fault Refusal :=
  .next (if s.chainOn ∧ s.get CHAIN.STATUS.STATE = 6 then
    if frameGood 2 14 frame then
      let p := byteAt frame 4 % 8
      let rtt := s.clock.now - s.chain.frameStart - (4 * p + 2) * 6400
      (s.setBit CHAIN.MEMBERS.MEM p true).modChain (fun c => { c with
        replied := c.replied.set p true
        joined := c.joined.set p (bitOf (byteAt frame 5) 0)
        results := c.results ++ [(p, rtt)] })
    else s.bump CHAIN.CRCERR.COUNT CHAIN.CRCERR.SAT
  else s)

/-- REPLY_MISSED (R97): the third reply in a row is missed. -/
def execReplyMissed (pos : Fin 8) (s : State) : Host.Outcome State Fault Refusal :=
  .next (if s.chainOn ∧ s.get CHAIN.STATUS.STATE = 6 ∧ s.bit CHAIN.MEMBERS.MEM pos ∧ 3 ≤ s.chain.miss.getD pos 0 then
    let t := (s.setBit CHAIN.MEMBERS.MEM pos false).raise CHAIN.FLAGS.MEMBERLOST 0x16
    t.modChain (fun c => { c with miss := c.miss.set pos 0, joined := c.joined.set pos false })
  else s)

/-- A hand-over is asked for (R106, R109): ignored unless leading; a target that is no member sets MEMBERLOST. -/
def State.handoverGo (s : State) (target : Nat) : State :=
  if s.get CHAIN.STATUS.STATE ≠ 6 then s
  else if s.bit CHAIN.MEMBERS.MEM target then s.modChain (fun c => { c with handover := some (target, 4) })
  else s.raise CHAIN.FLAGS.MEMBERLOST 0x16

/-- HANDOVER_GO. -/
def execHandoverGo (pos : Fin 8) (s : State) : Host.Outcome State Fault Refusal := .next (s.whenOn (s.handoverGo pos))

/-- The module becomes leader. -/
def State.lead (s : State) : State :=
  ((s.chainGo 6).set CHAIN.STATUS.LPOS (s.get CHAIN.CTRL.POS)).modChain (fun c => { c with
    listenUntil := none, silentUntil := none, switchAt := none, handover := none, stepPend := none, results := []
    miss := List.replicate 8 0, replied := List.replicate 8 false, joined := List.replicate 8 false, sent := none })

/-- The module becomes a follower that listens. -/
def State.follow (s : State) : State :=
  ((s.chainGo 1).set CHAIN.MEMBERS.MEM 0).modChain (fun c => { c with
    good := 0, sent := none, listenUntil := none, silentUntil := none, handover := none, switchAt := none, outliers := 0
    lastFrame := s.clock.grain })

/-- HANDOVER_SWITCH (R106): at H + 128, the frame grain after the last frame of the old leader, that one listens and the
target leads. -/
def execHandoverSwitch (s : State) : Host.Outcome State Fault Refusal :=
  .next (if s.chainOn then
    if s.get CHAIN.STATUS.STATE = 6 ∧ s.handedOver ∧ s.clock.grain % 32 = 0 ∧
        s.chain.sent ≠ some s.clock.grain then s.follow
    else match s.chain.switchAt with
      | some g => if g ≤ s.clock.grain then s.lead else s
      | none => s
  else s)

/-- LEADER_LISTEN_END (R105). -/
def execLeaderListenEnd (s : State) : Host.Outcome State Fault Refusal :=
  .next (match s.chain.listenUntil with
    | some g => if s.chainOn ∧ g ≤ s.clock.grain then s.lead else s
    | none => s)

/-- A module set as leader listens for 64 grains (R105). -/
def State.listen (s : State) : State :=
  (s.chainGo 1).modChain (fun c => { c with silentUntil := none, listenUntil := some (s.clock.grain + 64) })

/-- LEADER_SILENCE_END (R105). -/
def execLeaderSilenceEnd (s : State) : Host.Outcome State Fault Refusal :=
  .next (match s.chain.silentUntil with
    | some g => if s.chainOn ∧ g ≤ s.clock.grain then s.listen else s
    | none => s)

/-- HEIR_TAKEOVER (R104): no frame for 1024 grains. -/
def execHeirTakeover (s : State) : Host.Outcome State Fault Refusal :=
  .next (if s.chainOn ∧ s.on CHAIN.CTRL.HEIR ∧ s.isFollower ∧
      s.chain.lastFrame + 1024 ≤ s.clock.grain then s.lead
  else s)

/-! ## The follower -/

/-- UTC from the leader's frame (R78). While the leader's UTC is not valid, SRC keeps what it read (DESIGN CHOICE, log entry
51). -/
def State.chainUtc (s : State) (f : List Byte) : State :=
  let v := bitOf (byteAt f 5) 0
  let s := ((s.set TIME.UTCOFFLO.ULO (u32At f 14)).set TIME.UTCOFFHI.UHI (u32At f 18)).set TIME.UTCOFFFR.UFR (u32At f 22)
  let s := (s.flag TIME.UTCSTAT.VALID v).flag TIME.UTCSTAT.PPSLOCK (bitOf (byteAt f 5) 1)
  if v then s.set TIME.UTCSTAT.SRC 3 else s

/-- Leader less own count at the detection of frame g, in cycles: the start of grain g lies a delay before it (R98). -/
def State.chainDiff (s : State) (g : Nat) : Int :=
  ((g : Int) - s.clock.grain) * 6400 + s.chain.delay - s.clock.phase

/-- The phase error of a difference, in −3200 to 3199 (R100). -/
def phaseErr (x : Int) : Int := (x + 3200) % 6400 - 3200

/-- A round trip is applied (R98): the delay is half of it. -/
def State.takeRtt (s : State) (rtt : Nat) : State :=
  (s.set CHAIN.RTT.RTT rtt).modChain (fun c => { c with delay := (Config.round rtt 2).toNat, outliers := 0 })

/-- The end of RANGING (R99, R101): SLEW at once where the counts agree, else after the step. -/
def State.ranged (s : State) (g rtt : Nat) : State :=
  let s := s.takeRtt rtt
  let x := s.chainDiff g
  let e := phaseErr x
  let step := (x - e) / 6400
  let s := s.set CHAIN.PHERR.ERR (wrapN 16 e)
  if step = 0 then s.chainGo 3 else s.modChain (fun c => { c with stepPend := some (step, s.clock.grain) })

/-- A range result of a joined follower (R99): three in a row off by more than 4 cycles send it back to RANGING. -/
def State.rangeCheck (s : State) (rtt : Nat) : State :=
  if 8 < ((rtt : Int) - 2 * s.chain.delay).natAbs then
    let s := s.raise CHAIN.FLAGS.OUTLIER 0x16
    let n := s.chain.outliers + 1
    if 3 ≤ n then (s.modChain (fun c => { c with outliers := 0 })).chainGo 2
    else s.modChain (fun c => { c with outliers := n })
  else s.takeRtt rtt

/-- SLEW ends within ±2 cycles (R99). -/
def State.maybeLocked (s : State) : State :=
  if s.get CHAIN.STATUS.STATE = 3 ∧ s.chain.stepPend = none ∧ (sextN 16 (s.get CHAIN.PHERR.ERR)).natAbs ≤ 2 then
    let t : State := { s with clock := { s.clock with glen := 6400 } }
    let t := t.chainGo 4
    if t.chain.lost then (t.stageEvent 2 3 []).modChain (fun c => { c with lost := false }) else t
  else s

/-- A good frame advances the follower (R99, R106). -/
def State.followFrame (s : State) (f : List Byte) : State :=
  let g := unAt f 6 8
  let pos := s.get CHAIN.CTRL.POS
  let st := s.get CHAIN.STATUS.STATE
  let sender := byteAt f 4 % 8
  let mine := bitOf (byteAt f 26) 3 && byteAt f 26 % 8 == pos
  let rtt := u32At f 28
  let ho := byteAt f 27
  let newLeader := decide (st = 3 ∨ st = 4) && sender != s.get CHAIN.STATUS.LPOS
  let s := (s.chainUtc f).set CHAIN.STATUS.LPOS sender
  let s := s.modChain (fun c => { c with
    lastFrame := s.clock.grain
    sync := some s.clock.now
    good := if c.lastFrame + 33 < s.clock.grain then 1 else c.good + 1
    switchAt := if bitOf (byteAt f 5) 2 && ho % 8 == pos then some (s.clock.grain + 32 * (ho / 16 % 8)) else none })
  if newLeader then s.chainGo 2
  else if st = 1 then (if 3 ≤ s.chain.good then s.chainGo 2 else s)
  else if st = 5 then (s.modChain (fun c => { c with good := 1 })).chainGo 1
  else if st = 2 then (if mine then s.ranged g rtt else s)
  else
    let s := if mine then s.rangeCheck rtt else s
    s.set CHAIN.PHERR.ERR (wrapN 16 (phaseErr (s.chainDiff g)))

/-- TIMECODE_FRAME_RECEIVE (R96, R99, R105): the leader yields to a lower position, a listening one to any, and so does one
that keeps silent after corrupted read-backs (for which R105 says nothing: DESIGN CHOICE, log entry 51). A frame that fails
its CRC breaks a row of good frames. -/
def execTimecodeFrameReceive (frame : List Byte) (s : State) : Host.Outcome State Fault Refusal :=
  .next (if s.chainOn then
    if frameGood 1 36 frame then
      let leads := s.get CHAIN.STATUS.STATE == 6
      let listens := s.chain.listenUntil.isSome || s.chain.silentUntil.isSome
      if leads && decide (s.get CHAIN.CTRL.POS ≤ byteAt frame 4 % 8) then s
      else if leads || listens then (s.follow.raise CHAIN.FLAGS.CONFLICT 0x16).followFrame frame
      else s.followFrame frame
    else (s.bump CHAIN.CRCERR.COUNT CHAIN.CRCERR.SAT).modChain (fun c => { c with good := 0 })
  else s)

/-- FOLLOWER_REPLY_SEND (R97): 4p + 2 grains after the sync of the frame. -/
def execFollowerReplySend (s : State) : Host.Outcome State Fault Refusal :=
  .next (match s.chain.sync with
    | none => s
    | some t =>
      if s.chainOn ∧ s.isFollower ∧ t + (4 * s.get CHAIN.CTRL.POS + 2) * 6400 ≤ s.clock.now then
        s.modChain (fun c => { c with sync := none, tx := s.reply })
      else s)

/-- FRAME_LOSS (R103): three frames missed. -/
def execFrameLoss (s : State) : Host.Outcome State Fault Refusal :=
  .next (if s.chainOn ∧ 2 ≤ s.get CHAIN.STATUS.STATE ∧ s.get CHAIN.STATUS.STATE ≤ 4 ∧
      s.chain.lastFrame + 96 ≤ s.clock.grain then
    let t : State := { s with clock := { s.clock with glen := 6400 } }
    let t := t.modChain (fun c => { c with good := 0, stepPend := none, outliers := 0, sync := none, lost := true })
    ((t.raise CHAIN.FLAGS.LOSS 0x16).chainGo 5).stageEvent 2 2 []
  else s)

/-! ## The step and the slew (R100, R101) -/

/-- A grain number moved by a step. -/
def shiftG (d : Int) (g : Nat) : Nat := ((g : Int) + d).toNat

/-- A modem frame with its grains shifted. -/
def TxFrame.renumber (d : Int) (x : TxFrame) : TxFrame :=
  { x with
    release := shiftG d x.release
    begins := x.begins.map (shiftG (d * 6400))
    stops := shiftG (d * 6400) x.stops
    deadline := x.deadline.map (shiftG d) }

/-- A pitch with its times shifted. -/
def Pitch.renumber (d : Int) (p : Pitch) : Pitch :=
  { p with start := shiftG (d * 2 ^ 32) p.start, done := shiftG d p.done }

/-- The tracker with its times shifted. -/
def Tracker.renumber (d : Int) (t : Tracker) : Tracker :=
  let q := shiftG (d * 2 ^ 32)
  { t with
    acq := q t.acq
    prevX := t.prevX.map q
    lastQ := q t.lastQ
    lastMet := t.lastMet.map q
    lastStart := t.lastStart.map q
    running := t.running.map (Pitch.renumber d)
    nextHeld := q t.nextHeld
    last := t.last.map (Pitch.renumber d)
    lastWhole := q t.lastWhole }

/-- The streams with their grains shifted. -/
def Streams.renumber (d : Int) (x : Streams) : Streams :=
  { x with
    whole := x.whole.map (Pitch.renumber d)
    settle := x.settle.map (shiftG d)
    swapEnd := x.swapEnd.map (shiftG d)
    builds := x.builds.map (fun b => { b with pitch := b.pitch.renumber d }) }

/-- What the metering, the pair and the supply side remember by grain, shifted. -/
def State.renumberWork (s : State) (d : Int) : State :=
  let f := shiftG d
  { s with
    lanes := s.lanes.map (fun l => { l with
      startAt := if l.startAt = 0 then 0 else f l.startAt
      ranAt := if l.ranAt = 0 then 0 else f l.ranAt })
    rope := { s.rope with
      soloEnd := s.rope.soloEnd.map f
      takeAt := s.rope.takeAt.map f
      copyAt := s.rope.copyAt.map f
      lostAt := s.rope.lostAt.map (fun g => g.map f) }
    slots := s.slots.map (fun x => { x with bindAt := f x.bindAt, last := x.last.map f })
    capt := { s.capt with first := f s.capt.first, marks := s.capt.marks.map (fun g => if g = 0 then 0 else f g) }
    pq := { s.pq with
      halfStart := shiftG (d * 2 ^ 32) s.pq.halfStart
      pts := s.pq.pts.map (fun x => (x.1.renumber d, x.2))
      f10 := s.pq.f10.map (fun x => (shiftG (d * 2 ^ 32) x.1, shiftG (d * 2 ^ 32) x.2.1, x.2.2))
      f10End := if s.pq.f10End = 0 then 0 else f s.pq.f10End }
    modem := { s.modem with
      tx := s.modem.tx.map (TxFrame.renumber d)
      ack := s.modem.ack.map (TxFrame.renumber d)
      idleTo := s.modem.idleTo.map f
      lastEnd := s.modem.lastEnd.map f
      rxAt := s.modem.rxAt.map f }
    glass := { s.glass with ntcAt := f s.glass.ntcAt }
    pwr := { s.pwr with
      warnAt := s.pwr.warnAt.map f
      reset := s.pwr.reset.map (fun x => { x with grain := f x.grain }) } }

/-- What counts grains from a past one, or towards a coming one, keeps its distance: a step only renumbers (R101). -/
def State.renumberGrains (s : State) (d : Int) : State :=
  let f := shiftG d
  let t := s.renumberWork d
  { t with
    clock := { s.clock with grain := f s.clock.grain, lostAt := f s.clock.lostAt }
    pps := { s.pps with last := s.pps.last.map (shiftG (d * 6400)), ref := s.pps.ref.map (shiftG (d * 6400)) }
    tracker := s.tracker.renumber d
    chain := { s.chain with
      lastFrame := f s.chain.lastFrame
      listenUntil := s.chain.listenUntil.map f
      silentUntil := s.chain.silentUntil.map f
      switchAt := s.chain.switchAt.map f
      sent := s.chain.sent.map f }
    quads := s.quads.map (fun x => { x with connected := f x.connected })
    selfCal := s.selfCal.map (fun x => { x with start := f x.start })
    bitMon := { s.bitMon with goodSince := f s.bitMon.goodSince, stuckEnd := s.bitMon.stuckEnd.map f }
    streams := s.streams.renumber d
    pulse := s.pulse.map (fun p => { p with start := p.start.map f, highEnd := f p.highEnd, freeAt := f p.freeAt })
    watch := { s.watch with since := f s.watch.since }
    jrnl := { s.jrnl with lastPitchSnap := f s.jrnl.lastPitchSnap }
    irq := { s.irq with timerDue := s.irq.timerDue.map (fun t => t.map f) } }

/-- A step of the grain count falls at this boundary (R101). -/
def State.stepDue (s : State) : Bool :=
  s.chainOn && (match s.chain.stepPend with | none => false | some x => x.2 + 1 == s.clock.grain)

/-- The step itself (R101): the grains are renumbered, the registers, flag and event record say so, SLEW begins (R99). -/
def State.chainStepBy (s : State) (d : Int) : State :=
  let t := (s.renumberGrains d).modChain (fun c => { c with stepPend := none })
  let w := wrapN 64 d
  let t := (t.set2 CHAIN.STEPLO.SLO CHAIN.STEPHI.SHI w).raise CHAIN.FLAGS.STEP 0x16
  (t.stageEvent 2 1 (leBytes 8 w)).chainGo 3

/-- The boundary work of the link: the ended grain's slew, LOCKED, the length of the next grain (R99, R100). -/
def State.chainBoundary (s : State) : State :=
  if s.get CHAIN.STATUS.STATE = 3 then
    let e := sextN 16 (s.get CHAIN.PHERR.ERR)
    let e := if s.clock.glen = 6399 then e - 1 else if s.clock.glen = 6401 then e + 1 else e
    let s := (s.set CHAIN.PHERR.ERR (wrapN 16 e)).maybeLocked
    if s.get CHAIN.STATUS.STATE = 3 then
      { s with clock := { s.clock with glen := if 2 < e then 6399 else if e < -2 then 6401 else 6400 } }
    else s
  else if s.clock.glen = 6400 then s else { s with clock := { s.clock with glen := 6400 } }

/-! ## The registers (R109) -/

/-- LPOS of a leader is its own position (R109), a rewritten one too. -/
def State.ownLpos (s : State) : State :=
  if s.get CHAIN.STATUS.STATE = 6 then s.set CHAIN.STATUS.LPOS (s.get CHAIN.CTRL.POS) else s

/-- The link follows a written CTRL: off, leader (it listens first), or follower. Once it is off, LPOS, RTT and PHERR keep
what they read last (DESIGN CHOICE, log entry 51). -/
def State.chainCtrl (s : State) (v : Nat) : State :=
  let was := s.chainOn
  let role := s.on CHAIN.CTRL.ROLE
  let s := s.writeCells ((cellsOf regsChain 2 0 0).getD []) v
  if s.chainOn = false then
    if was then
      let t := (s.chainGo 0).set CHAIN.MEMBERS.MEM 0
      { t with chain := { Chain.zero with chvdd := s.chain.chvdd }, clock := { t.clock with glen := 6400 } }
    else s
  else if was && role == s.on CHAIN.CTRL.ROLE then s.ownLpos
  else if s.on CHAIN.CTRL.ROLE then s.listen
  else s.follow

/-- The writes of CHAIN that do more than store. -/
def chainWrite (s : State) (idx v : Nat) : Option State :=
  if idx = 0 then some (s.chainCtrl v)
  else if idx = 9 then some (if bitOf v 8 then s.handoverGo (v % 8) else s)
  else none

end Sys2Proof.Machine
end

