-- ==== Sys2Proof/Machine/Pq.lean ====
section
/-! DEFINITION. Power quality and capture (10_power_quality.md): RMS windows, blocks, aggregation, events, the quantity
store, the capture ring. -/

namespace Sys2Proof.Machine

/-! ## Arithmetic -/

/-- A value for a 32-bit word; the absent code 0xFFFF_FFFF is no value. -/
def fitWord (v : Nat) : Nat := if v < 2 ^ 32 - 1 then v else Config.tooBig v % 2 ^ 32

/-- The absent code (R323). -/
def absent : Nat := 0xFFFFFFFF

/-- The quotient a/b in 10^-6. -/
def ppmOf (a b : Nat) : Nat := fitWord (Config.round ((a : Int) * 10 ^ 6) b).toNat

/-! ## What is served (R297, R321) -/

/-- The module is in base camp. -/
def State.baseCamp (s : State) : Bool := s.get PWR.STATE.STATE == 1

/-- Port p is served. -/
def State.portOn (s : State) (p : Nat) : Bool :=
  if s.baseCamp then p == 0 else if p = 0 then s.eff PQ.CTRL.ENA != 0 else s.part.big && s.eff PQ.CTRL.ENB != 0

/-- The engine works on channel c. -/
def State.pqWants (s : State) (c : Nat) : Bool :=
  s.part.hasChan c && (if c < 7 then s.portOn 0 else if c < 14 then s.portOn 1 else decide (c < 16) && !s.baseCamp)

/-- Channel c is served in a pitch: its pitch stream is there. -/
def State.served (s : State) (p : Pitch) (c : Nat) : Bool := s.pqWants c && bitOf p.en c

/-- The monitored phases of a port. -/
def State.phaseMask (s : State) (p : Nat) : Nat := s.eff (if p = 0 then PQ.CTRL.PHA else PQ.CTRL.PHB)

/-- Udin of a port in force. -/
def State.udin (s : State) (p : Nat) : Nat := s.eff (if p = 0 then PQ.UDINA.UDIN else PQ.UDINB.UDIN)

/-- A value reaches a threshold in 0.01 % of Udin. -/
def atLeast (v thr udin : Nat) : Bool := decide (thr * udin ≤ v * 10000)

/-! ## The quantity store (R322–R325) -/

/-- Where the store begins. -/
def storeBase : Nat := 0x10680000

/-- One word of the header is counted up. -/
def State.countPosted (s : State) (i : Nat) : State :=
  s.setWord (storeBase + 4 * i) (s.word (storeBase + 4 * i) + 1)

/-- The SEQ an entry gets: the next even value after its own (R325). -/
def State.nextSeq (s : State) (a : Nat) : Nat := ((s.word a).toNat / 2 * 2 + 2) % 2 ^ 32

/-! ## Events (R315–R320, R324) -/

/-- The delay from the pads to the pitch stream, in grains (R317). -/
def State.padLag (s : State) : Nat := if s.eff (FILT.CFG.OPT 0) = 0 then 45 else 5

/-- An event's 64 bytes (R324). -/
def PqEvent.bytes (e : PqEvent) (seq extra : Nat) (stop : Option Nat) : List Byte :=
  padTo 64 (leBytes 4 seq ++ leBytes 4 e.evno ++
    [BitVec.ofNat 8 e.kind, BitVec.ofNat 8 e.port, BitVec.ofNat 8 e.phases, BitVec.ofNat 8 (e.flags ||| extra)] ++
    leBytes 8 (e.start / 2 ^ 32) ++ leBytes 4 e.start ++
    (match stop with | none => zeros 12 | some t => leBytes 8 (t / 2 ^ 32) ++ leBytes 4 t) ++
    leBytes 4 e.windows ++ leBytes 4 e.ext ++
    leBytes 2 (if e.udin = 0 then 0 else min 65535 (Config.round ((e.ext : Int) * 10000) e.udin).toNat) ++
    [BitVec.ofNat 8 e.extCh, 0] ++ leBytes 4 e.udin ++ leBytes 4 e.utc)

/-- An event is written to the ring and the journal (R320), with BASE CAMP where it is written there (R321): source 0x27. -/
def State.writeEvent (s : State) (e : PqEvent) (extra : Nat) (stop : Option Nat) : State :=
  let a := storeBase + 0x2000 + 64 * (e.evno % 256)
  let b := e.bytes (s.nextSeq a) (extra + 16 * ofB s.baseCamp) stop
  ((s.setBytes a b).stageEvent 0x24 e.kind b).arrive 0x27

/-- A fresh event of a port: numbered, flagged, counted among the events posted. -/
def State.newEvent (s : State) (kind port phases start : Nat) (held : Bool) : PqEvent × State :=
  let learned := s.baseCamp || s.on (if port = 0 then PQ.STATUS.LEARNA else PQ.STATUS.LEARNB)
  let fl := 8 * ofB (!s.on TIME.UTCSTAT.VALID) + 32 * ofB learned + 64 * ofB held
  let n := s.get PQ.EVNEXT.EVNO
  (⟨n, kind, port, phases, start, 1, 0, 7 * port, fl, s.udin port, s.utcSecond (start / 2 ^ 32)⟩,
   (s.set PQ.EVNEXT.EVNO (n + 1)).countPosted 4)

/-! ## Capture triggers (R327) -/

/-- A trigger of cause bit b. -/
def State.trigger (s : State) (b : Nat) : State :=
  let g := s.clock.grain
  let st := s.get CAPT.STATUS.STATE
  if st = 1 ∨ st = 2 then
    let short := decide (g < s.capt.first + s.capt.pre)
    let first := if short then s.capt.first else g - s.capt.pre
    let s := (s.set2 CAPT.TGLO.GLO CAPT.TGHI.GHI g).set2 CAPT.FIRSTLO.GLO CAPT.FIRSTHI.GHI first
    ((s.set CAPT.CAUSE.CAUSE (2 ^ b)).flag CAPT.STATUS.PRESHORT short).set CAPT.STATUS.STATE 3
  else if st = 3 ∧ s.get2 CAPT.TGLO.GLO CAPT.TGHI.GHI = g then s.setBit CAPT.CAUSE.CAUSE b true
  else s.bump CAPT.MISSED.COUNT CAPT.MISSED.SAT

/-- A PQ event of a kind triggers where TRIGSRC in force selects it; in base camp capture is unavailable (R321). -/
def State.eventTrigger (s : State) (kind : Nat) : State :=
  if s.baseCamp = false ∧ 1 ≤ kind ∧ kind ≤ 7 ∧ bitOf (s.eff CAPT.CTRL.TRIGSRC) (kind - 1) then s.trigger (kind - 1) else s

/-- The start of an event of a kind is counted (R320). -/
def State.countEvent (s : State) (kind : Nat) : State :=
  match kind with
  | 1 => s.bump PQ.NDIP.COUNT PQ.NDIP.SAT
  | 2 => s.bump PQ.NSWL.COUNT PQ.NSWL.SAT
  | 3 => s.bump PQ.NINT.COUNT PQ.NINT.SAT
  | 4 => s.bump PQ.NSUP.COUNT PQ.NSUP.SAT
  | 5 => s.bump PQ.NTRANS.COUNT PQ.NTRANS.SAT
  | _ => s

/-- An event starts: numbered, counted, written as open, and it may trigger the capture. -/
def State.openEvent (s : State) (kind port phases start ext extCh : Nat) (held : Bool) : PqEvent × State :=
  let r := s.newEvent kind port phases start held
  let e : PqEvent := { r.1 with ext := ext, extCh := extCh }
  (e, ((r.2.countEvent kind).writeEvent e 1 none).eventTrigger kind)

/-- An event that is written once, when complete (R320): kinds 6–9. -/
def State.pointEvent (s : State) (kind port byte10 : Nat) : State :=
  let t := s.clock.grain * 2 ^ 32
  let r := s.newEvent kind port byte10 t false
  (r.2.writeEvent { r.1 with windows := 0 } 0 (some t)).eventTrigger kind

/-! ## The event machines (R315, R316) -/

/-- Change a port's machines. -/
def State.modPort (s : State) (p : Fin 2) (f : PqPort → PqPort) : State :=
  { s with pq := { s.pq with ports := s.pq.ports.set p (f s.pq.ports[p]) } }

/-- The voltages of the monitored phases of a port: (phase, value). -/
def State.monitored (s : State) (p : Nat) (vals : List (Option Nat)) : List (Nat × Nat) :=
  (List.range 3).filterMap (fun i =>
    if bitOf (s.phaseMask p) i then (vals.getD (7 * p + i) none).map (fun v => (i, v)) else none)

/-- The phases a test names, as bits. -/
def phaseBits (l : List (Nat × Nat)) (f : Nat → Bool) : Nat :=
  l.foldl (fun a e => if f e.2 then a ||| 2 ^ e.1 else a) 0

/-- The extreme of the values: lowest, or highest. -/
def extremeOf (low : Bool) (l : List (Nat × Nat)) : Nat × Nat :=
  l.tail.foldl (fun b e => if (if low then e.2 < b.2 else b.2 < e.2) then e else b) (l.headD (0, 0))

/-- One window of a machine: begins, goes on, or ends. -/
def State.machineStep (s : State) (cur : Option PqEvent) (kind p start : Nat) (held begins ends low : Bool) (hit : Nat)
    (l : List (Nat × Nat)) : Option PqEvent × State :=
  let x := extremeOf low l
  match cur with
  | none =>
    if begins then
      let r := s.openEvent kind p hit start x.2 (7 * p + x.1) held
      (some r.1, r.2)
    else (none, s)
  | some e =>
    let e : PqEvent := { e with flags := if held then e.flags ||| 64 else e.flags }
    if ends then (none, s.writeEvent e 0 (some start))
    else
      let better := if low then decide (x.2 < e.ext) else decide (e.ext < x.2)
      (some { e with
        windows := e.windows + 1
        phases := e.phases ||| hit
        ext := if better then x.2 else e.ext
        extCh := if better then 7 * p + x.1 else e.extCh }, s)

/-- The ACT bits follow the machines. -/
def State.showActive (s : State) : State :=
  s.set PQ.STATUS.ACT (bitsOf 6 (fun i =>
    let x := s.pq.ports.toList.getD (i / 3) PqPort.zero
    if i % 3 = 0 then x.dip.isSome else if i % 3 = 1 then x.swell.isSome else x.int.isSome))

/-- One half-cycle window of a port (R315, R316). -/
def State.portWindow (s : State) (p : Fin 2) (start : Nat) (held : Bool) (vals : List (Option Nat)) : State :=
  let u := s.udin p
  let l := s.monitored p vals
  if ¬ s.portOn p ∨ u = 0 ∨ l = [] then s
  else
    let dip := s.eff PQ.THR1.DIP
    let swell := s.eff PQ.THR1.SWELL
    let hyst := s.eff PQ.THR2.HYST
    let int := s.eff PQ.THR2.INT
    let x := s.pq.ports[p]
    let below := fun (thr v : Nat) => !atLeast v thr u
    let above := fun (thr v : Nat) => decide (thr * u < v * 10000)
    let d := s.machineStep x.dip 1 p start held (l.any (fun e => below dip e.2))
      (l.all (fun e => atLeast e.2 (dip + hyst) u)) true (phaseBits l (below dip)) l
    let w := d.2.machineStep x.swell 2 p start held (l.any (fun e => above swell e.2))
      (l.all (fun e => !above (swell - hyst) e.2)) false (phaseBits l (above swell)) l
    let n := w.2.machineStep x.int 3 p start held (l.all (fun e => below int e.2))
      (l.any (fun e => atLeast e.2 (int + hyst) u)) true (phaseBits l (below int)) l
    (n.2.modPort p (fun y => { y with dip := d.1, swell := w.1, int := n.1 })).showActive

/-- A window lies within an event of a port that flags its block (R313). -/
def State.flagging (s : State) : Bool :=
  s.pq.supply.isSome || s.pq.ports.toList.any (fun x => x.dip.isSome || x.swell.isSome || x.int.isSome)

/-! ## Half-cycle windows (R300, R301) -/

/-- The RMS of 512 points, an invalid one reading zero. -/
def rmsOf (pts : List Smp) : Option Nat :=
  if pts.length < 512 then none else some (rootQ (pts.foldl (fun a x => a + x.val.toInt.natAbs ^ 2) 0) 512)

/-- The marks of a window: those of its points, with invalid as bit 7 (R300). -/
def windowMarks (pts : List Smp) : Nat := pts.foldl (fun a x => a ||| x.marks ||| (128 * ofB x.inv)) 0

/-- A window lies within an event: the block it was formed in is flagged (R313), the one just made whole where the window
reaches into the next block's first pitch. -/
def State.flagBlock (s : State) (before : Bool) : State :=
  match before, s.pq.ready.reverse with
  | true, b :: bs => { s with pq := { s.pq with ready := (bs.reverse) ++ [(b.1, true, b.2.2)] } }
  | _, _ => { s with pq := { s.pq with flagged := true } }

/-- A window of a pitch: RMS values are posted, the window is marked as its points are, and the machines run. -/
def State.halfWindow (s : State) (p : Pitch) (start : Nat) (whole : Bool) (pts : List (List Smp)) : State :=
  let vals := (List.range 16).map (fun c => if s.served p c then rmsOf (pts.getD c []) else none)
  let s := s.forN 16 (fun c t => match vals.getD c none with
    | none => t
    | some v => if whole then (t.set (PQ.HRMS.RMS c) v).set (PQ.CRMS.RMS c) v else t.set (PQ.HRMS.RMS c) v)
  let win := (List.range 16).map (fun c => windowMarks (pts.getD c []))
  let s : State := { s with pq := { s.pq with win := win } }
  let at' := start - s.padLag * 2 ^ 32
  let held := win.any (fun m => bitOf m 1)
  let s := (s.portWindow 0 at' held vals).portWindow 1 at' held vals
  if s.flagging then s.flagBlock (!whole && p.pos == 0) else s

/-! ## Transients (R319) -/

/-- One point of a phase exceeds the transient threshold: the difference, where it does. It is taken from the previous
pitch's point; where that was part of a transient, from the last that was not as well, and the smaller one counts, so that
a sustained step, which the previous pitch already shows, gives no second transient (R319; log entry 54). -/
def State.pointExceeds (s : State) (p : Nat) (x : Smp) (ref : Option (Word × Bool × Word)) : Option Nat :=
  match ref with
  | none => none
  | some r =>
    let d1 := (x.val.toInt - r.1.toInt).natAbs
    let d := if r.2.1 then min d1 (x.val.toInt - r.2.2.toInt).natAbs else d1
    if !x.inv && decide (2 * (s.eff PQ.TRTHR.THR * s.udin p) ^ 2 < (d * 10000) ^ 2) then some d else none

/-- The reference of a phase has 512 places. -/
def padRef (l : List (Option (Word × Bool × Word))) : List (Option (Word × Bool × Word)) :=
  if l = [] then List.replicate 512 none else l

/-- What the next pitch's point is compared with: this one, whether it was part of a transient, and the last that was not. -/
def nextRef (old : Option (Word × Bool × Word)) (x : Word) (part : Bool) : Option (Word × Bool × Word) :=
  some (x, part, if part then (match old with | none => x | some r => r.2.2) else x)

/-- Point i of a pitch, time t: a transient of the port begins, goes on, or ends; the point becomes what the next pitch's is
compared with. -/
def State.transPoint (s : State) (p : Fin 2) (i t : Nat) (held : Bool) (pt : List Smp) : State :=
  let x := s.pq.ports[p]
  let hits := (List.range 3).filterMap (fun k =>
    if bitOf (s.phaseMask p) k then
      (s.pointExceeds p (pt.getD (7 * p + k) ⟨0, 0, true⟩) ((x.ref.getD k []).getD i none)).map (fun d => (k, d))
    else none)
  let bits := hits.foldl (fun a e => a ||| 2 ^ e.1) 0
  let top := extremeOf false hits
  let r : Option PqEvent × Nat × State :=
    match x.trans with
    | none =>
      if hits = [] then (none, 0, s)
      else
        let n := s.newEvent 5 p bits t held
        (some { n.1 with ext := top.2, extCh := 7 * p + top.1 }, 0, (n.2.countEvent 5).eventTrigger 5)
    | some e =>
      if hits = [] then
        if 64 ≤ x.quiet + 1 then (none, 0, s.writeEvent { e with windows := 0 } 0 (some t))
        else (some e, x.quiet + 1, s)
      else (some { e with
        phases := e.phases ||| bits
        ext := max e.ext top.2
        extCh := if e.ext < top.2 then 7 * p + top.1 else e.extCh }, 0, s)
  let part := r.1.isSome || x.trans.isSome
  r.2.2.modPort p (fun y => { y with
    trans := r.1
    quiet := r.2.1
    ref := y.ref.mapIdx (fun k l =>
      (padRef l).set i (nextRef ((padRef l).getD i none) (pt.getD (7 * p + k) ⟨0, 0, true⟩).val part)) })

/-- New points of a pitch, from index i on (R319): suspended in HOLD and in base camp; the first pitch after that has none to
be compared with. -/
def State.transPoints (s : State) (p : Pitch) (i : Nat) (pts : List (List Smp)) : State :=
  if s.baseCamp ∨ s.eff PQ.CTRL.TREN = 0 ∨ p.held then
    { s with pq := { s.pq with ports := s.pq.ports.map (fun x => { x with ref := [[], [], []] }) } }
  else
    let at' := fun (k : Nat) => p.start + (i + k) * 2 * p.plen - s.padLag * 2 ^ 32
    (List.range pts.length).foldl (fun t k =>
      (List.finRange 2).foldl (fun (u : State) (q : Fin 2) =>
        if u.portOn q ∧ u.udin q ≠ 0 then u.transPoint q (i + k) (at' k) p.held (pts.getD k []) else u) t) s

/-! ## The pitch stream as it arrives -/

/-- Turn 16 channels of points into points of channels. -/
def pointsOf (chans : List (List Smp)) (i n : Nat) : List (List Smp) :=
  (List.range n).map (fun k => chans.map (fun l => l.getD (i + k) ⟨0, 0, true⟩))

/-- A needed channel without its pitch stream sets NOPITCH (R297). -/
def State.noPitch (s : State) (p : Pitch) : State :=
  if (List.range 16).any (fun c => s.pqWants c && !bitOf p.en c) then s.flag PQ.STATUS.NOPITCH true else s

/-- The pitch stream has become whole: its second half, its window, its place in the block (R300, R303). -/
def State.pqWhole (s : State) : State :=
  match s.streams.whole with
  | none => s
  | some p =>
    let pts := s.streams.pitch
    let s := (s.noPitch p).transPoints p s.pq.pos (pointsOf pts s.pq.pos (512 - s.pq.pos))
    let s := s.halfWindow p p.start true pts
    let s : State := { s with pq := { s.pq with
      pos := 0
      half := pts.map (fun l => l.drop 256)
      halfStart := p.start + 256 * 2 * p.plen
      pts := (if p.pos = 0 then [] else s.pq.pts) ++ [(p, pts)] } }
    if s.pq.ends.contains p.start then
      { s with pq := { s.pq with
        ready := s.pq.ready ++ [(s.pq.pts, s.pq.flagged, s.clock.grain)], ends := s.pq.ends.erase p.start
        pts := [], flagged := false } }
    else s

/-- A completed pitch joins the 10-s window (R302), and is noted where it ends its block (R82). -/
def State.pqPitch (s : State) (p : Pitch) (last : Bool) : State :=
  { s with pq := { s.pq with
    f10 := s.pq.f10 ++ [(p.start, p.start + 512 * 2 * p.plen, p.held)]
    ends := if last then s.pq.ends ++ [p.start] else s.pq.ends } }

/-- Points of the pitch now being evaluated have come (R300): the straddling window at its point 255. -/
def State.pqPoints (s : State) : State :=
  match s.streams.builds.head? with
  | none => s
  | some b =>
    let pos := s.pq.pos
    if b.next ≤ pos then s
    else
      let new := ((b.points.take (b.next - pos)).reverse).map Prod.fst
      let s := s.transPoints b.pitch pos new
      let s : State := { s with pq := { s.pq with pos := b.next } }
      if pos < 256 ∧ 256 ≤ b.next ∧ s.pq.half ≠ [] then
        let first := (b.points.reverse.take 256).map Prod.fst
        let pts := s.pq.half.mapIdx (fun c l => l ++ first.map (fun pt => pt.getD c ⟨0, 0, true⟩))
        s.halfWindow b.pitch s.pq.halfStart false pts
      else s

/-- The engine at a stream fill: whether a pitch became whole. -/
def State.pqFill (s : State) (whole : Bool) : State := (if whole then s.pqWhole else s).pqPoints

/-! ## Block results (R303–R311) -/

/-- The points of channel c over a block. -/
def blockPoints (pts : List (Pitch × List (List Smp))) (c : Nat) : List Smp := pts.flatMap (fun e => e.2.getD c [])

/-- Their sum of squares, and how many there are. -/
def sumSq (l : List Int) : Nat := l.foldl (fun a x => a + x.natAbs ^ 2) 0

/-- Y(c)² in 2^-94. -/
def binSq (l : List Int) (c : Nat) : Nat :=
  let x := bin c l
  x.1.natAbs ^ 2 + x.2.natAbs ^ 2

/-- Twice the sum of squares of order h of the harmonic result (R304). -/
def harmSq (y : Nat → Nat) (n h : Nat) (sub : Bool) : Nat :=
  if h = 0 then 2 * y 0
  else if sub then 2 * (y (n * h - 1) + y (n * h) + y (n * h + 1))
  else y (n * h - n / 2) + 2 * ((List.range (n - 1)).foldl (fun a i => a + y (n * h - n / 2 + 1 + i)) 0) +
    y (n * h + n / 2)

/-- Twice the sum of squares of order h of the interharmonic result (R304). -/
def interSq (y : Nat → Nat) (n h : Nat) (sub : Bool) : Nat :=
  if h = 0 then 2 * ((List.range (n - 1)).foldl (fun a i => a + y (1 + i)) 0)
  else if sub then 2 * ((List.range (n - 3)).foldl (fun a i => a + y (n * h + 2 + i)) 0)
  else 2 * ((List.range (n - 1)).foldl (fun a i => a + y (n * h + 1 + i)) 0)

/-- A result of twice a sum of squares in 2^-94, as Q1.31. -/
def fromSq (s2 : Nat) : Nat := rootQ s2 (2 * 2 ^ 32)

/-- One channel's block result: RMS, THD, harmonics, interharmonics. -/
structure ChanRes where
  rms : Option Nat
  thd : Nat
  harm : List Nat
  inter : List Nat
  deriving DecidableEq, Repr

/-- A channel without a result. -/
def ChanRes.none : ChanRes := ⟨Option.none, absent, List.replicate 64 absent, List.replicate 64 absent⟩

/-- The result of one channel over the n pitches of a block. -/
def State.chanRes (s : State) (n : Nat) (l : List Smp) : ChanRes :=
  if l.length < 512 * n ∨ l.any Smp.inv then ChanRes.none
  else
    let xs := l.map (fun x => x.val.toInt)
    let rms := rootQ (sumSq xs) xs.length
    if s.baseCamp ∨ s.eff PQ.CTRL.HARM = 0 then { ChanRes.none with rms := some rms }
    else
      let y := binSq xs
      let sub := s.eff PQ.CTRL.HGRP != 0
      let h := (List.range 64).map (fun k => harmSq y n k sub)
      let y1 := h.getD 1 0
      let up := s.eff PQ.CTRL.THDN
      let top := ((List.range (up - 1)).map (fun i => h.getD (i + 2) 0)).foldl (· + ·) 0
      ⟨some rms, if fromSq y1 < 2 ^ 15 then absent else fitWord (rootQ (top * 10 ^ 12) y1), h.map fromSq,
        (List.range 64).map (fun k => fromSq (interSq y n k (s.eff PQ.CTRL.IHGRP != 0)))⟩

/-- The block result of a port: u2, u0 of voltage and current, d, m, class (R308–R310); |z0| and class from the phasors. -/
structure PortRes where
  unb : List Nat
  d : Nat
  m : Nat
  cls : Nat
  deriving DecidableEq, Repr

/-- The bin of the fundamental of a channel. -/
def fundBin (n : Nat) (l : List Smp) : Int × Int := bin n (l.map (fun x => x.val.toInt))

/-- u2 and u0 of three phasors, with |z0|, |z1|, |z2|. -/
def unbalance (a b c : Int × Int) : List Nat × Nat × Nat × Nat :=
  let z := symmetric a b c
  ([ppmOf z.2.2 z.2.1, ppmOf z.1 z.2.1], z.1, z.2.1, z.2.2)

/-- The results of port p over a block whose channels have RMS values. -/
def State.portRes (s : State) (p n : Nat) (pts : Nat → List Smp) (rms : Nat → Option Nat) : PortRes :=
  let u := s.udin p
  let all := s.portOn p && decide (s.phaseMask p = 7) && (List.range 3).all (fun i => (rms (7 * p + i)).isSome)
  let cur := all && (List.range 3).all (fun i => (rms (7 * p + 3 + i)).isSome)
  let f := fun (c : Nat) => fundBin n (pts (7 * p + c))
  let v := unbalance (f 0) (f 1) (f 2)
  let i := unbalance (f 3) (f 4) (f 5)
  let low := (List.range 3).any (fun k => bitOf (s.phaseMask p) k &&
    decide (((rms (7 * p + k)).getD 0) * 10 < u))
  let iMax := (List.range 3).foldl (fun a k => max a ((rms (7 * p + 3 + k)).getD 0)) 0
  let inOk := s.portOn p && (List.range 4).all (fun k => (rms (7 * p + 3 + k)).isSome)
  let sum := (List.range (512 * n)).map (fun k =>
    (List.range 4).foldl (fun (a : Int) c => a + ((pts (7 * p + 3 + c)).getD k ⟨0, 0, false⟩).val.toInt) 0)
  { unb := (if all then v.1 else [absent, absent]) ++ (if cur then i.1 else [absent, absent])
    d := if all ∧ u ≠ 0 then ppmOf v.2.1 (u * 2 ^ 16) else absent
    m := if inOk ∧ s.eff PQ.NCFG.IMIN * 2 ^ 15 ≤ iMax then
        fitWord (rootQ (sumSq sum * 10 ^ 12) (512 * n * iMax ^ 2)) else absent
    cls := if !all || low then 0 else if 2 * v.2.2.2 ≤ v.2.2.1 then 1 else if 2 * v.2.2.1 ≤ v.2.2.2 then 2 else 0 }

/-- The sequence class of a port over blocks (R309): a change after 3 in a row writes an event of kind 6. -/
def State.seqBlock (s : State) (p : Fin 2) (cls : Nat) : State :=
  let f := if p = 0 then PQ.STATUS.SEQA else PQ.STATUS.SEQB
  let old := s.get f
  let x := s.pq.ports[p]
  if cls = old then s.modPort p (fun y => { y with seqN := 0 })
  else
    let n := if cls = x.seqNew then x.seqN + 1 else 1
    if 3 ≤ n then ((s.set f cls).modPort p (fun y => { y with seqN := 0 })).pointEvent 6 p (16 * old + 64 * cls)
    else s.modPort p (fun y => { y with seqNew := cls, seqN := n })

/-- One block of an indicator: on, blocks at or above, blocks below; a block without a value breaks both counts. -/
def indicator (on' : Bool) (up down nblk : Nat) (v thr : Nat) : Bool × Nat × Nat :=
  if v = absent then (on', 0, 0)
  else if thr * 100 ≤ v then (if nblk ≤ up + 1 then (true, nblk, 0) else (on', up + 1, 0))
  else if nblk ≤ down + 1 then (false, 0, nblk) else (on', 0, down + 1)

/-- The neutral indicators of a port (R310): MISN, and MISM without it. -/
def State.neutralBlock (s : State) (p : Fin 2) (r : PortRes) : State :=
  let x := s.pq.ports[p]
  let nb := s.eff PQ.NCFG.NBLK
  let d := indicator x.dispOn x.dispUp x.dispDown nb r.d (s.eff PQ.NTHR.DISP)
  let m := indicator x.mismOn x.mismUp x.mismDown nb r.m (s.eff PQ.NTHR.MISM)
  let wasN := s.bit PQ.STATUS.NEUT p
  let wasM := s.bit PQ.STATUS.NEUT (2 + p)
  let mism := m.1 && !d.1
  let s := s.modPort p (fun y => { y with
    dispOn := d.1, dispUp := d.2.1, dispDown := d.2.2, mismOn := m.1, mismUp := m.2.1, mismDown := m.2.2 })
  let s := (s.setBit PQ.STATUS.NEUT p d.1).setBit PQ.STATUS.NEUT (2 + p) mism
  let s := if d.1 && !wasN then s.pointEvent 7 p (8 * ofB m.1) else s
  if mism && !wasM then s.pointEvent 8 p 0 else s

/-- Udin is learned from a block that completed in TRACK (R298). Where no phase remains nothing changes, and learning waits
for the next block. In base camp a learned value is in force beside what the host has written for RUN (R321). -/
def State.learn (s : State) (p : Fin 2) (track : Bool) (rms : Nat → Option Nat) : State :=
  let fu := if p = 0 then PQ.UDINA.UDIN else PQ.UDINB.UDIN
  let fm := if p = 0 then PQ.CTRL.PHA else PQ.CTRL.PHB
  if s.portOn p ∧ s.udin p = 0 ∧ (s.baseCamp ∨ s.get fu = 0) ∧ track then
    let keep := (List.range 3).filter (fun i => bitOf (s.phaseMask p) i &&
      decide (0x01000000 ≤ (rms (7 * p + i)).getD 0))
    if keep = [] then s
    else
      let mask := keep.foldl (fun a i => a + 2 ^ i) 0
      let sum := keep.foldl (fun a i => a + (rms (7 * p + i)).getD 0) 0
      let u := (Config.round sum keep.length).toNat
      let s := (s.force' fu u).force' fm mask
      let s := if s.get fu = 0 then (s.set fu u).set fm (s.get fm &&& mask) else s
      (s.flag (if p = 0 then PQ.STATUS.LEARNA else PQ.STATUS.LEARNB) true).pointEvent 9 p mask
  else s

/-! ## Aggregation (R312, R323) -/

/-- The order of the values of an entry: RMS and THD by channel, unbalance by port, harmonics, interharmonics, bands. -/
def valuesOf (cs : List ChanRes) (ps : List PortRes) (sup : List (Option Supra)) : List Nat :=
  cs.map (fun c => c.rms.getD absent) ++ cs.map ChanRes.thd ++ ps.flatMap PortRes.unb ++ cs.flatMap ChanRes.harm ++
    cs.flatMap ChanRes.inter ++
    (List.range 4).flatMap (fun q => match sup.getD q none with | none => List.replicate 740 absent | some r => r.bands)

/-- Square a value into the sums; absent ones do not count. -/
def addSquares (sums : List (Nat × Nat)) (vals : List Nat) : List (Nat × Nat) :=
  vals.mapIdx (fun i v =>
    let e := sums.getD i (0, 0)
    if v = absent then e else (e.1 + 1, e.2 + v ^ 2))

/-- The aggregated values: root of the mean of the squares. -/
def PqAgg.values (a : PqAgg) : List Nat := a.sums.map (fun e => if e.1 = 0 then absent else rootQ e.2 e.1)

/-- The 32-bit words of a list as bytes. -/
def wordsOf (l : List Nat) : List Byte := l.flatMap (leBytes 4)

/-- An entry's bytes (R323): the values in the order of valuesOf, d and m and the class by port. -/
def entryBytes (seq kind : Nat) (a : PqAgg) (vals : List Nat) (tail : List (Nat × Nat × Nat × Nat)) : List Byte :=
  let head := leBytes 4 seq ++ [BitVec.ofNat 8 kind, BitVec.ofNat 8 a.flags] ++ leBytes 2 a.blocks ++
    leBytes 8 (a.start / 2 ^ 32) ++ leBytes 4 a.start ++ leBytes 8 a.grain ++ leBytes 4 a.utc ++ leBytes 4 a.served ++
    leBytes 4 a.bands ++ leBytes 4 (Config.round ((a.pitches : Int) * 32000 * 10 ^ 6 * 2 ^ 32) a.length).toNat
  let chans := (List.range 16).flatMap (fun c => wordsOf [vals.getD c absent, vals.getD (16 + c) absent, 0, 0])
  let ports := (List.range 2).flatMap (fun p =>
    let t := tail.getD p (absent, absent, 0, 0)
    padTo 128 (wordsOf ((vals.drop (32 + 4 * p)).take 4) ++ wordsOf [t.1, t.2.1, t.2.2.1] ++ [BitVec.ofNat 8 t.2.2.2]))
  padTo 0x100 head ++ chans ++ ports ++ wordsOf (vals.drop 40)

/-- Where entry e stands. -/
def entryAddr (e : Nat) : Nat := storeBase + 0x6000 + 0x5200 * e

/-- An entry is written (R325). -/
def State.writeEntry (s : State) (e kind : Nat) (a : PqAgg) (vals : List Nat) (tail : List (Nat × Nat × Nat × Nat)) :
    State :=
  let ad := entryAddr e
  s.setBytes ad (padTo 0x5200 (entryBytes (s.nextSeq ad) kind a vals tail))

/-- The channels of the bands aggregated so far, with a block's (R323): by quad the latest that has any. -/
def joinBands (old new : Nat) : Nat :=
  (List.range 4).foldl (fun a q => a + 256 ^ q *
    (if field new (8 * q) 8 = 0xFF then field old (8 * q) 8 else field new (8 * q) 8)) 0

/-- Join a block, or an aggregate, into one in formation. -/
def joinAgg (cur : Option PqAgg) (a : PqAgg) (vals : List Nat) : PqAgg :=
  match cur with
  | none => { a with sums := addSquares [] vals }
  | some c => { c with
      blocks := c.blocks + a.blocks
      flags := c.flags ||| a.flags
      grain := a.grain
      served := c.served ||| a.served
      bands := joinBands c.bands a.bands
      pitches := c.pitches + a.pitches
      length := c.length + a.length
      sums := addSquares c.sums vals }

/-- Udin of a port for an entry: the absent code where the part lacks the port (R10, R323). -/
def State.udinShown (s : State) (p : Nat) : Nat := if p = 1 ∧ ¬ s.part.big then absent else s.udin p

/-- d, m, Udin and class of a port for an interval: no rule says how d and m are aggregated, so they are open; both absent
where the port is not served (R10). -/
def State.portTail (s : State) (p : Nat) : (Nat × Nat × Nat × Nat) × State :=
  let cls := s.get (if p = 0 then PQ.STATUS.SEQA else PQ.STATUS.SEQB)
  if s.portOn p then
    let a := s.openVal
    let b := a.2.openVal
    ((a.1 % 2 ^ 32, b.1 % 2 ^ 32, s.udinShown p, cls), b.2)
  else ((absent, absent, s.udinShown p, cls), s)

/-- Both ports' tails. -/
def State.tailOf (s : State) : List (Nat × Nat × Nat × Nat) × State :=
  let a := s.portTail 0
  let b := a.2.portTail 1
  ([a.1, b.1], b.2)

/-- An interval is posted: source 0x28. -/
def State.postInterval (s : State) (entry kind count : Nat) (a : PqAgg) : State :=
  let t := s.tailOf
  ((t.2.writeEntry entry kind a a.values t.1).countPosted count).arrive 0x28

/-- The 2-hour interval in formation is posted. -/
def State.postTwo (s : State) : State :=
  match s.pq.two with
  | none => s
  | some a =>
    let s := s.postInterval (34 + (s.word (storeBase + 12)).toNat % 4) 3 3 a
    { s with pq := { s.pq with two := none } }

/-- A 2-hour interval takes a 10-minute one of its even UTC hour (R83): one of another hour ends it first, and the last of
the hour completes it. -/
def State.joinTwo (s : State) (a : PqAgg) (ix : Nat) : State :=
  let s := if s.pq.twoIx = ix / 12 then s else s.postTwo
  let two := joinAgg s.pq.two { a with utc := if bitOf a.flags 2 then 0 else ix / 12 * 7200 } a.values
  let s : State := { s with pq := { s.pq with two := some two, twoIx := ix / 12 } }
  if ix % 12 = 11 then s.postTwo else s

/-- The 10-minute interval is posted. -/
def State.postTen (s : State) : State :=
  match s.pq.ten with
  | none => s
  | some a =>
    let s := s.postInterval (2 + (s.word (storeBase + 8)).toNat % 32) 2 2 a
    ({ s with pq := { s.pq with ten := none } } : State).joinTwo a s.pq.tenIx

/-- The intervals that no later block can join are posted (R83, R312): with the last block that completes them where the
10-minute boundary has passed by its posting, else at the boundary (log entry 38). -/
def State.postEnded (s : State) : State :=
  if s.pq.infos.any (fun i => i.ten == s.pq.tenIx) then s
  else
    let s := if s.pq.ten.isSome ∧ s.tenMinute ≠ s.pq.tenIx then s.postTen else s
    if s.pq.two.isSome ∧ s.tenMinute / 12 ≠ s.pq.twoIx then s.postTwo else s

/-- INTERVAL_BOUNDARY (R83): a 10-minute boundary has passed; the running interval will end short with the block now
running, and a 10-minute interval whose blocks are all posted is posted. -/
def execIntervalBoundary (s : State) : Host.Outcome State Fault Refusal :=
  .next (if s.power = .on ∧ s.tenMinute ≠ s.tracker.tenIdx then
    ({ s with tracker := { s.tracker with ivEnd := true, tenIdx := s.tenMinute } } : State).postEnded else s)

/-- The 150/180-cycle interval with a block joined (R312): in formation, or posted where the block ended it (R82). -/
def State.joinIv (s : State) (iv : PqAgg) : Option Bool → State
  | none => { s with pq := { s.pq with iv := some iv } }
  | some part =>
    let t : State := s.postInterval 1 1 1 { iv with flags := iv.flags ||| (2 * ofB part) }
    { t with pq := { t.pq with iv := none } }

/-- The 10-minute interval takes a block of its index (R312). -/
def State.joinTen (s : State) (a : PqAgg) (vals : List Nat) (ix : Nat) : State :=
  { s with pq := { s.pq with ten := some (joinAgg s.pq.ten a vals), tenIx := ix } }

/-- A block joins the intervals (R312): a block of another 10-minute index ends the one before. -/
def State.joinIntervals (s : State) (a : PqAgg) (vals : List Nat) (i : BlockInfo) : State :=
  let s : State := s.joinIv (joinAgg s.pq.iv a vals) i.ivDone
  let s : State := if s.pq.ten.isSome ∧ s.pq.tenIx ≠ i.ten then s.postTen else s
  s.joinTen { a with utc := if i.unsync then 0 else i.ten * 600 } vals i.ten

/-- The phase table of the latest block (R306). -/
def State.writePhases (s : State) (n : Nat) (pts : Nat → List Smp) (on' : Nat → Bool) : State :=
  let ref := fundBin n (pts 0)
  s.setBytes (storeBase + 0x1000) ((List.range 16).flatMap (fun c => wordsOf ((List.range 64).map (fun h =>
    if on' c then phaseOf (bin (n * h) ((pts c).map (fun x => x.val.toInt))) ref else absent))))

/-- PQ_BLOCK_POST (R311): the results of a block whose pitch stream is whole. -/
def State.postBlock (s : State) (blk : List (Pitch × List (List Smp))) (flagged : Bool) (i : BlockInfo) : State :=
  let n := blk.length
  let p0 := (blk.head?.map Prod.fst).getD ⟨0, 0, false, 0, 0, 0⟩
  let pts := fun (c : Nat) => if blk.all (fun e => s.served e.1 c) then blockPoints blk c else []
  let cs := (List.range 16).map (fun c => s.chanRes n (pts c))
  let rms := fun (c : Nat) => (cs.getD c ChanRes.none).rms
  let ps := (List.range 2).map (fun p => s.portRes p n pts rms)
  let smp := (List.range 16).flatMap pts
  let sup := ((s.pq.supra.filter (fun x => decide (x.1 ≤ i.grain))).getLast?.map Prod.snd).getD []
  let flags := ofB flagged + 4 * ofB i.unsync + 8 * ofB (blk.any (fun e => e.1.held)) +
    16 * ofB (smp.any (fun x => decide (x.marks ≠ 0))) + 32 * ofB (smp.any Smp.inv) +
    64 * ofB (sup.any (fun r => match r with | none => false | some x => x.settling))
  let a : PqAgg := {
    blocks := 1, flags := flags, start := p0.start, grain := i.grain
    utc := if i.unsync then 0 else s.utcSecond (p0.start / 2 ^ 32)
    served := bitsOf 16 (fun c => decide (pts c ≠ []))
    bands := ((List.range 4).foldl (fun a q => a + 256 ^ q * (match sup.getD q none with | none => 0xFF | some r => r.chan)) 0)
    pitches := n, length := (blk.map (fun e => 1024 * e.1.plen)).foldl (· + ·) 0, sums := [] }
  let vals := valuesOf cs ps sup
  let tail := ps.mapIdx (fun p r => (r.d, r.m, s.udinShown p, r.cls))
  let s := (s.writeEntry 0 0 a vals tail).countPosted 0
  let s := if s.baseCamp ∨ s.eff PQ.CTRL.HARM = 0 then s else s.writePhases n pts (fun c => (rms c).isSome)
  let s : State := { s with pq := { s.pq with supra := s.pq.supra.filter (fun x => decide (i.grain < x.1)) } }
  let s := (s.joinIntervals a vals i).postEnded
  let s := (List.finRange 2).foldl (fun (t : State) (p : Fin 2) =>
    let r := ps.getD p ⟨[], absent, absent, 0⟩
    if t.portOn p then (((t.seqBlock p r.cls).neutralBlock p r).learn p i.track rms) else t) s
  (s.set2 PQ.BLKLO.GLO PQ.BLKHI.GHI i.grain).arrive 0x26

/-- A whole block may be posted (R311, R313): its last straddling window has been evaluated, or 320 grains have passed since
its last pitch stream became whole. -/
def State.postable (s : State) (whole : Nat) : Bool := decide (256 ≤ s.pq.pos ∨ 1 < s.pq.pts.length + s.pq.ready.length ∨
  s.pq.pts ≠ [] ∨ whole + 320 ≤ s.clock.grain)

/-- PQ_BLOCK_POST. -/
def execPqBlockPost (s : State) : Host.Outcome State Fault Refusal :=
  .next (match s.pq.ready, s.pq.infos with
    | b :: bs, i :: is =>
      if s.power = .on ∧ s.postable b.2.2 then
        ({ s with pq := { s.pq with ready := bs, infos := is } } : State).postBlock b.1 b.2.1 i
      else s
    | _, _ => s)

/-- The block boundary's work for PQ: the block's info, and CTRL, thresholds and Udin come into force (R314, R331); not in
base camp, which runs on its own (R321). -/
def State.pqBlockBoundary (s : State) : State :=
  let info : BlockInfo := ⟨s.clock.grain, s.tracker.ivDone, s.tenMinute, !s.on TIME.UTCSTAT.VALID,
    s.get TIME.TRK.STATE == 1⟩
  let s : State := { s with pq := { s.pq with infos := s.pq.infos ++ [info] } }
  if s.baseCamp then s
  else [PQ.CTRL.THDN, PQ.CTRL.PHB, PQ.CTRL.PHA, PQ.CTRL.IHGRP, PQ.CTRL.HGRP, PQ.CTRL.TREN, PQ.CTRL.SUPRA, PQ.CTRL.HARM,
   PQ.CTRL.ENB, PQ.CTRL.ENA, PQ.UDINA.UDIN, PQ.UDINB.UDIN, PQ.THR1.SWELL, PQ.THR1.DIP, PQ.THR2.HYST, PQ.THR2.INT].foldl
    State.takeEffect s

/-- The next 10-s boundary of UTC, or of the grain count (R302). -/
def State.nextTen (s : State) : Nat :=
  if s.on TIME.UTCSTAT.VALID then s.clock.grain + (320000 - (s.utcGrain % 320000).toNat)
  else (s.clock.grain / 320000 + 1) * 320000

/-- The settings of PQ and CAPT that take effect at the grain boundary. -/
def State.pqBoundary (s : State) : State :=
  let s := [PQ.NTHR.MISM, PQ.NTHR.DISP, PQ.NCFG.IMIN, PQ.NCFG.NBLK, PQ.TRTHR.THR, CAPT.CTRL.TRIGSRC].foldl
    State.takeEffect s
  if s.pq.f10End = 0 then { s with pq := { s.pq with f10End := s.nextTen, f10Unsync := !s.on TIME.UTCSTAT.VALID } } else s

/-- Base camp takes over without a restart (R321, R501): port A alone, nothing learned yet, thresholds at their reset values;
what the host has written stays for RUN; capture, unavailable there, goes idle unless it is frozen (log entry 54). -/
def State.pqBaseCamp (s : State) : State :=
  let s := [PQ.CTRL.PHB, PQ.CTRL.PHA, PQ.UDINA.UDIN, PQ.UDINB.UDIN, PQ.THR1.SWELL, PQ.THR1.DIP, PQ.THR2.HYST, PQ.THR2.INT].foldl
    (fun (t : State) f => t.force' f f.reset) s
  if 1 ≤ s.get CAPT.STATUS.STATE ∧ s.get CAPT.STATUS.STATE ≤ 3 then s.set CAPT.STATUS.STATE 0 else s

end Sys2Proof.Machine
end

