-- ==== Sys2Proof/Machine/Capt.lean ====
section
/-! DEFINITION. The 10-s frequency, supraharmonics, the registers of PQ, supply interruptions, and the capture ring
(10_power_quality.md). -/

namespace Sys2Proof.Machine

/-! ## The 10-s frequency (R302) -/

/-- F10_WINDOW_END: the window's end has passed. A pitch that has ended and completes at this boundary counts too. -/
def execF10WindowEnd (s : State) : Host.Outcome State Fault Refusal :=
  .next (if s.power = .on ∧ s.pq.f10End ≠ 0 ∧ s.pq.f10End ≤ s.clock.grain then
    let stop := s.pq.f10End * 2 ^ 32
    let start := stop - 320000 * 2 ^ 32
    let running := s.tracker.running.map (fun p => (p.start, p.start + 512 * 2 * p.plen, p.held))
    let l := (s.pq.f10 ++ running).filter (fun e => decide (start ≤ e.1 ∧ e.2.1 ≤ stop))
    let n := l.length
    let d := (l.getLast?.map (fun e => e.2.1)).getD 0 - (l.head?.map (fun e => e.1)).getD 0
    let t : State := { s with pq := { s.pq with
      f10 := s.pq.f10.filter (fun e => decide (stop < e.2.1)), f10End := s.nextTen
      f10Unsync := !s.on TIME.UTCSTAT.VALID } }
    if n = 0 then t
    else
      let t := t.set PQ.F10.F (Config.round ((32000 * 10 ^ 6 * n * 2 ^ 32 : Nat) : Int) d).toNat
      let t := (t.flag PQ.F10STAT.VALID true).flag PQ.F10STAT.HELD (l.any (fun e => e.2.2))
      (t.flag PQ.F10STAT.UNSYNC s.pq.f10Unsync).set2 PQ.F10GLO.GLO PQ.F10GHI.GHI s.pq.f10End
  else s)

/-! ## Supraharmonics (R307) -/

/-- The strided words of the grain join the window; a grain count divisible by 6400 begins the next. -/
def State.supraFill (s : State) : State :=
  let new := s.clock.grain % 6400 == 0
  let s : State := if new then { s with pq := { s.pq with
      ended := some (s.pq.words, s.pq.settling, s.clock.grain), words := [[], [], [], []], settling := 0 } } else s
  let settling := bitsOf 4 (fun q => s.on (QUAD.STATUS.ILVSETTLING q))
  if s.eff PQ.CTRL.SUPRA = 0 ∨ s.baseCamp then s
  else { s with pq := { s.pq with
    words := s.pq.words.mapIdx (fun q l => match s.strideSlot q with
      | none => l
      | some k => ((s.streams.strNow.getD (slotChan (4 * q + k)) []).map (fun x => x.val)).reverse ++ l)
    settling := s.pq.settling ||| settling } }

/-- The bands of a whole window of 102 400 words. -/
def supraBands (xs : List Int) : List Nat :=
  (List.range 740).map (fun b =>
    let low := (2100 + 200 * b - 95) / 5
    fromSq (2 * ((List.range 40).foldl (fun a i => a + binSq xs (low + i)) 0)))

/-- SUPRA_WINDOW_END: a quad wholly in Stride over the window has results. -/
def execSupraWindowEnd (s : State) : Host.Outcome State Fault Refusal :=
  .next (match s.pq.ended with
    | none => s
    | some w =>
      if s.power = .on then { s with pq := { s.pq with
        ended := none
        supra := s.pq.supra ++ [(w.2.2, (List.range 4).map (fun q =>
          let l := w.1.getD q []
          if l.length = 102400 then
            some ⟨slotChan (4 * q + (s.quadAt q).strideK), bitOf w.2.1 q, supraBands (l.reverse.map BitVec.toInt)⟩
          else none))] } }
      else s)

/-! ## The registers of PQ (R298, R314, R331) -/

/-- The thresholds hold together (R314). -/
def thrOk (dip swell int hyst : Nat) : Bool :=
  decide (int + hyst < dip) && decide (dip + hyst ≤ 10000) && decide (10000 + hyst ≤ swell)

/-- A write of THR1 (i = 0) or THR2 (R314): whole or refused. -/
def State.thrWrite (s : State) (i : Nat) (v : Nat) : State :=
  let lo := field v 0 16
  let hi := field v 16 16
  if i = 0 then
    if thrOk lo hi (s.get PQ.THR2.INT) (s.get PQ.THR2.HYST) then (s.set PQ.THR1.DIP lo).set PQ.THR1.SWELL hi
    else s.flag PQ.STATUS.THRREF true
  else if thrOk (s.get PQ.THR1.DIP) (s.get PQ.THR1.SWELL) lo hi then (s.set PQ.THR2.INT lo).set PQ.THR2.HYST hi
  else s.flag PQ.STATUS.THRREF true

/-- PQ_THR_WRITE. -/
def execPqThrWrite (idx : Fin 2) (v : Word) (s : State) : Host.Outcome State Fault Refusal :=
  .next (s.whenOn (s.thrWrite idx v.toNat))

/-- A write of Udin (R298): a non-zero one clears LEARN. -/
def State.udinWrite (s : State) (p : Nat) (v : Nat) : State :=
  if p = 1 ∧ ¬ s.part.big then s
  else
    let s := s.set (if p = 0 then PQ.UDINA.UDIN else PQ.UDINB.UDIN) v
    if v % 2 ^ 32 = 0 then s else s.flag (if p = 0 then PQ.STATUS.LEARNA else PQ.STATUS.LEARNB) false

/-- UDIN_WRITE. -/
def execUdinWrite (port : Fin 2) (v : Word) (s : State) : Host.Outcome State Fault Refusal :=
  .next (s.whenOn (s.udinWrite port v.toNat))

/-- The writes of PQ that do more than store: nothing of port B on the MS1200. -/
def pqWrite (s : State) (idx v : Nat) : Option State :=
  if idx = 0 then
    let t := s.writeCells ((cellsOf regsPq 0x24 0 0).getD []) v
    let n := field v 16 6
    let t := t.set PQ.CTRL.THDN (if n < 40 then 40 else n)
    some (if s.part.big then t else (t.set PQ.CTRL.ENB (s.get PQ.CTRL.ENB)).set PQ.CTRL.PHB (s.get PQ.CTRL.PHB))
  else if idx = 2 ∨ idx = 3 then some (s.udinWrite (idx - 2) v)
  else if idx = 4 ∨ idx = 5 then some (s.thrWrite (idx - 4) v)
  else none

/-- The views of PQ: port B reads zero on the MS1200. -/
def pqView (s : State) (idx : Nat) : Option Nat :=
  if s.part.big then none
  else if idx = 0 then some (s.readCells ((cellsOf regsPq 0x24 0 0).getD []) - 2 ^ 12 * s.get PQ.CTRL.PHB)
  else if idx = 3 then some 0 else none

/-! ## The supply interruption and resets (R318) -/

/-- The events now active. -/
def State.activeEvents (s : State) : List PqEvent :=
  s.pq.ports.toList.flatMap (fun x => [x.dip, x.swell, x.int].filterMap id) ++ s.pq.supply.toList

/-- The warning is raised: active events are written as open, and a supply interruption opens unless an interruption of
port A is active. -/
def State.pqWarning (s : State) : State :=
  let s := s.activeEvents.foldl (fun (t : State) e => t.writeEvent e 1 none) s
  if s.pq.ports[0].int.isSome then s
  else
    let r := s.openEvent 4 0 0 (s.clock.grain * 2 ^ 32) 0 0 false
    ({ r.2 with pq := { r.2.pq with supply := some { r.1 with windows := 0 } } } : State).flag PQ.STATUS.SUPINT true

/-- The warning clears without a reset: the supply interruption closes. -/
def State.pqClear (s : State) : State :=
  match s.pq.supply with
  | none => s
  | some e =>
    let s := s.writeEvent e 0 (some (s.clock.grain * 2 ^ 32))
    ({ s with pq := { s.pq with supply := none } } : State).flag PQ.STATUS.SUPINT false

/-- What a reset leaves of PQ: nothing but the events that were open. -/
def State.pqReset (s : State) : Pq := { Pq.zero with atReset := s.activeEvents ++ s.pq.atReset }

/-- The events open at a reset are closed as reconstructed: at the first grain in TRACK, or at once with END UNKNOWN
after a cold start (R318). -/
def State.pqReopen (s : State) (cold : Bool) : State :=
  if s.pq.atReset = [] ∨ (cold = false ∧ s.get TIME.TRK.STATE ≠ 1) then s
  else
    let stop := s.clock.grain * 2 ^ 32
    let t := s.pq.atReset.foldl (fun (t : State) e =>
      if cold then t.writeEvent e 6 none else t.writeEvent e 2 (some stop)) s
    { t with pq := { t.pq with atReset := [] } }

/-! ## Capture (R326–R330) -/

/-- The three bytes of a channel in a frame (R326). -/
def frameBytes (x : Smp) : List Byte :=
  leBytes 3 (if x.inv then 0x800000 else wrapN 24 (clampI (-0x7FFFFF) 0x7FFFFF (rneDiv x.val.toInt 256)))

/-- The ring takes the frame of the running grain while filling, armed or in post-trigger (R326). -/
def State.captFill (s : State) : State :=
  let g := s.clock.grain
  let st := s.get CAPT.STATUS.STATE
  let tg := s.get2 CAPT.TGLO.GLO CAPT.TGHI.GHI
  if s.baseCamp = false ∧ (st = 1 ∨ st = 2 ∨ (st = 3 ∧ g < tg + s.capt.post)) then
    let s := s.setBytes (0x10000000 + 72 * (g % 58254))
      ((List.range 24).flatMap (fun c => frameBytes (s.streams.now.getD c ⟨0, 0, true⟩)))
    { s with capt := { s.capt with marks := s.capt.marks.mapIdx (fun c n =>
        if (s.streams.now.getD c ⟨0, 0, true⟩).marks ≠ 0 then g + 1 else n) } }
  else s

/-- The capture freezes: source 0x29. -/
def State.freeze (s : State) (incomplete : Bool) (stop : Nat) : State :=
  let first := s.get2 CAPT.FIRSTLO.GLO CAPT.FIRSTHI.GHI
  let s := (s.set CAPT.STATUS.STATE 4).set CAPT.COUNT.COUNT (stop - first)
  let s := if incomplete then s.flag CAPT.STATUS.INCOMPLETE true else s
  (s.set CAPT.MARKS.MARKS (bitsOf 24 (fun c => decide (first < s.capt.marks.getD c 0)))).arrive 0x29

/-- CAPT_FREEZE (R327): POST grains are recorded. -/
def execCaptFreeze (s : State) : Host.Outcome State Fault Refusal :=
  let stop := s.get2 CAPT.TGLO.GLO CAPT.TGHI.GHI + s.capt.post
  .next (s.whenOn (if s.get CAPT.STATUS.STATE = 3 ∧ stop ≤ s.clock.grain + 1 then s.freeze false stop else s))

/-- CAPT_PRE_FILLED (R327). -/
def execCaptPreFilled (s : State) : Host.Outcome State Fault Refusal :=
  .next (s.whenOn (if s.get CAPT.STATUS.STATE = 1 ∧ s.capt.first + s.capt.pre ≤ s.clock.grain + 1 then
    s.set CAPT.STATUS.STATE 2 else s))

/-- The supply-fail warning freezes a capture that is filling or in post-trigger (R329). -/
def State.captWarning (s : State) : State :=
  let st := s.get CAPT.STATUS.STATE
  if st = 1 then (s.set2 CAPT.FIRSTLO.GLO CAPT.FIRSTHI.GHI s.capt.first).freeze true (s.clock.grain + 1)
  else if st = 3 then s.freeze true (s.clock.grain + 1) else s

/-- ARM is refused (R328). -/
def State.armBad (s : State) : Bool :=
  s.baseCamp || decide (32000 < s.get CAPT.PRE.PRE) || decide (57600 < s.get CAPT.PRE.PRE + s.get CAPT.POST.POST) ||
    s.get CAPT.STATUS.STATE == 5

/-- CAPT_ARM (R327, R328): PRE and POST are taken, and the ring fills from the next grain. -/
def State.arm (s : State) : State :=
  if s.armBad then s.flag CAPT.STATUS.ARMREF true
  else
    let s : State := { s with capt := { s.capt with
      pre := s.get CAPT.PRE.PRE, post := s.get CAPT.POST.POST, first := s.clock.grain + 1
      marks := List.replicate 24 0 } }
    let s := (((s.set CAPT.STATUS.STATE 1).set CAPT.CAUSE.CAUSE 0).flag CAPT.STATUS.PRESHORT false).set CAPT.COUNT.COUNT 0
    s.set CAPT.DRAWPOS.POS 0

/-- CAPT_DISARM (R328). -/
def State.disarm (s : State) : State := if s.get CAPT.STATUS.STATE = 5 then s else s.set CAPT.STATUS.STATE 0

/-- CAPT_ARM. -/
def execCaptArm (s : State) : Host.Outcome State Fault Refusal := .next (s.whenOn s.arm)

/-- CAPT_TRIG: the software trigger, cause bit 7. -/
def execCaptTrig (s : State) : Host.Outcome State Fault Refusal := .next (s.whenOn (s.trigger 7))

/-- CAPT_DISARM. -/
def execCaptDisarm (s : State) : Host.Outcome State Fault Refusal := .next (s.whenOn s.disarm)

/-- A draw is refused (R330). -/
def State.drawBad (s : State) (who permit : Nat) : Bool :=
  s.get (LEASE.HOLD.STATE 2) != 1 || s.get (LEASE.HOLD.HOLDER 2) != who ||
  s.get (PERMIT.SLOT.STATE permit) != 2 || s.get (PERMIT.SLOT.HOLDER permit) != who ||
  decide (s.get (PERMIT.SLOT.DRAW permit) < 60) || s.get CAPT.STATUS.STATE != 4

/-- DRAW.GO (R330). -/
def State.drawGo (s : State) (who v : Nat) : State :=
  let permit := v % 16
  if s.drawBad who permit then s.flag CAPT.STATUS.DRAWREF true
  else
    let s : State := { s with capt := { s.capt with who := who, permit := permit } }
    (if bitOf v 9 then s.set CAPT.DRAWPOS.POS 0 else s).set CAPT.STATUS.STATE 5

/-- The lease or the permit of a draw has gone: it stops, the capture stays frozen (R257, R330). -/
def State.drawStop (s : State) : State :=
  if s.get CAPT.STATUS.STATE = 5 then
    ((s.set CAPT.STATUS.STATE 4).flag CAPT.STATUS.INCOMPLETE true).arrive 0x2A
  else s

/-- The writes of CAPT that do more than store. -/
def captWrite (s : State) (who idx v : Nat) : Option State :=
  if idx = 2 then some (s.set CAPT.POST.POST (if v % 2 ^ 16 = 0 then 1 else v))
  else if idx = 3 then
    let s := if bitOf v 2 then s.disarm else s
    let s := if bitOf v 0 then s.arm else s
    some (if bitOf v 1 then s.trigger 7 else s)
  else if idx = 0x0C then some (if bitOf v 8 then s.drawGo who v else s)
  else none

end Sys2Proof.Machine
end

