-- ==== Sys2Proof/Machine/AuxConv.lean ====
section
/-! DEFINITION. The auxiliary converter (13_aux_converter.md). -/

namespace Sys2Proof.Machine

/-- Change the converter. -/
def State.modAux (s : State) (f : AuxSt → AuxSt) : State := { s with aux := f s.aux }

/-- A differential channel (R390). -/
def auxSigned (ch : Nat) : Bool := ch ∈ [0x08, 0x09, 0x0A, 0x18, 0x19, 0x1F]

/-- The channel codes (R390). -/
def auxCode (ch : Nat) : Bool :=
  ch ∈ [0, 1, 2, 3, 4, 5, 0x08, 0x09, 0x0A, 0x10, 0x11, 0x12, 0x13, 0x14, 0x15, 0x16, 0x18, 0x19, 0x1F]

/-- The tamper supervisor uses an external sensor of a source: it watches the source with detector 2 (R63, R391). -/
def State.sensorUsed (s : State) (n : Nat) : Bool := s.on (TAMP.CFG.EN n) && s.on (TAMP.CFG.D2EN n)

/-- A write of AUX.CH is refused (R391). -/
def State.auxChBad (s : State) (ch : Nat) : Bool :=
  !auxCode ch || (ch == 0x18 && !s.part.optG) || ((ch == 4 || ch == 0x0A) && s.sensorUsed 1) ||
    ((ch == 5 || ch == 0x0A) && s.sensorUsed 0)

/-- A write of AUX.CH. -/
def State.auxCh (s : State) (v : Nat) : State :=
  if s.auxChBad (v % 32) then s.flag AUX.STATUS.CHREF true else s.set AUX.CH.SEL v

/-- The next SAR clock: CORE ÷ 8 (R392). -/
def State.sarNext (s : State) : Nat := (s.clock.now / 8 + 1) * 8

/-- A conversion begins at a SAR clock: ACQ + 17 SAR clocks of 8 CORE cycles (R392), under CTRL as it stands (R394). -/
def State.convStart (s : State) (at' : Nat) : State :=
  let uncal := !s.on AUX.STATUS.CALOK
  s.modAux (fun a => { a with
    stop := some (at' + 8 * (s.get AUX.CTRL.ACQ + 17)), uncal := a.uncal || uncal
    align := s.on AUX.CTRL.ALIGN, cont := s.on AUX.CTRL.CONT })

/-- What waits for a free converter goes on at a SAR clock: a result's conversion, from its acquisition (R393, R397). -/
def State.auxResume (s : State) (at' : Nat) : State :=
  if s.on AUX.STATUS.BUSY ∧ s.on AUX.STATUS.REFRDY ∧ s.aux.urgent.bind (fun u => u.stop) = none then s.convStart at' else s

/-- A result begins (R393): channel and average are taken; its first conversion waits for the reference. -/
def State.resultStart (s : State) (at' : Nat) : State :=
  let ch := s.get AUX.CH.SEL
  let n := 2 ^ s.get AUX.CTRL.AVG
  let s := s.modAux (fun a => { a with stop := none, ch := ch, avg := n, sum := 0, n := 0, uncal := false, discard := false })
  s.auxResume at'

/-- GO (R393). -/
def State.auxGo (s : State) : State :=
  if s.on AUX.STATUS.BUSY ∨ s.on AUX.STATUS.CALBUSY then s.flag AUX.STATUS.GOREF true
  else (s.flag AUX.STATUS.BUSY true).resultStart s.sarNext

/-- STOP, or the rollback of the lease (R394, R399). -/
def State.auxStop (s : State) : State :=
  if s.on AUX.STATUS.CALBUSY then s.flag AUX.STATUS.CALBUSY false
  else if s.on AUX.STATUS.BUSY then
    if s.aux.stop.isSome then s.modAux (fun a => { a with discard := true }) else s.flag AUX.STATUS.BUSY false
  else s

/-- A calibration step: 105 µs. -/
def calCycles : Nat := 21504

/-- CAL (R399). -/
def State.auxCal (s : State) : State :=
  if s.on AUX.STATUS.BUSY ∨ s.on AUX.STATUS.CALBUSY ∨ ¬ s.on AUX.STATUS.REFRDY then s.flag AUX.STATUS.CALREF true
  else ((s.flag AUX.STATUS.CALBUSY true).flag AUX.STATUS.CALOK false).modAux (fun a =>
    { a with calStep := 0, calEnd := s.clock.now + calCycles })

/-- AUX_CAL_STEP_END (R399): the 20th step sets CALOK. -/
def execAuxCalStepEnd (s : State) : Host.Outcome State Fault Refusal :=
  .next (if s.power = .on ∧ s.on AUX.STATUS.CALBUSY ∧ s.aux.calEnd ≤ s.clock.now ∧
      s.aux.urgent.bind (fun u => u.stop) = none then
    if 20 ≤ s.aux.calStep + 1 then (s.flag AUX.STATUS.CALBUSY false).flag AUX.STATUS.CALOK true
    else s.modAux (fun a => { a with calStep := a.calStep + 1, calEnd := s.clock.now + calCycles })
  else s)

/-- The layout of a result (R395). -/
def auxLayout (left signed : Bool) (code : Int) : Nat :=
  let c := wrapN 16 code
  if left then c * 2 ^ 16 else if signed then wrapN 32 (sextN 16 c) else c

/-- A completed result is written (R395). -/
def State.auxPost (s : State) (code : Int) : State :=
  let a := s.aux
  let s := if a.new then (s.flag AUX.STATUS.OVR true).arrive 0x34 else s
  let s := s.set AUX.RESULT.DATA (auxLayout a.align (auxSigned a.ch) code)
  (s.modAux (fun x => { x with
    new := true, info := a.ch + 2 ^ 29 * ofB (auxSigned a.ch) + 2 ^ 30 * ofB a.uncal })).arrive 0x33

/-- AUX_CONVERSION_END (R392–R395): the measured code of the conversion that ends. -/
def execAuxConversionEnd (code : Int) (s : State) : Host.Outcome State Fault Refusal :=
  .next (match s.aux.stop with
    | none => s
    | some t =>
      if s.power = .on ∧ t ≤ s.clock.now then
        if s.aux.discard then (s.flag AUX.STATUS.BUSY false).modAux (fun a => { a with stop := none, discard := false })
        else
          let s := s.modAux (fun a => { a with sum := a.sum + code, n := a.n + 1, stop := none })
          if s.aux.n < s.aux.avg then s.auxResume t
          else
            let s := s.auxPost (rneDiv s.aux.sum s.aux.avg)
            if s.aux.cont ∧ s.on AUX.CTRL.CONT then s.resultStart t else s.flag AUX.STATUS.BUSY false
      else s)

/-- An urgent conversion begins at the next SAR clock: 24 clocks of acquisition, 41 in all (R397). What runs is aborted, but
for a conversion in the clock that transfers its result (R398). -/
def State.urgentStart (s : State) (src ch : Nat) : State :=
  let s := (s.set AUX.ULAST.SRC src).set AUX.ULAST.CH ch
  s.modAux (fun a => { a with
    urgent := some ⟨src, ch, some (s.sarNext + 8 * 41)⟩
    stop := a.stop.filter (fun t => decide (t ≤ s.clock.now + 8)) })

/-- AUX_REF_READY (R396): the chosen reference, then what waits for it: a held urgent request, a result, the boot
calibration (R400). -/
def execAuxRefReady (s : State) : Host.Outcome State Fault Refusal :=
  .next (if s.power = .on then
    let s := if s.aux.refAt ≤ s.clock.now ∧ ¬ s.on AUX.STATUS.REFRDY then s.flag AUX.STATUS.REFRDY true else s
    match s.aux.urgent with
    | some ⟨src, ch, none⟩ => if s.aux.intAt ≤ s.clock.now then s.urgentStart src ch else s
    | some ⟨_, _, some _⟩ => s
    | none =>
      if ¬ s.on AUX.STATUS.REFRDY then s
      else if s.on AUX.STATUS.BUSY ∧ s.aux.stop = none then s.convStart s.sarNext
      else if s.aux.bootCal then (s.auxCal).modAux (fun a => { a with bootCal := false })
      else s
  else s)

/-- An urgent request of source 1–3 for a channel (R397, R398). -/
def State.urgentRequest (s : State) (src ch : Nat) : State :=
  if s.on AUX.STATUS.URGBUSY then s.bump AUX.UDROP.COUNT AUX.UDROP.SAT
  else
    let s := s.flag AUX.STATUS.URGBUSY true
    if s.aux.intAt ≤ s.clock.now then s.urgentStart src ch
    else s.modAux (fun a => { a with urgent := some ⟨src, ch, none⟩ })

/-- URGENT_REQUEST: supply monitor, tamper supervisor or glass driver. -/
def execUrgentRequest (src : Fin 3) (ch : BitVec 5) (s : State) : Host.Outcome State Fault Refusal :=
  .next (if s.power = .on then s.urgentRequest (src + 1) ch.toNat else s)

/-- URGENT_CONVERSION_END (R397): the measured code goes to the requester alone; the aborted conversion or calibration
step restarts. -/
def execUrgentConversionEnd (code : Int) (s : State) : Host.Outcome State Fault Refusal :=
  .next (match s.aux.urgent with
    | some ⟨src, _, some t⟩ =>
      if s.power = .on ∧ t ≤ s.clock.now then
        let s := (s.flag AUX.STATUS.URGBUSY false).modAux (fun a => { a with
          urgent := none, got := a.got.set src (some code), calEnd := s.clock.now + calCycles })
        if s.aux.stop.isSome then s else s.auxResume t
      else s
    | _ => s)

/-- A write of AUX.CTRL (R394, R396): a change of reference clears REFRDY and CALOK. -/
def State.auxCtrl (s : State) (v : Nat) : State :=
  let old := s.get AUX.CTRL.REF
  let s := s.writeCells ((cellsOf regsAux 0x30 0 0).getD []) v
  let ref := s.get AUX.CTRL.REF
  if ref = old then s
  else ((s.flag AUX.STATUS.REFRDY false).flag AUX.STATUS.CALOK false).modAux (fun a => { a with
    refAt := if ref = 0 then max a.intAt (s.clock.now + 64) else s.clock.now + 64 })

/-- A read of RESULT latches RINFO and clears NEW (R395). -/
def auxAfterRead (s : State) (idx : Nat) : State :=
  if idx = 4 then
    let i := s.aux.info
    let s := ((s.flag AUX.RINFO.NEW s.aux.new).flag AUX.RINFO.UNCAL (bitOf i 30)).flag AUX.RINFO.SIGNED (bitOf i 29)
    (s.set AUX.RINFO.CH (i % 32)).modAux (fun a => { a with new := false })
  else s

/-- The writes of AUX that do more than store. -/
def auxWrite (s : State) (idx v : Nat) : Option State :=
  if idx = 0 then some (s.auxCtrl v)
  else if idx = 1 then some (s.auxCh v)
  else if idx = 2 then
    let s := if bitOf v 1 then s.auxStop else s
    let s := if bitOf v 2 then s.auxCal else s
    some (if bitOf v 0 then s.auxGo else s)
  else none

/-- The registers the aux lease guards (R402). -/
def auxGuarded (idx : Nat) : Bool := idx ∈ [0, 1, 2, 4, 5]

end Sys2Proof.Machine
end

