-- ==== Sys2Proof/Machine/Hash.lean ====
section
/-! DEFINITION. SHA-256, which R225, R233, R482 and R483 name and no rule lays out: PRESUMED the standard function (log
entry 10). -/

namespace Sys2Proof.Machine

/-- The primes up to 311, the first 64 of them. -/
def shaPrimes : List Nat :=
  (List.range 310).foldl (fun found i => if found.any (fun p => (i + 2) % p == 0) then found else found ++ [i + 2]) []

/-- ⌊n^(1/k)⌋ of a number below 2^(36 k), bit by bit. -/
def rootBits (k n : Nat) : Nat :=
  ((List.range 36).reverse).foldl (fun r b => if (r + 2 ^ b) ^ k ≤ n then r + 2 ^ b else r) 0

/-- The first 32 bits of the fraction of the k-th root of a prime: the constants of SHA-256. -/
def rootFraction (k p : Nat) : Word := BitVec.ofNat 32 (rootBits k (p * 2 ^ (32 * k)))

/-- The constants of the 64 rounds. -/
def shaK : List Word := shaPrimes.map (rootFraction 3)

/-- The initial hash value. -/
def shaH : List Word := (shaPrimes.take 8).map (rootFraction 2)

/-- A big-endian word of four bytes. -/
def beWord (bs : List Byte) (i : Nat) : Word :=
  BitVec.ofNat 32 (byteAt bs i * 2 ^ 24 + byteAt bs (i + 1) * 2 ^ 16 + byteAt bs (i + 2) * 2 ^ 8 + byteAt bs (i + 3))

/-- A word as four bytes, most significant first. -/
def beBytes (w : Word) : List Byte := (leBytes 4 w.toNat).reverse

/-- The message schedule, newest word first: n words more. -/
def shaSchedule : Nat → List Word → List Word
  | 0, l => l
  | n + 1, l =>
    let w15 := l.getD 14 0
    let w2 := l.getD 1 0
    let s0 := w15.rotateRight 7 ^^^ w15.rotateRight 18 ^^^ (w15 >>> 3)
    let s1 := w2.rotateRight 17 ^^^ w2.rotateRight 19 ^^^ (w2 >>> 10)
    shaSchedule n ((l.getD 15 0 + s0 + l.getD 6 0 + s1) :: l)

/-- One round on the eight working words. -/
def shaRound (h : List Word) (kw : Word × Word) : List Word :=
  match h with
  | [a, b, c, d, e, f, g, x] =>
    let t1 := x + (e.rotateRight 6 ^^^ e.rotateRight 11 ^^^ e.rotateRight 25) + ((e &&& f) ^^^ (~~~e &&& g)) + kw.1 + kw.2
    let t2 := (a.rotateRight 2 ^^^ a.rotateRight 13 ^^^ a.rotateRight 22) + ((a &&& b) ^^^ (a &&& c) ^^^ (b &&& c))
    [t1 + t2, a, b, c, d + t1, e, f, g]
  | l => l

/-- One block of 64 bytes. -/
def shaBlock (h : List Word) (b : List Byte) : List Word :=
  let w := (shaSchedule 48 (((List.range 16).map (fun i => beWord b (4 * i))).reverse)).reverse
  List.zipWith (· + ·) h ((shaK.zip w).foldl shaRound h)

/-- A message with its padding. -/
def shaPad (m : List Byte) : List Byte :=
  m ++ [0x80] ++ zeros ((119 - m.length % 64) % 64) ++ (leBytes 8 (8 * m.length)).reverse

/-- SHA-256 of a message: 32 bytes. -/
def sha256 (m : List Byte) : List Byte :=
  let p := shaPad m
  ((List.range (p.length / 64)).foldl (fun h i => shaBlock h ((p.drop (64 * i)).take 64)) shaH).flatMap beBytes

end Sys2Proof.Machine
end

