-- ==== Sys2Proof/Machine/Flow.lean ====
section
/-! DEFINITION. Loops, branches, calls, control-status registers and the SYS instructions (R216–R218, R227, R228). -/

namespace Sys2Proof.Machine

/-- An instruction of the control profile: a lane never meets it (R181). -/
def controlOnly (p : Proc) (f : Fin 2 → State) : Host.Outcome State Fault Refusal :=
  match p with
  | .lane _ => .fault .loaderExcludes
  | .cc c => .next (f c)

/-! ## Loops and branches (R216–R218) -/

/-- LOOP (R188, R216): the count, clamped to its bound; a count of zero skips the body. -/
def execLoop (p : Proc) (k : Bool) (a : Fin 32) (cnt : BitVec 12) (len : BitVec 8) (s : State) : Host.Outcome State Fault Refusal :=
  .next (s.instr p 1 (fun s r =>
    let n := cnt.toNat + 1
    let above := k && decide (n < (r.sr a).toNat)
    let m := if k && !above then (r.sr a).toNat else n
    let first := s.pcOf p + 4
    let after := first + BitVec.ofNat 32 (4 * (len.toNat + 1))
    let r := r.stick flLCL above
    if m = 0 then .ok ⟨r, s, some after, s.loopsOf p⟩
    else .ok ⟨r, s, some first, ⟨first, after - 4, m⟩ :: s.loopsOf p⟩))

/-- A compare and branch (R217): a taken branch leaves the loop stack unchanged. -/
def State.branch (s : State) (p : Proc) (a b : Fin 32) (off : BitVec 16) (c : Word → Word → Bool) : State :=
  s.instr p 1 (fun s r =>
    .ok ⟨r, s, if c (r.sr a) (r.sr b) then some (branchTarget (s.pcOf p) off) else none, s.loopsOf p⟩)

/-- IFEQ (R217). -/
def execIfeq (p : Proc) (a b : Fin 32) (off : BitVec 16) (s : State) : Host.Outcome State Fault Refusal :=
  .next (s.branch p a b off (fun x y => x == y))

/-- IFNE (R217). -/
def execIfne (p : Proc) (a b : Fin 32) (off : BitVec 16) (s : State) : Host.Outcome State Fault Refusal :=
  .next (s.branch p a b off (fun x y => x != y))

/-- IFLT (R217). -/
def execIflt (p : Proc) (a b : Fin 32) (off : BitVec 16) (s : State) : Host.Outcome State Fault Refusal :=
  .next (s.branch p a b off (fun x y => x.slt y))

/-- IFGE (R217). -/
def execIfge (p : Proc) (a b : Fin 32) (off : BitVec 16) (s : State) : Host.Outcome State Fault Refusal :=
  .next (s.branch p a b off (fun x y => !x.slt y))

/-- IFLTU (R217). -/
def execIfltu (p : Proc) (a b : Fin 32) (off : BitVec 16) (s : State) : Host.Outcome State Fault Refusal :=
  .next (s.branch p a b off (fun x y => x.ult y))

/-- IFGEU (R217). -/
def execIfgeu (p : Proc) (a b : Fin 32) (off : BitVec 16) (s : State) : Host.Outcome State Fault Refusal :=
  .next (s.branch p a b off (fun x y => !x.ult y))

/-- CALL (R218): fault 0x07 while a hardware loop is active. -/
def execCall (p : Proc) (d : Fin 32) (imm : BitVec 16) (s : State) : Host.Outcome State Fault Refusal :=
  controlOnly p (fun _ => s.instr p 1 (fun s r =>
    if s.loopsOf p ≠ [] then .error (trapCode 0x07)
    else .ok ⟨r.setS d (s.pcOf p + 4), s, some (branchTarget (s.pcOf p) imm), s.loopsOf p⟩))

/-- JUMP (R218): fault 0x07, then 0x03, then 0x04; sA is read before sD is written. -/
def execJump (p : Proc) (d a : Fin 32) (s : State) : Host.Outcome State Fault Refusal :=
  controlOnly p (fun _ => s.instr p 1 (fun s r =>
    if s.loopsOf p ≠ [] then .error (trapCode 0x07)
    else if (r.sr a).toNat % 4 ≠ 0 then .error (trapCode 0x03)
    else if regionOf (r.sr a).toNat ≠ .rom ∧ regionOf (r.sr a).toNat ≠ .control then .error (trapCode 0x04)
    else .ok ⟨r.setS d (s.pcOf p + 4), s, some (r.sr a), s.loopsOf p⟩))

/-! ## Control-status registers (R196, R227) -/

/-- The value of a control-status register, none where the index is undefined (R196). -/
def State.csrRead (s : State) (c : Fin 2) (i : Nat) : Option Nat :=
  match cellsOf regsCsr (0x100 + c) i 0 with
  | none => none
  | some cs => some (if i = 0 then c else if i = 8 then s.clock.now % 2 ^ 32 else s.readCells cs)

/-- A read of CYCLO latches CYCHI (R196). -/
def State.csrLatch (s : State) (c : Fin 2) (i : Nat) : State :=
  if i = 8 then s.set (CSR.CYCHI.CHI c) (s.clock.now / 2 ^ 32) else s

/-- A control-status register instruction (R227): the old value to D, the new value by f; fault 0x06 where undefined. -/
def State.csrOp (s : State) (p : Proc) (d a i : Fin 32) (f : Nat → Nat → Option Nat) : Host.Outcome State Fault Refusal :=
  controlOnly p (fun c => s.instr p 1 (fun s r =>
    match s.csrRead c i with
    | none => .error (trapCode 0x06)
    | some old =>
      let s' := s.csrLatch c i
      .ok ⟨r.setS d (BitVec.ofNat 32 old),
        (match f old (r.sr a).toNat, cellsOf regsCsr (0x100 + c) i 0 with
          | some v, some cs => s'.writeCells cs v
          | _, _ => s'), none, s.loopsOf p⟩))

/-- CSR read (R227). -/
def execCsrRead (p : Proc) (d : Fin 32) (c : Fin 32) (s : State) : Host.Outcome State Fault Refusal := s.csrOp p d 0 c (fun _ _ => none)

/-- CSR write (R227). -/
def execCsrWrite (p : Proc) (d a : Fin 32) (c : Fin 32) (s : State) : Host.Outcome State Fault Refusal := s.csrOp p d a c (fun _ v => some v)

/-- CSR set (R227). -/
def execCsrSet (p : Proc) (d a : Fin 32) (c : Fin 32) (s : State) : Host.Outcome State Fault Refusal :=
  s.csrOp p d a c (fun old v => some (old ||| v))

/-- CSR clear (R227). -/
def execCsrClear (p : Proc) (d a : Fin 32) (c : Fin 32) (s : State) : Host.Outcome State Fault Refusal :=
  s.csrOp p d a c (fun old v => some (old &&& (2 ^ 32 - 1 - v)))

/-! ## SYS (R228) -/

/-- NOP (R228). -/
def execNop (p : Proc) (s : State) : Host.Outcome State Fault Refusal := .next (s.regOp p 1 id)

/-- WAIT (R228): the core is held until an interrupt. -/
def execWait (p : Proc) (s : State) : Host.Outcome State Fault Refusal :=
  controlOnly p (fun c => s.instr p 1 (fun s r =>
    .ok ⟨r, s.setCore c { s.core c with waiting := true }, none, s.loopsOf p⟩))

/-- TRAP (R228): fault 0x0B. -/
def execTrap (p : Proc) (_x : Fin 64) (s : State) : Host.Outcome State Fault Refusal :=
  controlOnly p (fun _ => s.instr p 1 (fun _ _ => .error (trapCode 0x0B)))

/-- FLR (R228). -/
def execFlr (p : Proc) (d : Fin 32) (s : State) : Host.Outcome State Fault Refusal := .next (s.regOp p 1 (fun r => r.setS d r.fl))

/-- FLW (R228): reserved bits are ignored. -/
def execFlw (p : Proc) (a : Fin 32) (s : State) : Host.Outcome State Fault Refusal := .next (s.regOp p 1 (fun r => r.setFl (r.sr a &&& flMask)))

/-- The return from a handler (R198): from the fast handler through FEPC and FFL, otherwise through EPC and EFL; the
interrupted level's loop stack comes back with the level (R216). -/
def State.returnFrom (s : State) (c : Fin 2) : State :=
  if s.on (CSR.STAT.INFAST c) then
    (s.flag (CSR.STAT.INFAST c) false).setCore c { s.core c with
      pc := BitVec.ofNat 32 (s.get (CSR.FEPC.PC c)), loopsFast := []
      bank := { (s.core c).bank with fl := BitVec.ofNat 32 (s.get (CSR.FFL.FL c)) &&& flMask } }
  else
    ((s.flag (CSR.STAT.INNORM c) false).flag (CSR.STAT.INFAULT c) false).setCore c { s.core c with
      pc := BitVec.ofNat 32 (s.get (CSR.EPC.PC c)), loopsMid := []
      bank := { (s.core c).bank with fl := BitVec.ofNat 32 (s.get (CSR.EFL.FL c)) &&& flMask } }

/-- A core at the service level with no program starts the new service program that waits for it (R241, R253). -/
def State.svcNext (s : State) (c : Fin 2) : State :=
  match (s.core c).newSvc with
  | some pc =>
    if (s.core c).run = .idle ∧ ¬ s.inHandler c then
      s.setCore c { s.core c with run := .service, pc := pc, loopsBase := [], newSvc := none, waiting := false }
    else s
  | none => s

/-- RETI (R228): fault 0x02 where no handler runs. -/
def execReti (p : Proc) (s : State) : Host.Outcome State Fault Refusal :=
  controlOnly p (fun c =>
    if s.runs p then (if s.inHandler c then (s.returnFrom c).svcNext c else s.trap p (trapCode 0x02)) else s)

end Sys2Proof.Machine
end

