-- ==== Sys2Proof/Machine/Coding.lean ====
section
/-! DEFINITION. The line modem's symbols (15_line_modem.md R420–R426, R430, R431): the code, the interleaver, the tones of a
frame, and the receiver's soft decisions and decoder. -/

namespace Sys2Proof.Machine

/-! ## The code (R424) -/

/-- The bits of bytes, least significant first (R423). -/
def bodyBits (b : List Byte) : List Bool := b.flatMap (fun x => (List.range 8).map x.getLsbD)

/-- The bytes of bits, least significant first. -/
def bitBytes : Nat → List Bool → List Byte
  | 0, _ => []
  | n + 1, l => BitVec.ofNat 8 (bitsOf 8 (fun i => l.getD i false)) :: bitBytes n (l.drop 8)

/-- The parity of seven bits. -/
def parity7 (n : Nat) : Bool := (List.range 7).foldl (fun a i => a != bitOf n i) false

/-- c0 and c1 of an information bit after the six before it, the latest highest (R424): generators 171 and 133 in octal,
the highest place at the bit itself (log entry 55). -/
def codeBits (st : Nat) (b : Bool) : Bool × Bool :=
  (parity7 ((st + 64 * ofB b) &&& 0x79), parity7 ((st + 64 * ofB b) &&& 0x5B))

/-- The six bits that the next one follows. -/
def codeNext (st : Nat) (b : Bool) : Nat := (st + 64 * ofB b) / 2

/-- The Gray map (R424). -/
def grayTone (c0 c1 : Bool) : Nat := if c0 then (if c1 then 2 else 3) else ofB c1

/-- The tones of information bits from a state on, in coding order. -/
def codeTones : Nat → List Bool → List Nat
  | _, [] => []
  | st, b :: l => grayTone (codeBits st b).1 (codeBits st b).2 :: codeTones (codeNext st b) l

/-! ## The interleaver (R425) -/

/-- Where symbol i of n is transmitted: the columns before its own, then its row. -/
def sentAt (n i : Nat) : Nat := i % 32 * (n / 32) + min (i % 32) (n % 32) + i / 32

/-- The symbols in the order in which they are transmitted: column by column, rows ascending. -/
def interleave {α : Type} (l : List α) : List α :=
  (List.range 32).flatMap (fun c => (List.range (ceilDiv l.length 32)).filterMap (fun r => l[32 * r + c]?))

/-- Transmitted symbols in coding order. -/
def deinterleave {α : Type} (l : List α) : List α := (List.range l.length).filterMap (fun i => l[sentAt l.length i]?)

/-! ## A frame's tones (R420, R423) -/

/-- The preamble. -/
def preamble : List Nat := (List.replicate 7 [0, 1, 2, 3]).flatten ++ [3, 3, 0, 0]

/-- The body's tones as transmitted: its bits, six zero tail bits, coded and interleaved. -/
def bodyTones (body : List Byte) : List Nat := interleave (codeTones 0 (bodyBits body ++ List.replicate 6 false))

/-- The tones of a frame. -/
def frameTones (body : List Byte) : List Nat := preamble ++ bodyTones body

/-- The DFT bins of a band's tones (R420). -/
def toneBins (band : Nat) : List Nat := if band = 0 then [62, 66, 70, 74] else [80, 82, 84, 86]

/-! ## The receiver (R430, R431) -/

/-- |X(k)|² of the 320 words of a symbol. -/
def binEnergy (words : List Int) (k : Nat) : Nat := (dft k words).1.natAbs ^ 2 + (dft k words).2.natAbs ^ 2

/-- The energies of a symbol's words: the tones of a band, and bins 56–92 but for them. -/
def symEnergy (band : Nat) (words : List Int) : SymEnergy :=
  let e := fun (i : Nat) => binEnergy words ((toneBins band).getD i 0)
  ⟨e 0, e 1, e 2, e 3, (((List.range 37).map (· + 56)).filter (fun k => !(toneBins band).contains k)).foldl
    (fun a k => a + binEnergy words k) 0⟩

/-- The impulse detector erases a symbol (R431). -/
def SymEnergy.erased (x : SymEnergy) (erat : Nat) : Bool :=
  decide (erat * max (max x.t0 x.t1) (max x.t2 x.t3) < 16 * x.rest)

/-- The soft values of c0 and c1 by max-log, positive for 1; zero where erased (R430, R431). -/
def SymEnergy.soft (x : SymEnergy) (erat : Nat) : Int × Int :=
  if x.erased erat then (0, 0)
  else ((max x.t2 x.t3 : Nat) - (max x.t0 x.t1 : Nat), (max x.t1 x.t2 : Nat) - (max x.t0 x.t3 : Nat))

/-- A path of the decoder: its metric and its bits, latest first; none where no path leads. -/
abbrev Path := Option (Int × List Bool)

/-- A path goes on from state st by a bit, weighed by a symbol's soft values. -/
def Path.go (p : Path) (sv : Int × Int) (st : Nat) (b : Bool) : Path :=
  match p with
  | none => none
  | some (m, l) =>
    let c := codeBits st b
    some (m + (if c.1 then sv.1 else -sv.1) + (if c.2 then sv.2 else -sv.2), b :: l)

/-- The better of two paths, the first where they are equal (log entry 55). -/
def Path.best (p q : Path) : Path :=
  match p, q with
  | none, q => q
  | p, none => p
  | some (m, k), some (n, l) => if m < n then some (n, l) else some (m, k)

/-- The states that bit b leads to, from states st on in pairs. -/
def trellis (sv : Int × Int) (b : Bool) : Nat → List Path → List Path
  | st, p :: q :: l => Path.best (p.go sv st b) (q.go sv (st + 1) b) :: trellis sv b (st + 2) l
  | _, _ => []

/-- A symbol is taken. -/
def trellisStep (ps : List Path) (sv : Int × Int) : List Path := trellis sv false 0 ps ++ trellis sv true 0 ps

/-- The Viterbi decoder (R430): the best path over the whole body from the zero state to the zero state. -/
def viterbi (svs : List (Int × Int)) : List Bool :=
  match (svs.foldl trellisStep (some (0, []) :: List.replicate 63 none)).getD 0 none with
  | none => []
  | some (_, l) => l.reverse

/-- The decoded body of received symbols: the tail dropped. -/
def decodeBody (erat : Nat) (syms : List SymEnergy) : List Byte :=
  bitBytes ((syms.length - 6) / 8) (viterbi ((deinterleave syms).map (fun x => x.soft erat)))

/-- Erased symbols of a body (R431). -/
def erasures (erat : Nat) (syms : List SymEnergy) : Nat := (syms.filter (fun x => x.erased erat)).length

end Sys2Proof.Machine
end

