-- ==== Sys2Proof/Machine/Link.lean ====
section
/-! DEFINITION. The host link: SPI transactions, parcels, sequence numbers and answers (19_host_link.md R516–R524). -/

namespace Sys2Proof.Machine

/-- Change the link. -/
def State.modLink (s : State) (f : LinkSt → LinkSt) : State := { s with link := f s.link }

/-- A parcel (R519). -/
def parcelBytes (type flags seq : Nat) (body : List Byte) : List Byte :=
  let h := [0x5A, 0xA5, BitVec.ofNat 8 type, BitVec.ofNat 8 flags] ++ leBytes 4 seq ++ leBytes 2 body.length ++ zeros 2
  h ++ leBytes 4 (crc32c (h ++ body)) ++ body

/-- What the mains side is in (R517): 0 booting until the PLL locks, 1 BASE CAMP, 2 RUN, 3 BIVOUAC, 4 OFF. -/
def State.mstate (s : State) : Nat :=
  match s.power with
  | .on => if !s.clock.pllLock then 0 else if s.get PWR.STATE.STATE = 1 then 1 else 2
  | .bivouac => 3
  | .off => 4

/-- Inbound slot n holds a parcel that awaits its answer (R522): one not handled yet, or a quote being signed. -/
def State.slotUsed (s : State) (n : Nat) : Bool :=
  s.link.inb.any (fun p => p.slot == n) || s.access.quotes.any (fun q => q.slot == n)

/-- The numbers of the free inbound slots. -/
def State.freeSlots (s : State) : List Nat := (List.range 8).filter (fun n => !s.slotUsed n)

/-- Inbound slots free (R522). -/
def State.inFree (s : State) : Nat := s.freeSlots.length

/-- Outbound bytes in use. -/
def State.outUsed (s : State) : Nat := (s.link.outb.map List.length).foldl (· + ·) 0

/-- Outbound bytes free (R522). -/
def State.outFree (s : State) : Nat := 8192 - s.outUsed

/-- The outbound buffer cannot take a 4112-byte parcel (R531). -/
def State.outFull (s : State) : Bool := decide (s.outFree < 4112)

/-- The level driven on HRDY (R518). -/
def State.hrdy (s : State) : Bool := s.link.live && decide (1 ≤ s.inFree) && (s.mstate == 1 || s.mstate == 2)

/-- The status word (R517). -/
def State.statusWord (s : State) : Nat :=
  s.inFree + 16 * s.mstate + 128 * ofB (s.irq.host ≠ []) + 256 * (s.link.outb.headD []).length +
    2 ^ 21 * ofB (decide (1 < s.link.outb.length))

/-- The SEQ of the next module parcel is used up (R520). -/
def State.outSeqNext (s : State) : State := s.set HOST.OUTSEQ.SEQ (s.get HOST.OUTSEQ.SEQ + 1)

/-- A module parcel enters the outbound buffer. -/
def State.send (s : State) (type flags : Nat) (body : List Byte) : State :=
  let p := parcelBytes type flags (s.get HOST.OUTSEQ.SEQ) body
  (s.modLink (fun l => { l with outb := l.outb ++ [p] })).outSeqNext

/-- A module parcel of a payload fits; none passes a start report that waits (R529). -/
def State.fits (s : State) (n : Nat) : Bool := !s.link.owed && decide (16 + n ≤ s.outFree)

/-- The 8-byte prefix of an answer (R520). -/
def answerPrefix (code sub pseq : Nat) : List Byte :=
  [BitVec.ofNat 8 code, BitVec.ofNat 8 sub, 0, 0] ++ leBytes 4 pseq

/-- The start report is placed in the outbound buffer once there is room (R529): FAULT 0x01, PSEQ 0. -/
def State.sendReport (s : State) : State :=
  if s.link.owed ∧ 24 + s.link.report.length ≤ s.outFree then
    (s.send 0x85 0 (answerPrefix 1 0 0 ++ s.link.report)).modLink (fun l => { l with owed := false })
  else s

/-- A number x is ahead of y in the sequence space (R521). -/
def seqAhead (x y : Nat) : Bool :=
  let d := (x + 2 ^ 32 - y % 2 ^ 32) % 2 ^ 32
  decide (1 ≤ d ∧ d ≤ 2 ^ 31 - 1)

/-! ## What the host die does -/

/-- A written parcel passes the checks of R519. -/
def parcelGood (len : Nat) (b : List Byte) : Bool :=
  decide (16 ≤ len) && byteAt b 0 == 0x5A && byteAt b 1 == 0xA5 && decide (1 ≤ byteAt b 2 ∧ byteAt b 2 ≤ 4) &&
    decide (u16At b 8 ≤ 1008) && u16At b 8 + 16 == len &&
    u32At b 12 == crc32c (b.take 12 ++ b.drop 16)

/-- A parcel is refused by the host die (R519): FAULT 0x02, source 0x5A, NBAD. Where the outbound buffer is full the
answer is lost, and its SEQ with it (R520; log entry 19). A parcel too short to hold a SEQ leaves PSEQ open. -/
def State.refuseParcel (s : State) (b : List Byte) : State :=
  let s := (s.bump HOST.NBAD.COUNT HOST.NBAD.SAT).arrive 0x5A
  let r := if 8 ≤ b.length then (u32At b 4, s) else s.openVal
  let body := answerPrefix 2 0 r.1
  if s.fits body.length then r.2.send 0x85 0 body else r.2.outSeqNext

/-- A good parcel takes a free slot; which one is open (R522; log entry 19). Source 0x58 arrives. -/
def State.takeParcel (s : State) (b : List Byte) : State :=
  let r := s.openVal
  let fs := s.freeSlots
  let slot := fs.getD (r.1 % max 1 fs.length) 0
  (r.2.modLink (fun l => { l with inb := l.inb ++ [⟨slot, byteAt b 2, u32At b 4, b.drop 16⟩] })).arrive 0x58

/-- The status word goes out with every command (R516). -/
def State.shiftStatus (s : State) : State := { s with readData := BitVec.ofNat 32 s.statusWord }

/-- What a transaction sends after its status word. -/
def State.shiftOut (s : State) (b : List Byte) : State := s.modLink (fun l => { l with miso := b })

/-- SPI_STATUS (R516, R517). -/
def execSpiStatus (s : State) : Host.Outcome State Fault Refusal :=
  .next (if s.link.live then s.shiftStatus.shiftOut [] else s)

/-- SPI_WRITE (R516, R518, R519): the length of bytes 1–3 and the bytes shifted in before CS_N rises. -/
def execSpiWrite (len : BitVec 24) (bytes : List Byte) (s : State) : Host.Outcome State Fault Refusal :=
  .next (if ¬ s.link.live then s
  else
    let s := s.shiftStatus.shiftOut []
    if bytes.length < len.toNat ∨ s.inFree = 0 ∨ ¬ (s.mstate = 1 ∨ s.mstate = 2) then
      s.bump HOST.NDISC.COUNT HOST.NDISC.SAT
    else
      let b := bytes.take len.toNat
      if parcelGood len.toNat b then s.takeParcel b else s.refuseParcel b)

/-- SPI_READ (R516): the next outbound parcel, removed where it was shifted out whole; room coming back raises source
0x59. -/
def execSpiRead (whole : Bool) (s : State) : Host.Outcome State Fault Refusal :=
  .next (if ¬ s.link.live then s
  else
    let s := s.shiftStatus
    match s.link.outb with
    | [] => s.shiftOut []
    | p :: rest =>
      let t := s.shiftOut p
      if ¬ whole then t
      else
        let full := t.outFull
        let t := (t.modLink (fun l => { l with outb := rest, last := some p })).sendReport
        if full ∧ ¬ t.outFull then t.arrive 0x59 else t)

/-- SPI_REPEAT (R516): the last parcel removed, or nothing. -/
def execSpiRepeat (s : State) : Host.Outcome State Fault Refusal :=
  .next (if s.link.live then s.shiftStatus.shiftOut (s.link.last.getD []) else s)

/-- SPI_INVALID_COMMAND (R516). -/
def execSpiInvalidCommand (s : State) : Host.Outcome State Fault Refusal :=
  .next (if s.link.live then (s.shiftStatus.shiftOut []).bump HOST.NDISC.COUNT HOST.NDISC.SAT else s)

/-- The host die loses its link state: buffers emptied, module SEQ at 0 (R530). -/
def State.linkLost (s : State) : State :=
  (s.set HOST.OUTSEQ.SEQ 0).modLink (fun l => { l with inb := [], taken := false, outb := [], last := none, miso := [] })

/-- HVDD_UP (R518, R54): the host die begins its start, and HWATCH is held low. -/
def execHvddUp (s : State) : Host.Outcome State Fault Refusal :=
  .next (if s.link.hvdd then s else s.modLink (fun l => { l with hvdd := true, live := false, polHeld := true }))

/-- HOST_DIE_READY (R518): 1 ms later it serves transactions. -/
def execHostDieReady (s : State) : Host.Outcome State Fault Refusal :=
  .next (if s.link.hvdd then s.modLink (fun l => { l with live := true }) else s)

/-- HVDD_LOSS (R530, R537): the host die is off, its buffers and the module SEQ are lost. -/
def execHvddLoss (s : State) : Host.Outcome State Fault Refusal :=
  .next (s.linkLost.modLink (fun l => { l with hvdd := false, live := false }))

/-! ## Answers -/

/-- The parcel the handler works on: the oldest in the inbound slots. -/
def State.front (s : State) : Option InParcel := s.link.inb.head?

/-- The first parcel's slot is freed as its answer enters the outbound buffer (R522). -/
def State.freeFront (s : State) : State := s.modLink (fun l => { l with inb := l.inb.tail, taken := false })

/-- A parcel is accepted (R523): WMARK, the stored answer, and the time HOSTTO counts from. -/
def State.accepted (s : State) (seq type : Nat) (body : List Byte) : State :=
  let all := s.link.stored ++ [⟨seq, type, body⟩]
  (s.set HOST.WMARK.SEQ seq).modLink (fun l => { l with
    stored := all.drop (all.length - 8)
    lastIn := s.clock.rtc })

/-- Answer the first parcel with an accepting answer (ACCEPT, DATA or QUOTE). -/
def State.answerGood (s : State) (p : InParcel) (type code sub : Nat) (rest : List Byte) : State :=
  let body := answerPrefix code sub p.seq ++ rest
  ((s.send type 0 body).accepted p.seq type body).freeFront

/-- Answer the first parcel with FAULT. -/
def State.answerFault (s : State) (p : InParcel) (code sub : Nat) : State :=
  (s.send 0x85 0 (answerPrefix code sub p.seq)).freeFront

/-- The order refused: FAULT 0x06 (R525). -/
def State.refuse (s : State) (p : InParcel) (sub : Nat) : State := s.answerFault p 6 sub

/-! ## Sequence numbers (R521, R524, R529) -/

/-- The answer to a parcel whose SEQ is behind EXP (R524): stored, a readable order, or stale. -/
def State.answerBehind (s : State) (p : InParcel) : State :=
  match s.link.stored.find? (fun a => a.seq == p.seq) with
  | some a => ((s.bump HOST.NDUP.COUNT HOST.NDUP.SAT).send a.type 1 a.body).freeFront
  | none =>
    match if p.type = 2 then s.cairn.orders.find? (fun e => e.pseq == p.seq) else none with
    | some e =>
      if e.body = p.body.drop 4 then
        ((s.bump HOST.NDUP.COUNT HOST.NDUP.SAT).send 0x81 1 (answerPrefix 0 0 p.seq ++ leBytes 4 e.ordno)).freeFront
      else s.answerFault p 4 1
    | none => s.answerFault p 4 0

/-- What a parcel's SEQ says: act on it, a gap, or behind (R521; R529 while EXP is undefined). -/
inductive SeqVerdict where
  | act | gap | behind
  deriving DecidableEq, Repr

/-- The verdict on a SEQ. -/
def State.seqVerdict (s : State) (seq : Nat) : SeqVerdict :=
  if s.on HOST.STATUS.EXPVALID then
    if seq = s.get HOST.EXP.SEQ then .act else if seqAhead seq (s.get HOST.EXP.SEQ) then .gap else .behind
  else if seqAhead seq (s.get HOST.DWMARK.SEQ) then .act else .behind

/-- The handler takes the first parcel whose SEQ is EXP: EXP advances once (R521). -/
def State.seqTake (s : State) (p : InParcel) : State :=
  if s.link.taken then s
  else ((s.set HOST.EXP.SEQ (p.seq + 1)).flag HOST.STATUS.EXPVALID true).modLink (fun l => { l with taken := true })

/-- An unlock is being decided: the handler waits for its outcome (R470). -/
def State.deciding (s : State) : Bool :=
  s.second.any (fun d => match d.what with | .unlock _ => true | _ => false)

/-- A handler's step whose answer must fit: the state after it, or the state before where there is no room (R522). -/
def State.orWait (s t : State) : State := if t.outUsed ≤ 8192 then t else s

/-- One parcel of a kind is handled: it waits while the mains side is not running, while an unlock is decided, while the
start report waits (R529), or while the outbound buffer has no room for the answer (R522). A parcel out of sequence is
answered at once. -/
def State.handle (s : State) (kind : InParcel → Bool) (act : InParcel → State → State) : State :=
  if s.power ≠ .on ∨ s.deciding ∨ s.link.owed then s
  else match s.front with
    | none => s
    | some p =>
      if ¬ kind p then s
      else if s.link.taken then act p s
      else match s.seqVerdict p.seq with
        | .act => act p (s.seqTake p)
        | .gap => if s.fits 8 then (s.bump HOST.NGAP.COUNT HOST.NGAP.SAT).answerFault p 3 0 else s
        | .behind => s.orWait (s.answerBehind p)

/-! ## Composition by a program (R531) -/

/-- A write of OBLEN starts composition. -/
def State.outLen (s : State) (v : Nat) : State := (s.set HOST.OBLEN.LEN v).modLink (fun l => { l with words := [] })

/-- A write of OBDATA appends a payload word. -/
def State.outData (s : State) (v : Nat) : State := s.modLink (fun l => { l with words := l.words ++ leBytes 4 v })

/-- A write of OBGO with GO: the payload is as long as OBLEN says; refused while OBFULL, counted in NDISC. -/
def State.outGo (s : State) (v : Nat) : State :=
  if ¬ bitOf v 0 then s
  else if s.outFull then s.bump HOST.NDISC.COUNT HOST.NDISC.SAT
  else
    let n := min 4096 (s.get HOST.OBLEN.LEN)
    let t := (s.send (field v 8 8) (ofB (bitOf v 7)) (padTo n s.link.words)).modLink (fun l => { l with words := [] })
    if bitOf v 1 then
      let t := match s.link.inb.find? (fun p => p.slot == field v 4 3) with
        | some p => if field v 8 8 ∈ [0x81, 0x82, 0x84] then t.accepted p.seq (field v 8 8) (padTo n s.link.words) else t
        | none => t
      t.modLink (fun l => { l with
        inb := l.inb.filter (fun p => p.slot != field v 4 3)
        taken := l.taken && !((l.inb.head?.map InParcel.slot) == some (field v 4 3)) })
    else t

/-- The inbound word a copy of IBSEL names (R531): a slot holds the 16-byte header and the payload. -/
def State.inWord (s : State) (b : Nat) : Nat :=
  match s.link.inb.find? (fun p => p.slot == s.get (HOST.IBSEL.SLOT b)) with
  | none => 0
  | some p => u32At (parcelBytes p.type 0 p.seq p.body) (4 * s.get (HOST.IBSEL.WORD b))

/-- The bank of a HOST register for copy b. -/
def hostRegBank (b idx : Nat) : Nat := if idx = 8 ∨ idx = 9 then b else 0

/-- The views of HOST. -/
def hostView (s : State) (b idx : Nat) : Option Nat :=
  if idx = 0 then some (s.inFree + 16 * ofB s.outFull + 32 * ofB s.hrdy + 64 * s.get HOST.STATUS.EXPVALID)
  else if idx = 9 then some (s.inWord b)
  else if idx = 0x0A then some (bitsOf 8 s.slotUsed)
  else if idx = 0x0F then some s.outFree
  else none

/-- A read of IBDATA advances WORD. -/
def hostAfterRead (s : State) (b idx : Nat) : State :=
  if idx = 9 then s.set (HOST.IBSEL.WORD b) (s.get (HOST.IBSEL.WORD b) + 1) else s

/-- The writes of HOST that do more than store. -/
def hostWrite (s : State) (idx v : Nat) : Option State :=
  if idx = 0x0C then some (s.outLen v)
  else if idx = 0x0D then some (s.outData v)
  else if idx = 0x0E then some (s.outGo v)
  else none

/-- OUTBOUND_LEN_WRITE. -/
def execOutboundLenWrite (v : Word) (s : State) : Host.Outcome State Fault Refusal := .next (s.whenOn (s.outLen v.toNat))

/-- OUTBOUND_DATA_WRITE. -/
def execOutboundDataWrite (v : Word) (s : State) : Host.Outcome State Fault Refusal := .next (s.whenOn (s.outData v.toNat))

/-- OUTBOUND_GO. -/
def execOutboundGo (v : Word) (s : State) : Host.Outcome State Fault Refusal := .next (s.whenOn (s.outGo v.toNat))

/-- INBOUND_DATA_READ by a processor's own copy of IBSEL (R562). -/
def execInboundDataRead (p : Proc) (s : State) : Host.Outcome State Fault Refusal :=
  let b := s.copyOf p
  .next (s.whenOn { hostAfterRead s b 9 with readData := BitVec.ofNat 32 (s.inWord b) })

end Sys2Proof.Machine
end

