-- ==== Sys2Proof/Machine/Tamper.lean ====
section
/-! DEFINITION. The tamper supervisor and the ACCESS unit (17_tamper_and_access.md). -/

namespace Sys2Proof.Machine

/-- Change the supervisor. -/
def State.modTamp (s : State) (f : Tamp → Tamp) : State := { s with tamp := f s.tamp }

/-- Change source n. -/
def State.modSrc (s : State) (n : Fin 8) (f : TampSrc → TampSrc) : State :=
  s.modTamp (fun t => { t with src := t.src.set n (f t.src[n]) })

/-- Change ACCESS. -/
def State.modAccess (s : State) (f : AccessSt → AccessSt) : State := { s with access := f s.access }

/-! ## The access level and its sessions (R480–R485) -/

/-- The level in force changes: source 0x43 (R406). -/
def State.setLevel (s : State) (v : Nat) : State :=
  let t := s.set ACCESS.LEVEL.LEVEL v
  if t.level = s.level then t else t.arrive 0x43

/-- A session ends (R485): CLOSED, or OWNER still before the production lock (R481). -/
def State.endSession (s : State) : State := s.setLevel 0

/-- An unlock succeeds (R483, R484): the level opens and FAIL is 0. -/
def State.unlock (s : State) (level : Nat) : State :=
  ((s.setLevel level).set ACCESS.FAIL.COUNT 0).modAccess (fun a => { a with lastAuth := s.clock.rtc, retryAt := 0 })

/-- A failed attempt (R484): counted, probe detector 2 latched, source 0x44, the back-off of min(2^(f−1), 3600) s. -/
def State.failedAttempt (s : State) : State :=
  let s := s.incSat ACCESS.FAIL.COUNT
  let f := s.get ACCESS.FAIL.COUNT
  let wait := if 13 ≤ f then 3600 else min (2 ^ (f - 1)) 3600
  ((s.modSrc 7 (fun x => { x with latch2 := true })).modAccess (fun a => { a with
    retryAt := s.clock.rtc + wait * slowHz })).arrive 0x44

/-- Seconds of back-off remaining (R484), a started second counted whole. -/
def State.backoff (s : State) : Nat := ceilDiv (s.access.retryAt - s.clock.rtc) slowHz

/-- An order is authenticated: it passed a level check (R485). -/
def State.authenticated (s : State) : State := s.modAccess (fun a => { a with lastAuth := s.clock.rtc })

/-- ACCESS_CLOSE (R485). -/
def execAccessClose (s : State) : Host.Outcome State Fault Refusal := .next (s.whenOn s.endSession)

/-- SESSION_IDLE_TIMEOUT (R485): IDLE minutes with no authenticated parcel. -/
def execSessionIdleTimeout (s : State) : Host.Outcome State Fault Refusal :=
  .next (if s.power = .on ∧ s.get ACCESS.LEVEL.LEVEL ≠ 0 ∧
      s.access.lastAuth + s.get ACCESS.CTRL.IDLE * 60 * slowHz ≤ s.clock.rtc then s.endSession else s)

/-- NONCE_EXPIRY (R483): 60 s after issue. -/
def execNonceExpiry (s : State) : Host.Outcome State Fault Refusal :=
  .next (match s.access.nonce with
    | some (_, t) => if t ≤ s.clock.rtc then s.modAccess (fun a => { a with nonce := none }) else s
    | none => s)

/-- The measurement word a copy of MSEL names (R491): bytes 4 × WORD to 4 × WORD + 3. -/
def State.measWord (s : State) (b : Nat) : Nat :=
  u32At (s.access.meas.toList.getD (s.get (ACCESS.MSEL.REG b)) []) (4 * s.get (ACCESS.MSEL.WORD b))

/-- A measurement register is extended with 32 bytes (R225, R487). -/
def State.extend (s : State) (x : Fin 4) (bs : List Byte) : State :=
  let c := field (s.get ACCESS.MCNT.CNT) (8 * x) 8
  let s := if c < 255 then s.set ACCESS.MCNT.CNT (s.get ACCESS.MCNT.CNT + 2 ^ (8 * x.val)) else s
  s.modAccess (fun a => { a with meas := a.meas.set x (sha256 (a.meas[x] ++ bs)) })

/-- The bank of an ACCESS register for copy b. -/
def accessRegBank (b idx : Nat) : Nat := if idx = 8 ∨ idx = 9 then b else 0

/-- The views of ACCESS. -/
def accessView (s : State) (b idx : Nat) : Option Nat :=
  if idx = 0 then
    some (s.level + 2 ^ 9 * s.get ACCESS.LEVEL.LOCKED + 2 ^ 10 * ofB s.access.verifier.isSome +
      2 ^ 11 * s.get ACCESS.LEVEL.PLOCK + 2 ^ 12 * ofB s.access.fingerprint.isSome)
  else if idx = 2 then some s.backoff
  else if idx = 9 then some (s.measWord b)
  else none

/-- A read of MDATA advances WORD. -/
def accessAfterRead (s : State) (b idx : Nat) : State :=
  if idx = 9 then s.set (ACCESS.MSEL.WORD b) (s.get (ACCESS.MSEL.WORD b) + 1) else s

/-- The writes of ACCESS that do more than store. -/
def accessWrite (s : State) (idx v : Nat) : Option State :=
  if idx = 5 then some (if bitOf v 0 then s.endSession else s) else none

/-- MEAS_DATA_READ (R491), by a processor's own copy of MSEL (R562). -/
def execMeasDataRead (p : Proc) (s : State) : Host.Outcome State Fault Refusal :=
  let b := s.copyOf p
  .next (s.whenOn { accessAfterRead s b 9 with readData := BitVec.ofNat 32 (s.measWord b) })

/-! ## Quotes (R489) -/

/-- The value of SYS.ID (R40): family, part, stepping. -/
def Part.id (p : Part) : Nat := 0x4D53 * 2 ^ 16 + (if p.big then 0x24 else 0x12) * 2 ^ 8 + p.stepping % 256

/-- Bytes 0–199 of a quote, copied at the request. -/
def State.quoteBody (s : State) (nonce : List Byte) : List Byte :=
  leBytes 4 1 ++ leBytes 4 s.part.serialLo ++ leBytes 4 s.part.serialHi ++ leBytes 4 s.part.id ++
    leBytes 2 s.part.romver ++ [BitVec.ofNat 8 s.level,
      BitVec.ofNat 8 (s.get ACCESS.LEVEL.PLOCK + 2 * s.get ACCESS.LEVEL.LOCKED + 4 * s.get TAMP.STICKY.FI),
      BitVec.ofNat 8 (s.get TAMP.STICKY.ALARM), BitVec.ofNat 8 (s.get TAMP.STICKY.DETFLT)] ++
    leBytes 2 s.jrnl.epoch ++ leBytes 8 s.clock.grain ++ padTo 32 nonce ++ s.access.meas.toList.flatMap (padTo 32) ++
    leBytes 4 (s.get ACCESS.MCNT.CNT) ++ zeros 4

/-- QUOTE_SIGNED (R489): the oldest request is signed and answered, once the outbound buffer has room. -/
def execQuoteSigned (s : State) : Host.Outcome State Fault Refusal :=
  .next (match s.access.quotes with
    | [] => s
    | q :: rest =>
      let body := answerPrefix 0 0 q.seq ++ q.body ++ padTo 64 (Config.sign (sha256 q.body))
      if s.power = .on ∧ s.fits body.length then
        ((s.send 0x84 0 body).accepted q.seq 0x84 body).modAccess (fun a => { a with quotes := rest })
      else s)

/-! ## The cell-only ring (R477, R478) -/

/-- A ring entry's 64 bytes. -/
def RingEntry.bytes (e : RingEntry) : List Byte :=
  [BitVec.ofNat 8 e.src, BitVec.ofNat 8 e.kind, BitVec.ofNat 8 e.resp, BitVec.ofNat 8 e.dets] ++ leBytes 8 e.rtc ++
    leBytes 4 e.code1 ++ leBytes 4 e.code2 ++ zeros 44

/-- The ring as always-on SRAM shows it, at offset 0x2400 (R36). -/
def State.mirrorRing (s : State) : State :=
  (s.setBytes 0x20002400 (padTo 1024 (s.tamp.ring.flatMap RingEntry.bytes))).set TAMP.RING.USED s.tamp.ring.length

/-- An entry into the ring: a full ring keeps its first and last 8, and counts what it displaces. -/
def State.ringAdd (s : State) (e : RingEntry) : State :=
  if s.tamp.ring.length < 16 then (s.modTamp (fun t => { t with ring := t.ring ++ [e] })).mirrorRing
  else ((s.incSat TAMP.RING.DROP).modTamp (fun t => { t with ring := t.ring.take 8 ++ t.ring.drop 9 ++ [e] })).mirrorRing

/-- What a decision of a source leaves (R358, R477): a tamper record, or on the cell alone a ring entry. -/
def State.tampRecord (s : State) (src kind resp dets code1 code2 : Nat) : State :=
  if s.power = .on then (s.stageTamper src kind resp false s.clock.rtc).belayDue .evidence
  else s.ringAdd ⟨src, kind, resp, dets, s.clock.rtc, code1, code2⟩

/-! ## Responses (R475–R477) -/

/-- The responses in force follow the recorded masks of the alarms set. -/
def State.inForce (s : State) : State :=
  let m := (List.range 8).foldl (fun a n =>
    a ||| (if s.bit TAMP.STICKY.ALARM n then s.resp.toList.getD n 0 else 0)) 0
  (((s.set TAMP.INFORCE.RESP (m / 4)).flag ACCESS.LEVEL.LOCKED (bitOf m 4)).flag TRIM.STATUS.TFREEZE (bitOf m 3)).showFrozen

/-- An unlock in progress is refused and not counted (R470, R476): its parcel gets FAULT 0x06, sub-code 4. -/
def State.refuseUnlock (s : State) : State :=
  let t := { s with second := s.second.filter (fun d => match d.what with | .unlock _ => false | _ => true) }
  if s.deciding then (match t.front with | some p => if t.link.taken then t.refuse p 4 else t | none => t) else t

/-- Zeroize (R475): verifier, nonce and session go, KGEN counts, an unlock in progress is refused; a reset of kind 0x0A
follows while the mains side runs. -/
def State.zeroize (s : State) : State :=
  let s := s.refuseUnlock.endSession
  let s := (s.flag ACCESS.LEVEL.PWSET false).set ACCESS.KGEN.KGEN (s.get ACCESS.KGEN.KGEN + 1)
  let s := s.modAccess (fun a => { a with nonce := none, verifier := none })
  let s := s.modTamp (fun t => { t with zeroized := t.zeroized || s.power == .on })
  s.belayDue .evidence

/-- An alarm of source n is declared with its responses (R468, R475); in BIVOUAC it starts an alarm watch (R505). -/
def State.declare (s : State) (n : Fin 8) (mask : Nat) : State :=
  let x := s.tamp.src[n]
  let s := (s.setBit TAMP.STICKY.ALARM n true).bump (TAMP.CNT.COUNT.at n) (TAMP.CNT.SAT.at n)
  let s : State := { s with resp := s.resp.set n mask }
  let s := if bitOf mask 5 then s.decideFirst (.zeroize n) else s
  let s := if bitOf mask 4 ∧ s.get ACCESS.LEVEL.LEVEL = 1 then s.endSession else s
  let s := s.inForce
  let s : State := if bitOf mask 2 then { s with glass := { s.glass with flagOwed := true } } else s
  let s := s.tampRecord n 1 mask (ofB x.val1 + 2 * ofB x.val2 + 4 * ofB (s.bit TAMP.AVAIL.D1 n) +
    8 * ofB (s.bit TAMP.AVAIL.D2 n)) x.code1 x.code2
  let s : State := if s.power = .bivouac then { s with pwr := { s.pwr with alarmWatch := 256 } } else s
  if s.power = .on ∧ bitOf mask 1 then s.arrive 0x40 else s

/-- A detector fault of source n (R469): DETFLT, a record of kind 2, source 0x41. -/
def State.detFault (s : State) (n : Fin 8) : State :=
  let x := s.tamp.src[n]
  ((s.setBit TAMP.STICKY.DETFLT n true).tampRecord n 2 0 (ofB x.val1 + 2 * ofB x.val2 +
    4 * ofB (s.bit TAMP.AVAIL.D1 n) + 8 * ofB (s.bit TAMP.AVAIL.D2 n)) x.code1 x.code2).arrive 0x41

/-! ## Detectors (R465, R466) -/

/-- A window test (R465): outside [LO, HI], signed on a differential channel. -/
def outside (signed : Bool) (lo hi : Nat) (c : Int) : Bool :=
  if signed then decide (c < sextN 16 lo ∨ sextN 16 hi < c) else decide (c < lo ∨ (hi : Int) < c)

/-- A reading of an aux detector: its value, its code and the consecutive drops. -/
def auxReading (signed : Bool) (lo hi : Nat) (c : Option Int) (val : Bool) (code drop : Nat) : Bool × Nat × Nat :=
  match c with
  | some x => (outside signed lo hi x, wrapN 32 x, 0)
  | none => (val, code, drop + 1)

/-- Source n with its detectors read, and whether each is available. -/
def State.readSource (s : State) (n : Fin 8) (t : TickIn) : TampSrc × Bool × Bool :=
  let x := s.tamp.src[n]
  let cell := s.power != .on
  let r1 := fun sg c => auxReading sg (s.get (TAMP.THR1.LO n)) (s.get (TAMP.THR1.HI n)) c x.val1 x.code1 x.drop1
  let r2 := fun sg c => auxReading sg (s.get (TAMP.THR2.LO n)) (s.get (TAMP.THR2.HI n)) c x.val2 x.code2 x.drop2
  let y := { x with latch1 := false, latch2 := false }
  match n.val with
  | 0 =>
    let b := r2 false t.light
    ({ y with val1 := x.latch1 || s.irq.lines[0].raw, val2 := b.1, code2 := b.2.1, drop2 := b.2.2 },
      true, decide (b.2.2 < 8))
  | 1 =>
    let a := r1 true t.hall
    let b := r2 false t.mr
    ({ y with val1 := a.1, code1 := a.2.1, drop1 := a.2.2, val2 := b.1, code2 := b.2.1, drop2 := b.2.2 },
      decide (a.2.2 < 8), decide (b.2.2 < 8))
  | 2 =>
    ({ y with val1 := s.on GLASS.CRKSTAT.OPEN || s.on GLASS.CRKSTAT.DRIFT, val2 := decide (2 ≤ s.glass.pulseFails) },
      s.part.optG && !cell, s.part.optG)
  | 3 => ({ y with val1 := (!s.clock.xtalOk && !cell) || !s.slowGood, val2 := t.pllOut && s.clock.xtalOk }, true, !cell)
  | 4 =>
    let b := r2 false t.supply
    ({ y with val1 := x.latch1, val2 := b.1 && !s.on PWR.STATE.SFW, code2 := b.2.1, drop2 := b.2.2 },
      !cell, !cell && decide (b.2.2 < 8))
  | 5 =>
    let a := r1 false t.die
    ({ y with val1 := a.1, code1 := a.2.1, drop1 := a.2.2, val2 := t.bandgap }, decide (a.2.2 < 8), true)
  | 6 =>
    let rms := rmsOf (s.streams.pitch.getD 14 [])
    ({ y with val1 := s.pq.ports[0].mismOn, val2 := decide (s.get (TAMP.THR2.HI n) * 2 ^ 15 ≤ rms.getD 0) },
      !cell, !cell && rms.isSome && !s.baseCamp)
  | _ => ({ y with val1 := x.latch1, val2 := x.latch2 }, true, true)

/-- The combined value (R467). -/
def combine (orBit a1 v1 a2 v2 : Bool) : Bool :=
  if a1 && a2 then (if orBit then v1 || v2 else v1 && v2) else if a1 then v1 else if a2 then v2 else false

/-- One source at a tick (R466–R471). -/
def State.tickSource (s : State) (t : TickIn) (n : Fin 8) : State :=
  let x := s.tamp.src[n]
  let r := s.readSource n t
  let tested := bitOf s.tamp.test n
  let fail := bitOf t.testFail n
  let y := if tested then { r.1 with val1 := !fail, val2 := !fail } else r.1
  let en := s.on (TAMP.CFG.EN n)
  let a1 := en && r.2.1 && s.on (TAMP.CFG.D1EN n)
  let a2 := en && r.2.2 && s.on (TAMP.CFG.D2EN n)
  let comb := if tested then x.comb else combine (s.on (TAMP.CFG.COMB n)) a1 y.val1 a2 y.val2
  let event := !tested && comb && (!x.comb || x.cleared)
  let now := s.clock.rtc
  let hist := if event then
      x.hist.filter (fun e => decide (now ≤ e + s.get (TAMP.CFG.WIN n) * slowHz)) ++ [now] else x.hist
  let alarm := event && decide (s.get (TAMP.CFG.N n) ≤ hist.length)
  let apart := if tested || !(a1 && a2) then x.apart else if y.val1 != y.val2 then x.apart + 1 else 0
  let s := s.modSrc n (fun _ => { y with
    comb := comb, cleared := tested && x.cleared, hist := if alarm then [] else hist, apart := apart })
  let s := if s.power = .on then
      ((((s.setBit TAMP.STATE.D1 n y.val1).setBit TAMP.STATE.D2 n y.val2).setBit TAMP.STATE.COMB n comb).setBit
        TAMP.AVAIL.D1 n r.2.1).setBit TAMP.AVAIL.D2 n r.2.2 else s
  let s := if tested then
      let s := s.setBit TAMP.TESTRES.DONE n true
      if fail then (s.setBit TAMP.TESTRES.FAIL n true).detFault n else s
    else if apart = s.get TAMP.DFWIN.TICKS ∧ apart ≠ x.apart then s.detFault n else s
  if alarm then s.decideFirst (.alarm n (s.get (TAMP.CFG.RESP n) ||| 1) (s.power != .on)) else s

/-- A tick of the supervisor (R466). -/
def State.tampTick (s : State) (t : TickIn) : State :=
  let s := (List.finRange 8).foldl (fun u n => u.tickSource t n) s
  s.modTamp (fun x => { x with lastTick := s.clock.rtc, test := 0 })

/-- TAMPER_TICK (R466): every 1024 SLOW cycles while MAIN is powered. -/
def execTamperTick (t : TickIn) (s : State) : Host.Outcome State Fault Refusal :=
  .next (if s.power = .on ∧ s.tamp.lastTick + 1024 ≤ s.clock.rtc then s.tampTick t else s)

/-- SUPPLY_GLITCH (R465): latched by the glitch comparator. -/
def execSupplyGlitch (s : State) : Host.Outcome State Fault Refusal :=
  .next (if s.power = .on then s.modSrc 4 (fun x => { x with latch1 := true }) else s)

/-- TEST_PORT_LEAVE_RESET (R465). -/
def execTestPortLeaveReset (s : State) : Host.Outcome State Fault Refusal :=
  .next (if s.power = .off then s else s.modSrc 7 (fun x => { x with latch1 := true }))

/-- TEST_LOGIC_RESET (R553): the test logic goes back to Test-Logic-Reset; the latch stays until the next tick reads it. -/
def execTestLogicReset (s : State) : Host.Outcome State Fault Refusal := .next s

/-! ## The second path (R470) -/

/-- What agreement does. -/
def State.agree (s : State) : Decision → State
  | .retire w => { s with retiring := s.retiring ++ [w] }
  | .alarm n mask _ => s.declare (if h : n < 8 then ⟨n, h⟩ else 0) mask
  | .unlock l =>
    let t := s.unlock l
    match t.front with
    | some p => if t.link.taken then t.answerGood p 0x81 0 0 [] else t
    | none => t
  | .zeroize _ => s.zeroize

/-- What disagreement does: FI, a record of kind 3, source 0x42, and the safe side. -/
def State.disagree (s : State) (d : Decision) : State :=
  let fi := fun (s : State) (src third : Nat) =>
    if s.power = .on then s.faultInjection src third
    else ((s.flag TAMP.STICKY.FI true).ringAdd ⟨src, 3, third, 0, s.clock.rtc, 0, 0⟩)
  match d with
  | .retire w => fi s (retireSource w).1 (retireSource w).2
  | .alarm n mask _ => (fi s n 0).declare (if h : n < 8 then ⟨n, h⟩ else 0) mask
  | .unlock _ => (match s.front with | some p => if s.link.taken then (fi s 7 0).refuse p 4 else fi s 7 0 | none => fi s 7 0)
  | .zeroize n => (fi s n 0).zeroize

/-- DUAL_DECISION_SECOND (R470): the oldest decision whose delay has passed; in BIVOUAC the delay counts SENTRY cycles. -/
def execDualDecisionSecond (agree : Bool) (s : State) : Host.Outcome State Fault Refusal :=
  .next (match s.second.find? (fun d => s.power != .on || decide (d.due ≤ s.clock.now)) with
    | none => s
    | some d =>
      if s.power = .off then s
      else
        let t := { s with second := s.second.erase d }
        if agree then t.agree d.what else t.disagree d.what)

/-! ## Clearing (R473) -/

/-- One source is cleared: ALARM, DETFLT and its recorded responses; a condition that holds makes an event anew. -/
def State.clearSource (s : State) (n : Fin 8) : State :=
  let t := (s.setBit TAMP.STICKY.ALARM n false).setBit TAMP.STICKY.DETFLT n false
  { t with resp := t.resp.set n 0 }.modSrc n (fun x => { x with cleared := true, apart := 0 })

/-- A tamper clear is applied to the named sources, and to FI with all eight at VENDOR level. -/
def State.tampClear (s : State) (mask : Nat) (fi : Bool) : State :=
  let s := (List.finRange 8).foldl (fun (t : State) (n : Fin 8) => if bitOf mask n then t.clearSource n else t) s
  let s := if fi then s.flag TAMP.STICKY.FI false else s
  s.inForce

/-! ## The registers (R490) -/

/-- The source a copy of TAMP.SEL names. -/
def State.tampSel (s : State) (b : Nat) : Nat := s.get (TAMP.SEL.SRC b)

/-- The bank of a TAMP register for copy b. -/
def tampRegBank (s : State) (b idx : Nat) : Nat :=
  if idx = 4 then b else if idx = 5 ∨ idx = 6 ∨ idx = 7 ∨ idx = 9 then s.tampSel b else 0

/-- The windows of source 2 read zero where the part has no glass. -/
def tampView (s : State) (b idx : Nat) : Option Nat :=
  if (idx = 5 ∨ idx = 6 ∨ idx = 7 ∨ idx = 9) ∧ s.tampSel b = 2 ∧ ¬ s.part.optG then some 0
  else if idx = 5 then
    some ((s.readCells ((cellsOf regsTamp 0x3C 5 (s.tampSel b)).getD [])) ||| 2 ^ 6)
  else none

/-- A TEST mask waits for the next tick (R471). -/
def State.tampTest (s : State) (v : Nat) : State := s.modTamp (fun t => { t with test := t.test ||| v % 256 })

/-- The writes of TAMP that do more than store. -/
def tampWrite (s : State) (b idx v : Nat) : Option State :=
  if idx = 0x0A then some (s.tampTest v)
  else if (idx = 5 ∨ idx = 6 ∨ idx = 7 ∨ idx = 9) ∧ s.tampSel b = 2 ∧ ¬ s.part.optG then some s
  else none

/-- The registers that need OWNER level (R490). -/
def tampGuarded (idx : Nat) : Bool := idx ∈ [5, 6, 7, 8, 0x0A]

end Sys2Proof.Machine
end

