-- ==== Sys2Proof/Machine/Permit.lean ====
section
/-! DEFINITION. Power permits: budget, requests, grants and their end (18_power_states_and_reset.md R496–R499). -/

namespace Sys2Proof.Machine

/-- Change the supply side. -/
def State.modPwr (s : State) (f : PowerSt → PowerSt) : State := { s with pwr := f s.pwr }

/-- The supply limit at a bulk voltage in 0.1 V (R496). -/
def supplyLimit (bulk : Nat) : Nat :=
  if 1400 ≤ bulk then 2600
  else if 1000 ≤ bulk then 2000 + (Config.round (15 * ((bulk : Int) - 1000)) 10).toNat
  else 2000

/-- The effective budget follows the host limit and the supply limit, unless the warning holds it (R495, R496). -/
def State.budget (s : State) : State :=
  if s.on PERMIT.STATUS.FROZEN then s
  else s.set PERMIT.EFFECT.EFF (min (s.get PERMIT.BUDGET.LIMIT) (s.get PERMIT.EFFECT.SUPPLY))

/-- The bulk voltage measured at a block boundary sets the supply limit (R492, R496). -/
def State.supplyAt (s : State) (bulk : Nat) : State :=
  let s := s.set PWR.BULK.V bulk
  if s.on PERMIT.STATUS.FROZEN then s else (s.set PERMIT.EFFECT.SUPPLY (supplyLimit bulk)).budget

/-- The grantable total: what stands above the base (R496). -/
def State.grantable (s : State) : Nat := s.get PERMIT.EFFECT.EFF - s.get PERMIT.BASE.BASE

/-- The draws of permits listed. -/
def State.draws (s : State) (l : List Nat) : Nat := l.foldl (fun a n => a + s.get (PERMIT.SLOT.DRAW n)) 0

/-- Draw granted. -/
def State.granted (s : State) : Nat := s.draws s.pwr.grants

/-- A permit's class. -/
def State.permitClass (s : State) (n : Nat) : Nat := s.get (PERMIT.SLOT.CLASS n)

/-- A permit slot is granted to a holder for a draw (R330, R375, R454). -/
def State.permitFor (s : State) (n who draw : Nat) : Bool :=
  s.get (PERMIT.SLOT.STATE n) == 2 && s.get (PERMIT.SLOT.HOLDER n) == who && decide (draw ≤ s.get (PERMIT.SLOT.DRAW n))

/-- Grant slot n: its hold runs from this grain (R498). -/
def State.grant (s : State) (n : Nat) : State :=
  (s.set (PERMIT.SLOT.STATE n) 2).modPwr (fun p => { p with queue := p.queue.erase n, grants := p.grants.erase n ++ [n] })

/-- A new request fits at once: nothing of its class or a higher one is queued, and its draw fits (R498); never under the
warning (R495). -/
def State.fitsNow (s : State) (cls draw : Nat) : Bool :=
  !s.on PERMIT.STATUS.FROZEN && !(s.pwr.queue.any (fun n => decide (s.permitClass n ≤ cls))) &&
    decide (s.granted + draw ≤ s.grantable)

/-- The free permit slots. -/
def State.freePermits (s : State) : List Nat := (List.range 16).filter (fun n => s.get (PERMIT.SLOT.STATE n) == 0)

/-- The slot that takes a request, and the state that has chosen it: any free one, an open value where there are several
(R497; log entry 18). -/
def State.pickPermit (s : State) : Option (Nat × State) :=
  match s.freePermits with
  | [] => none
  | [n] => some (n, s)
  | l => some (l.getD (s.openVal.1 % l.length) 0, s.openVal.2)

/-- A slot takes a request. -/
def State.fillPermit (s : State) (n who cls draw hold : Nat) : State :=
  ((((s.set (PERMIT.SLOT.STATE n) 1).set (PERMIT.SLOT.HOLDER n) who).set (PERMIT.SLOT.CLASS n) cls).set
    (PERMIT.SLOT.DRAW n) draw).set (PERMIT.REM.GRAINS n) hold

/-- A request (R223, R497, R498): its code and permit number, checked in the order 6, 2, 3, 5; a free slot takes
it. -/
def State.permitRequest (s : State) (who cls draw hold : Nat) (nowait : Bool) : Nat × Nat × State :=
  if draw = 0 ∨ hold = 0 then (6, 0, s)
  else if s.grantable < draw then (2, 0, s)
  else if s.get PERMIT.MAXHOLD.GRAINS < hold then (3, 0, s)
  else match s.pickPermit with
    | none => (5, 0, s)
    | some (n, t) =>
      if s.fitsNow cls draw then (0, n, (t.fillPermit n who cls draw hold).grant n)
      else if nowait then (4, 0, s)
      else (1, n, (t.fillPermit n who cls draw hold).modPwr (fun p => { p with queue := p.queue ++ [n] }))

/-- The word PERMIT returns (R223). -/
def permitWord (code num : Nat) : Word := BitVec.ofNat 32 (code + 256 * (if code ≤ 1 then num else 0))

/-- Slot n is freed, whatever it was; a permit that ends raises source 0x36 (R499). -/
def State.freePermit (s : State) (n : Nat) : State :=
  let s := ((((s.set (PERMIT.SLOT.STATE n) 0).set (PERMIT.SLOT.HOLDER n) 0xFF).set (PERMIT.SLOT.CLASS n) 0).set
    (PERMIT.SLOT.DRAW n) 0).set (PERMIT.REM.GRAINS n) 0
  s.modPwr (fun p => { p with queue := p.queue.erase n, grants := p.grants.erase n })

/-- Queued requests of one class from a list, in order, until one does not fit: the state, and whether one stopped it. -/
def State.grantList (s : State) : List Nat → Bool × State
  | [] => (false, s)
  | n :: l =>
    if s.granted + s.get (PERMIT.SLOT.DRAW n) ≤ s.grantable then ((s.grant n).arrive 0x35).grantList l
    else (true, s)

/-- The grantor at a grain boundary (R498): classes in order, each in order of arrival; one that does not fit stops the
rest; nothing under the warning. -/
def State.grantQueued (s : State) : State :=
  if s.on PERMIT.STATUS.FROZEN then s
  else ([0, 1, 2, 3].foldl (fun (x : Bool × State) c =>
    if x.1 then x else x.2.grantList (x.2.pwr.queue.filter (fun n => x.2.permitClass n == c))) (false, s)).2

/-- PERMIT_QUEUED_GRANT (R498): the grantor acts at a grain boundary, and inside a grain it grants nothing queued. -/
def execPermitQueuedGrant (s : State) : Host.Outcome State Fault Refusal :=
  .next (if s.power = .on ∧ s.clock.phase = 0 then s.grantQueued else s)

/-- The views of PERMIT. -/
def permitView (s : State) (idx : Nat) : Option Nat :=
  if idx = 2 then some (s.granted + 2 ^ 16 * s.draws s.pwr.queue) else none

/-- The order in which permits are revoked (R499): class 3 first, the most recent grant first, the supervisor's last. -/
def State.revokeOrder (s : State) : List Nat :=
  let by' := fun (sup : Bool) => [3, 2, 1, 0].flatMap (fun c =>
    (s.pwr.grants.reverse).filter (fun n => s.permitClass n == c && (s.get (PERMIT.SLOT.HOLDER n) == 0x10) == sup))
  by' false ++ by' true

/-- The permits to revoke so that the rest fit. -/
def State.toRevoke (s : State) : Nat → List Nat → List Nat
  | _, [] => []
  | left, n :: l => if left ≤ s.grantable then [] else n :: s.toRevoke (left - s.get (PERMIT.SLOT.DRAW n)) l

end Sys2Proof.Machine
end

