-- ==== Sys2Proof/Machine/Modem.lean ====
section
/-! DEFINITION. The line modem (15_line_modem.md). -/

namespace Sys2Proof.Machine

/-- Change the modem. -/
def State.modModem (s : State) (f : ModemSt → ModemSt) : State := { s with modem := f s.modem }

/-- The MODEM domain is on: the lease is held, outside base camp (R39). -/
def State.modemOn (s : State) : Bool := s.power == .on && s.get (LEASE.HOLD.STATE 3) == 1 && !s.baseCamp

/-! ## Frames (R423, R427) -/

/-- Symbols of a frame of L payload bytes. -/
def frameSymbols (len : Nat) : Nat := 134 + 8 * len

/-- The largest payload of a band. -/
def bandLimit (band : Nat) : Nat := if band = 0 then 256 else 183

/-- CORE cycles of a symbol (R422). -/
def symbolCycles : Nat := 128000

/-- The body of an attempt (R423): CTL holds ACK, the request and TRY; the payload is read from the TX slot. -/
def State.txBody (s : State) (f : TxFrame) : List Byte :=
  let h := leBytes 2 f.dst ++ leBytes 2 (s.get MODEM.ADDR.ADDR) ++
    [BitVec.ofNat 8 (ofB f.isAck + 2 * ofB f.wantAck + 4 * f.tries), BitVec.ofNat 8 f.seq] ++ leBytes 2 f.len ++
    s.bytes (0x10780000 + 1024 * f.slot) f.len
  h ++ leBytes 4 (crc32c h)

/-- The group delay of ch 0 at the tracked frequency, in 2^-32 grain (R156, R157). -/
def State.delay0 (s : State) (plen : Nat) : Nat :=
  if s.eff (FILT.CFG.OPT 0) = 0 then 45 * 2 ^ 32 else minDelay plen

/-- The first candidate instant at or after a grain, in CORE cycles (R428): none before a pitch has completed. -/
def State.candidate (s : State) (grain : Nat) : Option Nat :=
  match s.tracker.last with
  | none => none
  | some p =>
    let per := p.plen * 1024
    let d := s.delay0 p.plen
    if per = 0 then none
    else
      let n := ceilDiv (grain * 2 ^ 32 + d - p.start) per
      some ((rneDiv ((p.start + n * per - d) * 6400) (2 ^ 32)).toNat)

/-- The draw of an attempt, mW (R440). -/
def txDraw (att : Nat) : Nat :=
  200 + ([1300, 1033, 821, 652, 518, 412, 327, 260, 207, 164, 130, 104, 83, 66, 52, 42, 33, 26, 21, 17, 13, 11, 9, 7, 6,
    5, 4, 3, 3, 2, 2].getD att 2)

/-- The permit of an attempt is asked for in the lease holder's name (R440): its code, number and the state. -/
def State.txPermit (s : State) (f : TxFrame) (nowait : Bool) : Nat × Nat × State :=
  s.permitRequest (s.get (LEASE.HOLD.HOLDER 3)) f.cls (txDraw f.att) (20 * frameSymbols f.len + 64) nowait

/-- The permit in hand shows in MODEM.PERMIT. -/
def State.showPermit (s : State) (n : Option Nat) : State :=
  match n with
  | none => (s.flag MODEM.PERMIT.VALID false).set MODEM.PERMIT.NUM 0
  | some n => (s.flag MODEM.PERMIT.VALID true).set MODEM.PERMIT.NUM n

/-- The frame in progress ends with a RESULT. -/
def State.txDone (s : State) (result : Nat) : State :=
  let s := ((s.flag MODEM.STATUS.TXBUSY false).flag MODEM.STATUS.WAITACK false).flag MODEM.STATUS.PERMWAIT false
  let s := ((s.flag MODEM.STATUS.LBTWAIT false).set MODEM.TXRES.RESULT result).showPermit none
  let s := s.modModem (fun m => { m with tx := none, stopping := none })
  if result = 1 then s.arrive 0x49 else if result = 3 ∨ result = 4 ∨ result = 5 then s.arrive 0x4A else s

/-- An attempt asks for its permit and its start (R428, R440): refused, the frame ends with RESULT 5. -/
def State.attempt (s : State) (f : TxFrame) (from' : Nat) : State :=
  let r := s.txPermit f false
  let f := { f with begins := s.candidate from', deadline := none, body := [] }
  if 2 ≤ r.1 then (r.2.2.modModem (fun m => { m with tx := some f })).txDone 5
  else
    let t := r.2.2.modModem (fun m => { m with tx := some { f with permit := some r.2.1 } })
    if r.1 = 1 then t.flag MODEM.STATUS.PERMWAIT true else t.showPermit (some r.2.1)

/-- A write of GO (R427, R435): whether it was taken, and the state. -/
def State.txGo (s : State) : Bool × State :=
  let band := s.get MODEM.CTRL.BAND
  let len := s.get MODEM.TXDESC.LEN
  if s.on MODEM.STATUS.TXBUSY || !s.on MODEM.CTRL.EN || s.baseCamp then (false, s.flag MODEM.STATUS.TXREF true)
  else if bandLimit band < len then (false, s.flag MODEM.STATUS.LENREF true)
  else
    let dst := s.get MODEM.TXDESC.DST
    let f : TxFrame := {
      slot := s.get MODEM.TXDESC.SLOT, dst := dst, len := len, seq := s.modem.seq
      wantAck := dst != 0xFFFF && !s.on MODEM.TXDESC.NOACK, isAck := false, band := band
      att := s.get MODEM.TXCFG.ATT, cls := s.get MODEM.TXCFG.PCLS, retries := s.get MODEM.TXCFG.RETRY
      tries := 0, release := s.clock.grain, begins := none, stops := 0, body := [], permit := none, deadline := none }
    let s := (s.flag MODEM.STATUS.TXBUSY true).modModem (fun m => { m with seq := (m.seq + 1) % 256 })
    let s := ((s.set MODEM.TXRES.SEQ f.seq).set MODEM.TXRES.TRIES 0).set MODEM.TXRES.RESULT 0
    (true, s.attempt f (s.clock.grain + 3))

/-- The module transmits (R432). -/
def State.onAir (s : State) : Bool := s.on MODEM.STATUS.TXON

/-- The access rule of R429 and R432 lets a transmission start now. -/
def State.airFree (s : State) (band : Nat) : Bool :=
  s.modem.rxAt.isNone && (band == 0 || (!s.modem.busy && s.modem.idleTo.isNone &&
    (match s.modem.lastEnd with | none => true | some e => decide (e + 4000 ≤ s.clock.grain))))

/-- A transmission begins: TXST, the body as it stands now (R434). -/
def State.beginTx (s : State) (f : TxFrame) (at' : Nat) : TxFrame × State :=
  let g := { f with begins := some at', stops := at' + frameSymbols f.len * symbolCycles, body := s.txBody f }
  (g, ((s.flag MODEM.STATUS.TXON true).flag MODEM.STATUS.LBTWAIT false).set2 MODEM.TXSTLO.GLO MODEM.TXSTHI.GHI (at' / 6400))

/-- MODEM_FRAME_START (R428, R429, R432, R440): at its candidate instant, with its permit; a start not allowed moves to
the next candidate. -/
def execModemFrameStart (s : State) : Host.Outcome State Fault Refusal :=
  .next (match s.modem.tx with
    | none => s
    | some f =>
      let granted : Bool := match f.permit with | none => false | some n => s.get (PERMIT.SLOT.STATE n) == 2
      let again := fun (u : State) => u.modModem (fun m => { m with
        tx := some { f with begins := u.candidate (u.clock.grain + 1) } })
      if ¬ s.modemOn ∨ s.onAir ∨ s.on MODEM.STATUS.WAITACK ∨ ¬ granted then s
      else if s.on MODEM.STATUS.PERMWAIT then again ((s.flag MODEM.STATUS.PERMWAIT false).showPermit f.permit)
      else match f.begins with
        | none => again s
        | some b =>
          if s.cycle < b then s
          else if ¬ s.airFree f.band then again (s.flag MODEM.STATUS.LBTWAIT true)
          else
            let r := s.beginTx f b
            (r.2.set MODEM.TXRES.TRIES (f.tries + 1)).modModem (fun m => { m with
              tx := some { r.1 with tries := f.tries + 1 } }))

/-- The frame on the air: an ACK frame, or the frame in progress. -/
def State.airFrame (s : State) : Option TxFrame :=
  match s.modem.ack with
  | some a => if a.body ≠ [] then some a else s.modem.tx
  | none => s.modem.tx

/-- The tone on LMTXP/LMTXN now (R420, R423–R425): none while the driver is at high impedance. -/
def State.lineTone (s : State) : Option Nat :=
  match s.airFrame with
  | none => none
  | some f =>
    if s.onAir ∧ s.cycle < f.stops then (frameTones f.body)[(s.cycle - f.begins.getD 0) / symbolCycles]? else none

/-- MODEM_FRAME_END (R435, R437, R441): the last symbol, or the symbol at which a stopped frame ends. -/
def execModemFrameEnd (s : State) : Host.Outcome State Fault Refusal :=
  .next (match s.airFrame with
    | none => s
    | some f =>
      if ¬ s.onAir ∨ s.cycle < f.stops then s
      else
        let g := ceilDiv f.stops 6400
        let t := (s.flag MODEM.STATUS.TXON false).modModem (fun m => { m with lastEnd := some g })
        if f.isAck then t.modModem (fun m => { m with ack := none })
        else match t.modem.stopping with
          | some r => t.txDone r
          | none =>
            if f.wantAck then (t.flag MODEM.STATUS.WAITACK true).modModem (fun m => { m with
              tx := some { f with deadline := some (g + t.get MODEM.ACKTO.TO) } })
            else t.txDone 2)

/-- A transmission stops (R441): at the next symbol boundary where one is on the air, else at once; a frame being received
is discarded. -/
def State.txStop (s : State) (result : Nat) : State :=
  let s := (s.flag MODEM.STATUS.RXSYNC false).modModem (fun m => { m with rxAt := none, rxWords := [], rxSyms := [] })
  match s.airFrame with
  | none => s
  | some f =>
    if s.onAir then
      let b := f.begins.getD 0
      let stop := b + ceilDiv (s.cycle - b) symbolCycles * symbolCycles
      if f.isAck then
        let t := s.modModem (fun m => { m with ack := some { f with stops := stop } })
        if t.on MODEM.STATUS.TXBUSY then t.txDone result else t
      else s.modModem (fun m => { m with tx := some { f with stops := stop }, stopping := some result })
    else if s.on MODEM.STATUS.TXBUSY then (s.modModem (fun m => { m with ack := none })).txDone result
    else s.modModem (fun m => { m with ack := none })

/-- MODEM_CHANNEL_BUSY (R429). -/
def execModemChannelBusy (s : State) : Host.Outcome State Fault Refusal :=
  .next (if s.modemOn then s.modModem (fun m => { m with busy := true, idleTo := none }) else s)

/-- MODEM_CHANNEL_IDLE (R429): a random 85–115 ms, 2720 to 3680 grains, is drawn. -/
def execModemChannelIdle (s : State) : Host.Outcome State Fault Refusal :=
  .next (if s.modemOn ∧ s.modem.busy then
    let r := s.draw
    r.2.modModem (fun m => { m with busy := false, idleTo := some (s.clock.grain + 2720 + r.1.toNat % 961) })
  else s)

/-- LBT_BACKOFF_END (R429). -/
def execLbtBackoffEnd (s : State) : Host.Outcome State Fault Refusal :=
  .next (match s.modem.idleTo with
    | some g => if s.modemOn ∧ g ≤ s.clock.grain then s.modModem (fun m => { m with idleTo := none }) else s
    | none => s)

/-! ## Receiving (R430–R433, R436) -/

/-- MODEM_PREAMBLE_SYNC (R432): sync now, the body beginning at the word of channel M that now begins, one in 400 CORE
cycles; not while the module transmits. -/
def execModemPreambleSync (s : State) : Host.Outcome State Fault Refusal :=
  .next (if s.modemOn ∧ s.on MODEM.CTRL.EN ∧ ¬ s.onAir ∧ s.modem.rxAt = none then
    (s.flag MODEM.STATUS.RXSYNC true).modModem (fun m => { m with
      rxAt := some s.clock.grain, rxSkip := min 15 (s.clock.phase / 400), rxWords := [], rxSyms := [] })
  else s)

/-- The words of channel M of the grain that ended join the body in reception; 320 of them make a symbol (R430). -/
def State.modemWords (s : State) : State :=
  if s.modem.rxAt.isNone ∨ ¬ s.modemOn then s
  else
    let l := s.modem.rxWords ++ s.streams.front.m.drop s.modem.rxSkip
    s.modModem (fun m =>
      if l.length < 320 then { m with rxSkip := 0, rxWords := l }
      else { m with
        rxSkip := 0, rxWords := l.drop 320
        rxSyms := m.rxSyms ++ [symEnergy (s.get MODEM.CTRL.BAND) ((l.take 320).map BitVec.toInt)] })

/-- A counter takes n at once. -/
def State.bumpBy (s : State) (count sat : Fld) (n : Nat) : State :=
  if s.get count + n < 2 ^ count.w then s.set count (s.get count + n)
  else (s.set count (2 ^ count.w - 1)).flag sat true

/-- A body of the right length whose CRC checks (R423). -/
def bodyGood (b : List Byte) : Bool :=
  let l := u16At b 6
  decide (l ≤ 256) && b.length == 12 + l && u32At b (8 + l) == crc32c (b.take (8 + l))

/-- The last SEQ of a source is remembered, 16 sources at most (R436). -/
def hear (heard : List (Nat × Nat)) (src seq : Nat) : List (Nat × Nat) :=
  let l := heard.filter (fun e => e.1 != src) ++ [(src, seq)]
  l.drop (l.length - 16)

/-- A frame is written to the receive ring (R433). -/
def State.ringWrite (s : State) (b : List Byte) (at' erased : Nat) : State :=
  let h := s.get MODEM.RXHEAD.HEAD
  let l := u16At b 6
  let s := s.setBytes (0x10782000 + 512 * h) (b.take 8 ++ leBytes 8 at' ++ leBytes 2 erased ++ zeros 14 ++
    (b.drop 8).take l)
  let s := (s.set MODEM.RXHEAD.HEAD (h + 1)).bump MODEM.NRX.COUNT MODEM.NRX.SAT
  (s.modModem (fun m => { m with
    full := s.get MODEM.RXHEAD.HEAD == s.get MODEM.RXTAIL.TAIL
    heard := hear m.heard (u16At b 2) (byteAt b 5) })).arrive 0x48

/-- An ACK of a delivered frame is planned (R436). -/
def State.planAck (s : State) (b : List Byte) : State :=
  let f : TxFrame := {
    slot := 0, dst := u16At b 2, len := 0, seq := byteAt b 5, wantAck := false, isAck := true
    band := s.get MODEM.CTRL.BAND, att := s.get MODEM.TXCFG.ATT, cls := s.get MODEM.TXCFG.PCLS, retries := 0, tries := 0
    release := s.clock.grain, begins := s.candidate (s.clock.grain + 4), stops := 0, body := [], permit := none
    deadline := none }
  s.modModem (fun m => { m with ack := some f })

/-- A good frame for this station (R433, R436): delivered, dropped where the ring is full, or a repeat. -/
def State.deliver (s : State) (b : List Byte) (at' erased : Nat) : State :=
  let ctl := byteAt b 4
  let own := u16At b 0 == s.get MODEM.ADDR.ADDR
  let ask := own && bitOf ctl 1
  if own && decide (1 ≤ field ctl 2 3) && s.modem.heard.contains (u16At b 2, byteAt b 5) then
    let t := s.bump MODEM.NDUP.COUNT MODEM.NDUP.SAT
    if ask then t.planAck b else t
  else if s.modem.full then s.flag MODEM.STATUS.RXOVF true
  else
    let t := s.ringWrite b at' erased
    if ask then t.planAck b else t

/-- The frame is the ACK waited for (R437). -/
def State.isAnswer (s : State) (b : List Byte) : Bool :=
  match s.modem.tx with
  | none => false
  | some f => s.on MODEM.STATUS.WAITACK && bitOf (byteAt b 4) 0 && u16At b 0 == s.get MODEM.ADDR.ADDR &&
      u16At b 2 == f.dst && byteAt b 5 == f.seq && decide (s.clock.grain ≤ f.deadline.getD 0)

/-- MODEM_RX_DECODE (R430–R433, R437): the body that began in a grain is the given number of symbols, all received. -/
def execModemRxDecode (began symbols : Nat) (s : State) : Host.Outcome State Fault Refusal :=
  .next (match s.modem.rxAt with
    | none => s
    | some g =>
      if ¬ s.modemOn ∨ g ≠ began ∨ s.modem.rxSyms.length ≠ symbols then s
      else
        let body := decodeBody (s.get MODEM.RXCFG.ERAT) s.modem.rxSyms
        let erased := erasures (s.get MODEM.RXCFG.ERAT) s.modem.rxSyms
        let s := (s.flag MODEM.STATUS.RXSYNC false).modModem (fun m => { m with
          rxAt := none, rxWords := [], rxSyms := [] })
        let s := s.bumpBy MODEM.NERAS.COUNT MODEM.NERAS.SAT erased
        if ¬ bodyGood body then s.bump MODEM.NCRC.COUNT MODEM.NCRC.SAT
        else if s.isAnswer body then s.txDone 1
        else if u16At body 0 = s.get MODEM.ADDR.ADDR ∨ u16At body 0 = 0xFFFF ∨ s.on MODEM.RXCFG.PROMISC then
          s.deliver body g erased
        else s)

/-- MODEM_ACK_SEND (R436): at its candidate instant, with a permit asked for with NOWAIT; not granted, no ACK is sent. -/
def execModemAckSend (s : State) : Host.Outcome State Fault Refusal :=
  .next (match s.modem.ack with
    | none => s
    | some f =>
      if ¬ s.modemOn ∨ s.onAir then s
      else match f.begins with
        | none => s.modModem (fun m => { m with ack := some { f with begins := s.candidate (s.clock.grain + 1) } })
        | some b =>
          if s.cycle < b then s
          else if ¬ s.airFree f.band then
            (s.flag MODEM.STATUS.LBTWAIT true).modModem (fun m => { m with
              ack := some { f with begins := s.candidate (s.clock.grain + 1) } })
          else
            let r := s.txPermit f true
            if r.1 ≠ 0 then r.2.2.modModem (fun m => { m with ack := none })
            else
              let t := r.2.2.beginTx f b
              t.2.modModem (fun m => { m with ack := some { t.1 with permit := some r.2.1 } }))

/-- MODEM_ACK_TIMEOUT (R437): the next attempt, or RESULT 3. -/
def execModemAckTimeout (s : State) : Host.Outcome State Fault Refusal :=
  .next (match s.modem.tx with
    | none => s
    | some f =>
      let d := f.deadline.getD 0
      if ¬ s.on MODEM.STATUS.WAITACK ∨ s.clock.grain ≤ d then s
      else if f.tries < 1 + f.retries then
        ((s.flag MODEM.STATUS.WAITACK false).bump MODEM.NRETRY.COUNT MODEM.NRETRY.SAT).attempt f (d + 2)
      else s.txDone 3)

/-- A write of TXGO: CANCEL stops a frame with RESULT 6 (R441), GO releases one. -/
def State.txgoWrite (s : State) (v : Nat) : Bool × State :=
  let s := if bitOf v 1 ∧ s.on MODEM.STATUS.TXBUSY then s.txStop 6 else s
  if bitOf v 0 then s.txGo else (true, s)

/-- The writes of MODEM that do more than store. -/
def modemWrite (s : State) (idx v : Nat) : Option State :=
  if idx = 5 then some (s.txgoWrite v).2
  else if idx = 0x0C then
    some ((s.modModem (fun m => { m with full := m.full && s.get MODEM.RXTAIL.TAIL == v % 64 })).set MODEM.RXTAIL.TAIL v)
  else none

/-- The registers the modem lease guards (R445): all but STATUS and the counters. -/
def modemGuarded (idx : Nat) : Bool := !(idx ∈ [1, 0x0D, 0x0E, 0x0F, 0x10, 0x11])

end Sys2Proof.Machine
end

