-- ==== Sys2Proof/Machine/Glass.lean ====
section
/-! DEFINITION. The glass driver and the crack loop (16_glass.md). -/

namespace Sys2Proof.Machine

/-- Change GLASS. -/
def State.modGlass (s : State) (f : GlassSt → GlassSt) : State := { s with glass := f s.glass }

/-- The GLASS domain is on (R39): in RUN, on parts with -G. -/
def State.glassOn (s : State) : Bool := s.power == .on && s.part.optG && !s.baseCamp

/-! ## Multiplexed LCD (R446–R450) -/

/-- Commons of a MUX code (R464). -/
def muxOf (m : Nat) : Nat := [1, 2, 3, 4, 6, 8].getD m 8

/-- A setting of LCDCFG is refused (R447): frame rate outside 32–128 Hz, or static bias with MUX above 1:1. -/
def lcdBad (h gdiv bias mux : Nat) : Bool :=
  let d := gdiv * 2 * h * muxOf mux
  !(decide (32 * d ≤ 32768 ∧ 32768 ≤ 128 * d)) || (bias == 0 && mux != 0)

/-- A write of LCDCFG: kept for the next frame boundary, or refused with CFGREF. -/
def State.lcdcfgWrite (s : State) (v : Nat) : State :=
  let t := s.writeCells ((cellsOf regsGlass 0x38 2 0).getD []) v
  if lcdBad (t.get GLASS.LCDCFG.H) (t.get GLASS.LCDCFG.GDIV) (t.get GLASS.LCDCFG.BIAS) (t.get GLASS.LCDCFG.MUX) then
    s.flag GLASS.STATUS.CFGREF true
  else t

/-- The charge-pump target (R449), mV. -/
def State.lcdTarget (s : State) : Nat :=
  let vset := s.get GLASS.VLCD.VSET
  if s.on GLASS.NTC.NTCEN then
    (clampI 2500 6000 (Config.round (100 * (vset : Int) -
      s.get GLASS.VLCD.SLOPE * (sextN 16 (s.get GLASS.TEMP.T) - 2500)) 100)).toNat
  else vset

/-- PUMPOK (R450): within ±3 % of the target. -/
def State.pumpOk (s : State) : State :=
  let t := s.get GLASS.TEMP.VOUT
  s.flag GLASS.STATUS.PUMPOK (decide (((s.glass.pump : Int) - t).natAbs * 100 ≤ 3 * t))

/-- The pump moves toward its target by no more than 10 mV (R449): by how much is an open value, given here. -/
def pumpStep (by' now target : Nat) : Nat :=
  if now = target then now
  else if now < target then min target (now + min 10 by')
  else max target (now - min 10 by')

/-- LCD_FRAME_BOUNDARY (R447–R450): pending settings and image take effect, the phases alternate, the pump moves. -/
def execLcdFrameBoundary (s : State) : Host.Outcome State Fault Refusal :=
  .next (if s.glassOn ∧ s.on GLASS.CTRL.EN ∧ s.get GLASS.CTRL.MODE = 0 then
    let s := [GLASS.LCDCFG.H, GLASS.LCDCFG.GDIV, GLASS.LCDCFG.BIAS, GLASS.LCDCFG.MUX].foldl State.takeEffect s
    let s := s.forN 8 (fun c t => (t.takeEffect (GLASS.LIMGLO.SEG c)).takeEffect (GLASS.LIMGHI.SEG c))
    let s := s.set GLASS.TEMP.VOUT s.lcdTarget
    let r := s.openVal
    (r.2.modGlass (fun g => { g with
      frames := g.frames + 1, pump := pumpStep r.1 g.pump (s.get GLASS.TEMP.VOUT) })).pumpOk
  else s)

/-- The flag segment is shown (R460). -/
def State.flagShown (s : State) : Bool := bitOf (s.get TAMP.INFORCE.RESP) 0 && s.on GLASS.TFLAG.EN

/-- Segment n of common c is driven on in the live image (R448, R460): while GLASS is powered and drives an LCD. -/
def State.lcdOn (s : State) (c n : Nat) : Bool :=
  s.glassOn && s.on GLASS.CTRL.EN && s.get GLASS.CTRL.MODE == 0 &&
    (bitOf (s.eff (GLASS.LIMGLO.SEG c) + 2 ^ 32 * s.eff (GLASS.LIMGHI.SEG c)) n ||
      (s.flagShown && s.get GLASS.TFLAG.COM == c && s.get GLASS.TFLAG.SEG == n))

/-- Segment n of common c is driven on in the frozen image (R460, R461): during the outage view. -/
def State.frozenOn (s : State) (c n : Nat) : Bool :=
  s.power == .bivouac && s.part.optG && s.on GLASS.STATUS.VIEWON &&
  (bitOf (s.get (GLASS.FIMGLO.SEG c) + 2 ^ 32 * s.get (GLASS.FIMGHI.SEG c)) n ||
    (s.flagShown && s.get GLASS.TFLAG.COM == c && s.get GLASS.TFLAG.SEG == n))

/-- The driver drives the LCD: powered, enabled, or in the outage view (R446, R450, R461). -/
def State.lcdDriven (s : State) : Bool :=
  s.get GLASS.CTRL.MODE == 0 && ((s.glassOn && s.on GLASS.CTRL.EN) ||
    (s.power == .bivouac && s.part.optG && s.on GLASS.STATUS.VIEWON))

/-- B of the bias 1/B in force, 1 for static (R448). -/
def State.lcdBias (s : State) : Nat := s.eff GLASS.LCDCFG.BIAS + 1

/-- The level of a "+" half in units of V/B (R448), or of the "−" half, which is V less that. -/
def lcdLevel (b : Nat) (plus : Bool) (level : Nat) : Nat := if plus then level else b - level

/-- A half of the slot of common c uses the "+" column: it begins with "+" when c and the frame's number make an even sum. -/
def State.lcdPlus (s : State) (c : Nat) (second : Bool) : Bool := ((c + s.glass.frames) % 2 == 0) != second

/-- COM n in a half of the slot of common c, in units of V/B: commons beyond MUX are at 0 V (R446, R448). -/
def State.comLevel (s : State) (c : Nat) (second : Bool) (n : Nat) : Nat :=
  if muxOf (s.eff GLASS.LCDCFG.MUX) ≤ n then 0
  else lcdLevel s.lcdBias (s.lcdPlus c second) (if n = c then s.lcdBias else 1)

/-- A segment in a half of the slot of common c, in units of V/B (R448): 0 where it is on, 2 where it is off; in static bias
an off segment takes its common's level. -/
def State.segLevel (s : State) (c : Nat) (second on' : Bool) : Nat :=
  lcdLevel s.lcdBias (s.lcdPlus c second) (if on' then 0 else min 2 s.lcdBias)

/-- NTC_REQUEST (R449): every 32 000 grains; the code, or none where the request was dropped. -/
def execNtcRequest (code : Option Int) (s : State) : Host.Outcome State Fault Refusal :=
  .next (if s.glassOn ∧ s.on GLASS.NTC.NTCEN ∧ s.glass.ntcAt + 32000 ≤ s.clock.grain then
    let s := s.modGlass (fun g => { g with ntcAt := s.clock.grain })
    match code with
    | none =>
      let s := s.modGlass (fun g => { g with ntcDrops := g.ntcDrops + 1 })
      if 8 ≤ s.glass.ntcDrops then s.flag GLASS.STATUS.TSTALE true else s
    | some x =>
      let t := 2500 + Config.round ((x - s.get GLASS.NTC.C0) * sextN 16 (s.get GLASS.NTCK.K)) 10
      let s := (s.modGlass (fun g => { g with ntcDrops := 0 })).flag GLASS.STATUS.TSTALE false
      let s := s.set GLASS.TEMP.T (wrapN 16 t)
      s.set GLASS.TEMP.VOUT s.lcdTarget
  else s)

/-- PUMP_FAULT (R450): 64 GLASS periods outside the band. -/
def execPumpFault (s : State) : Host.Outcome State Fault Refusal :=
  .next (if s.glassOn ∧ s.on GLASS.CTRL.EN then
    (((s.flag GLASS.STATUS.PUMPFLT true).arrive 0x52).flag GLASS.CTRL.EN false).flag GLASS.STATUS.PUMPOK false
  else s)

/-! ## Waveform tables (R452) -/

/-- The phase words of a table up to its end. -/
def State.phases (s : State) (t : Nat) : List Nat :=
  ((List.range 16).map (fun i => s.get (GLASS.TDATA.WORD (16 * t + i)))).takeWhile (fun w => w % 256 != 0)

/-- What a phase adds to a class j segment in GLASS periods: + with the top plane at 0 V. -/
def phaseSign (w j : Nat) : Int := if bitOf w (9 + j) then (if bitOf w 8 then -1 else 1) else 0

/-- A table is balanced for every class. -/
def State.tableOk (s : State) (t : Nat) : Bool :=
  (List.range 4).all (fun j => (s.phases t).foldl (fun a w => a + phaseSign w j * (w % 256 : Nat)) 0 == 0)

/-- A write of TCHK. -/
def State.tableCheck (s : State) (v : Nat) : State :=
  if ¬ bitOf v 8 then s
  else if s.tableOk (v % 4) then s.setBit GLASS.TVALID.VALID (v % 4) true
  else (s.setBit GLASS.TVALID.VALID (v % 4) false).flag GLASS.STATUS.TBLREF true

/-- The word TADDR names. -/
def State.tableWord (s : State) : Fld := GLASS.TDATA.WORD (16 * s.get GLASS.TADDR.TABLE + s.get GLASS.TADDR.PHASE)

/-- PHASE advances after each TDATA access. -/
def State.phaseNext (s : State) : State := s.set GLASS.TADDR.PHASE (s.get GLASS.TADDR.PHASE + 1)

/-- A write of TDATA clears the table's TVALID bit. -/
def State.tableWrite (s : State) (v : Nat) : State :=
  ((s.set s.tableWord v).setBit GLASS.TVALID.VALID (s.get GLASS.TADDR.TABLE) false).phaseNext

/-! ## Regions and requests (R453, R454) -/

/-- The mask of region r, 52 bits. -/
def State.regionMask (s : State) (r : Nat) : Nat := s.get (GLASS.RMLO.MASK r) + 2 ^ 32 * s.get (GLASS.RMHI.MASK r)

/-- The bistable state, 52 bits. -/
def State.bst (s : State) : Nat := s.get GLASS.BSTLO.DARK + 2 ^ 32 * s.get GLASS.BSTHI.DARK

/-- Region r runs or is pending. -/
def State.regionBusy (s : State) (r : Nat) : Bool :=
  s.glass.pend.any (fun e => e.1 == r) || (match s.glass.upd with | none => false | some u => u.region == r)

/-- A write of a mask register (R454). -/
def State.maskWrite (s : State) (idx v : Nat) : State :=
  let r := (idx - 0x30) / 2
  let t := s.writeCells ((cellsOf regsGlass 0x38 idx 0).getD []) v
  let m := t.regionMask r
  let overlap := (List.range 8).any (fun q => q != r && (m &&& s.regionMask q) != 0)
  if overlap || (s.on GLASS.TFLAG.EN && bitOf m (s.get GLASS.TFLAG.SEG)) || s.regionBusy r then
    s.flag GLASS.STATUS.REQREF true
  else t

/-- The class of a segment (R453). -/
def segClass (present wanted : Bool) : Nat := ofB wanted + 2 * ofB present

/-- SLOW cycles of the two compensation sub-phases (R459). -/
def compCycles (bal : List Int) : Nat × Nat :=
  (bal.foldl (fun a x => max a x.toNat) 0, bal.foldl (fun a x => max a (-x).toNat) 0)

/-- SLOW cycles of the ramp of 64 grains (R455): 65.536, whole. -/
def rampSlow : Nat := 66

/-- SLOW cycles of the phases of a table. -/
def State.phaseCycles (s : State) (t gdiv : Nat) : Nat := (s.phases t).foldl (fun a w => a + w % 256 * gdiv) 0

/-- The 64 data bytes of a record (R456). -/
def State.glassData (s : State) (u : GlassUpd) (state res : Nat) : List Byte :=
  let cls := fun (j : Nat) =>
    match (List.range 52).find? (fun n => bitOf u.mask n && u.classes.getD n 0 == j) with
    | some n => leInt 4 (s.glass.bal.getD n 0)
    | none => leInt 4 0
  [BitVec.ofNat 8 state, BitVec.ofNat 8 u.region, BitVec.ofNat 8 u.req.table, BitVec.ofNat 8 res] ++
    cls 0 ++ cls 1 ++ cls 2 ++ cls 3 ++
    (List.range 13).map (fun b => BitVec.ofNat 8 ((List.range 4).foldl (fun a i =>
      a + u.classes.getD (4 * b + i) 0 * 4 ^ i) 0)) ++ leBytes 7 s.bst

/-- An update is chosen: its started record is staged (R455). -/
def State.stageStart (s : State) (region mask : Nat) (req : GlassReq) : State :=
  let classes := (List.range 52).map (fun n => if bitOf mask n then segClass (bitOf s.bst n) (bitOf req.image n) else 0)
  let u : GlassUpd := ⟨region, mask, req, ⟨0, 0, 0, 0, [], false⟩, classes, none, 0, [], none⟩
  let t := s.stageEvent 0x28 0x38 (s.glassData u 1 0)
  t.modGlass (fun g => { g with upd := some { u with started := t.jrnl.staged.getLast?.getD u.started } })

/-- Grains of an update (R455). -/
def State.updGrains (s : State) (table : Nat) : Nat :=
  let c := compCycles s.glass.bal
  64 + ceilDiv ((c.1 + c.2 + s.phaseCycles table (s.get GLASS.LCDCFG.GDIV)) * 125) 128

/-- The bistable flag is to be shown: owed while the response is in force, and its permit not refused since the last block
boundary (R460). -/
def State.flagDue (s : State) : Bool :=
  s.glass.flagOwed && !s.glass.flagAsked && s.flagShown && s.get GLASS.CTRL.MODE == 1 && s.on GLASS.CTRL.EN

/-- The next update, while none runs and no rollback of the glass lease is under way (R257): the tamper flag where its
permit is granted, else the lowest region pending (R454, R460). -/
def State.nextUpdate (s : State) : State :=
  if s.glass.upd.isSome ∨ ¬ s.glassOn ∨ s.get (LEASE.HOLD.STATE 4) = 2 then s
  else
    let tbl := s.get GLASS.TFLAG.TABLE
    let r := if s.flagDue then s.permitRequest 0x10 0 60 (s.updGrains tbl) true else (4, 0, s)
    let s := if s.flagDue then s.modGlass (fun g => { g with flagAsked := true }) else s
    if r.1 = 0 then
      let m := 2 ^ s.get GLASS.TFLAG.SEG
      (r.2.2.modGlass (fun g => { g with flagOwed := false })).stageStart 8 m ⟨m, tbl, r.2.1⟩
    else match (List.range 8).find? (fun q => s.glass.pend.any (fun e => e.1 == q)) with
      | none => s
      | some q =>
        match s.glass.pend.find? (fun e => e.1 == q) with
        | none => s
        | some e => (s.modGlass (fun g => { g with pend := g.pend.filter (fun x => x.1 != q) })).stageStart q (s.regionMask q) e.2

/-- At a block boundary a flag's permit that was refused is asked for again (R460). -/
def State.glassBlock (s : State) : State := (s.modGlass (fun g => { g with flagAsked := false })).nextUpdate

/-- A write of RQGO by a holder (R454): whether it was taken, and the state. -/
def State.glassGo (s : State) (who v : Nat) : Bool × State :=
  let region := v % 8
  let table := field v 4 2
  let permit := field v 8 4
  if ¬ bitOf v 12 then (true, s)
  else if s.get GLASS.CTRL.MODE != 1 || !s.on GLASS.CTRL.EN || s.regionMask region == 0 ||
      !s.bit GLASS.TVALID.VALID table || !s.permitFor permit who 60 then
    (false, s.flag GLASS.STATUS.REQREF true)
  else
    let req : GlassReq := ⟨s.get GLASS.RQLO.DARK + 2 ^ 32 * s.get GLASS.RQHI.DARK, table, permit⟩
    let s := if s.glass.pend.any (fun e => e.1 == region) then
        ((((s.bump GLASS.NSUP.COUNT GLASS.NSUP.SAT).set GLASS.BSTAT.LASTRES 6).set GLASS.BSTAT.LASTREG region).arrive 0x51)
      else s
    (true, (s.modGlass (fun g => { g with pend := g.pend.filter (fun e => e.1 != region) ++ [(region, req)] })).nextUpdate)

/-! ## Updates (R455–R459) -/

/-- The balance of segment n after e SLOW cycles of an update (R453, R459). -/
def State.balAt (s : State) (u : GlassUpd) (e n : Nat) : Int :=
  let b := u.bal0.getD n 0
  let c := compCycles u.bal0
  let t1 := e - rampSlow
  let b := if 0 < b then max 0 (b - min t1 c.1) else b
  let t2 := t1 - c.1
  let b := if b < 0 then min 0 (b + min t2 c.2) else b
  let t3 := t2 - c.2
  if ¬ bitOf u.mask n then b
  else ((s.phases u.req.table).foldl (fun (x : Nat × Int) w =>
    let d := min x.1 (w % 256 * u.gdiv)
    (x.1 - d, x.2 + phaseSign w (u.classes.getD n 0) * d)) (t3, b)).2

/-- The ends of an update's phases, compensation among them, in SLOW cycles after its beginning. -/
def State.phaseEnds (s : State) (u : GlassUpd) : List Nat :=
  let c := compCycles u.bal0
  let base := [rampSlow, rampSlow + c.1, rampSlow + c.1 + c.2]
  ((s.phases u.req.table).foldl (fun (x : List Nat) w => x ++ [x.getLast?.getD 0 + w % 256 * u.gdiv]) base)

/-- The beginning of the phase that runs e SLOW cycles into an update. -/
def State.phaseStart (s : State) (u : GlassUpd) (e : Nat) : Nat :=
  ((s.phaseEnds u).reverse.find? (fun x => decide (x ≤ e))).getD 0

/-- The balance counters: an update that drives has added its GLASS periods that are over (R453, R456). -/
def State.balNow (s : State) : List Int :=
  match s.glass.upd with
  | none => s.glass.bal
  | some u => match u.began with
    | none => s.glass.bal
    | some t0 =>
      let e := s.clock.rtc - t0
      let p := s.phaseStart u e
      (List.range 52).map (s.balAt u (p + (e - p) / max 1 u.gdiv * max 1 u.gdiv))

/-- The top plane and a segment of a bistable panel at 15 V (R451, R452, R459): at 0 V between updates and while the pump
ramps; in a sub-phase of the compensation a segment stands opposite to the plane for its balance, in a phase by its class,
and a segment outside the region with the plane. -/
def State.bistableLevels (s : State) (n : Nat) : Bool × Bool :=
  match s.glass.upd with
  | none => (false, false)
  | some u => match u.began with
    | none => (false, false)
    | some t0 =>
      let e := s.clock.rtc - t0
      let c := compCycles u.bal0
      let b := u.bal0.getD n 0
      let t1 := e - rampSlow
      if e < rampSlow then (false, false)
      else if t1 < c.1 then (true, !decide ((t1 : Int) < b))
      else if t1 - c.1 < c.2 then (false, decide (((t1 - c.1 : Nat) : Int) < 0 - b))
      else
        match (s.phases u.req.table)[((s.phaseEnds u).filter (fun x => decide (x ≤ e))).length - 3]? with
        | none => (false, false)
        | some w =>
          let tp := bitOf w 8
          (tp, tp != (bitOf u.mask n && bitOf w (9 + u.classes.getD n 0)))

/-- The glass area of always-on SRAM follows the frozen image, the balance and the bistable state (R36, R456; log entry 15). -/
def State.mirrorGlass (s : State) : State :=
  s.putArea 0xB000 0x400 ((List.range 8).flatMap (fun c => [s.get (GLASS.FIMGLO.SEG c), s.get (GLASS.FIMGHI.SEG c)]) ++
    s.balNow.map (wrapN 32) ++ [s.bst])

/-- While an update drives, the area follows its counters (R456): a GLASS period is no shorter than 7 grains. -/
def State.glassGrain (s : State) : State :=
  match s.glass.upd with
  | none => s
  | some u => if u.began.isSome then s.mirrorGlass else s

/-- A write of a frozen image register (R461). -/
def State.frozenWrite (s : State) (idx v : Nat) : State :=
  (s.writeCells ((cellsOf regsGlass 0x38 idx 0).getD []) v).mirrorGlass

/-- COMPPEND (R459). -/
def State.compPend (s : State) : State := s.flag GLASS.STATUS.COMPPEND (s.glass.bal.any (fun b => b != 0))

/-- An update ends with LASTRES (R455, R457): source 0x50, the ended record, the next update. -/
def State.updDone (s : State) (u : GlassUpd) (res : Nat) : State :=
  let region := if u.region = 8 then s.get GLASS.BSTAT.LASTREG else u.region
  let s := ((s.set GLASS.BSTAT.LASTRES res).set GLASS.BSTAT.LASTREG region).flag GLASS.STATUS.BUSY false
  let s := (s.modGlass (fun g => { g with upd := none })).mirrorGlass.compPend.stageEvent 0x28 0x38 (s.glassData u 2 res)
  (s.arrive 0x50).nextUpdate

/-- The started record is covered by a cairn commit (R361, R455). -/
def State.covered (s : State) (r : JRec) : Bool :=
  !s.jrnl.staged.contains r && s.cairn.ring.all (fun x => x.what != r || decide (x.seq < s.jrnl.cseq))

/-- GLASS_UPDATE_START (R455): the record is covered and the permit has hold enough; else the request ends with 5. -/
def execGlassUpdateStart (s : State) : Host.Outcome State Fault Refusal :=
  .next (match s.glass.upd with
    | none => s.nextUpdate
    | some u =>
      if ¬ s.glassOn ∨ u.began.isSome ∨ ¬ s.covered u.started then s
      else if s.get (PERMIT.SLOT.STATE u.req.permit) ≠ 2 ∨
          s.get (PERMIT.REM.GRAINS u.req.permit) < s.updGrains u.req.table then s.updDone u 5
      else (s.flag GLASS.STATUS.BUSY true).modGlass (fun g => { g with
        upd := some { u with began := some s.clock.rtc, gdiv := s.get GLASS.LCDCFG.GDIV, bal0 := g.bal } }))

/-- The bistable state with the image of a region. -/
def State.setBst (s : State) (v : Nat) : State := (s.set GLASS.BSTLO.DARK v).set GLASS.BSTHI.DARK (v / 2 ^ 32)

/-- GLASS_UPDATE_END (R455, R457): the phases are done, or the stop asked for is reached. -/
def execGlassUpdateEnd (s : State) : Host.Outcome State Fault Refusal :=
  .next (match s.glass.upd with
    | none => s
    | some u =>
      match u.began with
      | none => s
      | some t0 =>
        let e := s.clock.rtc - t0
        let c := compCycles u.bal0
        let total := rampSlow + c.1 + c.2 + s.phaseCycles u.req.table u.gdiv
        match u.stopAt with
        | some (at', res) =>
          if e < at' then s
          else
            let s := s.modGlass (fun g => { g with bal := (List.range 52).map (fun n => s.balAt u at' n) })
            (s.flag GLASS.BSTHI.UNKNOWN true).updDone u res
        | none =>
          if ¬ s.glassOn ∨ e < total then s
          else
            let img := (s.bst &&& (2 ^ 52 - 1 - u.mask)) ||| (u.req.image &&& u.mask)
            let s := (s.setBst img).modGlass (fun g => { g with bal := (List.range 52).map (fun n => s.balAt u total n) })
            ((s.flag GLASS.STATUS.BALUNK false).flag GLASS.BSTHI.UNKNOWN false).updDone u 1)

/-- The end of the phase and of the GLASS period that run now. -/
def State.updEnds (s : State) (u : GlassUpd) : Nat × Nat :=
  let e := s.clock.rtc - u.began.getD 0
  let ends := s.phaseEnds u
  let phase := (ends.find? (fun x => decide (e < x))).getD e
  let start := s.phaseStart u e
  (phase, min phase (start + ceilDiv (e - start) (max 1 u.gdiv) * max 1 u.gdiv))

/-- An update is stopped (R457): one that drives stops at a time after its beginning, one that does not ends at once. -/
def State.updStop (s : State) (res : Nat) (at' : GlassUpd → Nat) : State :=
  match s.glass.upd with
  | none => s
  | some u =>
    if u.began.isNone then s.updDone u res
    else if u.stopAt.isSome then s
    else s.modGlass (fun g => { g with upd := some { u with stopAt := some (at' u, res) } })

/-- GLASS loses its power (R39): an update that drives is cut short at once, as R457 has it for what stops one (log entry
57). -/
def State.glassCut (s : State) : State :=
  match s.glass.upd with
  | none => s
  | some u =>
    let s := s.modGlass (fun g => { g with bal := s.balNow })
    if u.began.isSome then (s.flag GLASS.BSTHI.UNKNOWN true).updDone u 4 else s.updDone u 4

/-- The glass lease is rolled back (R257, R457): at the end of the current phase. -/
def State.glassRollback (s : State) : State := s.updStop 2 (fun u => (s.updEnds u).1)

/-- The permit of an update has ended (R457): at the end of the GLASS period. -/
def State.glassPermitEnd (s : State) (n : Nat) : State :=
  match s.glass.upd with
  | some u => if u.req.permit = n then s.updStop 4 (fun u => (s.updEnds u).2) else s
  | none => s

/-- The warning at this grain (R457): the end of the phase where it falls within 256 grains (262 SLOW cycles), else of the
period. -/
def State.glassWarning (s : State) : State :=
  s.updStop 3 (fun u =>
    let e := s.updEnds u
    if (e.1 - (s.clock.rtc - u.began.getD 0)) * 125 ≤ 256 * 128 ∧ s.get (PERMIT.SLOT.STATE u.req.permit) = 2 then e.1 else e.2)

/-- OUTAGE_VIEW_END (R461). -/
def execOutageViewEnd (s : State) : Host.Outcome State Fault Refusal :=
  .next (match s.glass.viewEnd with
    | some t => if t ≤ s.clock.rtc then
        (s.flag GLASS.STATUS.VIEWON false).modGlass (fun g => { g with viewEnd := none }) else s
    | none => s)

/-! ## The crack loop (R462, R463) -/

/-- A reading of the loop: posted, judged, and while fewer than 8 have been taken, learned. -/
def State.crackTake (s : State) (code : Int) : State :=
  let r := wrapN 16 (-code)
  let s := ((s.flag GLASS.CRKRES.VALID true).set GLASS.CRKRES.R r).flag GLASS.CRKSTAT.STALE false
  let s := (s.flag GLASS.CRKSTAT.OPEN (code == -32768)).flag GLASS.CRKSTAT.BASENEW false
  let base := s.get GLASS.CRKBASE.R
  let s := s.flag GLASS.CRKSTAT.DRIFT (s.on GLASS.CRKBASE.VALID &&
    decide (s.get GLASS.CRKCFG.LIM * base < ((r : Int) - base).natAbs * 1000))
  if 8 ≤ s.glass.learn.length then s
  else
    let l := s.glass.learn ++ [r]
    let s := s.modGlass (fun g => { g with learn := l })
    if l.length < 8 then s
    else ((s.set GLASS.CRKBASE.R (Config.round (l.foldl (· + ·) 0 : Nat) 8).toNat).flag GLASS.CRKBASE.VALID true).flag
      GLASS.CRKSTAT.BASENEW true

/-- CRACK_READING (R462): every PER seconds; none where the request was dropped. -/
def execCrackReading (code : Option Int) (s : State) : Host.Outcome State Fault Refusal :=
  .next (if s.power = .on ∧ s.part.optG ∧ s.on GLASS.CRKCFG.EN ∧
      s.glass.crkAt + s.get GLASS.CRKCFG.PER * slowHz ≤ s.clock.rtc then
    let s := s.modGlass (fun g => { g with crkAt := s.clock.rtc })
    match code with
    | some c => (s.modGlass (fun g => { g with crkDrops := 0 })).crackTake c
    | none =>
      let s := s.modGlass (fun g => { g with crkDrops := g.crkDrops + 1 })
      if 4 ≤ s.glass.crkDrops then s.flag GLASS.CRKSTAT.STALE true else s
  else s)

/-- A pulse check (R463): two failures in a row set PFAIL, a pass clears it. -/
def State.pulseCheck (s : State) (ok : Bool) : State :=
  let s := s.modGlass (fun g => { g with pulseAt := s.clock.rtc, pulseFails := if ok then 0 else g.pulseFails + 1 })
  if s.power = .on then s.flag GLASS.CRKSTAT.PFAIL (decide (2 ≤ s.glass.pulseFails)) else s

/-- CRACK_PULSE_CHECK (R463): every PPER × 1024 SLOW cycles while MAIN is powered. -/
def execCrackPulseCheck (ok : Bool) (s : State) : Host.Outcome State Fault Refusal :=
  .next (if s.power = .on ∧ s.part.optG ∧ s.glass.pulseAt + s.get GLASS.CRKPCFG.PPER * 1024 ≤ s.clock.rtc then
    s.pulseCheck ok else s)

/-! ## The registers (R464) -/

/-- A write of CTRL (R446): MODE cannot change while EN is set; a driver or loop newly enabled starts anew. -/
def State.glassCtrl (s : State) (v : Nat) : State :=
  let old := s.get GLASS.CTRL.MODE
  let en := s.on GLASS.CTRL.EN
  let t := s.writeCells ((cellsOf regsGlass 0x38 0 0).getD []) v
  if en ∧ t.get GLASS.CTRL.MODE ≠ old then (t.set GLASS.CTRL.MODE old).flag GLASS.STATUS.CFGREF true else t

/-- A write of NTC (R449): a pad the tamper supervisor uses is refused. -/
def State.ntcWrite (s : State) (v : Nat) : State :=
  let t := s.writeCells ((cellsOf regsGlass 0x38 4 0).getD []) v
  let ch := t.get GLASS.NTC.CH
  if (ch = 4 ∧ s.sensorUsed 1) ∨ (ch = 5 ∧ s.sensorUsed 0) then s.flag GLASS.STATUS.CFGREF true else t

/-- A write of CRKCFG: EN newly set begins a baseline (R462). -/
def State.crkWrite (s : State) (v : Nat) : State :=
  let t := s.writeCells ((cellsOf regsGlass 0x38 0x58 0).getD []) v
  if t.on GLASS.CRKCFG.EN ∧ ¬ s.on GLASS.CRKCFG.EN then t.modGlass (fun g => { g with learn := [], crkAt := t.clock.rtc }) else t

/-- The bank of a GLASS register for copy b. -/
def glassRegBank (b idx : Nat) : Nat := if idx = 0x4C then b else 0

/-- The views of GLASS: the running phase and step, the balance, the table word. -/
def glassView (s : State) (b idx : Nat) : Option Nat :=
  if idx = 0x45 then
    let run := match s.glass.upd with | some u => u.began.isSome | none => false
    let u := s.glass.upd.getD ⟨0, 0, ⟨0, 0, 0⟩, ⟨0, 0, 0, 0, [], false⟩, [], none, 1, [], none⟩
    let e := s.clock.rtc - u.began.getD 0
    let ends := s.phaseEnds u
    let k := (ends.filter (fun x => decide (x ≤ e))).length
    let start := if k = 0 then 0 else ends.getD (k - 1) 0
    some (s.get GLASS.BSTAT.LASTREG + 8 * s.get GLASS.BSTAT.LASTRES + 2 ^ 7 * ofB run +
      (if run then 2 ^ 8 * (u.region % 8) + 2 ^ 11 * ofB (decide (k = 1 ∨ k = 2)) +
        2 ^ 12 * ((k - 3) % 16) + 2 ^ 16 * ((e - start) / max 1 u.gdiv % 256) else 0) +
      2 ^ 24 * bitsOf 8 (fun r => s.glass.pend.any (fun e => e.1 == r)))
  else if idx = 0x49 then some (s.get s.tableWord)
  else if idx = 0x4D then some (wrapN 32 (s.balNow.getD (s.get (GLASS.BSEL.SEG b)) 0))
  else none

/-- A read of TDATA advances PHASE. -/
def glassAfterRead (s : State) (idx : Nat) : State := if idx = 0x49 then s.phaseNext else s

/-- The writes of GLASS that do more than store. -/
def glassWrite (s : State) (who idx v : Nat) : Option State :=
  if idx = 0 then some (s.glassCtrl v)
  else if idx = 2 then some (s.lcdcfgWrite v)
  else if idx = 4 then some (s.ntcWrite v)
  else if 0x20 ≤ idx ∧ idx < 0x30 then some (s.frozenWrite idx v)
  else if 0x30 ≤ idx ∧ idx < 0x40 then some (s.maskWrite idx v)
  else if idx = 0x44 then some (s.glassGo who v).2
  else if idx = 0x49 then some (s.tableWrite v)
  else if idx = 0x4A then some (s.tableCheck v)
  else if idx = 0x58 then some (s.crkWrite v)
  else none

/-- The registers the glass lease guards (R464). -/
def glassGuarded (idx : Nat) : Bool :=
  !(idx ∈ [1, 6, 0x40, 0x41, 0x45, 0x46, 0x4B, 0x4C, 0x4D, 0x5A, 0x5B, 0x5C])

end Sys2Proof.Machine
end

