-- ==== Sys2Proof/Machine/Lease.lean ====
section
/-! DEFINITION. Leases: terms, expiry, rollback, the supervisor's priority, and what the roped pair is served once (R195,
R222, R256–R259, R509). -/

namespace Sys2Proof.Machine

/-! ## Resources (R222, R256, R257) -/

/-- The lease of resource x. -/
def State.lease (s : State) (x : Fin 12) : LeaseSt := s.leases[x]

/-- Change the lease of resource x. -/
def State.modLease (s : State) (x : Fin 12) (f : LeaseSt → LeaseSt) : State :=
  { s with leases := s.leases.set x (f s.leases[x]) }

/-- The unit of a resource (R222, R257). -/
def leaseUnit (x : Nat) : Nat :=
  match x with
  | 0 => 0x29 | 1 => 0x28 | 2 => 0x25 | 3 => 0x34 | 4 => 0x38 | 5 => 0x30
  | n => 0x10 + (n - 8)

/-- The X values that name a resource (R222). -/
def leaseX (x : Nat) : Bool := decide (x ≤ 5 ∨ (8 ≤ x ∧ x ≤ 11))

/-- The term of a lease in CORE cycles (R256): by the holder's kind. -/
def State.leaseTerm (s : State) (p : Proc) : Nat :=
  match p with
  | .lane _ => 12800
  | .cc _ =>
    let plen := s.get TIME.PLEN.PLEN
    if plen = 0 then (if s.on TIME.CTRL.NOM60 then 3413334 else 4096000) else ceilDiv (plen * 6400) (2 ^ 22)

/-- A lease is given to a holder. -/
def State.leaseGive (s : State) (x : Fin 12) (who : Nat) : State :=
  (s.set (LEASE.HOLD.STATE x) 1).set (LEASE.HOLD.HOLDER x) who

/-- A resource is free, or passes to the supervisor that waits (R258). -/
def State.leaseFree (s : State) (x : Fin 12) : State :=
  if s.on (LEASE.HOLD.SUPWAIT x) then (s.flag (LEASE.HOLD.SUPWAIT x) false).leaseGive x 0x10
  else (s.set (LEASE.HOLD.STATE x) 0).set (LEASE.HOLD.HOLDER x) 0xFF

/-- What the rollback of a resource does at once (R257, R399, R441, R457). -/
def State.leaseUndo (s : State) (x : Fin 12) : State :=
  match x.val with
  | 0 => s.portAbort
  | 1 => { s with jrnl := { s.jrnl with staged := s.jrnl.staged.filter (fun r => !r.byProg), stg := [] } }
  | 2 => s.drawStop
  | 3 => s.txStop 4
  | 4 => s.glassRollback
  | 5 => s.auxStop
  | _ => s

/-- A resource enters rollback (R257). -/
def State.rollback (s : State) (x : Fin 12) : State :=
  ((s.set (LEASE.HOLD.STATE x) 2).set (LEASE.HOLD.HOLDER x) 0xFF).leaseUndo x |>.modLease x
    (fun l => { l with rollAt := s.clock.now, expires := 0 })

/-- A lease is revoked (R257, R258): REASON 0 expiry, which also records fault 0x21, 1 the supply-fail warning, 2 the
holder retired. -/
def State.leaseRevoke (s : State) (x : Fin 12) (reason : Nat) : State :=
  let who := s.get (LEASE.HOLD.HOLDER x)
  let s := if reason = 0 then s.supervisorFault 0x21 (leaseUnit x) else s
  let s := (s.bump LEASE.REVOKES.COUNT LEASE.REVOKES.SAT).set LEASE.LASTREV.REASON reason
  let s := ((s.set LEASE.LASTREV.HOLDER who).set LEASE.LASTREV.RES x).arrive 0x37
  (s.rollback x).modLease x (fun l => { l with lost := if l.lost.contains who then l.lost else l.lost ++ [who] })

/-- The leases of a retired lane are revoked at once (R258). -/
def State.revokeLane (s : State) (n : Nat) : State :=
  (List.finRange 12).foldl (fun t (x : Fin 12) =>
    if t.get (LEASE.HOLD.STATE x) = 1 ∧ t.get (LEASE.HOLD.HOLDER x) = n then t.leaseRevoke x 2 else t) s

/-- LEASE_EXPIRY (R257): the term of a holder other than the supervisor has run out. -/
def execLeaseExpiry (x : Fin 12) (s : State) : Host.Outcome State Fault Refusal :=
  .next (if s.power = .on ∧ s.get (LEASE.HOLD.STATE x) = 1 ∧ s.get (LEASE.HOLD.HOLDER x) ≠ 0x10 ∧
      (s.lease x).expires ≤ s.clock.now then s.leaseRevoke x 0 else s)

/-- What a rollback still waits for (R257): a symbol of the modem, a phase of the glass, a conversion, the boundary of the
spare. -/
def State.undoing (s : State) (x : Fin 12) : Bool :=
  match x.val with
  | 0 | 1 | 2 => false
  | 3 => s.on MODEM.STATUS.TXON
  | 4 => s.glass.upd.isSome
  | 5 => s.aux.stop.isSome
  | _ => decide (s.clock.now - s.clock.phase ≤ (s.lease x).rollAt)

/-- LEASE_ROLLBACK_DONE (R257, R258). -/
def execLeaseRollbackDone (x : Fin 12) (s : State) : Host.Outcome State Fault Refusal :=
  .next (if s.power = .on ∧ s.get (LEASE.HOLD.STATE x) = 2 ∧ ¬ s.undoing x then
    (if x = 4 then (s.leaseFree x).nextUpdate else s.leaseFree x) else s)

/-- The bound of a rollback in CORE cycles (R257): 1 grain, 20 grains, or the glass phase in progress. -/
def State.rollBound (s : State) (x : Fin 12) : Nat :=
  match x.val with
  | 3 => 20 * 6400
  | 4 =>
    (match s.glass.upd with
     | none => 255 * 6250
     | some u => max (255 * u.gdiv) ((compCycles u.bal0).1 + (compCycles u.bal0).2) * 6250)
  | _ => 6400

/-- The supervisor needs a resource (R258): it takes a free one, else SUPWAIT sets. -/
def State.supervisorTake (s : State) (x : Fin 12) : State :=
  if s.get (LEASE.HOLD.STATE x) = 0 then s.leaseGive x 0x10
  else if s.get (LEASE.HOLD.STATE x) = 1 ∧ s.get (LEASE.HOLD.HOLDER x) = 0x10 then s
  else s.flag (LEASE.HOLD.SUPWAIT x) true

/-- The supervisor revokes the cairn write port and the journal writer from another holder and takes them (R258, R347). -/
def State.preempt (s : State) : State :=
  ([0, 1] : List (Fin 12)).foldl (fun t (x : Fin 12) =>
    if t.get (LEASE.HOLD.STATE x) = 1 ∧ t.get (LEASE.HOLD.HOLDER x) ≠ 0x10 then
      (t.flag (LEASE.HOLD.SUPWAIT x) true).leaseRevoke x 1
    else t.supervisorTake x) s

/-- The module decides to make a reset of its own (R347, R509): the pre-reset belay falls due, the port and the writer are
revoked. A decision already taken stands. -/
def State.decideReset (s : State) (kind : Nat) : State :=
  if s.pwr.reset.isSome then s
  else
    ((s.modPwr (fun p => { p with reset := some ⟨kind, s.clock.grain⟩ })).belayDue .prereset).preempt

/-- LEASE_ROLLBACK_OVERDUE (R509): twice the bound has passed. -/
def execLeaseRollbackOverdue (x : Fin 12) (s : State) : Host.Outcome State Fault Refusal :=
  .next (if s.power = .on ∧ s.get (LEASE.HOLD.STATE x) = 2 ∧
      (s.lease x).rollAt + 2 * s.rollBound x ≤ s.clock.now then s.decideReset 6 else s)


/-! ## What the pair is served once (R195, R222) -/

/-- The lanes that receive a value served for lane n: the other member, and the standby where it can recompute. -/
def State.alsoServed (s : State) (n : Fin 5) : List (Fin 5) :=
  let sb := s.get SYS.LANE.STBY
  if s.inPair n then s.partner n :: (if h : sb < 5 then (if s.on LEASE.ROPE.NOSTBY then [] else [⟨sb, h⟩]) else []) else []

/-- Serve a processor: a member of the pair takes what was served for it, or is served and leaves the value for the
others; a standby that recomputes only takes, and finds an open value where the members asked for nothing. -/
def State.serve (s : State) (p : Proc) (f : State → Word × State) : Word × State :=
  match p with
  | .cc _ => f s
  | .lane n =>
    match (s.lane n).inbox with
    | v :: rest => (v, s.setLane n { s.lane n with inbox := rest })
    | [] =>
      if s.rope.recomputing ∧ s.standIn n then (BitVec.ofNat 32 s.openVal.1, s.openVal.2)
      else
        let r := f s
        (r.1, (s.alsoServed n).foldl (fun t m => t.setLane m { t.lane m with inbox := (t.lane m).inbox ++ [r.1] }) r.2)

/-! ## The instructions (R222) -/

/-- A LEASE instruction: an X that names no resource is illegal, an absent resource is fault 0x0E, else the operation,
served once for the pair; it is part of the signature (R248). -/
def State.leaseOp (s : State) (p : Proc) (d : Fin 32) (x : Fin 64) (op : Nat) (f : State → Fin 12 → Nat × State) :
    Host.Outcome State Fault Refusal :=
  if leaseX x then
    .next (s.instr p 1 (fun s r =>
      if ¬ s.part.hasUnit (leaseUnit x) then .error ⟨0x0E, leaseUnit x, none⟩
      else
        let y := s.serve p (fun s => let z := f s (Fin.ofNat 12 x); (BitVec.ofNat 32 z.1, z.2))
        let r := { r with sig := r.sig ++ [SigItem.lease op x] }
        .ok ⟨r.setS d y.1, y.2, none, s.loopsOf p⟩))
  else match p with
    | .lane _ => .fault .loaderExcludes
    | .cc _ => .next (s.instr p 1 (fun _ _ => .error (trapCode 0x01)))

/-- A term begins now. -/
def State.leaseExtend (s : State) (p : Proc) (x : Fin 12) : State :=
  s.modLease x (fun l => { l with expires := s.clock.now + s.leaseTerm p })

/-- The mark of a revocation ends. -/
def State.leaseForget (s : State) (x : Fin 12) (who : Nat) : State :=
  s.modLease x (fun l => { l with lost := l.lost.filter (· ≠ who) })

/-- Take: granted, held by another, or being rolled back. -/
def State.leaseTake (s : State) (p : Proc) (x : Fin 12) : Nat × State :=
  if s.get (LEASE.HOLD.STATE x) = 2 then (3, s)
  else if s.holds p x then (0, if s.on (LEASE.HOLD.SUPWAIT x) then s else s.leaseExtend p x)
  else if s.get (LEASE.HOLD.STATE x) = 1 then (1, s)
  else (0, ((s.leaseGive x (s.holder p)).leaseExtend p x).leaseForget x (s.holder p))

/-- Renew. -/
def State.leaseRenew (s : State) (p : Proc) (x : Fin 12) : Nat × State :=
  if s.holds p x then (if s.on (LEASE.HOLD.SUPWAIT x) then (4, s) else (0, s.leaseExtend p x))
  else if (s.lease x).lost.contains (s.holder p) then (3, s)
  else (2, s)

/-- Release: the same rollback, with nothing recorded. -/
def State.leaseRelease (s : State) (p : Proc) (x : Fin 12) : Nat × State :=
  if s.holds p x then (0, s.rollback x)
  else if (s.lease x).lost.contains (s.holder p) then (3, s.leaseForget x (s.holder p))
  else (2, s)

/-- Query. -/
def State.leaseQuery (s : State) (p : Proc) (x : Fin 12) : Nat × State :=
  (if s.get (LEASE.HOLD.STATE x) = 0 then 0
   else if s.get (LEASE.HOLD.STATE x) = 2 then 3
   else if s.holds p x then 2 else 1, s)

/-- LEASE take. -/
def execLeaseTake (p : Proc) (d : Fin 32) (x : Fin 64) (s : State) : Host.Outcome State Fault Refusal :=
  s.leaseOp p d x 0 (fun s y => s.leaseTake p y)

/-- LEASE renew. -/
def execLeaseRenew (p : Proc) (d : Fin 32) (x : Fin 64) (s : State) : Host.Outcome State Fault Refusal :=
  s.leaseOp p d x 1 (fun s y => s.leaseRenew p y)

/-- LEASE release. -/
def execLeaseRelease (p : Proc) (d : Fin 32) (x : Fin 64) (s : State) : Host.Outcome State Fault Refusal :=
  s.leaseOp p d x 2 (fun s y => s.leaseRelease p y)

/-- LEASE query. -/
def execLeaseQuery (p : Proc) (d : Fin 32) (x : Fin 64) (s : State) : Host.Outcome State Fault Refusal :=
  s.leaseOp p d x 3 (fun s y => s.leaseQuery p y)

/-! ## The registers (R259) -/

/-- The views of LEASE: REMx. -/
def leaseView (s : State) (idx : Nat) : Option Nat :=
  if 0x20 ≤ idx ∧ idx < 0x2C then
    let x := Fin.ofNat 12 (idx - 0x20)
    some (if s.get (LEASE.HOLD.STATE x) = 1 ∧ s.get (LEASE.HOLD.HOLDER x) ≠ 0x10 then
      ((s.lease x).expires - s.clock.now) % 2 ^ 32 else 0)
  else none

end Sys2Proof.Machine
end

