-- ==== Sys2Proof/Machine/QDecode.lean ====
section
/-! DEFINITION. Quineg instruction words as the loader reads them: legality, profile, cost, and what an instruction reaches
(R181, R185–R187, R189, R204; 07_quineg_reference.md). -/

namespace Sys2Proof.Machine

/-- The profiles an instruction belongs to (R180). -/
inductive Profile where
  | both | lane | control
  deriving DecidableEq, Repr

/-- What of an instruction the loader's checks ask for (R182, R193, R217, R220, R222, R242). -/
inductive QKind where
  | plain
  | loop (cnt len : Nat)
  | branch (off : Int)
  | endRun
  | unit (u : Nat) (write : Bool)
  | stream (ch n strm : Nat)
  | store (words : Nat)
  | jacc | cue | bswap
  | lease (x : Nat)
  deriving DecidableEq, Repr

/-- A legal instruction. -/
structure QDec where
  profile : Profile
  cost : Nat
  kind : QKind
  deriving DecidableEq, Repr

/-- An instruction of one cycle of both profiles that reaches nothing. -/
def QDec.plain (cost : Nat) : QDec := ⟨.both, cost, .plain⟩

/-- A legal form where its conditions hold. -/
def legal (c : Bool) (d : QDec) : Option QDec := if c then some d else none

/-- ALU (R205). -/
def decAlu (x fn b : Nat) : Option QDec :=
  if fn ∈ [6, 7, 8] then legal (decide (x < 32 ∧ b = 0)) (.plain 1)
  else if fn ∈ [0x12, 0x13] then legal (decide (x = 0 ∧ b = 0)) (.plain 1)
  else legal (decide (fn ≤ 0x13 ∧ x = 0)) (.plain 1)

/-- MDS (R207). -/
def decMds (x fn b : Nat) : Option QDec :=
  if fn ≤ 3 then legal (x == 0) (.plain 1)
  else if fn ≤ 7 then legal (x == 0) (.plain 18)
  else legal (decide (fn ≤ 9 ∧ x = 0 ∧ b = 0)) (.plain 20)

/-- VALU (R211). -/
def decValu (d x fn a b : Nat) : Option QDec :=
  let v := decide (d < 16 ∧ a < 16)
  if fn ∈ [9, 0xA] then legal (v && decide (x < 32 ∧ b = 0)) (.plain 1)
  else if fn = 0xD then legal (v && decide (x = 0 ∧ b = 0)) (.plain 1)
  else legal (v && decide (fn ≤ 0xC ∧ x = 0 ∧ b < 16)) (.plain 1)

/-- VLN (R213). -/
def decVln (d x fn a b : Nat) : Option QDec :=
  legal (b == 0 && match fn with
    | 0 => decide (d < 16 ∧ x < 4)
    | 1 => decide (a < 16 ∧ x < 4)
    | 2 => decide (d < 16 ∧ x = 0)
    | 3 => decide (d < 16 ∧ a < 16 ∧ x = 0)
    | 4 => decide (a < 16 ∧ x = 0)
    | _ => false) (.plain 1)

/-- ACC (R214). -/
def decAcc (d x fn a b : Nat) : Option QDec :=
  legal (b == 0 && match fn with
    | 0 => decide (d < 8 ∧ a = 0 ∧ x = 0)
    | 1 | 3 | 4 => decide (d < 8 ∧ a < 8 ∧ x = 0)
    | 2 => decide (d < 8)
    | 5 => decide (a < 8)
    | 6 => decide (a < 8 ∧ x < 3)
    | 7 => decide (d < 8 ∧ x < 3)
    | _ => false) (.plain 1)

/-- SYS (R228). -/
def decSys (d x fn a b : Nat) : Option QDec :=
  let z := decide (x = 0 ∧ b = 0)
  match fn with
  | 0 => legal (z && decide (d = 0 ∧ a = 0)) (.plain 1)
  | 1 => legal (z && decide (d = 0 ∧ a = 0)) ⟨.both, 1, .endRun⟩
  | 2 | 3 => legal (z && decide (d = 0 ∧ a = 0)) ⟨.control, 1, .plain⟩
  | 4 => legal (decide (d = 0 ∧ a = 0 ∧ b = 0)) ⟨.control, 1, .plain⟩
  | 5 => legal (z && a == 0) (.plain 1)
  | 6 => legal (z && d == 0) (.plain 1)
  | _ => none

/-- A word in the three-register format (R185). -/
def decT (op d x fn a b : Nat) : Option QDec :=
  match op with
  | 0x01 => decAlu x fn b
  | 0x02 => decMds x fn b
  | 0x10 => decValu d x fn a b
  | 0x11 => legal (decide (d < 8 ∧ a < 16 ∧ b < 16 ∧ fn < 4)) (.plain 1)
  | 0x12 => decVln d x fn a b
  | 0x14 => decAcc d x fn a b
  | 0x15 => legal (decide (d < 8 ∧ fn < 4)) (.plain 1)
  | 0x23 => legal (decide (b = 0 ∧ x = 0 ∧ fn = 0)) ⟨.control, 1, .plain⟩
  | 0x30 => legal (decide (a < 8 ∧ b = 0 ∧ fn = 0)) ⟨.lane, 4, .jacc⟩
  | 0x31 => legal (decide (a = 0 ∧ b = 0 ∧ fn < 4) && leaseX x) ⟨.both, 1, .lease x⟩
  | 0x32 => legal (decide (x = 0 ∧ fn < 8)) ⟨.control, 1, .plain⟩
  | 0x33 => legal (decide (a < 16 ∧ b = 0 ∧ fn = 0 ∧ x = 0)) ⟨.both, 1, .cue⟩
  | 0x34 => legal (decide (d = 0 ∧ b = 0 ∧ fn = 0 ∧ x < 4)) ⟨.control, 80, .plain⟩
  | 0x35 => legal (decide (d = 0 ∧ b = 0 ∧ x = 0 ∧ fn < 2)) ⟨.both, 1, .bswap⟩
  | 0x39 => decSys d x fn a b
  | _ => none

/-- A word in the immediate format (R185, R209, R210, R218, R227). -/
def decI (op d imm a : Nat) : Option QDec :=
  match op with
  | 0x03 | 0x04 | 0x05 | 0x06 | 0x08 | 0x09 => some (.plain 1)
  | 0x07 => legal (a == 0) (.plain 1)
  | 0x0A => some (.plain 2)
  | 0x0B => some ⟨.both, 1, .store 1⟩
  | 0x0C => legal (decide (d < 16)) (.plain 2)
  | 0x0D => legal (decide (d < 16)) ⟨.both, 1, .store 4⟩
  | 0x22 => legal (a == 0) ⟨.control, 1, .plain⟩
  | 0x38 => legal (decide (imm < 256 ∧ field imm 5 1 = 0) && (field imm 6 2 != 0 || a == 0)) ⟨.control, 1, .plain⟩
  | _ => none

/-- A word in the stream format (R185, R190, R220). -/
def decS (op d ch strm : Nat) : Option QDec :=
  let n := if op = 0x2D then 4 else 1
  legal (decide (ch < 24 ∧ strm < 3) && (op == 0x2C || decide (d < 16)) && (op != 0x2D || decide (ch ≤ 20)))
    ⟨.lane, 2, .stream ch n strm⟩

/-- The instruction that a word spells, none where it is illegal (R185–R187). -/
def qdecode (w : Nat) : Option QDec :=
  let op := field w 26 6
  if op ∈ [0x03, 0x04, 0x05, 0x06, 0x07, 0x08, 0x09, 0x0A, 0x0B, 0x0C, 0x0D, 0x22, 0x38] then
    decI op (field w 21 5) (field w 5 16) (field w 0 5)
  else if op = 0x18 then
    legal (bitOf w 25 || field w 20 5 == 0) ⟨.both, 1, .loop (field w 8 12) (field w 0 8)⟩
  else if 0x1C ≤ op ∧ op ≤ 0x21 then some ⟨.both, 1, .branch (sextN 16 (field w 5 16))⟩
  else if op = 0x28 then some ⟨.both, 2, .unit (field w 13 8) false⟩
  else if 0x29 ≤ op ∧ op ≤ 0x2B then some ⟨.both, 1, .unit (field w 13 8) true⟩
  else if 0x2C ≤ op ∧ op ≤ 0x2E then decS op (field w 21 5) (field w 16 5) (field w 14 2)
  else decT op (field w 21 5) (field w 15 6) (field w 10 5) (field w 5 5) (field w 0 5)

/-- The instructions of a code section; none where a word is illegal. -/
def qdecodeAll (code : List Byte) : Option (List QDec) :=
  (List.range (code.length / 4)).mapM (fun i => qdecode (u32At code (4 * i)))

end Sys2Proof.Machine
end

