-- ==== Sys2Proof/Machine/Loader.lean ====
section
/-! DEFINITION. The loader: the checks of an image in the order of R237, the worst case of R242 and the limits of R243
(08_programs_and_lanes.md R231–R243). -/

namespace Sys2Proof.Machine

/-! ## Format (R232, R233, outcome 1) -/

/-- The staging area (R236). -/
def stagingBase : Nat := 0x10540000

/-- Its size. -/
def stagingSize : Nat := 0x40000

/-- A lane image. -/
def imgLane (i : List Byte) : Bool := decide (imgKind i ≤ 1)

/-- A descriptor is as R233 says. -/
def sectionOk (i : List Byte) (k : Nat) : Bool :=
  let x := imgSection i k
  decide (1 ≤ x.type ∧ x.type ≤ 5) && unAt i (65 + 16 * k) 3 == 0 && decide (x.offset + x.len ≤ i.length) &&
    decide (x.len % (if x.type = 4 then 16 else 4) = 0) && (decide (x.type ≠ 3 ∧ x.type ≠ 5) || x.addr == 0) &&
    (x.type != 4 || imgLane i) && (x.type != 5 || x.len == 64)

/-- How many sections of a type an image has. -/
def sectionCount (i : List Byte) (t : Nat) : Nat := ((imgSections i).filter (fun x => x.type == t)).length

/-- FLAGS, TARGET and PROGNO agree with KIND. -/
def targetOk (i : List Byte) : Bool :=
  let t := imgTarget i
  (match imgKind i with
   | 0 | 1 => (imgRoped i && t == 0x0F) || (!imgRoped i && decide (t ≤ 4))
   | 2 => !imgRoped i && t == 0xFF
   | 3 => !imgRoped i && decide (t ≤ 1)
   | _ => false) &&
  decide (imgProgno i ≤ 63) && (imgKind i == 2 || imgProgno i == 0)

/-- The format of an image of a given LENGTH. -/
def formatOk (i : List Byte) : Bool :=
  decide (80 ≤ i.length ∧ i.length ≤ stagingSize) && u32At i 0 == 0x31474E51 && u16At i 6 == 1 &&
    imgLength i == i.length && decide (1 ≤ imgNsect i ∧ imgNsect i ≤ 16) && decide (64 + 16 * imgNsect i ≤ i.length) &&
    (List.range (imgNsect i)).all (sectionOk i) && sectionCount i 1 == 1 && decide (sectionCount i 3 ≤ 1) &&
    sectionCount i 5 == ofB (imgVendor i) &&
    imgCheck i == crc32c (i.take 32 ++ zeros 4 ++ i.drop 36) &&
    byteAt i 5 / 4 == 0 && ((i.drop 36).take 28).all (fun b => b == 0) && targetOk i &&
    decide (imgEntry i % 4 = 0 ∧ imgEntry i < (imgCode i).len)

/-! ## The vendor signature (R233, outcome 12) -/

/-- The signature section, and the image without it, verify against the Isaoskyn key. -/
def vendorOk (i : List Byte) : Bool :=
  match (imgSections i).find? (fun x => x.type == 5) with
  | none => true
  | some x => Config.verify 0 (sha256 (i.take x.offset ++ i.drop (x.offset + x.len))) (imgBytes i x)

/-! ## Encoding and profile (outcome 2) -/

/-- An instruction is allowed in an image. -/
def profileOk (i : List Byte) (d : QDec) : Bool :=
  match d.profile with | .both => true | .lane => imgLane i | .control => !imgLane i

/-- The instructions of an image, empty where one is illegal. -/
def imgProg (i : List Byte) : List QDec := (qdecodeAll (imgBytes i (imgCode i))).getD []

/-- Every word decodes and belongs to the image's profile. -/
def encodingOk (i : List Byte) : Bool :=
  match qdecodeAll (imgBytes i (imgCode i)) with
  | none => false
  | some l => l.all (profileOk i)

/-! ## Structure (R182, R217, R228, outcome 3) -/

/-- The loop bodies of a program: first and last instruction. -/
def bodies (l : List QDec) : List (Nat × Nat) :=
  (List.range l.length).filterMap (fun k =>
    match (l[k]?).map QDec.kind with | some (.loop _ len) => some (k + 1, k + 1 + len) | _ => none)

/-- An instruction stands in a body. -/
def inBody (i : Nat) (b : Nat × Nat) : Bool := decide (b.1 ≤ i ∧ i ≤ b.2)

/-- The innermost body around an instruction. -/
def innermost (bs : List (Nat × Nat)) (i : Nat) : Option (Nat × Nat) := (bs.filter (inBody i)).getLast?

/-- The loops nest as R182 asks. -/
def loopsOk (bs : List (Nat × Nat)) (n : Nat) : Bool :=
  bs.all (fun b => decide (b.2 < n) &&
    bs.all (fun c => !(inBody (c.1 - 1) b) || decide (c.2 ≤ b.2))) &&
  (List.range n).all (fun i => decide ((bs.filter (inBody i)).length ≤ 3))

/-- A branch stays in its innermost body and in the image; a lane's goes forward. -/
def branchOk (lane : Bool) (bs : List (Nat × Nat)) (n i : Nat) (off : Int) : Bool :=
  let t := (i : Int) + off
  decide (0 ≤ t ∧ t < n) && (!lane || decide (1 ≤ off)) && innermost bs i == innermost bs t.toNat

/-- The structure of an image. -/
def structureOk (i : List Byte) : Bool :=
  let l := imgProg i
  let bs := bodies l
  let kind := fun (k : Nat) => (l[k]?).map QDec.kind
  loopsOk bs l.length &&
  (List.range l.length).all (fun k => match kind k with
    | some (.branch off) => branchOk (imgLane i) bs l.length k off
    | some .endRun => !imgLane i || (innermost bs k).isNone
    | _ => true) &&
  (!imgLane i || kind (l.length - 1) == some .endRun)

/-! ## Presence and declarations (outcomes 4 and 5) -/

/-- The units, channels and resources that instructions and declarations name are present (R9). -/
def presentOk (p : Part) (i : List Byte) : Bool :=
  (imgProg i).all (fun d => match d.kind with
    | .unit u _ => p.hasUnit u
    | .stream ch n _ => (List.range n).all (fun j => p.hasChan (ch + j))
    | .lease x => p.hasUnit (leaseUnit x)
    | _ => true) &&
  (imgDecls i).all (fun r => match byteAt r 0 with
    | 1 => p.hasUnit (byteAt r 1)
    | 2 => p.hasChan (byteAt r 1)
    | 3 => p.hasChan (byteAt r 1) && p.hasChan (byteAt r 2)
    | 4 => !leaseX (byteAt r 1) || p.hasUnit (leaseUnit (byteAt r 1))
    | _ => true)

/-- A record is well formed (R234). -/
def recordOk (r : List Byte) : Bool :=
  let rest := fun (k : Nat) => (r.drop k).all (fun b => b == 0)
  match byteAt r 0 with
  | 1 => (byteAt r 2 == 1 || byteAt r 2 == 2) && rest 3
  | 2 => decide (byteAt r 1 < 24 ∧ byteAt r 2 < 8) && rest 3
  | 3 => decide (byteAt r 1 < 24 ∧ byteAt r 2 < 24) && rest 3
  | 4 => leaseX (byteAt r 1) && rest 2
  | 5 => byteAt r 1 == 0 && decide (u16At r 2 + u16At r 4 ≤ 4096) && rest 6
  | _ => false

/-- An instruction of a lane image uses only what the image declares (R193, R220, R222). -/
def usesOk (i : List Byte) (d : QDec) : Bool :=
  match d.kind with
  | .unit u w => decide ((if w then 2 else 1) ≤ imgUnit i u)
  | .stream ch n strm => (List.range n).all (fun j => bitOf (imgChan i (ch + j)) strm)
  | .jacc => imgUnit i 0x20 == 2
  | .bswap => imgUnit i 0x18 == 2
  | .lease x => imgLease i x
  | _ => true

/-- The declarations of an image; RST is never declared for writing by a lane (R515). -/
def declsOk (i : List Byte) : Bool :=
  (imgDecls i).all recordOk && (!imgLane i || ((imgProg i).all (usesOk i) && imgUnit i 0x41 != 2))

/-! ## Pairing (R158, outcome 6) -/

/-- The channels of every declared pair have the same OPT and, in both banks, the same DRPSET. -/
def State.pairsOk (s : State) (i : List Byte) : Bool :=
  (imgPairs i).all (fun p =>
    s.get (FILT.CFG.OPT p.1) == s.get (FILT.CFG.OPT p.2) &&
    s.get (FILT.CHA.DRPSET p.1) == s.get (FILT.CHA.DRPSET p.2) &&
    s.get (FILT.CHB.DRPSET p.1) == s.get (FILT.CHB.DRPSET p.2))

/-! ## The worst case (R242) -/

/-- Keep the greater of what is known and a new length. -/
def better (l : List (Option Nat)) (i v : Nat) : List (Option Nat) :=
  l.set i (some (max v ((l.getD i none).getD 0)))

/-- The longest path from one instruction to another by a weight, loops to a depth: the value behind the last, and the
greatest at an END. -/
def longest (wt : QDec → Nat) (prog : List QDec) : Nat → Nat → Nat → Nat × Nat
  | 0, _, _ => (0, 0)
  | fuel + 1, first, last =>
    let r := ((List.range prog.length).filter (fun i => decide (first ≤ i ∧ i ≤ last))).foldl
      (fun (x : List (Option Nat) × Nat × Nat) i =>
        match x.1.getD i none, prog[i]? with
        | some v, some d =>
          if i < x.2.2 then x
          else match d.kind with
            | .loop cnt len =>
              let b := longest wt prog fuel (i + 1) (i + 1 + len)
              (better x.1 (i + 2 + len) (v + wt d + (cnt + 1) * b.1), x.2.1, i + 2 + len)
            | .branch off =>
              let t := ((i : Int) + off).toNat
              (better (better x.1 t (v + wt d)) (i + 1) (v + wt d), x.2.1, x.2.2)
            | .endRun => (x.1, max x.2.1 (v + wt d), x.2.2)
            | _ => (better x.1 (i + 1) (v + wt d), x.2.1, x.2.2)
        | _, _ => x)
      ((List.replicate (prog.length + 1) none).set first (some 0), 0, 0)
    ((r.1.getD (last + 1) none).getD 0, r.2.1)

/-- The worst case of an image by a weight. -/
def worst (wt : QDec → Nat) (i : List Byte) : Nat :=
  let l := imgProg i
  (longest wt l 4 (imgEntry i / 4) (l.length - 1)).2

/-- Cycles (R189). -/
def wtCost (d : QDec) : Nat := d.cost
/-- Unit writes Q. -/
def wtWrite (d : QDec) : Nat := match d.kind with | .unit _ true => 1 | .bswap => 1 | _ => 0
/-- Stored words M. -/
def wtStore (d : QDec) : Nat := match d.kind with | .store n => n | _ => 0
/-- Cue insertions C. -/
def wtCue (d : QDec) : Nat := match d.kind with | .cue => 1 | _ => 0

/-- Slice grains of a pitch image (R243). -/
def sliceGrains (i : List Byte) : Nat := ceilDiv (worst wtCost i) (imgSlice i - 19)

/-- The time limits of a set (R243, outcome 7). -/
def budgetOk (roped : Bool) (g p : Option (List Byte)) : Bool :=
  let wg := match g with | none => 0 | some i => worst wtCost i
  let sl := match p with | none => 0 | some i => imgSlice i
  decide (wg + sl ≤ (if roped then 2956 else 6016)) &&
    (match g with | none => true | some i => decide (wg ≤ imgDeclwc i)) &&
    (match p with
     | none => true
     | some i => decide (64 ≤ sl ∧ sliceGrains i ≤ 460 ∧ worst wtCost i ≤ imgDeclwc i))

/-- The counts of a set (R243, outcome 8). -/
def countsOk (roped : Bool) (g p : Option (List Byte)) : Bool :=
  let sum := fun (wt : QDec → Nat) =>
    (match g with | none => 0 | some i => worst wt i) + (match p with | none => 0 | some i => worst wt i)
  (!roped || decide (sum wtWrite ≤ 32 ∧ sum wtStore ≤ 512)) && decide (sum wtCue ≤ 8)

/-! ## Placement (R235, R236, outcome 9) -/

/-- Two ranges meet. -/
def meets (a n b m : Nat) : Bool := decide (a < b + m ∧ b < a + n)

/-- The code and data sections of an image. -/
def placed (i : List Byte) : List Section := (imgSections i).filter (fun x => x.type == 1 || x.type == 2)

/-- No two sections of a list meet. -/
def apart : List Section → Bool
  | [] => true
  | x :: l => l.all (fun y => !meets x.addr x.len y.addr y.len) && apart l

/-- The lane a target number names first: the pair's first member for 0x0F. -/
def State.targetLane (s : State) (t : Nat) : Fin 5 := Fin.ofNat 5 (if t = 0x0F then s.get LEASE.ROPE.FIRST else t)

/-- The images of a set in force that stay while one is installed for a target: those of every other lane; for a roped
image the roped set counts too (R235). -/
def State.otherImages (s : State) (target : Nat) : List (List Byte) :=
  (List.finRange 5).flatMap (fun (n : Fin 5) =>
    if target ≠ 0x0F ∧ n.val = target then [] else [(s.lane n).imgG, (s.lane n).imgP].filterMap id)

/-- The shared-table sections of an image leave the declared ranges of other sets alone. -/
def State.tablesOk (s : State) (i : List Byte) : Bool :=
  ((imgSections i).filter (fun x => x.type == 4)).all (fun x =>
    decide (x.addr + x.len ≤ 0x10000) &&
    (s.otherImages (imgTarget i)).all (fun o => (imgTables o).all (fun r => !meets x.addr x.len (16 * r.1) (16 * r.2))))

/-- The placement of a lane set. -/
def setPlaced (g p : Option (List Byte)) : Bool :=
  let all := ([g, p].filterMap id).flatMap placed
  let tables := ([g, p].filterMap id).flatMap (fun i => (imgSections i).filter (fun x => x.type == 4))
  let code := all.filter (fun x => x.type == 1)
  let gEnd := match g with | none => 0 | some i => (imgCode i).addr + (imgCode i).len
  (match g with | none => true | some i => (imgCode i).addr == 0) &&
  (match p with
   | none => true
   | some i =>
     let a := (imgCode i).addr
     if g.isNone then a == 0 else a % 16 == 0 && decide (gEnd ≤ a)) &&
  all.all (fun x => decide (x.addr + x.len ≤ 0x30000) &&
    (x.type == 1 || code.all (fun c => decide (c.addr + c.len ≤ x.addr)))) &&
  apart all && apart tables

/-- The INSTALL code of a control image (R525). -/
def progCode (i : List Byte) : Nat := if imgKind i = 2 then 0x10 + imgProgno i else 0x50 + imgTarget i

/-- A service program has neither ended nor been removed on core c: it runs, or waits for the service level (R241). -/
def State.serviceLive (s : State) (c : Fin 2) : Bool := (s.core c).run == .service || (s.core c).saved.isSome

/-- An installed program that an image replaces (R241): of its code, a service program only once it has ended. -/
def State.replaces (s : State) (i : List Byte) (code : Nat) : Bool :=
  code == progCode i && !(decide (0x50 ≤ code) && s.serviceLive (Fin.ofNat 2 (code - 0x50)))

/-- The placement of a control image (R236). -/
def State.controlPlaced (s : State) (i : List Byte) : Bool :=
  (placed i).all (fun x => decide (0x10400000 ≤ x.addr ∧ x.addr + x.len ≤ stagingBase) &&
    s.progs.all (fun e => s.replaces i e.1 || (placed e.2).all (fun y => !meets x.addr x.len y.addr y.len))) &&
  apart (placed i)

/-! ## Target (outcome 10) -/

/-- A lane set is on its way into a lane: ordered, or waiting for its first run (R239). -/
def State.installing (s : State) (t : Nat) : Bool :=
  s.laneOrders.any (fun o => o.target == t) || decide (s.clock.grain < (s.lane (s.targetLane t)).startAt)

/-- Cue program n runs or is queued on a core (R237, R254, R563). -/
def State.cueBusy (s : State) (n : Nat) : Bool :=
  s.cores.toList.any (fun c => c.run == .cueProg n || c.launch.contains n)

/-- The image's target can take it. -/
def State.targetFree (s : State) (i : List Byte) : Bool :=
  let t := imgTarget i
  match imgKind i with
  | 0 | 1 =>
    !s.installing t && (t == 0x0F || (bitOf (s.get SYS.LANE.INSVC) t && !s.inPair t))
  | 2 => !s.cueBusy (imgProgno i)
  | _ => true

/-! ## The outcome (R237) -/

/-- The image of the other kind already staged, or else installed, for the same lane. -/
def State.partnerImage (s : State) (i : List Byte) : Option (List Byte) :=
  match s.link.staged.reverse.find? (fun o =>
      imgLane o && imgTarget o == imgTarget i && imgKind o != imgKind i) with
  | some o => some o
  | none =>
    let l := s.lane (s.targetLane (imgTarget i))
    if imgKind i = 0 then l.imgP else l.imgG

/-- The set an image makes: grain and pitch program. -/
def State.setOf (s : State) (i : List Byte) : Option (List Byte) × Option (List Byte) :=
  if imgKind i = 0 then (some i, s.partnerImage i) else (s.partnerImage i, some i)

/-- The loader's outcome for an image (R237): the first check that fails. -/
def State.loadOutcome (s : State) (i : List Byte) : Nat :=
  if ¬ formatOk i then 1
  else if ¬ vendorOk i then 12
  else if ¬ encodingOk i then 2
  else if ¬ structureOk i then 3
  else if ¬ presentOk s.part i then 4
  else if ¬ declsOk i then 5
  else if ¬ s.pairsOk i then 6
  else
    let set := s.setOf i
    if imgLane i && !budgetOk (imgRoped i) set.1 set.2 then 7
    else if imgLane i && !countsOk (imgRoped i) set.1 set.2 then 8
    else if !(if imgLane i then setPlaced set.1 set.2 && s.tablesOk i else s.controlPlaced i) then 9
    else if ¬ s.targetFree i then 10
    else 0

/-- What the completing part's ACCEPT carries (R526): outcome, worst case, slice count, Q, M, C. -/
def loadReport (i : List Byte) : List Byte :=
  let v := if imgLane i then
      [worst wtCost i, if imgKind i = 1 then sliceGrains i else 0, worst wtWrite i, worst wtStore i, worst wtCue i]
    else [0, 0, 0, 0, 0]
  leBytes 4 0 ++ v.flatMap (leBytes 4)

end Sys2Proof.Machine
end

