-- ==== Sys2Proof/Machine/Power.lean ====
section
/-! DEFINITION. The end of permits, the supply-fail warning, decisions to reset, watchdogs, and the registers of PERMIT,
PWR and RST (18_power_states_and_reset.md R495–R499, R509–R515; 11_journal_and_cairn.md R345–R347). -/

namespace Sys2Proof.Machine

/-! ## The end of a permit (R499) -/

/-- What the holder's operation does when permit n ends (R330, R379, R441, R457). -/
def State.permitLost (s : State) (n : Nat) : State :=
  let s := if s.get CAPT.STATUS.STATE = 5 ∧ s.capt.permit = n then s.drawStop else s
  let s := match s.selfCal with
    | some c => if c.permit = n then s.selfCalAbort else s
    | none => s
  let has : Option TxFrame → Bool := fun f => match f with | none => false | some f => f.permit == some n
  let s := if has s.modem.tx || has s.modem.ack then s.txStop 4 else s
  s.glassPermitEnd n

/-- A granted permit ends: by release, or revoked and counted. -/
def State.permitEnd (s : State) (n : Nat) (counted : Bool) : State :=
  let s := if counted then (s.bump PERMIT.REVOKES.COUNT PERMIT.REVOKES.SAT).flag PERMIT.STATUS.REVOKED true else s
  ((s.freePermit n).permitLost n).arrive 0x36

/-- A write of PERMIT.REL by a processor's holder code: release, withdrawal, or RELREF. -/
def State.permitRelease (s : State) (who n : Nat) : State :=
  if s.get (PERMIT.SLOT.STATE n) ≠ 0 ∧ s.get (PERMIT.SLOT.HOLDER n) = who then s.permitEnd n false
  else s.flag PERMIT.STATUS.RELREF true

/-- PERMIT_EXPIRY: the hold of a granted permit has run out. -/
def execPermitExpiry (n : Fin 16) (s : State) : Host.Outcome State Fault Refusal :=
  .next (if s.power = .on ∧ s.get (PERMIT.SLOT.STATE n) = 2 ∧ s.get (PERMIT.REM.GRAINS n) = 0 then s.permitEnd n true else s)

/-- The holds of granted permits count down at a grain boundary. -/
def State.permitCount (s : State) : State :=
  s.pwr.grants.foldl (fun t n => t.set (PERMIT.REM.GRAINS n) (t.get (PERMIT.REM.GRAINS n) - 1)) s

/-- Revocation by budget at a block boundary. -/
def State.budgetRevoke (s : State) : State :=
  (s.toRevoke s.granted s.revokeOrder).foldl (fun t n => t.permitEnd n true) s

/-- The writes of PERMIT that do more than store: who is the writer's holder code. -/
def permitWrite (s : State) (who idx v : Nat) : Option State :=
  if idx = 0 then some (s.writeCells ((cellsOf regsPermit 3 0 0).getD []) v).budget
  else if idx = 5 then some (s.permitRelease who (v % 16))
  else none

/-! ## The supply-fail warning (R345, R495) -/

/-- The cell as measured in mV (R500: usable from 2.4 V). -/
def State.cellAt (s : State) (mv : Nat) : State := (s.set PWR.CELL.MV mv).flag PWR.STATE.CELLOK (decide (2400 ≤ mv))

/-- SUPPLY_FAIL_WARNING: the bulk voltage has been below THR for a grain; cell is VCELL in mV at that grain. -/
def execSupplyFailWarning (cell : BitVec 16) (s : State) : Host.Outcome State Fault Refusal :=
  .next (if s.power = .on ∧ s.clock.pllLock ∧ ¬ s.on PWR.STATE.SFW then
    let s := ((s.flag PWR.STATE.SFW true).arrive 0x3C).cellAt cell.toNat
    let s := s.flag PERMIT.STATUS.FROZEN true
    let s : State := { s with jrnl := { s.jrnl with cairnPend := none } }
    let s := (s.preempt.belayDue .final).modPwr (fun p => { p with warnAt := some s.clock.grain })
    let s := s.pqWarning.captWarning
    let s := (s.txStop 4).glassWarning
    if s.selfCal.isSome then s.selfCalAbort else s
  else s)

/-- CLOSING_SNAPSHOT: the next boundary is 64, 128, … grains after the final snapshot (R335). -/
def execClosingSnapshot (s : State) : Host.Outcome State Fault Refusal :=
  .next (match s.pwr.warnAt with
    | none => s
    | some w =>
      if s.power = .on ∧ w < s.clock.grain ∧ (s.clock.grain - w) % 64 = 0 then (s.belayDue .closing).preempt else s)

/-- SUPPLY_FAIL_CLEAR: the bulk voltage has held above THR + HYST for 64 grains (R346, R495). -/
def execSupplyFailClear (s : State) : Host.Outcome State Fault Refusal :=
  .next (if s.power = .on ∧ s.on PWR.STATE.SFW then
    let s := ((s.flag PWR.STATE.SFW false).flag PERMIT.STATUS.FROZEN false).arrive 0x3D
    (s.modPwr (fun p => { p with warnAt := none })).pqClear
  else s)

/-! ## Decisions to reset (R347, R509, R510) -/

/-- ZEROIZE_RESET: a zeroize performed in RUN or BASE CAMP is followed by a reset (R509). -/
def execZeroizeReset (s : State) : Host.Outcome State Fault Refusal :=
  .next (if s.power = .on ∧ s.tamp.zeroized then (s.modTamp (fun t => { t with zeroized := false })).decideReset 0x0A else s)

/-- TEST_PORT_RESET: the test port's module-reset instruction (R509). -/
def execTestPortReset (s : State) : Host.Outcome State Fault Refusal :=
  .next (if s.power = .on then s.decideReset 0x0B else s)

/-- CORE cycles of a millisecond. -/
def msCycles : Nat := 204800

/-- Cycles left of a watchdog's period. -/
def State.wdLeft (s : State) (c : Fin 2) : Nat :=
  s.pwr.served[c] + s.get (RST.WDCFG.PERIOD c) * msCycles - s.clock.now

/-- A core serves its watchdog. -/
def State.wdServe (s : State) (c : Fin 2) : State :=
  s.modPwr (fun p => { p with served := p.served.set c s.clock.now, warned := p.warned.set c false })

/-- WATCHDOG_WARN: WARN ms of the period remain. -/
def execWatchdogWarn (c : Fin 2) (s : State) : Host.Outcome State Fault Refusal :=
  .next (if s.power = .on ∧ ¬ s.pwr.warned[c] ∧ s.wdLeft c ≤ s.get (RST.WDCFG.WARN c) * msCycles then
    (s.arrivePrivate c 9).modPwr (fun p => { p with warned := p.warned.set c true }) else s)

/-- WATCHDOG_EXPIRY: fault 0x20, then a reset of kind 5; a module that already resets is not asked again. -/
def execWatchdogExpiry (c : Fin 2) (s : State) : Host.Outcome State Fault Refusal :=
  .next (if s.power = .on ∧ s.pwr.reset.isNone ∧ s.wdLeft c = 0 then (s.supervisorFault 0x20 0xFF).decideReset 5 else s)

/-! ## The registers of PWR and RST (R514, R515) -/

/-- The ferroelectric store works: a state record, a carry or a trim slot is being written, ring records are being
appended, or a word is being fetched (R39, R339, R370). -/
def State.cairnBusy (s : State) : Bool :=
  s.cairnWriting || s.jrnl.carryPend.isSome || s.portBusy || decide (s.clock.now < s.readAt)

/-- The domains powered (R39): a core that reads has MAIN and SENTRY. -/
def State.domains (s : State) : Nat :=
  let run := !s.baseCamp
  bitsOf 7 (fun i => match i with
    | 0 | 1 | 2 => true
    | 3 => run && s.part.optL && s.get (LEASE.HOLD.STATE 3) != 0
    | 4 => run && s.part.optG
    | 5 => s.cairnBusy
    | _ => run && s.part.big)

/-- The views of PWR. -/
def pwrView (s : State) (idx : Nat) : Option Nat := if idx = 5 then some s.domains else none

/-- The views of RST: WDREMc in ms; how a part of one is rounded is open (log entry 14). -/
def rstView (s : State) (idx : Nat) : Option Nat :=
  if idx = 8 then some (Config.round (s.wdLeft 0) msCycles).toNat
  else if idx = 9 then some (Config.round (s.wdLeft 1) msCycles).toNat
  else none

/-- WARN at or above PERIOD is stored as PERIOD − 1. -/
def State.wdConfig (s : State) (c : Fin 2) (v : Nat) : State :=
  let period := if v % 2 ^ 16 = 0 then 1 else v % 2 ^ 16
  (s.set (RST.WDCFG.PERIOD c) period).set (RST.WDCFG.WARN c) (min (v / 2 ^ 16) (period - 1))

/-- The writes of RST, by control cores alone: CMD asks for a reset, WDSERVEc serves its own core. -/
def rstWrite (s : State) (p : Proc) (idx v : Nat) : Option State :=
  match p with
  | .lane _ => some s
  | .cc c =>
    if idx = 2 then some (if v % 256 = 0xC3 then s.decideReset 7 else s)
    else if idx = 4 then some (s.wdConfig 0 v)
    else if idx = 5 then some (s.wdConfig 1 v)
    else if idx = 6 ∨ idx = 7 then some (if idx = 6 + c.val ∧ v % 256 = 0x5A then s.wdServe c else s)
    else none

end Sys2Proof.Machine
end

