-- ==== Sys2Proof/Machine/Lanes.lean ====
section
/-! DEFINITION. Programs: starts and ends of runs, JACC, the dispatcher of the control cores, installing and removing, the
standby's mirror and rebuild, the retirement of lanes (08_programs_and_lanes.md R230–R254, R563; R221, R228). -/

namespace Sys2Proof.Machine

/-! ## Runs of a lane (R230, R244) -/

/-- A lane has a set in place: its code region is protected from the end of the copy on (R235, R239). -/
def Lane.ready (l : Lane) : Bool := (l.imgG.isSome || l.imgP.isSome) && l.prot != []

/-- The grain's runs begin (R175, R244): the grain program at its ENTRY with `fl` clear and a snapshot, or the slice. -/
def Lane.beginGrain (l : Lane) (grain : Nat) : Lane :=
  let l := { l with ranAt := grain + 1 }
  match l.imgG with
  | none => l.beginSlice
  | some i =>
    let c : Context := ⟨{ l.g.bank with fl := 0 }, imgStart i, []⟩
    { l with cur := some .grain, sig := [], g := c, snapG := c }

/-- A lane runs its set in this grain: in service, past the install, not the standby unless it runs alone; the pair not
while the standby does (R239, R240, R247). -/
def State.laneDue (s : State) (n : Fin 5) : Bool :=
  let l := s.lane n
  bitOf (s.get SYS.LANE.INSVC) n && l.ready && decide (l.startAt ≤ s.clock.grain) && l.ranAt != s.clock.grain + 1 &&
    l.cur.isNone &&
    (if s.get SYS.LANE.STBY = n.val then s.on LEASE.ROPE.SOLO else !(s.inPair n && s.on LEASE.ROPE.SOLO))

/-- The grain goes on to a phase it has not reached. -/
def State.toPhase (s : State) (ph : Nat) : State :=
  if s.clock.phase < ph then
    let t := s.elapse (ph - s.clock.phase)
    { t with clock := { t.clock with phase := ph } }
  else s

/-- The first phase of the lane window (R69): it holds 6016 cycles and ends with the grain, whatever that one's length. -/
def State.laneOpens (s : State) : Nat := s.clock.glen - 6016

/-- A lane's local memory in the control-core view. -/
def laneBase (n : Nat) : Nat := 0x10580000 + n * 0x30000

/-- The standby applies the selected store log and contexts of the previous grain to its mirror, from the opening of the
lane window on (R247). -/
def State.mirrorTakes (s : State) : State :=
  match s.rope.mirror with
  | none => s
  | some u =>
    let t : State := u.log.foldl (fun (t : State) e => t.setWord (laneBase u.lane + e.1) e.2) s
    let n := Fin.ofNat 5 u.lane
    let t : State := match u.ctx with
      | none => t
      | some x => t.setLane n { t.lane n with g := x[0], p := x[1], snapG := x[2], snapP := x[3] }
    { t with rope := { t.rope with mirror := none } }

/-- GRAIN_PROGRAM_START (R230, R69): as the lane window opens, at phase 384 of a plain grain, a lane starts its grain
program, or a slice where it has none. -/
def execGrainProgramStart (n : Fin 5) (s : State) : Host.Outcome State Fault Refusal :=
  .next (if s.power = .on ∧ s.clock.pllLock ∧ s.laneDue n then
    let t := (s.toPhase s.laneOpens).mirrorTakes
    t.setLane n ((t.lane n).beginGrain s.clock.grain)
  else s)

/-- The pending increments of the run that ends. -/
def Lane.runIncs (l : Lane) : List Inc := if l.cur = some .pitch then l.pitchIncs else l.incs

/-- A run that ends with END (R216, R228, R244): its outputs go to the grain, the loop stack is empty, a grain program's
end begins the slice. The increments are handed over apart. -/
def Lane.endRun (l : Lane) : Lane :=
  match l.cur with
  | some .pitch =>
    { (l.noteRun .pitch l.p.pc none).flush with
      p := { l.p with loops := [] }, pitchIncs := [], cur := none, pitchOn := false }
  | _ => ({ (l.noteRun .grain l.g.pc none).flush with g := { l.g with loops := [] }, incs := [], cur := none }).beginSlice

/-- END on a lane: L2–L4 hand their increments to NRG, the pair keeps them for the comparison (R221). -/
def State.laneEnd (s : State) (n : Fin 5) : State :=
  let incs := (s.lane n).runIncs
  let t := s.setLane n (s.lane n).endRun
  if s.roped n then (t.setLane n { t.lane n with outIncs := (t.lane n).outIncs ++ [incs] }).pairCompare n
  else t.bookIncs n false incs

/-! ## JACC (R221) -/

/-- The increment joins those of the run. -/
def Lane.addInc (l : Lane) (i : Inc) : Lane :=
  if l.cur = some .pitch then { l with pitchIncs := l.pitchIncs ++ [i] } else { l with incs := l.incs ++ [i] }

/-- JACC: status 1 where the slot is not bound, 2 where it is bound to another, 0 where the increment is taken. -/
def execJacc (p : Proc) (d : Fin 32) (a : Fin 8) (x : Fin 64) (s : State) : Host.Outcome State Fault Refusal :=
  .next (s.instr p 4 (fun s r =>
    match p with
    | .cc _ => .error (trapCode 0x02)
    | .lane n =>
      if s.slotOwner x = 0xF then .ok ⟨r.setS d 1, s, none, s.loopsOf p⟩
      else if s.slotOwner x ≠ s.ownerCode n then .ok ⟨r.setS d 2, s, none, s.loopsOf p⟩
      else
        let i : Inc := ⟨x, (r.ar a).toInt, r.fl.getLsbD flMRK, r.fl.getLsbD flINV⟩
        let r' := { r with sig := r.sig ++ [SigItem.jacc x (r.ar a).toNat i.mrk i.inv] }
        .ok ⟨(r'.setA a 0).setS d 0, s.setLane n ((s.lane n).addInc i), none, s.loopsOf p⟩))

/-! ## The control cores (R241, R253, R254) -/

/-- An installed control program by its INSTALL code. -/
def State.prog (s : State) (code : Nat) : Option (List Byte) := (s.progs.find? (fun e => e.1 == code)).map Prod.snd

/-- A cue program starts with its registers at zero, s1 the low word of the grain, s2 its number (R253). -/
def State.startCue (s : State) (c : Fin 2) (n : Nat) : State :=
  let b : Bank := { Bank.zero with s := (Bank.zero.s.set 1 (BitVec.ofNat 32 s.clock.grain)).set 2 (BitVec.ofNat 32 n) }
  let pc := match s.prog (0x10 + n) with | none => 0 | some i => imgStart i
  s.setCore c { s.core c with
    bank := b, shadow := Vector.replicate 16 0, pc := pc, loopsBase := [], run := .cueProg n, waiting := false }

/-- CUE_PROGRAM_START (R253): the service program is saved, the first queued cue program starts. -/
def execCueProgramStart (c : Fin 2) (s : State) : Host.Outcome State Fault Refusal :=
  .next (match (s.core c).launch with
    | [] => s
    | n :: rest =>
      let k := s.core c
      let busy : Bool := match k.run with | .cueProg _ => true | _ => false
      if s.power = .on ∧ ¬ k.halted ∧ ¬ s.inHandler c ∧ ¬ busy then
        let sv : Option SavedRun := if k.run = .service then some ⟨k.bank, k.shadow, k.pc, k.loopsBase, k.waiting⟩ else none
        (s.setCore c { k with saved := sv, launch := rest }).startCue c n
      else s)

/-- END of a program on a core (R228, R253): the next queued cue program, the saved service program, or a new one; a core
with nothing to run executes WAIT. -/
def State.coreEnd (s : State) (c : Fin 2) : State :=
  let k := s.core c
  match k.run with
  | .cueProg _ =>
    (match k.launch with
     | n :: rest => (s.setCore c { k with launch := rest }).startCue c n
     | [] =>
       match k.saved with
       | some r =>
         s.setCore c { k with
           bank := r.bank, shadow := r.shadow, pc := r.pc, loopsBase := r.loops, waiting := r.waiting, run := .service
           saved := none }
       | none => (s.setCore c { k with run := .idle, loopsBase := [], waiting := true }).svcNext c)
  | _ => (s.setCore c { k with run := .idle, loopsBase := [], waiting := true }).svcNext c

/-- The boot ROM's own routine runs on core c: no service program has taken over yet (R510). -/
def State.bootCore (s : State) (c : Fin 2) : Bool :=
  (s.prog (0x50 + c)).isNone && ((s.core c).run == .service || (s.core c).saved.isSome)

/-- The boot ROM serves the watchdogs of the cores it runs on (R510): at every grain boundary (log entry 57). -/
def State.bootServe (s : State) : State :=
  (List.finRange 2).foldl (fun (t : State) (c : Fin 2) => if t.bootCore c then t.wdServe c else t) s

/-- END (R228): on a core fault 0x02 in a handler. -/
def execEndRun (p : Proc) (s : State) : Host.Outcome State Fault Refusal :=
  .next (if s.runs p then
    if s.sliceOver p 1 then s.suspend p
    else match p with
      | .lane n => s.laneEnd n
      | .cc c => if s.inHandler c then s.trap p (trapCode 0x02) else s.coreEnd c
  else s)

/-- A LAUNCH at its dispatch (R254): the state, and whether the queue took it. -/
def State.launch (s : State) (core n : Nat) : Bool × State :=
  let busy := fun (c : Fin 2) => (s.core c).launch != [] || (match (s.core c).run with | .cueProg _ => true | _ => false)
  let len := fun (c : Fin 2) => (s.core c).launch.length
  let c : Fin 2 := if core = 0 then 0 else if core = 1 then 1
    else if !busy 0 then 0 else if !busy 1 then 1 else if len 0 ≤ len 1 then 0 else 1
  if (s.prog (0x10 + n)).isNone ∨ 8 ≤ len c then (false, s)
  else (true, s.setCore c { s.core c with launch := (s.core c).launch ++ [n] })

/-- The sections of an image are written where they load: code and data at an offset, tables in shared table memory
(R233, R235). -/
def State.copySections (s : State) (base : Nat) (i : List Byte) : State :=
  (imgSections i).foldl (fun t x =>
    if x.type = 1 ∨ x.type = 2 then t.setBytes (base + x.addr) (imgBytes i x)
    else if x.type = 4 then t.setBytes (0x10670000 + x.addr) (imgBytes i x) else t) s

/-- An installed image is measured (R238): MEAS1 for a vendor image, MEAS2 for a lane image, MEAS3 for the rest. -/
def State.measure (s : State) (i : List Byte) : State :=
  s.extend (if imgVendor i then 1 else if imgLane i then 2 else 3) (sha256 i)

/-- A control program is copied, measured and made runnable (R241). -/
def State.installProg (s : State) (i : List Byte) : State :=
  let code := progCode i
  let s := (s.copySections 0 i).measure i
  let had := (s.prog code).isSome
  let s : State := { s with progs := s.progs.filter (fun e => e.1 != code) ++ [(code, i)] }
  if imgKind i = 3 then
    let c : Fin 2 := Fin.ofNat 2 (imgTarget i)
    let k := { s.core c with newSvc := some (imgStart i) }
    -- the boot ROM's own routine gives way; an installed service program runs to its END or removal
    let k := if had then k
      else match k.run with
        | .service => { k with run := .idle }
        | .cueProg _ => { k with saved := none }
        | .idle => k
    (s.setCore c k).svcNext c
  else s

/-- The service program of a core stops, running or saved (R563). -/
def CoreSt.stopService (k : CoreSt) : CoreSt :=
  match k.run with
  | .service => { k with run := .idle, loopsBase := [], waiting := true }
  | _ => { k with saved := none }

/-- A control program is removed (R563). Where a new service program waits for the one that runs, that one is removed and
the new one starts in its place (R241). -/
def State.removeProg (s : State) (code : Nat) : State :=
  let c : Fin 2 := Fin.ofNat 2 (code - 0x50)
  let gone : State := { s with progs := s.progs.filter (fun e => e.1 != code) }
  if code < 0x50 then gone
  else if (s.core c).newSvc.isSome ∧ s.serviceLive c then (s.setCore c (s.core c).stopService).svcNext c
  else gone.setCore c { (gone.core c).stopService with newSvc := none }

/-! ## Lane sets at a grain boundary (R239, R240, R563) -/

/-- A lane stops and is cleared: memory, contexts, protection; it takes a set that runs from a grain on, or none. -/
def State.clearLane (s : State) (n : Fin 5) (images : Option (Option (List Byte) × Option (List Byte))) (start : Nat) : State :=
  (s.clearMem (laneBase n) 0x30000).setLane n (match images with
    | none => Lane.zero
    | some (g, p) => { Lane.zero with imgG := g, imgP := p, startAt := start })

/-- The members of the pair. -/
def State.pairLanes (s : State) : List (Fin 5) :=
  [Fin.ofNat 5 (s.get LEASE.ROPE.FIRST), Fin.ofNat 5 (s.get LEASE.ROPE.SECOND)]

/-- The standby leaves its role. -/
def State.noStandby (s : State) : State :=
  let s := ((s.set SYS.LANE.STBY 7).flag LEASE.ROPE.NOSTBY true).flag LEASE.ROPE.REBUILD false
  { s with rope := { s.rope with copyAt := none, takeAt := none, mirror := none } }

/-- The roles of R246: the first two lanes in service of L0, L1, L4 and the third. -/
def State.setRoles (s : State) : State :=
  let l := [0, 1, 4].filter (fun n => bitOf (s.get SYS.LANE.INSVC) n)
  let s := (s.set LEASE.ROPE.FIRST (l.getD 0 0)).set LEASE.ROPE.SECOND (l.getD 1 1)
  ((s.set SYS.LANE.STBY (l.getD 2 7)).flag LEASE.ROPE.NOSTBY (decide (l.length < 3))).flag LEASE.ROPE.REBUILD false

/-- A standby that can vote. -/
def State.standby (s : State) : Option (Fin 5) :=
  let n := s.get SYS.LANE.STBY
  if h : n < 5 then (if s.on LEASE.ROPE.NOSTBY then none else some ⟨n, h⟩) else none

/-- The roped set is installed at boundary I (R240): the standby runs the old set alone to I + 3; without a standby the
pair runs nothing in these grains. -/
def State.installRoped (s : State) (images : Option (List Byte) × Option (List Byte)) : State :=
  let g := s.clock.grain
  let sb := s.standby
  let t := s.pairLanes.foldl (fun (t : State) n => t.clearLane n (some images) (g + 4)) s
  let t := match sb with
    | some _ => ((t.flag LEASE.ROPE.SOLO true).flag LEASE.ROPE.REBUILD true).flag LEASE.ROPE.NOSTBY true
    | none => t.stageGap g (g + 4) 4 0 t.jrnl.epoch
  if t.get SYS.LANE.STBY < 5 then
    { t with rope := { t.rope with soloEnd := some (g + 4), takeAt := some (g + 8), copyAt := some (g + 8) } }
  else t

/-- RUN ends without a restart (R501, R563): the PQ engine turns to base camp's settings, and MODEM and GLASS lose their
power (R39, R321). -/
def State.leaveRun (s : State) : State :=
  if s.baseCamp then s else ((s.txStop 4).pqBaseCamp.set PWR.STATE.STATE 1).glassCut

/-- The roped set is removed (R563): base camp runs in the roles of R246, and every lane that takes one is cleared; the pitch
whose stream is current is booked where the removed set had not ended its work on it. -/
def State.removeRoped (s : State) : State :=
  let l := s.lane (Fin.ofNat 5 (s.get LEASE.ROPE.FIRST))
  let owed := l.pitchDue || l.pitchOn
  let t := ([0, 1, 4] : List (Fin 5)).foldl (fun (t : State) n => t.clearLane n none 0) s
  let t : State := { t with rope := { Rope.zero with lostAt := s.rope.lostAt } }
  let t := (t.flag LEASE.ROPE.SOLO false).setRoles.leaveRun.flag NRG.BCSTAT.BCRUN true
  if owed then t.baseCampPitch else t

/-- One order on a lane set takes effect. -/
def State.laneOrder (s : State) (o : LaneOrder) : State :=
  if o.target = 0x0F then (match o.images with | some im => s.installRoped im | none => s.removeRoped)
  else
    let s := if s.get SYS.LANE.STBY = o.target then s.noStandby else s
    s.clearLane (Fin.ofNat 5 o.target) o.images (s.clock.grain + 4)

/-- The standby begins to take the new roped image (R240): it clears itself at I + 4. -/
def State.soloEnds (s : State) : State :=
  if s.rope.soloEnd = some s.clock.grain then
    let n := s.get SYS.LANE.STBY
    let s := if n < 5 then s.clearLane (Fin.ofNat 5 n) none 0 else s
    let s := ((s.flag LEASE.ROPE.SOLO false).flag LEASE.ROPE.REBUILD true).flag LEASE.ROPE.NOSTBY true
    { s with rope := { s.rope with soloEnd := none } }
  else s

/-- The code ranges of a set, in lane addresses (R235). -/
def codeRanges (g p : Option (List Byte)) : List (Nat × Nat) :=
  ([g, p].filterMap id).map (fun i => ((imgCode i).addr, (imgCode i).addr + (imgCode i).len))

/-- The sections of a set stand in lane n and its code is protected. -/
def State.placeSet (s : State) (n : Fin 5) (g p : Option (List Byte)) : State :=
  let t := ([g, p].filterMap id).foldl (fun (t : State) i => t.copySections (laneBase n) i) s
  t.setLane n { t.lane n with imgG := g, imgP := p, prot := codeRanges g p }

/-- The new roped image stands in the standby (R240). -/
def State.standbyTakes (s : State) : State :=
  if s.rope.takeAt = some s.clock.grain ∧ s.get SYS.LANE.STBY < 5 then
    let a := s.lane (Fin.ofNat 5 (s.get LEASE.ROPE.FIRST))
    let t := s.placeSet (Fin.ofNat 5 (s.get SYS.LANE.STBY)) a.imgG a.imgP
    { t with rope := { t.rope with takeAt := none } }
  else s

/-- The copy of the first member's memory, 64 words in a grain (R251). -/
def State.mirrorCopy (s : State) : State :=
  match s.rope.copyAt with
  | none => s
  | some c =>
    if c ≤ s.clock.grain ∧ s.clock.grain < c + 768 ∧ s.get SYS.LANE.STBY < 5 then
      let o := 256 * (s.clock.grain - c)
      s.setBytes (laneBase (s.get SYS.LANE.STBY) + o) (s.bytes (laneBase (s.get LEASE.ROPE.FIRST) + o) 256)
    else s

/-- Base camp hands over at the grain of the roped set's first run (R556). -/
def State.baseCampEnds (s : State) : State :=
  let l := s.lane (Fin.ofNat 5 (s.get LEASE.ROPE.FIRST))
  if s.on NRG.BCSTAT.BCRUN ∧ (l.imgG.isSome ∨ l.imgP.isSome) ∧ l.startAt ≤ s.clock.grain then
    s.flag NRG.BCSTAT.BCRUN false
  else s

/-- What a grain boundary does to lane sets. -/
def State.lanesBoundary (s : State) : State :=
  let s := s.soloEnds.standbyTakes
  let orders := s.laneOrders
  (orders.foldl State.laneOrder { s with laneOrders := [] }).baseCampEnds.mirrorCopy

/-- INSTALL_SECTIONS_DONE (R239): in grain I + 4 the sections stand in the lane, the code is protected, the images are
measured (R238), once for the pair. -/
def execInstallSectionsDone (n : Fin 5) (s : State) : Host.Outcome State Fault Refusal :=
  let l := s.lane n
  .next (if s.power = .on ∧ (l.imgG.isSome ∨ l.imgP.isSome) ∧ l.prot = [] ∧ 0 < l.startAt ∧ l.startAt ≤ s.clock.grain then
    let t := s.placeSet n l.imgG l.imgP
    if s.get LEASE.ROPE.SECOND = n.val then t else ([l.imgG, l.imgP].filterMap id).foldl State.measure t
  else s)

/-! ## The standby (R247, R249–R251) -/

/-- The pair's runs of this grain differ (R248). -/
def State.pairDisagrees (s : State) : Bool :=
  let a := (s.lane (Fin.ofNat 5 (s.get LEASE.ROPE.FIRST))).runs
  let b := (s.lane (Fin.ofNat 5 (s.get LEASE.ROPE.SECOND))).runs
  a.length != b.length || (a.zip b).any (fun x => !x.1.same x.2)

/-- STANDBY_RECOMPUTE (R247): at phase 3340 of a grain in which a run disagreed. -/
def execStandbyRecompute (s : State) : Host.Outcome State Fault Refusal :=
  .next (match s.standby with
    | none => s
    | some n =>
      if s.power = .on ∧ s.clock.pllLock ∧ s.pairDisagrees ∧ ¬ s.rope.recomputing ∧ ¬ s.on LEASE.ROPE.SOLO ∧
          (s.lane n).ready then
        let t := (s.toPhase 3340).mirrorTakes
        let t : State := { t with rope := { t.rope with recomputing := true } }
        t.setLane n ((t.lane n).beginGrain s.clock.grain)
      else s)

/-- STANDBY_REBUILD_END (R251): 768 grains of copying are over. -/
def execStandbyRebuildEnd (s : State) : Host.Outcome State Fault Refusal :=
  .next (match s.rope.copyAt with
    | none => s
    | some c =>
      if s.power = .on ∧ c + 768 ≤ s.clock.grain then
        let t := (s.flag LEASE.ROPE.REBUILD false).flag LEASE.ROPE.NOSTBY false
        { t with rope := { t.rope with copyAt := none } }
      else s)

/-! ## The retirement of a lane (R252) -/

/-- A lane's retirement is decided or under way. -/
def State.retiringLane (s : State) (n : Nat) : Bool :=
  s.retiring.contains (.lane n) || s.second.any (fun d => d.what == .retire (.lane n))

/-- The decision to retire a lane, taken twice. -/
def State.retireLane (s : State) (n : Nat) : State :=
  if bitOf (s.get SYS.LANE.INSVC) n ∧ ¬ s.retiringLane n then s.decideFirst (.retire (.lane n)) else s

/-- LANE_SELFTEST_FAIL (R252). -/
def execLaneSelftestFail (n : Fin 5) (s : State) : Host.Outcome State Fault Refusal :=
  .next (if s.power = .on then s.retireLane n else s)

/-- LANE_RETIRE_COMMIT (R252): INSVC committed, record, fault 0x23, source 0x39, leases revoked; the lane stops. -/
def execLaneRetireCommit (s : State) : Host.Outcome State Fault Refusal :=
  .next (if s.power = .on ∧ ¬ s.portHeld then
    match s.retiring.findSome? (fun w => match w with | .lane n => some n | _ => none) with
    | none => s
    | some n =>
      let t := ((s.commitRetire (.lane n)).supervisorFault 0x23 0xFF).arrive 0x39
      let t := t.revokeLane n
      let t := if t.get SYS.LANE.STBY = n then t.noStandby else t
      let t := if t.inPair n then t else t.setLane (Fin.ofNat 5 n) Lane.zero
      ({ t with retiring := t.retiring.erase (.lane n) } : State).supervisorDone
  else s)

end Sys2Proof.Machine
end

