-- ==== Sys2Proof/Machine/Bus.lean ====
section
/-! DEFINITION. The unit registers as processors reach them: views, reads, writes, guards, the four unit instructions, the
commands that are one access to a register, and the special instructions PERMIT, CUE, MEXT and BSWAP (R8, R16, R33, R40,
R71, R191–R195, R219, R223–R226, R562). -/

namespace Sys2Proof.Machine

/-! ## What is there (R8, R33) -/

/-- A register index its unit defines on the part (R33, R259). -/
def State.busDefined (s : State) (u idx : Nat) : Bool := s.part.defines u idx

/-! ## Reads (R16, R40, R71) -/

/-- The views of SYS: identity and inventory (R40). -/
def sysView (s : State) (idx : Nat) : Option Nat :=
  let p := s.part
  if idx = 0 then some (0x4D530000 + 256 * (if p.big then 0x24 else 0x12) + p.stepping % 256)
  else if idx = 1 then some (2 * ofB p.optG + ofB p.optL)
  else if idx = 2 then some (p.serialLo % 2 ^ 32)
  else if idx = 3 then some (p.serialHi % 2 ^ 32)
  else if 4 ≤ idx ∧ idx < 8 then some (bitsOf 32 (fun k => p.hasUnit (32 * (idx - 4) + k)))
  else if idx = 8 then some (2 ^ 24 * ofB p.optL + bitsOf 24 p.hasChan)
  else if idx = 9 then some (bitsOf 4 p.hasQuad)
  else if idx = 0x0B then some (p.romver % 2 ^ 16)
  else none

/-- A register whose value is formed when it is read; b is the reader's copy of the private registers. -/
def State.unitView (s : State) (b u idx : Nat) : Option Nat :=
  if u = 0x00 then sysView s idx else if u = 0x01 then timeView s idx else if u = 0x03 then permitView s idx
  else if 0x10 ≤ u ∧ u < 0x14 then quadView s (Fin.ofNat 4 (u - 0x10)) idx
  else if u = 0x04 then leaseView s idx else if u = 0x08 then irqView s b idx else if u = 0x18 then filtView s idx
  else if u = 0x19 then rsmpView s idx else if u = 0x20 then nrgView s b idx else if u = 0x24 then pqView s idx
  else if u = 0x28 then jrnlView s idx else if u = 0x29 then cairnView s idx else if u = 0x2C then trimView s idx
  else if u = 0x38 then glassView s b idx else if u = 0x3C then tampView s b idx
  else if u = 0x3D then accessView s b idx else if u = 0x40 then pwrView s idx else if u = 0x41 then rstView s idx
  else if u = 0x48 then hostView s b idx else none

/-- The bank of a register for a copy: window registers by the selection, private registers by the processor (R562). -/
def State.regBank (s : State) (b u idx : Nat) : Nat :=
  if u = 0x08 then irqRegBank s b idx else if u = 0x20 then nrgRegBank s b idx else if u = 0x2C then trimRegBank s idx
  else if u = 0x38 then glassRegBank b idx else if u = 0x3C then tampRegBank s b idx
  else if u = 0x3D then accessRegBank b idx else if u = 0x48 then hostRegBank b idx else 0

/-- The cells of a register for a copy. -/
def State.busCells (s : State) (b u idx : Nat) : List Cell := (cellsOf (tableOf u) u idx (s.regBank b u idx)).getD []

/-- The value of a register, without the effects of reading it. -/
def State.peek (s : State) (b u idx : Nat) : Nat :=
  ((s.unitView b u idx).getD (s.readCells (s.busCells b u idx))) % 2 ^ 32

/-- The high word that the read of a low word latches (R71). -/
def State.latch (s : State) (b u idx : Nat) : State :=
  if u = 0x01 then timeLatch s idx else if u = 0x20 then nrgLatch s b idx else if u = 0x28 then jrnlLatch s idx else s

/-- What a read does besides: a window advances, a result is taken. -/
def State.afterRead (s : State) (b u idx : Nat) : State :=
  if u = 0x18 then filtAfterRead s idx else if u = 0x29 then cairnAfterRead s idx
  else if u = 0x2C then trimAfterRead s idx else if u = 0x30 then auxAfterRead s idx
  else if u = 0x38 then glassAfterRead s idx else if u = 0x3D then accessAfterRead s b idx
  else if u = 0x48 then hostAfterRead s b idx else s

/-- A read: the value, the latch, RC fields cleared, the advance. -/
def State.busRead (s : State) (b u idx : Nat) : Nat × State :=
  let t := s.latch b u idx
  (s.peek b u idx, (t.clearRC (t.busCells b u idx)).afterRead b u idx)

/-! ## Writes -/

/-- The processor a holder code names, for registers that tell the cores apart. -/
def procOf (who : Nat) : Proc := if who = 8 then .cc 0 else if who = 9 then .cc 1 else .lane 0

/-- The writes that do more than set fields: b is the writer's copy, who its holder code. -/
def State.unitWrite (s : State) (b who u idx v : Nat) : Option State :=
  if u = 0x00 then
    (if idx = 0x10 ∧ bitOf v 31 then some ((s.flag SYS.FAULT.VALID false).flag SYS.FAULT.MORE false) else none)
  else if u = 0x01 then timeWrite s idx v else if u = 0x02 then chainWrite s idx v
  else if u = 0x03 then permitWrite s who idx v else if u = 0x08 then irqWrite s b idx v
  else if 0x10 ≤ u ∧ u ≤ 0x13 then quadWrite s (Fin.ofNat 4 (u - 0x10)) idx v
  else if u = 0x14 then bitinWrite s idx v else if u = 0x18 then filtWrite s idx v
  else if u = 0x19 then rsmpWrite s idx v else if u = 0x20 then nrgWrite s b idx v
  else if u = 0x21 then pulseWrite s idx v else if u = 0x24 then pqWrite s idx v
  else if u = 0x25 then captWrite s who idx v else if u = 0x28 then jrnlWrite s idx v
  else if u = 0x29 then cairnWrite s idx v else if u = 0x2C then trimWrite s who idx v
  else if u = 0x30 then auxWrite s idx v else if u = 0x34 then modemWrite s idx v
  else if u = 0x38 then glassWrite s who idx v else if u = 0x3C then tampWrite s b idx v
  else if u = 0x3D then accessWrite s idx v else if u = 0x41 then rstWrite s (procOf who) idx v
  else if u = 0x48 then hostWrite s idx v else none

/-- A write: the unit's own effect, or field by field (R16). -/
def State.busWrite (s : State) (b who u idx v : Nat) : State :=
  (s.unitWrite b who u idx v).getD (s.writeCells (s.busCells b u idx) v)

/-- The word a unit instruction writes (R191, R219). -/
def State.opValue (s : State) (b u idx : Nat) (op : WriteOp) (v : Nat) : Nat :=
  match op with
  | .write => v
  | .set => s.peek b u idx ||| v
  | .clear => s.peek b u idx &&& (2 ^ 32 - 1 - v)

/-! ## Guards (R194) -/

/-- The lease that guards a register (R369, R370, R402, R445, R464). -/
def leaseGuard (u idx : Nat) : Option Nat :=
  if u = 0x29 ∧ 1 ≤ idx ∧ idx ≤ 3 then some 0
  else if u = 0x28 ∧ 0x18 ≤ idx ∧ idx ≤ 0x1A then some 1
  else if u = 0x34 ∧ modemGuarded idx then some 3
  else if u = 0x38 ∧ glassGuarded idx then some 4
  else if u = 0x30 ∧ auxGuarded idx then some 5
  else none

/-- The access level a write of a value needs (R381, R388, R490, R491). -/
def State.levelGuard (s : State) (u idx v : Nat) : Nat :=
  if u = 0x2C then trimLevel s idx v
  else if u = 0x3C ∧ tampGuarded idx then 2
  else if u = 0x3D ∧ idx = 4 then 2
  else 0

/-- A holder code holds the lease that guards a register, if one does. -/
def State.leaseOk (s : State) (who u idx : Nat) : Bool :=
  match leaseGuard u idx with
  | none => true
  | some x => s.get (LEASE.HOLD.STATE x) == 1 && s.get (LEASE.HOLD.HOLDER x) == who

/-- The guards of an access: the fault code of the first that fails (R219). v is the word written, none for a read. -/
def State.guardFault (s : State) (who u idx : Nat) (v : Option Nat) : Option Nat :=
  if ¬ s.leaseOk who u idx then some 0x05
  else match v with
    | none => none
    | some v => if s.level < s.levelGuard u idx v then some 0x09 else none

/-- The checks of a unit instruction in their order (R219): absent unit, undefined index, lease, level. -/
def State.busCheck (s : State) (who u idx : Nat) (v : Option Nat) : Option Trap :=
  if ¬ s.part.hasUnit u then some ⟨0x0E, u, none⟩
  else if ¬ s.busDefined u idx then some ⟨0x0D, u, none⟩
  else (s.guardFault who u idx v).map (fun c => ⟨c, u, none⟩)

/-- A write that passed its checks: at once, or into the write queue of a roped lane (R195). -/
def State.unitPost (s : State) (p : Proc) (u idx : Nat) (op : WriteOp) (v : Word) : State :=
  let now := s.busWrite (s.copyOf p) (s.holder p) u idx (s.opValue (s.copyOf p) u idx op v.toNat)
  match p with
  | .cc _ => now
  | .lane n => if s.roped n then s.setLane n { s.lane n with wq := (s.lane n).wq ++ [⟨u, idx, op, v⟩] } else now

/-- A queued write of the pair is applied (R195): the guards are checked again; an entry that fails one is not applied and
the supervisor records the fault. -/
def State.applyQueued (s : State) (w : QWrite) : State :=
  let v := s.opValue 7 w.unit w.idx w.op w.value.toNat
  match s.guardFault 5 w.unit w.idx (some v) with
  | some c => s.supervisorFault c w.unit
  | none => s.busWrite 7 5 w.unit w.idx v

/-! ## The unit instructions (R219) -/

/-- UR: the roped pair is served once. -/
def execUr (p : Proc) (d : Fin 32) (unit reg : Fin 256) (a : Fin 32) (s : State) : Host.Outcome State Fault Refusal :=
  .next (s.instr p 2 (fun s r =>
    let i := r.index reg a
    match s.busCheck (s.holder p) unit i none with
    | some t => .error t
    | none =>
      let b := s.copyOf p
      let y := s.serve p (fun s => let x := s.busRead b unit i; (BitVec.ofNat 32 x.1, x.2))
      .ok ⟨r.setS d y.1, y.2, none, s.loopsOf p⟩))

/-- What a write contributes to the signature: the register with the operation, and the value (R248). -/
def writeSig (u idx : Nat) (op : WriteOp) (v : Word) : SigItem :=
  SigItem.unitWrite u (idx + (match op with | .write => 0 | .set => 256 | .clear => 512)) v.toNat

/-- UW, USET, UCLR. -/
def State.unitOp (s : State) (p : Proc) (d : Fin 32) (unit reg : Fin 256) (a : Fin 32) (op : WriteOp) : State :=
  s.instr p 1 (fun s r =>
    let i := r.index reg a
    match s.busCheck (s.holder p) unit i (some (s.opValue (s.copyOf p) unit i op (r.sr d).toNat)) with
    | some t => .error t
    | none =>
      .ok ⟨{ r with sig := r.sig ++ [writeSig unit i op (r.sr d)] }, s.unitPost p unit i op (r.sr d), none, s.loopsOf p⟩)

/-- UW. -/
def execUw (p : Proc) (d : Fin 32) (unit reg : Fin 256) (a : Fin 32) (s : State) : Host.Outcome State Fault Refusal :=
  .next (s.unitOp p d unit reg a .write)

/-- USET. -/
def execUset (p : Proc) (d : Fin 32) (unit reg : Fin 256) (a : Fin 32) (s : State) : Host.Outcome State Fault Refusal :=
  .next (s.unitOp p d unit reg a .set)

/-- UCLR. -/
def execUclr (p : Proc) (d : Fin 32) (unit reg : Fin 256) (a : Fin 32) (s : State) : Host.Outcome State Fault Refusal :=
  .next (s.unitOp p d unit reg a .clear)

/-! ## PERMIT, CUE, MEXT, BSWAP (R223–R226) -/

/-- PERMIT: fault 0x02 on a lane's profile is the loader's to exclude. -/
def execPermit (p : Proc) (d a b : Fin 32) (cls : Fin 4) (nowait : Bool) (s : State) : Host.Outcome State Fault Refusal :=
  controlOnly p (fun _ => s.instr p 1 (fun s r =>
    let x := s.permitRequest (s.holder p) cls (r.sr a).toNat (r.sr b).toNat nowait
    .ok ⟨r.setS d (permitWord x.1 x.2.1), x.2.2, none, s.loopsOf p⟩))

/-- The declaration of a unit in the image a lane runs (R193). -/
def Lane.declared (l : Lane) (u : Nat) : Nat :=
  match (if l.cur = some .pitch then l.imgP else l.imgG) with
  | none => 0
  | some i => imgUnit i u

/-- A refusal at a lane's issue is counted once for the pair: not by its second member, nor by a standby that recomputes. -/
def State.countsRefusal (s : State) (n : Fin 5) : Bool :=
  !(s.get LEASE.ROPE.SECOND == n.val && s.inPair n) && !(s.rope.recomputing && s.standIn n)

/-- CUE: a core's entry goes to the table at once, a lane's to its queue (R94, R224). -/
def State.cueIssue (s : State) (p : Proc) (e : Vec) : Nat × State :=
  let c := cueOf e (s.holder p)
  match p with
  | .cc _ =>
    let code := cueCheck s.part c none s.clock.grain
    if code = 0 then s.cueAdd c else (code, s.cueRefused)
  | .lane n =>
    let code := cueCheck s.part c (some (s.lane n).declared) s.clock.grain
    if code = 0 then (0, s.setLane n { s.lane n with cueq := (s.lane n).cueq ++ [e] })
    else (code, if s.countsRefusal n then s.cueRefused else s)

/-- CUE (R224). -/
def execCue (p : Proc) (d : Fin 32) (a : Fin 16) (s : State) : Host.Outcome State Fault Refusal :=
  .next (s.instr p 1 (fun s r =>
    let e := r.vr a
    let u := (cueOf e 0).unit
    if ¬ s.part.hasUnit u then .error ⟨0x0E, u, none⟩
    else
      let x := s.cueIssue p e
      let r := { r with sig := r.sig ++ [SigItem.cue e.toNat] }
      .ok ⟨r.setS d (BitVec.ofNat 32 x.1), x.2, none, s.loopsOf p⟩))

/-- A lane's queued cues go to the table when its grain ends (R94): the full check is made now. -/
def State.applyCues (s : State) (owner : Nat) (l : List Vec) : State :=
  l.foldl (fun t e => (t.cueAdd (cueOf e owner)).2) s

/-- 32 bytes lie wholly in the boot ROM or in control memory (R225). -/
def extendable (a : Nat) : Bool :=
  decide (a + 32 ≤ 0x80000) || (decide (0x10400000 ≤ a) && decide (a + 32 ≤ 0x10580000))

/-- MEXT (R225): MEAS0 only by an instruction in the boot ROM. -/
def execMext (p : Proc) (x : Fin 4) (a : Fin 32) (s : State) : Host.Outcome State Fault Refusal :=
  controlOnly p (fun _ => s.instr p 80 (fun s r =>
    let m := (r.sr a).toNat
    if m % 4 ≠ 0 then .error ⟨0x03, 0xFF, some (r.sr a)⟩
    else if ¬ extendable m then .error ⟨0x04, 0xFF, some (r.sr a)⟩
    else if x = 0 ∧ regionOf (s.pcOf p).toNat ≠ .rom then .error (trapCode 0x09)
    else .ok ⟨r, s.extend x (s.bytes m 32), none, s.loopsOf p⟩))

/-- BSWAP (R226): a write of FILT.SWAP. -/
def execBswap (p : Proc) (a : Fin 32) (bankB : Bool) (s : State) : Host.Outcome State Fault Refusal :=
  .next (s.instr p 1 (fun s r =>
    let v := BitVec.ofNat 32 ((r.sr a).toNat % 2 ^ 24 + 2 ^ 25 * ofB bankB)
    .ok ⟨{ r with sig := r.sig ++ [writeSig 0x18 1 .write v] }, s.unitPost p 0x18 1 .write v, none, s.loopsOf p⟩))

/-! ## Commands that are one access (log entry 16) -/

/-- A write by a processor that runs (a core that has stopped serves nothing, R199): a check that fails is a fault of its
instruction. -/
def State.rowWrite (s : State) (p : Proc) (u idx v : Nat) : State :=
  if s.runs p then
    match s.busCheck (s.holder p) u idx (some (v % 2 ^ 32)) with
    | some t => s.trap p t
    | none => s.unitPost p u idx .write (BitVec.ofNat 32 v)
  else s

/-- A read by a processor that runs. -/
def State.rowRead (s : State) (p : Proc) (u idx : Nat) : State :=
  if s.runs p then
    match s.busCheck (s.holder p) u idx none with
    | some t => s.trap p t
    | none =>
      let x := s.busRead (s.copyOf p) u idx
      { x.2 with readData := BitVec.ofNat 32 x.1 }
  else s

/-- REGISTER_WRITE (R191): a write of any register acts by its fields' access codes. -/
def execRegisterWrite (p : Proc) (unit reg : Fin 256) (v : Word) (s : State) : Host.Outcome State Fault Refusal :=
  .next (s.rowWrite p unit reg v.toNat)

/-- COUNTER_READ_CLEAR (R16): the RC fields of the register read are cleared. -/
def execCounterReadClear (p : Proc) (unit reg : Fin 256) (s : State) : Host.Outcome State Fault Refusal :=
  .next (s.rowRead p unit reg)

/-- SPLIT_LOW_READ (R71): the high word is latched. -/
def execSplitLowRead (p : Proc) (unit reg : Fin 256) (s : State) : Host.Outcome State Fault Refusal :=
  .next (s.rowRead p unit reg)

/-- DRAW_GO (R330). -/
def execDrawGo (p : Proc) (v : Word) (s : State) : Host.Outcome State Fault Refusal :=
  .next (s.rowWrite p 0x25 0x0C (v.toNat ||| 2 ^ 8))

/-- Every processor. -/
def procs : List Proc := (List.finRange 5).map Proc.lane ++ (List.finRange 2).map Proc.cc

/-- A write by the processor that holds a lease, by both members where the pair holds it (R258, R259). -/
def State.holderWrite (s : State) (x u idx v : Nat) : State :=
  (procs.filter (fun p => s.holds p x)).foldl (fun t p => t.rowWrite p u idx v) s

/-- STAGE_DATA_WRITE (R365, R369): the holder of the journal writer stages a word. -/
def execStageDataWrite (v : Word) (s : State) : Host.Outcome State Fault Refusal :=
  .next (s.holderWrite 1 0x28 0x19 v.toNat)

/-- STAGED_APPEND_GO (R365): the holder of the journal writer writes GO. -/
def execStagedAppendGo (s : State) : Host.Outcome State Fault Refusal := .next (s.holderWrite 1 0x28 0x1A 1)

/-- PORT_OPEN (R344). -/
def execPortOpen (p : Proc) (area : BitVec 2) (s : State) : Host.Outcome State Fault Refusal :=
  .next (s.rowWrite p 0x29 1 (2 ^ 7 + area.toNat))

/-- PORT_DATA_WRITE (R344). -/
def execPortDataWrite (p : Proc) (v : Word) (s : State) : Host.Outcome State Fault Refusal := .next (s.rowWrite p 0x29 3 v.toNat)

/-- PORT_COMMIT (R344). -/
def execPortCommit (p : Proc) (s : State) : Host.Outcome State Fault Refusal := .next (s.rowWrite p 0x29 1 (2 ^ 8 + 1))

/-- PORT_ABORT (R344). -/
def execPortAbort (p : Proc) (s : State) : Host.Outcome State Fault Refusal := .next (s.rowWrite p 0x29 1 (2 ^ 9 + 1))

/-- SELFCAL_GO (R375): the other field of SCCTL keeps its value. -/
def execSelfcalGo (p : Proc) (permit : BitVec 4) (s : State) : Host.Outcome State Fault Refusal :=
  .next (s.rowWrite p 0x2C 1 (2 ^ 16 * s.get TRIM.SCCTL.SPSLOT + 2 * permit.toNat + 1))

/-- CALIBRATION_WRITE (R381): CALG, CALO or RATIO. -/
def execCalibrationWrite (p : Proc) (idx : Fin 256) (v : Word) (s : State) : Host.Outcome State Fault Refusal :=
  if 0x40 ≤ idx.val ∧ idx.val < 0x98 ∧ idx.val % 32 < 24 then .next (s.rowWrite p 0x2C idx v.toNat) else .refused .illFormed

/-- DRIFT_RESET (R388). -/
def execDriftReset (p : Proc) (s : State) : Host.Outcome State Fault Refusal :=
  .next (s.rowWrite p 0x2C 0x10 (2 + s.get TRIM.DCTL.FREEZE))

/-- SHNODE_RESTART (R386): the other fields of SHNODE keep their values. -/
def execShnodeRestart (p : Proc) (s : State) : Host.Outcome State Fault Refusal :=
  .next (s.rowWrite p 0x2C 0x18 (s.peek (s.copyOf p) 0x2C 0x18 ||| 8))

/-- AUX_GO (R393). -/
def execAuxGo (p : Proc) (s : State) : Host.Outcome State Fault Refusal := .next (s.rowWrite p 0x30 2 1)

/-- AUX_STOP (R394). -/
def execAuxStop (p : Proc) (s : State) : Host.Outcome State Fault Refusal := .next (s.rowWrite p 0x30 2 2)

/-- AUX_CAL (R399). -/
def execAuxCal (p : Proc) (s : State) : Host.Outcome State Fault Refusal := .next (s.rowWrite p 0x30 2 4)

/-- AUX_RESULT_READ (R395). -/
def execAuxResultRead (p : Proc) (s : State) : Host.Outcome State Fault Refusal := .next (s.rowRead p 0x30 4)

/-- AUX_CH_WRITE (R391). -/
def execAuxChWrite (p : Proc) (v : Word) (s : State) : Host.Outcome State Fault Refusal := .next (s.rowWrite p 0x30 1 v.toNat)

/-- MODEM_TX_GO (R435). -/
def execModemTxGo (p : Proc) (s : State) : Host.Outcome State Fault Refusal := .next (s.rowWrite p 0x34 5 1)

/-- MODEM_TX_CANCEL (R441). -/
def execModemTxCancel (p : Proc) (s : State) : Host.Outcome State Fault Refusal := .next (s.rowWrite p 0x34 5 2)

/-- GLASS_MODE_WRITE (R446): a write of GLASS.CTRL. -/
def execGlassModeWrite (p : Proc) (v : Word) (s : State) : Host.Outcome State Fault Refusal := .next (s.rowWrite p 0x38 0 v.toNat)

/-- LCDCFG_WRITE (R447). -/
def execLcdcfgWrite (p : Proc) (v : Word) (s : State) : Host.Outcome State Fault Refusal := .next (s.rowWrite p 0x38 2 v.toNat)

/-- TABLE_DATA_ACCESS (R452). -/
def execTableDataAccess (p : Proc) (write : Bool) (v : Word) (s : State) : Host.Outcome State Fault Refusal :=
  .next (if write then s.rowWrite p 0x38 0x49 v.toNat else s.rowRead p 0x38 0x49)

/-- TABLE_CHECK (R452). -/
def execTableCheck (p : Proc) (v : Word) (s : State) : Host.Outcome State Fault Refusal := .next (s.rowWrite p 0x38 0x4A v.toNat)

/-- REGION_MASK_WRITE (R454): the low or the high word of region r's mask. -/
def execRegionMaskWrite (p : Proc) (r : Fin 8) (high : Bool) (v : Word) (s : State) : Host.Outcome State Fault Refusal :=
  .next (s.rowWrite p 0x38 (0x30 + 2 * r.val + ofB high) v.toNat)

/-- GLASS_UPDATE_REQUEST (R454): GO with region, table and permit of the word. -/
def execGlassUpdateRequest (p : Proc) (v : Word) (s : State) : Host.Outcome State Fault Refusal :=
  .next (s.rowWrite p 0x38 0x44 (v.toNat ||| 2 ^ 12))

/-- TAMPER_TEST (R471). -/
def execTamperTest (p : Proc) (v : Word) (s : State) : Host.Outcome State Fault Refusal := .next (s.rowWrite p 0x3C 0x0A v.toNat)

/-- PERMIT_RELEASE (R499). -/
def execPermitRelease (p : Proc) (v : Word) (s : State) : Host.Outcome State Fault Refusal := .next (s.rowWrite p 3 5 v.toNat)

/-- WATCHDOG_SERVE (R510): a write of RST.WDSERVEc. -/
def execWatchdogServe (p : Proc) (c : Fin 2) (v : Word) (s : State) : Host.Outcome State Fault Refusal :=
  .next (s.rowWrite p 0x41 (6 + c) v.toNat)

/-- RESET_REQUEST (R509): a write of RST.CMD. -/
def execResetRequest (p : Proc) (v : Word) (s : State) : Host.Outcome State Fault Refusal := .next (s.rowWrite p 0x41 2 v.toNat)

/-! ## Cues (R85, R91) -/

/-- The unit refuses the write: it is busy, or its rule says that such a cue counts as refused (R129, R167, R328, R344,
R375, R435, R454). -/
def State.unitRefuses (s : State) (u idx v : Nat) : Bool :=
  if 0x10 ≤ u ∧ u ≤ 0x13 then
    (idx == 0 && (s.modeWrite (Fin.ofNat 4 (u - 0x10)) v).1) ||
      (idx == 0x15 && bitOf v 0 && (s.owStart (Fin.ofNat 4 (u - 0x10))).1)
  else if u = 0x18 then idx == 1 && (s.swapOrder v).1
  else if u = 0x30 then
    idx == 2 && (bitOf v 0 || bitOf v 2) && !bitOf v 1 && (s.on AUX.STATUS.BUSY || s.on AUX.STATUS.CALBUSY)
  else if u = 0x34 then idx == 5 && bitOf v 0 && !(s.txgoWrite v).1
  else if u = 0x2C then idx == 1 && bitOf v 0 && s.selfCal.isSome
  else if u = 0x25 then idx == 3 && bitOf v 0 && s.get CAPT.STATUS.STATE == 5
  else if u = 0x29 then s.portBusy && (idx == 3 || (idx == 1 && s.portCtlBad v))
  else if u = 0x38 then decide (0x30 ≤ idx ∧ idx < 0x40) && s.regionBusy ((idx - 0x30) / 2)
  else false

/-- One cue is applied (R85, R91, R275): its register is written unless a guard or the unit refuses it; a LAUNCH goes to a
launch queue. The dispatcher's own copy of private selections is at reset (log entry 16). -/
def State.dispatch (s : State) (c : Cue) : State :=
  if c.action = 4 then
    let x := s.launch c.reg c.arg
    if x.1 then x.2 else s.cueFailed
  else
    let op : WriteOp := if c.action = 1 then .write else if c.action = 2 then .set else .clear
    let v := s.opValue 8 c.unit c.reg op c.arg
    if (s.guardFault c.owner c.unit c.reg (some v)).isSome then s.cueFailed
    else
      let t := if c.unit = 0x20 ∧ c.reg = 8 then s.setTariff v 0 else s.busWrite 8 c.owner c.unit c.reg v
      if s.unitRefuses c.unit c.reg v then t.cueFailed else t

/-- The entry at the head of the table goes to the dispatcher; the selected index moves with its entry (R87). -/
def State.cuePop (s : State) (rest : List Cue) : State :=
  { s.set TIME.CUEIDX.IDX (s.get TIME.CUEIDX.IDX - 1) with cues := rest }

/-- The cues due are applied one after another from the head of the table, so that a later one sees what an earlier one did,
a cancel too (R88, R89, R92); one whose grain a step passed over counts as late (R93). At most n of them are due. -/
def State.dispatchN : Nat → State → State
  | 0, s => s
  | n + 1, s =>
    match s.cues with
    | [] => s
    | c :: rest =>
      if c.due ≤ s.clock.grain then
        let t := s.cuePop rest
        State.dispatchN n ((if c.due < s.clock.grain then t.bump TIME.CUELATE.COUNT TIME.CUELATE.SAT else t).dispatch c)
      else s

/-- Dispatch at phase 0 (R88): the table holds no more cues than it did. -/
def State.dispatchDue (s : State) : State := State.dispatchN s.cues.length s

end Sys2Proof.Machine
end

