-- ==== Sys2Proof/Machine/Vote.lean ====
section
/-! DEFINITION. The tail of the grain: the vote of the roped pair, the application of the selected outputs, the mirror of the
standby (08_programs_and_lanes.md R247–R251). -/

namespace Sys2Proof.Machine

/-- The runs of two lanes agree, run by run (R248, R250). -/
def runsAgree (a b : List RunRec) : Bool := a.length == b.length && (a.zip b).all (fun x => x.1.same x.2)

/-- A lane's outputs are applied: queue, cue insertions, increments (R247). -/
def State.applyOutputs (s : State) (n : Fin 5) (unver : Bool) : State :=
  let l := s.lane n
  l.outIncs.foldl (fun (t : State) i => t.bookIncs 5 unver i) ((l.outQ.foldl State.applyQueued s).applyCues 5 l.outCues)

/-! ## The mirror (R249, R251) -/

/-- The update that brings a lane's store log, and its contexts where asked, to the standby's mirror in the next grain; the
state of the pitch work goes with the contexts. -/
def State.mirrorFrom (s : State) (sb sel : Fin 5) (contexts : Bool) : State :=
  let a := s.lane sel
  let s := if contexts then
      s.setLane sb { s.lane sb with pitchDue := a.pitchDue, pitchOn := a.pitchOn, pitchIncs := a.pitchIncs }
    else s
  { s with rope := { s.rope with
    mirror := some ⟨sb, a.log, if contexts then some #v[a.g, a.p, a.snapG, a.snapP] else none⟩ } }

/-- The words that lane n stored are taken again from another lane's memory. -/
def State.undoStores (s : State) (n src : Fin 5) : State :=
  (s.lane n).log.foldl (fun t e => t.setWord (laneBase n + e.1) (s.word (laneBase src + e.1))) s

/-- The mirror follows the selected lane: by its store log, or during a copy by the log alone until the last grain. -/
def State.mirrorUpdate (s : State) (sel : Fin 5) : State :=
  match s.standby with
  | some sb => s.mirrorFrom sb sel true
  | none =>
    match s.rope.copyAt with
    | none => s
    | some c =>
      if s.get SYS.LANE.STBY < 5 ∧ c ≤ s.clock.grain ∧ s.clock.grain < c + 768 then
        s.mirrorFrom (Fin.ofNat 5 (s.get SYS.LANE.STBY)) sel (decide (s.clock.grain + 1 = c + 768))
      else s

/-! ## The vote (R250–R252) -/

/-- The first and the second member. -/
def State.firstLane (s : State) : Fin 5 := Fin.ofNat 5 (s.get LEASE.ROPE.FIRST)
def State.secondLane (s : State) : Fin 5 := Fin.ofNat 5 (s.get LEASE.ROPE.SECOND)

/-- The outcome of a vote (R250). -/
def State.voteOutcome (s : State) : Nat :=
  match s.standby with
  | none => 4
  | some sb =>
    if ¬ s.rope.recomputing then 4
    else if runsAgree (s.lane sb).runs (s.lane s.firstLane).runs then 1
    else if runsAgree (s.lane sb).runs (s.lane s.secondLane).runs then 2
    else 3

/-- A lost vote is counted for the lane, at most 15. -/
def State.countLost (s : State) (n : Fin 5) : State :=
  let c := s.get LEASE.LOST.CNT
  if field c (4 * n.val) 4 < 15 then s.set LEASE.LOST.CNT (c + 2 ^ (4 * n.val)) else s

/-- The standby takes the loser's place from the next grain (R251); a second loss within 2^20 grains retires the loser
(R252). -/
def State.replaceMember (s : State) (loser winner sb : Fin 5) : State :=
  let s := (s.flag LEASE.ROPE.REBUILD true).flag LEASE.ROPE.NOSTBY true
  let again : Bool := match s.rope.lostAt.getD loser none with
    | none => false
    | some g => decide (s.clock.grain ≤ g + 2 ^ 20)
  let s : State := { s with rope := { s.rope with
    copyAt := some (s.clock.grain + 257), roles := some (min winner.val sb.val, max winner.val sb.val, loser.val)
    lostAt := modAt s.rope.lostAt loser (fun _ => some s.clock.grain) } }
  if again then s.retireLane loser else s

/-- The vote is recorded: fault 0x22, the outcome, the loser. -/
def State.recordVote (s : State) (outcome loser : Nat) : State :=
  ((s.supervisorFault 0x22 0xFF).set LEASE.VOTE.OUTCOME outcome).set LEASE.VOTE.LOSER loser

/-- The vote of a grain with a disagreement. -/
def State.vote (s : State) : State :=
  let a := s.firstLane
  let b := s.secondLane
  let o := s.voteOutcome
  match s.standby with
  | some sb =>
    if o = 1 then (((s.recordVote 1 b).countLost b).applyOutputs a false).replaceMember b a sb
    else if o = 2 then (((s.recordVote 2 a).countLost a).applyOutputs b false).replaceMember a b sb
    else (((s.recordVote o 7).applyOutputs a true).undoStores sb a).mirrorUpdate a
  | none => ((s.recordVote 4 7).applyOutputs a true).mirrorUpdate a

/-! ## The tail -/

/-- The records of a grain are cleared. -/
def Lane.clearGrain (l : Lane) : Lane :=
  { l with outQ := [], outCues := [], outIncs := [], runs := [], log := [], inbox := [] }

/-- The lanes of the roped set. -/
def State.ropedLanes (s : State) : List (Fin 5) :=
  s.pairLanes ++ (if h : s.get SYS.LANE.STBY < 5 then [⟨s.get SYS.LANE.STBY, h⟩] else [])

/-- The tail of the grain (R247): what the standby alone computed is unverified (R240), an agreed grain needs no vote. -/
def State.voteTail (s : State) : State :=
  let s := s.mirrorTakes
  let lanes := s.ropedLanes
  let t :=
    if s.on LEASE.ROPE.SOLO then
      (if h : s.get SYS.LANE.STBY < 5 then s.applyOutputs ⟨s.get SYS.LANE.STBY, h⟩ true else s)
    else if s.pairDisagrees then s.vote
    else (s.applyOutputs s.firstLane false).mirrorUpdate s.firstLane
  let t := lanes.foldl (fun (u : State) n => u.setLane n (u.lane n).clearGrain) t
  { t with rope := { t.rope with recomputing := false, voted := true } }

/-- VOTE_TAIL (R247, R250): at phase 6296. -/
def execVoteTail (s : State) : Host.Outcome State Fault Refusal :=
  .next (if s.power = .on ∧ s.clock.pllLock ∧ ¬ s.rope.voted then (s.toPhase 6296).voteTail else s)

/-- The roles that a vote has given are taken from the next grain (R251); a loser retired meanwhile does not stand by. -/
def State.rolesTake (s : State) : State :=
  match s.rope.roles with
  | none => s
  | some (a, b, n) =>
    let s := ((s.set LEASE.ROPE.FIRST a).set LEASE.ROPE.SECOND b).set SYS.LANE.STBY n
    let s : State := { s with rope := { s.rope with roles := none } }
    if bitOf (s.get SYS.LANE.INSVC) n then s else s.noStandby.setLane (Fin.ofNat 5 n) Lane.zero

/-- What is left of a grain at its boundary: the tail where it has not run, the cue insertions of the other lanes (R94), the
roles of the next grain. -/
def State.finishGrain (s : State) : State :=
  let s := if s.rope.voted then s else s.voteTail
  let s := (List.finRange 5).foldl (fun (t : State) (n : Fin 5) =>
    if t.roped n then t
    else (t.applyCues n (t.lane n).outCues).setLane n (t.lane n).clearGrain) s
  State.rolesTake { s with rope := { s.rope with voted := false } }

end Sys2Proof.Machine
end

