-- ==== Sys2Proof/Machine/Handler.lean ====
section
/-! DEFINITION. The parcel handler: what LOAD, ORDER, READ and ACK parcels do, and the parcels the module sends unasked
(19_host_link.md R523–R528; 08_programs_and_lanes.md R237–R241, R563; 11_journal_and_cairn.md R361–R368;
17_tamper_and_access.md R480–R489). The handler runs on CC0: it holds and reads as that core (log entry 19). -/

namespace Sys2Proof.Machine

/-! ## Parcels and their answers -/

/-- ACCEPT the first parcel. -/
def State.accept (s : State) (p : InParcel) (rest : List Byte) : State := s.answerGood p 0x81 0 0 rest

/-- The code of an ORDER. -/
def InParcel.code (p : InParcel) : Nat := u16At p.body 0

/-- The body of an ORDER behind its code. -/
def InParcel.ord (p : InParcel) : List Byte := p.body.drop 4

/-- The order codes of R525. -/
def orderCodes : List Nat := [1, 2, 3, 4, 5, 6, 7, 8, 9, 0x0A, 0x0B, 0x0101, 0x0102, 0x0103, 0x0104]

/-- A parcel is an ORDER of a code. -/
def isOrder (code : Nat) (p : InParcel) : Bool := p.type == 2 && decide (4 ≤ p.body.length) && p.code == code

/-- A parcel is an ORDER of no known code. -/
def unknownOrder (p : InParcel) : Bool :=
  p.type == 2 && (decide (p.body.length < 4) || !orderCodes.contains p.code)

/-- Handle orders of a code. -/
def State.order (s : State) (code : Nat) (act : InParcel → State → State) : State :=
  s.handle (isOrder code) (fun p t => t.orWait (act p t))

/-! ## LOAD (R526) -/

/-- How far received parts reach without a hole, from an end reached so far. -/
def reach (parts : List (Nat × Nat)) : Nat → Nat → Nat
  | 0, e => e
  | n + 1, e => reach parts n (parts.foldl (fun a x => if x.1 ≤ e ∧ a < x.1 + x.2 then x.1 + x.2 else a) e)

/-- The parts received make the whole image. -/
def imageWhole (parts : List (Nat × Nat)) (len : Nat) : Bool := decide (len ≤ reach parts parts.length 0)

/-- Staging holds nothing more. -/
def State.unstage (s : State) : State := s.modLink (fun l => { l with imgLen := none, parts := [] })

/-- The completed image goes through the loader (R237). -/
def State.loadImage (s : State) (p : InParcel) (len : Nat) : State :=
  let i := s.bytes stagingBase len
  let code := s.loadOutcome i
  if code = 0 then
    (s.unstage.modLink (fun l => { l with staged := l.staged ++ [i] })).answerGood p 0x81 0 0 (loadReport i)
  else s.unstage.refuse p (0x10 + code)

/-- One part of an image. -/
def State.loadPart (p : InParcel) (s : State) : State :=
  let off := u32At p.body 0
  let len := u32At p.body 4
  let data := p.body.drop 8
  if p.body.length < 8 ∨ stagingSize < len ∨ len < off + data.length ∨ len ≤ off ∨
      (s.link.imgLen.isSome ∧ s.link.imgLen ≠ some len) then s.refuse p 0x11
  else
    let t := (s.setBytes (stagingBase + off) data).modLink (fun l => { l with
      imgLen := some len, parts := l.parts ++ [(off, data.length)] })
    if imageWhole t.link.parts len then t.loadImage p len else t.accept p (zeros 4)

/-- PARCEL_LOAD. -/
def execParcelLoad (s : State) : Host.Outcome State Fault Refusal :=
  .next (s.handle (fun p => p.type == 1) (fun p t => t.orWait (t.loadPart p)))

/-! ## ACK (R362, R528) -/

/-- PARCEL_ACK: the number in bytes 0–5. -/
def execParcelAck (s : State) : Host.Outcome State Fault Refusal :=
  .next (s.handle (fun p => p.type == 4) (fun p t =>
    t.orWait (if p.body.length < 6 then t.refuse p 3 else (t.ack (unAt p.body 0 6)).accept p [])))

/-! ## START (R284, R558) -/

/-- The KIND of base camp slot b (R283, R558). -/
def baseKind (b : Nat) : Nat := if b = 5 then 3 else if b = 6 then 4 else 1

/-- An entry marked convert names no good target (R558). -/
def State.startBad (s : State) (b : Nat) (e : List Byte) : Bool :=
  byteAt e 2 == 1 &&
    (decide (64 ≤ byteAt e 0) || s.slotOwner (byteAt e 0) == 0xF || s.slotQty (byteAt e 0) / 16 != baseKind b ||
      decide (8 < byteAt e 1))

/-- The entry of base camp slot b. -/
def startEntry (body : List Byte) (b : Nat) : List Byte := (body.drop (4 * b)).take 4

/-- ORDER_START: refused in RUN, while base camp runs in the pair, while an earlier START waits. -/
def State.orderStart (p : InParcel) (s : State) : State :=
  if s.on NRG.BCSTAT.BCRUN ∨ s.get PWR.STATE.STATE ≠ 1 ∨ s.pwr.start.isSome then s.refuse p 4
  else if p.ord.length < 32 ∨ (List.range 8).any (fun b => s.startBad b (startEntry p.ord b)) then s.refuse p 3
  else (s.modPwr (fun x => { x with start := some (p.seq, p.ord.take 32) })).accept p []

/-- ORDER_START, and every ORDER of no known code: FAULT 0x06, sub-code 3. -/
def execOrderStart (s : State) : Host.Outcome State Fault Refusal :=
  .next (s.handle (fun p => isOrder 1 p || unknownOrder p) (fun p t =>
    t.orWait (if unknownOrder p then t.refuse p 3 else t.orderStart p)))

/-! ## INSTALL and REMOVE (R239–R241, R563) -/

/-- The target number of an image in an INSTALL (R525). -/
def installCode (i : List Byte) : Nat := if imgLane i then imgTarget i else progCode i

/-- The refusal sub-code of an INSTALL of a staged image, 0 where it is carried out. -/
def State.installBad (s : State) (t : Nat) (force : Bool) (i : List Byte) : Nat :=
  if installCode i ≠ t ∨ (t < 5 ∧ s.inPair t) ∨ ¬ s.targetFree i then 0x1A
  else if !(if imgLane i then ([(s.setOf i).1, (s.setOf i).2].filterMap id).all s.tablesOk else s.controlPlaced i) then 0x19
  else if t = 0x0F ∧ s.standby.isNone ∧ ¬ force then 0x1B
  else 0

/-- INSTALL of an image: a lane set waits for the boundary, a control program is installed now. The image stays staged
(R526). -/
def State.install (s : State) (t : Nat) (force : Bool) (i : List Byte) : State :=
  if imgLane i then { s with laneOrders := s.laneOrders ++ [⟨t, some (s.setOf i), force⟩] } else s.installProg i

/-- ORDER_INSTALL. -/
def State.orderInstall (p : InParcel) (s : State) : State :=
  let b := p.ord
  let t := byteAt b 0
  let force := bitOf (byteAt b 1) 0
  if b.length < 8 then s.refuse p 3
  else match s.link.staged.reverse.find? (fun i => imgId i == u32At b 4) with
    | none => s.refuse p 4
    | some i =>
      let bad := s.installBad t force i
      if bad ≠ 0 then s.refuse p bad else (s.install t force i).accept p []

/-- ORDER_INSTALL. -/
def execOrderInstall (s : State) : Host.Outcome State Fault Refusal := .next (s.order 2 State.orderInstall)

/-- ORDER_REMOVE. -/
def State.orderRemove (p : InParcel) (s : State) : State :=
  let t := byteAt p.ord 0
  if p.ord.length < 1 then s.refuse p 3
  else if t < 5 then
    (if s.inPair t then s.refuse p 4
     else ({ s with laneOrders := s.laneOrders ++ [⟨t, none, false⟩] } : State).accept p [])
  else if t = 0x0F then ({ s with laneOrders := s.laneOrders ++ [⟨t, none, false⟩] } : State).accept p []
  else if 0x10 ≤ t ∧ t ≤ 0x51 then
    (if (t < 0x50 ∧ s.cueBusy (t - 0x10)) ∨ (s.prog t).isNone then s.refuse p 4
     else (s.removeProg t).accept p [])
  else s.refuse p 3

/-- ORDER_REMOVE. -/
def execOrderRemove (s : State) : Host.Outcome State Fault Refusal := .next (s.order 3 State.orderRemove)

/-! ## CUE, SET UTC, SELFCAL, RESET (R525) -/

/-- ORDER_CUE: the result code of R86 in byte 1; an absent unit is refused by the unit. -/
def State.orderCue (p : InParcel) (s : State) : State :=
  let b := p.ord
  if b.length < 16 then s.refuse p 3
  else
    let w := fun (i : Nat) => BitVec.ofNat 32 (u32At b (4 * i))
    let e := vec4 (w 0) (w 1) (w 2) (w 3)
    if ¬ s.part.hasUnit (cueOf e 8).unit then s.refuse p 4
    else
      let x := s.cueIssue (.cc 0) e
      x.2.answerGood p 0x81 0 x.1 []

/-- ORDER_CUE. -/
def execOrderCue (s : State) : Host.Outcome State Fault Refusal := .next (s.order 4 State.orderCue)

/-- ORDER_SET_UTC: loaded at the next boundary (R75). -/
def State.orderSetUtc (p : InParcel) (s : State) : State :=
  if p.ord.length < 12 then s.refuse p 3
  else ({ s with utcSet := some (u32At p.ord 0, unAt p.ord 4 8) } : State).accept p []

/-- ORDER_SET_UTC. -/
def execOrderSetUtc (s : State) : Host.Outcome State Fault Refusal := .next (s.order 5 State.orderSetUtc)

/-- ORDER_SELFCAL: a permit of 180 mW in class 1 for 2400 grains, then GO; a refused GO gives the permit back. -/
def State.orderSelfcal (p : InParcel) (s : State) : State :=
  if p.ord.length < 1 then s.refuse p 3
  else
    let x := s.permitRequest 8 1 180 2400 true
    if x.1 ≠ 0 then s.refuse p 4
    else
      let t := (x.2.2.set TRIM.SCCTL.SPSLOT (byteAt p.ord 0)).selfCalGo 8 x.2.1
      if t.selfCal.isSome ∧ ¬ s.selfCal.isSome then t.accept p []
      else (t.permitEnd x.2.1 false).refuse p 4

/-- ORDER_SELFCAL. -/
def execOrderSelfcal (s : State) : Host.Outcome State Fault Refusal := .next (s.order 6 State.orderSelfcal)

/-- ORDER_RESET: ACCEPT, then the reset of kind 0x08 (R347). -/
def State.orderReset (p : InParcel) (s : State) : State :=
  if byteAt p.ord 0 = 0xC3 then (s.accept p []).decideReset 8 else s.refuse p 3

/-- ORDER_RESET. -/
def execOrderReset (s : State) : Host.Outcome State Fault Refusal := .next (s.order 7 State.orderReset)

/-! ## Access orders (R482–R485) -/

/-- The serial of R482. -/
def State.serial (s : State) : List Byte := leBytes 4 s.part.serialLo ++ leBytes 4 s.part.serialHi

/-- A back-off runs (R484). -/
def State.backingOff (s : State) : Bool := decide (s.clock.rtc < s.access.retryAt)

/-- A checked attempt: the unlock is decided twice and answered then (R470), or it has failed. -/
def State.attemptUnlock (s : State) (p : InParcel) (ok : Bool) (level : Nat) : State :=
  if ok then s.decideFirst (.unlock level) else s.failedAttempt.refuse p 1

/-- ORDER_OPEN_SERVICE (R482): the password's verifier; refused while the lock is in force (R475). -/
def State.orderOpenService (p : InParcel) (s : State) : State :=
  let n := p.ord.length
  if n < 8 ∨ 32 < n then s.refuse p 3
  else if s.on ACCESS.LEVEL.LOCKED then s.refuse p 4
  else if s.backingOff then s.refuse p 5
  else
    let v := sha256 (s.serial ++ leBytes 4 (s.get ACCESS.KGEN.KGEN) ++ p.ord)
    s.attemptUnlock p (s.access.verifier == some v) 1

/-- ORDER_OPEN_SERVICE. -/
def execOrderOpenService (s : State) : Host.Outcome State Fault Refusal := .next (s.order 8 State.orderOpenService)

/-- n words of the random generator. -/
def State.drawBytes (s : State) : Nat → List Byte × State
  | 0 => ([], s)
  | n + 1 =>
    let r := s.draw
    let x := r.2.drawBytes n
    (leBytes 4 r.1.toNat ++ x.1, x.2)

/-- ORDER_CHALLENGE (R483): a nonce of 32 bytes for 60 s. -/
def State.orderChallenge (p : InParcel) (s : State) : State :=
  let l := byteAt p.ord 0
  if l ≠ 2 ∧ l ≠ 3 then s.refuse p 3
  else
    let r := s.drawBytes 8
    (r.2.modAccess (fun a => { a with nonce := some (r.1, s.clock.rtc + 60 * slowHz) })).accept p r.1

/-- ORDER_CHALLENGE. -/
def execOrderChallenge (s : State) : Host.Outcome State Fault Refusal := .next (s.order 9 State.orderChallenge)

/-- The answer to a challenge is right (R483). -/
def State.answerRight (s : State) (level : Nat) (sig key : List Byte) : Bool :=
  match s.access.nonce with
  | none => false
  | some (n, stop) =>
    let m := sha256 ([if level = 2 then 0x4F else 0x56] ++ n ++ s.serial)
    decide (s.clock.rtc < stop) &&
      (if level = 2 then s.access.fingerprint == some (sha256 key) && Config.verify 1 m (key ++ sig)
       else Config.verify 0 m sig)

/-- ORDER_ANSWER: a nonce serves one answer. -/
def State.orderAnswer (p : InParcel) (s : State) : State :=
  let l := byteAt p.ord 0
  if (l ≠ 2 ∧ l ≠ 3) ∨ p.ord.length < 65 ∨ (l = 2 ∧ p.ord.length < 129) then s.refuse p 3
  else if s.backingOff then s.refuse p 5
  else
    let ok := s.answerRight l ((p.ord.drop 1).take 64) ((p.ord.drop 65).take 64)
    (s.modAccess (fun a => { a with nonce := none })).attemptUnlock p ok l

/-- ORDER_ANSWER. -/
def execOrderAnswer (s : State) : Host.Outcome State Fault Refusal := .next (s.order 0x0A State.orderAnswer)

/-- ORDER_CLOSE (R485). -/
def execOrderClose (s : State) : Host.Outcome State Fault Refusal := .next (s.order 0x0B (fun p t => t.endSession.accept p []))

/-! ## Durable orders: acceptance (R366, R523) -/

/-- A durable order is accepted: its form, the level, its own condition, a free queue entry, in that order; it waits, with
SUPWAIT set, while another holds the cairn write port (R258). A passed level check authenticates the parcel (R485). -/
def State.durable (s : State) (p : InParcel) (form : Bool) (level : Nat) (cond : Bool) : State :=
  if ¬ form ∨ 96 < p.ord.length then s.refuse p 3
  else if s.level < level then s.refuse p 1
  else if ¬ cond then s.refuse p 4
  else if s.portHeld then s.supervisorTake 0
  else match s.queueOrder p.seq p.code s.level (s.get ACCESS.KGEN.KGEN) p.ord with
    | none => s.refuse p 2
    | some (n, t) =>
      let t := if 0 < level then t.authenticated else t
      (t.supervisorDone.set HOST.DWMARK.SEQ p.seq).accept p (leBytes 4 n)

/-- ORDER_TARIFF. -/
def execOrderTariff (s : State) : Host.Outcome State Fault Refusal :=
  .next (s.order 0x0101 (fun p t => t.durable p (decide (1 ≤ p.ord.length) && decide (byteAt p.ord 0 < 8)) 0 true))

/-- ORDER_ADJUST. -/
def execOrderAdjust (s : State) : Host.Outcome State Fault Refusal :=
  .next (s.order 0x0102 (fun p t =>
    t.durable p (decide (16 ≤ p.ord.length) && decide (byteAt p.ord 0 < 64) && decide (byteAt p.ord 1 ≤ 8)) 2 true))

/-- ORDER_TAMPER_CLEAR. -/
def execOrderTamperClear (s : State) : Host.Outcome State Fault Refusal :=
  .next (s.order 0x0103 (fun p t => t.durable p (decide (1 ≤ p.ord.length)) 2 true))

/-- An access-change order of a kind (R486). -/
def isAccess (kind : Nat) (p : InParcel) : Bool := isOrder 0x0104 p && byteAt p.ord 0 == kind

/-- Handle access-change orders that a condition names. -/
def State.accessOrder (s : State) (which : InParcel → Bool) (form : InParcel → Bool) (level : Nat) (cond : State → Bool) :
    State :=
  s.handle which (fun p t => t.orWait (t.durable p (form p) level (cond t)))

/-- ACCESS_SET_VERIFIER: kind 1, at OWNER level. -/
def execAccessSetVerifier (s : State) : Host.Outcome State Fault Refusal :=
  .next (s.accessOrder (isAccess 1) (fun p => decide (33 ≤ p.ord.length)) 2 (fun _ => true))

/-- ACCESS_REMOVE_VERIFIER: kind 2, at OWNER level. -/
def execAccessRemoveVerifier (s : State) : Host.Outcome State Fault Refusal :=
  .next (s.accessOrder (isAccess 2) (fun _ => true) 2 (fun _ => true))

/-- ACCESS_PRODUCTION_LOCK: kind 3, only before PLOCK (R481). -/
def execAccessProductionLock (s : State) : Host.Outcome State Fault Refusal :=
  .next (s.accessOrder (isAccess 3) (fun p => decide (33 ≤ p.ord.length)) 0 (fun t => !t.on ACCESS.LEVEL.PLOCK))

/-- ACCESS_SET_IDLE: kind 4, at OWNER level; an order of no known kind is malformed. -/
def execAccessSetIdle (s : State) : Host.Outcome State Fault Refusal :=
  .next (s.accessOrder (fun p => isOrder 0x0104 p && !(decide (1 ≤ byteAt p.ord 0 ∧ byteAt p.ord 0 ≤ 3)))
    (fun p => decide (2 ≤ p.ord.length) && byteAt p.ord 0 == 4) 2 (fun _ => true))

/-! ## Durable orders: application (R368) -/

/-- A register in 12 bytes: 8 of integer part, 4 of fraction (R356). -/
def reg12 (v : Nat) : List Byte := leBytes 8 (v / 2 ^ 64) ++ leBytes 4 (v / 2 ^ 32)

/-- The total of a slot in 12 bytes. -/
def State.total12 (s : State) (n : Nat) : List Byte := reg12 (s.slots[slotIx n].tot).toNat

/-- An access change is applied: result 0 applied, 1 superseded (R486). -/
def State.applyAccess (s : State) (e : QEntry) : Nat × State :=
  let kind := byteAt e.body 0
  let key := (e.body.drop 1).take 32
  let next := s.set ACCESS.KGEN.KGEN (s.get ACCESS.KGEN.KGEN + 1)
  if kind = 1 then
    (if e.kgen ≠ s.get ACCESS.KGEN.KGEN then (1, s)
     else (0, (next.flag ACCESS.LEVEL.PWSET true).modAccess (fun a => { a with verifier := some key })))
  else if kind = 2 then (0, (next.flag ACCESS.LEVEL.PWSET false).modAccess (fun a => { a with verifier := none }))
  else if kind = 3 then
    (0, if s.on ACCESS.LEVEL.PLOCK then s
        else
          let t := ((s.flag ACCESS.LEVEL.FPSET true).flag ACCESS.LEVEL.PLOCK true).set ACCESS.LEVEL.LEVEL 0
          (t.modAccess (fun a => { a with fingerprint := some key })).arrive 0x43)
  else (0, s.set ACCESS.CTRL.IDLE (max 1 (byteAt e.body 1)))

/-- What an order does, and the data of its outcome record (R356). -/
def State.orderEffect (s : State) (e : QEntry) : List Byte × State :=
  let b := e.body
  if e.ocode = 0x0101 then
    ([BitVec.ofNat 8 (s.get NRG.TARIFF.T), BitVec.ofNat 8 (byteAt b 0)], s.setTariff (byteAt b 0) 2)
  else if e.ocode = 0x0102 then
    let n := Fin.ofNat 64 (byteAt b 0)
    let amount := sextN 64 (unAt b 4 8) * 2 ^ 32 + (u32At b 12 : Nat)
    let t := s.adjust n (byteAt b 1) amount
    (padTo 16 b ++ s.total12 n ++ t.total12 n, t)
  else if e.ocode = 0x0103 then
    ([BitVec.ofNat 8 (byteAt b 0)],
      (s.tampClear (byteAt b 0) (decide (3 ≤ e.level) && byteAt b 0 == 0xFF)).belayDue .evidence)
  else
    let r := s.applyAccess e
    ([BitVec.ofNat 8 (byteAt b 0), BitVec.ofNat 8 e.level, BitVec.ofNat 8 r.1, 0] ++
      leBytes 4 (r.2.get ACCESS.KGEN.KGEN), r.2.belayDue .evidence)

/-- The first pending order is applied at a boundary; its outcome record and LASTORD are staged (R368). -/
def State.applyOrder (s : State) : State :=
  match s.pendingOrders with
  | [] => s
  | e :: _ =>
    let r := s.orderEffect e
    let t := r.2.stageOutcome false e.ordno e.pseq e.ocode r.1
    ({ t with jrnl := { t.jrnl with lastord := e.ordno } } : State).jrnlStatus.arrive 0x2E

/-- START is applied at a boundary (R284, R356, R558): conversions, the outcome record, RUN. -/
def State.applyStart (s : State) : State :=
  match s.pwr.start with
  | none => s
  | some (seq, body) =>
    let r := (List.finRange 8).foldl (fun (a : List Byte × State) (b : Fin 8) =>
      let e := startEntry body b
      if byteAt e 2 ≠ 1 then a
      else
        let n := Fin.ofNat 64 (byteAt e 0)
        let raw := regValue (baseMode b) a.2.slots[slotIx (64 + b)].tot
        let v := convertValue (a.2.slotMode n) (a.2.slotK n) raw
        (a.1 ++ [BitVec.ofNat 8 b.val, BitVec.ofNat 8 n.val, BitVec.ofNat 8 (byteAt e 1), 0] ++ reg12 (wrapN 128 raw) ++
          leBytes 8 (a.2.slotK n) ++ reg12 (wrapN 128 v), a.2.convert b n (byteAt e 1))) ([], s)
    ((r.2.stageOutcome false 0 seq 1 r.1).set PWR.STATE.STATE 0).modPwr (fun p => { p with start := none })

/-! ## READ views (R527) -/

/-- The views of R527. -/
def viewCodes : List Nat := [1, 2, 3, 4, 5, 6, 7, 8, 9]

/-- A parcel is a READ of a view. -/
def isView (v : Nat) (p : InParcel) : Bool := p.type == 3 && decide (4 ≤ p.body.length) && u16At p.body 0 == v

/-- A parcel is a READ of no known view. -/
def unknownView (p : InParcel) : Bool :=
  p.type == 3 && (decide (p.body.length < 4) || !viewCodes.contains (u16At p.body 0))

/-- The view's number and its data. -/
def State.answerView (s : State) (p : InParcel) (v : Nat) (data : List Byte) : State :=
  s.answerGood p 0x82 0 0 (leBytes 2 v ++ zeros 2 ++ data)

/-- Handle READs of a view. -/
def State.view (s : State) (v : Nat) (act : InParcel → State → State) : State :=
  s.handle (isView v) (fun p t => t.orWait (act p t))

/-- A register as the handler reads it, without effects. -/
def State.regBytes (s : State) (u idx : Nat) : List Byte := leBytes 4 (s.peek 5 u idx)

/-- VIEW_INVENTORY: SYS 0x00 to 0x0C. A READ of no known view is malformed. -/
def execViewInventory (s : State) : Host.Outcome State Fault Refusal :=
  .next (s.handle (fun p => isView 1 p || unknownView p) (fun p t =>
    t.orWait (if unknownView p then t.refuse p 3
      else t.answerView p 1 ((List.range 13).flatMap (fun i => t.regBytes 0 i)))))

/-- VIEW_STATUS: CSEQ and ACKSEQ as low and high word. -/
def execViewStatus (s : State) : Host.Outcome State Fault Refusal :=
  .next (s.view 2 (fun p t => t.answerView p 2 (
    t.regBytes 0x40 0 ++ t.regBytes 0x41 0 ++ t.regBytes 0 0x0C ++ t.regBytes 0 0x10 ++ t.regBytes 0x29 0 ++
    leBytes 8 t.jrnl.cseq ++ leBytes 8 t.jrnl.ackseq ++ t.regBytes 0x28 0x10 ++ t.regBytes 0x3D 0)))

/-- The total and T0–T7 of a slot, live or as the last belay has them (R278). -/
def State.slotTotals (s : State) (live : Bool) (n : Nat) : List Byte :=
  if live then (s.slots[slotIx n].tot :: s.slots[slotIx n].subs.toList).flatMap (fun v => reg12 v.toNat)
  else match newer s.jrnl.committed (newer (s.half 0) (s.half 1)) with
    | none => zeros 108
    | some b =>
      let x := b.slots.getD n ⟨0, 0, 0, 0, 0, List.replicate 8 0⟩
      (x.tot :: x.subs).flatMap (fun v => reg12 v.toNat)

/-- VIEW_TOTALS. -/
def execViewTotals (s : State) : Host.Outcome State Fault Refusal :=
  .next (s.view 3 (fun p t =>
    let first := byteAt p.body 4
    let n := byteAt p.body 5
    if p.body.length < 7 ∨ 24 < n ∨ 72 < first + n ∨ 1 < byteAt p.body 6 then t.refuse p 3
    else t.answerView p 3 ((List.range n).flatMap (fun i => t.slotTotals (byteAt p.body 6 == 1) (first + i)))))

/-- The host takes its sources: HPEND, pending bits and presentations clear, RRLAST becomes the host (R410). -/
def State.hostTakes (s : State) : State :=
  let t := ((List.range 0x60).map (· + 0x10)).foldl (fun (t : State) src =>
    if s.bit (IRQ.HPEND.PEND ((src - 0x10) / 32)) ((src - 0x10) % 32) then
      (t.takeSource 0 src 2).setBit (IRQ.HPEND.PEND ((src - 0x10) / 32)) ((src - 0x10) % 32) false
    else t) s
  { t with irq := { t.irq with host := [] } }

/-- VIEW_INTERRUPTS. -/
def execViewInterrupts (s : State) : Host.Outcome State Fault Refusal :=
  .next (s.view 4 (fun p t =>
    (t.hostTakes).answerView p 4 ((List.range 3).flatMap (fun i => leBytes 4 (t.get (IRQ.HPEND.PEND i))))))

/-- VIEW_QUANTITY_STORE: bytes of the quantity store. -/
def execViewQuantityStore (s : State) : Host.Outcome State Fault Refusal :=
  .next (s.view 5 (fun p t =>
    let off := u32At p.body 4
    let n := u16At p.body 8
    if p.body.length < 10 ∨ 4080 < n ∨ n % 4 ≠ 0 ∨ 0x100000 < off + n then t.refuse p 3
    else t.answerView p 5 (t.bytes (0x10680000 + off) n)))

/-- Registers read in index order as CC0 reads them (R192). -/
def State.readUnit (s : State) (u first : Nat) : Nat → List Byte × State
  | 0 => ([], s)
  | n + 1 =>
    let r := s.busRead 5 u first
    let x := r.2.readUnit u (first + 1) n
    (leBytes 4 r.1 ++ x.1, x.2)

/-- VIEW_UNIT: absent unit 6, undefined index 7, guarded register 1. -/
def execViewUnit (s : State) : Host.Outcome State Fault Refusal :=
  .next (s.view 6 (fun p t =>
    let u := byteAt p.body 4
    let first := byteAt p.body 5
    let n := byteAt p.body 6
    let ix := (List.range n).map (· + first)
    if p.body.length < 7 ∨ 64 < n then t.refuse p 3
    else if ¬ t.part.hasUnit u then t.refuse p 6
    else if ix.any (fun i => !t.busDefined u i) then t.refuse p 7
    else if ix.any (fun i => (leaseGuard u i).isSome) then t.refuse p 1
    else
      let r := t.readUnit u first n
      r.2.answerView p 6 r.1))

/-- VIEW_CAIRN: words of an area, zero beyond it (R370). -/
def execViewCairn (s : State) : Host.Outcome State Fault Refusal :=
  .next (s.view 7 (fun p t =>
    let area := byteAt p.body 4
    let first := u16At p.body 5
    let n := u16At p.body 7
    if p.body.length < 9 ∨ 1020 < n ∨ 5 < area then t.refuse p 3
    else t.answerView p 7 ((List.range n).flatMap (fun i =>
      leBytes 4 (if first + i < areaWords area then (t.cairnRead area (first + i)).toNat else 0)))))

/-- VIEW_QUOTE: the request is copied now and answered when it is signed (R489); its slot stays taken. -/
def execViewQuote (s : State) : Host.Outcome State Fault Refusal :=
  .next (s.view 8 (fun p t =>
    if p.body.length < 36 then t.refuse p 3
    else (t.modAccess (fun a => { a with
      quotes := a.quotes ++ [⟨p.slot, p.seq, t.quoteBody ((p.body.drop 4).take 32)⟩] })).freeFront))

/-- VIEW_START_REPORT. -/
def execViewStartReport (s : State) : Host.Outcome State Fault Refusal := .next (s.view 9 (fun p t => t.answerView p 9 t.link.report))

/-! ## Parcels sent unasked (R330, R361, R364, R528) -/

/-- As many records as fit 4096 bytes, in order from a number: their bytes and the number after them. -/
def gather : List RingRec → Nat → Nat → List Byte × Nat
  | [], next, _ => ([], next)
  | r :: l, next, room =>
    if r.seq = next ∧ r.what.len ≤ room then
      let x := gather l (next + 1) (room - r.what.len)
      (r.what.bytes r.seq ++ x.1, x.2)
    else if r.seq < next then gather l next room
    else ([], next)

/-- The carry has parts to deliver: it holds something, and not all of its parts have been sent with this LAST. -/
def State.carryOwed (s : State) : Bool :=
  !s.jrnl.carry.empty && (s.link.carrySent != s.jrnl.carry.last || decide (s.link.carryPart < s.jrnl.carry.records.length))

/-- JOURNAL_PARCEL_SEND: a part of the carry, or committed records in sequence order from the oldest not acknowledged. -/
def execJournalParcelSend (s : State) : Host.Outcome State Fault Refusal :=
  .next (if s.power ≠ .on ∨ ¬ s.clock.pllLock ∨ s.link.owed ∨ s.outFull then s
  else if s.carryOwed then
    let c := s.jrnl.carry
    let k := if s.link.carrySent = c.last then s.link.carryPart else 0
    (s.send 0x83 0 (c.records.getD k [])).modLink (fun l => { l with
      carrySent := c.last, carryPart := k + 1, nextRec := max l.nextRec (c.last + 1) })
  else
    let next := max s.link.nextRec (s.jrnl.ackseq + 1)
    let x := gather (s.cairn.ring.filter (fun r => decide (r.seq < s.jrnl.cseq))) next 4096
    if x.1 = [] then s else (s.send 0x83 0 x.1).modLink (fun l => { l with nextRec := x.2 }))

/-- DRAW_PARCEL: at most 56 frames from DRAWPOS; the last one ends the draw. -/
def execDrawParcel (s : State) : Host.Outcome State Fault Refusal :=
  .next (if s.power ≠ .on ∨ s.get CAPT.STATUS.STATE ≠ 5 ∨ s.outFull then s
  else
    let pos := s.get CAPT.DRAWPOS.POS
    let n := min 56 (s.get CAPT.COUNT.COUNT - pos)
    let first := s.get2 CAPT.FIRSTLO.GLO CAPT.FIRSTHI.GHI
    let frames := (List.range n).flatMap (fun i => s.bytes (0x10000000 + 72 * ((first + pos + i) % 58254)) 72)
    let t := if n = 0 then s
      else s.send 0x82 0 (answerPrefix 0 0 0 ++ leBytes 2 0x30 ++ zeros 2 ++ leBytes 2 pos ++ leBytes 2 n ++ frames)
    let t := t.set CAPT.DRAWPOS.POS (pos + n)
    if s.get CAPT.COUNT.COUNT ≤ pos + n then (t.set CAPT.STATUS.STATE 4).arrive 0x2A else t)

end Sys2Proof.Machine
end

