-- ==== Sys2Proof/Machine/Restart.lean ====
section
/-! DEFINITION. Restarts and what survives them, recovery at start-up, bivouac, and the supply's coming and going (R25, R55,
R348, R349, R374, R417, R458, R461, R479, R500–R512, R529, R554). -/

namespace Sys2Proof.Machine

/-! ## What survives (R511, R512) -/

/-- A survival class is kept: S2 except at a cold start, S1 where a bivouac save restores it (R511). -/
def Surv.kept (cold s1 : Bool) : Surv → Bool
  | .s0 => false
  | .s1 => s1
  | .s2 => !cold
  | .s3 | .s4 => true

/-- The register fields that survive; the others read their reset values, and every value is in force. The module SEQ is
the host die's (R530); the kind of this start is about to move to PREV (R509). -/
def State.keepFields (s : State) (cold s1 : Bool) : State :=
  let l := s.flds.filter (fun e => e.1.surv.kept cold s1 || e.1 == HOST.OUTSEQ.SEQ || e.1 == RST.CAUSE.CAUSE)
  { s with flds := l, force := l }

/-- An update was driving: its region's state is unknown (R457). -/
def State.updDriving (s : State) : Bool := match s.glass.upd with | none => false | some u => u.began.isSome

/-- The tamper supervisor's memory and the field keys go with the always-on state alone (R466, R512). -/
def State.dropAlwaysOn (s : State) (cold : Bool) : State :=
  if cold then
    { s with
      mem := [], tamp := Tamp.zero, glass := GlassSt.zero, pulse := Vector.replicate 4 PulseOut.zero
      clock := { s.clock with rtc := 0, slowPh := 0, tie := none }
      access := { AccessSt.zero with fingerprint := s.access.fingerprint } }
  else
    let t := if s.updDriving then s.flag GLASS.BSTHI.UNKNOWN true else s
    { t with
      mem := s.mem.filter (fun e => decide (0x20000000 ≤ e.1))
      tamp := { s.tamp with test := 0, zeroized := false }
      glass := { GlassSt.zero with
        bal := s.balNow, flagOwed := s.glass.flagOwed, pulseAt := s.glass.pulseAt, pulseFails := s.glass.pulseFails
        learn := s.glass.learn, crkAt := s.glass.crkAt }
      pulse := s.pulse.map (fun p => { PulseOut.zero with
        acc := p.held.acc, src := p.held.src, const := p.held.const, pend := p.held, held := p.held })
      access := { s.access with lastAuth := 0, meas := measZero, quotes := [] } }

/-- BLOG and CNT after a warm start are those of the last belay in always-on SRAM (R290). -/
def State.pulseKept (s : State) (cold : Bool) : State :=
  if cold then s
  else (List.finRange 4).foldl (fun (t : State) (n : Fin 4) =>
    (t.set (PULSE.BLOG.COUNT n) s.pulse[n].held.blog).set (PULSE.CNT.COUNT n) s.pulse[n].held.cnt) s

/-- The state of the mains side that is in no register (R512): all of it goes, but for S1 and what the always-on domain
keeps. CORE cycles count from the reset (R196, R197), grains from 0 after a cold start (R70). -/
def State.dropVolatile (s : State) (cold s1 : Bool) : State :=
  let t := s.dropAlwaysOn cold
  { t with
    clock := { t.clock with now := 0, grain := if cold then 0 else t.clock.grain, pllLock := false, glen := 6400, xtalOk := true }
    lanes := Vector.replicate 5 Lane.zero
    cores := #v[CoreSt.zero 0, CoreSt.zero 0x100]
    tracker := Tracker.zero
    pps := if s1 then s.pps else Pps.zero
    utcSet := none
    cues := []
    chain := { Chain.zero with chvdd := s.chain.chvdd }
    quads := Vector.replicate 4 Quad.zero
    selfCal := none
    shNode := Vector.replicate 3 ShNode.zero
    bitMon := ⟨0, false, List.replicate 8 0, List.replicate 8 0⟩
    second := []
    retiring := []
    changeOver := []
    streams := Streams.zero
    progs := []
    laneOrders := []
    rope := Rope.zero
    leases := Vector.replicate 12 ⟨0, 0, []⟩
    watch := ⟨0, false, false, false⟩
    port := ⟨false, false, [], 0⟩
    readAt := 0
    pq := s.pqReset
    capt := Capt.zero
    aux := AuxSt.zero 0
    irq := { Irq.zero with lines := if s1 then s.irq.lines else s.irq.lines.map (fun x =>
      { x with filt := x.raw, unconfirmed := false }) }
    modem := ModemSt.zero
    pwr := { PowerSt.zero with served := Vector.replicate 2 0 }
    link := { s.link with
      inb := [], taken := false, stored := [], words := [], lastIn := t.clock.rtc, imgLen := none, parts := []
      staged := [], nextRec := 1, carrySent := 0, carryPart := 0, owed := false } }

/-! ## Torn writes (R340, R341, R508) -/

/-- An open choice: whether a write had begun. -/
def State.openBit (s : State) : Bool × State :=
  let r := s.openVal
  (r.1 % 2 == 1, r.2)

/-- The state record being written loses its slot. -/
def Cairn.tearState (c : Cairn) : Cairn :=
  if genOf c.stA ≤ genOf c.stB then { c with stA := none, tornSt := true } else { c with stB := none, tornSt := true }

/-- The carry being written loses its slot. -/
def Cairn.tearCarry (c : Cairn) : Cairn :=
  if carryGen c.cyA ≤ carryGen c.cyB then { c with cyA := none, tornCy := true } else { c with cyB := none, tornCy := true }

/-- The always-on half being written loses its commit word. -/
def State.tearHalf (s : State) : State := s.setBytes (halfAddr s.nextHalf + 0x2FF0) (zeros 16)

/-- The entry of a durable order being written loses its place (R341, R366). -/
def Cairn.tearOrder (c : Cairn) (n : Nat) : Cairn :=
  { c with orders := c.orders.filter (fun x => (x.ordno - 1) % 128 != (n - 1) % 128), tornOrd := true }

/-- The first parcel is a durable order that is not answered yet: its queue entry may be under way (R366). -/
def State.orderArriving (s : State) : Bool :=
  !s.portHeld && decide (s.ordersInUse.length < 128) &&
    match s.link.inb with | [] => false | p :: _ => [0x0101, 0x0102, 0x0103, 0x0104].any (fun c => isOrder c p)

/-- What stops without warning tears the writes that are open; whether one had begun is left open. -/
def State.tear (s : State) : State :=
  let s : State := if s.cairnWriting then
      let r := s.openBit
      if r.1 then { r.2 with cairn := r.2.cairn.tearState } else r.2 else s
  let s : State := if s.jrnl.carryPend.isSome then
      let r := s.openBit
      if r.1 then { r.2 with cairn := r.2.cairn.tearCarry } else r.2 else s
  let s : State := if s.orderArriving then
      let r := s.openBit
      if r.1 then { r.2 with cairn := r.2.cairn.tearOrder s.jrnl.nextord } else r.2 else s
  if s.jrnl.aonPend.isSome then
    let r := s.openBit
    if r.1 then r.2.tearHalf else r.2
  else s

/-! ## Recovery (R341, R348, R349) -/

/-- The committed state record. -/
def State.committedRec (s : State) : Option Belay := newer s.cairn.stA s.cairn.stB

/-- The newer valid half of always-on SRAM, where it is retained. -/
def State.keptHalf (s : State) (cold : Bool) : Option Belay := if cold then none else newer (s.half 0) (s.half 1)

/-- The belay restored: the half where its generation is greater. -/
def State.restored (s : State) (cold : Bool) : Option Belay := newer s.committedRec (s.keptHalf cold)

/-- A slot as an image gives it: no booking yet in the new run. -/
def SlotImg.slot (x : SlotImg) : Slot :=
  { Slot.zero with tot := x.tot, subs := Vector.ofFn (fun i : Fin 8 => x.subs.getD i 0) }

/-- No image. -/
def SlotImg.zero : SlotImg := ⟨0, 0, 0, 0, 0, List.replicate 8 0⟩

/-- Totals, sub-registers, flags, bindings and T from a belay, zero where it is lost. -/
def State.restoreSlots (s : State) (b : Option Belay) : State :=
  let img : Nat → SlotImg := fun n => match b with | none => SlotImg.zero | some x => x.slots.getD n SlotImg.zero
  let s : State := { s with slots := Vector.ofFn (fun n : Fin 72 =>
    { (img n).slot with newBind := decide (64 ≤ n.val) }) }
  let s := s.set NRG.TARIFF.T (match b with | none => 0 | some x => x.t)
  let s := s.forN 72 (fun n t =>
    let f := (img n).flags
    ((((t.set (NRG.SFLAGS.MRK n) (field f 0 1)).set (NRG.SFLAGS.INV n) (field f 1 1)).set (NRG.SFLAGS.UNVER n)
      (field f 2 1)).set (NRG.SFLAGS.CLAMP n) (field f 3 1)).set (NRG.SFLAGS.WRAP n) (field f 4 1))
  s.forN 64 (fun n t =>
    ((t.set (NRG.BIND.QTY n) (img n).qty).set (NRG.BIND.MODE n) (img n).mode).set (NRG.BIND.QD n) (img n).qd)

/-- The tamper state after a cold start is that of the record (R349, R474): what stood in always-on SRAM alone is lost
(R479). -/
def State.restoreTamper (s : State) (e : Evidence) : State :=
  let s := ((s.set TAMP.STICKY.ALARM e.alarm).set TAMP.STICKY.DETFLT e.detflt).flag TAMP.STICKY.FI e.fi
  let s := ((s.set ACCESS.KGEN.KGEN e.kgen).set ACCESS.FAIL.COUNT e.fails).set TAMP.RING.DROP e.dropped
  { s with
    resp := Vector.ofFn (fun i : Fin 8 => e.resp.getD i 0)
    access := { s.access with retryAt := e.backoff * slowHz } }

/-- The records below a number. -/
def ringBelow (l : List RingRec) (n : Nat) : List RingRec := l.filter (fun r => decide (r.seq < n))

/-- The numbers from which the journal goes on: those of the committed state record; where it is lost, those of the
restored half; where nothing is left, 1 and an empty ring, or open values beside a ring that holds records. -/
def State.journalFrom (s : State) (st : Option Belay) : (Nat × Nat × Nat) × State :=
  match s.committedRec, st with
  | some b, _ => ((b.nextseq, b.head, b.ackseq), s)
  | none, some b => ((b.nextseq, b.head, b.ackseq), s)
  | none, none =>
    if s.cairn.ring = [] then ((1, 0, 0), s)
    else
      let r := s.openVal
      let q := r.2.openVal
      ((r.1 + 1, q.1 % ringSize, 0), q.2)

/-- The highest order number in the queue. -/
def Cairn.topOrder (c : Cairn) : Nat := c.orders.foldl (fun a e => max a e.ordno) 0

/-- The carry that is committed, empty once it is acknowledged (R364). -/
def Cairn.carryFrom (c : Cairn) (ackseq : Nat) : Carry :=
  match (if carryGen c.cyA < carryGen c.cyB then c.cyB else c.cyA) with
  | none => Carry.zero
  | some x => if x.last ≤ ackseq then { x with empty := true } else x

/-- The journal after a start (R349): staged records are gone, PREV is the last committed belay record's SNAP. -/
def State.recoverJournal (s : State) (st : Option Belay) (epoch : Nat) : State :=
  let c := s.committedRec
  let r := s.journalFrom st
  let n := r.1
  let ring := ringBelow s.cairn.ring n.1
  { r.2 with
    cairn := { r.2.cairn with ring := ring }
    jrnl := { Jrnl.zero with
      nextseq := n.1, cseq := n.1, ackseq := n.2.2, head := n.2.1, tail := Sys2Proof.Machine.tailOf ring n.2.1, epoch := epoch
      gen := genOf st
      lastord := match st with | none => s.cairn.topOrder | some b => b.lastord
      nextord := s.cairn.topOrder + 1
      retgen := match st with | none => 0 | some b => b.retgen
      prev := match c with | none => [] | some b => b.slots
      prevSnap := match c with | none => 0 | some b => b.snap
      committed := c
      carry := s.cairn.carryFrom n.2.2 } }

/-- The gap record of a start (R348, R357): FROM is the SNAP of the belay restored. -/
def State.gapOwed (s : State) (st : Option Belay) (epoch : Nat) (half : Bool) : GapDue :=
  let lost := half && (match s.committedRec, st with | some c, some b => decide (c.nextseq < b.nextseq) | _, _ => false)
  match st with
  | none => ⟨0, 0, 3, 1⟩
  | some b => ⟨b.snap, b.epoch, if half then 1 else 2, 2 * ofB (b.epoch != epoch) + 4 * ofB lost⟩

/-- The cairn's flags of a start (R341). -/
def State.cairnFlags (s : State) : State :=
  let c := s.cairn
  let s := (s.flag CAIRN.STATUS.STFLT s.committedRec.isNone).flag CAIRN.STATUS.TRFLT c.trimSel.isNone
  (s.flag CAIRN.STATUS.CYFLT (c.cyA.isNone && c.cyB.isNone)).set CAIRN.STATUS.TORN
    (ofB c.tornSt + 2 * ofB c.tornCy + 4 * ofB (!(c.trA.valid && c.trB.valid)) + 8 * ofB c.tornOrd)

/-- The glass records in the ring: their 64 data bytes, oldest first (R456). -/
def glassRecords (ring : List RingRec) : List (List Byte) :=
  (ring.filter (fun r => r.what.type == 2 && byteAt r.what.body 0 == 0x28 && byteAt r.what.body 1 == 0x38)).map
    (fun r => r.what.body.drop 4)

/-- Balance and BST after a cold start (R458): from the newest record; from the one before it where that only started. -/
def State.glassCold (s : State) : State :=
  match (glassRecords s.cairn.ring).reverse with
  | [] => s
  | r :: rest =>
    if byteAt r 0 = 1 then
      ((s.setBst (unAt (rest.headD []) 33 7)).flag GLASS.STATUS.BALUNK true).flag GLASS.BSTHI.UNKNOWN true
    else
      let cls := fun (n : Nat) => field (byteAt r (20 + n / 4)) (2 * (n % 4)) 2
      let t := s.modGlass (fun g => { g with bal := (List.range 52).map (fun n => sextN 32 (u32At r (4 + 4 * cls n))) })
      ((t.setBst (unAt r 33 7)).flag GLASS.BSTHI.UNKNOWN (decide (2 ≤ byteAt r 3 ∧ byteAt r 3 ≤ 4))).compPend

/-- The recovery by the boot ROM (R349, R387, R246). -/
def State.recover (s : State) (cold : Bool) (kept : Nat) : State :=
  let st := s.restored cold
  let half := decide (genOf s.committedRec < genOf (s.keptHalf cold))
  let epoch := match st with
    | some b => (b.epoch + ofB cold) % 2 ^ 16
    | none => if cold then 1 else kept
  let gap := s.gapOwed st epoch half
  let t := (s.cairnFlags.restoreSlots st).recoverJournal st epoch
  let t := t.modPwr (fun p => { p with gap := some gap })
  let t := if cold then
      (t.restoreTamper (match st with | none => Belay.factory.ev | some b => b.ev)).glassCold else t
  let t := t.inForce.loadRetired.loadDrift.setRoles.jrnlStatus
  if cold then t.modGlass (fun g => { g with flagOwed := bitOf (t.get TAMP.INFORCE.RESP) 0 }) else t

/-! ## Restarts (R509) -/

/-- A start of a kind: what survives, the cause, the recovery; SLOWDEG stands while no crystal drives SLOW (R27, R65); the
PLL locks later. -/
def State.restart (s : State) (kind : Nat) (cold s1 : Bool) : State :=
  let t := ((s.dropVolatile cold s1).keepFields cold s1).pulseKept cold
  let t : State := { t with power := .on }
  let t := (t.set RST.CAUSE.PREV (if cold then 0 else s.get RST.CAUSE.CAUSE)).set RST.CAUSE.CAUSE kind
  let t := if cold then t else t.bump RST.NRESET.COUNT RST.NRESET.SAT
  let t := t.flag SYS.STATUS.SLOWDEG (!t.slowGood)
  t.recover cold s.jrnl.epoch

/-- A pre-reset belay is committed since the decision (R347). -/
def State.resetBelayed (s : State) (d : ResetDue) : Bool :=
  !s.jrnl.due.contains .prereset && s.jrnl.cairnPend.isNone &&
    (match s.jrnl.committed with | none => false | some b => b.kind == 4 && decide (d.grain < b.snap))

/-- RESET_ASSERT (R347): when the pre-reset belay is committed, or 48 grains after the decision. -/
def execResetAssert (s : State) : Host.Outcome State Fault Refusal :=
  .next (match s.pwr.reset with
    | none => s
    | some d =>
      if s.power = .on ∧ (s.resetBelayed d ∨ d.grain + 48 ≤ s.clock.grain) then s.tear.restart d.kind false false else s)

/-- BROWN_OUT (R509). -/
def execBrownOut (s : State) : Host.Outcome State Fault Refusal :=
  .next (if s.power = .on then s.tear.restart 4 false false else s)

/-- HRESET (R55, R509, R530): the host die, while HVDD is present, and the mains side where it runs. -/
def execHreset (s : State) : Host.Outcome State Fault Refusal :=
  .next (if ¬ s.link.hvdd then s
  else if s.power = .on then s.linkLost.tear.restart 9 false false
  else s.linkLost)

/-! ## The start itself (R25, R70, R374, R479, R529, R554) -/

/-- A copy of the factory trims is good (R374): MAGIC and the check word. -/
def otpGood (copy : Nat) : Bool :=
  let w := fun (i : Nat) => (Config.otpWord (2048 * copy + i)).toNat
  w 0 == 0x4D54524D && w 2047 == crc32c ((List.range 2047).flatMap (fun i => leBytes 4 (w i)))

/-- Both copies are identical. -/
def otpSame : Bool := (List.range 2048).all (fun i => Config.otpWord i == Config.otpWord (2048 + i))

/-- Both copies are checked (R374). -/
def State.checkTrims (s : State) : State :=
  let a := otpGood 0
  let b := otpGood 1
  let s := ((s.flag TRIM.STATUS.C0BAD (!a)).flag TRIM.STATUS.C1BAD (!b)).flag TRIM.STATUS.DIFF (a && b && !otpSame)
  (s.flag SYS.STATUS.TRIM1 (a != b)).flag SYS.STATUS.TRIMFLT (!a && !b)

/-- The body of the retire record of a retirement (R358). -/
def retireBody : RetireWhat → List Byte
  | .core q k j => [0, BitVec.ofNat 8 (16 + q), BitVec.ofNat 8 (2 * k + j), 0]
  | .spare q => [1, BitVec.ofNat 8 (16 + q), 0, 0]
  | .lane n => [2, 0, BitVec.ofNat 8 n, 0]

/-- The retirements that the trim record holds. -/
def Cairn.retirements (c : Cairn) : List RetireWhat :=
  let map := (wordsGet c.trim.words 2).toNat
  let w3 := (wordsGet c.trim.words 3).toNat
  ((List.range 4).flatMap (fun q => (List.range 2).flatMap (fun j => (List.range 4).filterMap (fun k =>
    if bitOf map (8 * q + 4 * j + k) then some (RetireWhat.core q k j) else none)))) ++
  ((List.range 4).filterMap (fun q => if bitOf w3 q then some (.spare q) else none)) ++
  ((List.range 5).filterMap (fun n => if bitOf w3 (8 + n) then none else some (.lane n)))

/-- One retire record for each retirement that the restored record does not count (R349): of those without a record in
the ring. -/
def State.stageRetirements (s : State) : State :=
  let missing := (wordsGet s.cairn.trim.words 1).toNat - s.jrnl.retgen
  let l := (s.cairn.retirements.map retireBody).filter (fun b =>
    !s.cairn.ring.any (fun r => r.what.type == 7 && r.what.body == b))
  let t := (l.take missing).foldl (fun (t : State) b => t.stageAt 7 t.clock.grain true b) s
  { t with jrnl := { t.jrnl with retgen := t.jrnl.retgen + missing } }

/-- The data of a reconstructed outcome record (R349): what the queue entry holds, zero totals for an adjustment; what
the entry does not hold of a tariff or access change is open. -/
def State.rebuiltData (s : State) (e : QEntry) : List Byte × State :=
  let r := s.openVal
  if e.ocode = 0x0101 then ([BitVec.ofNat 8 r.1, BitVec.ofNat 8 (byteAt e.body 0)], r.2)
  else if e.ocode = 0x0102 then (padTo 40 (padTo 16 e.body), s)
  else if e.ocode = 0x0103 then ([BitVec.ofNat 8 (byteAt e.body 0)], s)
  else ([BitVec.ofNat 8 (byteAt e.body 0), BitVec.ofNat 8 e.level, BitVec.ofNat 8 r.1, 0] ++ leBytes 4 (r.1 / 256), r.2)

/-- The orders applied after the committed state record and by the restored one: their outcomes anew (R349). -/
def State.stageOutcomes (s : State) : State :=
  let done := match s.jrnl.committed with | none => s.jrnl.lastord | some b => b.lastord
  (s.cairn.orders.filter (fun e => decide (done < e.ordno ∧ e.ordno ≤ s.jrnl.lastord))).foldl (fun (t : State) e =>
    let r := t.rebuiltData e
    r.2.stageOutcome true e.ordno e.pseq e.ocode r.1) s

/-- The entries of the cell-only ring become tamper records (R479). -/
def State.stageRing (s : State) : State :=
  if s.tamp.ring = [] then s
  else
    let t := s.tamp.ring.foldl (fun (t : State) e =>
      let u := t.stageTamper e.src e.kind e.resp true e.rtc
      if e.kind = 1 ∧ bitOf e.resp 1 then u.arrive 0x40 else u) s
    ((t.modTamp (fun x => { x with ring := [] })).mirrorRing).belayDue .evidence

/-- The state lost by a start (R529): bit 8, S1, is kept by a bivouac exit. -/
def lostBits (kind : Nat) : Nat := 0x2FF + 0x100 * ofB (kind != 3)

/-- The start report from its byte 8 on (R529). -/
def State.startReport (s : State) : List Byte :=
  let kind := s.get RST.CAUSE.CAUSE
  [BitVec.ofNat 8 kind, BitVec.ofNat 8 (s.get RST.CAUSE.PREV)] ++ leBytes 2 s.jrnl.epoch ++
    leBytes 4 (s.get HOST.DWMARK.SEQ) ++ leBytes 4 (s.jrnl.nextord - 1) ++ leBytes 4 (s.get HOST.WMARK.SEQ) ++
    leBytes 4 (lostBits kind) ++
    leBytes 4 (s.get SYS.STATUS.TRIMFLT + 2 * s.get SYS.STATUS.TRIM1 + 4 * s.get CAIRN.STATUS.STFLT +
      8 * s.get RST.CAUSE.SAVEBAD + 16 * s.get NRG.BCSTAT.BCRUN) ++
    leBytes 6 s.jrnl.ackseq ++ leBytes 6 s.jrnl.cseq ++ (List.range 8).flatMap (fun b => s.total12 (64 + b))

/-- The grain counter starts at 0, or rebuilt from the tie (R70, R72); a warm start before any tie was written starts it at 0
too (DESIGN CHOICE, log entry 51); the tracker is in ACQUIRE (R81). -/
def State.startGrains (s : State) : State :=
  let g := match s.clock.tie with | none => (0, 0) | some t => rebuild t s.clock.rtc
  let s : State := { s with
    clock := { s.clock with pllLock := true, grain := g.1, phase := g.2, glen := 6400 }
    jrnl := { s.jrnl with lastPitchSnap := g.1 } }
  let s := (s.set TIME.TRK.STATE 0).set TIME.TRK.QUAL 0
  { s with tracker := s.tracker.acquire g.1 (s.on TIME.CTRL.NOM60) }

/-- The gap record of the start is staged (R349, R554), open at its end. -/
def State.stageOwed (s : State) : State :=
  match s.pwr.gap with
  | none => s
  | some g => s.stageGap g.start s.clock.grain g.cause g.flags g.epoch

/-- MEAS0 holds the boot ROM and the base camp program (R238, R487). -/
def State.measureBoot (s : State) : State := Config.bootMeasures.foldl (fun t d => t.extend 0 (padTo 32 d)) s

/-- The rest of a start once the PLL locks (R554): trims checked, records staged, base camp runs, the report placed. -/
def State.bootDone (s : State) : State :=
  let s := (s.startGrains.checkTrims.measureBoot.stageOwed.stageRetirements.stageOutcomes.stageRing).flag NRG.BCSTAT.BCRUN true
  (s.modLink (fun l => { l with report := s.startReport, owed := true })).sendReport

/-- PLL_LOCK (R25, R70, R554). -/
def execPllLock (s : State) : Host.Outcome State Fault Refusal :=
  .next (if s.power = .on ∧ ¬ s.clock.pllLock then s.bootDone else s)

/-! ## Entry into BIVOUAC and OFF (R500, R502, R503) -/

/-- CORE goes on to the beginning of the grain n boundaries ahead. -/
def State.toGrain (s : State) (n : Nat) : State :=
  let t := s.elapse (s.clock.glen - s.clock.phase + (n - 1) * 6400)
  { t with clock := { t.clock with grain := s.clock.grain + n, phase := 0, glen := 6400 } }

/-- CORE goes on to the SLOW edge on which it stops (R503, R72). -/
def State.toSlowEdge (s : State) : State :=
  let n := (6250 - s.clock.slowPh) % 6250
  let t := s.elapse n
  { t with clock := { t.clock with phase := s.clock.phase + n } }

/-- Decisions of the tamper supervisor that wait for the second path go on in SENTRY (R470, R477). -/
def Decision.sentry : Decision → Bool
  | .alarm .. | .zeroize _ => true
  | .retire _ | .unlock _ => false

/-- The entry sequence (R503): the last closing snapshot at the next boundary, committed in always-on SRAM and the cairn,
the S1 save, the tie at the SLOW edge on which CORE stops in the 31st grain. -/
def State.enterBivouac (s : State) : State :=
  let t := s.finishGrain.toGrain 1
  let t := (t.belayDue .closing).preempt.makeBelay.appendStaged
  let t := t.aonCommit.cairnTry.toGrain 30
  let r := t.openVal
  let t := (r.2.putArea 0 0x2000 [r.1]).toSlowEdge.tieNow
  let u := (t.dropVolatile false true).keepFields false true
  let u : State := { u with power := .bivouac, second := t.second.filter (fun d => d.what.sentry) }
  u.modPwr (fun p => { p with saved := true, lastWindow := t.clock.rtc })

/-- Entry is possible: the warning stands and the cell was usable at its grain (R500, R503). -/
def State.canEnter (s : State) : Bool :=
  s.power == .on && s.clock.pllLock && s.on PWR.STATE.SFW && s.on PWR.STATE.CELLOK

/-- BIVOUAC_ENTRY_DECIDE (R503): the warning has persisted for 512 grains. -/
def execBivouacEntryDecide (s : State) : Host.Outcome State Fault Refusal :=
  .next (match s.pwr.warnAt with
    | none => s
    | some w => if s.canEnter ∧ w + 512 ≤ s.clock.grain then s.enterBivouac else s)

/-- BULK_DROPOUT (R503): the same steps at once. -/
def execBulkDropout (s : State) : Host.Outcome State Fault Refusal := .next (if s.canEnter then s.enterBivouac else s)

/-- Everything but S3 and S4 is lost (R511). -/
def State.goOff (s : State) : State := { (s.dropVolatile true false).keepFields true false with power := .off }

/-- RAIL_COLLAPSE (R500): no usable cell. -/
def execRailCollapse (s : State) : Host.Outcome State Fault Refusal :=
  .next (if s.power = .on ∧ ¬ s.on PWR.STATE.CELLOK then s.tear.goOff else s)

/-- CELL_EXHAUSTED (R500). -/
def execCellExhausted (s : State) : Host.Outcome State Fault Refusal := .next (if s.power = .bivouac then s.goOff else s)

/-! ## Mains (R500, R505, R509) -/

/-- EXP after a bivouac exit (R529). -/
def State.expFromMark (s : State) : State := (s.set HOST.EXP.SEQ (s.get HOST.WMARK.SEQ + 1)).flag HOST.STATUS.EXPVALID true

/-- MAINS_RETURN (R505): a bivouac exit; a warm start with SAVEBAD where the save's check word is bad, a cold start where
the always-on state fails its check (R509, R512). -/
def execMainsReturn (saveGood aonGood : Bool) (s : State) : Host.Outcome State Fault Refusal :=
  .next (if s.power = .bivouac ∧ s.pwr.saved then
    if ¬ aonGood then s.restart 1 true false
    else if saveGood then (s.restart 3 false true).expFromMark
    else (s.restart 2 false false).flag RST.CAUSE.SAVEBAD true
  else s)

/-- MAINS_UP (R509): a cold start from OFF, where the always-on state is lost; a warm start where it is kept without a
bivouac save. -/
def execMainsUp (aonGood : Bool) (s : State) : Host.Outcome State Fault Refusal :=
  .next (match s.power with
    | .on => s
    | .off => s.restart 1 true false
    | .bivouac => if s.pwr.saved then s else if aonGood then s.restart 2 false false else s.restart 1 true false)

/-! ## In BIVOUAC (R504, R505) -/

/-- A channel that a window converts (R390, R504). -/
def Part.bvChannel (p : Part) (ch : Nat) : Bool := auxCode ch && (ch != 0x18 || p.optG)

/-- Entry n takes a code (R504). -/
def State.bvEntry (s : State) (n : Nat) (code : Int) : State :=
  let ch := s.get (PWR.BVCH.SEL n)
  if s.bit PWR.BVCFG.EN n ∧ s.part.bvChannel ch then
    let t := s.set (PWR.BVLAST.CODE n) (wrapN 16 code)
    if outside (auxSigned ch) (s.get (PWR.BVTHR.LO n)) (s.get (PWR.BVTHR.HI n)) code then
      t.bump (PWR.BVCNT.COUNT n) (PWR.BVCNT.SAT n) else t
  else s

/-- SLOW cycles between windows (R504, R505): 0.25 s while an alarm watch runs. -/
def State.windowPeriod (s : State) : Nat := (if s.pwr.alarmWatch = 0 then s.get PWR.BVCFG.PERIOD else 1) * 8192

/-- BIVOUAC_WINDOW (R504): the codes of entries 0–7, the detectors' readings, the crack loop's pulse check. -/
def execBivouacWindow (codes : List Int) (t : TickIn) (pulseOk : Bool) (s : State) : Host.Outcome State Fault Refusal :=
  if codes.length ≠ 8 then .refused .illFormed
  else .next (if s.power = .bivouac ∧ s.pwr.lastWindow + s.windowPeriod ≤ s.clock.rtc then
    let u := s.modPwr (fun p => { p with lastWindow := s.clock.rtc, alarmWatch := p.alarmWatch - 1 })
    let u := u.bump PWR.BVWIN.COUNT PWR.BVWIN.SAT
    let u := u.forN 8 (fun n v => v.bvEntry n (codes.getD n 0))
    let u := u.tampTick t
    if s.part.optG then u.pulseCheck pulseOk else u
  else s)

/-- An alarm watch starts (R505): the next 256 windows run every 0.25 s. -/
def State.watchAlarm (s : State) : State := s.modPwr (fun p => { p with alarmWatch := 256 })

/-- The outage view (R461) on a latched edge of a WAKE line: 10 s from this edge. -/
def State.outageView (s : State) (l : Fin 3) : State :=
  if s.part.optG ∧ s.on GLASS.VIEW.EN ∧ s.get GLASS.CTRL.MODE = 0 ∧ 1 ≤ l.val ∧ s.bit GLASS.VIEW.LINES (l - 1) then
    (s.flag GLASS.STATUS.VIEWON true).modGlass (fun g => { g with viewEnd := some (s.clock.rtc + 327680) })
  else s

/-- LINE_EDGE_LATCH (R417, R461, R465, R505): LATCH; the cover detector latches any edge of COVER; in BIVOUAC a matching
edge starts an alarm watch on a line with WAKE set, and the outage view. -/
def execLineEdgeLatch (l : Fin 3) (rising : Bool) (s : State) : Host.Outcome State Fault Refusal :=
  .next (if s.power = .off then s
  else
    let t := s.rawEdge l rising
    let t := if l = 0 then t.modSrc 0 (fun x => { x with latch1 := true }) else t
    if s.power ≠ .bivouac ∨ s.edgeMatches l rising = false then t
    else (if s.on (IRQ.XCFG.WAKE l) then t.watchAlarm else t).outageView l)

/-! ## The host's absence (R500, R501) -/

/-- HOST_ABSENCE_TIMEOUT: no parcel accepted for HOSTTO seconds in RUN; the fallback waits for the block boundary. -/
def execHostAbsenceTimeout (s : State) : Host.Outcome State Fault Refusal :=
  .next (if s.power = .on ∧ ¬ s.baseCamp ∧ s.get PWR.HOSTTO.SEC ≠ 0 ∧
      s.link.lastIn + s.get PWR.HOSTTO.SEC * slowHz ≤ s.clock.rtc then
    s.modPwr (fun p => { p with absence := true }) else s)

/-- The fallback at a block boundary: lane sets stop and go, the cue table empties, base camp runs in the roles of R246. -/
def State.hostAbsent (s : State) : State :=
  if s.pwr.absence then
    let t := s.removeRoped
    let t := (List.finRange 5).foldl (fun (u : State) n => u.clearLane n none 0) t
    let t : State := { t with cues := [] }
    (t.flag PWR.STATE.HOSTABS true).modPwr (fun p => { p with absence := false })
  else s

end Sys2Proof.Machine
end

