-- ==== Sys2Proof/Machine/Grain.lean ====
section
/-! DEFINITION. What a grain boundary, the end of a pitch and the end of a block do (03_timebase_and_cues.md R68–R70, R80,
R82, and the rules of the units that act at these boundaries). -/

namespace Sys2Proof.Machine

/-! ## The grain boundary (R68, R69) -/

/-- The grain count steps: what is left of the ended grain passes, phase 0 of the next begins (R68). -/
def State.nextGrain (s : State) : State :=
  let t := s.elapse (s.clock.glen - s.clock.phase)
  { t with clock := { t.clock with grain := s.clock.grain + 1, phase := 0 } }

/-- Settings written in the ended grain come into force, and the steering of the chain link follows it. -/
def State.settingsBoundary (s : State) (fmeas : Nat) : State :=
  ((((s.utcLoad.frontSettings.bindBoundary.pqBoundary.bitBoundary fmeas).quadBoundary).selfCalBoundary).chainBoundary).set
    ACCESS.BACKOFF.SEC s.backoff

/-- The belay of the boundary, the supervisor's claim to the write port, and the one durable order and the START that
the boundary applies, before the cue dispatch (R334, R258, R368, R284). -/
def State.orderBoundary (s : State) : State :=
  let s := s.pitchBelayTimer.makeBelay
  let s := if s.portWanted then s.supervisorTake 0 else s
  s.applyOrder.applyStart

/-- A lane with a pitch program owes it a pitch whose stream has become whole in this grain (R239, R244). -/
def State.pitchReady (s : State) : State :=
  (List.finRange 5).foldl (fun (t : State) (n : Fin 5) =>
    let l := t.lane n
    if bitOf (t.get SYS.LANE.INSVC) n && l.imgP.isSome && decide (l.startAt ≤ t.clock.grain) then
      t.setLane n { l with pitchDue := true }
    else t) s

/-- The gap record of the start runs to the start of the first pitch begun (R348, R357). -/
def State.gapEnds (s : State) : State :=
  match s.tracker.running with
  | [] => s
  | p :: _ => s.closeGap (p.start / 2 ^ 32)

/-- The stream fill (R69): samples, strided words, pitch points, and what reads them at the fill. -/
def State.fillPhase (s : State) (g : GrainWords) : State :=
  let s := s.swapApply.fillGrain g
  let r := s.supraFill.bitRange.fillPoints
  let s := if r.1 then r.2.pitchReady.baseCampPitch else r.2
  (s.pqFill r.1).captFill.pqReopen (s.get RST.CAUSE.CAUSE == 1)

/-- GRAIN_BOUNDARY (R68): the tail of the ended grain and what its bits become, then phases 0–383 of the one that begins
(R69). -/
def execGrainBoundary (m : Measure) (s : State) : Host.Outcome State Fault Refusal :=
  .next (if s.power = .on ∧ s.clock.pllLock then
    let w := s.finishGrain.frontEnd m
    let s := w.2.nextGrain
    let s := (s.settingsBoundary m.fmeas.toNat).gapEnds.orderBoundary
    let s := s.lanesBoundary.permitCount.glassGrain.bootServe
    let s := if s.stepDue then s else s.dispatchDue
    let s := (s.modemWords.fillPhase w.1).appendStaged.pulseBoundary
    let s := State.holdRun 4 (s.clock.grain * 2 ^ 32) s
    s.arrive 0x10
  else s)

/-- CHAIN_STEP (R101): at the boundary after RANGING the grain count steps to the leader's. The cues of that boundary are
dispatched under the new number (R93; log entry 51). -/
def execChainStep (s : State) : Host.Outcome State Fault Refusal :=
  .next (match s.chain.stepPend with
    | none => s
    | some (d, g) => if s.chainOn ∧ g < s.clock.grain then (s.chainStepBy d).dispatchDue else s)

/-! ## The end of a pitch (R80) -/

/-- The first running pitch that has completed by this grain. -/
def Tracker.completed (t : Tracker) (grain : Nat) : Option Pitch := t.running.find? (fun p => decide (p.done ≤ grain))

/-- A pitch of a block of N is its last. -/
def Tracker.lastOfBlock (t : Tracker) (p : Pitch) : Bool := p.pos + 1 == (if t.n60 then 12 else 10)

/-- PSTART, PLEN, HELD and PITCH of a completed pitch; source 0x11; a pitch belay falls due (R80, R335). -/
def State.loadPitch (s : State) (p : Pitch) : State :=
  let s := s.set2 TIME.PSTARTLO.PSLO TIME.PSTARTHI.PSHI (p.start / 2 ^ 32)
  let s := ((s.set TIME.PSTARTFR.PSFR (p.start % 2 ^ 32)).set TIME.PLEN.PLEN p.plen).flag TIME.TRK.HELD p.held
  let n := s.get2 TIME.PITCHLO.PLO (TIME.PITCHHI.PHI.at 1) + 1
  let s := (s.set2 TIME.PITCHLO.PLO (TIME.PITCHHI.PHI.at 1) n).arrive 0x11
  let s := s.belayDue .pitch
  State.pqPitch { s with
    jrnl := { s.jrnl with lastPitchSnap := s.clock.grain }
    tracker := { s.tracker with
      running := s.tracker.running.erase p
      last := some p
      blockDue := s.tracker.blockDue || s.tracker.lastOfBlock p } } p (s.tracker.lastOfBlock p)

/-- PITCH_COMPLETE (R80): the pitch of an index in its block, held or not, at the boundary after its point 511; what the converters' twins, spares and the shared nodes show over
the pitch is judged (R116, R384, R386), and the next pitch's statistics begin. -/
def execPitchComplete (pos : Fin 12) (held : Bool) (s : State) : Host.Outcome State Fault Refusal :=
  .next (if s.power = .on ∧ s.clock.pllLock then
    match s.tracker.completed s.clock.grain with
    | none => s
    | some p =>
      if p.pos = pos ∧ p.held = held then
        let s := s.loadPitch p
        let s := ((List.finRange 4).foldl (fun (t : State) (q : Fin 4) => (t.quadPitch q).driftPitch q) s).shPitch
        { s with streams := { s.streams with front := s.streams.front.nextPitch } }
      else s
  else s)

/-! ## The end of a block (R82) -/

/-- NOM60 comes into force (R82). -/
def State.nominalTakes (s : State) : State :=
  { s.takeEffect TIME.CTRL.NOM60 with tracker := { s.tracker with blockDue := false, n60 := s.on TIME.CTRL.NOM60 } }

/-- The trims of a block: the drift ramp, then the interleave correction (R383, R133). -/
def State.trimBlock (s : State) : State :=
  (List.finRange 4).foldl (fun (t : State) (q : Fin 4) => if t.part.hasQuad q then t.ilvBlock q else t) s.rampBlock

/-- BLOCK_BOUNDARY (R82): after the last pitch of a block; bulk is the bulk voltage in 0.1 V (R492). -/
def execBlockBoundary (bulk : BitVec 16) (s : State) : Host.Outcome State Fault Refusal :=
  .next (if s.power = .on ∧ s.tracker.blockDue then
    let s := ((s.belayDue .block).arrive 0x12).nominalTakes
    let s := s.intervalAtBlock.pqBlockBoundary.trimBlock
    let s := (s.supplyAt bulk.toNat).budgetRevoke
    s.hostAbsent.glassBlock
  else s)

end Sys2Proof.Machine
end

