-- ==== Sys2Proof/Machine/Scalar.lean ====
section
/-! DEFINITION. Scalar arithmetic: ALU, MDS and the immediates (R205–R209). -/

namespace Sys2Proof.Machine

/-- Integer square root by bits from bit i − 1 down (R207). -/
def isqrtFrom (n : Nat) : Nat → Nat → Nat
  | 0, r => r
  | i + 1, r => isqrtFrom n i (if (r + 2 ^ i) * (r + 2 ^ i) ≤ n then r + 2 ^ i else r)

/-- ⌊√n⌋ for n below 2^64. -/
def isqrt (n : Nat) : Nat := isqrtFrom n 32 0

/-- An ALU function of two registers (R205): the result to D, the flags from the operands. -/
def State.alu (s : State) (p : Proc) (d a b : Fin 32) (f : Word → Word → Word) (fl : Word → Word → Word → Word) : State :=
  s.regOp p 1 (fun r => (r.setS d (f (r.sr a) (r.sr b))).setFl (fl r.fl (r.sr a) (r.sr b)))

/-- An ALU function that sets Z and N from its result (R205, R206). -/
def State.aluZN (s : State) (p : Proc) (d a b : Fin 32) (f : Word → Word → Word) : State :=
  s.alu p d a b f (fun fl x y => flagsZN fl (f x y))

/-- A saturating function of two registers: Z, N and, where it clamps, SAT (R205, R206). -/
def State.aluSat (s : State) (p : Proc) (d a b : Fin 32) (f : Int → Int → Int) : State :=
  s.alu p d a b (fun x y => (sat32 (f x.toInt y.toInt)).1)
    (fun fl x y => sticky (flagsZN fl (sat32 (f x.toInt y.toInt)).1) flSAT (sat32 (f x.toInt y.toInt)).2)

/-- A shift by the X field (R205): Z and N. -/
def State.aluShift (s : State) (p : Proc) (d a : Fin 32) (x : Fin 32) (f : Word → Nat → Word) : State :=
  s.regOp p 1 (fun r => (r.setS d (f (r.sr a) x)).setFl (flagsZN r.fl (f (r.sr a) x)))

/-- A Bool as a word. -/
def boolWord (b : Bool) : Word := if b then 1 else 0

/-- An MDS function (R207): the result to D, one sticky bit where its condition holds. -/
def State.mds (s : State) (p : Proc) (cost : Nat) (d a b : Fin 32) (f : Word → Word → Word) (bit : Nat)
    (c : Word → Word → Bool) : State :=
  s.regOp p cost (fun r => (r.setS d (f (r.sr a) (r.sr b))).stick bit (c (r.sr a) (r.sr b)))

/-- DIV with its fixed results (R207, R208). -/
def divResult (a b : Word) : Word :=
  if b = 0 then (if a.msb then 0x80000000 else 0x7FFFFFFF) else (sat32 (a.toInt.tdiv b.toInt)).1

/-- REM with its fixed results (R207, R208): the sign of a. -/
def remResult (a b : Word) : Word := if b = 0 then a else BitVec.ofInt 32 (a.toInt.tmod b.toInt)

/-- QMUL (R177, R207): the exact product rounded at 2^-31. -/
def qmulRaw (a b : Word) : Int := rneDiv (a.toInt * b.toInt) (2 ^ 31)

/-- ADD (R205, R206). -/
def execAdd (p : Proc) (d a b : Fin 32) (s : State) : Host.Outcome State Fault Refusal :=
  .next (s.alu p d a b (· + ·) flagsAdd)

/-- SUB (R205, R206). -/
def execSub (p : Proc) (d a b : Fin 32) (s : State) : Host.Outcome State Fault Refusal :=
  .next (s.alu p d a b (· - ·) flagsSub)

/-- AND (R205). -/
def execAnd (p : Proc) (d a b : Fin 32) (s : State) : Host.Outcome State Fault Refusal :=
  .next (s.aluZN p d a b (· &&& ·))

/-- OR (R205). -/
def execOr (p : Proc) (d a b : Fin 32) (s : State) : Host.Outcome State Fault Refusal :=
  .next (s.aluZN p d a b (· ||| ·))

/-- XOR (R205). -/
def execXor (p : Proc) (d a b : Fin 32) (s : State) : Host.Outcome State Fault Refusal :=
  .next (s.aluZN p d a b (· ^^^ ·))

/-- ANDN (R205). -/
def execAndn (p : Proc) (d a b : Fin 32) (s : State) : Host.Outcome State Fault Refusal :=
  .next (s.aluZN p d a b (fun x y => x &&& ~~~y))

/-- SLLV (R205). -/
def execSllv (p : Proc) (d a b : Fin 32) (s : State) : Host.Outcome State Fault Refusal :=
  .next (s.aluZN p d a b (fun x y => x <<< (y.toNat % 32)))

/-- SRLV (R205). -/
def execSrlv (p : Proc) (d a b : Fin 32) (s : State) : Host.Outcome State Fault Refusal :=
  .next (s.aluZN p d a b (fun x y => x >>> (y.toNat % 32)))

/-- SRAV (R205). -/
def execSrav (p : Proc) (d a b : Fin 32) (s : State) : Host.Outcome State Fault Refusal :=
  .next (s.aluZN p d a b (fun x y => x.sshiftRight (y.toNat % 32)))

/-- CMPLT (R205). -/
def execCmplt (p : Proc) (d a b : Fin 32) (s : State) : Host.Outcome State Fault Refusal :=
  .next (s.aluZN p d a b (fun x y => boolWord (x.slt y)))

/-- CMPLTU (R205). -/
def execCmpltu (p : Proc) (d a b : Fin 32) (s : State) : Host.Outcome State Fault Refusal :=
  .next (s.aluZN p d a b (fun x y => boolWord (x.ult y)))

/-- MIN (R205). -/
def execMin (p : Proc) (d a b : Fin 32) (s : State) : Host.Outcome State Fault Refusal :=
  .next (s.aluZN p d a b (fun x y => if x.slt y then x else y))

/-- MAX (R205). -/
def execMax (p : Proc) (d a b : Fin 32) (s : State) : Host.Outcome State Fault Refusal :=
  .next (s.aluZN p d a b (fun x y => if x.slt y then y else x))

/-- SLL (R205). -/
def execSll (p : Proc) (d a : Fin 32) (x : Fin 32) (s : State) : Host.Outcome State Fault Refusal :=
  .next (s.aluShift p d a x (fun x k => x <<< k))

/-- SRL (R205). -/
def execSrl (p : Proc) (d a : Fin 32) (x : Fin 32) (s : State) : Host.Outcome State Fault Refusal :=
  .next (s.aluShift p d a x (fun x k => x >>> k))

/-- SRA (R205). -/
def execSra (p : Proc) (d a : Fin 32) (x : Fin 32) (s : State) : Host.Outcome State Fault Refusal :=
  .next (s.aluShift p d a x (fun x k => x.sshiftRight k))

/-- QADD (R205, R206). -/
def execQadd (p : Proc) (d a b : Fin 32) (s : State) : Host.Outcome State Fault Refusal :=
  .next (s.aluSat p d a b (· + ·))

/-- QSUB (R205, R206). -/
def execQsub (p : Proc) (d a b : Fin 32) (s : State) : Host.Outcome State Fault Refusal :=
  .next (s.aluSat p d a b (· - ·))

/-- QABS (R205, R206). -/
def execQabs (p : Proc) (d a : Fin 32) (s : State) : Host.Outcome State Fault Refusal :=
  .next (s.aluSat p d a 0 (fun x _ => (x.natAbs : Int)))

/-- QNEG (R205, R206). -/
def execQneg (p : Proc) (d a : Fin 32) (s : State) : Host.Outcome State Fault Refusal :=
  .next (s.aluSat p d a 0 (fun x _ => -x))

/-- MUL (R207, R208). -/
def execMul (p : Proc) (d a b : Fin 32) (s : State) : Host.Outcome State Fault Refusal :=
  .next (s.mds p 1 d a b (· * ·) flDZ (fun _ _ => false))

/-- MULH (R207, R208). -/
def execMulh (p : Proc) (d a b : Fin 32) (s : State) : Host.Outcome State Fault Refusal :=
  .next (s.mds p 1 d a b (fun x y => BitVec.ofInt 32 (x.toInt * y.toInt / 2 ^ 32)) flDZ (fun _ _ => false))

/-- MULHU (R207, R208). -/
def execMulhu (p : Proc) (d a b : Fin 32) (s : State) : Host.Outcome State Fault Refusal :=
  .next (s.mds p 1 d a b (fun x y => BitVec.ofNat 32 (x.toNat * y.toNat / 2 ^ 32)) flDZ (fun _ _ => false))

/-- QMUL (R207, R208). -/
def execQmul (p : Proc) (d a b : Fin 32) (s : State) : Host.Outcome State Fault Refusal :=
  .next (s.mds p 1 d a b (fun x y => (sat32 (qmulRaw x y)).1) flSAT (fun x y => (sat32 (qmulRaw x y)).2))

/-- DIVU (R207, R208). -/
def execDivu (p : Proc) (d a b : Fin 32) (s : State) : Host.Outcome State Fault Refusal :=
  .next (s.mds p 18 d a b (fun x y => if y = 0 then 0xFFFFFFFF else BitVec.ofNat 32 (x.toNat / y.toNat)) flDZ (fun _ y => y == 0))

/-- REM (R207, R208). -/
def execRem (p : Proc) (d a b : Fin 32) (s : State) : Host.Outcome State Fault Refusal :=
  .next (s.mds p 18 d a b remResult flDZ (fun _ y => y == 0))

/-- REMU (R207, R208). -/
def execRemu (p : Proc) (d a b : Fin 32) (s : State) : Host.Outcome State Fault Refusal :=
  .next (s.mds p 18 d a b (fun x y => if y = 0 then x else BitVec.ofNat 32 (x.toNat % y.toNat)) flDZ (fun _ y => y == 0))

/-- DIV (R207, R208). -/
def execDiv (p : Proc) (d a b : Fin 32) (s : State) : Host.Outcome State Fault Refusal :=
  .next (s.regOp p 18 (fun r => ((r.setS d (divResult (r.sr a) (r.sr b))).stick flDZ (r.sr b == 0)).stick flSAT
    (r.sr a == 0x80000000 && r.sr b == 0xFFFFFFFF)))

/-- SQRT (R207, R208). -/
def execSqrt (p : Proc) (d a : Fin 32) (s : State) : Host.Outcome State Fault Refusal :=
  .next (s.mds p 20 d a 0 (fun x _ => if x.msb then 0 else BitVec.ofNat 32 (isqrt x.toNat)) flSQN (fun x _ => x.msb))

/-- QSQRT (R207, R208). -/
def execQsqrt (p : Proc) (d a : Fin 32) (s : State) : Host.Outcome State Fault Refusal :=
  .next (s.mds p 20 d a 0 (fun x _ => if x.msb then 0 else BitVec.ofNat 32 (isqrt (x.toNat * 2 ^ 31))) flSQN
    (fun x _ => x.msb))

/-- An immediate function (R209): the result to D, the flags from the operands. -/
def State.aluImm (s : State) (p : Proc) (d a : Fin 32) (k : Word) (f : Word → Word → Word)
    (fl : Word → Word → Word → Word) : State :=
  s.regOp p 1 (fun r => (r.setS d (f (r.sr a) k)).setFl (fl r.fl (r.sr a) k))

/-- ADDI (R209). -/
def execAddi (p : Proc) (d a : Fin 32) (imm : BitVec 16) (s : State) : Host.Outcome State Fault Refusal :=
  .next (s.aluImm p d a (imm.signExtend 32) (· + ·) flagsAdd)

/-- ANDI (R209). -/
def execAndi (p : Proc) (d a : Fin 32) (imm : BitVec 16) (s : State) : Host.Outcome State Fault Refusal :=
  .next (s.aluImm p d a (imm.zeroExtend 32) (· &&& ·) (fun fl x y => flagsZN fl (x &&& y)))

/-- ORI (R209). -/
def execOri (p : Proc) (d a : Fin 32) (imm : BitVec 16) (s : State) : Host.Outcome State Fault Refusal :=
  .next (s.aluImm p d a (imm.zeroExtend 32) (· ||| ·) (fun fl x y => flagsZN fl (x ||| y)))

/-- XORI (R209). -/
def execXori (p : Proc) (d a : Fin 32) (imm : BitVec 16) (s : State) : Host.Outcome State Fault Refusal :=
  .next (s.aluImm p d a (imm.zeroExtend 32) (· ^^^ ·) (fun fl x y => flagsZN fl (x ^^^ y)))

/-- CMPLTI (R209). -/
def execCmplti (p : Proc) (d a : Fin 32) (imm : BitVec 16) (s : State) : Host.Outcome State Fault Refusal :=
  .next (s.aluImm p d a (imm.signExtend 32) (fun x y => boolWord (x.slt y)) (fun fl x y => flagsZN fl (boolWord (x.slt y))))

/-- CMPLTIU (R209). -/
def execCmpltiu (p : Proc) (d a : Fin 32) (imm : BitVec 16) (s : State) : Host.Outcome State Fault Refusal :=
  .next (s.aluImm p d a (imm.zeroExtend 32) (fun x y => boolWord (x.ult y)) (fun fl x y => flagsZN fl (boolWord (x.ult y))))

/-- HIMM (R209). -/
def execHimm (p : Proc) (d : Fin 32) (imm : BitVec 16) (s : State) : Host.Outcome State Fault Refusal :=
  .next (s.regOp p 1 (fun r => r.setS d (imm.zeroExtend 32 <<< 16)))


end Sys2Proof.Machine
end

