-- ==== Sys2Proof/Machine/Vector.lean ====
section
/-! DEFINITION. Vectors and accumulators (R211–R215). -/

namespace Sys2Proof.Machine

/-- A VALU function of two vectors (R211): the result to D, SAT where an element clamps. -/
def State.valu (s : State) (p : Proc) (d a b : Fin 16) (f : Word → Word → Word) (c : Word → Word → Bool) : State :=
  s.regOp p 1 (fun r => (r.setV d (vmap2 f (r.vr a) (r.vr b))).stick flSAT (vany2 c (r.vr a) (r.vr b)))

/-- A VALU function that cannot clamp. -/
def State.valu0 (s : State) (p : Proc) (d a b : Fin 16) (f : Word → Word → Word) : State :=
  s.valu p d a b f (fun _ _ => false)

/-- A saturating VALU function (R211). -/
def State.valuSat (s : State) (p : Proc) (d a b : Fin 16) (f : Word → Word → Int) : State :=
  s.valu p d a b (fun x y => (sat32 (f x y)).1) (fun x y => (sat32 (f x y)).2)

/-- The raw 64.32 value of a product p scaled by 2^x, rounded once (R178): fractional operands are Q1.31 × Q1.31. -/
def macRaw (integer : Bool) (p : Int) (x : Nat) : Int :=
  if integer then p * 2 ^ (x + 32)
  else if 30 ≤ x then p * 2 ^ (x - 30) else rneDiv p (2 ^ (30 - x))

/-- Add to or subtract from an accumulator: clamped, AOV on a clamp (R178). -/
def Regs.addAcc (r : Regs) (d : Fin 8) (t : Int) : Regs :=
  (r.setA d (accClamp ((r.ar d).toInt + t)).1).stick flAOV (accClamp ((r.ar d).toInt + t)).2

/-- The exact sum of the four products of two vectors (R178, R212). -/
def dot (a b : Vec) : Int :=
  (elem a 0).toInt * (elem b 0).toInt + (elem a 1).toInt * (elem b 1).toInt + (elem a 2).toInt * (elem b 2).toInt +
    (elem a 3).toInt * (elem b 3).toInt

/-- VMAC and its forms (R212). -/
def State.vmacOp (s : State) (p : Proc) (integer minus : Bool) (d : Fin 8) (a b : Fin 16) (x : Fin 64) : State :=
  s.regOp p 1 (fun r =>
    let t := macRaw integer (dot (r.vr a) (r.vr b)) x
    r.addAcc d (if minus then -t else t))

/-- MAC and its forms (R215). -/
def State.macOp (s : State) (p : Proc) (integer minus : Bool) (d : Fin 8) (a b : Fin 32) (x : Fin 64) : State :=
  s.regOp p 1 (fun r =>
    let t := macRaw integer ((r.sr a).toInt * (r.sr b).toInt) x
    r.addAcc d (if minus then -t else t))

/-- VADD (R211). -/
def execVadd (p : Proc) (d a b : Fin 16) (s : State) : Host.Outcome State Fault Refusal :=
  .next (s.valu0 p d a b (· + ·))

/-- VSUB (R211). -/
def execVsub (p : Proc) (d a b : Fin 16) (s : State) : Host.Outcome State Fault Refusal :=
  .next (s.valu0 p d a b (· - ·))

/-- VMUL (R211). -/
def execVmul (p : Proc) (d a b : Fin 16) (s : State) : Host.Outcome State Fault Refusal :=
  .next (s.valu0 p d a b (· * ·))

/-- VAND (R211). -/
def execVand (p : Proc) (d a b : Fin 16) (s : State) : Host.Outcome State Fault Refusal :=
  .next (s.valu0 p d a b (· &&& ·))

/-- VOR (R211). -/
def execVor (p : Proc) (d a b : Fin 16) (s : State) : Host.Outcome State Fault Refusal :=
  .next (s.valu0 p d a b (· ||| ·))

/-- VXOR (R211). -/
def execVxor (p : Proc) (d a b : Fin 16) (s : State) : Host.Outcome State Fault Refusal :=
  .next (s.valu0 p d a b (· ^^^ ·))

/-- VMIN (R211). -/
def execVmin (p : Proc) (d a b : Fin 16) (s : State) : Host.Outcome State Fault Refusal :=
  .next (s.valu0 p d a b (fun x y => if x.slt y then x else y))

/-- VMAX (R211). -/
def execVmax (p : Proc) (d a b : Fin 16) (s : State) : Host.Outcome State Fault Refusal :=
  .next (s.valu0 p d a b (fun x y => if x.slt y then y else x))

/-- VQADD (R211). -/
def execVqadd (p : Proc) (d a b : Fin 16) (s : State) : Host.Outcome State Fault Refusal :=
  .next (s.valuSat p d a b (fun x y => x.toInt + y.toInt))

/-- VQSUB (R211). -/
def execVqsub (p : Proc) (d a b : Fin 16) (s : State) : Host.Outcome State Fault Refusal :=
  .next (s.valuSat p d a b (fun x y => x.toInt - y.toInt))

/-- VQMUL (R211). -/
def execVqmul (p : Proc) (d a b : Fin 16) (s : State) : Host.Outcome State Fault Refusal :=
  .next (s.valuSat p d a b (fun x y => rneDiv (x.toInt * y.toInt) (2 ^ 31)))

/-- VQABS (R211). -/
def execVqabs (p : Proc) (d a : Fin 16) (s : State) : Host.Outcome State Fault Refusal :=
  .next (s.valuSat p d a a (fun x _ => (x.toInt.natAbs : Int)))

/-- VSLL (R211). -/
def execVsll (p : Proc) (d a : Fin 16) (x : Fin 32) (s : State) : Host.Outcome State Fault Refusal :=
  .next (s.valu0 p d a a (fun e _ => e <<< x.val))

/-- VSRA (R211). -/
def execVsra (p : Proc) (d a : Fin 16) (x : Fin 32) (s : State) : Host.Outcome State Fault Refusal :=
  .next (s.valu0 p d a a (fun e _ => e.sshiftRight x.val))

/-- VMAC (R212). -/
def execVmac (p : Proc) (d : Fin 8) (a b : Fin 16) (x : Fin 64) (s : State) : Host.Outcome State Fault Refusal :=
  .next (s.vmacOp p false false d a b x)

/-- VMACI (R212). -/
def execVmaci (p : Proc) (d : Fin 8) (a b : Fin 16) (x : Fin 64) (s : State) : Host.Outcome State Fault Refusal :=
  .next (s.vmacOp p true false d a b x)

/-- VMSU (R212). -/
def execVmsu (p : Proc) (d : Fin 8) (a b : Fin 16) (x : Fin 64) (s : State) : Host.Outcome State Fault Refusal :=
  .next (s.vmacOp p false true d a b x)

/-- VMSUI (R212). -/
def execVmsui (p : Proc) (d : Fin 8) (a b : Fin 16) (x : Fin 64) (s : State) : Host.Outcome State Fault Refusal :=
  .next (s.vmacOp p true true d a b x)

/-- VINS (R213). -/
def execVins (p : Proc) (d : Fin 16) (a : Fin 32) (e : Fin 4) (s : State) : Host.Outcome State Fault Refusal :=
  .next (s.regOp p 1 (fun r => r.setV d (setElem (r.vr d) e (r.sr a))))

/-- VEXT (R213). -/
def execVext (p : Proc) (d : Fin 32) (a : Fin 16) (e : Fin 4) (s : State) : Host.Outcome State Fault Refusal :=
  .next (s.regOp p 1 (fun r => r.setS d (elem (r.vr a) e)))

/-- VBC (R213). -/
def execVbc (p : Proc) (d : Fin 16) (a : Fin 32) (s : State) : Host.Outcome State Fault Refusal :=
  .next (s.regOp p 1 (fun r => r.setV d (vec4 (r.sr a) (r.sr a) (r.sr a) (r.sr a))))

/-- VMOV (R213). -/
def execVmov (p : Proc) (d a : Fin 16) (s : State) : Host.Outcome State Fault Refusal :=
  .next (s.regOp p 1 (fun r => r.setV d (r.vr a)))

/-- VSUM (R213). -/
def execVsum (p : Proc) (d : Fin 32) (a : Fin 16) (s : State) : Host.Outcome State Fault Refusal :=
  .next (s.regOp p 1 (fun r => r.setS d (elem (r.vr a) 0 + elem (r.vr a) 1 + elem (r.vr a) 2 + elem (r.vr a) 3)))

/-- ACLR (R214). -/
def execAclr (p : Proc) (d : Fin 8) (s : State) : Host.Outcome State Fault Refusal :=
  .next (s.regOp p 1 (fun r => r.setA d 0))

/-- AMOV (R214). -/
def execAmov (p : Proc) (d a : Fin 8) (s : State) : Host.Outcome State Fault Refusal :=
  .next (s.regOp p 1 (fun r => r.setA d (r.ar a)))

/-- AADDS (R214). -/
def execAadds (p : Proc) (d : Fin 8) (a : Fin 32) (x : Fin 64) (s : State) : Host.Outcome State Fault Refusal :=
  .next (s.regOp p 1 (fun r => r.addAcc d ((r.sr a).toInt * 2 ^ x.val)))

/-- AADD (R214). -/
def execAadd (p : Proc) (d a : Fin 8) (s : State) : Host.Outcome State Fault Refusal :=
  .next (s.regOp p 1 (fun r => r.addAcc d (r.ar a).toInt))

/-- ASUB (R214). -/
def execAsub (p : Proc) (d a : Fin 8) (s : State) : Host.Outcome State Fault Refusal :=
  .next (s.regOp p 1 (fun r => r.addAcc d (-(r.ar a).toInt)))

/-- ARND (R214). -/
def execArnd (p : Proc) (d : Fin 32) (a : Fin 8) (x : Fin 64) (s : State) : Host.Outcome State Fault Refusal :=
  .next (s.regOp p 1 (fun r =>
    let v := sat32 (rneDiv (r.ar a).toInt (2 ^ (x.val + 1)))
    (r.setS d v.1).stick flSAT v.2))

/-- ARDW (R214). -/
def execArdw (p : Proc) (d : Fin 32) (a : Fin 8) (w : Fin 3) (s : State) : Host.Outcome State Fault Refusal :=
  .next (s.regOp p 1 (fun r => r.setS d (accWord (r.ar a) w)))

/-- AWRW (R214). -/
def execAwrw (p : Proc) (d : Fin 8) (a : Fin 32) (w : Fin 3) (s : State) : Host.Outcome State Fault Refusal :=
  .next (s.regOp p 1 (fun r => r.setA d (setAccWord (r.ar d) w (r.sr a))))

/-- MAC (R215). -/
def execMac (p : Proc) (d : Fin 8) (a b : Fin 32) (x : Fin 64) (s : State) : Host.Outcome State Fault Refusal :=
  .next (s.macOp p false false d a b x)

/-- MACI (R215). -/
def execMaci (p : Proc) (d : Fin 8) (a b : Fin 32) (x : Fin 64) (s : State) : Host.Outcome State Fault Refusal :=
  .next (s.macOp p true false d a b x)

/-- MSU (R215). -/
def execMsu (p : Proc) (d : Fin 8) (a b : Fin 32) (x : Fin 64) (s : State) : Host.Outcome State Fault Refusal :=
  .next (s.macOp p false true d a b x)

/-- MSUI (R215). -/
def execMsui (p : Proc) (d : Fin 8) (a b : Fin 32) (x : Fin 64) (s : State) : Host.Outcome State Fault Refusal :=
  .next (s.macOp p true true d a b x)


end Sys2Proof.Machine
end

