-- ==== Sys2Proof/Machine/Dispatch.lean ====
section
/-! DEFINITION. The arm of every command: one direct call of its meaning, or its rejection by name. -/

namespace Sys2Proof.Machine

/-- What a command does to everything but the queue. -/
def exec (i : Instr) (s : State) : Host.Outcome State Fault Refusal :=
  match i with
  | .xtalRefLost => Sys2Proof.Machine.execXtalRefLost s
  | .xtalRefReturn => Sys2Proof.Machine.execXtalRefReturn s
  | .slowCrystalFail => Sys2Proof.Machine.execSlowCrystalFail s
  | .pllLock => Sys2Proof.Machine.execPllLock s
  | .sysFaultClear => Sys2Proof.Machine.execSysFaultClear s
  | .grainBoundary m => Sys2Proof.Machine.execGrainBoundary m s
  | .tieRecord => Sys2Proof.Machine.execTieRecord s
  | .splitLowRead p unit reg => Sys2Proof.Machine.execSplitLowRead p unit reg s
  | .ppsEdge rising => Sys2Proof.Machine.execPpsEdge rising s
  | .ppsEdgeMissed => Sys2Proof.Machine.execPpsEdgeMissed s
  | .zeroCrossing t amp => Sys2Proof.Machine.execZeroCrossing t amp s
  | .trackerTimeout => Sys2Proof.Machine.execTrackerTimeout s
  | .pitchComplete pos held => Sys2Proof.Machine.execPitchComplete pos held s
  | .blockBoundary bulk => Sys2Proof.Machine.execBlockBoundary bulk s
  | .intervalBoundary => Sys2Proof.Machine.execIntervalBoundary s
  | .cueCancelTag tag => Sys2Proof.Machine.execCueCancelTag tag s
  | .cueCancelAll => Sys2Proof.Machine.execCueCancelAll s
  | .timecodeFrameSend readbackBad => Sys2Proof.Machine.execTimecodeFrameSend readbackBad s
  | .timecodeFrameReceive frame => Sys2Proof.Machine.execTimecodeFrameReceive frame s
  | .followerReplySend => Sys2Proof.Machine.execFollowerReplySend s
  | .followerReplyReceive frame => Sys2Proof.Machine.execFollowerReplyReceive frame s
  | .replyMissed pos => Sys2Proof.Machine.execReplyMissed pos s
  | .chainStep => Sys2Proof.Machine.execChainStep s
  | .frameLoss => Sys2Proof.Machine.execFrameLoss s
  | .heirTakeover => Sys2Proof.Machine.execHeirTakeover s
  | .leaderListenEnd => Sys2Proof.Machine.execLeaderListenEnd s
  | .leaderSilenceEnd => Sys2Proof.Machine.execLeaderSilenceEnd s
  | .handoverGo pos => Sys2Proof.Machine.execHandoverGo pos s
  | .handoverSwitch => Sys2Proof.Machine.execHandoverSwitch s
  | .overloadTrip q k which => Sys2Proof.Machine.execOverloadTrip q k which s
  | .spareSettled q => Sys2Proof.Machine.execSpareSettled q s
  | .dualDecisionSecond agree => Sys2Proof.Machine.execDualDecisionSecond agree s
  | .retireCommit => Sys2Proof.Machine.execRetireCommit s
  | .traverseDwellEnd q pos => Sys2Proof.Machine.execTraverseDwellEnd q pos s
  | .strideRequest q v => Sys2Proof.Machine.execStrideRequest q v s
  | .owTestGo q => Sys2Proof.Machine.execOwTestGo q s
  | .bitclkLoss f => Sys2Proof.Machine.execBitclkLoss f s
  | .bitclkRequalify => Sys2Proof.Machine.execBitclkRequalify s
  | .bitstreamStuck k => Sys2Proof.Machine.execBitstreamStuck k s
  | .bitstreamRangeExceed k => Sys2Proof.Machine.execBitstreamRangeExceed k s
  | .filtCfgWrite k v => Sys2Proof.Machine.execFiltCfgWrite k v s
  | .filtSwap v => Sys2Proof.Machine.execFiltSwap v s
  | .activeBankWrite rsmp idx v => Sys2Proof.Machine.execActiveBankWrite rsmp idx v s
  | .coefDataAccess write v => Sys2Proof.Machine.execCoefDataAccess write v s
  | .add p d a b => Sys2Proof.Machine.execAdd p d a b s
  | .sub p d a b => Sys2Proof.Machine.execSub p d a b s
  | .and p d a b => Sys2Proof.Machine.execAnd p d a b s
  | .or p d a b => Sys2Proof.Machine.execOr p d a b s
  | .xor p d a b => Sys2Proof.Machine.execXor p d a b s
  | .andn p d a b => Sys2Proof.Machine.execAndn p d a b s
  | .sll p d a x => Sys2Proof.Machine.execSll p d a x s
  | .srl p d a x => Sys2Proof.Machine.execSrl p d a x s
  | .sra p d a x => Sys2Proof.Machine.execSra p d a x s
  | .sllv p d a b => Sys2Proof.Machine.execSllv p d a b s
  | .srlv p d a b => Sys2Proof.Machine.execSrlv p d a b s
  | .srav p d a b => Sys2Proof.Machine.execSrav p d a b s
  | .cmplt p d a b => Sys2Proof.Machine.execCmplt p d a b s
  | .cmpltu p d a b => Sys2Proof.Machine.execCmpltu p d a b s
  | .min p d a b => Sys2Proof.Machine.execMin p d a b s
  | .max p d a b => Sys2Proof.Machine.execMax p d a b s
  | .qadd p d a b => Sys2Proof.Machine.execQadd p d a b s
  | .qsub p d a b => Sys2Proof.Machine.execQsub p d a b s
  | .qabs p d a => Sys2Proof.Machine.execQabs p d a s
  | .qneg p d a => Sys2Proof.Machine.execQneg p d a s
  | .mul p d a b => Sys2Proof.Machine.execMul p d a b s
  | .mulh p d a b => Sys2Proof.Machine.execMulh p d a b s
  | .mulhu p d a b => Sys2Proof.Machine.execMulhu p d a b s
  | .qmul p d a b => Sys2Proof.Machine.execQmul p d a b s
  | .div p d a b => Sys2Proof.Machine.execDiv p d a b s
  | .divu p d a b => Sys2Proof.Machine.execDivu p d a b s
  | .rem p d a b => Sys2Proof.Machine.execRem p d a b s
  | .remu p d a b => Sys2Proof.Machine.execRemu p d a b s
  | .sqrt p d a => Sys2Proof.Machine.execSqrt p d a s
  | .qsqrt p d a => Sys2Proof.Machine.execQsqrt p d a s
  | .addi p d a imm => Sys2Proof.Machine.execAddi p d a imm s
  | .andi p d a imm => Sys2Proof.Machine.execAndi p d a imm s
  | .ori p d a imm => Sys2Proof.Machine.execOri p d a imm s
  | .xori p d a imm => Sys2Proof.Machine.execXori p d a imm s
  | .himm p d imm => Sys2Proof.Machine.execHimm p d imm s
  | .cmplti p d a imm => Sys2Proof.Machine.execCmplti p d a imm s
  | .cmpltiu p d a imm => Sys2Proof.Machine.execCmpltiu p d a imm s
  | .ld p d a imm memErr => Sys2Proof.Machine.execLd p d a imm memErr s
  | .st p d a imm => Sys2Proof.Machine.execSt p d a imm s
  | .vld p d a imm memErr => Sys2Proof.Machine.execVld p d a imm memErr s
  | .vst p d a imm => Sys2Proof.Machine.execVst p d a imm s
  | .vadd p d a b => Sys2Proof.Machine.execVadd p d a b s
  | .vsub p d a b => Sys2Proof.Machine.execVsub p d a b s
  | .vqadd p d a b => Sys2Proof.Machine.execVqadd p d a b s
  | .vqsub p d a b => Sys2Proof.Machine.execVqsub p d a b s
  | .vqmul p d a b => Sys2Proof.Machine.execVqmul p d a b s
  | .vmul p d a b => Sys2Proof.Machine.execVmul p d a b s
  | .vand p d a b => Sys2Proof.Machine.execVand p d a b s
  | .vor p d a b => Sys2Proof.Machine.execVor p d a b s
  | .vxor p d a b => Sys2Proof.Machine.execVxor p d a b s
  | .vsll p d a x => Sys2Proof.Machine.execVsll p d a x s
  | .vsra p d a x => Sys2Proof.Machine.execVsra p d a x s
  | .vmin p d a b => Sys2Proof.Machine.execVmin p d a b s
  | .vmax p d a b => Sys2Proof.Machine.execVmax p d a b s
  | .vqabs p d a => Sys2Proof.Machine.execVqabs p d a s
  | .vmac p d a b x => Sys2Proof.Machine.execVmac p d a b x s
  | .vmaci p d a b x => Sys2Proof.Machine.execVmaci p d a b x s
  | .vmsu p d a b x => Sys2Proof.Machine.execVmsu p d a b x s
  | .vmsui p d a b x => Sys2Proof.Machine.execVmsui p d a b x s
  | .vins p d a e => Sys2Proof.Machine.execVins p d a e s
  | .vext p d a e => Sys2Proof.Machine.execVext p d a e s
  | .vbc p d a => Sys2Proof.Machine.execVbc p d a s
  | .vmov p d a => Sys2Proof.Machine.execVmov p d a s
  | .vsum p d a => Sys2Proof.Machine.execVsum p d a s
  | .aclr p d => Sys2Proof.Machine.execAclr p d s
  | .amov p d a => Sys2Proof.Machine.execAmov p d a s
  | .aadds p d a x => Sys2Proof.Machine.execAadds p d a x s
  | .aadd p d a => Sys2Proof.Machine.execAadd p d a s
  | .asub p d a => Sys2Proof.Machine.execAsub p d a s
  | .arnd p d a x => Sys2Proof.Machine.execArnd p d a x s
  | .ardw p d a w => Sys2Proof.Machine.execArdw p d a w s
  | .awrw p d a w => Sys2Proof.Machine.execAwrw p d a w s
  | .mac p d a b x => Sys2Proof.Machine.execMac p d a b x s
  | .maci p d a b x => Sys2Proof.Machine.execMaci p d a b x s
  | .msu p d a b x => Sys2Proof.Machine.execMsu p d a b x s
  | .msui p d a b x => Sys2Proof.Machine.execMsui p d a b x s
  | .loop p k a cnt len => Sys2Proof.Machine.execLoop p k a cnt len s
  | .ifeq p a b off => Sys2Proof.Machine.execIfeq p a b off s
  | .ifne p a b off => Sys2Proof.Machine.execIfne p a b off s
  | .iflt p a b off => Sys2Proof.Machine.execIflt p a b off s
  | .ifge p a b off => Sys2Proof.Machine.execIfge p a b off s
  | .ifltu p a b off => Sys2Proof.Machine.execIfltu p a b off s
  | .ifgeu p a b off => Sys2Proof.Machine.execIfgeu p a b off s
  | .call p d imm => Sys2Proof.Machine.execCall p d imm s
  | .jump p d a => Sys2Proof.Machine.execJump p d a s
  | .ur p d unit reg a => Sys2Proof.Machine.execUr p d unit reg a s
  | .uw p d unit reg a => Sys2Proof.Machine.execUw p d unit reg a s
  | .uset p d unit reg a => Sys2Proof.Machine.execUset p d unit reg a s
  | .uclr p d unit reg a => Sys2Proof.Machine.execUclr p d unit reg a s
  | .stg p d ch strm idx a => Sys2Proof.Machine.execStg p d ch strm idx a s
  | .stvc p d ch strm idx a => Sys2Proof.Machine.execStvc p d ch strm idx a s
  | .stvi p d ch strm idx a => Sys2Proof.Machine.execStvi p d ch strm idx a s
  | .jacc p d a x => Sys2Proof.Machine.execJacc p d a x s
  | .leaseTake p d x => Sys2Proof.Machine.execLeaseTake p d x s
  | .leaseRenew p d x => Sys2Proof.Machine.execLeaseRenew p d x s
  | .leaseRelease p d x => Sys2Proof.Machine.execLeaseRelease p d x s
  | .leaseQuery p d x => Sys2Proof.Machine.execLeaseQuery p d x s
  | .permit p d a b cls nowait => Sys2Proof.Machine.execPermit p d a b cls nowait s
  | .cue p d a => Sys2Proof.Machine.execCue p d a s
  | .mext p x a => Sys2Proof.Machine.execMext p x a s
  | .bswap p a bankB => Sys2Proof.Machine.execBswap p a bankB s
  | .csrRead p d c => Sys2Proof.Machine.execCsrRead p d c s
  | .csrWrite p d a c => Sys2Proof.Machine.execCsrWrite p d a c s
  | .csrSet p d a c => Sys2Proof.Machine.execCsrSet p d a c s
  | .csrClear p d a c => Sys2Proof.Machine.execCsrClear p d a c s
  | .nop p => Sys2Proof.Machine.execNop p s
  | .endRun p => Sys2Proof.Machine.execEndRun p s
  | .wait p => Sys2Proof.Machine.execWait p s
  | .reti p => Sys2Proof.Machine.execReti p s
  | .trap p x => Sys2Proof.Machine.execTrap p x s
  | .flr p d => Sys2Proof.Machine.execFlr p d s
  | .flw p a => Sys2Proof.Machine.execFlw p a s
  | .normalEntry c => Sys2Proof.Machine.execNormalEntry c s
  | .fastEntry c => Sys2Proof.Machine.execFastEntry c s
  | .grainProgramStart n => Sys2Proof.Machine.execGrainProgramStart n s
  | .standbyRecompute => Sys2Proof.Machine.execStandbyRecompute s
  | .voteTail => Sys2Proof.Machine.execVoteTail s
  | .standbyRebuildEnd => Sys2Proof.Machine.execStandbyRebuildEnd s
  | .laneSelftestFail n => Sys2Proof.Machine.execLaneSelftestFail n s
  | .laneRetireCommit => Sys2Proof.Machine.execLaneRetireCommit s
  | .installSectionsDone n => Sys2Proof.Machine.execInstallSectionsDone n s
  | .cueProgramStart c => Sys2Proof.Machine.execCueProgramStart c s
  | .leaseExpiry x => Sys2Proof.Machine.execLeaseExpiry x s
  | .leaseRollbackDone x => Sys2Proof.Machine.execLeaseRollbackDone x s
  | .leaseRollbackOverdue x => Sys2Proof.Machine.execLeaseRollbackOverdue x s
  | .nrgBindWrite p idx v => Sys2Proof.Machine.execNrgBindWrite p idx v s
  | .tariffWrite t byCue => Sys2Proof.Machine.execTariffWrite t byCue s
  | .pulseEnd n => Sys2Proof.Machine.execPulseEnd n s
  | .pulseSourceWrite n isSrc v => Sys2Proof.Machine.execPulseSourceWrite n isSrc v s
  | .ewvalWrite v => Sys2Proof.Machine.execEwvalWrite v s
  | .ewStale => Sys2Proof.Machine.execEwStale s
  | .f10WindowEnd => Sys2Proof.Machine.execF10WindowEnd s
  | .pqBlockPost => Sys2Proof.Machine.execPqBlockPost s
  | .supraWindowEnd => Sys2Proof.Machine.execSupraWindowEnd s
  | .pqThrWrite idx v => Sys2Proof.Machine.execPqThrWrite idx v s
  | .udinWrite port v => Sys2Proof.Machine.execUdinWrite port v s
  | .captArm => Sys2Proof.Machine.execCaptArm s
  | .captTrig => Sys2Proof.Machine.execCaptTrig s
  | .captDisarm => Sys2Proof.Machine.execCaptDisarm s
  | .captPreFilled => Sys2Proof.Machine.execCaptPreFilled s
  | .captFreeze => Sys2Proof.Machine.execCaptFreeze s
  | .drawGo p v => Sys2Proof.Machine.execDrawGo p v s
  | .drawParcel => Sys2Proof.Machine.execDrawParcel s
  | .aonBelayCommit => Sys2Proof.Machine.execAonBelayCommit s
  | .cairnBelayCommit => Sys2Proof.Machine.execCairnBelayCommit s
  | .supplyFailWarning cell => Sys2Proof.Machine.execSupplyFailWarning cell s
  | .closingSnapshot => Sys2Proof.Machine.execClosingSnapshot s
  | .supplyFailClear => Sys2Proof.Machine.execSupplyFailClear s
  | .resetAssert => Sys2Proof.Machine.execResetAssert s
  | .segmentFold => Sys2Proof.Machine.execSegmentFold s
  | .foldCommit => Sys2Proof.Machine.execFoldCommit s
  | .journalParcelSend => Sys2Proof.Machine.execJournalParcelSend s
  | .stagedAppendGo => Sys2Proof.Machine.execStagedAppendGo s
  | .stageDataWrite v => Sys2Proof.Machine.execStageDataWrite v s
  | .portOpen p area => Sys2Proof.Machine.execPortOpen p area s
  | .portCopyDone => Sys2Proof.Machine.execPortCopyDone s
  | .portDataWrite p v => Sys2Proof.Machine.execPortDataWrite p v s
  | .portCommit p => Sys2Proof.Machine.execPortCommit p s
  | .portAbort p => Sys2Proof.Machine.execPortAbort p s
  | .cairnAddrWrite v => Sys2Proof.Machine.execCairnAddrWrite v s
  | .cairnDataRead => Sys2Proof.Machine.execCairnDataRead s
  | .selfcalGo p permit => Sys2Proof.Machine.execSelfcalGo p permit s
  | .selfcalPhaseEnd phase => Sys2Proof.Machine.execSelfcalPhaseEnd phase s
  | .calibrationWrite p idx v => Sys2Proof.Machine.execCalibrationWrite p idx v s
  | .driftSave => Sys2Proof.Machine.execDriftSave s
  | .driftReset p => Sys2Proof.Machine.execDriftReset p s
  | .shnodeRestart p => Sys2Proof.Machine.execShnodeRestart p s
  | .otpDataRead => Sys2Proof.Machine.execOtpDataRead s
  | .auxGo p => Sys2Proof.Machine.execAuxGo p s
  | .auxStop p => Sys2Proof.Machine.execAuxStop p s
  | .auxCal p => Sys2Proof.Machine.execAuxCal p s
  | .auxCalStepEnd => Sys2Proof.Machine.execAuxCalStepEnd s
  | .auxConversionEnd code => Sys2Proof.Machine.execAuxConversionEnd code s
  | .auxResultRead p => Sys2Proof.Machine.execAuxResultRead p s
  | .auxChWrite p v => Sys2Proof.Machine.execAuxChWrite p v s
  | .auxRefReady => Sys2Proof.Machine.execAuxRefReady s
  | .urgentRequest src ch => Sys2Proof.Machine.execUrgentRequest src ch s
  | .urgentConversionEnd code => Sys2Proof.Machine.execUrgentConversionEnd code s
  | .irqPresent => Sys2Proof.Machine.execIrqPresent s
  | .waitWake c => Sys2Proof.Machine.execWaitWake c s
  | .swsetWrite c mask => Sys2Proof.Machine.execSwsetWrite c mask s
  | .irqTimerWrite c v => Sys2Proof.Machine.execIrqTimerWrite c v s
  | .coreTimerExpiry c => Sys2Proof.Machine.execCoreTimerExpiry c s
  | .scntRead p => Sys2Proof.Machine.execScntRead p s
  | .irqMaskWrite idx v => Sys2Proof.Machine.execIrqMaskWrite idx v s
  | .irqPendClear idx v => Sys2Proof.Machine.execIrqPendClear idx v s
  | .holdoffEnd g => Sys2Proof.Machine.execHoldoffEnd g s
  | .lineLevelChange l => Sys2Proof.Machine.execLineLevelChange l s
  | .lineEdgeLatch l rising => Sys2Proof.Machine.execLineEdgeLatch l rising s
  | .modemTxGo p => Sys2Proof.Machine.execModemTxGo p s
  | .modemTxCancel p => Sys2Proof.Machine.execModemTxCancel p s
  | .modemFrameStart => Sys2Proof.Machine.execModemFrameStart s
  | .modemFrameEnd => Sys2Proof.Machine.execModemFrameEnd s
  | .modemChannelBusy => Sys2Proof.Machine.execModemChannelBusy s
  | .lbtBackoffEnd => Sys2Proof.Machine.execLbtBackoffEnd s
  | .modemPreambleSync => Sys2Proof.Machine.execModemPreambleSync s
  | .modemRxDecode began symbols => Sys2Proof.Machine.execModemRxDecode began symbols s
  | .modemAckSend => Sys2Proof.Machine.execModemAckSend s
  | .modemAckTimeout => Sys2Proof.Machine.execModemAckTimeout s
  | .glassModeWrite p v => Sys2Proof.Machine.execGlassModeWrite p v s
  | .lcdcfgWrite p v => Sys2Proof.Machine.execLcdcfgWrite p v s
  | .ntcRequest code => Sys2Proof.Machine.execNtcRequest code s
  | .pumpFault => Sys2Proof.Machine.execPumpFault s
  | .tableDataAccess p write v => Sys2Proof.Machine.execTableDataAccess p write v s
  | .tableCheck p v => Sys2Proof.Machine.execTableCheck p v s
  | .regionMaskWrite p r high v => Sys2Proof.Machine.execRegionMaskWrite p r high v s
  | .glassUpdateRequest p v => Sys2Proof.Machine.execGlassUpdateRequest p v s
  | .glassUpdateStart => Sys2Proof.Machine.execGlassUpdateStart s
  | .glassUpdateEnd => Sys2Proof.Machine.execGlassUpdateEnd s
  | .outageViewEnd => Sys2Proof.Machine.execOutageViewEnd s
  | .crackReading code => Sys2Proof.Machine.execCrackReading code s
  | .crackPulseCheck ok => Sys2Proof.Machine.execCrackPulseCheck ok s
  | .tamperTick t => Sys2Proof.Machine.execTamperTick t s
  | .tamperTest p v => Sys2Proof.Machine.execTamperTest p v s
  | .testPortLeaveReset => Sys2Proof.Machine.execTestPortLeaveReset s
  | .sessionIdleTimeout => Sys2Proof.Machine.execSessionIdleTimeout s
  | .nonceExpiry => Sys2Proof.Machine.execNonceExpiry s
  | .accessClose => Sys2Proof.Machine.execAccessClose s
  | .measDataRead p => Sys2Proof.Machine.execMeasDataRead p s
  | .quoteSigned => Sys2Proof.Machine.execQuoteSigned s
  | .permitQueuedGrant => Sys2Proof.Machine.execPermitQueuedGrant s
  | .permitRelease p v => Sys2Proof.Machine.execPermitRelease p v s
  | .permitExpiry n => Sys2Proof.Machine.execPermitExpiry n s
  | .hostAbsenceTimeout => Sys2Proof.Machine.execHostAbsenceTimeout s
  | .bivouacEntryDecide => Sys2Proof.Machine.execBivouacEntryDecide s
  | .bulkDropout => Sys2Proof.Machine.execBulkDropout s
  | .bivouacWindow codes t pulseOk => Sys2Proof.Machine.execBivouacWindow codes t pulseOk s
  | .mainsReturn saveGood aonGood => Sys2Proof.Machine.execMainsReturn saveGood aonGood s
  | .mainsUp aonGood => Sys2Proof.Machine.execMainsUp aonGood s
  | .cellExhausted => Sys2Proof.Machine.execCellExhausted s
  | .railCollapse => Sys2Proof.Machine.execRailCollapse s
  | .brownOut => Sys2Proof.Machine.execBrownOut s
  | .watchdogServe p c v => Sys2Proof.Machine.execWatchdogServe p c v s
  | .watchdogWarn c => Sys2Proof.Machine.execWatchdogWarn c s
  | .watchdogExpiry c => Sys2Proof.Machine.execWatchdogExpiry c s
  | .resetRequest p v => Sys2Proof.Machine.execResetRequest p v s
  | .zeroizeReset => Sys2Proof.Machine.execZeroizeReset s
  | .testPortReset => Sys2Proof.Machine.execTestPortReset s
  | .hreset => Sys2Proof.Machine.execHreset s
  | .hostDieReady => Sys2Proof.Machine.execHostDieReady s
  | .hvddLoss => Sys2Proof.Machine.execHvddLoss s
  | .spiStatus => Sys2Proof.Machine.execSpiStatus s
  | .spiWrite len bytes => Sys2Proof.Machine.execSpiWrite len bytes s
  | .spiRead whole => Sys2Proof.Machine.execSpiRead whole s
  | .spiRepeat => Sys2Proof.Machine.execSpiRepeat s
  | .spiInvalidCommand => Sys2Proof.Machine.execSpiInvalidCommand s
  | .parcelLoad => Sys2Proof.Machine.execParcelLoad s
  | .parcelAck => Sys2Proof.Machine.execParcelAck s
  | .orderStart => Sys2Proof.Machine.execOrderStart s
  | .orderInstall => Sys2Proof.Machine.execOrderInstall s
  | .orderRemove => Sys2Proof.Machine.execOrderRemove s
  | .orderCue => Sys2Proof.Machine.execOrderCue s
  | .orderSetUtc => Sys2Proof.Machine.execOrderSetUtc s
  | .orderSelfcal => Sys2Proof.Machine.execOrderSelfcal s
  | .orderReset => Sys2Proof.Machine.execOrderReset s
  | .orderOpenService => Sys2Proof.Machine.execOrderOpenService s
  | .orderChallenge => Sys2Proof.Machine.execOrderChallenge s
  | .orderAnswer => Sys2Proof.Machine.execOrderAnswer s
  | .orderClose => Sys2Proof.Machine.execOrderClose s
  | .orderTariff => Sys2Proof.Machine.execOrderTariff s
  | .orderAdjust => Sys2Proof.Machine.execOrderAdjust s
  | .orderTamperClear => Sys2Proof.Machine.execOrderTamperClear s
  | .accessSetVerifier => Sys2Proof.Machine.execAccessSetVerifier s
  | .accessRemoveVerifier => Sys2Proof.Machine.execAccessRemoveVerifier s
  | .accessProductionLock => Sys2Proof.Machine.execAccessProductionLock s
  | .accessSetIdle => Sys2Proof.Machine.execAccessSetIdle s
  | .viewInventory => Sys2Proof.Machine.execViewInventory s
  | .viewStatus => Sys2Proof.Machine.execViewStatus s
  | .viewTotals => Sys2Proof.Machine.execViewTotals s
  | .viewInterrupts => Sys2Proof.Machine.execViewInterrupts s
  | .viewQuantityStore => Sys2Proof.Machine.execViewQuantityStore s
  | .viewUnit => Sys2Proof.Machine.execViewUnit s
  | .viewCairn => Sys2Proof.Machine.execViewCairn s
  | .viewQuote => Sys2Proof.Machine.execViewQuote s
  | .viewStartReport => Sys2Proof.Machine.execViewStartReport s
  | .outboundLenWrite v => Sys2Proof.Machine.execOutboundLenWrite v s
  | .outboundDataWrite v => Sys2Proof.Machine.execOutboundDataWrite v s
  | .outboundGo v => Sys2Proof.Machine.execOutboundGo v s
  | .inboundDataRead p => Sys2Proof.Machine.execInboundDataRead p s
  | .counterReadClear p unit reg => Sys2Proof.Machine.execCounterReadClear p unit reg s
  | .registerWrite p unit reg v => Sys2Proof.Machine.execRegisterWrite p unit reg v s
  | .supplyGlitch => Sys2Proof.Machine.execSupplyGlitch s
  | .modemChannelIdle => Sys2Proof.Machine.execModemChannelIdle s
  | .lcdFrameBoundary => Sys2Proof.Machine.execLcdFrameBoundary s
  | .hvddUp => Sys2Proof.Machine.execHvddUp s
  | .testLogicReset => Sys2Proof.Machine.execTestLogicReset s
  | .cairnReadReady => Sys2Proof.Machine.execCairnReadReady s

end Sys2Proof.Machine
end

