-- ==== Sys2Proof/Machine/QInstr.lean ====
section
/-! DEFINITION. The command a Quineg instruction word spells (R185–R187, R205–R228): the operands of every legal word, by
the fields of its format. -/

namespace Sys2Proof.Machine

/-- A scalar register's number, or a shift or CSR number, from a five-bit field (R186). -/
def q5 (n : Nat) : Fin 32 := Fin.ofNat 32 n

/-- A vector register's number (R186). -/
def q4 (n : Nat) : Fin 16 := Fin.ofNat 16 n

/-- An accumulator's number (R186). -/
def q3 (n : Nat) : Fin 8 := Fin.ofNat 8 n

/-- The X field (R185). -/
def q6 (n : Nat) : Fin 64 := Fin.ofNat 64 n

/-- The stream of a STRM field (R185, R190). -/
def qStream : Nat → Stream
  | 0 => .grain
  | 1 => .pitch
  | _ => .strided

/-- ALU (R205). -/
def qAlu (p : Proc) (d a b : Fin 32) (x : Fin 32) : Nat → Option Instr
  | 0x00 => some (.add p d a b)
  | 0x01 => some (.sub p d a b)
  | 0x02 => some (.and p d a b)
  | 0x03 => some (.or p d a b)
  | 0x04 => some (.xor p d a b)
  | 0x05 => some (.andn p d a b)
  | 0x06 => some (.sll p d a x)
  | 0x07 => some (.srl p d a x)
  | 0x08 => some (.sra p d a x)
  | 0x09 => some (.sllv p d a b)
  | 0x0A => some (.srlv p d a b)
  | 0x0B => some (.srav p d a b)
  | 0x0C => some (.cmplt p d a b)
  | 0x0D => some (.cmpltu p d a b)
  | 0x0E => some (.min p d a b)
  | 0x0F => some (.max p d a b)
  | 0x10 => some (.qadd p d a b)
  | 0x11 => some (.qsub p d a b)
  | 0x12 => some (.qabs p d a)
  | 0x13 => some (.qneg p d a)
  | _ => none

/-- MDS (R207). -/
def qMds (p : Proc) (d a b : Fin 32) : Nat → Option Instr
  | 0 => some (.mul p d a b)
  | 1 => some (.mulh p d a b)
  | 2 => some (.mulhu p d a b)
  | 3 => some (.qmul p d a b)
  | 4 => some (.div p d a b)
  | 5 => some (.divu p d a b)
  | 6 => some (.rem p d a b)
  | 7 => some (.remu p d a b)
  | 8 => some (.sqrt p d a)
  | 9 => some (.qsqrt p d a)
  | _ => none

/-- VALU (R211). -/
def qValu (p : Proc) (d a b : Fin 16) (x : Fin 32) : Nat → Option Instr
  | 0x0 => some (.vadd p d a b)
  | 0x1 => some (.vsub p d a b)
  | 0x2 => some (.vqadd p d a b)
  | 0x3 => some (.vqsub p d a b)
  | 0x4 => some (.vqmul p d a b)
  | 0x5 => some (.vmul p d a b)
  | 0x6 => some (.vand p d a b)
  | 0x7 => some (.vor p d a b)
  | 0x8 => some (.vxor p d a b)
  | 0x9 => some (.vsll p d a x)
  | 0xA => some (.vsra p d a x)
  | 0xB => some (.vmin p d a b)
  | 0xC => some (.vmax p d a b)
  | 0xD => some (.vqabs p d a)
  | _ => none

/-- VMAC (R178, R212): FN[0] integer, FN[1] subtracting. -/
def qVmac (p : Proc) (d : Fin 8) (a b : Fin 16) (x : Fin 64) : Nat → Option Instr
  | 0 => some (.vmac p d a b x)
  | 1 => some (.vmaci p d a b x)
  | 2 => some (.vmsu p d a b x)
  | 3 => some (.vmsui p d a b x)
  | _ => none

/-- MAC (R178, R215): FN[0] integer, FN[1] subtracting. -/
def qMac (p : Proc) (d : Fin 8) (a b : Fin 32) (x : Fin 64) : Nat → Option Instr
  | 0 => some (.mac p d a b x)
  | 1 => some (.maci p d a b x)
  | 2 => some (.msu p d a b x)
  | 3 => some (.msui p d a b x)
  | _ => none

/-- VLN (R213). -/
def qVln (p : Proc) (d a x : Nat) : Nat → Option Instr
  | 0 => some (.vins p (q4 d) (q5 a) (Fin.ofNat 4 x))
  | 1 => some (.vext p (q5 d) (q4 a) (Fin.ofNat 4 x))
  | 2 => some (.vbc p (q4 d) (q5 a))
  | 3 => some (.vmov p (q4 d) (q4 a))
  | 4 => some (.vsum p (q5 d) (q4 a))
  | _ => none

/-- ACC (R214). -/
def qAcc (p : Proc) (d a x : Nat) : Nat → Option Instr
  | 0 => some (.aclr p (q3 d))
  | 1 => some (.amov p (q3 d) (q3 a))
  | 2 => some (.aadds p (q3 d) (q5 a) (q6 x))
  | 3 => some (.aadd p (q3 d) (q3 a))
  | 4 => some (.asub p (q3 d) (q3 a))
  | 5 => some (.arnd p (q5 d) (q3 a) (q6 x))
  | 6 => some (.ardw p (q5 d) (q3 a) (Fin.ofNat 3 x))
  | 7 => some (.awrw p (q3 d) (q5 a) (Fin.ofNat 3 x))
  | _ => none

/-- LEASE (R222). -/
def qLease (p : Proc) (d : Fin 32) (x : Fin 64) : Nat → Option Instr
  | 0 => some (.leaseTake p d x)
  | 1 => some (.leaseRenew p d x)
  | 2 => some (.leaseRelease p d x)
  | 3 => some (.leaseQuery p d x)
  | _ => none

/-- SYS (R228). -/
def qSys (p : Proc) (d a : Fin 32) (x : Fin 64) : Nat → Option Instr
  | 0 => some (.nop p)
  | 1 => some (.endRun p)
  | 2 => some (.wait p)
  | 3 => some (.reti p)
  | 4 => some (.trap p x)
  | 5 => some (.flr p d)
  | 6 => some (.flw p a)
  | _ => none

/-- A word of the three-register format (R185). -/
def qT (p : Proc) (op d x fn a b : Nat) : Option Instr :=
  match op with
  | 0x01 => qAlu p (q5 d) (q5 a) (q5 b) (q5 x) fn
  | 0x02 => qMds p (q5 d) (q5 a) (q5 b) fn
  | 0x10 => qValu p (q4 d) (q4 a) (q4 b) (q5 x) fn
  | 0x11 => qVmac p (q3 d) (q4 a) (q4 b) (q6 x) fn
  | 0x12 => qVln p d a x fn
  | 0x14 => qAcc p d a x fn
  | 0x15 => qMac p (q3 d) (q5 a) (q5 b) (q6 x) fn
  | 0x23 => some (.jump p (q5 d) (q5 a))
  | 0x30 => some (.jacc p (q5 d) (q3 a) (q6 x))
  | 0x31 => qLease p (q5 d) (q6 x) fn
  | 0x32 => some (.permit p (q5 d) (q5 a) (q5 b) (Fin.ofNat 4 fn) (bitOf fn 2))
  | 0x33 => some (.cue p (q5 d) (q4 a))
  | 0x34 => some (.mext p (Fin.ofNat 4 x) (q5 a))
  | 0x35 => some (.bswap p (q5 a) (bitOf fn 0))
  | 0x39 => qSys p (q5 d) (q5 a) (q6 x) fn
  | _ => none

/-- A CSR word (R227): IMM[7:6] the operation, IMM[4:0] the register. -/
def qCsr (p : Proc) (d a : Fin 32) (imm : Nat) : Nat → Option Instr
  | 0 => some (.csrRead p d (q5 imm))
  | 1 => some (.csrWrite p d a (q5 imm))
  | 2 => some (.csrSet p d a (q5 imm))
  | 3 => some (.csrClear p d a (q5 imm))
  | _ => none

/-- A word of the immediate format (R185, R209, R210, R218, R227); a load's memory error is an event, not a field. -/
def qI (p : Proc) (op d imm a : Nat) (memErr : Bool) : Option Instr :=
  let i := BitVec.ofNat 16 imm
  match op with
  | 0x03 => some (.addi p (q5 d) (q5 a) i)
  | 0x04 => some (.andi p (q5 d) (q5 a) i)
  | 0x05 => some (.ori p (q5 d) (q5 a) i)
  | 0x06 => some (.xori p (q5 d) (q5 a) i)
  | 0x07 => some (.himm p (q5 d) i)
  | 0x08 => some (.cmplti p (q5 d) (q5 a) i)
  | 0x09 => some (.cmpltiu p (q5 d) (q5 a) i)
  | 0x0A => some (.ld p (q5 d) (q5 a) i memErr)
  | 0x0B => some (.st p (q5 d) (q5 a) i)
  | 0x0C => some (.vld p (q4 d) (q5 a) i memErr)
  | 0x0D => some (.vst p (q4 d) (q5 a) i)
  | 0x22 => some (.call p (q5 d) i)
  | 0x38 => qCsr p (q5 d) (q5 a) imm (field imm 6 2)
  | _ => none

/-- A branch (R217). -/
def qB (p : Proc) (a b : Fin 32) (off : BitVec 16) : Nat → Option Instr
  | 0x1C => some (.ifeq p a b off)
  | 0x1D => some (.ifne p a b off)
  | 0x1E => some (.iflt p a b off)
  | 0x1F => some (.ifge p a b off)
  | 0x20 => some (.ifltu p a b off)
  | 0x21 => some (.ifgeu p a b off)
  | _ => none

/-- A unit instruction (R219). -/
def qU (p : Proc) (d : Fin 32) (unit reg : Fin 256) (a : Fin 32) : Nat → Option Instr
  | 0x28 => some (.ur p d unit reg a)
  | 0x29 => some (.uw p d unit reg a)
  | 0x2A => some (.uset p d unit reg a)
  | 0x2B => some (.uclr p d unit reg a)
  | _ => none

/-- A stream instruction (R220). -/
def qS (p : Proc) (d : Nat) (ch : Fin 24) (strm : Stream) (idx : Fin 512) (a : Fin 32) : Nat → Option Instr
  | 0x2C => some (.stg p (q5 d) ch strm idx a)
  | 0x2D => some (.stvc p (q4 d) ch strm idx a)
  | 0x2E => some (.stvi p (q4 d) ch strm idx a)
  | _ => none

/-- The command that the fields of a word spell, its legality aside. -/
def qfields (p : Proc) (w : Nat) (memErr : Bool) : Option Instr :=
  let op := field w 26 6
  let d := field w 21 5
  let a := field w 0 5
  if op ∈ [0x03, 0x04, 0x05, 0x06, 0x07, 0x08, 0x09, 0x0A, 0x0B, 0x0C, 0x0D, 0x22, 0x38] then
    qI p op d (field w 5 16) a memErr
  else if op = 0x18 then
    some (.loop p (bitOf w 25) (q5 (field w 20 5)) (BitVec.ofNat 12 (field w 8 12)) (BitVec.ofNat 8 (field w 0 8)))
  else if 0x1C ≤ op ∧ op ≤ 0x21 then qB p (q5 d) (q5 a) (BitVec.ofNat 16 (field w 5 16)) op
  else if 0x28 ≤ op ∧ op ≤ 0x2B then
    qU p (q5 d) (Fin.ofNat 256 (field w 13 8)) (Fin.ofNat 256 (field w 5 8)) (q5 a) op
  else if 0x2C ≤ op ∧ op ≤ 0x2E then
    qS p d (Fin.ofNat 24 (field w 16 5)) (qStream (field w 14 2)) (Fin.ofNat 512 (field w 5 9)) (q5 a) op
  else qT p op d (field w 15 6) (field w 10 5) (field w 5 5) a

/-- A profile is a processor's (R180). -/
def Profile.fits : Profile → Proc → Bool
  | .both, _ => true
  | .lane, .lane _ => true
  | .control, .cc _ => true
  | _, _ => false

/-- The command a word spells on a processor, none where it is illegal there (R180, R185–R187). -/
def qcommand (p : Proc) (w : Nat) (memErr : Bool) : Option Instr :=
  match qdecode w with
  | none => none
  | some d => if d.profile.fits p then qfields p w memErr else none

end Sys2Proof.Machine
end

