-- ==== Sys2Proof/Safety.lean ====
section
/-! DEFINITION. What counts as a safe run, and the words the statements are written in: which part of the state a command
leaves alone, what an instruction does to a processor's registers and flags, the invariants. -/

namespace Sys2Proof.Machine

/-- The step at s neither faults nor refuses. -/
def State.StepsOn (s : State) : Prop := ∃ t, step s = .next t

/-- n steps from s all answer a next state. -/
def State.RunsOn : Nat → State → Prop
  | 0, _ => True
  | n + 1, s => ∃ t, step s = .next t ∧ State.RunsOn n t

/-! ## Frames -/

/-- The components of the state besides the register fields. -/
inductive Comp where
  | part | force | mem | clock | lanes | cores | power | tracker | pps | utcSet | cues | chain | quads | selfCal | shNode | bitMon | driftBlocks | rampBlocks | second | retiring | changeOver | streams | progs | laneOrders
  | rope | leases | slots | resp | pulse | watch | cairn | jrnl | port | readAt | pq | capt | aux | irq | readData | modem | glass | tamp | access | pwr | link | free | pending
  deriving DecidableEq, Repr

/-- A component is the same in two states. -/
def Comp.same (s t : State) : Comp → Prop
  | .part => t.part = s.part
  | .force => t.force = s.force
  | .mem => t.mem = s.mem
  | .clock => t.clock = s.clock
  | .lanes => t.lanes = s.lanes
  | .cores => t.cores = s.cores
  | .power => t.power = s.power
  | .tracker => t.tracker = s.tracker
  | .pps => t.pps = s.pps
  | .utcSet => t.utcSet = s.utcSet
  | .cues => t.cues = s.cues
  | .chain => t.chain = s.chain
  | .quads => t.quads = s.quads
  | .selfCal => t.selfCal = s.selfCal
  | .shNode => t.shNode = s.shNode
  | .bitMon => t.bitMon = s.bitMon
  | .driftBlocks => t.driftBlocks = s.driftBlocks
  | .rampBlocks => t.rampBlocks = s.rampBlocks
  | .second => t.second = s.second
  | .retiring => t.retiring = s.retiring
  | .changeOver => t.changeOver = s.changeOver
  | .streams => t.streams = s.streams
  | .progs => t.progs = s.progs
  | .laneOrders => t.laneOrders = s.laneOrders
  | .rope => t.rope = s.rope
  | .leases => t.leases = s.leases
  | .slots => t.slots = s.slots
  | .resp => t.resp = s.resp
  | .pulse => t.pulse = s.pulse
  | .watch => t.watch = s.watch
  | .cairn => t.cairn = s.cairn
  | .jrnl => t.jrnl = s.jrnl
  | .port => t.port = s.port
  | .readAt => t.readAt = s.readAt
  | .pq => t.pq = s.pq
  | .capt => t.capt = s.capt
  | .aux => t.aux = s.aux
  | .irq => t.irq = s.irq
  | .readData => t.readData = s.readData
  | .modem => t.modem = s.modem
  | .glass => t.glass = s.glass
  | .tamp => t.tamp = s.tamp
  | .access => t.access = s.access
  | .pwr => t.pwr = s.pwr
  | .link => t.link = s.link
  | .free => t.free = s.free
  | .pending => t.pending = s.pending

/-- t differs from s at most in the components cs and in the register fields that meet P. -/
def Frame (cs : List Comp) (P : Fld → Prop) (s t : State) : Prop :=
  (∀ f, ¬ P f → t.get f = s.get f) ∧ ∀ c, c ∉ cs → c.same s t

/-- t differs from s at most in the components cs and in the register fields fs. -/
def Same (cs : List Comp) (fs : List Fld) (s t : State) : Prop := Frame cs (· ∈ fs) s t

/-- The fields that the arrival of shared source src writes: its pending bit's word, its count, the count's SAT (R407). -/
def arrivalOf (src : Nat) : List Fld := [IRQ.SPEND.PEND ((src - 0x10) / 32), IRQ.SCNT.COUNT src, IRQ.SCNT.SAT src]

/-- The fields that recording a fault writes, its source among them (R41). -/
def faultFields : List Fld :=
  [SYS.FCOUNT.COUNT, SYS.FCOUNT.SAT, SYS.FAULT.VALID, SYS.FAULT.MORE, SYS.FAULT.UNIT, SYS.FAULT.WHO, SYS.FAULT.CODE,
   SYS.FGRAINLO.GLO, SYS.FGRAINHI.GHI, SYS.FPC.PC] ++ arrivalOf 0x3B

/-- Shared source src has arrived between s and t (R407): it pends, and its count is one more, or full with SAT set. -/
def Arrived (src : Nat) (s t : State) : Prop :=
  t.bit (IRQ.SPEND.PEND ((src - 0x10) / 32)) ((src - 0x10) % 32) = true ∧
  (s.get (IRQ.SCNT.COUNT src) < 255 → t.get (IRQ.SCNT.COUNT src) = s.get (IRQ.SCNT.COUNT src) + 1) ∧
  (s.get (IRQ.SCNT.COUNT src) = 255 → t.get (IRQ.SCNT.COUNT src) = 255 ∧ t.on (IRQ.SCNT.SAT src) = true)

/-! ## Instructions -/

/-- b with scalar register d written; s0 discards the write (R171). -/
def putS (b : Bank) (d : Fin 32) (x : Word) : Bank := if d = 0 then b else { b with s := b.s.set d x }

/-- b with vector register d written. -/
def putV (b : Bank) (d : Fin 16) (x : Vec) : Bank := { b with v := b.v.set d x }

/-- b with accumulator d written. -/
def putA (b : Bank) (d : Fin 8) (x : Acc) : Bank := { b with acc := b.acc.set d x }

/-- The value a scalar operand has: s0 reads zero (R171). -/
def valS (b : Bank) (a : Fin 32) : Word := if a = 0 then 0 else b.s[a]

/-- fl' has the bits that l names at the values it gives, and fl's everywhere else. -/
def FlagsAre (fl fl' : Word) (l : List (Nat × Bool)) : Prop :=
  ∀ i, i < 32 → fl'.getLsbD i = ((l.lookup i).getD (fl.getLsbD i))

/-- From m to t processor p's running context alone has moved on, by an instruction of the given cost: p sees the registers
b and continues at pc with the loop stack loops; a slice has used its cycles; every other register, context and component is
as in m (R173, R174, R189, R202). -/
structure Ran (p : Proc) (cost : Nat) (b : Bank) (pc : Word) (loops : List Loop) (m t : State) : Prop where
  bank : t.bankOf p = b
  next : t.pcOf p = pc
  stack : t.loopsOf p = loops
  frame : Frame [.lanes, .cores] (fun _ => False) m t
  others : (∀ n, p ≠ .lane n → t.lane n = m.lane n) ∧ ∀ c, p ≠ .cc c → t.core c = m.core c
  lane : ∀ n, p = .lane n →
    { t.lane n with g := (m.lane n).g, p := (m.lane n).p, sig := (m.lane n).sig, sliceLeft := (m.lane n).sliceLeft } = m.lane n ∧
    ((m.lane n).cur = some .pitch → (t.lane n).g = (m.lane n).g ∧ (t.lane n).sliceLeft = (m.lane n).sliceLeft - cost) ∧
    ((m.lane n).cur ≠ some .pitch → (t.lane n).p = (m.lane n).p ∧ (t.lane n).sliceLeft = (m.lane n).sliceLeft)
  core : ∀ c, p = .cc c →
    { t.core c with bank := (m.core c).bank, shadow := (m.core c).shadow, pc := (m.core c).pc,
                    loopsBase := (m.core c).loopsBase, loopsMid := (m.core c).loopsMid,
                    loopsFast := (m.core c).loopsFast } = m.core c

/-- The next address and loop stack of p where the instruction does not jump (R216). -/
def State.flow (s : State) (p : Proc) : Word × List Loop := nextPc (s.pcOf p) (s.loopsOf p)

/-- Command c at s is an instruction of p that changes the rest of the machine to m and p's registers to b, and goes on to
the next instruction. -/
def Acts (c : Instr) (p : Proc) (cost : Nat) (s m : State) (b : Bank) : Prop :=
  ∃ t, exec c s = .next t ∧ Ran p cost b (s.flow p).1 (s.flow p).2 m t

/-- Command c at s is an instruction of p that only computes: p's registers become b, the pc advances over the loop stack,
and nothing else changes. -/
def Computes (c : Instr) (p : Proc) (cost : Nat) (s : State) (b : Bank) : Prop := Acts c p cost s s b

/-- Command c at s is an instruction of p that only computes and goes on at pc with the loop stack given. -/
def Goes (c : Instr) (p : Proc) (cost : Nat) (s : State) (b : Bank) (pc : Word) (loops : List Loop) : Prop :=
  ∃ t, exec c s = .next t ∧ Ran p cost b pc loops s t

/-- Command c at s is an instruction of p that faults: the fault of this code is taken, and that is all it does. -/
def Faults (c : Instr) (p : Proc) (s : State) (t : Trap) : Prop := exec c s = .next (s.trap p t)

/-- As Computes, where the registers are b but for the flags, and l says what happens to those. -/
def ComputesFl (c : Instr) (p : Proc) (cost : Nat) (s : State) (b : Bank) (l : List (Nat × Bool)) : Prop :=
  ∃ fl, FlagsAre b.fl fl l ∧ Computes c p cost s { b with fl := fl }

/-- The processor executes an instruction of this cost now: it runs, and a slice has the cycles for it (R189, R244). -/
def State.Executes (s : State) (p : Proc) (cost : Nat) : Prop := s.runs p = true ∧ s.sliceOver p cost = false

/-! ## Invariants -/

/-- The memory and the two field files are in their canonical forms, and every field listed fits its width. -/
def State.Canonical (s : State) : Prop :=
  memWf s.mem = true ∧ fldsWf s.flds = true ∧ fldsWf s.force = true ∧ s.flds.all (fun e => decide (e.2 < 2 ^ e.1.w)) = true

end Sys2Proof.Machine
end

