-- ==== Sys2Proof/WellFormed.lean ====
section
/-! DEFINITION. The form of a command beyond what its operand types say. -/

namespace Sys2Proof

/-- A lease resource of R222. -/
def leaseResource (x : Nat) : Bool := decide (x ≤ 5 ∨ (8 ≤ x ∧ x ≤ 11))

/-- The index of a register of bank A or B of FILT or of RSMP (R169, R170). -/
def bankIndex (rsmp : Bool) (idx : Nat) : Bool :=
  decide ((if rsmp then 0x20 else 0x40) ≤ idx ∧ idx < (if rsmp then 0x60 else 0xC0) ∧ idx % 32 < 24)

/-- A command whose operands the row can carry: a loop by its own count has no count register (R216), four channels end
at ch 23 (R220), a lease names a resource (R222), a bank, mask, pending or calibration write an index its row covers
(R165, R381, R407, R412), a window the codes of its eight channels (R505). Every other operand fits by its type. -/
def Instr.wellFormed : Instr → Bool
  | .loop _ k a _ _ => k || a == 0
  | .stvc _ _ ch _ _ _ => decide (ch.val ≤ 20)
  | .leaseTake _ _ x | .leaseRenew _ _ x | .leaseRelease _ _ x | .leaseQuery _ _ x => leaseResource x
  | .irqMaskWrite idx _ => decide (idx.val ∈ [0x00, 0x0A, 0x0B, 0x14, 0x15, 0x16])
  | .irqPendClear idx _ => decide (idx.val ∈ [0x08, 0x09, 0x10, 0x11, 0x12])
  | .activeBankWrite r idx _ => bankIndex r idx
  | .calibrationWrite _ idx _ => decide (0x40 ≤ idx.val ∧ idx.val < 0x98 ∧ idx.val % 32 < 24)
  | .bivouacWindow codes _ _ => codes.length == 8
  | .xtalRefLost .. | .xtalRefReturn .. | .slowCrystalFail .. | .pllLock .. | .sysFaultClear .. | .grainBoundary ..
  | .tieRecord .. | .splitLowRead .. | .ppsEdge .. | .ppsEdgeMissed .. | .zeroCrossing .. | .trackerTimeout ..
  | .pitchComplete .. | .blockBoundary .. | .intervalBoundary .. | .cueCancelTag .. | .cueCancelAll ..
  | .timecodeFrameSend .. | .timecodeFrameReceive .. | .followerReplySend .. | .followerReplyReceive ..
  | .replyMissed .. | .chainStep .. | .frameLoss .. | .heirTakeover .. | .leaderListenEnd .. | .leaderSilenceEnd ..
  | .handoverGo .. | .handoverSwitch .. | .overloadTrip .. | .spareSettled .. | .dualDecisionSecond ..
  | .retireCommit .. | .traverseDwellEnd .. | .strideRequest .. | .owTestGo .. | .bitclkLoss .. | .bitclkRequalify ..
  | .bitstreamStuck .. | .bitstreamRangeExceed .. | .filtCfgWrite .. | .filtSwap .. | .coefDataAccess .. | .add ..
  | .sub .. | .and .. | .or .. | .xor .. | .andn .. | .sll .. | .srl .. | .sra .. | .sllv .. | .srlv .. | .srav ..
  | .cmplt .. | .cmpltu .. | .min .. | .max .. | .qadd .. | .qsub .. | .qabs .. | .qneg .. | .mul .. | .mulh ..
  | .mulhu .. | .qmul .. | .div .. | .divu .. | .rem .. | .remu .. | .sqrt .. | .qsqrt .. | .addi .. | .andi ..
  | .ori .. | .xori .. | .himm .. | .cmplti .. | .cmpltiu .. | .ld .. | .st .. | .vld .. | .vst .. | .vadd ..
  | .vsub .. | .vqadd .. | .vqsub .. | .vqmul .. | .vmul .. | .vand .. | .vor .. | .vxor .. | .vsll .. | .vsra ..
  | .vmin .. | .vmax .. | .vqabs .. | .vmac .. | .vmaci .. | .vmsu .. | .vmsui .. | .vins .. | .vext .. | .vbc ..
  | .vmov .. | .vsum .. | .aclr .. | .amov .. | .aadds .. | .aadd .. | .asub .. | .arnd .. | .ardw .. | .awrw ..
  | .mac .. | .maci .. | .msu .. | .msui .. | .ifeq .. | .ifne .. | .iflt .. | .ifge .. | .ifltu .. | .ifgeu ..
  | .call .. | .jump .. | .ur .. | .uw .. | .uset .. | .uclr .. | .stg .. | .stvi .. | .jacc .. | .permit ..
  | .cue .. | .mext .. | .bswap .. | .csrRead .. | .csrWrite .. | .csrSet .. | .csrClear .. | .nop .. | .endRun ..
  | .wait .. | .reti .. | .trap .. | .flr .. | .flw .. | .normalEntry .. | .fastEntry .. | .grainProgramStart ..
  | .standbyRecompute .. | .voteTail .. | .standbyRebuildEnd .. | .laneSelftestFail .. | .laneRetireCommit ..
  | .installSectionsDone .. | .cueProgramStart .. | .leaseExpiry .. | .leaseRollbackDone ..
  | .leaseRollbackOverdue .. | .nrgBindWrite .. | .tariffWrite .. | .pulseEnd .. | .pulseSourceWrite ..
  | .ewvalWrite .. | .ewStale .. | .f10WindowEnd .. | .pqBlockPost .. | .supraWindowEnd .. | .pqThrWrite ..
  | .udinWrite .. | .captArm .. | .captTrig .. | .captDisarm .. | .captPreFilled .. | .captFreeze .. | .drawGo ..
  | .drawParcel .. | .aonBelayCommit .. | .cairnBelayCommit .. | .supplyFailWarning .. | .closingSnapshot ..
  | .supplyFailClear .. | .resetAssert .. | .segmentFold .. | .foldCommit .. | .journalParcelSend ..
  | .stagedAppendGo .. | .stageDataWrite .. | .portOpen .. | .portCopyDone .. | .portDataWrite .. | .portCommit ..
  | .portAbort .. | .cairnAddrWrite .. | .cairnDataRead .. | .selfcalGo .. | .selfcalPhaseEnd .. | .driftSave ..
  | .driftReset .. | .shnodeRestart .. | .otpDataRead .. | .auxGo .. | .auxStop .. | .auxCal .. | .auxCalStepEnd ..
  | .auxConversionEnd .. | .auxResultRead .. | .auxChWrite .. | .auxRefReady .. | .urgentRequest ..
  | .urgentConversionEnd .. | .irqPresent .. | .waitWake .. | .swsetWrite .. | .irqTimerWrite ..
  | .coreTimerExpiry .. | .scntRead .. | .holdoffEnd .. | .lineLevelChange .. | .lineEdgeLatch .. | .modemTxGo ..
  | .modemTxCancel .. | .modemFrameStart .. | .modemFrameEnd .. | .modemChannelBusy .. | .lbtBackoffEnd ..
  | .modemPreambleSync .. | .modemRxDecode .. | .modemAckSend .. | .modemAckTimeout .. | .glassModeWrite ..
  | .lcdcfgWrite .. | .ntcRequest .. | .pumpFault .. | .tableDataAccess .. | .tableCheck .. | .regionMaskWrite ..
  | .glassUpdateRequest .. | .glassUpdateStart .. | .glassUpdateEnd .. | .outageViewEnd .. | .crackReading ..
  | .crackPulseCheck .. | .tamperTick .. | .tamperTest .. | .testPortLeaveReset .. | .sessionIdleTimeout ..
  | .nonceExpiry .. | .accessClose .. | .measDataRead .. | .quoteSigned .. | .permitQueuedGrant ..
  | .permitRelease .. | .permitExpiry .. | .hostAbsenceTimeout .. | .bivouacEntryDecide .. | .bulkDropout ..
  | .mainsReturn .. | .mainsUp .. | .cellExhausted .. | .railCollapse .. | .brownOut .. | .watchdogServe ..
  | .watchdogWarn .. | .watchdogExpiry .. | .resetRequest .. | .zeroizeReset .. | .testPortReset .. | .hreset ..
  | .hostDieReady .. | .hvddLoss .. | .spiStatus .. | .spiWrite .. | .spiRead .. | .spiRepeat ..
  | .spiInvalidCommand .. | .parcelLoad .. | .parcelAck .. | .orderStart .. | .orderInstall .. | .orderRemove ..
  | .orderCue .. | .orderSetUtc .. | .orderSelfcal .. | .orderReset .. | .orderOpenService .. | .orderChallenge ..
  | .orderAnswer .. | .orderClose .. | .orderTariff .. | .orderAdjust .. | .orderTamperClear ..
  | .accessSetVerifier .. | .accessRemoveVerifier .. | .accessProductionLock .. | .accessSetIdle ..
  | .viewInventory .. | .viewStatus .. | .viewTotals .. | .viewInterrupts .. | .viewQuantityStore .. | .viewUnit ..
  | .viewCairn .. | .viewQuote .. | .viewStartReport .. | .outboundLenWrite .. | .outboundDataWrite ..
  | .outboundGo .. | .inboundDataRead .. | .counterReadClear .. | .registerWrite .. | .supplyGlitch ..
  | .modemChannelIdle .. | .lcdFrameBoundary .. | .hvddUp .. | .testLogicReset .. | .cairnReadReady .. => true

end Sys2Proof
end

