-- ==== Sys2Proof/Certificates/Slice0/Obligations.lean ====
section
/-! DEFINITION. The statements for the provers. -/

open Sys2Proof Sys2Proof.Machine

namespace Sys2Proof.Claims

/-- sat32 of R177: the value held between −2^31 and 2^31 − 1. -/
def satW (x : Int) : Word := BitVec.ofInt 32 (max (-(2 ^ 31)) (min (2 ^ 31 - 1) x))

/-- The value has no 32-bit form. -/
def overW (x : Int) : Bool := decide (x < -(2 ^ 31)) || decide (2 ^ 31 - 1 < x)

/-- acc of R178: the value held between −2^95 and 2^95 − 1. -/
def satA (x : Int) : Acc := BitVec.ofInt 96 (max (-(2 ^ 95)) (min (2 ^ 95 - 1) x))

/-- The value has no 96-bit form. -/
def overA (x : Int) : Bool := decide (x < -(2 ^ 95)) || decide (2 ^ 95 - 1 < x)

/-- q is x / 2^n rounded to the nearest integer, ties to even (R177). -/
def Nearest (x : Int) (n : Nat) (q : Int) : Prop :=
  2 * |x - q * 2 ^ n| ≤ 2 ^ n ∧ (2 * |x - q * 2 ^ n| = 2 ^ n → 2 ∣ q)

/-- Z and N of a result (R206). -/
def zn (r : Word) : List (Nat × Bool) := [(1, r.msb), (0, r == 0)]

/-- Z, N, C and V of a sum r of x and y (R206). -/
def addFlags (x y : Word) : List (Nat × Bool) :=
  [(3, decide ((x + y).toInt ≠ x.toInt + y.toInt)), (2, decide (2 ^ 32 ≤ x.toNat + y.toNat)), (1, (x + y).msb),
   (0, x + y == 0)]

/-- Z, N, C and V of a difference; C is set when no borrow occurs (R206). -/
def subFlags (x y : Word) : List (Nat × Bool) :=
  [(3, decide ((x - y).toInt ≠ x.toInt - y.toInt)), (2, decide (y.toNat ≤ x.toNat)), (1, (x - y).msb), (0, x - y == 0)]

/-- 1 where the condition holds, else 0. -/
def bit01 (c : Bool) : Word := if c then 1 else 0

/-- Element i of a vector. -/
def el (v : Vec) (i : Fin 4) : Word := v.extractLsb' (32 * i.val) 32

end Sys2Proof.Claims

open Sys2Proof.Claims

/-- R205, R206: what the ALU functions that wrap compute, their flags, and that nothing else changes. -/
def Sys2Proof.Claims.WrappingResults : Prop :=
  ∀ (s : State) (p : Proc) (d a b : Fin 32), s.Executes p 1 →
    let B := s.bankOf p
    let x := valS B a
    let y := valS B b
    ComputesFl (.add p d a b) p 1 s (putS B d (x + y)) (addFlags x y) ∧
    ComputesFl (.sub p d a b) p 1 s (putS B d (x - y)) (subFlags x y) ∧
    ComputesFl (.and p d a b) p 1 s (putS B d (x &&& y)) (zn (x &&& y)) ∧
    ComputesFl (.or p d a b) p 1 s (putS B d (x ||| y)) (zn (x ||| y)) ∧
    ComputesFl (.xor p d a b) p 1 s (putS B d (x ^^^ y)) (zn (x ^^^ y)) ∧
    ComputesFl (.andn p d a b) p 1 s (putS B d (x &&& ~~~y)) (zn (x &&& ~~~y)) ∧
    ComputesFl (.sllv p d a b) p 1 s (putS B d (x <<< (y.toNat % 32))) (zn (x <<< (y.toNat % 32))) ∧
    ComputesFl (.srlv p d a b) p 1 s (putS B d (x >>> (y.toNat % 32))) (zn (x >>> (y.toNat % 32))) ∧
    ComputesFl (.srav p d a b) p 1 s (putS B d (x.sshiftRight (y.toNat % 32))) (zn (x.sshiftRight (y.toNat % 32))) ∧
    ComputesFl (.cmplt p d a b) p 1 s (putS B d (bit01 (decide (x.toInt < y.toInt))))
      (zn (bit01 (decide (x.toInt < y.toInt)))) ∧
    ComputesFl (.cmpltu p d a b) p 1 s (putS B d (bit01 (decide (x.toNat < y.toNat))))
      (zn (bit01 (decide (x.toNat < y.toNat)))) ∧
    (let m := if x.toInt ≤ y.toInt then x else y
     ComputesFl (.min p d a b) p 1 s (putS B d m) (zn m)) ∧
    (let m := if x.toInt ≤ y.toInt then y else x
     ComputesFl (.max p d a b) p 1 s (putS B d m) (zn m)) ∧
    ∀ k : Fin 32,
      ComputesFl (.sll p d a k) p 1 s (putS B d (x <<< k.val)) (zn (x <<< k.val)) ∧
      ComputesFl (.srl p d a k) p 1 s (putS B d (x >>> k.val)) (zn (x >>> k.val)) ∧
      ComputesFl (.sra p d a k) p 1 s (putS B d (x.sshiftRight k.val)) (zn (x.sshiftRight k.val))

/-- R205, R206: the saturating functions give the exact result held to 32 bits, and set SAT exactly where it did
not fit. -/
def Sys2Proof.Claims.SaturatingResults : Prop :=
  ∀ (s : State) (p : Proc) (d a b : Fin 32), s.Executes p 1 →
    let B := s.bankOf p
    let x := (valS B a).toInt
    let y := (valS B b).toInt
    let sat := fun (z : Int) => ((8, B.fl.getLsbD 8 || overW z) :: zn (satW z) : List (Nat × Bool))
    ComputesFl (.qadd p d a b) p 1 s (putS B d (satW (x + y))) (sat (x + y)) ∧
    ComputesFl (.qsub p d a b) p 1 s (putS B d (satW (x - y))) (sat (x - y)) ∧
    ComputesFl (.qabs p d a) p 1 s (putS B d (satW |x|)) (sat |x|) ∧
    ComputesFl (.qneg p d a) p 1 s (putS B d (satW (-x))) (sat (-x))

/-- Both: `Claims.WrappingResults` and `Claims.SaturatingResults`. -/
def Obligations.AluResultsAndFlags : Prop := Claims.WrappingResults ∧ Claims.SaturatingResults

/-- R207, R208, R177: products and square roots; SQN is set and the result is 0 where the operand of a root is negative. -/
def Sys2Proof.Claims.ProductsAndRoots : Prop :=
  ∀ (s : State) (p : Proc) (d a b : Fin 32),
    let B := s.bankOf p
    let x := valS B a
    let y := valS B b
    (s.Executes p 1 →
      Computes (.mul p d a b) p 1 s (putS B d (BitVec.ofNat 32 (x.toNat * y.toNat))) ∧
      Computes (.mulh p d a b) p 1 s (putS B d (BitVec.ofInt 32 (x.toInt * y.toInt / 2 ^ 32))) ∧
      Computes (.mulhu p d a b) p 1 s (putS B d (BitVec.ofNat 32 (x.toNat * y.toNat / 2 ^ 32))) ∧
      ∃ q, Nearest (x.toInt * y.toInt) 31 q ∧
        ComputesFl (.qmul p d a b) p 1 s (putS B d (satW q)) [(8, B.fl.getLsbD 8 || overW q)]) ∧
    (s.Executes p 20 →
      ComputesFl (.sqrt p d a) p 20 s (putS B d (if x.toInt < 0 then 0 else BitVec.ofNat 32 (Nat.sqrt x.toNat)))
        [(11, B.fl.getLsbD 11 || decide (x.toInt < 0))] ∧
      ComputesFl (.qsqrt p d a) p 20 s (putS B d (if x.toInt < 0 then 0 else BitVec.ofNat 32 (Nat.sqrt (x.toNat * 2 ^ 31))))
        [(11, B.fl.getLsbD 11 || decide (x.toInt < 0))])

/-- R207, R208: division and remainder, with their fixed results for a divisor of zero and for the quotient that does not
fit. -/
def Sys2Proof.Claims.DivisionFixedResults : Prop :=
  ∀ (s : State) (p : Proc) (d a b : Fin 32), s.Executes p 18 →
    let B := s.bankOf p
    let x := valS B a
    let y := valS B b
    let dz := fun (c : Bool) => [((10 : Nat), B.fl.getLsbD 10 || c)]
    (y = 0 →
      ComputesFl (.div p d a b) p 18 s (putS B d (if x.toInt < 0 then 0x80000000 else 0x7FFFFFFF)) (dz true) ∧
      ComputesFl (.divu p d a b) p 18 s (putS B d 0xFFFFFFFF) (dz true) ∧
      ComputesFl (.rem p d a b) p 18 s (putS B d x) (dz true) ∧
      ComputesFl (.remu p d a b) p 18 s (putS B d x) (dz true)) ∧
    (y ≠ 0 →
      ComputesFl (.div p d a b) p 18 s (putS B d (satW (x.toInt.tdiv y.toInt)))
        [(8, B.fl.getLsbD 8 || decide (x = 0x80000000 ∧ y = 0xFFFFFFFF))] ∧
      Computes (.divu p d a b) p 18 s (putS B d (BitVec.ofNat 32 (x.toNat / y.toNat))) ∧
      Computes (.rem p d a b) p 18 s (putS B d (BitVec.ofInt 32 (x.toInt - y.toInt * x.toInt.tdiv y.toInt))) ∧
      Computes (.remu p d a b) p 18 s (putS B d (BitVec.ofNat 32 (x.toNat % y.toNat))))

/-- Both: `Claims.ProductsAndRoots` and `Claims.DivisionFixedResults`. -/
def Obligations.ProductsQuotientsRoots : Prop := Claims.ProductsAndRoots ∧ Claims.DivisionFixedResults

/-- R209: the immediates; ADDI and CMPLTI extend the sign, the others extend with zeros, HIMM writes no flag. -/
def Obligations.ImmediateResults : Prop :=
  ∀ (s : State) (p : Proc) (d a : Fin 32) (imm : BitVec 16), s.Executes p 1 →
    let B := s.bankOf p
    let x := valS B a
    let i : Word := BitVec.ofInt 32 imm.toInt
    let z : Word := BitVec.ofNat 32 imm.toNat
    ComputesFl (.addi p d a imm) p 1 s (putS B d (x + i)) (addFlags x i) ∧
    ComputesFl (.andi p d a imm) p 1 s (putS B d (x &&& z)) (zn (x &&& z)) ∧
    ComputesFl (.ori p d a imm) p 1 s (putS B d (x ||| z)) (zn (x ||| z)) ∧
    ComputesFl (.xori p d a imm) p 1 s (putS B d (x ^^^ z)) (zn (x ^^^ z)) ∧
    ComputesFl (.cmplti p d a imm) p 1 s (putS B d (bit01 (decide (x.toInt < imm.toInt))))
      (zn (bit01 (decide (x.toInt < imm.toInt)))) ∧
    ComputesFl (.cmpltiu p d a imm) p 1 s (putS B d (bit01 (decide (x.toNat < imm.toNat))))
      (zn (bit01 (decide (x.toNat < imm.toNat)))) ∧
    Computes (.himm p d imm) p 1 s (putS B d (BitVec.ofNat 32 (imm.toNat * 2 ^ 16)))

/-- R211, R177: the element functions of VALU: each element of the result, SAT exactly where an element did not fit, no
other flag. -/
def Obligations.VectorElements : Prop :=
  ∀ (s : State) (p : Proc) (d a b : Fin 16) (x : Fin 32), s.Executes p 1 →
    let B := s.bankOf p
    let A := B.v[a]
    let C := B.v[b]
    -- a function of the elements that cannot clamp
    let plain := fun (c : Instr) (f : Word → Word → Word) =>
      ∃ r, (∀ i : Fin 4, el r i = f (el A i) (el C i)) ∧ Computes c p 1 s (putV B d r)
    -- one that gives an exact value held to 32 bits
    let held := fun (c : Instr) (f : Word → Word → Int → Prop) =>
      ∃ (r : Vec) (z : Fin 4 → Int), (∀ i, f (el A i) (el C i) (z i) ∧ el r i = satW (z i)) ∧
        ComputesFl c p 1 s (putV B d r)
          [(8, B.fl.getLsbD 8 || overW (z 0) || overW (z 1) || overW (z 2) || overW (z 3))]
    plain (.vadd p d a b) (· + ·) ∧ plain (.vsub p d a b) (· - ·) ∧ plain (.vmul p d a b) (· * ·) ∧
    plain (.vand p d a b) (· &&& ·) ∧ plain (.vor p d a b) (· ||| ·) ∧ plain (.vxor p d a b) (· ^^^ ·) ∧
    plain (.vmin p d a b) (fun u v => if u.toInt ≤ v.toInt then u else v) ∧
    plain (.vmax p d a b) (fun u v => if u.toInt ≤ v.toInt then v else u) ∧
    plain (.vsll p d a x) (fun u _ => u <<< x.val) ∧ plain (.vsra p d a x) (fun u _ => u.sshiftRight x.val) ∧
    held (.vqadd p d a b) (fun u v z => z = u.toInt + v.toInt) ∧
    held (.vqsub p d a b) (fun u v z => z = u.toInt - v.toInt) ∧
    held (.vqmul p d a b) (fun u v z => Nearest (u.toInt * v.toInt) 31 z) ∧
    held (.vqabs p d a) (fun u _ z => z = |u.toInt|)

/-- R178, R212, R215: the multiply-accumulates: the exact product, or the exact sum of four, scaled by 2^X and rounded once
to a multiple of 2^-32, is added or subtracted, held to the accumulator's range, and AOV sets exactly where it did not fit.
-/
def Obligations.MultiplyAccumulate : Prop :=
  ∀ (s : State) (p : Proc) (d : Fin 8) (x : Fin 64), s.Executes p 1 →
    let B := s.bankOf p
    -- the raw 64.32 value t of an exact product of the mode, and the instruction that adds or subtracts it
    let scaled := fun (integer : Bool) (q t : Int) =>
      if integer then t = q * 2 ^ (x.val + 32) else if 30 ≤ x.val then t = q * 2 ^ (x.val - 30) else Nearest q (30 - x.val) t
    let does := fun (c : Instr) (integer : Bool) (sign q : Int) =>
      ∃ t, scaled integer q t ∧
        (let z := (B.acc[d]).toInt + sign * t
         ComputesFl c p 1 s (putA B d (satA z)) [(9, B.fl.getLsbD 9 || overA z)])
    (∀ a b : Fin 32,
      let q := (valS B a).toInt * (valS B b).toInt
      does (.mac p d a b x) false 1 q ∧ does (.maci p d a b x) true 1 q ∧
      does (.msu p d a b x) false (-1) q ∧ does (.msui p d a b x) true (-1) q) ∧
    (∀ a b : Fin 16,
      let q := ((List.finRange 4).map (fun i => (el B.v[a] i).toInt * (el B.v[b] i).toInt)).sum
      does (.vmac p d a b x) false 1 q ∧ does (.vmaci p d a b x) true 1 q ∧
      does (.vmsu p d a b x) false (-1) q ∧ does (.vmsui p d a b x) true (-1) q)

/-- R213: the moves between scalars and vectors. -/
def Sys2Proof.Claims.VectorMoves : Prop :=
  ∀ (s : State) (p : Proc) (e : Fin 4), s.Executes p 1 →
    let B := s.bankOf p
    (∀ (d : Fin 16) (a : Fin 32), ∃ r,
      (∀ i, el r i = if i = e then valS B a else el B.v[d] i) ∧ Computes (.vins p d a e) p 1 s (putV B d r)) ∧
    (∀ (d : Fin 32) (a : Fin 16), Computes (.vext p d a e) p 1 s (putS B d (el B.v[a] e))) ∧
    (∀ (d : Fin 16) (a : Fin 32), ∃ r, (∀ i, el r i = valS B a) ∧ Computes (.vbc p d a) p 1 s (putV B d r)) ∧
    (∀ d a : Fin 16, Computes (.vmov p d a) p 1 s (putV B d B.v[a])) ∧
    (∀ (d : Fin 32) (a : Fin 16),
      Computes (.vsum p d a) p 1 s (putS B d (BitVec.ofNat 32 ((List.finRange 4).map (fun i => (el B.v[a] i).toNat)).sum)))

/-- R214: the accumulator functions. -/
def Sys2Proof.Claims.AccumulatorFunctions : Prop :=
  ∀ (s : State) (p : Proc), s.Executes p 1 →
    let B := s.bankOf p
    let word := fun (v : Acc) (w : Fin 3) => (v.toNat / 2 ^ (32 * w.val)) % 2 ^ 32
    let adds := fun (c : Instr) (d : Fin 8) (t : Int) =>
      ComputesFl c p 1 s (putA B d (satA ((B.acc[d]).toInt + t))) [(9, B.fl.getLsbD 9 || overA ((B.acc[d]).toInt + t))]
    (∀ d : Fin 8, Computes (.aclr p d) p 1 s (putA B d 0)) ∧
    (∀ d a : Fin 8, Computes (.amov p d a) p 1 s (putA B d B.acc[a])) ∧
    (∀ (d : Fin 8) (a : Fin 32) (x : Fin 64), adds (.aadds p d a x) d ((valS B a).toInt * 2 ^ x.val)) ∧
    (∀ d a : Fin 8, adds (.aadd p d a) d (B.acc[a]).toInt) ∧
    (∀ d a : Fin 8, adds (.asub p d a) d (-(B.acc[a]).toInt)) ∧
    (∀ (d : Fin 32) (a : Fin 8) (x : Fin 64), ∃ q, Nearest (B.acc[a]).toInt (x.val + 1) q ∧
      ComputesFl (.arnd p d a x) p 1 s (putS B d (satW q)) [(8, B.fl.getLsbD 8 || overW q)]) ∧
    (∀ (d : Fin 32) (a : Fin 8) (w : Fin 3),
      Computes (.ardw p d a w) p 1 s (putS B d (BitVec.ofNat 32 (word B.acc[a] w)))) ∧
    (∀ (d : Fin 8) (a : Fin 32) (w : Fin 3), ∃ v,
      (∀ i, word v i = if i = w then (valS B a).toNat else word B.acc[d] i) ∧ Computes (.awrw p d a w) p 1 s (putA B d v))

/-- Both: `Claims.VectorMoves` and `Claims.AccumulatorFunctions`. -/
def Obligations.VectorMovesAndAccumulators : Prop := Claims.VectorMoves ∧ Claims.AccumulatorFunctions

/-- R216, R188: LOOP pushes an entry or skips its body; the count of a K = 1 loop is held to its bound and LCL notes it;
when the last instruction of a body completes the next iteration begins, or the entry is popped and the enclosing body
counts. -/
def Obligations.HardwareLoops : Prop :=
  ∀ (s : State) (p : Proc), s.Executes p 1 →
    let B := s.bankOf p
    let pc := s.pcOf p
    (∀ (k : Bool) (a : Fin 32) (cnt : BitVec 12) (len : BitVec 8),
      let x := (valS B a).toNat
      let most := cnt.toNat + 1
      let n := if k then min x most else most
      let clamped := k && decide (most < x)
      let first := pc + 4
      let last := pc + BitVec.ofNat 32 (4 * (len.toNat + 1))
      ∃ fl, FlagsAre B.fl fl [(12, B.fl.getLsbD 12 || clamped)] ∧
        (n = 0 → Goes (.loop p k a cnt len) p 1 s { B with fl := fl } (last + 4) (s.loopsOf p)) ∧
        (0 < n → Goes (.loop p k a cnt len) p 1 s { B with fl := fl } first (⟨first, last, n⟩ :: s.loopsOf p))) ∧
    -- the flow of an instruction that does not jump, shown by NOP
    (∀ (out : List Loop) (l : Loop) (ls : List Loop), s.loopsOf p = out ++ l :: ls →
      (∀ o ∈ out, o.last = pc ∧ o.n ≤ 1) →
      (l.last ≠ pc → Goes (.nop p) p 1 s B (pc + 4) (l :: ls)) ∧
      (l.last = pc → 1 < l.n → Goes (.nop p) p 1 s B l.first ({ l with n := l.n - 1 } :: ls))) ∧
    ((∀ o ∈ s.loopsOf p, o.last = pc ∧ o.n ≤ 1) → Goes (.nop p) p 1 s B (pc + 4) [])

/-- R217: the compare and branch instructions; a taken branch leaves the loop stack unchanged, and none reads or sets a
flag. -/
def Sys2Proof.Claims.CompareAndBranch : Prop :=
  ∀ (s : State) (p : Proc) (a b : Fin 32) (off : BitVec 16), s.Executes p 1 →
    let B := s.bankOf p
    let x := valS B a
    let y := valS B b
    let target : Word := BitVec.ofInt 32 ((s.pcOf p).toNat + 4 * off.toInt)
    let br := fun (c : Instr) (taken : Prop) =>
      (taken → Goes c p 1 s B target (s.loopsOf p)) ∧ (¬ taken → Computes c p 1 s B)
    br (.ifeq p a b off) (x = y) ∧ br (.ifne p a b off) (x ≠ y) ∧
    br (.iflt p a b off) (x.toInt < y.toInt) ∧ br (.ifge p a b off) (y.toInt ≤ x.toInt) ∧
    br (.ifltu p a b off) (x.toNat < y.toNat) ∧ br (.ifgeu p a b off) (y.toNat ≤ x.toNat)

/-- R218: CALL and JUMP on a control core, JUMP reading its source before it writes its link; and their faults in order. -/
def Sys2Proof.Claims.CallAndJump : Prop :=
  ∀ (s : State) (c : Fin 2) (d a : Fin 32) (imm : BitVec 16), s.Executes (.cc c) 1 →
    let p := Proc.cc c
    let B := s.bankOf p
    let t := valS B a
    let link := s.pcOf p + 4
    let target : Word := BitVec.ofInt 32 ((s.pcOf p).toNat + 4 * imm.toInt)
    (s.loopsOf p ≠ [] → Faults (.call p d imm) p s ⟨0x07, 0xFF, none⟩ ∧ Faults (.jump p d a) p s ⟨0x07, 0xFF, none⟩) ∧
    (s.loopsOf p = [] →
      Goes (.call p d imm) p 1 s (putS B d link) target [] ∧
      (t.toNat % 4 ≠ 0 → Faults (.jump p d a) p s ⟨0x03, 0xFF, none⟩) ∧
      (t.toNat % 4 = 0 →
        (t.toNat < 0x80000 ∨ (0x10400000 ≤ t.toNat ∧ t.toNat < 0x10580000) →
          Goes (.jump p d a) p 1 s (putS B d link) t []) ∧
        (¬ (t.toNat < 0x80000 ∨ (0x10400000 ≤ t.toNat ∧ t.toNat < 0x10580000)) →
          Faults (.jump p d a) p s ⟨0x04, 0xFF, none⟩)))

/-- Both: `Claims.CompareAndBranch` and `Claims.CallAndJump`. It rests on the model's choices in log entry 21. -/
def Obligations.BranchesCallsJumps : Prop := Claims.CompareAndBranch ∧ Claims.CallAndJump

/-- R228, R198, R216: NOP, FLR, FLW on any processor; WAIT holds a core, TRAP raises fault 0x0B, RETI returns through the
saved registers of the level that ends and gives the interrupted level its own loop stack back. -/
def Sys2Proof.Claims.SysInstructions : Prop :=
  ∀ (s : State) (p : Proc),
    let B := s.bankOf p
    (s.Executes p 1 →
      Computes (.nop p) p 1 s B ∧
      (∀ d, Computes (.flr p d) p 1 s (putS B d B.fl)) ∧
      (∀ a, Computes (.flw p a) p 1 s { B with fl := valS B a &&& 0x00007F0F#32 })) ∧
    (∀ c, p = .cc c → s.Executes p 1 →
      Acts (.wait p) p 1 s (s.setCore c { s.core c with waiting := true }) B ∧
      (∀ x, Faults (.trap p x) p s ⟨0x0B, 0xFF, none⟩) ∧
      (s.inHandler c = false → Faults (.reti p) p s ⟨0x02, 0xFF, none⟩) ∧
      (s.inHandler c = true → (s.core c).run ≠ .idle ∨ (s.core c).newSvc = none →
        ∃ t, exec (.reti p) s = .next t ∧
          (s.on (CSR.STAT.INFAST c) = true →
            t.pcOf p = BitVec.ofNat 32 (s.get (CSR.FEPC.PC c)) ∧
            (t.core c).bank.fl = BitVec.ofNat 32 (s.get (CSR.FFL.FL c)) &&& 0x00007F0F#32 ∧
            (t.core c).loopsMid = (s.core c).loopsMid ∧ t.on (CSR.STAT.INFAST c) = false ∧
            Same [.cores] [CSR.STAT.INFAST c] s t) ∧
          (s.on (CSR.STAT.INFAST c) = false →
            t.pcOf p = BitVec.ofNat 32 (s.get (CSR.EPC.PC c)) ∧
            (t.core c).bank.fl = BitVec.ofNat 32 (s.get (CSR.EFL.FL c)) &&& 0x00007F0F#32 ∧
            t.inHandler c = false ∧
            Same [.cores] [CSR.STAT.INFAULT c, CSR.STAT.INNORM c] s t) ∧
          (t.core c).loopsBase = (s.core c).loopsBase ∧ (t.core c).shadow = (s.core c).shadow ∧
          (t.core c).bank.s = (s.core c).bank.s ∧ (t.core c).bank.v = (s.core c).bank.v ∧
          (t.core c).bank.acc = (s.core c).bank.acc ∧ ∀ e, e ≠ c → t.core e = s.core e))

/-- R180, R181, R190, R220–R222: a lane never meets an instruction of the control profile or an illegal encoding (the model
stops there by name); on a control core the lane's own instructions raise fault 0x02 and an illegal encoding fault 0x01. -/
def Sys2Proof.Claims.ProfilesKeepApart : Prop :=
  ∀ (s : State),
    (∀ (n : Fin 5) (d a b : Fin 32) (imm : BitVec 16) (cls : Fin 4) (nw : Bool) (x : Fin 64) (m : Fin 4),
      ∀ i ∈ [Instr.call (.lane n) d imm, .jump (.lane n) d a, .csrRead (.lane n) d b, .csrWrite (.lane n) d a b,
          .csrSet (.lane n) d a b, .csrClear (.lane n) d a b, .wait (.lane n), .reti (.lane n), .trap (.lane n) x,
          .permit (.lane n) d a b cls nw, .mext (.lane n) m a],
        exec i s = .fault .loaderExcludes) ∧
    (∀ (n : Fin 5) (d : Fin 16) (ch : Fin 24) (st : Stream) (i : Fin 512) (a : Fin 32), 20 < ch.val →
      exec (.stvc (.lane n) d ch st i a) s = .fault .loaderExcludes) ∧
    (∀ (c : Fin 2) (d : Fin 32) (v : Fin 16) (ch : Fin 24) (st : Stream) (i : Fin 512) (a : Fin 32) (r : Fin 8) (x : Fin 64),
      s.Executes (.cc c) 4 →
        Faults (.stg (.cc c) d ch st i a) (.cc c) s ⟨0x02, 0xFF, none⟩ ∧
        Faults (.stvi (.cc c) v ch st i a) (.cc c) s ⟨0x02, 0xFF, none⟩ ∧
        (ch.val ≤ 20 → Faults (.stvc (.cc c) v ch st i a) (.cc c) s ⟨0x02, 0xFF, none⟩) ∧
        (20 < ch.val → Faults (.stvc (.cc c) v ch st i a) (.cc c) s ⟨0x01, 0xFF, none⟩) ∧
        Faults (.jacc (.cc c) d r x) (.cc c) s ⟨0x02, 0xFF, none⟩) ∧
    (∀ (d : Fin 32) (x : Fin 64), ¬ (x.val ≤ 5 ∨ (8 ≤ x.val ∧ x.val ≤ 11)) →
      let leases := fun (p : Proc) => [Instr.leaseTake p d x, .leaseRenew p d x, .leaseRelease p d x, .leaseQuery p d x]
      (∀ n, ∀ c ∈ leases (.lane n), exec c s = .fault .loaderExcludes) ∧
      ∀ c, s.Executes (.cc c) 1 → ∀ i ∈ leases (.cc c), Faults i (.cc c) s ⟨0x01, 0xFF, none⟩)

/-- R180, R185, R187: a word that is legal on a processor spells one well-formed command there, and no other word, a word
of zeros among them, spells any. -/
def Sys2Proof.Claims.WordsSpellInstructions : Prop :=
  ∀ (p : Proc) (w : Nat) (memErr : Bool),
    (∀ d, qdecode w = some d → d.profile.fits p = true → ∃ i, qcommand p w memErr = some i ∧ i.wellFormed = true) ∧
    (∀ d, qdecode w = some d → d.profile.fits p = false → qcommand p w memErr = none) ∧
    (qdecode w = none → qcommand p w memErr = none) ∧ qcommand p 0 memErr = none

/-- All three: `Claims.SysInstructions`, `Claims.ProfilesKeepApart` and `Claims.WordsSpellInstructions`. It rests on the
model's choices in log entries 21 and 22. -/
def Obligations.SysFunctionsAndProfiles : Prop :=
  Claims.SysInstructions ∧ Claims.ProfilesKeepApart ∧ Claims.WordsSpellInstructions

/-- R227, R196: a control-status register instruction returns the old value and writes by the register's access codes; an
undefined index raises fault 0x06 with no effect. It rests on the model's choices in log entry 21. -/
def Obligations.ControlStatusRegisters : Prop :=
  ∀ (s : State) (c : Fin 2) (d a i : Fin 32), s.Executes (.cc c) 1 →
    let p := Proc.cc c
    let B := s.bankOf p
    let x := (valS B a).toNat
    (cellsOf regsCsr (0x100 + c) i 0 = none →
      ∀ k ∈ [Instr.csrRead p d i, .csrWrite p d a i, .csrSet p d a i, .csrClear p d a i],
        Faults k p s ⟨0x06, 0xFF, none⟩) ∧
    (∀ cs, cellsOf regsCsr (0x100 + c) i 0 = some cs →
      let old := if i.val = 0 then c.val else if i.val = 8 then s.clock.now % 2 ^ 32 else s.readCells cs
      -- reading CYCLO takes the high word of the same count
      let m := if i.val = 8 then s.set (CSR.CYCHI.CHI c) (s.clock.now / 2 ^ 32) else s
      let b := putS B d (BitVec.ofNat 32 old)
      Acts (.csrRead p d i) p 1 s m b ∧ Acts (.csrWrite p d a i) p 1 s (m.writeCells cs x) b ∧
      Acts (.csrSet p d a i) p 1 s (m.writeCells cs (old ||| x)) b ∧
      Acts (.csrClear p d a i) p 1 s (m.writeCells cs (old &&& (2 ^ 32 - 1 - x))) b)

/-- R198, R199, R41: what taking a fault saves and where it goes; a fault in a handler stops the core with code 0x0C. -/
def Sys2Proof.Claims.FaultEntryOfACore : Prop :=
  ∀ (s : State) (c : Fin 2) (t : Trap),
    let p := Proc.cc c
    let u := s.trap p t
    t.code < 256 → t.unit < 256 →
    (s.inHandler c = false →
      u.get (CSR.EPC.PC c) = (s.pcOf p).toNat ∧ u.get (CSR.EFL.FL c) = (s.core c).bank.fl.toNat ∧
      u.get (CSR.ECAUSE.CODE c) = t.code ∧ u.on (CSR.ECAUSE.INT c) = false ∧ u.on (CSR.STAT.INFAULT c) = true ∧
      u.pcOf p = BitVec.ofNat 32 (256 * s.get (CSR.VEC.BASE c)) ∧ u.loopsOf p = [] ∧
      (u.core c).loopsBase = (s.core c).loopsBase ∧ u.bankOf p = s.bankOf p ∧
      (∀ a, t.addr = some a → u.get (CSR.FADDR.ADDR c) = a.toNat) ∧
      (s.on SYS.FAULT.VALID = false →
        u.on SYS.FAULT.VALID = true ∧ u.get SYS.FAULT.WHO = 8 + c ∧ u.get SYS.FAULT.CODE = t.code ∧
        u.get SYS.FAULT.UNIT = t.unit ∧ u.get SYS.FPC.PC = (s.pcOf p).toNat) ∧
      Same [.cores] ([CSR.EPC.PC c, CSR.EFL.FL c, CSR.ECAUSE.CODE c, CSR.ECAUSE.INT c, CSR.STAT.INFAULT c,
        CSR.FADDR.ADDR c] ++ faultFields) s u) ∧
    (s.inHandler c = true →
      (u.core c).halted = true ∧ u.runs p = false ∧
      (s.on SYS.FAULT.VALID = false → u.get SYS.FAULT.CODE = 0x0C ∧ u.get SYS.FAULT.WHO = 8 + c) ∧
      u.bit (IRQ.SPEND.PEND 1) 0x0A = true ∧
      Same [.cores] (CSR.FADDR.ADDR c :: faultFields ++ arrivalOf 0x3A) s u) ∧
    ∀ e, e ≠ c → u.core e = s.core e

/-- R201, R202, R244: a lane's fault discards the queue, cues and increments of its run and restores the context to the
snapshot, and the quantities it feeds are marked faulted; a pitch program's work ends, a grain program leaves the slice to
run. -/
def Sys2Proof.Claims.FaultOfALane : Prop :=
  ∀ (s : State) (n : Fin 5) (t : Trap),
    let l := s.lane n
    let u := s.trap (.lane n) t
    let k := u.lane n
    k.wq = [] ∧ k.cueq = [] ∧ k.outQ = l.outQ ∧ k.outCues = l.outCues ∧ k.outIncs = l.outIncs ∧
    (l.cur = some .pitch →
      k.p = l.snapP ∧ k.g = l.g ∧ k.cur = none ∧ k.pitchOn = false ∧ k.pitchIncs = []) ∧
    (l.cur = some .grain → k.g = l.snapG ∧ k.incs = [] ∧ k.cur ≠ some .grain ∧
      (k.cur = some .pitch ↔ l.imgP.isSome = true ∧ (l.pitchOn = true ∨ l.pitchDue = true))) ∧
    (∀ m, m ≠ n → u.lane m = s.lane m) ∧
    -- outside the pair, the slots bound to the lane are marked faulted
    (∀ i : Fin 72, u.slots[i] =
      if s.roped n = false ∧ i.val < 64 ∧ s.eff (NRG.BIND.OWNER i) = n.val then { s.slots[i] with faulted := true }
      else s.slots[i]) ∧
    Same [.lanes, .slots] (faultFields ++ [LEASE.VOTE.OUTCOME, LEASE.DISAGREE.COUNT, LEASE.DISAGREE.SAT, LEASE.VGRAINLO.GLO,
      LEASE.VGRAINHI.GHI] ++ arrivalOf 0x38) s u

/-- Both: `Claims.FaultEntryOfACore` and `Claims.FaultOfALane`. It rests on the model's choices in log entries 17 and 21. -/
def Obligations.FaultsOfCoresAndLanes : Prop := Claims.FaultEntryOfACore ∧ Claims.FaultOfALane

namespace Sys2Proof.Claims

/-- A processor may load (or store) n bytes at its address a (R35, R37, R235; the modem's buffers end at 0x1078_A000 for
stores, and neither a lane nor a core stores into a lane's code). -/
def CanAccess (s : State) (p : Proc) (store : Bool) (a n : Nat) : Prop :=
  match p with
  | .lane k => (a < 0x30000 ∧ (store = true → ∀ r ∈ (s.lane k).prot, a + n ≤ r.1 ∨ r.2 ≤ a)) ∨
      (store = false ∧ 0x40000 ≤ a ∧ a < 0x50000)
  | .cc _ => (store = false ∧ (a < 0x80000 ∨ (0x10000000 ≤ a ∧ a < 0x10400000))) ∨
      (0x10400000 ≤ a ∧ a < 0x10800000 ∧ (store = true → a < 0x1078A000 ∧ ∀ k : Fin 5,
        let base := 0x10580000 + k.val * 0x30000
        base ≤ a → a < base + 0x30000 → ∀ r ∈ (s.lane k).prot, a - base + n ≤ r.1 ∨ r.2 ≤ a - base)) ∨
      (0x20000000 ≤ a ∧ a < 0x20010000)

/-- The address lies in the capture ring, whose lease the core does not hold (R37). -/
def RingShut (s : State) (p : Proc) (a : Nat) : Prop :=
  (∃ c, p = .cc c) ∧ 0x10000000 ≤ a ∧ a < 0x10400000 ∧
    ¬ (s.get (LEASE.HOLD.STATE 2) = 1 ∧ s.get (LEASE.HOLD.HOLDER 2) = s.holder p)

/-- Where a processor's address lies in the control-core view (R35). -/
def place (p : Proc) (a : Nat) : Nat :=
  match p with
  | .lane k => if a < 0x30000 then 0x10580000 + k.val * 0x30000 + a else 0x10670000 + (a - 0x40000)
  | .cc _ => a

/-- The little-endian word at an address (R183). -/
def wordAt (s : State) (a : Nat) : Word := s.byte (a + 3) ++ s.byte (a + 2) ++ s.byte (a + 1) ++ s.byte a

/-- From s to m, words were stored at a processor's address a, upward, and nothing else was written: every other byte reads as
before, and a lane's store log alone grows by the words. -/
def Stored (p : Proc) (a : Nat) (ws : List Word) (s m : State) : Prop :=
  (∀ i (h : i < ws.length), wordAt m (place p a + 4 * i) = ws[i]) ∧
  (∀ b, b < place p a ∨ place p a + 4 * ws.length ≤ b → m.byte b = s.byte b) ∧
  Same [.mem, .lanes] [] s m ∧ (∀ n, p ≠ .lane n → m.lane n = s.lane n) ∧
  ∀ n, p = .lane n → m.lane n = { s.lane n with
    log := (s.lane n).log ++ (List.range ws.length).map (fun i => (a + 4 * i, ws.getD i 0)) }

/-- The processor is served for itself: a control core, or a lane outside the pair with nothing left from a vote (R195). -/
def ServedAlone (s : State) (p : Proc) : Prop := ∀ n, p = .lane n → s.roped n = false ∧ (s.lane n).inbox = []

end Sys2Proof.Claims

/-- R210, R35, R37, R183: loads read the words at the effective address, stores write them and change no other byte; neither
sets a flag. It rests on the model's choices in log entry 21. -/
def Obligations.LoadsAndStores : Prop :=
  ∀ (s : State) (p : Proc) (a : Fin 32) (imm : BitVec 16),
    let B := s.bankOf p
    let ea : Word := valS B a + BitVec.ofInt 32 imm.toInt
    let m := place p ea.toNat
    (∀ d : Fin 32, s.Executes p 2 → ea.toNat % 4 = 0 → CanAccess s p false ea.toNat 4 → ¬ RingShut s p ea.toNat →
      Computes (.ld p d a imm false) p 2 s (putS B d (wordAt s m))) ∧
    (∀ d : Fin 16, s.Executes p 2 → ea.toNat % 16 = 0 → CanAccess s p false ea.toNat 16 → ¬ RingShut s p ea.toNat →
      ∃ v, (∀ i : Fin 4, el v i = wordAt s (m + 4 * i.val)) ∧ Computes (.vld p d a imm false) p 2 s (putV B d v)) ∧
    (∀ d : Fin 32, s.Executes p 1 → ea.toNat % 4 = 0 → CanAccess s p true ea.toNat 4 →
      ∃ m, Stored p ea.toNat [valS B d] s m ∧ Acts (.st p d a imm) p 1 s m B) ∧
    (∀ d : Fin 16, s.Executes p 1 → ea.toNat % 16 = 0 → CanAccess s p true ea.toNat 16 →
      ∃ m, Stored p ea.toNat ((List.finRange 4).map (el B.v[d])) s m ∧ Acts (.vst p d a imm) p 1 s m B)

/-- R210, R37: the checks of a memory instruction in their order; each fault comes with no access made. It rests on the
model's choices in log entry 21. -/
def Obligations.MemoryFaultsInOrder : Prop :=
  ∀ (s : State) (p : Proc) (a : Fin 32) (d : Fin 32) (v : Fin 16) (imm : BitVec 16) (bad : Bool), s.Executes p 2 →
    s.Executes p 1 →
    let ea : Word := valS (s.bankOf p) a + BitVec.ofInt 32 imm.toInt
    let fault := fun (c : Instr) (store : Bool) (n : Nat) (err : Bool) =>
      (ea.toNat % n ≠ 0 → Faults c p s ⟨0x03, 0xFF, some ea⟩) ∧
      (ea.toNat % n = 0 → ¬ CanAccess s p store ea.toNat n → Faults c p s ⟨0x04, 0xFF, some ea⟩) ∧
      (ea.toNat % n = 0 → CanAccess s p store ea.toNat n → RingShut s p ea.toNat →
        Faults c p s ⟨0x05, 0xFF, some ea⟩) ∧
      (ea.toNat % n = 0 → CanAccess s p store ea.toNat n → ¬ RingShut s p ea.toNat → err = true →
        Faults c p s ⟨0x0A, 0xFF, some ea⟩)
    fault (.ld p d a imm bad) false 4 bad ∧ fault (.vld p v a imm bad) false 16 bad ∧
    fault (.st p d a imm) true 4 false ∧ fault (.vst p v a imm) true 16 false

/-- R220, R190, R179: the takes of a lane: each element on its own, MRK and INV sticky; an index out of range raises fault
0x08. -/
def Sys2Proof.Claims.StreamTakes : Prop :=
  ∀ (s : State) (n : Fin 5) (ch : Fin 24) (st : Stream) (i : Fin 512) (a : Fin 32), s.Executes (.lane n) 2 →
    let p := Proc.lane n
    let B := s.bankOf p
    let j := i.val + (valS B a).toNat
    let size := match st with | .grain => 2 | .pitch => 512 | .strided => 32
    let value := fun (x : Option Smp) => match x with | some y => if y.inv then (0 : Word) else y.val | none => 0
    let missing := fun (x : Option Smp) => match x with | some y => y.inv | none => true
    let marked := fun (x : Option Smp) => match x with | some y => !y.inv && decide (y.marks ≠ 0) | none => false
    let flags := fun (xs : List (Option Smp)) =>
      [((13 : Nat), B.fl.getLsbD 13 || xs.any missing), (14, B.fl.getLsbD 14 || xs.any marked)]
    (∀ d : Fin 32,
      (j < size → ComputesFl (.stg p d ch st i a) p 2 s (putS B d (value (s.streams.sample st ch j)))
        (flags [s.streams.sample st ch j])) ∧
      (size ≤ j → Faults (.stg p d ch st i a) p s ⟨0x08, 0xFF, none⟩)) ∧
    (∀ d : Fin 16, ch.val ≤ 20 →
      let xs := fun (k : Fin 4) => s.streams.sample st (ch.val + k.val) j
      (j < size → ∃ v, (∀ k, el v k = value (xs k)) ∧
        ComputesFl (.stvc p d ch st i a) p 2 s (putV B d v) (flags ((List.finRange 4).map xs))) ∧
      (size ≤ j → Faults (.stvc p d ch st i a) p s ⟨0x08, 0xFF, none⟩)) ∧
    (∀ d : Fin 16,
      let xs := fun (k : Fin 4) => s.streams.sample st ch (j + k.val)
      (j + 3 < size → ∃ v, (∀ k, el v k = value (xs k)) ∧
        ComputesFl (.stvi p d ch st i a) p 2 s (putV B d v) (flags ((List.finRange 4).map xs))) ∧
      (size ≤ j + 3 → Faults (.stvi p d ch st i a) p s ⟨0x08, 0xFF, none⟩))

/-- R221: JACC on a lane: status 1 where the slot is not bound, 2 where another program owns it, else the accumulator's value
joins the run's pending increments with MRK and INV of fl and the accumulator is cleared. -/
def Sys2Proof.Claims.HandingOverIncrements : Prop :=
  ∀ (s : State) (n : Fin 5) (d : Fin 32) (a : Fin 8) (x : Fin 64), s.Executes (.lane n) 4 →
    let p := Proc.lane n
    let B := s.bankOf p
    let l := s.lane n
    let owner := s.eff (NRG.BIND.OWNER x)
    let mine := if s.roped n then 5 else n.val
    (owner = 0xF → Computes (.jacc p d a x) p 4 s (putS B d 1)) ∧
    (owner ≠ 0xF → owner ≠ mine → Computes (.jacc p d a x) p 4 s (putS B d 2)) ∧
    (owner ≠ 0xF → owner = mine →
      let inc : Inc := ⟨x, (B.acc[a]).toInt, B.fl.getLsbD 14, B.fl.getLsbD 13⟩
      let k := if l.cur = some .pitch then { l with pitchIncs := l.pitchIncs ++ [inc] }
        else { l with incs := l.incs ++ [inc] }
      Acts (.jacc p d a x) p 4 s (s.setLane n k) (putS (putA B a 0) d 0))

/-- Both: `Claims.StreamTakes` and `Claims.HandingOverIncrements`. It rests on the model's choices in log entries 21 and 52.
-/
def Obligations.StreamsAndIncrements : Prop := Claims.StreamTakes ∧ Claims.HandingOverIncrements

/-- R219, R191, R33: the checks of the unit instructions, in their order: absent unit, undefined index, lease, access
level. -/
def Sys2Proof.Claims.UnitAccessFaults : Prop :=
  ∀ (s : State) (p : Proc) (d : Fin 32) (unit reg : Fin 256) (a : Fin 32), s.Executes p 2 → s.Executes p 1 →
    let i := reg.val + (valS (s.bankOf p) a).toNat
    let v := (valS (s.bankOf p) d).toNat
    let old := s.peek (s.copyOf p) unit i
    let fault := fun (c : Instr) (w : Option Nat) =>
      (s.part.hasUnit unit = false → Faults c p s ⟨0x0E, unit, none⟩) ∧
      (s.part.hasUnit unit = true → s.busDefined unit i = false → Faults c p s ⟨0x0D, unit, none⟩) ∧
      (s.part.hasUnit unit = true → s.busDefined unit i = true → s.leaseOk (s.holder p) unit i = false →
        Faults c p s ⟨0x05, unit, none⟩) ∧
      (s.part.hasUnit unit = true → s.busDefined unit i = true → s.leaseOk (s.holder p) unit i = true →
        ∀ x, w = some x → s.level < s.levelGuard unit i x → Faults c p s ⟨0x09, unit, none⟩)
    fault (.ur p d unit reg a) none ∧ fault (.uw p d unit reg a) (some v) ∧
    fault (.uset p d unit reg a) (some (old ||| v)) ∧ fault (.uclr p d unit reg a) (some (old &&& (2 ^ 32 - 1 - v)))

/-- R219, R191, R195: a unit read returns the register with the effects of reading it; a write acts at once, but for a lane of
the roped pair, whose write waits in its queue; USET and UCLR write the old value with bits set or cleared. -/
def Sys2Proof.Claims.UnitAccess : Prop :=
  ∀ (s : State) (p : Proc) (d : Fin 32) (unit reg : Fin 256) (a : Fin 32),
    let B := s.bankOf p
    let i := reg.val + (valS B a).toNat
    let v := valS B d
    let b := s.copyOf p
    let old := s.peek b unit i
    (s.Executes p 2 → ServedAlone s p → s.busCheck (s.holder p) unit i none = none →
      Acts (.ur p d unit reg a) p 2 s (s.busRead b unit i).2 (putS B d (BitVec.ofNat 32 (s.busRead b unit i).1))) ∧
    (s.Executes p 1 →
      let does := fun (c : Instr) (op : WriteOp) (w : Nat) =>
        s.busCheck (s.holder p) unit i (some w) = none →
          (∀ n, p = .lane n → s.roped n = true →
            Acts c p 1 s (s.setLane n { s.lane n with wq := (s.lane n).wq ++ [⟨unit, i, op, v⟩] }) B) ∧
          ((∀ n, p = .lane n → s.roped n = false) → Acts c p 1 s (s.busWrite b (s.holder p) unit i w) B)
      does (.uw p d unit reg a) .write v.toNat ∧ does (.uset p d unit reg a) .set (old ||| v.toNat) ∧
      does (.uclr p d unit reg a) .clear (old &&& (2 ^ 32 - 1 - v.toNat)))

/-- Both: `Claims.UnitAccessFaults` and `Claims.UnitAccess`. -/
def Obligations.UnitLoadsAndStores : Prop := Claims.UnitAccessFaults ∧ Claims.UnitAccess

/-- R195: what the pair reads is served once: the first member to ask is served and the value is left for the other, which
takes it without a second access. It rests on the model's choices in log entry 17. -/
def Obligations.ThePairIsServedOnce : Prop :=
  ∀ (s : State) (n : Fin 5) (d : Fin 32) (unit reg : Fin 256) (a : Fin 32), s.Executes (.lane n) 2 →
    let p := Proc.lane n
    let B := s.bankOf p
    let i := reg.val + (valS B a).toNat
    s.inPair n = true → s.standIn n = false → s.busCheck (s.holder p) unit i none = none →
    (∀ v rest, (s.lane n).inbox = v :: rest →
      Acts (.ur p d unit reg a) p 2 s (s.setLane n { s.lane n with inbox := rest }) (putS B d v)) ∧
    ((s.lane n).inbox = [] → 5 ≤ s.get SYS.LANE.STBY →
      let r := s.busRead (s.copyOf p) unit i
      let v : Word := BitVec.ofNat 32 r.1
      let k := r.2.lane (s.partner n)
      Acts (.ur p d unit reg a) p 2 s (r.2.setLane (s.partner n) { k with inbox := k.inbox ++ [v] }) (putS B d v))

/-- R222, R256–R258: LEASE on a processor served for itself: the result of take, renew, release and query by the state of the
lease, and what each changes; a resource whose unit is absent raises fault 0x0E. -/
def Sys2Proof.Claims.LeaseInstructions : Prop :=
  ∀ (s : State) (p : Proc) (d : Fin 32) (x : Fin 64) (r : Fin 12), s.Executes p 1 → ServedAlone s p →
    x.val = r.val → (r.val ≤ 5 ∨ 8 ≤ r.val) →
    let B := s.bankOf p
    let me := s.holder p
    let state := s.get (LEASE.HOLD.STATE r)
    let holder := s.get (LEASE.HOLD.HOLDER r)
    let wait := s.on (LEASE.HOLD.SUPWAIT r)
    let lost := s.leases[r].lost
    let gives := fun (c : Instr) (k : Nat) => Computes c p 1 s (putS B d (BitVec.ofNat 32 k))
    -- the result, and a lease that runs a term from now; nothing but the lease changes
    let term := fun (c : Instr) => ∃ m, Acts c p 1 s m (putS B d 0) ∧ m.get (LEASE.HOLD.STATE r) = 1 ∧
      m.get (LEASE.HOLD.HOLDER r) = me ∧ m.leases[r].expires = s.clock.now + s.leaseTerm p ∧
      (∀ q, q ≠ r → m.leases[q] = s.leases[q]) ∧ Same [.leases] [LEASE.HOLD.STATE r, LEASE.HOLD.HOLDER r] s m
    (s.part.hasUnit (leaseUnit r) = false →
      ∀ c ∈ [Instr.leaseTake p d x, .leaseRenew p d x, .leaseRelease p d x, .leaseQuery p d x],
        Faults c p s ⟨0x0E, leaseUnit r, none⟩) ∧
    (s.part.hasUnit (leaseUnit r) = true →
      (state = 2 → gives (.leaseTake p d x) 3 ∧ gives (.leaseQuery p d x) 3) ∧
      (state = 1 → holder = me →
        (wait = false → term (.leaseTake p d x) ∧ term (.leaseRenew p d x)) ∧
        (wait = true → gives (.leaseRenew p d x) 4) ∧ gives (.leaseQuery p d x) 2 ∧
        ∃ m, Acts (.leaseRelease p d x) p 1 s m (putS B d 0) ∧ m = s.rollback r) ∧
      (state = 1 → holder ≠ me → gives (.leaseTake p d x) 1 ∧ gives (.leaseQuery p d x) 1) ∧
      (state = 0 → term (.leaseTake p d x) ∧ gives (.leaseQuery p d x) 0) ∧
      (¬ (state = 1 ∧ holder = me) →
        (me ∈ lost → gives (.leaseRenew p d x) 3 ∧
          ∃ m, Acts (.leaseRelease p d x) p 1 s m (putS B d 3) ∧ me ∉ m.leases[r].lost ∧ Same [.leases] [] s m) ∧
        (me ∉ lost → gives (.leaseRenew p d x) 2 ∧ gives (.leaseRelease p d x) 2)))

/-- R223, R497, R498: PERMIT on a control core: the checks and their codes; a granted or queued request takes a free slot, and
nothing else changes. -/
def Sys2Proof.Claims.PermitInstruction : Prop :=
  ∀ (s : State) (c : Fin 2) (d a b : Fin 32) (cls : Fin 4) (nowait : Bool), s.Executes (.cc c) 1 →
    let p := Proc.cc c
    let i := Instr.permit p d a b cls nowait
    let B := s.bankOf p
    let draw := (valS B a).toNat
    let hold := (valS B b).toNat
    let room := s.get PERMIT.EFFECT.EFF - s.get PERMIT.BASE.BASE
    let used := (s.pwr.grants.map (fun n => s.get (PERMIT.SLOT.DRAW n))).sum
    let now := s.on PERMIT.STATUS.FROZEN = false ∧ used + draw ≤ room ∧
      ∀ n ∈ s.pwr.queue, cls.val < s.get (PERMIT.SLOT.CLASS n)
    let gives := fun (k : Nat) => Computes i p 1 s (putS B d (BitVec.ofNat 32 k))
    let takes := fun (code state : Nat) => ∃ n m, n < 16 ∧ s.get (PERMIT.SLOT.STATE n) = 0 ∧
      Acts i p 1 s m (putS B d (BitVec.ofNat 32 (code + 256 * n))) ∧
      m.get (PERMIT.SLOT.STATE n) = state ∧ m.get (PERMIT.SLOT.HOLDER n) = 8 + c ∧ m.get (PERMIT.SLOT.CLASS n) = cls.val ∧
      m.get (PERMIT.SLOT.DRAW n) = draw % 2 ^ (PERMIT.SLOT.DRAW n).w ∧
      m.get (PERMIT.REM.GRAINS n) = hold % 2 ^ (PERMIT.REM.GRAINS n).w ∧
      (if state = 2 then n ∈ m.pwr.grants else m.pwr.queue = s.pwr.queue ++ [n] ∧ m.pwr.grants = s.pwr.grants) ∧
      Same [.pwr, .free] [PERMIT.SLOT.STATE n, PERMIT.SLOT.HOLDER n, PERMIT.SLOT.CLASS n, PERMIT.SLOT.DRAW n,
        PERMIT.REM.GRAINS n] s m
    ((draw = 0 ∨ hold = 0) → gives 6) ∧
    (draw ≠ 0 → hold ≠ 0 →
      (room < draw → gives 2) ∧
      (draw ≤ room → s.get PERMIT.MAXHOLD.GRAINS < hold → gives 3) ∧
      (draw ≤ room → hold ≤ s.get PERMIT.MAXHOLD.GRAINS →
        ((∀ n < 16, s.get (PERMIT.SLOT.STATE n) ≠ 0) → gives 5) ∧
        ((∃ n < 16, s.get (PERMIT.SLOT.STATE n) = 0) →
          (now → takes 0 2) ∧ (¬ now → nowait = true → gives 4) ∧ (¬ now → nowait = false → takes 1 1))))

/-- Both: `Claims.LeaseInstructions` and `Claims.PermitInstruction`. It rests on the model's choices in log entries 18, 21
and 24. -/
def Obligations.LeaseAndPermitInstructions : Prop := Claims.LeaseInstructions ∧ Claims.PermitInstruction

/-- R86, R87, R224: CUE on a control core: the checks in their order; an accepted entry stands after those due no later. -/
def Sys2Proof.Claims.CueInstruction : Prop :=
  ∀ (s : State) (c : Fin 2) (d : Fin 32) (a : Fin 16), s.Executes (.cc c) 1 →
    let p := Proc.cc c
    let i := Instr.cue p d a
    let B := s.bankOf p
    let e := cueOf B.v[a] (8 + c)
    let launch := e.action = 4 ∧ e.unit = 1 ∧ e.reg ≤ 2 ∧ e.arg ≤ 63
    let access := 1 ≤ e.action ∧ e.action ≤ 3 ∧ s.part.defines e.unit e.reg = true ∧ isPrivate e.unit e.reg = false
    let refused := fun (k : Nat) => ∃ m, Acts i p 1 s m (putS B d (BitVec.ofNat 32 k)) ∧ Arrived 0x13 s m ∧
      (s.get TIME.CUEREF.COUNT + 1 < 2 ^ TIME.CUEREF.COUNT.w →
        m.get TIME.CUEREF.COUNT = s.get TIME.CUEREF.COUNT + 1) ∧
      Same [] ([TIME.CUEREF.COUNT, TIME.CUEREF.SAT] ++ arrivalOf 0x13) s m
    (s.part.hasUnit e.unit = false → Faults i p s ⟨0x0E, e.unit, none⟩) ∧
    (s.part.hasUnit e.unit = true →
      (¬ launch → ¬ access → refused 3) ∧
      (launch ∨ access → e.due ≤ s.clock.grain → refused 1) ∧
      (launch ∨ access → s.clock.grain < e.due → 256 ≤ s.cues.length → refused 2) ∧
      (launch ∨ access → s.clock.grain < e.due → s.cues.length < 256 →
        ∃ m pre post, Acts i p 1 s m (putS B d 0) ∧ s.cues = pre ++ post ∧ m.cues = pre ++ e :: post ∧
          (∀ x ∈ pre, x.due ≤ e.due) ∧ (∀ x, post.head? = some x → e.due < x.due) ∧
          Same [.cues] [TIME.CUEIDX.IDX] s m))

/-- R94, R224: CUE on a lane: a good entry waits in the run's queue, one the checks refuse is counted once for the pair. -/
def Sys2Proof.Claims.CueInstructionOfALane : Prop :=
  ∀ (s : State) (n : Fin 5) (d : Fin 32) (a : Fin 16), s.Executes (.lane n) 1 →
    let p := Proc.lane n
    let i := Instr.cue p d a
    let B := s.bankOf p
    let e := cueOf B.v[a] (s.holder p)
    let l := s.lane n
    let good := (if e.action = 4 then e.unit = 1 ∧ e.reg ≤ 2 ∧ e.arg ≤ 63
      else 1 ≤ e.action ∧ e.action ≤ 3 ∧ s.part.defines e.unit e.reg = true ∧ isPrivate e.unit e.reg = false) ∧
      l.declared e.unit = 2
    let refused := fun (k : Nat) => ∃ m, Acts i p 1 s m (putS B d (BitVec.ofNat 32 k)) ∧
      (s.countsRefusal n = true → Arrived 0x13 s m) ∧ (s.countsRefusal n = false → m = s) ∧
      Same [] ([TIME.CUEREF.COUNT, TIME.CUEREF.SAT] ++ arrivalOf 0x13) s m
    (s.part.hasUnit e.unit = false → Faults i p s ⟨0x0E, e.unit, none⟩) ∧
    (s.part.hasUnit e.unit = true →
      (¬ good → refused 3) ∧ (good → e.due ≤ s.clock.grain → refused 1) ∧
      (good → s.clock.grain < e.due →
        Acts i p 1 s (s.setLane n { l with cueq := l.cueq ++ [B.v[a]] }) (putS B d 0)))

/-- Both: `Claims.CueInstruction` and `Claims.CueInstructionOfALane`. It rests on the model's choices in log entries 21 and
24. -/
def Obligations.CueInstructions : Prop := Claims.CueInstruction ∧ Claims.CueInstructionOfALane

/-- R225: MEXT on a control core extends one measurement register by the digest of its old value and 32 bytes; its checks come
first. -/
def Sys2Proof.Claims.MeasurementExtend : Prop :=
  ∀ (s : State) (c : Fin 2) (x : Fin 4) (a : Fin 32), s.Executes (.cc c) 80 →
    let p := Proc.cc c
    let i := Instr.mext p x a
    let v := valS (s.bankOf p) a
    let m := v.toNat
    let inside := m + 32 ≤ 0x80000 ∨ (0x10400000 ≤ m ∧ m + 32 ≤ 0x10580000)
    (m % 4 ≠ 0 → Faults i p s ⟨0x03, 0xFF, some v⟩) ∧
    (m % 4 = 0 → ¬ inside → Faults i p s ⟨0x04, 0xFF, some v⟩) ∧
    (m % 4 = 0 → inside → x = 0 → 0x80000 ≤ (s.pcOf p).toNat → Faults i p s ⟨0x09, 0xFF, none⟩) ∧
    (m % 4 = 0 → inside → (x = 0 → (s.pcOf p).toNat < 0x80000) →
      ∃ t, Acts i p 80 s t (s.bankOf p) ∧
        t.access.meas[x] = sha256 (s.access.meas[x] ++ (List.range 32).map (fun k => s.byte (m + k))) ∧
        (∀ y, y ≠ x → t.access.meas[y] = s.access.meas[y]) ∧ { t.access with meas := s.access.meas } = s.access ∧
        Same [.access] [ACCESS.MCNT.CNT] s t)

/-- R226, R195: BSWAP has the effect of a write of FILT.SWAP with its bank and the low 24 bits of its source as mask; a lane of
the pair queues it. -/
def Sys2Proof.Claims.BankSwapInstruction : Prop :=
  ∀ (s : State) (p : Proc) (a : Fin 32) (toB : Bool), s.Executes p 1 →
    let B := s.bankOf p
    let w := (valS B a).toNat % 2 ^ 24 + (if toB then 2 ^ 25 else 0)
    (∀ n, p = .lane n → s.roped n = true →
      Acts (.bswap p a toB) p 1 s
        (s.setLane n { s.lane n with wq := (s.lane n).wq ++ [⟨0x18, 1, .write, BitVec.ofNat 32 w⟩] }) B) ∧
    ((∀ n, p = .lane n → s.roped n = false) → Acts (.bswap p a toB) p 1 s (s.busWrite (s.copyOf p) (s.holder p) 0x18 1 w) B)

/-- Both: `Claims.MeasurementExtend` and `Claims.BankSwapInstruction`. It rests on the model's choices in log entries 10 and
21. -/
def Obligations.MeasurementAndBankSwap : Prop := Claims.MeasurementExtend ∧ Claims.BankSwapInstruction

/-- R228, R216, R221, R244, R253, R254: END: a lane's run ends with an empty loop stack and its queues go to the grain's
outputs, a grain program giving way to the slice; on a core the next queued cue program starts, or the saved service program
goes on as it was, or the core waits. It rests on the model's choices in log entries 17 and 21. -/
def Obligations.EndOfARun : Prop :=
  ∀ (s : State) (p : Proc), s.Executes p 1 →
    (∀ n, p = .lane n → ∃ t, exec (.endRun p) s = .next t ∧
      let l := s.lane n
      let k := t.lane n
      k.wq = [] ∧ k.cueq = [] ∧ k.outQ = l.outQ ++ l.wq ∧ k.outCues = l.outCues ++ l.cueq ∧
      (s.roped n = true → k.outIncs = l.outIncs ++ [if l.cur = some .pitch then l.pitchIncs else l.incs]) ∧
      (l.cur = some .pitch → k.cur = none ∧ k.pitchOn = false ∧ k.p.loops = [] ∧ k.p.bank = l.p.bank ∧ k.g = l.g) ∧
      (l.cur = some .grain → k.g.loops = [] ∧ k.g.bank = l.g.bank ∧ k.cur ≠ some .grain ∧
        (k.cur = some .pitch ↔ l.imgP.isSome = true ∧ (l.pitchOn = true ∨ l.pitchDue = true)))) ∧
    (∀ c, p = .cc c →
      (s.inHandler c = true → Faults (.endRun p) p s ⟨0x02, 0xFF, none⟩) ∧
      (s.inHandler c = false → ∃ t, exec (.endRun p) s = .next t ∧
        let k := t.core c
        (∀ n m rest, (s.core c).run = .cueProg n → (s.core c).launch = m :: rest →
          k.run = .cueProg m ∧ k.launch = rest ∧ k.bank.s[1] = BitVec.ofNat 32 s.clock.grain ∧
          k.bank.s[2] = BitVec.ofNat 32 m ∧ k.loopsBase = [] ∧ k.saved = (s.core c).saved) ∧
        (∀ n sv, (s.core c).run = .cueProg n → (s.core c).launch = [] → (s.core c).saved = some sv →
          k.run = .service ∧ k.bank = sv.bank ∧ k.shadow = sv.shadow ∧ k.pc = sv.pc ∧ k.loopsBase = sv.loops ∧
          k.waiting = sv.waiting ∧ k.saved = none) ∧
        ((s.core c).run = .service → (s.core c).newSvc = none → k.run = .idle ∧ k.waiting = true ∧ k.loopsBase = []) ∧
        (∀ pc, (s.core c).run = .service → (s.core c).newSvc = some pc →
          k.run = .service ∧ k.pc = pc ∧ k.waiting = false ∧ k.newSvc = none) ∧
        Same [.cores] [] s t ∧ ∀ e, e ≠ c → t.core e = s.core e))

/-- R26, R27, R42, R72: the clock monitors, the clearing of the fault record and the tie record, which always-on SRAM
holds too, while the mains side runs. -/
def Sys2Proof.Claims.ClockMonitorsAndTie : Prop :=
  ∀ s : State, s.power = .on →
    (∃ t, exec .xtalRefLost s = .next t ∧ t.on SYS.STATUS.CLKDEG = true ∧
      t.clock = { s.clock with xtalOk := false, lostAt := s.clock.grain } ∧
      (s.on SYS.STATUS.CLKDEG = false → Arrived 0x3E s t) ∧ Same [.clock] (SYS.STATUS.CLKDEG :: arrivalOf 0x3E) s t) ∧
    (let back := s.on SYS.STATUS.CLKDEG = true ∧ s.clock.phase = 0 ∧ s.clock.lostAt + 4096 ≤ s.clock.grain
     (back → ∃ t, exec .xtalRefReturn s = .next t ∧ t.on SYS.STATUS.CLKDEG = false ∧
        t.clock = { s.clock with xtalOk := true } ∧ Arrived 0x3E s t ∧
        Same [.clock] (SYS.STATUS.CLKDEG :: arrivalOf 0x3E) s t) ∧
     (¬ back → exec .xtalRefReturn s = .next s)) ∧
    (∃ t, exec .slowCrystalFail s = .next t ∧ t.on SYS.STATUS.SLOWDEG = true ∧ t.clock = { s.clock with slowOk := false } ∧
      (s.on SYS.STATUS.SLOWDEG = false → Arrived 0x3E s t) ∧ Same [.clock] (SYS.STATUS.SLOWDEG :: arrivalOf 0x3E) s t) ∧
    (∃ t, exec .sysFaultClear s = .next t ∧ t.on SYS.FAULT.VALID = false ∧ t.on SYS.FAULT.MORE = false ∧
      Same [] [SYS.FAULT.VALID, SYS.FAULT.MORE] s t) ∧
    -- the grain and phase at the last SLOW edge whose count is a multiple of 4096, where that edge has no tie yet
    (s.clock.pllLock = true →
      let since := s.clock.rtc % 4096 * 6250 + s.clock.slowPh
      since ≤ s.clock.grain * 6400 + s.clock.phase → s.clock.tie.map Tie.rtc ≠ some (s.clock.rtc - s.clock.rtc % 4096) →
      ∃ t τ, exec .tieRecord s = .next t ∧ t.clock = { s.clock with tie := some τ } ∧
        τ.rtc % 4096 = 0 ∧ τ.rtc ≤ s.clock.rtc ∧ s.clock.rtc < τ.rtc + 4096 ∧ τ.phase < 6400 ∧
        τ.grain * 6400 + τ.phase + since = s.clock.grain * 6400 + s.clock.phase ∧
        (∀ a, a < 0x20002000 ∨ 0x20002400 ≤ a → t.byte a = s.byte a) ∧ Same [.clock, .mem] [] s t)

/-- R76, R77, R78: a PPS edge of the chosen polarity, its window being 3.2 grains, and a missed one; a follower of the chain
ignores both. -/
def Sys2Proof.Claims.PpsEdges : Prop :=
  ∀ s : State, s.power = .on → s.on TIME.CTRL.PPSEN = true →
    let edge := s.clock.grain * 6400 + s.clock.phase - 40
    let accepts := s.pps.last = none ∧ s.pps.armed = true ∨ ∃ l, s.pps.last = some l ∧ s.ppsInWindow l edge = true
    let stamped := [TIME.PPSGLO.PGLO, TIME.PPSGHI.PGHI.at 1, TIME.PPSCYC.CYC]
    let written := [TIME.UTCOFFLO.ULO, TIME.UTCOFFHI.UHI, TIME.UTCOFFFR.UFR, TIME.PPSSEC.SEC, TIME.UTCRATE.RATE,
      TIME.UTCSTAT.SRC, TIME.UTCSTAT.VALID, TIME.UTCSTAT.PPSLOCK] ++ stamped ++ arrivalOf 0x14
    (s.isFollower = false → accepts →
      ∃ t, exec (.ppsEdge (!s.on TIME.CTRL.PPSPOL)) s = .next t ∧
        t.get TIME.PPSSEC.SEC = (s.get TIME.PPSSEC.SEC + 1) % 2 ^ 32 ∧ t.get TIME.UTCSTAT.SRC = 2 ∧
        t.on TIME.UTCSTAT.VALID = true ∧ (3 ≤ s.pps.run → t.on TIME.UTCSTAT.PPSLOCK = true) ∧
        t.get TIME.PPSCYC.CYC = edge % 6400 ∧ t.pps.last = some edge ∧ t.pps.missed = 0 ∧ Arrived 0x14 s t ∧
        Same [.pps] written s t) ∧
    -- an edge outside the window is timestamped and rejected, and one not yet armed is timestamped
    (∀ l, s.isFollower = false → s.pps.last = some l → s.ppsInWindow l edge = false →
      ∃ t, exec (.ppsEdge (!s.on TIME.CTRL.PPSPOL)) s = .next t ∧
        (s.get TIME.PPSREJ.COUNT + 1 < 2 ^ TIME.PPSREJ.COUNT.w → t.get TIME.PPSREJ.COUNT = s.get TIME.PPSREJ.COUNT + 1) ∧
        t.get TIME.PPSCYC.CYC = edge % 6400 ∧ t.pps = { s.pps with run := 0 } ∧
        Same [.pps] ([TIME.PPSREJ.COUNT, TIME.PPSREJ.SAT] ++ stamped) s t) ∧
    (s.isFollower = false → s.pps.last = none → s.pps.armed = false →
      ∃ t, exec (.ppsEdge (!s.on TIME.CTRL.PPSPOL)) s = .next t ∧ t.get TIME.PPSCYC.CYC = edge % 6400 ∧
        Same [] stamped s t) ∧
    exec (.ppsEdge (s.on TIME.CTRL.PPSPOL)) s = .next s ∧
    (s.isFollower = true → exec (.ppsEdge (!s.on TIME.CTRL.PPSPOL)) s = .next s ∧ exec .ppsEdgeMissed s = .next s) ∧
    (∀ l, s.isFollower = false → s.pps.last = some l →
      l + 204800000 * (s.pps.missed + 1) + 20480 < s.clock.grain * 6400 + s.clock.phase →
      ∃ t, exec .ppsEdgeMissed s = .next t ∧
        (s.pps.missed < 3 → t = { s with pps := { s.pps with missed := s.pps.missed + 1, run := 0 } }) ∧
        (3 ≤ s.pps.missed → t.on TIME.UTCSTAT.PPSLOCK = false ∧ t.on TIME.UTCSTAT.PPSLOST = true ∧ t.pps.last = none ∧
          (s.on TIME.UTCSTAT.PPSLOST = false → Arrived 0x15 s t) ∧
          Same [.pps] ([TIME.UTCSTAT.PPSLOCK, TIME.UTCSTAT.PPSLOST] ++ arrivalOf 0x15) s t))

/-- Both: `Claims.ClockMonitorsAndTie` and `Claims.PpsEdges`. It rests on the model's choices in log entries 1, 3, 14, 15,
38 and 51. -/
def Obligations.ClocksTieAndPps : Prop := Claims.ClockMonitorsAndTie ∧ Claims.PpsEdges

/-- R81: a zero crossing in TRACK is judged by amplitude as the first of a run, then by frequency too, then by the 5 %
window against the last period too; the eighth qualifying crossing of a run starts TRACK; a deadline that is reached, or
CTRL.HOLD, ends in HOLD; R83: a 10-minute boundary ends the running interval. It rests on the model's choices in log entries
3 and 38. -/
def Obligations.PitchTracking : Prop :=
  ∀ (s : State) (time : Nat) (amp : Word), s.power = .on → s.clock.pllLock = true →
    let state := s.get TIME.TRK.STATE
    let qual := s.get TIME.TRK.QUAL
    let per := time - s.tracker.lastQ
    let good := 2 ^ 31 ≤ amp.toNat * 100 ∧ (qual = 0 ∨ 320000 * 2 ^ 32 ≤ per * 690 ∧ per * 425 ≤ 320000 * 2 ^ 32 ∧
      (qual = 1 ∨ ∃ q, s.tracker.prevPer = some q ∧ ((per : Int) - q).natAbs * 20 ≤ q))
    let fields := [TIME.TRK.STATE, TIME.TRK.QUAL, TIME.BLKPOS.POS]
    (∃ t, exec (.zeroCrossing time amp) s = .next t ∧
      (state = 1 → good → t.get TIME.TRK.STATE = 1 ∧ t.get TIME.TRK.QUAL = (if qual < 255 then qual + 1 else qual) ∧
        t.tracker.lastQ = time ∧ t.tracker.lastStart = some time ∧ t.tracker.lastPer = per ∧
        t.tracker.running.length = s.tracker.running.length + 1) ∧
      (state = 1 → ¬ good → t.get TIME.TRK.STATE = 1 ∧ t.get TIME.TRK.QUAL = 0 ∧
        t.tracker.running = s.tracker.running ∧ t.tracker.lastQ = s.tracker.lastQ) ∧
      (state ≠ 1 → t.get TIME.TRK.STATE = 1 → 8 ≤ t.get TIME.TRK.QUAL ∧ s.on TIME.CTRL.HOLD = false ∧
        t.tracker.lastStart = some time) ∧
      Same [.tracker] fields s t) ∧
    (state ≠ 2 → s.on TIME.CTRL.HOLD = true ∨ s.trackDeadline ≤ s.clock.grain * 2 ^ 32 →
      ∃ t, exec .trackerTimeout s = .next t ∧ t.get TIME.TRK.STATE = 2 ∧ t.get TIME.TRK.QUAL = 0 ∧
        Same [.tracker] fields s t) ∧
    (s.tenMinute ≠ s.tracker.tenIdx →
      ∃ t, exec .intervalBoundary s = .next t ∧ t.tracker = { s.tracker with ivEnd := true, tenIdx := s.tenMinute } ∧
        (s.pq.ten = none → s.pq.two = none → t = { s with tracker := t.tracker }) ∧
        -- an interval that no later block can join is posted in the quantity store
        (∀ a, a < 0x10680000 ∨ 0x10780000 ≤ a → t.byte a = s.byte a) ∧
        Same [.tracker, .pq, .mem, .free] (arrivalOf 0x28) s t)

/-- R92, R87: the cancelling of cues removes every pending cue with the tag, or all of them, and no other. -/
def Sys2Proof.Claims.CueCancelling : Prop :=
  ∀ (s : State) (tag : BitVec 8), s.power = .on →
    (∃ t, exec (.cueCancelTag tag) s = .next t ∧ (∀ c, c ∈ t.cues ↔ c ∈ s.cues ∧ c.tag ≠ tag.toNat) ∧
      t.cues.Sublist s.cues ∧ Same [.cues] [TIME.CUEIDX.IDX] s t) ∧
    (∃ t, exec .cueCancelAll s = .next t ∧ t.cues = [] ∧ Same [.cues] [TIME.CUEIDX.IDX] s t)

/-- R95–R101, R103–R106: the chain link, enabled and connected. -/
def Sys2Proof.Claims.ChainLink : Prop :=
  ∀ (s : State), s.chainOn = true →
    let state := s.get CHAIN.STATUS.STATE
    -- STATE goes to a value, and its change raises source 0x17
    let goes := fun (t : State) (k : Nat) => t.get CHAIN.STATUS.STATE = k ∧ (state ≠ k → t.bit (IRQ.SPEND.PEND 0) 7 = true)
    (∀ bad, state = 6 → s.clock.grain % 32 = 0 → s.clock.phase = 0 → s.chain.sent ≠ some s.clock.grain →
      s.handedOver = false → ∃ t, exec (.timecodeFrameSend bad) s = .next t ∧
      t.chain.tx.length = 36 ∧ t.chain.tx.take 4 = [0xAA, 0xAA, 0xC3, 1] ∧ unAt t.chain.tx 6 8 = s.clock.grain % 2 ^ 64 ∧
      t.chain.frameStart = s.clock.now ∧ t.chain.sent = some s.clock.grain ∧
      (bad = false → t.chain.badReadback = 0 ∧ Same [.chain] [] s t)) ∧
    (∀ bad, s.chain.sent = some s.clock.grain → exec (.timecodeFrameSend bad) s = .next s) ∧
    (∀ frame, state = 6 → ∃ t, exec (.followerReplyReceive frame) s = .next t ∧
      (frameGood 2 14 frame = true → t.bit CHAIN.MEMBERS.MEM (byteAt frame 4 % 8) = true ∧
        Same [.chain] [CHAIN.MEMBERS.MEM] s t) ∧
      (frameGood 2 14 frame = false → Same [] [CHAIN.CRCERR.COUNT, CHAIN.CRCERR.SAT] s t)) ∧
    (∀ pos : Fin 8, state = 6 → s.bit CHAIN.MEMBERS.MEM pos = true → 3 ≤ s.chain.miss.getD pos 0 →
      ∃ t, exec (.replyMissed pos) s = .next t ∧ t.bit CHAIN.MEMBERS.MEM pos = false ∧
        t.on CHAIN.FLAGS.MEMBERLOST = true ∧
        Same [.chain] ([CHAIN.MEMBERS.MEM, CHAIN.FLAGS.MEMBERLOST] ++ arrivalOf 0x16) s t) ∧
    (∀ pos : Fin 8, state = 6 → ∃ t, exec (.handoverGo pos) s = .next t ∧
      (s.bit CHAIN.MEMBERS.MEM pos = true → t.chain.handover = some (pos.val, 4) ∧ Same [.chain] [] s t) ∧
      (s.bit CHAIN.MEMBERS.MEM pos = false → t.on CHAIN.FLAGS.MEMBERLOST = true ∧
        Same [] (CHAIN.FLAGS.MEMBERLOST :: arrivalOf 0x16) s t)) ∧
    (state = 6 → s.handedOver = true → s.clock.grain % 32 = 0 → s.chain.sent ≠ some s.clock.grain →
      ∃ t, exec .handoverSwitch s = .next t ∧ goes t 1) ∧
    (∀ g, s.handedOver = false → s.chain.switchAt = some g → g ≤ s.clock.grain →
      ∃ t, exec .handoverSwitch s = .next t ∧ goes t 6 ∧ t.get CHAIN.STATUS.LPOS = s.get CHAIN.CTRL.POS % 8) ∧
    (∀ g, s.chain.listenUntil = some g → g ≤ s.clock.grain →
      ∃ t, exec .leaderListenEnd s = .next t ∧ goes t 6 ∧ t.chain.listenUntil = none) ∧
    (∀ g, s.chain.silentUntil = some g → g ≤ s.clock.grain →
      ∃ t, exec .leaderSilenceEnd s = .next t ∧ goes t 1 ∧ t.chain.listenUntil = some (s.clock.grain + 64)) ∧
    (s.on CHAIN.CTRL.HEIR = true → s.isFollower = true →
      s.chain.lastFrame + 1024 ≤ s.clock.grain → ∃ t, exec .heirTakeover s = .next t ∧ goes t 6) ∧
    (∀ frame, frameGood 1 36 frame = false → ∃ t, exec (.timecodeFrameReceive frame) s = .next t ∧
      t.chain = { s.chain with good := 0 } ∧ Same [.chain] [CHAIN.CRCERR.COUNT, CHAIN.CRCERR.SAT] s t) ∧
    (∀ frame, frameGood 1 36 frame = true → state = 1 → s.chain.listenUntil = none → s.chain.silentUntil = none →
      ∃ t, exec (.timecodeFrameReceive frame) s = .next t ∧ t.chain.lastFrame = s.clock.grain ∧
        t.get CHAIN.STATUS.LPOS = byteAt frame 4 % 8 ∧
        -- the third good frame in a row starts RANGING
        goes t (if 2 ≤ s.chain.good ∧ s.clock.grain ≤ s.chain.lastFrame + 33 then 2 else 1)) ∧
    (∀ d, s.chain.sync = some d → s.isFollower = true → d + (4 * s.get CHAIN.CTRL.POS + 2) * 6400 ≤ s.clock.now →
      ∃ t, exec .followerReplySend s = .next t ∧ t.chain.tx.length = 14 ∧ t.chain.sync = none ∧ Same [.chain] [] s t) ∧
    (2 ≤ state → state ≤ 4 → s.chain.lastFrame + 96 ≤ s.clock.grain → ∃ t, exec .frameLoss s = .next t ∧ goes t 5 ∧
      t.on CHAIN.FLAGS.LOSS = true ∧ t.clock = { s.clock with glen := 6400 }) ∧
    -- the step, before the cues of the boundary are dispatched under the new number
    (∀ d g, s.chain.stepPend = some (d, g) → g < s.clock.grain → ∃ t : State, exec .chainStep s = .next t.dispatchDue ∧
      t.cues = s.cues ∧ t.clock.grain = ((s.clock.grain : Int) + d).toNat ∧ t.chain.stepPend = none ∧
        t.on CHAIN.FLAGS.STEP = true ∧
      t.get2 CHAIN.STEPLO.SLO CHAIN.STEPHI.SHI = wrapN 64 d)

/-- Both: `Claims.CueCancelling` and `Claims.ChainLink`. It rests on the model's choices in log entries 1, 3, 24, 38 and 51.
-/
def Obligations.CancellingAndTheChain : Prop := Claims.CueCancelling ∧ Claims.ChainLink


/-- R198, R409, R410, R411, R414: a core with IE set takes its presented source at its vector: the saved pc and flags, the
cause, STAT, the pending bit, RRLAST and the group's hold-off; WAIT with IE clear ends without a handler. -/
def Sys2Proof.Claims.HandlerEntry : Prop :=
  ∀ (s : State) (c : Fin 2) (q : Present), s.power = .on → q.src < 0x63 →
    let k := irqBank c q.src
    let pend := if q.src < 0x10 then IRQ.PPEND.PEND c else IRQ.SPEND.PEND ((q.src - 0x10) / 32)
    let hold := s.get (IRQ.HOLD.HOLD (s.get (IRQ.SCFG.GRP k)))
    let K := s.core c
    -- what taking the source does, in either handler
    let taken := fun (t : State) => t.irqPending c q.src = false ∧ t.get (IRQ.SCFG.RRLAST k) = c.val ∧
      (∀ d, d ≠ c → t.core d = s.core d) ∧ t.irq = { s.irq with holdEnd := t.irq.holdEnd } ∧
      ∀ g : Fin 8, t.irq.holdEnd[g] =
        if s.get (IRQ.SCFG.GRP k) = g.val ∧ hold ≠ 0 then s.clock.now + 200 * hold else s.irq.holdEnd[g]
    (K.halted = false → s.on (CSR.STAT.IE c) = true →
      (K.normal = some q → s.inHandler c = false → ∃ t, exec (.normalEntry c) s = .next t ∧ taken t ∧
        t.core c = { K with pc := BitVec.ofNat 32 (256 * s.get (CSR.VEC.BASE c) + 0x40), loopsMid := [],
                            waiting := false, normal := none } ∧
        t.get (CSR.EPC.PC c) = K.pc.toNat ∧ t.get (CSR.EFL.FL c) = K.bank.fl.toNat ∧ t.on (CSR.ECAUSE.INT c) = true ∧
        t.get (CSR.ECAUSE.CODE c) = q.src ∧ t.on (CSR.STAT.INNORM c) = true ∧ t.get (IRQ.CCSTAT.PRES c) = 0xFF ∧
        Same [.cores, .irq] [pend, IRQ.SCFG.RRLAST k, IRQ.CCSTAT.PRES c, CSR.EPC.PC c, CSR.EFL.FL c, CSR.ECAUSE.INT c,
          CSR.ECAUSE.CODE c, CSR.STAT.INNORM c] s t) ∧
      (K.fast = some q → s.on (CSR.STAT.INFAST c) = false → ∃ t, exec (.fastEntry c) s = .next t ∧ taken t ∧
        t.core c = { K with pc := BitVec.ofNat 32 (256 * s.get (CSR.VEC.BASE c) + 0x80), loopsFast := [],
                            waiting := false, fast := none } ∧
        t.get (CSR.FEPC.PC c) = K.pc.toNat ∧ t.get (CSR.FFL.FL c) = K.bank.fl.toNat ∧ t.on (CSR.STAT.INFAST c) = true ∧
        t.get (IRQ.CCSTAT.FAST c) = q.src ∧
        Same [.cores, .irq] [pend, IRQ.SCFG.RRLAST k, IRQ.CCSTAT.FAST c, CSR.FEPC.PC c, CSR.FFL.FL c, CSR.STAT.INFAST c]
          s t)) ∧
    (K.waiting = true → s.on (CSR.STAT.IE c) = false → ∀ x ∈ sourcesOf c, s.considered x.1 x.2 = true →
      bitOf (s.tset x.1 x.2) c = true → s.coreOpen c (s.irqFast x.1 x.2) = true →
      exec (.waitWake c) s = .next (s.setCore c { K with waiting := false }))

/-- R409, R410: the controller's choice of one cycle: the lowest fast source whose turn a core is, else the lowest normal one,
is presented in the next cycle; every source whose turn the host is sets its HPEND bit. -/
def Sys2Proof.Claims.InterruptSelection : Prop :=
  ∀ s : State, s.power = .on → ∃ t, exec .irqPresent s = .next t ∧
    Same [.cores, .irq] [IRQ.CCSTAT.PRES 0, IRQ.CCSTAT.PRES 1, IRQ.HPEND.PEND 0, IRQ.HPEND.PEND 1, IRQ.HPEND.PEND 2] s t ∧
    (∀ (c : Fin 2), ∀ x ∈ sourcesOf c, s.chosen x.1 x.2 = some c.val →
      let mine := fun (y : Nat × Nat) => y ∈ sourcesOf c ∧ s.chosen y.1 y.2 = some c.val
      (s.irqFast x.1 x.2 = true → (∀ y, mine y → s.irqFast y.1 y.2 = true → x.2 ≤ y.2) →
        t.core c = { s.core c with fast := some ⟨x.2, s.clock.now + 1⟩ }) ∧
      (s.irqFast x.1 x.2 = false → (∀ y, mine y → s.irqFast y.1 y.2 = false ∧ x.2 ≤ y.2) →
        t.core c = { s.core c with normal := some ⟨x.2, s.clock.now + 1⟩ } ∧ t.get (IRQ.CCSTAT.PRES c) = x.2)) ∧
    (∀ (c : Fin 2), (∀ x ∈ sourcesOf c, s.chosen x.1 x.2 ≠ some c.val) → t.core c = s.core c) ∧
    ∀ src, 0x10 ≤ src → src < 0x63 → s.chosen 0 src = some 2 →
      t.bit (IRQ.HPEND.PEND ((src - 0x10) / 32)) ((src - 0x10) % 32) = true ∧
      (⟨src, s.clock.now + 1⟩ : Present) ∈ t.irq.host

/-- Both: `Claims.HandlerEntry` and `Claims.InterruptSelection`. It rests on the model's choices in log entries 1 and 44. -/
def Obligations.HandlersSelectedAndEntered : Prop := Claims.HandlerEntry ∧ Claims.InterruptSelection

/-- R404, R405, R407, R414: software sources, the core timers, the arrival counters' read and the end of a hold-off. -/
def Sys2Proof.Claims.InterruptSources : Prop :=
  ∀ (s : State) (c : Fin 2), s.power = .on →
    let n := fun (i : Nat) => 0x100 + 0x10 * c.val + i
    (∀ mask : BitVec 8, ∃ t, exec (.swsetWrite c mask) s = .next t ∧
      (∀ i, i < 8 → mask.getLsbD i = true → t.bit (IRQ.PPEND.PEND c) i = true ∧
        (s.get (IRQ.SCNT.COUNT (n i)) < 255 → t.get (IRQ.SCNT.COUNT (n i)) = s.get (IRQ.SCNT.COUNT (n i)) + 1)) ∧
      (∀ i, 8 ≤ i → i < 16 → t.bit (IRQ.PPEND.PEND c) i = s.bit (IRQ.PPEND.PEND c) i) ∧
      Same [] (IRQ.PPEND.PEND c :: ((List.range 8).filter (fun i => mask.getLsbD i)).flatMap
        (fun i => [IRQ.SCNT.COUNT (n i), IRQ.SCNT.SAT (n i)])) s t) ∧
    (∀ v : Word, ∃ t, exec (.irqTimerWrite c v) s = .next t ∧ t.on (IRQ.TMR.EN c) = v.getLsbD 16 ∧
      t.get (IRQ.TMR.PERIOD c) = max 1 (v.toNat % 65536) ∧
      t.irq = { s.irq with timerDue := t.irq.timerDue } ∧ (∀ d, d ≠ c → t.irq.timerDue[d] = s.irq.timerDue[d]) ∧
      (v.getLsbD 16 = false → t.irq.timerDue[c] = none) ∧
      (v.getLsbD 16 = true →
        (s.on (IRQ.TMR.EN c) = true → s.get (IRQ.TMR.PERIOD c) = max 1 (v.toNat % 65536) →
          t.irq.timerDue[c] = s.irq.timerDue[c]) ∧
        (s.on (IRQ.TMR.EN c) = false ∨ s.get (IRQ.TMR.PERIOD c) ≠ max 1 (v.toNat % 65536) →
          t.irq.timerDue[c] = some (s.clock.grain + 1 + max 1 (v.toNat % 65536)))) ∧
      Same [.irq] [IRQ.TMR.EN c, IRQ.TMR.PERIOD c] s t) ∧
    (∀ g, s.irq.timerDue[c] = some g → g ≤ s.clock.grain → ∃ t, exec (.coreTimerExpiry c) s = .next t ∧
      t.bit (IRQ.PPEND.PEND c) 8 = true ∧ t.irq.timerDue[c] = some (g + s.get (IRQ.TMR.PERIOD c)) ∧
      Same [.irq] [IRQ.PPEND.PEND c, IRQ.SCNT.COUNT (n 8), IRQ.SCNT.SAT (n 8)] s t) ∧
    (∀ p, let b := s.irqSel (s.copyOf p)
      ∃ t, exec (.scntRead p) s = .next t ∧
        t.readData = BitVec.ofNat 32 (s.get (IRQ.SCNT.COUNT b) + 256 * s.get (IRQ.SCNT.SAT b)) ∧
        t.get (IRQ.SCNT.COUNT b) = 0 ∧ t.on (IRQ.SCNT.SAT b) = false ∧
        Same [.readData] [IRQ.SCNT.COUNT b, IRQ.SCNT.SAT b] s t) ∧
    (∀ g : Fin 8, s.irq.holdEnd[g] ≤ s.clock.now →
      exec (.holdoffEnd g) s = .next { s with irq := { s.irq with holdEnd := s.irq.holdEnd.set g 0 } })

/-- R407, R412, R413: a write of a mask, GDIS or TEN holds sources back and withdraws a presentation from its cycle P + 4
on; a cleared pending bit withdraws at any time; another register index is refused. It rests on the model's choices in log
entries 1, 23 and 44. -/
def Obligations.MasksAndWithdrawal : Prop :=
  ∀ (s : State) (idx : Fin 256) (v : Word), s.power = .on →
    (∀ q ∈ s.irq.host, 0x10 ≤ q.src ∧ q.src < 0x63) →
    let i := idx.val
    -- the presentations that a condition ends, and only those
    let ends := fun (t : State) (gone : Nat → Nat → Present → Prop) =>
      (∀ (c : Fin 2) (q : Present), q.src < 0x63 →
        ((s.core c).normal = some q → (gone c c q → (t.core c).normal = none) ∧ (¬ gone c c q → (t.core c).normal = some q)) ∧
        ((s.core c).fast = some q → (gone c c q → (t.core c).fast = none) ∧ (¬ gone c c q → (t.core c).fast = some q))) ∧
      ∀ q, q ∈ t.irq.host ↔ q ∈ s.irq.host ∧ ¬ gone 0 2 q
    let out := [IRQ.CCSTAT.PRES 0, IRQ.CCSTAT.PRES 1, IRQ.HPEND.PEND 0, IRQ.HPEND.PEND 1, IRQ.HPEND.PEND 2]
    let masks := fun (f : Fld) => ∃ t, exec (.irqMaskWrite idx v) s = .next t ∧ t.get f = v.toNat % 2 ^ f.w ∧
      ends t (fun c tgt q => t.heldBack c q.src tgt = true ∧ q.cycle + 4 ≤ s.clock.now) ∧
      Same [.cores, .irq] (f :: out) s t
    let clears := fun (f : Fld) => ∃ t, exec (.irqPendClear idx v) s = .next t ∧
      (∀ b, b < f.w → t.bit f b = (s.bit f b && !v.getLsbD b)) ∧
      ends t (fun c _ q => t.irqPending c q.src = false) ∧ Same [.cores, .irq] (f :: out) s t
    (i = 0x00 → ∃ t, exec (.irqMaskWrite idx v) s = .next t ∧ t.on IRQ.GCTL.GDIS = v.getLsbD 0 ∧
      t.get IRQ.GCTL.TEN = v.toNat / 2 % 8 ∧
      ends t (fun c tgt q => t.heldBack c q.src tgt = true ∧ q.cycle + 4 ≤ s.clock.now) ∧
      Same [.cores, .irq] (IRQ.GCTL.GDIS :: IRQ.GCTL.TEN :: out) s t) ∧
    (∀ c : Fin 2, (i = 0x0A + c → masks (IRQ.PMASK.MASK c)) ∧ (i = 0x08 + c → clears (IRQ.PPEND.PEND c))) ∧
    (∀ n : Fin 3, (i = 0x14 + n → masks (IRQ.SMASK.MASK n)) ∧ (i = 0x10 + n → clears (IRQ.SPEND.PEND n))) ∧
    (i ∉ [0x00, 0x0A, 0x0B, 0x14, 0x15, 0x16] → exec (.irqMaskWrite idx v) s = .refused .illFormed) ∧
    (i ∉ [0x08, 0x09, 0x10, 0x11, 0x12] → exec (.irqPendClear idx v) s = .refused .illFormed)

/-- R416, R417: an external line's filtered level follows the raw one after FLT SLOW cycles, with an interrupt on an edge that
EDGE names; a raw edge that EDGE names sets LATCH at once, and one back to the filtered level is a glitch. -/
def Sys2Proof.Claims.ExternalLines : Prop :=
  ∀ (s : State) (l : Fin 3) (rising : Bool), s.power = .on →
    let x := s.irq.lines[l]
    let fits := fun (up : Bool) => s.get (IRQ.XCFG.EDGE l) = 1 ∧ up = true ∨ s.get (IRQ.XCFG.EDGE l) = 0 ∧ up = false ∨
      2 ≤ s.get (IRQ.XCFG.EDGE l)
    (x.raw ≠ x.filt → x.since + max 1 (s.get (IRQ.XCFG.FLT l)) ≤ s.clock.rtc →
      ∃ t, exec (.lineLevelChange l) s = .next t ∧
        t.irq = { s.irq with lines := s.irq.lines.set l { x with filt := x.raw, unconfirmed := false } } ∧
        (fits x.raw → Arrived (0x60 + l) s t) ∧
        (¬ fits x.raw → Same [.irq] [] s t) ∧ Same [.irq] (arrivalOf (0x60 + l)) s t) ∧
    (∃ t, exec (.lineEdgeLatch l rising) s = .next t ∧ t.irq.lines[l].raw = rising ∧ t.irq.lines[l].since = s.clock.rtc ∧
      t.irq.lines[l].filt = x.filt ∧
      (fits rising → t.bit IRQ.XSTAT.LATCH l = true) ∧ (¬ fits rising → t.get IRQ.XSTAT.LATCH = s.get IRQ.XSTAT.LATCH) ∧
      (rising = x.filt → (x.unconfirmed = true ∨ fits rising) → t.bit IRQ.XSTAT.GLITCH l = true) ∧
      (rising = x.filt → t.irq.lines[l].unconfirmed = false) ∧
      (rising ≠ x.filt → t.get IRQ.XSTAT.GLITCH = s.get IRQ.XSTAT.GLITCH) ∧
      Same [.irq, .tamp] [IRQ.XSTAT.LATCH, IRQ.XSTAT.GLITCH] s t)

/-- Both: `Claims.InterruptSources` and `Claims.ExternalLines`. It rests on the model's choices in log entry 1. -/
def Obligations.InterruptSourcesAndLines : Prop := Claims.InterruptSources ∧ Claims.ExternalLines


/-- R68, R80, R82, R93, R500: the boundary of a grain begins the next at phase 0 with its source, and no cue that is due
stays in the table; the end of a pitch loads its registers and counts it; the end of a block puts NOM60 in force, and a
fallback that waits for it empties the cue table. It rests on the model's choices in log entries 1 and 3. -/
def Obligations.GrainsPitchesBlocks : Prop :=
  ∀ (s : State), s.power = .on →
    (∀ m, s.clock.pllLock = true → ∃ t, exec (.grainBoundary m) s = .next t ∧ t.clock.grain = s.clock.grain + 1 ∧
      t.clock.phase = 0 ∧ t.clock.now = s.clock.now + (s.clock.glen - s.clock.phase) ∧ t.rope.voted = false ∧
      t.bit (IRQ.SPEND.PEND 0) 0 = true ∧
      -- a boundary at which a step of the grain count falls leaves the dispatch to the step
      (s.chain.stepPend = none → s.cues.Pairwise (fun a b => a.due ≤ b.due) → ∀ q ∈ t.cues, t.clock.grain < q.due) ∧
      t.part = s.part ∧ t.pending = s.pending) ∧
    (∀ p, s.clock.pllLock = true → s.tracker.running.find? (fun p => decide (p.done ≤ s.clock.grain)) = some p →
      ∀ pos : Fin 12, p.pos = pos → ∃ t, exec (.pitchComplete pos p.held) s = .next t ∧
        t.get2 TIME.PSTARTLO.PSLO TIME.PSTARTHI.PSHI = p.start / 2 ^ 32 % 2 ^ 64 ∧
        t.get TIME.PSTARTFR.PSFR = p.start % 2 ^ 32 ∧ t.get TIME.PLEN.PLEN = p.plen % 2 ^ 32 ∧
        t.on TIME.TRK.HELD = p.held ∧
        t.get2 TIME.PITCHLO.PLO (TIME.PITCHHI.PHI.at 1) =
          (s.get2 TIME.PITCHLO.PLO (TIME.PITCHHI.PHI.at 1) + 1) % 2 ^ 64 ∧
        t.tracker.running = s.tracker.running.erase p ∧ t.tracker.last = some p ∧ t.bit (IRQ.SPEND.PEND 0) 1 = true ∧
        t.clock = s.clock ∧ t.mem = s.mem ∧ t.cues = s.cues ∧ t.lanes = s.lanes ∧ t.slots = s.slots) ∧
    (∀ bulk, s.tracker.blockDue = true → ∃ t, exec (.blockBoundary bulk) s = .next t ∧
      t.tracker.blockDue = false ∧ t.tracker.n60 = s.on TIME.CTRL.NOM60 ∧ t.eff TIME.CTRL.NOM60 = s.get TIME.CTRL.NOM60 ∧
      t.get PWR.BULK.V = bulk.toNat % 2 ^ PWR.BULK.V.w ∧ t.bit (IRQ.SPEND.PEND 0) 2 = true ∧ .block ∈ t.jrnl.due ∧
      (s.pwr.absence = true → t.cues = [] ∧ t.on PWR.STATE.HOSTABS = true ∧ t.pwr.absence = false) ∧
      t.clock = s.clock ∧ t.part = s.part ∧ t.pending = s.pending)

/-- From s to m, the update that waits for the standby's mirror has been taken (R247): the words of the store log stand in its
memory, its contexts are the selected ones where they came too, and nothing else has changed. -/
def Sys2Proof.Claims.MirrorTaken (s m : State) : Prop :=
  (s.rope.mirror = none → m = s) ∧
  ∀ u, s.rope.mirror = some u → m.rope = { s.rope with mirror := none } ∧
    (∀ e, u.log.getLast? = some e → m.word (0x10580000 + u.lane * 0x30000 + e.1) = e.2) ∧
    (∀ a, (∀ e ∈ u.log, a < 0x10580000 + u.lane * 0x30000 + e.1 ∨ 0x10580000 + u.lane * 0x30000 + e.1 + 4 ≤ a) →
      m.byte a = s.byte a) ∧
    (u.ctx = none → m.lanes = s.lanes) ∧
    (∀ x, u.ctx = some x → ∀ k : Fin 5, m.lane k = if k = Fin.ofNat 5 u.lane then
      { s.lane k with g := x[0], p := x[1], snapG := x[2], snapP := x[3] } else s.lane k) ∧
    Same [.mem, .lanes, .rope] [] s m

/-- R230, R238–R241, R247, R250–R254: the events of lanes and cue programs: a lane's start in a grain, the standby's
recomputation, the vote that replaces a loser, the end of a rebuild, the sections of a set, a cue program's start, and the
retirement of a lane from its decision to its commitment. -/
def Sys2Proof.Claims.LaneEvents : Prop :=
  ∀ (s : State) (n : Fin 5), s.power = .on →
    let L := s.lane n
    let alone := fun (t : State) => ∀ m, m ≠ n → t.lane m = s.lane m
    -- the lane window opens at phase 384 of a grain of 6400 cycles
    (s.clock.pllLock = true → s.laneDue n = true → ∃ m t, exec (.grainProgramStart n) s = .next t ∧ Claims.MirrorTaken s m ∧
      let L := m.lane n
      (∀ k, k ≠ n → t.lane k = m.lane k) ∧ t.clock.phase = max s.clock.phase (s.clock.glen - 6016) ∧
      (∀ i, L.imgG = some i → let c : Context := ⟨{ L.g.bank with fl := 0 }, imgStart i, []⟩
        t.lane n = { L with ranAt := s.clock.grain + 1, cur := some .grain, sig := [], g := c, snapG := c }) ∧
      (∀ i, L.imgG = none → L.imgP = some i → L.pitchOn = true →
        t.lane n = { L with ranAt := s.clock.grain + 1, cur := some .pitch, sliceLeft := imgSlice i, sig := [] }) ∧
      Same [.lanes, .clock] [] m t) ∧
    (s.clock.pllLock = true → s.standby = some n → s.pairDisagrees = true → s.rope.recomputing = false →
      s.on LEASE.ROPE.SOLO = false → L.ready = true → ∃ m t, exec .standbyRecompute s = .next t ∧ Claims.MirrorTaken s m ∧
        (∀ k, k ≠ n → t.lane k = m.lane k) ∧
        t.clock.phase = max s.clock.phase 3340 ∧ t.rope = { m.rope with recomputing := true } ∧
        t.lane n = (m.lane n).beginGrain s.clock.grain ∧ Same [.lanes, .clock, .rope] [] m t) ∧
    (s.clock.pllLock = true → s.rope.voted = false → ∃ t, exec .voteTail s = .next t ∧
      t.clock.phase = max s.clock.phase 6296 ∧ t.rope.voted = true ∧ t.rope.recomputing = false ∧
      (∀ m ∈ s.ropedLanes, (t.lane m).outQ = [] ∧ (t.lane m).outIncs = [] ∧ (t.lane m).runs = [] ∧ (t.lane m).log = []) ∧
      -- the member that agrees with the standby stays; the standby has the other's place from the next grain on
      (s.standby = some n → s.rope.recomputing = true → s.on LEASE.ROPE.SOLO = false → s.pairDisagrees = true →
        let swap := fun (stays goes : Fin 5) =>
          t.rope.roles = some (min stays.val n.val, max stays.val n.val, goes.val) ∧
          t.on LEASE.ROPE.REBUILD = true ∧ t.on LEASE.ROPE.NOSTBY = true ∧ t.rope.copyAt = some (s.clock.grain + 257)
        (runsAgree L.runs (s.lane s.firstLane).runs = true → swap s.firstLane s.secondLane) ∧
        (runsAgree L.runs (s.lane s.firstLane).runs = false → runsAgree L.runs (s.lane s.secondLane).runs = true →
          swap s.secondLane s.firstLane))) ∧
    (∀ c, s.rope.copyAt = some c → c + 768 ≤ s.clock.grain → ∃ t, exec .standbyRebuildEnd s = .next t ∧
      t.on LEASE.ROPE.REBUILD = false ∧ t.on LEASE.ROPE.NOSTBY = false ∧ t.rope = { s.rope with copyAt := none } ∧
      Same [.rope] [LEASE.ROPE.REBUILD, LEASE.ROPE.NOSTBY] s t) ∧
    (L.imgG.isSome ∨ L.imgP.isSome → L.prot = [] → 0 < L.startAt → L.startAt ≤ s.clock.grain →
      ∃ t, exec (.installSectionsDone n) s = .next t ∧ alone t ∧ t.lane n = { L with prot := codeRanges L.imgG L.imgP } ∧
        Same [.lanes, .mem, .access] [ACCESS.MCNT.CNT] s t) ∧
    (bitOf (s.get SYS.LANE.INSVC) n = true → s.retiringLane n = false →
      ∃ t d, exec (.laneSelftestFail n) s = .next t ∧ t.second = s.second ++ [⟨.retire (.lane n), d⟩] ∧
        s.clock.now + 1 ≤ d ∧ d ≤ s.clock.now + 255 ∧ Same [.second, .free] [] s t) ∧
    (∀ rest, s.portHeld = false → s.retiring = .lane n :: rest → ∃ t, exec .laneRetireCommit s = .next t ∧
      t.bit SYS.LANE.INSVC n = false ∧ t.retiring = rest ∧ t.bit (IRQ.SPEND.PEND 1) 9 = true ∧
      (s.inPair n = false → t.lane n = Lane.zero) ∧ (s.get SYS.LANE.STBY = n.val → t.get SYS.LANE.STBY = 7) ∧
      (∀ x : Fin 12, s.get (LEASE.HOLD.STATE x) = 1 → s.get (LEASE.HOLD.HOLDER x) = n.val →
        t.get (LEASE.HOLD.STATE x) = 2) ∧
      t.clock = s.clock ∧ t.cores = s.cores ∧ t.tracker = s.tracker ∧ t.pending = s.pending) ∧
    (∀ (c : Fin 2) k rest, let K := s.core c
      K.launch = k :: rest → K.halted = false → s.inHandler c = false → (∀ j, K.run ≠ .cueProg j) →
      ∃ t, exec (.cueProgramStart c) s = .next t ∧ (t.core c).run = .cueProg k ∧ (t.core c).launch = rest ∧
        (t.core c).bank = { Bank.zero with s := (Bank.zero.s.set 1 (BitVec.ofNat 32 s.clock.grain)).set 2 (BitVec.ofNat 32 k) } ∧
        (t.core c).loopsBase = [] ∧ (t.core c).waiting = false ∧
        (∀ i, s.prog (0x10 + k) = some i → (t.core c).pc = imgStart i) ∧
        (K.run = .service → (t.core c).saved = some ⟨K.bank, K.shadow, K.pc, K.loopsBase, K.waiting⟩) ∧
        (∀ d, d ≠ c → t.core d = s.core d) ∧ Same [.cores] [] s t)

/-- R257, R258, R509: a lease whose term has run out is revoked with fault 0x21 and enters rollback; a rollback that is done
frees the resource or gives it to the supervisor; one that is overdue makes the module decide a reset of kind 6. -/
def Sys2Proof.Claims.LeaseEvents : Prop :=
  ∀ (s : State) (x : Fin 12), s.power = .on →
    let who := s.get (LEASE.HOLD.HOLDER x)
    (s.get (LEASE.HOLD.STATE x) = 1 → who ≠ 0x10 → s.leases[x].expires ≤ s.clock.now →
      ∃ t, exec (.leaseExpiry x) s = .next t ∧ t.get (LEASE.HOLD.STATE x) = 2 ∧ t.get (LEASE.HOLD.HOLDER x) = 0xFF ∧
        t.get LEASE.LASTREV.REASON = 0 ∧ t.get LEASE.LASTREV.HOLDER = who % 256 ∧ t.get LEASE.LASTREV.RES = x.val ∧
        t.leases[x].rollAt = s.clock.now ∧ who ∈ t.leases[x].lost ∧ Arrived 0x37 s t ∧
        (s.on SYS.FAULT.VALID = false → t.get SYS.FAULT.CODE = 0x21 ∧ t.get SYS.FAULT.UNIT = leaseUnit x) ∧
        t.clock = s.clock ∧ t.lanes = s.lanes ∧ t.cores = s.cores ∧ t.slots = s.slots ∧
        -- a glass update that ends leaves its balance in always-on SRAM
        (x.val ≠ 4 → t.mem = s.mem) ∧ (∀ a, a < 0x2000B000 ∨ 0x2000B400 ≤ a → t.byte a = s.byte a) ∧
        ∀ y, y ≠ x → t.leases[y] = s.leases[y]) ∧
    (s.get (LEASE.HOLD.STATE x) = 2 → s.undoing x = false → ∃ t, exec (.leaseRollbackDone x) s = .next t ∧
      (s.on (LEASE.HOLD.SUPWAIT x) = true → t.get (LEASE.HOLD.STATE x) = 1 ∧ t.get (LEASE.HOLD.HOLDER x) = 0x10) ∧
      (s.on (LEASE.HOLD.SUPWAIT x) = false → t.get (LEASE.HOLD.STATE x) = 0 ∧ t.get (LEASE.HOLD.HOLDER x) = 0xFF) ∧
      t.on (LEASE.HOLD.SUPWAIT x) = false ∧
      (x.val ≠ 4 → Same [] [LEASE.HOLD.STATE x, LEASE.HOLD.HOLDER x, LEASE.HOLD.SUPWAIT x] s t) ∧
      -- the glass goes on with the update that waits, for whose permit the module asks where it is its own
      Frame [.glass, .jrnl, .pwr, .free] (fun f => f ∈ [LEASE.HOLD.STATE x, LEASE.HOLD.HOLDER x, LEASE.HOLD.SUPWAIT x] ∨
        f.unit = 3) s t) ∧
    (s.get (LEASE.HOLD.STATE x) = 2 → s.leases[x].rollAt + 2 * s.rollBound x ≤ s.clock.now →
      ∃ t, exec (.leaseRollbackOverdue x) s = .next t ∧
        (s.pwr.reset = none → t.pwr.reset = some ⟨6, s.clock.grain⟩ ∧ .prereset ∈ t.jrnl.due) ∧
        (s.pwr.reset.isSome = true → t = s) ∧ t.clock = s.clock ∧ t.mem = s.mem ∧ t.cores = s.cores)

/-- Both: `Claims.LaneEvents` and `Claims.LeaseEvents`. It rests on the model's choices in log entries 1, 17 and 24. -/
def Obligations.LaneAndLeaseEvents : Prop := Claims.LaneEvents ∧ Claims.LeaseEvents

/-- R113, R117, R119–R122, R126, R128, R129, R137, R470: the commands of the quads: overload, the spare's settling and
traverse, a request for Stride, an open-wire test, the second of two decisions on a retirement, and its commitment. -/
def Sys2Proof.Claims.QuadCommands : Prop :=
  ∀ (s : State) (q : Fin 4), s.power = .on →
    let Q := s.quads[q]
    (s.part.hasQuad q = true →
      (∀ (k : Fin 4) (which : Fin 3),
        let f := match which with | 0 => QUAD.CHST.OVL0 q k | 1 => QUAD.CHST.OVL1 q k | 2 => QUAD.CHST.OVLS q k
        let core := match which with | 0 => coreNo q k 0 | 1 => coreNo q k 1 | 2 => 32 + q.val
        -- the bit is set, the trip is kept for the grain's words, and the pitch counts the core as tripped
        ∃ t, exec (.overloadTrip q k which) s = .next t ∧ t.on f = true ∧
          t.streams.front.trips = s.streams.front.trips ++ [(core, min 399 (s.clock.phase / 16))] ∧
          t.tripped core = true ∧ (∀ n, n ≠ core → t.tripped n = s.tripped n) ∧
          t.streams = { s.streams with front := { s.streams.front with
            trips := t.streams.front.trips, tripped := t.streams.front.tripped } } ∧ Same [.streams] [f] s t) ∧
      (s.get (QUAD.STATUS.SPAT q) < 8 → Q.connected + 64 ≤ s.clock.grain →
        exec (.spareSettled q) s = .next (s.setQuad q { Q with settled := true })) ∧
      (let result := s.dwellResult q Q
       s.get (QUAD.STATUS.SPUSE q) = 0 → Q.dwell = 0 → ∀ pos : Fin 8, Q.pos = pos →
        ∃ t, exec (.traverseDwellEnd q pos) s = .next t ∧
        t.quads[q].pos = (Q.pos + 1) % (if s.part.big then 8 else 4) ∧
        t.quads[q].dwell = (if 4 ≤ t.quads[q].pos then s.get (QUAD.DWELL.IDWELL q) else s.get (QUAD.DWELL.DWELL q)) ∧
        t.quads[q].dwSum = 0 ∧ t.quads[q].dwN = 0 ∧
        (Q.pos = 4 → t.get (QUAD.IREF.DEV q) = wrapN 16 result ∧ t.on (QUAD.IREF.VALID q) = true) ∧
        (Q.pos = 5 → t.get (QUAD.IAVDD.MV q) = wrapN 16 result ∧ t.on (QUAD.IAVDD.VALID q) = true) ∧
        (Q.pos = 6 → t.get (QUAD.ITEMP.T q) = wrapN 16 result ∧ t.on (QUAD.ITEMP.VALID q) = true) ∧
        (Q.pos = 7 → t.get (QUAD.IZERO.OFS q) = wrapN 16 result ∧ t.on (QUAD.IZERO.VALID q) = true) ∧
        (∀ r, r ≠ q → t.quads[r] = s.quads[r]) ∧
        Same [.quads] [QUAD.IREF.DEV q, QUAD.IREF.VALID q, QUAD.IAVDD.MV q, QUAD.IAVDD.VALID q, QUAD.ITEMP.T q,
          QUAD.ITEMP.VALID q, QUAD.IZERO.OFS q, QUAD.IZERO.VALID q] s t) ∧
      (∀ v : Word,
        let sch := v.toNat / 2 % 4
        let refused := (s.on (QUAD.MODE.STRIDE q) = true ∧ sch ≠ s.get (QUAD.MODE.SCH q)) ∨
          (v.getLsbD 0 = true ∧ s.on (QUAD.MODE.STRIDE q) = false ∧ (s.on (QUAD.STATUS.NOSPARE q) = true ∨
            Q.summons.isSome = true ∨ s.get (FILT.CFG.ORDER (slotChan (4 * q + sch))) ≠ 5))
        ∃ t, exec (.strideRequest q v) s = .next t ∧
          (refused → t.on (QUAD.STATUS.STRIDEREF q) = true ∧
            (s.on (QUAD.STATUS.STRIDEREF q) = false → Arrived 0x1B s t) ∧
            Same [] (QUAD.STATUS.STRIDEREF q :: arrivalOf 0x1B) s t) ∧
          (¬ refused → t.on (QUAD.MODE.STRIDE q) = v.getLsbD 0 ∧ t.get (QUAD.MODE.SCH q) = sch ∧
            t.on (QUAD.MODE.TRAVEN q) = v.getLsbD 4 ∧
            Same [] [QUAD.MODE.STRIDE q, QUAD.MODE.SCH q, QUAD.MODE.TRAVEN q] s t)) ∧
      (Q.ow.isSome = true ∨ Q.owGo = true → exec (.owTestGo q) s = .next s) ∧
      (Q.ow = none → Q.owGo = false → ∃ t, exec (.owTestGo q) s = .next t ∧ t.quads = s.quads.set q { Q with owGo := true } ∧
        (∀ k : Fin 4, bitOf (s.get (QUAD.OWCTL.MASK q)) k = true → t.on (QUAD.OWRES.DONE q k) = false) ∧
        Same [.quads] (((List.range 4).filter (fun k => bitOf (s.get (QUAD.OWCTL.MASK q)) k)).map (QUAD.OWRES.DONE q)) s t)) ∧
    (∀ w due rest, s.second = ⟨.retire w, due⟩ :: rest → due ≤ s.clock.now →
      exec (.dualDecisionSecond true) s = .next { s with second := rest, retiring := s.retiring ++ [w] } ∧
      ∃ t, exec (.dualDecisionSecond false) s = .next t ∧ t.on TAMP.STICKY.FI = true ∧ t.second = rest ∧
        .evidence ∈ t.jrnl.due ∧ Arrived 0x42 s t ∧ Same [.second, .jrnl] (TAMP.STICKY.FI :: arrivalOf 0x42) s t) ∧
    (∀ w rest, (match w with | .core r _ _ => r < 4 | .spare r => r < 4 | .lane _ => False) → s.portHeld = false →
      s.retiring = w :: rest → ∃ t, exec .retireCommit s = .next t ∧
      t.retiring = rest ∧ t.changeOver = s.changeOver ++ [w] ∧ t.jrnl.retgen = s.jrnl.retgen + 1 ∧ Arrived 0x1A s t ∧
      (∀ r : Fin 4, w = .spare r → t.on (QUAD.RETIRED.SPRET r) = true ∧ t.on (TRIM.CSTAT.RETIRED (32 + r)) = true) ∧
      (∀ (r k : Fin 4) (j : Fin 2), w = .core r k j →
        t.bit (if j = 0 then QUAD.RETIRED.C0RET r else QUAD.RETIRED.C1RET r) k = true ∧
        t.on (TRIM.CSTAT.RETIRED (2 * slotChan (4 * r + k) + j)) = true) ∧
      Frame [.retiring, .changeOver, .jrnl, .cairn] (fun f => f.unit ∈ [4, 8, 0x10, 0x11, 0x12, 0x13, 0x2C]) s t)

/-- R142, R143: the bitstream clock lost and good again, a stuck bitstream and one out of its range. -/
def Sys2Proof.Claims.BitstreamMonitors : Prop :=
  ∀ s : State, s.power = .on →
    (∀ f : BitVec 18, ∃ t, exec (.bitclkLoss f) s = .next t ∧ t.get BITIN.FMEAS.F = f.toNat ∧
      t.on BITIN.STATUS.REQUAL = true ∧ t.bitMon = { s.bitMon with inRange := false, goodSince := s.clock.grain } ∧
      (t.on BITIN.STATUS.CLKOK = false ∧ t.on BITIN.STATUS.CLKLOST = true ∧
        t.get BITIN.STATUS.VALID = 0 ∧
        (s.get BITIN.LOSSCNT.COUNT + 1 < 2 ^ 31 → t.get BITIN.LOSSCNT.COUNT = s.get BITIN.LOSSCNT.COUNT + 1) ∧
        t.jrnl.staged.length = s.jrnl.staged.length + 1 ∧ Arrived 0x1D s t ∧
        Same [.bitMon, .jrnl] ([BITIN.FMEAS.F, BITIN.STATUS.REQUAL, BITIN.STATUS.CLKOK, BITIN.STATUS.CLKLOST,
          BITIN.STATUS.VALID, BITIN.LOSSCNT.COUNT, BITIN.LOSSCNT.SAT] ++ arrivalOf 0x1D) s t)) ∧
    (s.on BITIN.STATUS.CLKOK = false → s.bitMon.goodSince + 1024 ≤ s.clock.grain →
      ∃ t, exec .bitclkRequalify s = .next t ∧ t.on BITIN.STATUS.CLKOK = true ∧ t.on BITIN.STATUS.REQUAL = false ∧
        t.jrnl.staged.length = s.jrnl.staged.length + 1 ∧ Arrived 0x1D s t ∧
        -- the decimators and the converter of the bitstreams are flushed, and nothing else of the streams changes
        t.streams.front.conv = List.replicate 8 [] ∧ (∀ k, k < 38 → t.streams.front.cics[k]? = s.streams.front.cics[k]?) ∧
        t.streams = { s.streams with front := { s.streams.front with
          cics := t.streams.front.cics, conv := t.streams.front.conv } } ∧
        Same [.jrnl, .streams] ([BITIN.STATUS.CLKOK, BITIN.STATUS.REQUAL] ++ arrivalOf 0x1D) s t) ∧
    ∀ k : Fin 8,
      (s.bit BITIN.CTRL.EN k = true → ∃ t, exec (.bitstreamStuck k) s = .next t ∧ t.bit BITIN.STATUS.STUCK k = true ∧
        t.bitMon = { s.bitMon with stuckEnd := s.bitMon.stuckEnd.set k (s.clock.grain + 65) } ∧
        (s.bit BITIN.STATUS.STUCK k = false → Arrived 0x1E s t) ∧
        Same [.bitMon] (BITIN.STATUS.STUCK :: arrivalOf 0x1E) s t) ∧
      (s.get BITIN.RLIM.RGRAINS ≤ s.bitMon.above.getD k 0 → s.bit BITIN.STATUS.OVR k = false →
        ∃ t, exec (.bitstreamRangeExceed k) s = .next t ∧ t.bit BITIN.STATUS.OVR k = true ∧ Arrived 0x1E s t ∧
          Same [] (BITIN.STATUS.OVR :: arrivalOf 0x1E) s t)

/-- Both: `Claims.QuadCommands` and `Claims.BitstreamMonitors`. It rests on the model's choices in log entries 1, 3, 7, 14,
39 and 53. -/
def Obligations.QuadsAndBitstreams : Prop := Claims.QuadCommands ∧ Claims.BitstreamMonitors


/-- R150, R155, R165–R167, R169: filter configuration, the order to swap banks, writes of bank registers, of which those
of the active bank are ignored, and the coefficient window. -/
def Sys2Proof.Claims.FilterCommands : Prop :=
  ∀ (s : State), s.power = .on →
    let raised := fun (t : State) (f : Fld) => t.on f = true ∧ (s.on f = false → Arrived 0x1F s t) ∧
      Same [] (f :: arrivalOf 0x1F) s t
    (∀ (k : Fin 24) (v : Word),
      (s.part.hasChan k = false → exec (.filtCfgWrite k v) s = .next s) ∧
      (s.part.hasChan k = true → s.cfgBad k v.toNat = true →
        ∃ t, exec (.filtCfgWrite k v) s = .next t ∧ raised t FILT.STATUS.CFGREF) ∧
      (s.part.hasChan k = true → s.cfgBad k v.toNat = false → ∃ t, exec (.filtCfgWrite k v) s = .next t ∧
        t.get (FILT.CFG.ORDER k) = (if v.toNat % 8 ∈ [3, 4, 5] then v.toNat % 8 else 5) ∧
        t.on (FILT.CFG.OPT k) = v.getLsbD 4 ∧ Same [] [FILT.CFG.ORDER k, FILT.CFG.OPT k] s t)) ∧
    (∀ v : Word, let mask := bitsOf 24 (fun k => bitOf v.toNat k && s.part.hasChan k)
      (s.splitsPair mask = true → ∃ t, exec (.filtSwap v) s = .next t ∧ raised t FILT.STATUS.SWAPREF) ∧
      (s.splitsPair mask = false →
        exec (.filtSwap v) s = .next { s with streams := { s.streams with swap := some (mask, v.toNat / 2 ^ 25 % 2) } })) ∧
    (∀ (k : Fin 24) (idx : Fin 256) (v : Word), s.part.hasChan k = true →
      let B := s.bit FILT.ACTIVE.B k
      let leak := max 10 (min 25 (v.toNat / 8 % 32))
      let ch := fun (l i d : Fld) => ∃ t, exec (.activeBankWrite false idx v) s = .next t ∧ t.get l = leak ∧
        t.on i = (v.getLsbD 2 && !isVoltage k) ∧ t.get d = v.toNat % 4 ∧ Same [] [l, i, d] s t
      let word := fun (r : Bool) (f : Fld) => ∃ t, exec (.activeBankWrite r idx v) s = .next t ∧ t.get f = v.toNat ∧
        Same [] [f] s t
      -- bank A stands at the first index of each pair, bank B 32 above
      (idx.val = 0x40 + k → (B = true → ch (FILT.CHA.LEAK k) (FILT.CHA.INTEN k) (FILT.CHA.DRPSET k)) ∧
        (B = false → ∃ t, exec (.activeBankWrite false idx v) s = .next t ∧ raised t FILT.STATUS.ACTWR)) ∧
      (idx.val = 0x60 + k → (B = false → ch (FILT.CHB.LEAK k) (FILT.CHB.INTEN k) (FILT.CHB.DRPSET k)) ∧
        (B = true → ∃ t, exec (.activeBankWrite false idx v) s = .next t ∧ raised t FILT.STATUS.ACTWR)) ∧
      (idx.val = 0x80 + k → B = true → word false (FILT.IGA.K k)) ∧
      (idx.val = 0xA0 + k → B = false → word false (FILT.IGB.K k)) ∧
      (idx.val = 0x20 + k → (B = true → word true (RSMP.PHA.PH k)) ∧
        (B = false → ∃ t, exec (.activeBankWrite true idx v) s = .next t ∧ raised t RSMP.STATUS.ACTWR)) ∧
      (idx.val = 0x40 + k → B = false → word true (RSMP.PHB.PH k))) ∧
    (∀ (idx : Fin 256) (v : Word), (idx.val < 0x40 ∨ 0xC0 ≤ idx.val ∨ 24 ≤ idx.val % 32) →
      exec (.activeBankWrite false idx v) s = .refused .illFormed) ∧
    (∀ v : Word,
      let place := s.get FILT.CADDR.BANK * 512 + s.get FILT.CADDR.SET * 128 + s.get FILT.CADDR.TAP
      let taps := fun (t : State) => t.get FILT.CADDR.TAP = (s.get FILT.CADDR.TAP + 1) % 128
      (∃ t, exec (.coefDataAccess false v) s = .next t ∧ taps t ∧
        t.readData = BitVec.ofNat 32 (s.get (FILT.CDATA.COEF place)) ∧ Same [.readData] [FILT.CADDR.TAP] s t) ∧
      (∃ t, exec (.coefDataAccess true v) s = .next t ∧ taps t ∧
        (s.setActive = false → t.get (FILT.CDATA.COEF place) = v.toNat % 2 ^ 24 ∧
          Same [] [FILT.CDATA.COEF place, FILT.CADDR.TAP] s t) ∧
        (s.setActive = true → t.on FILT.STATUS.ACTWR = true ∧
          Same [] ([FILT.STATUS.ACTWR, FILT.CADDR.TAP] ++ arrivalOf 0x1F) s t)))

/-- R268, R274, R275: a slot's binding is refused whole or stored, to take effect at the boundary; a change of the tariff
records its grain and an event with its cause. -/
def Sys2Proof.Claims.BindingsAndTariff : Prop :=
  ∀ (s : State), s.power = .on →
    (∀ (p : Proc) (idx : Fin 3) (v : Word),
      let n := s.nrgSlot (s.copyOf p)
      let bad := 64 ≤ n.val ∨ (idx = 0 ∧ s.bindBad n v.toNat = true)
      let all := [NRG.BIND.QTY n, NRG.BIND.MODE n, NRG.BIND.WT n, NRG.BIND.TEN n, NRG.BIND.QD n, NRG.BIND.OWNER n]
      ∃ t, exec (.nrgBindWrite p idx v) s = .next t ∧
        (bad → t.on NRG.STATUS.BINDREF = true ∧ Same [] [NRG.STATUS.BINDREF] s t) ∧
        (¬ bad → t.slots = s.slots.set n { s.slots[n] with newBind := true } ∧
          (idx = 0 → t.get (NRG.BIND.QTY n) = v.toNat / 2 ^ 24 ∧ t.get (NRG.BIND.MODE n) = v.toNat / 2 ^ 22 % 4 ∧
            t.on (NRG.BIND.WT n) = v.getLsbD 21 ∧ t.on (NRG.BIND.TEN n) = v.getLsbD 20 ∧ Same [.slots] all s t) ∧
          (idx = 1 → t.get (NRG.KLO.KFR n) = v.toNat ∧ Same [.slots] [NRG.KLO.KFR n] s t) ∧
          (idx = 2 → t.get (NRG.KHI.KINT n) = v.toNat ∧ Same [.slots] [NRG.KHI.KINT n] s t))) ∧
    (∀ (new : BitVec 3) (byCue : Bool),
      let old := s.get NRG.TARIFF.T
      (old = new.toNat → exec (.tariffWrite new byCue) s = .next s) ∧
      (old ≠ new.toNat → ∃ t r, exec (.tariffWrite new byCue) s = .next t ∧ t.get NRG.TARIFF.T = new.toNat ∧
        t.get2 NRG.TSWLO.GLO NRG.TSWHI.GHI = s.clock.grain % 2 ^ 64 ∧
        t.jrnl = { s.jrnl with staged := s.jrnl.staged ++ [r] } ∧ r.type = 2 ∧ r.grain = s.clock.grain ∧
        r.body.take 7 = [0x20, 1, 0, 0, BitVec.ofNat 8 old, BitVec.ofNat 8 new.toNat, if byCue then 0 else 1] ∧
        Same [.jrnl] [NRG.TARIFF.T, NRG.TSWLO.GLO, NRG.TSWHI.GHI] s t))

/-- Both: `Claims.FilterCommands` and `Claims.BindingsAndTariff`. It rests on the model's choices in log entry 16. -/
def Obligations.FiltersBindingsTariff : Prop := Claims.FilterCommands ∧ Claims.BindingsAndTariff

/-- R285, R287, R290, R292, R293: a pulse output at a boundary and only there, its source and constant, and the export
watch. It rests on the model's choices in log entries 1, 14 and 16. -/
def Obligations.PulsesAndExportWatch : Prop :=
  ∀ (s : State), s.power = .on →
    let g := s.clock.grain
    -- the level of HWATCH: POL in the tripped state, while not enabled, while stale
    let drives := fun (t : State) => t.watch.hwatch =
      (if t.watch.tripped || !s.on PULSE.EWCTRL.EN || t.watch.stale then s.on PULSE.EWCTRL.POL else !s.on PULSE.EWCTRL.POL) ∧
      (t.watch.hwatch ≠ s.watch.hwatch → t.get2 PULSE.EWCHGLO.GLO PULSE.EWCHGHI.GHI = g % 2 ^ 64)
    (∀ n : Fin 4,
      let x := s.pulse[n]
      let backlog := s.get (PULSE.BLOG.COUNT n)
      let starts := x.freeAt ≤ g ∧ backlog ≠ 0 ∧ x.srcOk = true ∧ x.constOk = true ∧ s.get (PULSE.SRC.SLOT n) < 64 ∧
        s.get (NRG.BIND.MODE (s.get (PULSE.SRC.SLOT n))) ≠ 0
      let since : Nat := match x.start with | none => 128 | some t => g - t
      let h := if x.reqNow < backlog then 8 else if 128 ≤ since then 64 else since / 2
      (¬ (s.clock.pllLock = true ∧ s.clock.phase = 0) → exec (.pulseEnd n) s = .next s) ∧
      (s.clock.pllLock = true → s.clock.phase = 0 → ∃ t, exec (.pulseEnd n) s = .next t ∧
        (¬ starts → t.pulse = s.pulse.set n { x with high := x.high && decide (g < x.highEnd) } ∧
          t.bit PULSE.STATUS.BUSY n = decide (g < x.freeAt) ∧ Same [.pulse] [PULSE.STATUS.BUSY] s t) ∧
        (starts → t.pulse = s.pulse.set n { x with start := some g, highEnd := g + h, freeAt := g + 2 * h, high := true } ∧
          t.bit PULSE.STATUS.BUSY n = true ∧ t.get (PULSE.BLOG.COUNT n) = (backlog - 1) % 2 ^ 16 ∧
          Same [.pulse] [PULSE.STATUS.BUSY, PULSE.BLOG.COUNT n] s t))) ∧
    (∀ (n : Fin 4) (v : Word),
      let x := s.pulse[n]
      let slot := if 64 ≤ v.toNat % 128 then 127 else v.toNat % 128
      let tsel := min 8 (v.toNat / 256 % 16)
      let c := max 1 (min 1000000 (v.toNat % 2 ^ 20))
      -- a different source or constant clears what has been gathered
      let kept := fun (t : State) (same : Prop) => t.pulse[n].start = none ∧
        (same → t.pulse[n].acc = x.acc ∧ t.get (PULSE.BLOG.COUNT n) = s.get (PULSE.BLOG.COUNT n)) ∧
        (¬ same → t.pulse[n].acc = 0 ∧ t.get (PULSE.BLOG.COUNT n) = 0) ∧ ∀ m, m ≠ n → t.pulse[m] = s.pulse[m]
      (∃ t, exec (.pulseSourceWrite n true v) s = .next t ∧ t.get (PULSE.SRC.SLOT n) = slot ∧
        t.get (PULSE.SRC.TSEL n) = tsel ∧ t.pulse[n].srcOk = true ∧ kept t (slot + 256 * tsel = x.src) ∧
        (slot < 64 → s.get (NRG.BIND.MODE slot) = 0 → t.bit PULSE.STATUS.SRCREF n = true) ∧
        Same [.pulse] [PULSE.SRC.SLOT n, PULSE.SRC.TSEL n, PULSE.BLOG.COUNT n, PULSE.STATUS.SRCREF] s t) ∧
      (∃ t, exec (.pulseSourceWrite n false v) s = .next t ∧ t.get (PULSE.CONST.C n) = c ∧ t.pulse[n].constOk = true ∧
        kept t (c = x.const) ∧ Same [.pulse] [PULSE.CONST.C n, PULSE.BLOG.COUNT n] s t)) ∧
    (∀ v : Word,
      let trip := sextN 32 (s.get PULSE.EWTRIP.TRIP)
      let hyst : Int := s.get PULSE.EWHYST.HYST
      let up := s.on PULSE.EWCTRL.DIR
      ∃ t, exec (.ewvalWrite v) s = .next t ∧ t.get PULSE.EWVAL.VAL = v.toNat ∧ t.watch.stale = false ∧
        t.watch.since = g + 1 ∧ drives t ∧
        (s.watch.tripped = false → (if up then trip < v.toInt else v.toInt < trip) → t.watch.tripped = true ∧
          t.on PULSE.STATUS.EWTRIP = true ∧ Arrived 0x24 s t) ∧
        (s.watch.tripped = false → ¬ (if up then trip < v.toInt else v.toInt < trip) → t.watch.tripped = false) ∧
        (s.watch.tripped = true → (if up then v.toInt ≤ trip - hyst else trip + hyst ≤ v.toInt) →
          t.watch.tripped = false ∧ t.on PULSE.STATUS.EWTRIP = false ∧ Arrived 0x24 s t) ∧
        (s.watch.tripped = true → ¬ (if up then v.toInt ≤ trip - hyst else trip + hyst ≤ v.toInt) →
          t.watch.tripped = true) ∧
        Same [.watch] ([PULSE.EWVAL.VAL, PULSE.STATUS.EWTRIP, PULSE.EWTRIPS.COUNT, PULSE.EWTRIPS.SAT, PULSE.EWCHGLO.GLO,
          PULSE.EWCHGHI.GHI] ++ arrivalOf 0x24) s t) ∧
    (s.on PULSE.EWCTRL.EN = true → s.watch.stale = false → s.watch.since + s.get PULSE.EWCTRL.STALE ≤ g →
      ∃ t, exec .ewStale s = .next t ∧ t.watch.stale = true ∧ t.on PULSE.STATUS.EWSTALE = true ∧ drives t ∧
        (s.on PULSE.STATUS.EWSTALE = false → Arrived 0x25 s t) ∧
        Same [.watch] ([PULSE.STATUS.EWSTALE, PULSE.EWCHGLO.GLO, PULSE.EWCHGHI.GHI] ++ arrivalOf 0x25) s t)

namespace Sys2Proof.Claims

/-- A register access of p acts at once: p runs, and is a core or a lane outside the roped set (R195). -/
def AtOnce (s : State) (p : Proc) : Prop := s.runs p = true ∧ ∀ n, p = .lane n → s.roped n = false

end Sys2Proof.Claims

/-- R298, R302, R307, R311, R314: the 10-s frequency, the block results posted with their grain and source, the
supraharmonic window, and the writes of the thresholds, which hold together or are refused, and of the declared voltage. It
rests on the model's choices in log entries 3, 7, 14, 41 and 54. -/
def Obligations.PowerQualityCommands : Prop :=
  ∀ (s : State), s.power = .on →
    (s.pq.f10End ≠ 0 → s.pq.f10End ≤ s.clock.grain →
      let stop := s.pq.f10End * 2 ^ 32
      let ending := s.tracker.running.map (fun p => (p.start, p.start + 1024 * p.plen, p.held))
      let within := (s.pq.f10 ++ ending).filter (fun e => decide (stop - 320000 * 2 ^ 32 ≤ e.1 ∧ e.2.1 ≤ stop))
      ∃ t, exec .f10WindowEnd s = .next t ∧ t.pq.f10End = s.nextTen ∧ t.pq.f10Unsync = !s.on TIME.UTCSTAT.VALID ∧
        (within = [] → Same [.pq] [] s t) ∧
        (within ≠ [] → t.on PQ.F10STAT.VALID = true ∧ (t.on PQ.F10STAT.HELD = true ↔ ∃ e ∈ within, e.2.2 = true) ∧
          t.on PQ.F10STAT.UNSYNC = s.pq.f10Unsync ∧
          t.get2 PQ.F10GLO.GLO PQ.F10GHI.GHI = s.pq.f10End % 2 ^ 64) ∧
        Same [.pq] [PQ.F10.F, PQ.F10STAT.VALID, PQ.F10STAT.HELD, PQ.F10STAT.UNSYNC, PQ.F10GLO.GLO, PQ.F10GHI.GHI] s t) ∧
    (∀ b bs i is, s.pq.ready = b :: bs → s.pq.infos = i :: is → s.postable b.2.2 = false →
      exec .pqBlockPost s = .next s) ∧
    (∀ b bs i is, s.pq.ready = b :: bs → s.pq.infos = i :: is → s.postable b.2.2 = true → ∃ t,
      exec .pqBlockPost s = .next t ∧ t.pq.ready = bs ∧ t.pq.infos = is ∧
      t.get2 PQ.BLKLO.GLO PQ.BLKHI.GHI = i.grain % 2 ^ 64 ∧ t.bit (IRQ.SPEND.PEND 0) 22 = true ∧
      t.clock = s.clock ∧ t.lanes = s.lanes ∧ t.cores = s.cores ∧ t.slots = s.slots ∧ t.streams = s.streams) ∧
    (∀ w, s.pq.ended = some w → ∃ t l, exec .supraWindowEnd s = .next t ∧ t.pq.ended = none ∧
      t.pq.supra = s.pq.supra ++ [(w.2.2, l)] ∧
      (∀ q : Fin 4,
        ((w.1.getD q []).length = 102400 → ∃ r, l.getD q none = some r ∧ r.bands.length = 740 ∧
          r.chan = slotChan (4 * q + (s.quadAt q).strideK) ∧ r.settling = bitOf w.2.1 q) ∧
        ((w.1.getD q []).length ≠ 102400 → l.getD q none = none)) ∧ Same [.pq] [] s t) ∧
    (∀ v : Word,
      let lo := v.toNat % 2 ^ 16
      let hi := v.toNat / 2 ^ 16
      let ok := fun (dip swell int hyst : Nat) => int + hyst < dip ∧ dip + hyst ≤ 10000 ∧ 10000 + hyst ≤ swell
      let refused := fun (c : Instr) => ∃ t, exec c s = .next t ∧ t.on PQ.STATUS.THRREF = true ∧
        Same [] [PQ.STATUS.THRREF] s t
      (ok lo hi (s.get PQ.THR2.INT) (s.get PQ.THR2.HYST) → ∃ t, exec (.pqThrWrite 0 v) s = .next t ∧
        t.get PQ.THR1.DIP = lo ∧ t.get PQ.THR1.SWELL = hi ∧ Same [] [PQ.THR1.DIP, PQ.THR1.SWELL] s t) ∧
      (¬ ok lo hi (s.get PQ.THR2.INT) (s.get PQ.THR2.HYST) → refused (.pqThrWrite 0 v)) ∧
      (ok (s.get PQ.THR1.DIP) (s.get PQ.THR1.SWELL) lo hi → ∃ t, exec (.pqThrWrite 1 v) s = .next t ∧
        t.get PQ.THR2.INT = lo ∧ t.get PQ.THR2.HYST = hi ∧ Same [] [PQ.THR2.INT, PQ.THR2.HYST] s t) ∧
      (¬ ok (s.get PQ.THR1.DIP) (s.get PQ.THR1.SWELL) lo hi → refused (.pqThrWrite 1 v)) ∧
      (∃ t, exec (.udinWrite 0 v) s = .next t ∧ t.get PQ.UDINA.UDIN = v.toNat ∧
        (v ≠ 0 → t.on PQ.STATUS.LEARNA = false) ∧ Same [] [PQ.UDINA.UDIN, PQ.STATUS.LEARNA] s t) ∧
      (s.part.big = true → ∃ t, exec (.udinWrite 1 v) s = .next t ∧ t.get PQ.UDINB.UDIN = v.toNat ∧
        (v ≠ 0 → t.on PQ.STATUS.LEARNB = false) ∧ Same [] [PQ.UDINB.UDIN, PQ.STATUS.LEARNB] s t) ∧
      (s.part.big = false → exec (.udinWrite 1 v) s = .next s))

/-- R326–R330: the capture: arming, the software trigger, the ring filled and frozen, disarming, and a draw by its holder
with lease and permit, whose parcels of at most 56 frames end it. It rests on the model's choices in log entries 1, 16 and
42. -/
def Obligations.CaptureCommands : Prop :=
  ∀ (s : State), s.power = .on →
    let state := s.get CAPT.STATUS.STATE
    let g := s.clock.grain
    let trig := s.get2 CAPT.TGLO.GLO CAPT.TGHI.GHI
    let first := s.get2 CAPT.FIRSTLO.GLO CAPT.FIRSTHI.GHI
    let pre := s.get CAPT.PRE.PRE
    let post := s.get CAPT.POST.POST
    let bad := s.get PWR.STATE.STATE = 1 ∨ 32000 < pre ∨ 57600 < pre + post ∨ state = 5
    (bad → ∃ t, exec .captArm s = .next t ∧ t.on CAPT.STATUS.ARMREF = true ∧ Same [] [CAPT.STATUS.ARMREF] s t) ∧
    (¬ bad → ∃ t, exec .captArm s = .next t ∧ t.get CAPT.STATUS.STATE = 1 ∧ t.capt.pre = pre ∧ t.capt.post = post ∧
      t.capt.first = g + 1 ∧ t.get CAPT.CAUSE.CAUSE = 0 ∧ t.get CAPT.COUNT.COUNT = 0 ∧ t.get CAPT.DRAWPOS.POS = 0 ∧
      Same [.capt] [CAPT.STATUS.STATE, CAPT.CAUSE.CAUSE, CAPT.STATUS.PRESHORT, CAPT.COUNT.COUNT, CAPT.DRAWPOS.POS] s t) ∧
    (state = 1 ∨ state = 2 → ∃ t, exec .captTrig s = .next t ∧ t.get CAPT.STATUS.STATE = 3 ∧ t.get CAPT.CAUSE.CAUSE = 128 ∧
      t.get2 CAPT.TGLO.GLO CAPT.TGHI.GHI = g % 2 ^ 64 ∧
      (g < s.capt.first + s.capt.pre → t.on CAPT.STATUS.PRESHORT = true ∧
        t.get2 CAPT.FIRSTLO.GLO CAPT.FIRSTHI.GHI = s.capt.first % 2 ^ 64) ∧
      (s.capt.first + s.capt.pre ≤ g → t.on CAPT.STATUS.PRESHORT = false ∧
        t.get2 CAPT.FIRSTLO.GLO CAPT.FIRSTHI.GHI = (g - s.capt.pre) % 2 ^ 64) ∧
      Same [] [CAPT.STATUS.STATE, CAPT.CAUSE.CAUSE, CAPT.STATUS.PRESHORT, CAPT.TGLO.GLO, CAPT.TGHI.GHI, CAPT.FIRSTLO.GLO,
        CAPT.FIRSTHI.GHI] s t) ∧
    (state = 3 → trig = g → ∃ t, exec .captTrig s = .next t ∧ t.bit CAPT.CAUSE.CAUSE 7 = true ∧
      Same [] [CAPT.CAUSE.CAUSE] s t) ∧
    (state ≠ 1 → state ≠ 2 → ¬ (state = 3 ∧ trig = g) → ∃ t, exec .captTrig s = .next t ∧
      (s.get CAPT.MISSED.COUNT + 1 < 2 ^ 31 → t.get CAPT.MISSED.COUNT = s.get CAPT.MISSED.COUNT + 1) ∧
      Same [] [CAPT.MISSED.COUNT, CAPT.MISSED.SAT] s t) ∧
    (state = 5 → exec .captDisarm s = .next s) ∧
    (state ≠ 5 → ∃ t, exec .captDisarm s = .next t ∧ t.get CAPT.STATUS.STATE = 0 ∧ Same [] [CAPT.STATUS.STATE] s t) ∧
    (state = 1 → s.capt.first + s.capt.pre ≤ g + 1 → ∃ t, exec .captPreFilled s = .next t ∧
      t.get CAPT.STATUS.STATE = 2 ∧ Same [] [CAPT.STATUS.STATE] s t) ∧
    (state = 3 → trig + s.capt.post ≤ g + 1 → ∃ t, exec .captFreeze s = .next t ∧ t.get CAPT.STATUS.STATE = 4 ∧
      t.get CAPT.COUNT.COUNT = (trig + s.capt.post - first) % 2 ^ 16 ∧
      (∀ c, c < 24 → t.bit CAPT.MARKS.MARKS c = decide (first < s.capt.marks.getD c 0)) ∧ Arrived 0x29 s t ∧
      Same [] ([CAPT.STATUS.STATE, CAPT.COUNT.COUNT, CAPT.MARKS.MARKS] ++ arrivalOf 0x29) s t) ∧
    (∀ (p : Proc) (v : Word), AtOnce s p →
      let n := v.toNat % 16
      let me := s.holder p
      let good := s.get (LEASE.HOLD.STATE 2) = 1 ∧ s.get (LEASE.HOLD.HOLDER 2) = me ∧ s.get (PERMIT.SLOT.STATE n) = 2 ∧
        s.get (PERMIT.SLOT.HOLDER n) = me ∧ 60 ≤ s.get (PERMIT.SLOT.DRAW n) ∧ state = 4
      (good → ∃ t, exec (.drawGo p v) s = .next t ∧ t.get CAPT.STATUS.STATE = 5 ∧
        t.capt = { s.capt with who := me, permit := n } ∧
        t.get CAPT.DRAWPOS.POS = (if v.getLsbD 9 then 0 else s.get CAPT.DRAWPOS.POS) ∧
        Same [.capt] [CAPT.STATUS.STATE, CAPT.DRAWPOS.POS] s t) ∧
      (¬ good → ∃ t, exec (.drawGo p v) s = .next t ∧ t.on CAPT.STATUS.DRAWREF = true ∧
        Same [] [CAPT.STATUS.DRAWREF] s t)) ∧
    (state = 5 → s.outFull = false →
      let pos := s.get CAPT.DRAWPOS.POS
      let n := min 56 (s.get CAPT.COUNT.COUNT - pos)
      ∃ t, exec .drawParcel s = .next t ∧ t.get CAPT.DRAWPOS.POS = (pos + n) % 2 ^ 16 ∧
        (n ≠ 0 → t.link.outb.length = s.link.outb.length + 1) ∧
        (s.get CAPT.COUNT.COUNT ≤ pos + n → t.get CAPT.STATUS.STATE = 4 ∧ Arrived 0x2A s t) ∧
        (pos + n < s.get CAPT.COUNT.COUNT → t.get CAPT.STATUS.STATE = 5) ∧
        Frame [.link, .free] (fun f => f.unit ∈ [8, 0x25, 0x48]) s t)

namespace Sys2Proof.Claims

/-- p holds lease x (R257). -/
def Leased (s : State) (p : Proc) (x : Nat) : Prop :=
  s.get (LEASE.HOLD.STATE x) = 1 ∧ s.get (LEASE.HOLD.HOLDER x) = s.holder p

/-- Every byte of memory outside [lo, hi) reads as before. -/
def KeptOutside (lo hi : Nat) (s t : State) : Prop := ∀ a, a < lo ∨ hi ≤ a → t.byte a = s.byte a

end Sys2Proof.Claims

/-- R336–R338, R360–R365: a belay committed in always-on SRAM and in the cairn, a segment folded into the carry, the parcels
of the journal, and appends that a program stages under the journal-writer lease. It rests on the model's choices in log
entries 1, 15, 16, 27, 36 and 37. -/
def Obligations.JournalCommands : Prop :=
  ∀ (s : State), s.power = .on →
    (∀ b, s.jrnl.aonPend = some b →
      let h := if genOf (s.half 0) ≤ genOf (s.half 1) then 0 else 1
      ∃ t, exec .aonBelayCommit s = .next t ∧ t.jrnl = { s.jrnl with aonPend := none } ∧
        (∀ i, i < b.bytes.length → t.byte (0x20003000 + 0x3000 * h + i) = b.bytes.getD i 0) ∧
        KeptOutside (0x20003000 + 0x3000 * h) (0x20003000 + 0x3000 * h + b.bytes.length) s t ∧
        t.pulse = s.pulse.map (fun x => { x with held := x.pend }) ∧ Same [.mem, .jrnl, .pulse] [] s t) ∧
    (∀ b, s.jrnl.cairnPend = some b →
      (s.portHeld = true ∨ s.jrnl.covered = false → exec .cairnBelayCommit s = .next s) ∧
      (s.portHeld = false → s.jrnl.covered = true → ∃ t, exec .cairnBelayCommit s = .next t ∧
        t.jrnl = { s.jrnl with cairnPend := none, committed := some b, cseq := b.nextseq } ∧
        (genOf s.cairn.stA ≤ genOf s.cairn.stB → t.cairn = { s.cairn with stA := some b, tornSt := false }) ∧
        (genOf s.cairn.stB < genOf s.cairn.stA → t.cairn = { s.cairn with stB := some b, tornSt := false }) ∧
        (s.jrnl.cseq < b.nextseq → Arrived 0x2D s t) ∧ KeptOutside 0x20002800 0x20003000 s t ∧
        Frame [.jrnl, .cairn, .mem] (fun f => f.unit ∈ [4, 8, 0x28]) s t)) ∧
    (s.jrnl.fold = true → s.jrnl.carryPend = none →
      let l := s.cairn.ring.filter (inSegment s.nextSegment)
      ∃ t c, exec .segmentFold s = .next t ∧ t.jrnl = { s.jrnl with carryPend := some c } ∧ c.gen = s.jrnl.carry.gen + 1 ∧
        (∀ r, l.getLast? = some r → c.empty = false ∧ c.last = r.seq ∧ c.grain = r.what.grain ∧ c.epoch = r.what.epoch) ∧
        (∀ r, l.head? = some r → s.jrnl.carry.empty = true → c.first = r.seq) ∧ Same [.jrnl] [] s t) ∧
    (∀ c, s.jrnl.carryPend = some c → ∃ t, exec .foldCommit s = .next t ∧
      t.jrnl = { s.jrnl with
        carry := { c with empty := c.empty || decide (c.last ≤ s.jrnl.ackseq) }, carryPend := none, fold := false
        tail := c.tail } ∧
      t.cairn.ring = s.cairn.ring.filter (fun r => !inSegment s.nextSegment r) ∧
      (t.cairn.cyA = some c ∨ t.cairn.cyB = some c) ∧ t.cairn.stA = s.cairn.stA ∧ t.cairn.stB = s.cairn.stB ∧
      (s.get JRNL.COALCNT.COUNT + 1 < 2 ^ 31 → t.get JRNL.COALCNT.COUNT = s.get JRNL.COALCNT.COUNT + 1) ∧ Arrived 0x2C s t ∧
      KeptOutside 0x20002800 0x20003000 s t ∧ Frame [.jrnl, .cairn, .mem] (fun f => f.unit ∈ [8, 0x28]) s t) ∧
    (s.outFull = false →
      (s.carryOwed = true → ∃ t, exec .journalParcelSend s = .next t ∧ t.link.outb.length = s.link.outb.length + 1 ∧
        t.link.carrySent = s.jrnl.carry.last ∧
        t.link.carryPart = (if s.link.carrySent = s.jrnl.carry.last then s.link.carryPart else 0) + 1 ∧
        Same [.link] [HOST.OUTSEQ.SEQ] s t) ∧
      (s.carryOwed = false →
        let g := gather (s.cairn.ring.filter (fun r => decide (r.seq < s.jrnl.cseq))) (max s.link.nextRec (s.jrnl.ackseq + 1)) 4096
        (g.1 = [] → exec .journalParcelSend s = .next s) ∧
        (g.1 ≠ [] → ∃ t, exec .journalParcelSend s = .next t ∧ t.link.outb.length = s.link.outb.length + 1 ∧
          t.link.nextRec = g.2 ∧ Same [.link] [HOST.OUTSEQ.SEQ] s t))) ∧
    (s.outFull = true → exec .journalParcelSend s = .next s) ∧
    (∀ (p : Proc) (v : Word), s.runs p = true → ¬ Leased s p 1 →
      exec (.registerWrite p 0x28 0x19 v) s = .next (s.trap p ⟨0x05, 0x28, none⟩) ∧
      exec (.registerWrite p 0x28 0x1A v) s = .next (s.trap p ⟨0x05, 0x28, none⟩)) ∧
    ((∀ p, ¬ Leased s p 1) → exec .stagedAppendGo s = .next s ∧ ∀ v, exec (.stageDataWrite v) s = .next s) ∧
    (∀ p : Proc, AtOnce s p → Leased s p 1 →
      let used := (s.jrnl.staged.map JRec.len).foldl (· + ·) 0
      (∀ v : Word,
        (s.jrnl.stg.length < 16 → ∃ t : State, exec (.stageDataWrite v) s = .next t ∧
          t.jrnl = { s.jrnl with stg := s.jrnl.stg ++ [v] } ∧ Same [.jrnl] [] s t) ∧
        (16 ≤ s.jrnl.stg.length → exec (.stageDataWrite v) s = .next s)) ∧
      (4096 < used + 92 → ∃ t, exec .stagedAppendGo s = .next t ∧ t.on JRNL.STATUS.STGREF = true ∧
        t.jrnl = { s.jrnl with stg := [] } ∧ Same [.jrnl] [JRNL.STATUS.STGREF] s t) ∧
      (used + 92 ≤ 4096 → ∃ t r, exec .stagedAppendGo s = .next t ∧
        t.jrnl = { s.jrnl with stg := [], staged := s.jrnl.staged ++ [r] } ∧ r.type = 2 ∧ r.grain = s.clock.grain ∧
        r.byProg = true ∧ r.body.take 2 = [0x28, BitVec.ofNat 8 (s.get JRNL.STGCTL.KIND)] ∧
        (r.body.drop 4).take (4 * s.jrnl.stg.length) = (s.jrnl.stg.flatMap (fun w => leBytes 4 w.toNat)).take 64 ∧
        Same [.jrnl] [] s t))

/-- R340, R341, R344, R370: the cairn's write port, for a processor that holds its lease, and its read port. It rests on the
model's choices in log entries 15 and 16. -/
def Obligations.CairnPorts : Prop :=
  ∀ (s : State) (p : Proc), s.power = .on → AtOnce s p →
    let refused := fun (c : Instr) => ∃ t, exec c s = .next t ∧ t.on CAIRN.STATUS.PREF = true ∧
      (s.on CAIRN.STATUS.PREF = false → Arrived 0x2F s t) ∧ Same [] (CAIRN.STATUS.PREF :: arrivalOf 0x2F) s t
    let closed := fun (t : State) => t.port = ⟨false, false, [], 0⟩ ∧ t.on CAIRN.PSTAT.OPEN = false
    let busy := s.port.copying = true ∨ s.clock.now < s.port.until'
    -- without the lease an instruction faults; the committed record stays while a write is open
    (¬ Leased s p 0 → ∀ area v,
      ∀ c ∈ [Instr.portOpen p area, .portDataWrite p v, .portCommit p, .portAbort p],
        exec c s = .next (s.trap p ⟨0x05, 0x29, none⟩)) ∧
    (Leased s p 0 →
      (∀ area : BitVec 2,
        (area ≠ 1 ∨ busy → refused (.portOpen p area)) ∧
        (area = 1 → ¬ busy → ∃ t, exec (.portOpen p area) s = .next t ∧ t.port = ⟨true, true, [], 0⟩ ∧
          t.on CAIRN.PSTAT.OPEN = true ∧ t.on CAIRN.PSTAT.DONE = false ∧ t.cairn.trim = s.cairn.trim ∧
          Same [.cairn, .port] [CAIRN.PSTAT.OPEN, CAIRN.PSTAT.DONE] s t)) ∧
      (∀ v : Word,
        let w := s.get CAIRN.PADDR.WORD
        let ok := ¬ busy ∧ s.port.opened = true ∧ w < 1020 ∧ (4 ≤ w → w ≤ 190 → 3 ≤ s.level)
        (¬ ok → refused (.portDataWrite p v)) ∧
        (ok → ∃ t, exec (.portDataWrite p v) s = .next t ∧ wordsGet t.port.work w = v ∧
          (∀ x, x ≠ w → wordsGet t.port.work x = wordsGet s.port.work x) ∧ t.get CAIRN.PADDR.WORD = w + 1 ∧
          t.port.until' = s.clock.now + 32 ∧ Same [.port] [CAIRN.PADDR.WORD] s t)) ∧
      (let ok := ¬ busy ∧ s.port.opened = true ∧
         ∀ i ∈ [1, 2, 3], wordsGet s.port.work i = wordsGet s.cairn.trim.words i
       (¬ ok → refused (.portCommit p)) ∧
       (ok → ∃ t, exec (.portCommit p) s = .next t ∧ t.cairn.trim.words = s.port.work ∧
         t.cairn.trim.gen = s.cairn.trim.gen + 1 ∧ closed t ∧ t.on CAIRN.PSTAT.DONE = true ∧ Arrived 0x2F s t ∧
         Same [.cairn, .port] ([CAIRN.PSTAT.OPEN, CAIRN.PSTAT.DONE] ++ arrivalOf 0x2F) s t)) ∧
      (busy → refused (.portAbort p)) ∧
      (¬ busy → ∃ t, exec (.portAbort p) s = .next t ∧ closed t ∧ Same [.port] [CAIRN.PSTAT.OPEN] s t)) ∧
    (s.port.copying = true → ∃ t, exec .portCopyDone s = .next t ∧
      t.port = { s.port with copying := false, work := s.cairn.trim.words } ∧ Same [.port] [] s t) ∧
    (∀ v : Word, ∃ t, exec (.cairnAddrWrite v) s = .next t ∧ t.get CAIRN.RADDR.WORD = v.toNat % 2 ^ 16 ∧
      t.on CAIRN.RSTAT.READY = false ∧ t.readAt = s.clock.now + 32 ∧
      Same [.readAt] [CAIRN.RADDR.WORD, CAIRN.RSTAT.READY] s t) ∧
    (let area := s.get CAIRN.RAREA.AREA
     let w := s.get CAIRN.RADDR.WORD
     s.on CAIRN.RSTAT.READY = false → s.readAt ≠ 0 → s.readAt ≤ s.clock.now →
      ∃ t, exec .cairnReadReady s = .next t ∧ t.on CAIRN.RSTAT.READY = true ∧
        (areaWords area ≤ w → t.get CAIRN.RDATA.DATA = 0 ∧ t.on CAIRN.RSTAT.RERR = true) ∧
        (w < areaWords area → t.get CAIRN.RDATA.DATA = (s.cairnRead area w).toNat ∧
          t.get CAIRN.RSTAT.RERR = s.get CAIRN.RSTAT.RERR) ∧
        Same [] [CAIRN.RDATA.DATA, CAIRN.RSTAT.RERR, CAIRN.RSTAT.READY] s t) ∧
    (∃ t, exec .cairnDataRead s = .next t ∧ t.get CAIRN.RADDR.WORD = (s.get CAIRN.RADDR.WORD + 1) % 2 ^ 16 ∧
      t.on CAIRN.RSTAT.READY = false ∧ t.readAt = s.clock.now + 32 ∧
      (s.on CAIRN.RSTAT.READY = true → t.readData = BitVec.ofNat 32 (s.get CAIRN.RDATA.DATA)) ∧
      (s.on CAIRN.RSTAT.READY = false → t.readData = 0 ∧ t.on CAIRN.RSTAT.RERR = true) ∧
      Same [.readAt, .readData] [CAIRN.RADDR.WORD, CAIRN.RSTAT.READY, CAIRN.RSTAT.RERR] s t)

/-- R375, R376, R379, R381, R386–R389: SELFCAL by a holder of its permit, the end of its phases, calibration writes, the
save and the reset of the drift terms, a new baseline of the shared node, and the OTP window. It rests on the model's
choices in log entries 3, 5, 14, 16, 23, 36, 39 and 52. -/
def Obligations.TrimCommands : Prop :=
  ∀ (s : State) (p : Proc), s.power = .on → AtOnce s p →
    (∀ n : BitVec 4,
      let slot := n.toNat
      let ok := s.get (PERMIT.SLOT.STATE slot) = 2 ∧ s.get (PERMIT.SLOT.HOLDER slot) = s.holder p ∧
        180 ≤ s.get (PERMIT.SLOT.DRAW slot) ∧ 2304 ≤ s.get (PERMIT.REM.GRAINS slot) ∧ s.selfCal = none ∧
        s.on PWR.STATE.SFW = false
      (ok → ∃ t, exec (.selfcalGo p n) s = .next t ∧ t.selfCal = some ⟨s.clock.grain + 1, slot, 0, List.replicate 38 0,
        List.replicate 38 0⟩ ∧
        t.get TRIM.SCSTAT.PHASE = 0 ∧ t.get TRIM.SCSTAT.ABANDON = 0 ∧
        Same [.selfCal] [TRIM.SCCTL.SPSLOT, TRIM.SCSTAT.PHASE, TRIM.SCSTAT.ABANDON, TRIM.SCSTAT.STRSKIP,
          TRIM.SCSTAT.MSKIP] s t) ∧
      (¬ ok → ∃ t, exec (.selfcalGo p n) s = .next t ∧ t.on TRIM.STATUS.SCREF = true ∧
        Same [] [TRIM.SCCTL.SPSLOT, TRIM.STATUS.SCREF] s t)) ∧
    (∀ c,
      let ph := s.get TRIM.SCSTAT.PHASE
      s.selfCal = some c → ∀ phase : Fin 4, ph = phase → 1 ≤ ph → c.start + 768 * ph ≤ s.clock.grain →
      let left := fun (n : Nat) => ∃ q, coreQuad n = some q ∧ bitOf c.abandoned q = true
      ∃ t, exec (.selfcalPhaseEnd phase) s = .next t ∧
        (∀ n ∈ s.phaseCores ph, ¬ left n → t.get (TRIM.CSC.SCO n) = wrapN 16 (State.calOffset c n) ∧
          t.get (TRIM.CSC.SCG n) = wrapN 16 (s.calGain c n) ∧
          (s.on SYS.STATUS.TRIMFLT = true → t.get (TRIM.CSC.SCG n) = 0)) ∧
        (∀ n, n < 38 → n ∉ s.phaseCores ph ∨ left n →
          t.get (TRIM.CSC.SCO n) = s.get (TRIM.CSC.SCO n) ∧ t.get (TRIM.CSC.SCG n) = s.get (TRIM.CSC.SCG n)) ∧
        (ph = 3 → t.get TRIM.SCSTAT.PHASE = 4 ∧ t.selfCal = none ∧ Arrived 0x30 s t) ∧
        (ph < 3 → t.get TRIM.SCSTAT.PHASE = ph + 1 ∧ t.selfCal = some { c with
          abandoned := 0, shorted := List.replicate 38 0, bandgap := List.replicate 38 0 }) ∧
        Frame [.selfCal, .streams] (fun f => f.unit = 8 ∨ f.unit = 0x2C) s t) ∧
    (∀ (idx : Fin 256) (v : Word),
      (idx.val < 0x40 ∨ 0x98 ≤ idx.val ∨ 24 ≤ idx.val % 32 → exec (.calibrationWrite p idx v) s = .refused .illFormed) ∧
      (0x40 ≤ idx.val → idx.val < 0x98 → idx.val % 32 < 24 →
        let open' := s.get PWR.STATE.STATE = 0 → 1 ≤ s.level
        (¬ open' → exec (.calibrationWrite p idx v) s = .next (s.trap p ⟨0x09, 0x2C, none⟩)) ∧
        (open' → s.part.hasChan (idx.val % 32) = false → exec (.calibrationWrite p idx v) s = .next s) ∧
        (open' → s.part.hasChan (idx.val % 32) = true →
          let f := if idx.val < 0x60 then TRIM.CALG.G (idx.val - 0x40) else if idx.val < 0x80 then TRIM.CALO.O (idx.val - 0x60)
            else TRIM.RATIO.R (idx.val - 0x80)
          ∃ t, exec (.calibrationWrite p idx v) s = .next t ∧ t.get f = v.toNat ∧ Same [] [f] s t))) ∧
    (s.get TRIM.DSAVE.BLK ≤ s.driftBlocks → s.portHeld = false → ∃ t, exec .driftSave s = .next t ∧ t.driftBlocks = 0 ∧
      t.cairn.trim.gen = s.cairn.trim.gen + 1 ∧
      (∀ i, i < 4 ∨ 190 < i → wordsGet t.cairn.trim.words i = wordsGet s.cairn.trim.words i) ∧
      wordsGet t.cairn.trim.words 4 = BitVec.ofNat 32 s.clock.grain ∧
      wordsGet t.cairn.trim.words 190 = driftCheck t.cairn.trim.words ∧
      Frame [.cairn, .driftBlocks] (fun f => f.unit = 4) s t) ∧
    (1 ≤ s.level → s.get TRIM.DCTL.FREEZE < 2 → ∃ t, exec (.driftReset p) s = .next t ∧
      (∀ n, n < 38 → t.get (TRIM.CTARGET.TG n) = 0 ∧ t.get (TRIM.CTARGET.TO n) = 0 ∧ t.get (TRIM.CREL.A n) = 0) ∧
      (∀ q, q < 4 → t.get (TRIM.QCOM.TARGET q) = 0) ∧
      (∀ n, t.get (TRIM.CDRIFT.DG n) = s.get (TRIM.CDRIFT.DG n) ∧ t.get (TRIM.CDRIFT.DOFS n) = s.get (TRIM.CDRIFT.DOFS n)) ∧
      Frame [] (fun f => f.unit = 0x2C) s t) ∧
    (s.level < 1 → s.get TRIM.DCTL.FREEZE < 2 → exec (.driftReset p) s = .next (s.trap p ⟨0x09, 0x2C, none⟩)) ∧
    (s.part.big = true → ∃ t, exec (.shnodeRestart p) s = .next t ∧
      (∀ i : Fin 3, t.shNode[i] = { s.shNode[i] with n := 0, fresh := true }) ∧
      t.get TRIM.SHNODE.EN = s.get TRIM.SHNODE.EN % 8 ∧ Frame [.shNode] (fun f => f.unit = 8 ∨ f.unit = 0x2C) s t) ∧
    (∃ t, exec .otpDataRead s = .next t ∧ t.readData = Config.otpWord (s.get TRIM.OSEL.WORD) ∧
      t.get TRIM.OSEL.WORD = (s.get TRIM.OSEL.WORD + 1) % 2 ^ 12 ∧ Same [.readData] [TRIM.OSEL.WORD] s t)

/-- R391–R400: the auxiliary converter, for a processor with its lease: GO, STOP, CAL, the channel, a result read; the ends
of conversions and calibration steps, the reference, and urgent requests. It rests on the model's choices in log entries 3,
16 and 43. -/
def Obligations.AuxiliaryConverter : Prop :=
  ∀ (s : State) (p : Proc), s.power = .on → AtOnce s p →
    let A := s.aux
    let free := ∀ u, A.urgent = some u → u.stop = none
    let busy := s.on AUX.STATUS.BUSY = true ∨ s.on AUX.STATUS.CALBUSY = true
    let sar := (s.clock.now / 8 + 1) * 8
    let long := 8 * (s.get AUX.CTRL.ACQ + 17)
    (¬ Leased s p 5 → exec (.auxGo p) s = .next (s.trap p ⟨0x05, 0x30, none⟩)) ∧
    (Leased s p 5 →
      (busy → ∃ t, exec (.auxGo p) s = .next t ∧ t.on AUX.STATUS.GOREF = true ∧ Same [] [AUX.STATUS.GOREF] s t) ∧
      (¬ busy → ∃ t, exec (.auxGo p) s = .next t ∧ t.on AUX.STATUS.BUSY = true ∧ t.aux.ch = s.get AUX.CH.SEL ∧
        t.aux.avg = 2 ^ s.get AUX.CTRL.AVG ∧ t.aux.sum = 0 ∧ t.aux.n = 0 ∧
        (s.on AUX.STATUS.REFRDY = true → free → t.aux.stop = some (sar + long) ∧
          t.aux.align = s.on AUX.CTRL.ALIGN ∧ t.aux.cont = s.on AUX.CTRL.CONT) ∧
        (s.on AUX.STATUS.REFRDY = false → t.aux.stop = none) ∧ Same [.aux] [AUX.STATUS.BUSY] s t) ∧
      (∃ t, exec (.auxStop p) s = .next t ∧
        (s.on AUX.STATUS.CALBUSY = true → t.on AUX.STATUS.CALBUSY = false ∧ Same [] [AUX.STATUS.CALBUSY] s t) ∧
        (s.on AUX.STATUS.CALBUSY = false → s.on AUX.STATUS.BUSY = true →
          (A.stop = none → t.on AUX.STATUS.BUSY = false ∧ Same [] [AUX.STATUS.BUSY] s t) ∧
          (A.stop ≠ none → t = { s with aux := { A with discard := true } })) ∧
        (¬ busy → t = s)) ∧
      (busy ∨ s.on AUX.STATUS.REFRDY = false → ∃ t, exec (.auxCal p) s = .next t ∧ t.on AUX.STATUS.CALREF = true ∧
        Same [] [AUX.STATUS.CALREF] s t) ∧
      (¬ busy → s.on AUX.STATUS.REFRDY = true → ∃ t, exec (.auxCal p) s = .next t ∧ t.on AUX.STATUS.CALBUSY = true ∧
        t.on AUX.STATUS.CALOK = false ∧ t.aux = { A with calStep := 0, calEnd := s.clock.now + 21504 } ∧
        Same [.aux] [AUX.STATUS.CALBUSY, AUX.STATUS.CALOK] s t) ∧
      (∃ t, exec (.auxResultRead p) s = .next t ∧ t.readData = BitVec.ofNat 32 (s.get AUX.RESULT.DATA) ∧
        t.aux = { A with new := false } ∧ t.on AUX.RINFO.NEW = A.new ∧ t.get AUX.RINFO.CH = A.info % 32 ∧
        Same [.aux, .readData] [AUX.RINFO.NEW, AUX.RINFO.UNCAL, AUX.RINFO.SIGNED, AUX.RINFO.CH] s t) ∧
      (∀ v : Word, let ch := v.toNat % 32
        (s.auxChBad ch = true → ∃ t, exec (.auxChWrite p v) s = .next t ∧ t.on AUX.STATUS.CHREF = true ∧
          Same [] [AUX.STATUS.CHREF] s t) ∧
        (s.auxChBad ch = false → ∃ t, exec (.auxChWrite p v) s = .next t ∧ t.get AUX.CH.SEL = ch ∧
          Same [] [AUX.CH.SEL] s t))) ∧
    (s.on AUX.STATUS.CALBUSY = true → A.calEnd ≤ s.clock.now → free → ∃ t, exec .auxCalStepEnd s = .next t ∧
      (19 ≤ A.calStep → t.on AUX.STATUS.CALBUSY = false ∧ t.on AUX.STATUS.CALOK = true ∧
        Same [] [AUX.STATUS.CALBUSY, AUX.STATUS.CALOK] s t) ∧
      (A.calStep < 19 → t = { s with aux := { A with calStep := A.calStep + 1, calEnd := s.clock.now + 21504 } })) ∧
    (∀ (code : Int) e, A.stop = some e → e ≤ s.clock.now → ∃ t, exec (.auxConversionEnd code) s = .next t ∧
      (A.discard = true → t.on AUX.STATUS.BUSY = false ∧ t.aux = { A with stop := none, discard := false } ∧
        Same [.aux] [AUX.STATUS.BUSY] s t) ∧
      (A.discard = false → A.n + 1 < A.avg → t.aux.sum = A.sum + code ∧ t.aux.n = A.n + 1 ∧
        (free → s.on AUX.STATUS.BUSY = true → s.on AUX.STATUS.REFRDY = true → t.aux.stop = some (e + long)) ∧
        ((∃ u, A.urgent = some u ∧ u.stop ≠ none) → t.aux.stop = none) ∧ Same [.aux] [] s t) ∧
      (A.discard = false → A.avg ≤ A.n + 1 →
        let c := wrapN 16 (rneDiv (A.sum + code) A.avg)
        t.get AUX.RESULT.DATA = (if A.align then c * 2 ^ 16 else if auxSigned A.ch then wrapN 32 (sextN 16 c) else c) ∧
        t.aux.new = true ∧ Arrived 0x33 s t ∧ (A.new = true → t.on AUX.STATUS.OVR = true ∧ Arrived 0x34 s t) ∧
        t.on AUX.STATUS.BUSY = (s.on AUX.STATUS.BUSY && A.cont && s.on AUX.CTRL.CONT) ∧
        Same [.aux] ([AUX.RESULT.DATA, AUX.STATUS.OVR, AUX.STATUS.BUSY] ++ arrivalOf 0x33 ++ arrivalOf 0x34) s t)) ∧
    (A.refAt ≤ s.clock.now → s.on AUX.STATUS.REFRDY = false → A.urgent = none → ∃ t, exec .auxRefReady s = .next t ∧
      t.on AUX.STATUS.REFRDY = true ∧
      (s.on AUX.STATUS.BUSY = true → A.stop = none → t.aux.stop = some (sar + long) ∧ Same [.aux] [AUX.STATUS.REFRDY] s t) ∧
      (¬ busy → A.bootCal = true → t.on AUX.STATUS.CALBUSY = true ∧ t.aux.bootCal = false ∧ t.aux.calStep = 0) ∧
      (¬ busy → A.bootCal = false → Same [] [AUX.STATUS.REFRDY] s t)) ∧
    (∀ (src : Fin 3) (ch : BitVec 5),
      (s.on AUX.STATUS.URGBUSY = true → ∃ t, exec (.urgentRequest src ch) s = .next t ∧
        (s.get AUX.UDROP.COUNT + 1 < 2 ^ 16 → t.get AUX.UDROP.COUNT = s.get AUX.UDROP.COUNT + 1) ∧
        Same [] [AUX.UDROP.COUNT, AUX.UDROP.SAT] s t) ∧
      (s.on AUX.STATUS.URGBUSY = false → ∃ t, exec (.urgentRequest src ch) s = .next t ∧ t.on AUX.STATUS.URGBUSY = true ∧
        (A.intAt ≤ s.clock.now → t.get AUX.ULAST.SRC = src + 1 ∧ t.get AUX.ULAST.CH = ch.toNat ∧
          t.aux = { A with
            urgent := some ⟨src + 1, ch.toNat, some (sar + 328)⟩
            stop := A.stop.filter (fun e => decide (e ≤ s.clock.now + 8)) }) ∧
        (s.clock.now < A.intAt → t.aux = { A with urgent := some ⟨src + 1, ch.toNat, none⟩ }) ∧
        Same [.aux] [AUX.STATUS.URGBUSY, AUX.ULAST.SRC, AUX.ULAST.CH] s t)) ∧
    (∀ (code : Int) src ch e, A.urgent = some ⟨src, ch, some e⟩ → e ≤ s.clock.now →
      ∃ t, exec (.urgentConversionEnd code) s = .next t ∧ t.on AUX.STATUS.URGBUSY = false ∧ t.aux.urgent = none ∧
        t.aux.got = A.got.set src (some code) ∧ t.aux.calEnd = s.clock.now + 21504 ∧
        (A.stop ≠ none → t.aux.stop = A.stop) ∧
        (A.stop = none → s.on AUX.STATUS.BUSY = true → s.on AUX.STATUS.REFRDY = true → t.aux.stop = some (e + long)) ∧
        Same [.aux] [AUX.STATUS.URGBUSY] s t)

namespace Sys2Proof.Claims

/-- A field of the modem or of the permits, or what an arrival of source src writes. -/
def modemFld (src : Nat) (f : Fld) : Prop := f.unit = 0x34 ∨ f.unit = 3 ∨ f ∈ arrivalOf src

/-- The attempt has been asked for: the answer of the permit request q decides what becomes of frame f (R440). -/
def Asked (q : Nat × Nat × State) (f : TxFrame) (t : State) : Prop :=
  (q.1 = 0 → t.on MODEM.STATUS.TXBUSY = true ∧ t.modem.tx = some { f with permit := some q.2.1 } ∧
    t.on MODEM.PERMIT.VALID = true ∧ t.get MODEM.PERMIT.NUM = q.2.1) ∧
  (q.1 = 1 → t.on MODEM.STATUS.TXBUSY = true ∧ t.modem.tx = some { f with permit := some q.2.1 } ∧
    t.on MODEM.STATUS.PERMWAIT = true) ∧
  (2 ≤ q.1 → t.on MODEM.STATUS.TXBUSY = false ∧ t.modem.tx = none ∧ t.get MODEM.TXRES.RESULT = 5)

/-- No rule of the channel holds a transmission back (R429, R432). -/
def Clear (s : State) (band : Nat) : Prop :=
  s.modem.rxAt = none ∧ (band ≠ 0 → s.modem.busy = false ∧ s.modem.idleTo = none ∧
    ∀ e, s.modem.lastEnd = some e → e + 4000 ≤ s.clock.grain)

end Sys2Proof.Claims

/-- R427, R435, R440, R441: a frame released with GO, or refused; one stopped with CANCEL, at once or at the next symbol. -/
def Sys2Proof.Claims.ModemCommands : Prop :=
  ∀ (s : State) (p : Proc), s.power = .on → AtOnce s p → s.part.optL = true → Leased s p 3 →
    let M := s.modem
    let band := s.get MODEM.CTRL.BAND
    let len := s.get MODEM.TXDESC.LEN
    let refuses := s.on MODEM.STATUS.TXBUSY = true ∨ s.on MODEM.CTRL.EN = false ∨ s.baseCamp = true
    let long := (if band = 0 then 256 else 183) < len
    let att := s.get MODEM.TXCFG.ATT
    (refuses → ∃ t, exec (.modemTxGo p) s = .next t ∧ t.on MODEM.STATUS.TXREF = true ∧ Same [] [ MODEM.STATUS.TXREF] s t) ∧
    (¬ refuses → long → ∃ t, exec (.modemTxGo p) s = .next t ∧ t.on MODEM.STATUS.LENREF = true ∧
      Same [] [ MODEM.STATUS.LENREF] s t) ∧
    (¬ refuses → ¬ long → att < 32 → M.seq < 256 →
      let draw := txDraw att
      let q := s.permitRequest (s.get (LEASE.HOLD.HOLDER 3)) (s.get MODEM.TXCFG.PCLS) draw (20 * (134 + 8 * len) + 64) false
      1300 ^ 10 ≤ (draw - 200) ^ 10 * 10 ^ att ∧ (draw - 201) ^ 10 * 10 ^ att < 1300 ^ 10 ∧
      ∃ t f, exec (.modemTxGo p) s = .next t ∧ t.get MODEM.TXRES.SEQ = M.seq ∧ t.modem.seq = (M.seq + 1) % 256 ∧
        t.get MODEM.TXRES.TRIES = 0 ∧ Asked q f t ∧ f.slot = s.get MODEM.TXDESC.SLOT ∧ f.dst = s.get MODEM.TXDESC.DST ∧
        f.len = len ∧ f.seq = M.seq ∧ f.band = band ∧ f.tries = 0 ∧ f.isAck = false ∧
        (f.wantAck = true ↔ f.dst ≠ 0xFFFF ∧ s.on MODEM.TXDESC.NOACK = false) ∧
        f.begins = s.candidate (s.clock.grain + 3) ∧ Frame [.modem, .pwr, .free] (modemFld 0x4A) s t) ∧
    (s.on MODEM.STATUS.TXBUSY = false → exec (.modemTxCancel p) s = .next s) ∧
    (∀ f, s.on MODEM.STATUS.TXBUSY = true → M.ack = none → M.tx = some f → f.isAck = false →
      (s.on MODEM.STATUS.TXON = false → ∃ t, exec (.modemTxCancel p) s = .next t ∧ t.on MODEM.STATUS.TXBUSY = false ∧
        t.modem.tx = none ∧ t.get MODEM.TXRES.RESULT = 6 ∧ Frame [.modem] (fun f => f.unit = 0x34) s t) ∧
      (∀ b, s.on MODEM.STATUS.TXON = true → f.begins = some b → b ≤ s.cycle → ∃ t n, exec (.modemTxCancel p) s = .next t ∧
        t.modem = { M with
          tx := some { f with stops := b + n * 128000 }, stopping := some 6, rxAt := none, rxWords := [], rxSyms := [] } ∧
        s.cycle ≤ b + n * 128000 ∧ b + n * 128000 < s.cycle + 128000 ∧ Same [.modem] [ MODEM.STATUS.RXSYNC] s t))

/-- R428, R429, R434, R436, R437, R440: a frame starts at its instant where its permit is granted and the channel is clear,
and is put off to a later candidate otherwise; what its end, the deadline of its acknowledgement and a planned
acknowledgement do. -/
def Sys2Proof.Claims.ModemTransmission : Prop :=
  ∀ (s : State), s.modemOn = true → s.part.optL = true →
    let M := s.modem
    let later := s.candidate (s.clock.grain + 1)
    (∀ f n, M.tx = some f → f.permit = some n → s.get (PERMIT.SLOT.STATE n) = 2 → s.on MODEM.STATUS.TXON = false →
      s.on MODEM.STATUS.WAITACK = false →
      (s.on MODEM.STATUS.PERMWAIT = true → n < 16 → ∃ t, exec .modemFrameStart s = .next t ∧
        t.on MODEM.STATUS.PERMWAIT = false ∧ t.on MODEM.PERMIT.VALID = true ∧ t.get MODEM.PERMIT.NUM = n ∧
        t.modem = { M with tx := some { f with begins := later } } ∧
        Same [.modem] [ MODEM.STATUS.PERMWAIT, MODEM.PERMIT.VALID, MODEM.PERMIT.NUM] s t) ∧
      (∀ b, s.on MODEM.STATUS.PERMWAIT = false → f.begins = some b → b ≤ s.cycle →
        (¬ Clear s f.band → ∃ t, exec .modemFrameStart s = .next t ∧ t.on MODEM.STATUS.LBTWAIT = true ∧
          t.modem = { M with tx := some { f with begins := later } } ∧ Same [.modem] [ MODEM.STATUS.LBTWAIT] s t) ∧
        (Clear s f.band → f.tries < 7 → b / 6400 < 2 ^ 64 → ∃ t, exec .modemFrameStart s = .next t ∧
          t.on MODEM.STATUS.TXON = true ∧ t.on MODEM.STATUS.LBTWAIT = false ∧
          t.get2 MODEM.TXSTLO.GLO MODEM.TXSTHI.GHI = b / 6400 ∧ t.get MODEM.TXRES.TRIES = f.tries + 1 ∧
          t.modem = { M with
            tx := some { f with stops := b + (134 + 8 * f.len) * 128000, body := s.txBody f, tries := f.tries + 1 } } ∧
          Same [.modem] [ MODEM.STATUS.TXON, MODEM.STATUS.LBTWAIT, MODEM.TXSTLO.GLO, MODEM.TXSTHI.GHI, MODEM.TXRES.TRIES]
            s t))) ∧
    (∀ f, s.airFrame = some f → s.on MODEM.STATUS.TXON = true → f.stops ≤ s.cycle → ∃ t, exec .modemFrameEnd s = .next t ∧
      t.on MODEM.STATUS.TXON = false ∧ t.modem.lastEnd = some ((f.stops + 6399) / 6400) ∧
      (f.isAck = true → t.modem.ack = none ∧ t.modem.tx = M.tx) ∧
      (∀ r, f.isAck = false → M.stopping = some r → r < 8 → t.on MODEM.STATUS.TXBUSY = false ∧ t.modem.tx = none ∧
        t.get MODEM.TXRES.RESULT = r ∧ (r = 4 → Arrived 0x4A s t)) ∧
      (f.isAck = false → M.stopping = none → f.wantAck = false → t.on MODEM.STATUS.TXBUSY = false ∧ t.modem.tx = none ∧
        t.get MODEM.TXRES.RESULT = 2) ∧
      (f.isAck = false → M.stopping = none → f.wantAck = true → t.on MODEM.STATUS.WAITACK = true ∧
        t.modem.tx = some { f with deadline := some ((f.stops + 6399) / 6400 + s.get MODEM.ACKTO.TO) }) ∧
      Frame [.modem] (fun g => g.unit = 0x34 ∨ g ∈ arrivalOf 0x49 ∨ g ∈ arrivalOf 0x4A) s t) ∧
    (∀ f d, M.tx = some f → f.deadline = some d → s.on MODEM.STATUS.WAITACK = true → d < s.clock.grain →
      (f.retries < f.tries → ∃ t, exec .modemAckTimeout s = .next t ∧ t.get MODEM.TXRES.RESULT = 3 ∧ t.modem.tx = none ∧
        t.on MODEM.STATUS.TXBUSY = false ∧ Arrived 0x4A s t ∧ Frame [.modem] (modemFld 0x4A) s t) ∧
      (f.tries ≤ f.retries → s.on MODEM.STATUS.TXBUSY = true → s.get MODEM.NRETRY.COUNT + 1 < 2 ^ MODEM.NRETRY.COUNT.w →
        let q := s.permitRequest (s.get (LEASE.HOLD.HOLDER 3)) f.cls (txDraw f.att) (20 * (134 + 8 * f.len) + 64) false
        ∃ t, exec .modemAckTimeout s = .next t ∧ t.get MODEM.NRETRY.COUNT = s.get MODEM.NRETRY.COUNT + 1 ∧
          t.on MODEM.STATUS.WAITACK = false ∧
          Asked q { f with begins := s.candidate (d + 2), deadline := none, body := [] } t ∧
          Frame [.modem, .pwr, .free] (modemFld 0x4A) s t)) ∧
    (∀ f b, M.ack = some f → f.begins = some b → b ≤ s.cycle → s.on MODEM.STATUS.TXON = false →
      let q := s.permitRequest (s.get (LEASE.HOLD.HOLDER 3)) f.cls (txDraw f.att) (20 * (134 + 8 * f.len) + 64) true
      (¬ Clear s f.band → ∃ t, exec .modemAckSend s = .next t ∧ t.on MODEM.STATUS.LBTWAIT = true ∧
        t.modem = { M with ack := some { f with begins := later } } ∧ Same [.modem] [ MODEM.STATUS.LBTWAIT] s t) ∧
      (Clear s f.band → ∃ t, exec .modemAckSend s = .next t ∧
        (q.1 ≠ 0 → t.modem = { M with ack := none } ∧ Same [.modem] [] s t) ∧
        (q.1 = 0 → t.on MODEM.STATUS.TXON = true ∧
          t.modem = { M with
            ack := some { f with stops := b + (134 + 8 * f.len) * 128000, body := s.txBody f, permit := some q.2.1 } }) ∧
        Frame [.modem, .pwr, .free] (fun g => g.unit = 0x34 ∨ g.unit = 3) s t))

/-- R423: the tones of a frame: the preamble's 32, then one for each bit of the body and of its six tail bits. -/
def Sys2Proof.Claims.FrameTones : Prop :=
  ∀ body : List Byte, (frameTones body).length = 38 + 8 * body.length ∧ (∀ x ∈ frameTones body, x < 4) ∧
    (∀ i, i < 28 → (frameTones body).getD i 4 = i % 4) ∧ ((frameTones body).drop 28).take 4 = [3, 3, 0, 0]

/-- All three: `Claims.ModemCommands`, `Claims.ModemTransmission` and `Claims.FrameTones`. It rests on the model's choices
in log entries 1, 16, 18, 45 and 55. -/
def Obligations.ModemCommandsAndTransmission : Prop :=
  Claims.ModemCommands ∧ Claims.ModemTransmission ∧ Claims.FrameTones

/-- R429, R430, R431, R432, R433, R436, R437: the channel and its back-off, a sync, and a body decoded: its erased symbols
are counted, a wrong one is counted in NCRC, one for another station has no other effect, the acknowledgement waited for
ends the frame with RESULT 1, and a new one for this station goes to the receive ring. It rests on the model's choices in
log entries 1, 3, 7, 10, 45 and 55. -/
def Obligations.ModemReception : Prop :=
  ∀ (s : State), s.modemOn = true → s.part.optL = true →
    let M := s.modem
    exec .modemChannelBusy s = .next { s with modem := { M with busy := true, idleTo := none } } ∧
    (M.busy = true → ∃ t, exec .modemChannelIdle s = .next t ∧ ∃ d, 2720 ≤ d ∧ d ≤ 3680 ∧
      t.modem = { M with busy := false, idleTo := some (s.clock.grain + d) } ∧ Same [.modem, .free] [] s t) ∧
    (∀ g, M.idleTo = some g → g ≤ s.clock.grain →
      exec .lbtBackoffEnd s = .next { s with modem := { M with idleTo := none } }) ∧
    (s.on MODEM.CTRL.EN = true → s.on MODEM.STATUS.TXON = false → M.rxAt = none →
      ∃ t, exec .modemPreambleSync s = .next t ∧ t.on MODEM.STATUS.RXSYNC = true ∧
        t.modem = { M with rxAt := some s.clock.grain, rxSkip := min 15 (s.clock.phase / 400), rxWords := [], rxSyms := [] } ∧
        Same [.modem] [ MODEM.STATUS.RXSYNC] s t) ∧
    (∀ g, M.rxAt = some g →
      let body := decodeBody (s.get MODEM.RXCFG.ERAT) M.rxSyms
      let er := erasures (s.get MODEM.RXCFG.ERAT) M.rxSyms
      let idle := { M with rxAt := none, rxWords := [], rxSyms := [] }
      let l := u16At body 6
      let good := l ≤ 256 ∧ body.length = 12 + l ∧ u32At body (8 + l) = crc32c (body.take (8 + l))
      let own := s.get MODEM.ADDR.ADDR
      let dst := u16At body 0
      let src := u16At body 2
      let takes := dst = own ∨ dst = 0xFFFF ∨ s.on MODEM.RXCFG.PROMISC = true
      let wait := fun f : TxFrame => M.tx = some f ∧ s.on MODEM.STATUS.WAITACK = true ∧
        s.clock.grain ≤ f.deadline.getD 0 ∧ bitOf (byteAt body 4) 0 = true ∧ dst = own ∧ src = f.dst ∧ byteAt body 5 = f.seq
      let known := dst = own ∧ 1 ≤ field (byteAt body 4) 2 3 ∧ (src, byteAt body 5) ∈ M.heard
      ∃ t, exec (.modemRxDecode g M.rxSyms.length) s = .next t ∧ t.on MODEM.STATUS.RXSYNC = false ∧ t.modem.rxAt = none ∧
        (s.get MODEM.NERAS.COUNT + er < 2 ^ MODEM.NERAS.COUNT.w → t.get MODEM.NERAS.COUNT = s.get MODEM.NERAS.COUNT + er) ∧
        (¬ good → (s.get MODEM.NCRC.COUNT + 1 < 2 ^ MODEM.NCRC.COUNT.w →
          t.get MODEM.NCRC.COUNT = s.get MODEM.NCRC.COUNT + 1) ∧
          t.modem = idle ∧
          Same [.modem] [ MODEM.STATUS.RXSYNC, MODEM.NERAS.COUNT, MODEM.NERAS.SAT, MODEM.NCRC.COUNT, MODEM.NCRC.SAT] s t) ∧
        (good → ¬ takes → (∀ f, ¬ wait f) → t.modem = idle ∧
          Same [.modem] [ MODEM.STATUS.RXSYNC, MODEM.NERAS.COUNT, MODEM.NERAS.SAT] s t) ∧
        (good → (∃ f, wait f) → t.on MODEM.STATUS.TXBUSY = false ∧ t.on MODEM.STATUS.WAITACK = false ∧
          t.get MODEM.TXRES.RESULT = 1 ∧ t.modem.tx = none ∧ Arrived 0x49 s t ∧
          Frame [.modem] (fun f => f.unit = 0x34 ∨ f ∈ arrivalOf 0x49) s t) ∧
        (good → takes → (∀ f, ¬ wait f) → known → (s.get MODEM.NDUP.COUNT + 1 < 2 ^ MODEM.NDUP.COUNT.w →
            t.get MODEM.NDUP.COUNT = s.get MODEM.NDUP.COUNT + 1) ∧
          Same [.modem] [ MODEM.STATUS.RXSYNC, MODEM.NERAS.COUNT, MODEM.NERAS.SAT, MODEM.NDUP.COUNT, MODEM.NDUP.SAT] s t) ∧
        (good → takes → (∀ f, ¬ wait f) → ¬ known → M.full = true → t.on MODEM.STATUS.RXOVF = true ∧
          t.modem = idle ∧
          Same [.modem] [ MODEM.STATUS.RXSYNC, MODEM.NERAS.COUNT, MODEM.NERAS.SAT, MODEM.STATUS.RXOVF] s t) ∧
        (good → takes → (∀ f, ¬ wait f) → ¬ known → M.full = false → s.get MODEM.RXHEAD.HEAD < 64 →
          let at' := 0x10782000 + 512 * s.get MODEM.RXHEAD.HEAD
          t.get MODEM.RXHEAD.HEAD = (s.get MODEM.RXHEAD.HEAD + 1) % 64 ∧ Arrived 0x48 s t ∧
          t.bytes at' 8 = body.take 8 ∧ t.bytes (at' + 8) 8 = leBytes 8 g ∧ t.bytes (at' + 16) 2 = leBytes 2 er ∧
          t.bytes (at' + 32) l = (body.drop 8).take l ∧
          (∀ a, a < at' ∨ at' + 512 ≤ a → t.byte a = s.byte a) ∧
          ((dst = own ∧ bitOf (byteAt body 4) 1 = true) → ∃ a, t.modem.ack = some a ∧ a.isAck = true ∧ a.dst = src ∧
            a.seq = byteAt body 5 ∧ a.len = 0 ∧ a.begins = s.candidate (s.clock.grain + 4)) ∧
          (¬ (dst = own ∧ bitOf (byteAt body 4) 1 = true) → t.modem.ack = M.ack) ∧
          Frame [.modem, .mem] (fun f => f.unit = 0x34 ∨ f ∈ arrivalOf 0x48) s t))

/-- R446, R447, R452, R454: the registers of the glass driver for the holder of its lease: mode, LCD settings, waveform
tables and their check, region masks, and a request for an update. It rests on the model's choices in log entry 16. -/
def Obligations.GlassCommands : Prop :=
  ∀ (s : State) (p : Proc) (v : Word), s.glassOn = true → AtOnce s p → Leased s p 4 →
    let x := v.toNat
    let ref := fun (c : Instr) (f : Fld) => ∃ t, exec c s = .next t ∧ t.on f = true ∧ Same [] [f] s t
    let mode := if 2 ≤ field x 1 2 then 0 else field x 1 2
    let keep := s.on GLASS.CTRL.EN = true ∧ mode ≠ s.get GLASS.CTRL.MODE
    let h := min 8 (max 1 (field x 16 4))
    let g := min 32 (max 8 (field x 8 6))
    let mux := min 5 (field x 0 3)
    let d := g * 2 * h * ([1, 2, 3, 4, 6, 8].getD mux 8)
    let bad := 32768 < 32 * d ∨ 128 * d < 32768 ∨ field x 4 2 = 0 ∧ mux ≠ 0
    (s.get GLASS.CTRL.MODE < 4 → ∃ t, exec (.glassModeWrite p v) s = .next t ∧ t.on GLASS.CTRL.EN = v.getLsbD 0 ∧
      (keep → t.get GLASS.CTRL.MODE = s.get GLASS.CTRL.MODE ∧ t.on GLASS.STATUS.CFGREF = true) ∧
      (¬ keep → t.get GLASS.CTRL.MODE = mode ∧ t.get GLASS.STATUS.CFGREF = s.get GLASS.STATUS.CFGREF) ∧
      Same [] [GLASS.CTRL.MODE, GLASS.CTRL.EN, GLASS.STATUS.CFGREF] s t) ∧
    (bad → ref (.lcdcfgWrite p v) GLASS.STATUS.CFGREF) ∧
    (¬ bad → ∃ t, exec (.lcdcfgWrite p v) s = .next t ∧ t.get GLASS.LCDCFG.H = h ∧ t.get GLASS.LCDCFG.GDIV = g ∧
      t.get GLASS.LCDCFG.BIAS = field x 4 2 ∧ t.get GLASS.LCDCFG.MUX = mux ∧
      Same [] [GLASS.LCDCFG.H, GLASS.LCDCFG.GDIV, GLASS.LCDCFG.BIAS, GLASS.LCDCFG.MUX] s t) ∧
    (let tab := s.get GLASS.TADDR.TABLE
     let w := GLASS.TDATA.WORD (16 * tab + s.get GLASS.TADDR.PHASE)
     tab < 4 →
      (∃ t, exec (.tableDataAccess p true v) s = .next t ∧ t.get w = x % 2 ^ 16 ∧ t.bit GLASS.TVALID.VALID tab = false ∧
        (∀ i, i < 4 → i ≠ tab → t.bit GLASS.TVALID.VALID i = s.bit GLASS.TVALID.VALID i) ∧
        t.get GLASS.TADDR.PHASE = (s.get GLASS.TADDR.PHASE + 1) % 16 ∧
        Same [] [w, GLASS.TVALID.VALID, GLASS.TADDR.PHASE] s t) ∧
      (∃ t, exec (.tableDataAccess p false v) s = .next t ∧ t.readData = BitVec.ofNat 32 (s.get w) ∧
        t.get GLASS.TADDR.PHASE = (s.get GLASS.TADDR.PHASE + 1) % 16 ∧ Same [.readData] [GLASS.TADDR.PHASE] s t)) ∧
    (let tab := x % 4
     let sum := fun j : Nat => ((s.phases tab).map (fun w => phaseSign w j * (w % 256 : Nat))).sum
     (v.getLsbD 8 = false → exec (.tableCheck p v) s = .next s) ∧
     (v.getLsbD 8 = true → ∃ t, exec (.tableCheck p v) s = .next t ∧
       ((∀ j, j < 4 → sum j = 0) → t.bit GLASS.TVALID.VALID tab = true ∧ Same [] [GLASS.TVALID.VALID] s t) ∧
       (∀ j, j < 4 → sum j ≠ 0 → t.bit GLASS.TVALID.VALID tab = false ∧ t.on GLASS.STATUS.TBLREF = true) ∧
       (∀ i, i < 4 → i ≠ tab → t.bit GLASS.TVALID.VALID i = s.bit GLASS.TVALID.VALID i) ∧
       Same [] [GLASS.TVALID.VALID, GLASS.STATUS.TBLREF] s t)) ∧
    (∀ (r : Fin 8) (high : Bool),
      let f := if high then GLASS.RMHI.MASK r else GLASS.RMLO.MASK r
      let m := if high then s.get (GLASS.RMLO.MASK r) + 2 ^ 32 * (x % 2 ^ 20) else x + 2 ^ 32 * s.get (GLASS.RMHI.MASK r)
      let refuses := (∃ q : Fin 8, q ≠ r ∧ m &&& s.regionMask q ≠ 0) ∨
        s.on GLASS.TFLAG.EN = true ∧ m.testBit (s.get GLASS.TFLAG.SEG) = true ∨ (∃ e ∈ s.glass.pend, e.1 = r.val) ∨
        ∃ u, s.glass.upd = some u ∧ u.region = r.val
      (refuses → ref (.regionMaskWrite p r high v) GLASS.STATUS.REQREF) ∧
      (¬ refuses → ∃ t, exec (.regionMaskWrite p r high v) s = .next t ∧ t.get f = x % 2 ^ f.w ∧ Same [] [f] s t)) ∧
    (let r := x % 8
     let req : GlassReq := ⟨s.get GLASS.RQLO.DARK + 2 ^ 32 * s.get GLASS.RQHI.DARK, field x 4 2, field x 8 4⟩
     let takes := s.get GLASS.CTRL.MODE = 1 ∧ s.on GLASS.CTRL.EN = true ∧ s.regionMask r ≠ 0 ∧
       s.bit GLASS.TVALID.VALID req.table = true ∧ s.get (PERMIT.SLOT.STATE req.permit) = 2 ∧
       s.get (PERMIT.SLOT.HOLDER req.permit) = s.holder p ∧ 60 ≤ s.get (PERMIT.SLOT.DRAW req.permit)
     (¬ takes → ref (.glassUpdateRequest p v) GLASS.STATUS.REQREF) ∧
     (takes → s.glass.upd ≠ none → ∃ t, exec (.glassUpdateRequest p v) s = .next t ∧
       t.glass = { s.glass with pend := s.glass.pend.filter (fun e => e.1 != r) ++ [(r, req)] } ∧
       ((∃ e ∈ s.glass.pend, e.1 = r) → t.get GLASS.BSTAT.LASTRES = 6 ∧ t.get GLASS.BSTAT.LASTREG = r ∧ Arrived 0x51 s t ∧
         (s.get GLASS.NSUP.COUNT + 1 < 2 ^ GLASS.NSUP.COUNT.w → t.get GLASS.NSUP.COUNT = s.get GLASS.NSUP.COUNT + 1)) ∧
       ((∀ e ∈ s.glass.pend, e.1 ≠ r) → Same [.glass] [] s t) ∧
       Same [.glass] ([GLASS.BSTAT.LASTRES, GLASS.BSTAT.LASTREG, GLASS.NSUP.COUNT, GLASS.NSUP.SAT] ++ arrivalOf 0x51) s t) ∧
     (takes → s.glass.upd = none → s.glass.pend = [] → s.glass.flagOwed = false →
       ∃ t u, exec (.glassUpdateRequest p v) s = .next t ∧ t.glass = { s.glass with upd := some u } ∧ u.region = r ∧
         u.mask = s.regionMask r ∧ u.req = req ∧ u.began = none ∧ u.stopAt = none ∧
         t.jrnl = { s.jrnl with staged := s.jrnl.staged ++ [u.started] } ∧ Same [.glass, .jrnl] [] s t))

/-- R449, R450, R455, R457, R461: the frame boundary of a multiplexed panel, the panel temperature, the charge pump's fault,
the end of the outage view, and the beginning and the end of an update: with all of its phases driven every segment is
balanced. It rests on the model's choices in log entries 1, 3, 7, 14, 15 and 46. -/
def Obligations.GlassEvents : Prop :=
  ∀ (s : State), s.part.optG = true →
    let G := s.glass
    let more := fun (t : State) => KeptOutside 0x2000B000 0x2000B400 s t ∧
      Frame [.glass, .jrnl, .pwr, .free, .mem] (fun f => f.unit = 0x38 ∨ f.unit = 3 ∨ f ∈ arrivalOf 0x50) s t
    (s.glassOn = true →
      (s.on GLASS.CTRL.EN = true → s.get GLASS.CTRL.MODE = 0 → ∃ t, exec .lcdFrameBoundary s = .next t ∧
        (∀ f ∈ [GLASS.LCDCFG.H, GLASS.LCDCFG.GDIV, GLASS.LCDCFG.BIAS, GLASS.LCDCFG.MUX], t.eff f = s.get f) ∧
        (∀ c, c < 8 → t.eff (GLASS.LIMGLO.SEG c) = s.get (GLASS.LIMGLO.SEG c) ∧
          t.eff (GLASS.LIMGHI.SEG c) = s.get (GLASS.LIMGHI.SEG c)) ∧
        t.glass = { G with pump := t.glass.pump, frames := G.frames + 1 } ∧
        (let target := t.get GLASS.TEMP.VOUT
         (s.on GLASS.NTC.NTCEN = true → 2500 ≤ target ∧ target ≤ 6000) ∧
         (s.on GLASS.NTC.NTCEN = false → target = s.get GLASS.VLCD.VSET % 2 ^ 16) ∧
         (G.pump ≤ target → G.pump ≤ t.glass.pump ∧ t.glass.pump ≤ target ∧ t.glass.pump ≤ G.pump + 10) ∧
         (target ≤ G.pump → target ≤ t.glass.pump ∧ t.glass.pump ≤ G.pump ∧ G.pump ≤ t.glass.pump + 10) ∧
         (t.on GLASS.STATUS.PUMPOK = true ↔ (97 * target ≤ 100 * t.glass.pump ∧ 100 * t.glass.pump ≤ 103 * target))) ∧
        Same [.force, .glass, .free] [GLASS.TEMP.VOUT, GLASS.STATUS.PUMPOK] s t) ∧
      (s.on GLASS.NTC.NTCEN = true → G.ntcAt + 32000 ≤ s.clock.grain →
        (∃ t, exec (.ntcRequest none) s = .next t ∧
          t.glass = { G with ntcAt := s.clock.grain, ntcDrops := G.ntcDrops + 1 } ∧
          (7 ≤ G.ntcDrops → t.on GLASS.STATUS.TSTALE = true) ∧
          (G.ntcDrops < 7 → t.get GLASS.STATUS.TSTALE = s.get GLASS.STATUS.TSTALE) ∧
          Same [.glass] [GLASS.STATUS.TSTALE] s t) ∧
        (∀ x : Int, ∃ t, exec (.ntcRequest (some x)) s = .next t ∧
          t.glass = { G with ntcAt := s.clock.grain, ntcDrops := 0 } ∧ t.on GLASS.STATUS.TSTALE = false ∧
          t.get GLASS.TEMP.T = wrapN 16 (2500 + Config.round ((x - s.get GLASS.NTC.C0) * sextN 16 (s.get GLASS.NTCK.K)) 10) ∧
          2500 ≤ t.get GLASS.TEMP.VOUT ∧ t.get GLASS.TEMP.VOUT ≤ 6000 ∧
          Same [.glass] [GLASS.STATUS.TSTALE, GLASS.TEMP.T, GLASS.TEMP.VOUT] s t)) ∧
      (s.on GLASS.CTRL.EN = true → ∃ t, exec .pumpFault s = .next t ∧ t.on GLASS.STATUS.PUMPFLT = true ∧
        t.on GLASS.CTRL.EN = false ∧ t.on GLASS.STATUS.PUMPOK = false ∧ Arrived 0x52 s t ∧
        Same [] ([GLASS.STATUS.PUMPFLT, GLASS.CTRL.EN, GLASS.STATUS.PUMPOK] ++ arrivalOf 0x52) s t) ∧
      (∀ u, G.upd = some u → u.began = none → s.covered u.started = true → u.region < 8 →
        let good := s.get (PERMIT.SLOT.STATE u.req.permit) = 2 ∧
          s.updGrains u.req.table ≤ s.get (PERMIT.REM.GRAINS u.req.permit)
        (good → ∃ t, exec .glassUpdateStart s = .next t ∧ t.on GLASS.STATUS.BUSY = true ∧
          t.glass = { G with
            upd := some { u with began := some s.clock.rtc, gdiv := s.get GLASS.LCDCFG.GDIV, bal0 := G.bal } } ∧
          Same [.glass] [GLASS.STATUS.BUSY] s t) ∧
        (¬ good → ∃ t, exec .glassUpdateStart s = .next t ∧ t.get GLASS.BSTAT.LASTRES = 5 ∧
          t.get GLASS.BSTAT.LASTREG = u.region ∧ Arrived 0x50 s t ∧ more t))) ∧
    (∀ u b, G.upd = some u → u.began = some b → u.region < 8 → b ≤ s.clock.rtc →
      let e := s.clock.rtc - b
      let c := compCycles u.bal0
      let mask := u.mask % 2 ^ 52
      let ended := fun (t : State) (res : Nat) => t.get GLASS.BSTAT.LASTRES = res ∧ t.get GLASS.BSTAT.LASTREG = u.region ∧
        t.on GLASS.STATUS.BUSY = false ∧ Arrived 0x50 s t ∧ more t
      (∀ stop res, u.stopAt = some (stop, res) → stop ≤ e → res < 16 → ∃ t, exec .glassUpdateEnd s = .next t ∧ ended t res ∧
        t.on GLASS.BSTHI.UNKNOWN = true ∧ ∀ n, n < 52 → t.glass.bal.getD n 0 = s.balAt u stop n) ∧
      (s.glassOn = true → u.stopAt = none → 66 + c.1 + c.2 + s.phaseCycles u.req.table u.gdiv ≤ e → u.mask < 2 ^ 52 →
        s.get GLASS.BSTLO.DARK < 2 ^ 32 → s.get GLASS.BSTHI.DARK < 2 ^ 20 →
        ∃ t, exec .glassUpdateEnd s = .next t ∧ ended t 1 ∧ t.on GLASS.STATUS.BALUNK = false ∧
          t.on GLASS.BSTHI.UNKNOWN = false ∧
          (∀ n, n < 52 → t.bst.testBit n = if mask.testBit n then u.req.image.testBit n else s.bst.testBit n) ∧
          (u.bal0.length = 52 → s.tableOk u.req.table = true → (∀ n, u.classes.getD n 0 < 4) →
            ∀ n, n < 52 → t.glass.bal.getD n 0 = 0))) ∧
    (∀ v, G.viewEnd = some v → v ≤ s.clock.rtc → ∃ t, exec .outageViewEnd s = .next t ∧ t.on GLASS.STATUS.VIEWON = false ∧
      t.glass = { G with viewEnd := none } ∧ Same [.glass] [GLASS.STATUS.VIEWON] s t)

/-- R466–R471: what a tick does to each source: its detectors are read and its latches cleared, the combined value makes an
event where it becomes true or a clear was applied, the N-th event within WIN seconds puts an alarm up for decision, DFWIN
ticks of disagreement set DETFLT, and a tested source yields no event. It rests on the model's choices in log entries 1, 3,
7 and 47. -/
def Obligations.TamperTick : Prop :=
  ∀ (s : State) (ti : TickIn) (n : Fin 8), s.power = .on → s.tamp.lastTick + 1024 ≤ s.clock.rtc →
    let x := s.tamp.src[n]
    let r := s.readSource n ti
    let tested := bitOf s.tamp.test n
    let fails := bitOf ti.testFail n
    let en := s.on (TAMP.CFG.EN n)
    let a1 := en && s.on (TAMP.CFG.D1EN n) && r.2.1
    let a2 := en && s.on (TAMP.CFG.D2EN n) && r.2.2
    let v1 := r.1.val1
    let v2 := r.1.val2
    let held := (a1 = true ∧ a2 = true ∧ (s.on (TAMP.CFG.COMB n) = true → v1 = true ∨ v2 = true) ∧
        (s.on (TAMP.CFG.COMB n) = false → v1 = true ∧ v2 = true)) ∨
      (a1 = true ∧ a2 = false ∧ v1 = true) ∨ (a1 = false ∧ a2 = true ∧ v2 = true)
    let event := held ∧ (x.comb = false ∨ x.cleared = true)
    let past := x.hist.filter (fun e => decide (s.clock.rtc ≤ e + s.get (TAMP.CFG.WIN n) * 32768))
    let alarm := event ∧ s.get (TAMP.CFG.N n) ≤ past.length + 1
    let apart := a1 = true ∧ a2 = true ∧ v1 ≠ v2
    let what := Decision.alarm n (s.get (TAMP.CFG.RESP n) ||| 1) false
    let ups := fun u : State => (u.second.filter (fun d => decide (d.what = what))).length
    ∃ t, exec (.tamperTick ti) s = .next t ∧ t.tamp.lastTick = s.clock.rtc ∧ t.tamp.test = 0 ∧ t.tamp.ring = s.tamp.ring ∧
      (let y := t.tamp.src[n]
       y.latch1 = false ∧ y.latch2 = false ∧ y.code1 = r.1.code1 ∧ y.code2 = r.1.code2 ∧ y.drop1 = r.1.drop1 ∧
       y.drop2 = r.1.drop2 ∧ y.cleared = (tested && x.cleared) ∧ t.bit TAMP.AVAIL.D1 n = r.2.1 ∧
         t.bit TAMP.AVAIL.D2 n = r.2.2 ∧
       t.bit TAMP.STATE.COMB n = y.comb ∧ t.bit TAMP.STATE.D1 n = y.val1 ∧ t.bit TAMP.STATE.D2 n = y.val2 ∧
       (tested = false →
         (y.comb = true ↔ held) ∧ y.val1 = v1 ∧ y.val2 = v2 ∧
         (alarm → y.hist = [] ∧ ups t = ups s + 1) ∧
         (¬ alarm → ups t = ups s ∧ y.hist = if y.comb && (!x.comb || x.cleared) then past ++ [s.clock.rtc] else x.hist) ∧
         (a1 = true → a2 = true → y.apart = if v1 = v2 then 0 else x.apart + 1) ∧
         (a1 = false ∨ a2 = false → y.apart = x.apart) ∧
         (apart → x.apart + 1 = s.get TAMP.DFWIN.TICKS → t.bit TAMP.STICKY.DETFLT n = true ∧
           t.bit (IRQ.SPEND.PEND 1) 17 = true ∧ .evidence ∈ t.jrnl.due ∧
           ∃ rec ∈ t.jrnl.staged, rec.type = 8 ∧ rec.body.take 2 = [BitVec.ofNat 8 n, 2]) ∧
         (¬ apart → s.get TAMP.DFWIN.TICKS ≠ 0 → t.bit TAMP.STICKY.DETFLT n = s.bit TAMP.STICKY.DETFLT n)) ∧
       (tested = true → y.comb = x.comb ∧ y.hist = x.hist ∧ y.apart = x.apart ∧ ups t = ups s ∧
         t.bit TAMP.TESTRES.DONE n = true ∧
         (fails = true → t.bit TAMP.TESTRES.FAIL n = true ∧ t.bit TAMP.STICKY.DETFLT n = true) ∧
         (fails = false → t.bit TAMP.TESTRES.FAIL n = s.bit TAMP.TESTRES.FAIL n ∧
           t.bit TAMP.STICKY.DETFLT n = s.bit TAMP.STICKY.DETFLT n))) ∧
      Same [.tamp, .second, .jrnl, .free] ([TAMP.STATE.D1, TAMP.STATE.D2, TAMP.STATE.COMB, TAMP.AVAIL.D1, TAMP.AVAIL.D2,
        TAMP.TESTRES.DONE, TAMP.TESTRES.FAIL, TAMP.STICKY.DETFLT] ++ arrivalOf 0x41) s t

/-- R462, R463, R465, R471, R553: the latches of the tamper supervisor, a test asked for at OWNER level, and the two
detectors of the crack loop. -/
def Sys2Proof.Claims.TamperInputs : Prop :=
  ∀ (s : State), s.power = .on →
    let G := s.glass
    let latch := fun (c : Instr) (t : State) (n : Fin 8) => exec c s = .next t ∧
      t.tamp = { s.tamp with src := s.tamp.src.set n { s.tamp.src[n] with latch1 := true } } ∧ Same [.tamp] [] s t
    (∃ t, latch .supplyGlitch t 4) ∧ (∃ t, latch .testPortLeaveReset t 7) ∧ exec .testLogicReset s = .next s ∧
    (∀ (p : Proc) (v : Word), AtOnce s p → 2 ≤ s.level → exec (.tamperTest p v) s =
      .next { s with tamp := { s.tamp with test := s.tamp.test ||| v.toNat % 256 } }) ∧
    (s.part.optG = true → s.on GLASS.CRKCFG.EN = true → G.crkAt + s.get GLASS.CRKCFG.PER * 32768 ≤ s.clock.rtc →
      (∃ t, exec (.crackReading none) s = .next t ∧ t.glass = { G with crkAt := s.clock.rtc, crkDrops := G.crkDrops + 1 } ∧
        (3 ≤ G.crkDrops → t.on GLASS.CRKSTAT.STALE = true) ∧
        (G.crkDrops < 3 → t.get GLASS.CRKSTAT.STALE = s.get GLASS.CRKSTAT.STALE) ∧ Same [.glass] [GLASS.CRKSTAT.STALE] s t) ∧
      (∀ code : Int, -32768 ≤ code → code ≤ 0 → ∃ t, exec (.crackReading (some code)) s = .next t ∧
        let rd := (-code).toNat
        let base := s.get GLASS.CRKBASE.R
        t.get GLASS.CRKRES.R = rd ∧ t.on GLASS.CRKRES.VALID = true ∧ t.on GLASS.CRKSTAT.STALE = false ∧
        t.glass.crkAt = s.clock.rtc ∧ t.glass.crkDrops = 0 ∧
        (t.on GLASS.CRKSTAT.OPEN = true ↔ code = -32768) ∧
        (t.on GLASS.CRKSTAT.DRIFT = true ↔ s.on GLASS.CRKBASE.VALID = true ∧
          s.get GLASS.CRKCFG.LIM * base < (if base ≤ rd then rd - base else base - rd) * 1000) ∧
        (8 ≤ G.learn.length → t.glass.learn = G.learn ∧ t.on GLASS.CRKSTAT.BASENEW = false) ∧
        (G.learn.length < 8 → t.glass.learn = G.learn ++ [rd]) ∧
        (G.learn.length < 7 → t.on GLASS.CRKSTAT.BASENEW = false ∧ t.get GLASS.CRKBASE.R = base) ∧
        (G.learn.length = 7 → (∀ e ∈ G.learn, e < 2 ^ 16) → t.on GLASS.CRKSTAT.BASENEW = true ∧
          t.on GLASS.CRKBASE.VALID = true ∧
          8 * t.get GLASS.CRKBASE.R < (G.learn ++ [rd]).sum + 8 ∧ (G.learn ++ [rd]).sum < 8 * t.get GLASS.CRKBASE.R + 8) ∧
        Same [.glass] [GLASS.CRKRES.R, GLASS.CRKRES.VALID, GLASS.CRKSTAT.STALE, GLASS.CRKSTAT.OPEN, GLASS.CRKSTAT.DRIFT,
          GLASS.CRKSTAT.BASENEW, GLASS.CRKBASE.R, GLASS.CRKBASE.VALID] s t)) ∧
    (s.part.optG = true → G.pulseAt + s.get GLASS.CRKPCFG.PPER * 1024 ≤ s.clock.rtc → ∀ ok : Bool,
      ∃ t, exec (.crackPulseCheck ok) s = .next t ∧
        t.glass = { G with pulseAt := s.clock.rtc, pulseFails := if ok then 0 else G.pulseFails + 1 } ∧
        (t.on GLASS.CRKSTAT.PFAIL = true ↔ ok = false ∧ 1 ≤ G.pulseFails) ∧ Same [.glass] [GLASS.CRKSTAT.PFAIL] s t)

/-- R481, R483, R485, R489, R491: a session ends by a close or by idle time, to CLOSED or to OWNER before the production lock;
a nonce ends after its 60 s; a measurement word read; the oldest quote signed and answered. -/
def Sys2Proof.Claims.AccessSessions : Prop :=
  ∀ (s : State), s.power = .on →
    let ended := fun t : State => t.level = (if s.on ACCESS.LEVEL.PLOCK then 0 else 2) ∧ t.get ACCESS.LEVEL.LEVEL = 0 ∧
      (t.level ≠ s.level → Arrived 0x43 s t) ∧ (t.level = s.level → Same [] [ACCESS.LEVEL.LEVEL] s t) ∧
      Same [] (ACCESS.LEVEL.LEVEL :: arrivalOf 0x43) s t
    (∃ t, exec .accessClose s = .next t ∧ ended t) ∧
    (s.get ACCESS.LEVEL.LEVEL ≠ 0 → s.access.lastAuth + s.get ACCESS.CTRL.IDLE * 60 * 32768 ≤ s.clock.rtc →
      ∃ t, exec .sessionIdleTimeout s = .next t ∧ ended t) ∧
    (∀ x due, s.access.nonce = some (x, due) → due ≤ s.clock.rtc →
      exec .nonceExpiry s = .next { s with access := { s.access with nonce := none } }) ∧
    (∀ p, let b := s.copyOf p
      s.get (ACCESS.MSEL.REG b) < 4 → ∃ t, exec (.measDataRead p) s = .next t ∧
        t.readData = BitVec.ofNat 32 (leNat (((s.access.meas.toList.getD (s.get (ACCESS.MSEL.REG b)) []).drop
          (4 * s.get (ACCESS.MSEL.WORD b))).take 4)) ∧
        t.get (ACCESS.MSEL.WORD b) = (s.get (ACCESS.MSEL.WORD b) + 1) % 8 ∧ Same [.readData] [ACCESS.MSEL.WORD b] s t) ∧
    (∀ q rest, s.access.quotes = q :: rest →
      let body := answerPrefix 0 0 q.seq ++ q.body ++ padTo 64 (Config.sign (sha256 q.body))
      s.link.owed = false → 16 + body.length ≤ s.outFree → ∃ t, exec .quoteSigned s = .next t ∧
        t.access = { s.access with quotes := rest } ∧
        t.link.outb = s.link.outb ++ [parcelBytes 0x84 0 (s.get HOST.OUTSEQ.SEQ) body] ∧
        t.get HOST.OUTSEQ.SEQ = (s.get HOST.OUTSEQ.SEQ + 1) % 2 ^ 32 ∧ t.get HOST.WMARK.SEQ = q.seq % 2 ^ 32 ∧
        (t.link.stored.getLast? = some ⟨q.seq, 0x84, body⟩) ∧ t.link.inb = s.link.inb ∧
        Same [.access, .link] [HOST.OUTSEQ.SEQ, HOST.WMARK.SEQ] s t)

/-- Both: `Claims.TamperInputs` and `Claims.AccessSessions`. It rests on the model's choices in log entries 1, 3, 9 and 16.
-/
def Obligations.TamperInputsAndSessions : Prop := Claims.TamperInputs ∧ Claims.AccessSessions


/-- R498, R499: a permit given back by its holder, withdrawn, or ended because its hold has run out: its slot is free and
source 0x36 raised; what holds it stops; and the grantor at a grain boundary, which grants the queued requests class by
class in order of arrival up to the first that does not fit. It rests on the model's choices in log entries 1, 16 and 18. -/
def Obligations.PermitsGrantedAndEnded : Prop :=
  ∀ (s : State), s.power = .on →
    let slot := fun n : Nat => [PERMIT.SLOT.STATE n, PERMIT.SLOT.HOLDER n, PERMIT.SLOT.CLASS n, PERMIT.SLOT.DRAW n,
      PERMIT.REM.GRAINS n]
    let counts := [PERMIT.REVOKES.COUNT, PERMIT.REVOKES.SAT, PERMIT.STATUS.REVOKED]
    let uses := fun (n : Nat) (f : Option TxFrame) => ∃ g, f = some g ∧ g.permit = some n
    let idle := fun n : Nat => ¬ (s.get CAPT.STATUS.STATE = 5 ∧ s.capt.permit = n) ∧ s.selfCal = none ∧
      ¬ uses n s.modem.tx ∧ ¬ uses n s.modem.ack ∧ ∀ u, s.glass.upd = some u → u.req.permit ≠ n
    let draws := fun n : Nat => s.get CAPT.STATUS.STATE = 5 ∧ s.capt.permit = n
    -- what the end of permit n does, counted or not
    let ends := fun (n : Nat) (t : State) => (s.glass.flagOwed = false → t.get (PERMIT.SLOT.STATE n) = 0 ∧
        t.get (PERMIT.SLOT.HOLDER n) = 0xFF ∧ t.get (PERMIT.SLOT.DRAW n) = 0) ∧ t.bit (IRQ.SPEND.PEND 1) 6 = true ∧
      (idle n → t.mem = s.mem ∧ t.pwr = { s.pwr with queue := s.pwr.queue.erase n, grants := s.pwr.grants.erase n } ∧
        Same [.pwr] (slot n ++ counts ++ arrivalOf 0x36) s t) ∧
      (draws n → t.get CAPT.STATUS.STATE = 4 ∧ t.on CAPT.STATUS.INCOMPLETE = true ∧ t.bit (IRQ.SPEND.PEND 0) 26 = true) ∧
      (∀ f, s.part.optL = true → s.modem.tx = some f → f.permit = some n → s.modem.ack = none →
        s.on MODEM.STATUS.TXBUSY = true → s.on MODEM.STATUS.TXON = false →
        t.modem.tx = none ∧ t.on MODEM.STATUS.TXBUSY = false ∧ t.get MODEM.TXRES.RESULT = 4) ∧
      (∀ c, s.selfCal = some c → c.permit = n → t.selfCal = none ∧ t.on TRIM.STATUS.SCABORT = true) ∧
      KeptOutside 0x2000B000 0x2000B400 s t ∧ t.clock = s.clock ∧ t.cores = s.cores ∧ t.lanes = s.lanes ∧ t.slots = s.slots
    (∀ (p : Proc) (v : Word), AtOnce s p →
      let n := v.toNat % 16
      let own := s.get (PERMIT.SLOT.STATE n) ≠ 0 ∧ s.get (PERMIT.SLOT.HOLDER n) = s.holder p
      (own → ∃ t, exec (.permitRelease p v) s = .next t ∧ ends n t ∧
        t.get PERMIT.REVOKES.COUNT = s.get PERMIT.REVOKES.COUNT) ∧
      (¬ own → ∃ t, exec (.permitRelease p v) s = .next t ∧ t.on PERMIT.STATUS.RELREF = true ∧
        Same [] [PERMIT.STATUS.RELREF] s t)) ∧
    (∀ n : Fin 16, s.get (PERMIT.SLOT.STATE n) = 2 → s.get (PERMIT.REM.GRAINS n) = 0 →
      ∃ t, exec (.permitExpiry n) s = .next t ∧ ends n t ∧ t.on PERMIT.STATUS.REVOKED = true ∧
        (s.get PERMIT.REVOKES.COUNT + 1 < 2 ^ PERMIT.REVOKES.COUNT.w →
          t.get PERMIT.REVOKES.COUNT = s.get PERMIT.REVOKES.COUNT + 1)) ∧
    (s.on PERMIT.STATUS.FROZEN = true ∨ s.clock.phase ≠ 0 → exec .permitQueuedGrant s = .next s) ∧
    (let inOrder := ([0, 1, 2, 3] : List Nat).flatMap (fun c =>
      s.pwr.queue.filter (fun n => s.get (PERMIT.SLOT.CLASS n) == c))
     let total := fun l : List Nat => (l.map (fun n => s.get (PERMIT.SLOT.DRAW n))).sum
     s.on PERMIT.STATUS.FROZEN = false → s.clock.phase = 0 → s.pwr.queue.Nodup →
     (∀ n ∈ s.pwr.queue, n < 16 ∧ n ∉ s.pwr.grants) →
      ∃ t k, exec .permitQueuedGrant s = .next t ∧ k ≤ inOrder.length ∧ t.pwr.grants = s.pwr.grants ++ inOrder.take k ∧
        (∀ n, n ∈ t.pwr.queue ↔ n ∈ s.pwr.queue ∧ n ∉ inOrder.take k) ∧
        (∀ n ∈ inOrder.take k, t.get (PERMIT.SLOT.STATE n) = 2) ∧
        (0 < k → t.bit (IRQ.SPEND.PEND 1) 5 = true ∧ total t.pwr.grants ≤ s.grantable) ∧
        (∀ n, inOrder[k]? = some n → s.grantable < total t.pwr.grants + s.get (PERMIT.SLOT.DRAW n)) ∧
        Same [.pwr] ((inOrder.take k).map PERMIT.SLOT.STATE ++ arrivalOf 0x35) s t) ∧
    (s.baseCamp = false → s.get PWR.HOSTTO.SEC ≠ 0 → s.link.lastIn + s.get PWR.HOSTTO.SEC * 32768 ≤ s.clock.rtc →
      exec .hostAbsenceTimeout s = .next { s with pwr := { s.pwr with absence := true } })

/-- R258, R318, R329, R335, R345, R346, R441, R495: the supply-fail warning, the closing snapshots while it lasts, and its
end. It rests on the model's choices in log entries 1, 3, 36 and 48. -/
def Obligations.SupplyFailure : Prop :=
  ∀ (s : State), s.power = .on →
    let port := fun (t : State) (x : Nat) =>
      let by' := s.get (LEASE.HOLD.HOLDER x)
      (s.get (LEASE.HOLD.STATE x) = 1 → by' ≠ 0x10 → t.get (LEASE.HOLD.STATE x) = 2 ∧ t.on (LEASE.HOLD.SUPWAIT x) = true) ∧
      (s.get (LEASE.HOLD.STATE x) = 0 → t.get (LEASE.HOLD.STATE x) = 1 ∧ t.get (LEASE.HOLD.HOLDER x) = 0x10) ∧
      (s.get (LEASE.HOLD.STATE x) = 1 → by' = 0x10 → t.get (LEASE.HOLD.STATE x) = 1 ∧ t.get (LEASE.HOLD.HOLDER x) = 0x10)
    (∀ cell : BitVec 16, s.clock.pllLock = true → s.on PWR.STATE.SFW = false →
      ∃ t, exec (.supplyFailWarning cell) s = .next t ∧ t.on PWR.STATE.SFW = true ∧ t.on PERMIT.STATUS.FROZEN = true ∧
        t.bit (IRQ.SPEND.PEND 1) 12 = true ∧ t.get PWR.CELL.MV = cell.toNat ∧
        (t.on PWR.STATE.CELLOK = true ↔ 2400 ≤ cell.toNat) ∧ t.pwr.warnAt = some s.clock.grain ∧
        t.jrnl.cairnPend = none ∧ .final ∈ t.jrnl.due ∧ port t 0 ∧ port t 1 ∧
        (s.pq.ports[0].int = none → t.on PQ.STATUS.SUPINT = true ∧ t.pq.supply.isSome = true) ∧
        (s.get CAPT.STATUS.STATE ∈ [1, 3] → t.get CAPT.STATUS.STATE = 4 ∧ t.on CAPT.STATUS.INCOMPLETE = true) ∧
        (∀ f, s.modem.tx = some f → s.modem.ack = none → s.on MODEM.STATUS.TXBUSY = true → s.on MODEM.STATUS.TXON = false →
          t.modem.tx = none ∧ t.get MODEM.TXRES.RESULT = 4) ∧
        (s.selfCal.isSome = true → t.selfCal = none ∧ t.on TRIM.STATUS.SCABORT = true) ∧
        (s.selfCal = none → t.streams = s.streams) ∧
        (∀ c ∈ [Comp.part, .force, .clock, .lanes, .cores, .power, .tracker, .pps, .cues, .chain, .quads, .progs,
          .rope, .slots, .pulse, .cairn, .aux, .irq, .tamp, .access, .link, .pending], c.same s t) ∧
        ∀ f : Fld, f.unit ∈ [0x00, 0x01, 0x02, 0x10, 0x11, 0x12, 0x13, 0x14, 0x18, 0x19, 0x20, 0x21, 0x30, 0x3C, 0x3D, 0x41,
          0x48] → t.get f = s.get f) ∧
    (∀ w, s.pwr.warnAt = some w → w < s.clock.grain → (s.clock.grain - w) % 64 = 0 →
      ∃ t, exec .closingSnapshot s = .next t ∧ .closing ∈ t.jrnl.due ∧ port t 0 ∧ port t 1 ∧
        ∀ c ∈ [Comp.clock, .mem, .lanes, .cores, .slots, .pwr, .cairn, .pq, .capt], c.same s t) ∧
    (s.on PWR.STATE.SFW = true → ∃ t, exec .supplyFailClear s = .next t ∧ t.on PWR.STATE.SFW = false ∧
      t.on PERMIT.STATUS.FROZEN = false ∧ t.pwr = { s.pwr with warnAt := none } ∧ t.bit (IRQ.SPEND.PEND 1) 13 = true ∧
      (s.pq.supply = none → Same [.pwr] ([PWR.STATE.SFW, PERMIT.STATUS.FROZEN] ++ arrivalOf 0x3D) s t) ∧
      (s.pq.supply ≠ none → t.on PQ.STATUS.SUPINT = false ∧ t.pq.supply = none) ∧
      ∀ c ∈ [Comp.clock, .lanes, .cores, .slots, .leases, .cairn, .capt], c.same s t)

/-- R347, R475, R509, R510: what asks for a reset of the module's own: the pre-reset belay falls due and the kind is kept
until the reset is made; a decision already taken stands. A watchdog served by its own core alone, its warning and its
expiry. It rests on the model's choices in log entries 1, 16 and 36. -/
def Obligations.ResetsDecided : Prop :=
  ∀ (s : State), s.power = .on →
    let decides := fun (c : Instr) (u : State) (kind : Nat) => ∃ t, exec c s = .next t ∧
      (s.pwr.reset = none → t.pwr = { u.pwr with reset := some ⟨kind, s.clock.grain⟩ } ∧ .prereset ∈ t.jrnl.due ∧
        ∀ x ∈ [0, 1], s.get (LEASE.HOLD.STATE x) = 0 → t.get (LEASE.HOLD.STATE x) = 1 ∧ t.get (LEASE.HOLD.HOLDER x) = 0x10) ∧
      (s.pwr.reset ≠ none → t = u) ∧ t.tamp = u.tamp ∧ ∀ k ∈ [Comp.clock, .mem, .lanes, .cores, .slots, .cairn], k.same s t
    decides .testPortReset s 0x0B ∧
    (s.tamp.zeroized = true → decides .zeroizeReset { s with tamp := { s.tamp with zeroized := false } } 0x0A) ∧
    (∀ (c : Fin 2) (v : Word), s.runs (.cc c) = true →
      (v.toNat % 256 = 0xC3 → decides (.resetRequest (.cc c) v) s 7) ∧
      (v.toNat % 256 ≠ 0xC3 → exec (.resetRequest (.cc c) v) s = .next s) ∧
      (∀ d : Fin 2, d = c ∧ v.toNat % 256 = 0x5A → exec (.watchdogServe (.cc c) d v) s = .next { s with
        pwr := { s.pwr with served := s.pwr.served.set c s.clock.now, warned := s.pwr.warned.set c false } }) ∧
      (∀ d : Fin 2, d ≠ c ∨ v.toNat % 256 ≠ 0x5A → exec (.watchdogServe (.cc c) d v) s = .next s)) ∧
    (∀ (c : Fin 2) (v : Word), s.runs (.cc c) = false →
      exec (.resetRequest (.cc c) v) s = .next s ∧ ∀ d, exec (.watchdogServe (.cc c) d v) s = .next s) ∧
    (∀ (c : Fin 2),
      let period := s.get (RST.WDCFG.PERIOD c) * 204800
      let warn := s.get (RST.WDCFG.WARN c) * 204800
      (s.pwr.warned[c] = false → s.pwr.served[c] + period ≤ s.clock.now + warn → ∃ t, exec (.watchdogWarn c) s = .next t ∧
        t.bit (IRQ.PPEND.PEND c) 9 = true ∧ t.pwr = { s.pwr with warned := s.pwr.warned.set c true } ∧
        Same [.pwr] [IRQ.PPEND.PEND c, IRQ.SCNT.COUNT (0x109 + 0x10 * c.val), IRQ.SCNT.SAT (0x109 + 0x10 * c.val)] s t) ∧
      (s.pwr.reset = none → s.pwr.served[c] + period ≤ s.clock.now → ∃ t, exec (.watchdogExpiry c) s = .next t ∧
        t.pwr.reset = some ⟨5, s.clock.grain⟩ ∧ .prereset ∈ t.jrnl.due ∧
        (s.on SYS.FAULT.VALID = false → t.get SYS.FAULT.CODE = 0x20 ∧ t.get SYS.FAULT.WHO = 0x10) ∧
        ∀ k ∈ [Comp.clock, .mem, .lanes, .cores, .slots, .cairn], k.same s t))

namespace Sys2Proof.Claims

/-- What a start of a kind leaves (R197, R290, R347, R349, R480, R509, R511, R512): the cause, the units by their survival
classes, no lane program, no cue, main SRAM clear, CYCLO at 0, the PLL not locked yet; a gap record owed. -/
structure Restarted (s t : State) (kind : Nat) (cold s1 : Bool) : Prop where
  power : t.power = .on
  cause : t.get RST.CAUSE.CAUSE = kind % 256
  prev : t.get RST.CAUSE.PREV = if cold then 0 else s.get RST.CAUSE.CAUSE % 256
  pll : t.clock.pllLock = false
  lanes : t.lanes = Vector.replicate 5 Lane.zero
  cues : t.cues = []
  staged : t.jrnl.staged = []
  gap : t.pwr.gap.isSome = true ∧ t.pwr.reset = none
  same : t.part = s.part ∧ t.pending = s.pending
  now : t.clock.now = 0
  pulses : cold = false → ∀ n : Fin 4, t.get (PULSE.BLOG.COUNT n) = s.pulse[n].held.blog % 2 ^ 16 ∧
    t.get (PULSE.CNT.COUNT n) = s.pulse[n].held.cnt % 2 ^ 32
  sram : ∀ a, 0x10000000 ≤ a → a < 0x20000000 → t.byte a = 0
  fields : ∀ f : Fld, f.unit ∈ [0x01, 0x02, 0x03, 0x14, 0x18, 0x19, 0x21, 0x24, 0x25, 0x30, 0x34, 0x40] →
    (cold = false → ∀ n, n < 4 → f ≠ PULSE.BLOG.COUNT n ∧ f ≠ PULSE.CNT.COUNT n) → t.get f = (match f.surv with
      | .s0 => f.reset
      | .s1 => if s1 then s.get f else f.reset
      | .s2 => if cold then f.reset else s.get f
      | .s3 | .s4 => s.get f)

/-- Totals and tariff are those of the newest valid generation, always-on SRAM not being retained at a cold start (R348,
R349); the epoch counts cold starts. -/
def Recovered (s t : State) (cold : Bool) : Prop :=
  let halves := if cold then none else newer (s.half 0) (s.half 1)
  let b := newer (newer s.cairn.stA s.cairn.stB) halves
  (∀ n : Fin 72, t.slots[n].tot = match b with | none => 0 | some x => (x.slots.getD n SlotImg.zero).tot) ∧
  t.get NRG.TARIFF.T = (match b with | none => 0 | some x => x.t % 2 ^ NRG.TARIFF.T.w) ∧
  ∀ x, b = some x → t.jrnl.epoch = (x.epoch + if cold then 1 else 0) % 2 ^ 16 ∧ t.jrnl.gen = x.gen ∧
    t.jrnl.lastord = x.lastord

/-- No write is open that a stop without warning could tear. -/
def Settled (s : State) : Prop := s.cairnWriting = false ∧ s.jrnl.carryPend = none ∧ s.jrnl.aonPend = none

end Sys2Proof.Claims

/-- R25, R72, R347, R348, R349, R509, R511, R530, R554: each kind of restart, and the lock of the PLL that ends it. It rests
on the model's choices in log entries 1, 2, 27, 28, 29 and 51. -/
def Obligations.Restarts : Prop :=
  ∀ (s : State),
    let starts := fun (c : Instr) (kind : Nat) => ∃ t, exec c s = .next t ∧ Restarted s t kind false false ∧
      (Settled s → Recovered s t false)
    (s.power = .on →
      (∀ d, s.pwr.reset = some d →
        (d.grain + 48 ≤ s.clock.grain ∨ .prereset ∉ s.jrnl.due ∧ s.jrnl.cairnPend = none ∧
          ∃ b, s.jrnl.committed = some b ∧ b.kind = 4 ∧ d.grain < b.snap) → starts .resetAssert d.kind) ∧
      starts .brownOut 4 ∧ (s.link.hvdd = true → starts .hreset 9)) ∧
    (s.link.hvdd = true → ∃ t, exec .hreset s = .next t ∧ t.get HOST.OUTSEQ.SEQ = 0 ∧ t.link.inb = [] ∧ t.link.outb = [] ∧
      (s.power ≠ .on → Same [.link] [HOST.OUTSEQ.SEQ] s t)) ∧
    (∀ aon save : Bool, s.power = .bivouac → s.pwr.saved = true → ∃ t, exec (.mainsReturn save aon) s = .next t ∧
      (aon = false → Restarted s t 1 true false ∧ Recovered s t true) ∧
      (aon = true → save = true → Restarted s t 3 false true ∧ Recovered s t false ∧
        t.get HOST.EXP.SEQ = (t.get HOST.WMARK.SEQ + 1) % 2 ^ 32 ∧ t.on HOST.STATUS.EXPVALID = true) ∧
      (aon = true → save = false → Restarted s t 2 false false ∧ Recovered s t false ∧ t.on RST.CAUSE.SAVEBAD = true)) ∧
    (∀ aon : Bool, (s.power = .off ∨ s.power = .bivouac ∧ s.pwr.saved = false ∧ aon = false →
        ∃ t, exec (.mainsUp aon) s = .next t ∧ Restarted s t 1 true false ∧ Recovered s t true) ∧
      (s.power = .bivouac → s.pwr.saved = false → aon = true →
        ∃ t, exec (.mainsUp aon) s = .next t ∧ Restarted s t 2 false false ∧ Recovered s t false)) ∧
    (s.power = .on → s.clock.pllLock = false → ∃ t, exec .pllLock s = .next t ∧ t.clock.pllLock = true ∧
      (s.clock.tie = none → t.clock.grain = 0 ∧ t.clock.phase = 0) ∧
      (∀ τ, s.clock.tie = some τ → τ.rtc ≤ s.clock.rtc → t.clock.phase < 6400 ∧
        6400 * t.clock.grain + t.clock.phase = 6400 * τ.grain + τ.phase + 6250 * (s.clock.rtc - τ.rtc)) ∧
      t.get TIME.TRK.STATE = 0 ∧ t.on NRG.BCSTAT.BCRUN = true ∧ t.tamp.ring = [] ∧
      (s.pwr.gap.isSome = true → ∃ r ∈ t.jrnl.staged, r.type = 5) ∧
      (t.link.owed = true ∨ ∃ b, t.link.outb.getLast? = some b ∧ byteAt b 2 = 0x85 ∧ byteAt b 16 = 1) ∧
      t.slots = s.slots ∧ t.cairn = s.cairn ∧ t.lanes = s.lanes)

/-- R72, R417, R461, R500, R503, R504, R505, R511: entry into BIVOUAC, the two ways into OFF, a window and a WAKE line in
BIVOUAC. It rests on the model's choices in log entries 1, 3, 23, 27 and 48. -/
def Obligations.BivouacAndOff : Prop :=
  ∀ (s : State),
    let enters := fun c : Instr => ∃ t, exec c s = .next t ∧ t.power = .bivouac ∧ t.pwr.saved = true ∧
      t.clock.slowPh = 0 ∧ t.clock.pllLock = false ∧ t.clock.tie = some ⟨t.clock.rtc, t.clock.grain, t.clock.phase⟩ ∧
      t.pwr.lastWindow = t.clock.rtc ∧ t.lanes = Vector.replicate 5 Lane.zero ∧ t.cues = [] ∧
      (∀ f : Fld, f.surv = .s0 → f ≠ HOST.OUTSEQ.SEQ → f ≠ RST.CAUSE.CAUSE → t.get f = f.reset) ∧
      ∀ a, 0x10000000 ≤ a → a < 0x20000000 → t.byte a = 0
    let off := fun c : Instr => ∃ t, exec c s = .next t ∧ t.power = .off ∧ t.mem = [] ∧
      t.lanes = Vector.replicate 5 Lane.zero ∧
      t.part = s.part ∧ t.pending = s.pending ∧ (∀ f : Fld, f.surv = .s3 ∨ f.surv = .s4 → t.get f = s.get f) ∧
      (∀ f : Fld, f.surv = .s0 ∨ f.surv = .s1 ∨ f.surv = .s2 → f ≠ HOST.OUTSEQ.SEQ → f ≠ RST.CAUSE.CAUSE →
        t.get f = f.reset)
    (s.power = .on → s.clock.pllLock = true → s.on PWR.STATE.SFW = true → s.on PWR.STATE.CELLOK = true →
      enters .bulkDropout ∧ ∀ w, s.pwr.warnAt = some w → w + 512 ≤ s.clock.grain → enters .bivouacEntryDecide) ∧
    (s.power = .on → s.on PWR.STATE.CELLOK = false → off .railCollapse) ∧
    (s.power = .bivouac → off .cellExhausted) ∧
    (∀ (codes : List Int) (ti : TickIn) (ok : Bool), codes.length ≠ 8 →
      exec (.bivouacWindow codes ti ok) s = .refused .illFormed) ∧
    (∀ (codes : List Int) (ti : TickIn) (ok : Bool), s.power = .bivouac → codes.length = 8 →
      s.pwr.lastWindow + (if s.pwr.alarmWatch = 0 then s.get PWR.BVCFG.PERIOD else 1) * 8192 ≤ s.clock.rtc →
      ∃ t, exec (.bivouacWindow codes ti ok) s = .next t ∧ t.power = .bivouac ∧ t.tamp.lastTick = s.clock.rtc ∧
        t.pwr = { s.pwr with lastWindow := s.clock.rtc, alarmWatch := s.pwr.alarmWatch - 1 } ∧
        (s.get PWR.BVWIN.COUNT + 1 < 2 ^ PWR.BVWIN.COUNT.w → t.get PWR.BVWIN.COUNT = s.get PWR.BVWIN.COUNT + 1) ∧
        (s.part.optG = true → t.glass.pulseFails = if ok then 0 else s.glass.pulseFails + 1) ∧
        ∀ n : Fin 8,
          let ch := s.get (PWR.BVCH.SEL n)
          let code := codes.getD n 0
          let lo := s.get (PWR.BVTHR.LO n)
          let hi := s.get (PWR.BVTHR.HI n)
          let used := s.bit PWR.BVCFG.EN n = true ∧ s.part.bvChannel ch = true
          let out := if auxSigned ch then code < sextN 16 lo ∨ sextN 16 hi < code else code < lo ∨ hi < code
          (used → t.get (PWR.BVLAST.CODE n) = wrapN 16 code ∧ (out → s.get (PWR.BVCNT.COUNT n) + 1 < 2 ^ 31 →
            t.get (PWR.BVCNT.COUNT n) = s.get (PWR.BVCNT.COUNT n) + 1) ∧
            (¬ out → t.get (PWR.BVCNT.COUNT n) = s.get (PWR.BVCNT.COUNT n))) ∧
          (¬ used → t.get (PWR.BVLAST.CODE n) = s.get (PWR.BVLAST.CODE n) ∧
            t.get (PWR.BVCNT.COUNT n) = s.get (PWR.BVCNT.COUNT n))) ∧
    (∀ (l : Fin 3) (rising : Bool), s.power = .bivouac → s.edgeMatches l rising = true →
      ∃ t, exec (.lineEdgeLatch l rising) s = .next t ∧ t.bit IRQ.XSTAT.LATCH l = true ∧
        t.pwr = (if s.on (IRQ.XCFG.WAKE l) then { s.pwr with alarmWatch := 256 } else s.pwr) ∧
        (l ≠ 0 → s.part.optG = true → s.on GLASS.VIEW.EN = true → s.get GLASS.CTRL.MODE = 0 →
          s.bit GLASS.VIEW.LINES (l.val - 1) = true → t.on GLASS.STATUS.VIEWON = true ∧
          t.glass.viewEnd = some (s.clock.rtc + 327680)))

namespace Sys2Proof.Claims

/-- The handler can act on parcel p now: it is the first in the inbound slots, its SEQ is EXP, nothing keeps the handler
waiting, and a payload of n bytes finds room in the outbound buffer (R470, R521, R522, R529). -/
def Ready (s : State) (p : InParcel) (n : Nat) : Prop :=
  s.power = .on ∧ s.deciding = false ∧ s.link.owed = false ∧ s.link.inb.head? = some p ∧ s.link.taken = false ∧
  s.on HOST.STATUS.EXPVALID = true ∧ p.seq = s.get HOST.EXP.SEQ ∧ s.outUsed + 16 + n ≤ 8192

/-- Parcel p has been answered by a parcel of a type, with code, sub-code and the rest of the payload: the next module SEQ, a
slot freed, EXP one on; an answer that is no FAULT makes the parcel accepted (R519–R523). -/
def Answered (s t : State) (p : InParcel) (type code sub : Nat) (rest : List Byte) : Prop :=
  let body := answerPrefix code sub p.seq ++ rest
  t.link.outb = s.link.outb ++ [parcelBytes type 0 (s.get HOST.OUTSEQ.SEQ) body] ∧
  t.get HOST.OUTSEQ.SEQ = (s.get HOST.OUTSEQ.SEQ + 1) % 2 ^ 32 ∧ t.link.inb = s.link.inb.tail ∧ t.link.taken = false ∧
  t.get HOST.EXP.SEQ = (p.seq + 1) % 2 ^ 32 ∧ t.on HOST.STATUS.EXPVALID = true ∧
  (type ≠ 0x85 → t.get HOST.WMARK.SEQ = p.seq % 2 ^ 32 ∧ t.link.lastIn = s.clock.rtc ∧
    t.link.stored.getLast? = some ⟨p.seq, type, body⟩) ∧
  (type = 0x85 → t.get HOST.WMARK.SEQ = s.get HOST.WMARK.SEQ ∧ t.link.stored = s.link.stored)

/-- The registers that an answer writes. -/
def answerFlds : List Fld := [HOST.OUTSEQ.SEQ, HOST.EXP.SEQ, HOST.STATUS.EXPVALID, HOST.WMARK.SEQ]

/-- Command c refuses parcel p with FAULT 0x06 and a sub-code, and does nothing else (R525). -/
def Refuses (c : Instr) (s : State) (p : InParcel) (sub : Nat) : Prop :=
  ∃ t, exec c s = .next t ∧ Answered s t p 0x85 6 sub [] ∧ Same [.link] answerFlds s t

/-- Command c accepts parcel p with the rest of its answer; besides the answer the components cs and fields fs may change. -/
def Accepts (c : Instr) (s : State) (p : InParcel) (rest : List Byte) (cs : List Comp) (fs : List Fld) (t : State) : Prop :=
  exec c s = .next t ∧ Answered s t p 0x81 0 0 rest ∧ Same (.link :: cs) (answerFlds ++ fs) s t

end Sys2Proof.Claims

/-- R516–R520, R522, R529, R531: the transactions of the host bus, the host die's supply, and composition by a program. It
rests on the model's choices in log entries 1, 7, 10, 16, 19 and 48. -/
def Obligations.HostBus : Prop :=
  ∀ (s : State),
    let L := s.link
    let status := BitVec.ofNat 32 s.statusWord
    let disc := fun (c : Instr) => ∃ t, exec c s = .next t ∧ (s.get HOST.NDISC.COUNT + 1 < 2 ^ HOST.NDISC.COUNT.w →
      t.get HOST.NDISC.COUNT = s.get HOST.NDISC.COUNT + 1) ∧ t.link.inb = L.inb ∧ t.link.outb = L.outb ∧
      Same [.link, .readData] [HOST.NDISC.COUNT, HOST.NDISC.SAT] s t
    (L.hvdd = false → exec .hvddUp s = .next { s with link := { L with hvdd := true, live := false, polHeld := true } }) ∧
    (L.hvdd = true → exec .hostDieReady s = .next { s with link := { L with live := true } }) ∧
    (∃ t, exec .hvddLoss s = .next t ∧ t.link.hvdd = false ∧ t.link.live = false ∧ t.link.inb = [] ∧ t.link.outb = [] ∧
      t.get HOST.OUTSEQ.SEQ = 0 ∧ Same [.link] [HOST.OUTSEQ.SEQ] s t) ∧
    (L.live = false → exec .spiStatus s = .next s ∧ exec .spiRepeat s = .next s ∧ exec .spiInvalidCommand s = .next s ∧
      (∀ w, exec (.spiRead w) s = .next s) ∧ ∀ n b, exec (.spiWrite n b) s = .next s) ∧
    (L.live = true →
      exec .spiStatus s = .next { s with readData := status, link := { L with miso := [] } } ∧
      exec .spiRepeat s = .next { s with readData := status, link := { L with miso := L.last.getD [] } } ∧
      disc .spiInvalidCommand ∧
      (L.outb = [] → ∀ w, exec (.spiRead w) s = .next { s with readData := status, link := { L with miso := [] } }) ∧
      (∀ p rest, L.outb = p :: rest →
        exec (.spiRead false) s = .next { s with readData := status, link := { L with miso := p } } ∧
        (L.owed = false → ∃ t, exec (.spiRead true) s = .next t ∧ t.readData = status ∧
          t.link = { L with miso := p, outb := rest, last := some p } ∧
          (s.outFree < 4112 → 4112 ≤ t.outFree → Arrived 0x59 s t) ∧
          (4112 ≤ s.outFree ∨ t.outFree < 4112 → Same [.link, .readData] [] s t) ∧
          Same [.link, .readData] (arrivalOf 0x59) s t) ∧
        (L.owed = true → 24 + L.report.length + s.outUsed ≤ 8192 + p.length → ∃ t, exec (.spiRead true) s = .next t ∧
          t.link.outb = rest ++ [parcelBytes 0x85 0 (s.get HOST.OUTSEQ.SEQ) (answerPrefix 1 0 0 ++ L.report)] ∧
          t.link.owed = false ∧ Same [.link, .readData] (HOST.OUTSEQ.SEQ :: arrivalOf 0x59) s t)) ∧
      (∀ (len : BitVec 24) (bytes : List Byte),
        let n := len.toNat
        let b := bytes.take n
        let takes := n ≤ bytes.length ∧ s.inFree ≠ 0 ∧ (s.mstate = 1 ∨ s.mstate = 2)
        let good := 16 ≤ n ∧ byteAt b 0 = 0x5A ∧ byteAt b 1 = 0xA5 ∧ 1 ≤ byteAt b 2 ∧ byteAt b 2 ≤ 4 ∧
          u16At b 8 ≤ 1008 ∧ u16At b 8 + 16 = n ∧ u32At b 12 = crc32c (b.take 12 ++ b.drop 16)
        (¬ takes → disc (.spiWrite len bytes)) ∧
        (takes → good → ∃ t slot, exec (.spiWrite len bytes) s = .next t ∧ t.readData = status ∧ slot < 8 ∧
          s.slotUsed slot = false ∧
          t.link = { L with miso := [], inb := L.inb ++ [⟨slot, byteAt b 2, u32At b 4, b.drop 16⟩] } ∧ Arrived 0x58 s t ∧
          Same [.link, .readData, .free] (arrivalOf 0x58) s t) ∧
        (takes → ¬ good → ∃ t, exec (.spiWrite len bytes) s = .next t ∧ t.link.inb = L.inb ∧ Arrived 0x5A s t ∧
          (s.get HOST.NBAD.COUNT + 1 < 2 ^ HOST.NBAD.COUNT.w → t.get HOST.NBAD.COUNT = s.get HOST.NBAD.COUNT + 1) ∧
          (8 ≤ n → L.owed = false → 24 ≤ s.outFree → t.link.outb =
            L.outb ++ [parcelBytes 0x85 0 (s.get HOST.OUTSEQ.SEQ) (answerPrefix 2 0 (u32At b 4))]) ∧
          Same [.link, .readData, .free] ([HOST.NBAD.COUNT, HOST.NBAD.SAT, HOST.OUTSEQ.SEQ] ++ arrivalOf 0x5A) s t))) ∧
    (s.power = .on → ∀ v : Word,
      (∃ t, exec (.outboundLenWrite v) s = .next t ∧ t.get HOST.OBLEN.LEN = v.toNat % 2 ^ 13 ∧
        t.link = { L with words := [] } ∧ Same [.link] [HOST.OBLEN.LEN] s t) ∧
      exec (.outboundDataWrite v) s = .next { s with link := { L with words := L.words ++ leBytes 4 v.toNat } } ∧
      (v.getLsbD 0 = false → exec (.outboundGo v) s = .next s) ∧
      (v.getLsbD 0 = true → s.outFree < 4112 → ∃ t, exec (.outboundGo v) s = .next t ∧
        Same [] [HOST.NDISC.COUNT, HOST.NDISC.SAT] s t) ∧
      (v.getLsbD 0 = true → v.getLsbD 1 = false → 4112 ≤ s.outFree → ∃ t, exec (.outboundGo v) s = .next t ∧
        t.link = { L with
          words := []
          outb := L.outb ++ [parcelBytes (field v.toNat 8 8) (if v.getLsbD 7 then 1 else 0) (s.get HOST.OUTSEQ.SEQ)
            (padTo (min 4096 (s.get HOST.OBLEN.LEN)) L.words)] } ∧
        t.get HOST.OUTSEQ.SEQ = (s.get HOST.OUTSEQ.SEQ + 1) % 2 ^ 32 ∧ Same [.link] [HOST.OUTSEQ.SEQ] s t) ∧
      (v.getLsbD 0 = true → v.getLsbD 1 = true → 4112 ≤ s.outFree → ∃ t, exec (.outboundGo v) s = .next t ∧
        (∀ p, p ∈ t.link.inb ↔ p ∈ L.inb ∧ p.slot ≠ field v.toNat 4 3) ∧ t.link.outb.length = L.outb.length + 1)) ∧
    (s.power = .on → ∀ p : Proc,
      let b := s.copyOf p
      let w := 4 * s.get (HOST.IBSEL.WORD b)
      ∃ t, exec (.inboundDataRead p) s = .next t ∧ t.get (HOST.IBSEL.WORD b) = (s.get (HOST.IBSEL.WORD b) + 1) % 256 ∧
        ((∀ q ∈ L.inb, q.slot ≠ s.get (HOST.IBSEL.SLOT b)) → t.readData = 0) ∧
        (∀ q rest, L.inb = q :: rest → q.slot = s.get (HOST.IBSEL.SLOT b) →
          t.readData = BitVec.ofNat 32 (u32At (parcelBytes q.type 0 q.seq q.body) w)) ∧
        Same [.readData] [HOST.IBSEL.WORD b] s t)

/-- R521, R522, R524: a parcel ahead of EXP gets FAULT 0x03, one behind it a stored answer again with DUP set, or FAULT
0x04; no slot is handled out of its turn, and nothing is acted on a second time. It rests on the model's choices in log
entries 1 and 19. -/
def Obligations.ParcelSequence : Prop :=
  ∀ (s : State) (p : InParcel), s.power = .on → s.deciding = false → s.link.owed = false → s.link.inb.head? = some p →
    s.link.taken = false → s.on HOST.STATUS.EXPVALID = true → p.seq < 2 ^ 32 → s.get HOST.EXP.SEQ < 2 ^ 32 →
    ∀ x ∈ [(Instr.parcelLoad, 1), (.parcelAck, 4), (.viewStartReport, 3), (.orderClose, 2)],
      let c := x.1
      let mine := p.type = x.2 ∧ (x.2 = 3 → 4 ≤ p.body.length ∧ u16At p.body 0 = 9) ∧
        (x.2 = 2 → 4 ≤ p.body.length ∧ u16At p.body 0 = 0x0B)
      let ahead := (p.seq + 2 ^ 32 - s.get HOST.EXP.SEQ) % 2 ^ 32
      let sent := fun (t : State) (type flags : Nat) (body : List Byte) =>
        t.link.outb = s.link.outb ++ [parcelBytes type flags (s.get HOST.OUTSEQ.SEQ) body] ∧
        t.link.inb = s.link.inb.tail ∧ t.get HOST.EXP.SEQ = s.get HOST.EXP.SEQ ∧ t.link.stored = s.link.stored
      (¬ mine → exec c s = .next s) ∧
      (mine → 1 ≤ ahead → ahead < 2 ^ 31 → 24 ≤ s.outFree → ∃ t, exec c s = .next t ∧
        sent t 0x85 0 (answerPrefix 3 0 p.seq) ∧ Same [.link] [HOST.NGAP.COUNT, HOST.NGAP.SAT, HOST.OUTSEQ.SEQ] s t) ∧
      (mine → 2 ^ 31 ≤ ahead → 24 ≤ s.outFree →
        (∀ a, s.link.stored = [a] → a.seq = p.seq → 16 + a.body.length ≤ s.outFree → ∃ t, exec c s = .next t ∧
          sent t a.type 1 a.body ∧
          Same [.link] [HOST.NDUP.COUNT, HOST.NDUP.SAT, HOST.OUTSEQ.SEQ] s t) ∧
        ((∀ a ∈ s.link.stored, a.seq ≠ p.seq) → (∀ e ∈ s.cairn.orders, e.pseq ≠ p.seq) → ∃ t, exec c s = .next t ∧
          sent t 0x85 0 (answerPrefix 4 0 p.seq) ∧ Same [.link] [HOST.OUTSEQ.SEQ] s t))

/-- R237, R239, R240, R284, R362, R520, R525, R526, R558, R563: LOAD, ACK and the orders START, INSTALL, REMOVE, CUE, SET
UTC, SELFCAL and RESET: what is refused, and what the others do beside their answer. It rests on the model's choices in log
entries 18, 19, 24, 25, 26 and 34. -/
def Obligations.LoadsAndTransientOrders : Prop :=
  ∀ (s : State) (p : InParcel), Ready s p 32 →
    let ord := p.body.drop 4
    let is := fun code : Nat => p.type = 2 ∧ 4 ≤ p.body.length ∧ u16At p.body 0 = code
    let answers := fun (c : Instr) (t : State) (type code sub : Nat) => exec c s = .next t ∧ Answered s t p type code sub []
    (p.type = 2 → p.body.length < 4 ∨ u16At p.body 0 ∉ orderCodes → Refuses .orderStart s p 3) ∧
    (is 1 →
      let no := s.on NRG.BCSTAT.BCRUN = true ∨ s.get PWR.STATE.STATE ≠ 1 ∨ s.pwr.start ≠ none
      let bad := ord.length < 32 ∨ ∃ b < 8, s.startBad b ((ord.drop (4 * b)).take 4) = true
      (no → Refuses .orderStart s p 4) ∧ (¬ no → bad → Refuses .orderStart s p 3) ∧
      (¬ no → ¬ bad → ∃ t, Accepts .orderStart s p [] [.pwr] [] t ∧
        t.pwr = { s.pwr with start := some (p.seq, ord.take 32) })) ∧
    (is 2 →
      let n := byteAt ord 0
      let force := bitOf (byteAt ord 1) 0
      (ord.length < 8 → Refuses .orderInstall s p 3) ∧
      (8 ≤ ord.length → (∀ i ∈ s.link.staged, imgId i ≠ u32At ord 4) → Refuses .orderInstall s p 4) ∧
      (∀ i, 8 ≤ ord.length → s.link.staged.getLast? = some i → imgId i = u32At ord 4 →
        let bad := s.installBad n force i
        (bad ≠ 0 → Refuses .orderInstall s p bad) ∧
        (bad = 0 → imgLane i = true → ∃ t, Accepts .orderInstall s p [] [.laneOrders] [] t ∧
          t.laneOrders = s.laneOrders ++ [⟨n, some (s.setOf i), force⟩]) ∧
        (bad = 0 → imgLane i = false → ∃ t, answers .orderInstall t 0x81 0 0 ∧ (progCode i, i) ∈ t.progs ∧
          t.laneOrders = s.laneOrders ∧ t.lanes = s.lanes ∧ t.slots = s.slots))) ∧
    (is 3 →
      let n := byteAt ord 0
      let to' := (n < 5 ∧ s.inPair n = false) ∨ n = 0x0F
      let prog := 0x10 ≤ n ∧ n ≤ 0x51
      (ord = [] → Refuses .orderRemove s p 3) ∧
      (ord ≠ [] → n < 5 → s.inPair n = true → Refuses .orderRemove s p 4) ∧
      (ord ≠ [] → to' → ∃ t, Accepts .orderRemove s p [] [.laneOrders] [] t ∧
        t.laneOrders = s.laneOrders ++ [⟨n, none, false⟩]) ∧
      (ord ≠ [] → prog → (∀ e ∈ s.progs, e.1 ≠ n) → Refuses .orderRemove s p 4) ∧
      (ord ≠ [] → prog → n < 0x50 → s.cueBusy (n - 0x10) = true → Refuses .orderRemove s p 4) ∧
      (ord ≠ [] → prog → (s.prog n).isSome = true → (n < 0x50 → s.cueBusy (n - 0x10) = false) →
        let c : Fin 2 := Fin.ofNat 2 (n - 0x50)
        let next' := 0x50 ≤ n ∧ (s.core c).newSvc ≠ none ∧ s.serviceLive c = true
        ∃ t, Accepts .orderRemove s p [] [.progs, .cores] [] t ∧ (n < 0x50 → t.cores = s.cores) ∧
          t.progs = (if next' then s.progs else s.progs.filter (fun e => e.1 != n)) ∧
          (0x50 ≤ n → ¬ next' → (t.core c).newSvc = none)) ∧
      (ord ≠ [] → 5 ≤ n → n ≠ 0x0F → ¬ prog → Refuses .orderRemove s p 3)) ∧
    (is 4 →
      let w := fun i : Nat => BitVec.ofNat 32 (u32At ord (4 * i))
      let e := vec4 (w 0) (w 1) (w 2) (w 3)
      let x := s.cueIssue (.cc 0) e
      let u := (cueOf e 8).unit
      (ord.length < 16 → Refuses .orderCue s p 3) ∧
      (16 ≤ ord.length → s.part.hasUnit u = false → Refuses .orderCue s p 4) ∧
      (16 ≤ ord.length → s.part.hasUnit u = true → ∃ t, answers .orderCue t 0x81 0 x.1 ∧ t.cues = x.2.cues ∧
        t.lanes = s.lanes ∧ t.cores = s.cores ∧ t.clock = s.clock)) ∧
    (is 5 → (ord.length < 12 → Refuses .orderSetUtc s p 3) ∧
      (12 ≤ ord.length → ∃ t, Accepts .orderSetUtc s p [] [.utcSet] [] t ∧
        t.utcSet = some (u32At ord 0, leNat ((ord.drop 4).take 8)))) ∧
    (is 6 →
      let q := s.permitRequest 8 1 180 2400 true
      let busy := s.selfCal ≠ none ∨ s.on PWR.STATE.SFW = true
      (ord = [] → Refuses .orderSelfcal s p 3) ∧
      (ord ≠ [] → q.1 ≠ 0 → Refuses .orderSelfcal s p 4) ∧
      (ord ≠ [] → q.1 = 0 → busy → ∃ t, answers .orderSelfcal t 0x85 6 4 ∧ t.on TRIM.STATUS.SCREF = true) ∧
      (ord ≠ [] → q.1 = 0 → ¬ busy → ∃ t, answers .orderSelfcal t 0x81 0 0 ∧
        t.selfCal = some ⟨s.clock.grain + 1, q.2.1, 0, List.replicate 38 0, List.replicate 38 0⟩ ∧
        t.get TRIM.SCCTL.SPSLOT = byteAt ord 0 % 2 ^ TRIM.SCCTL.SPSLOT.w ∧
        t.get (PERMIT.SLOT.STATE q.2.1) = 2 ∧ t.get (PERMIT.SLOT.DRAW q.2.1) = 180 ∧ t.lanes = s.lanes ∧ t.clock = s.clock)) ∧
    (is 7 → (byteAt ord 0 ≠ 0xC3 → Refuses .orderReset s p 3) ∧
      (byteAt ord 0 = 0xC3 → ∃ t, answers .orderReset t 0x81 0 0 ∧
        (s.pwr.reset = none → t.pwr.reset = some ⟨8, s.clock.grain⟩ ∧ .prereset ∈ t.jrnl.due) ∧
        (s.pwr.reset ≠ none → t.pwr = s.pwr) ∧ t.lanes = s.lanes ∧ t.cores = s.cores ∧ t.clock = s.clock)) ∧
    (p.type = 4 →
      let n := leNat (p.body.take 6)
      (p.body.length < 6 → Refuses .parcelAck s p 3) ∧
      (6 ≤ p.body.length → 0 < s.jrnl.cseq → ∃ t, Accepts .parcelAck s p [] [.jrnl, .mem]
          ([JRNL.STATUS.ACKHI, JRNL.STATUS.LOWFREE, JRNL.STATUS.ORDFULL, JRNL.STATUS.COAL] ++ arrivalOf 0x2B) t ∧
        t.jrnl.ackseq = max s.jrnl.ackseq (min n (s.jrnl.cseq - 1)) ∧
        KeptOutside 0x20002800 0x20003000 s t ∧ (s.jrnl.cseq ≤ n → t.on JRNL.STATUS.ACKHI = true) ∧
        (n < s.jrnl.cseq → t.get JRNL.STATUS.ACKHI = s.get JRNL.STATUS.ACKHI))) ∧
    (p.type = 1 →
      let off := u32At p.body 0
      let len := u32At p.body 4
      let data := p.body.drop 8
      let bad := p.body.length < 8 ∨ 0x40000 < len ∨ len < off + data.length ∨ len ≤ off ∨
        ∃ n, s.link.imgLen = some n ∧ n ≠ len
      let parts := s.link.parts ++ [(off, data.length)]
      let base := 0x10540000
      let image := (s.setBytes (base + off) data).bytes base len
      let stored := fun t : State => t.bytes (base + off) data.length = data ∧
        ∀ a, a < base + off ∨ base + off + data.length ≤ a → t.byte a = s.byte a
      (bad → Refuses .parcelLoad s p 0x11) ∧
      (¬ bad → imageWhole parts len = false → ∃ t, Accepts .parcelLoad s p (zeros 4) [.mem] [] t ∧ stored t ∧
        t.link.imgLen = some len ∧ t.link.parts = parts ∧ t.link.staged = s.link.staged) ∧
      (¬ bad → imageWhole parts len = true → s.loadOutcome image ≠ 0 → s.loadOutcome image < 16 → ∃ t,
        answers .parcelLoad t 0x85 6 (0x10 + s.loadOutcome image) ∧ stored t ∧ t.link.imgLen = none ∧ t.link.parts = [] ∧
        t.link.staged = s.link.staged) ∧
      (¬ bad → imageWhole parts len = true → s.loadOutcome image = 0 → ∃ t,
        Accepts .parcelLoad s p (loadReport image) [.mem] [] t ∧ stored t ∧ t.link.imgLen = none ∧ t.link.parts = [] ∧
        t.link.staged = s.link.staged ++ [image]))

/-- R470, R475, R482, R483, R484, R485, R525: the orders that open and close the access level: a right attempt goes to the
second path and is answered then; a wrong one is counted, backs off and is refused with sub-code 1. It rests on the model's
choices in log entries 7, 9, 10 and 19. -/
def Obligations.AccessOrders : Prop :=
  ∀ (s : State) (p : InParcel), Ready s p 40 →
    let ord := p.body.drop 4
    let is := fun code : Nat => p.type = 2 ∧ 4 ≤ p.body.length ∧ u16At p.body 0 = code
    let serial := leBytes 4 s.part.serialLo ++ leBytes 4 s.part.serialHi
    let waits := s.clock.rtc < s.access.retryAt
    let right := fun (c : Instr) (level : Nat) (nonce : Option (List Byte × Nat)) => ∃ t d, exec c s = .next t ∧
      t.second = s.second ++ [⟨.unlock level, d⟩] ∧ s.clock.now < d ∧ d ≤ s.clock.now + 255 ∧
      t.link.outb = s.link.outb ∧ t.link.inb = s.link.inb ∧ t.link.taken = true ∧
      t.access = { s.access with nonce := nonce } ∧ t.get ACCESS.LEVEL.LEVEL = s.get ACCESS.LEVEL.LEVEL ∧
      Same [.second, .free, .link, .access] answerFlds s t
    let wrong := fun (c : Instr) (nonce : Option (List Byte × Nat)) => ∃ t, exec c s = .next t ∧
      Answered s t p 0x85 6 1 [] ∧ Arrived 0x44 s t ∧ t.access.nonce = nonce ∧
      (s.get ACCESS.FAIL.COUNT + 1 < 2 ^ 16 → t.get ACCESS.FAIL.COUNT = s.get ACCESS.FAIL.COUNT + 1 ∧
        t.access.retryAt = s.clock.rtc + min (2 ^ s.get ACCESS.FAIL.COUNT) 3600 * 32768) ∧
      t.tamp.src[(7 : Fin 8)].latch2 = true ∧ t.second = s.second ∧
      Same [.link, .access, .tamp] (ACCESS.FAIL.COUNT :: answerFlds ++ arrivalOf 0x44) s t
    (is 8 →
      let key := sha256 (serial ++ leBytes 4 (s.get ACCESS.KGEN.KGEN) ++ ord)
      (ord.length < 8 ∨ 32 < ord.length → Refuses .orderOpenService s p 3) ∧
      (8 ≤ ord.length → ord.length ≤ 32 → s.on ACCESS.LEVEL.LOCKED = true → Refuses .orderOpenService s p 4) ∧
      (8 ≤ ord.length → ord.length ≤ 32 → s.on ACCESS.LEVEL.LOCKED = false → waits → Refuses .orderOpenService s p 5) ∧
      (8 ≤ ord.length → ord.length ≤ 32 → s.on ACCESS.LEVEL.LOCKED = false → ¬ waits →
        (s.access.verifier = some key → right .orderOpenService 1 s.access.nonce) ∧
        (s.access.verifier ≠ some key → wrong .orderOpenService s.access.nonce))) ∧
    (is 9 →
      (byteAt ord 0 ∉ [2, 3] → Refuses .orderChallenge s p 3) ∧
      (byteAt ord 0 ∈ [2, 3] → ∃ t x, x.length = 32 ∧ Accepts .orderChallenge s p x [.access, .free] [] t ∧
        t.access = { s.access with nonce := some (x, s.clock.rtc + 60 * 32768) })) ∧
    (is 0x0A →
      let l := byteAt ord 0
      let bad := l ∉ [2, 3] ∨ ord.length < 65 ∨ l = 2 ∧ ord.length < 129
      let sig := (ord.drop 1).take 64
      let key := (ord.drop 65).take 64
      let ok := ∃ n due, s.access.nonce = some (n, due) ∧ s.clock.rtc < due ∧
        let m := sha256 ((if l = 2 then 0x4F else 0x56) :: n ++ serial)
        (l = 2 → s.access.fingerprint = some (sha256 key) ∧ Config.verify 1 m (key ++ sig) = true) ∧
        (l = 3 → Config.verify 0 m sig = true)
      (bad → Refuses .orderAnswer s p 3) ∧ (¬ bad → waits → Refuses .orderAnswer s p 5) ∧
      (¬ bad → ¬ waits → ok → right .orderAnswer l none) ∧ (¬ bad → ¬ waits → ¬ ok → wrong .orderAnswer none)) ∧
    (is 0x0B → ∃ t, Accepts .orderClose s p [] [] (ACCESS.LEVEL.LEVEL :: arrivalOf 0x43) t ∧
      t.level = if s.on ACCESS.LEVEL.PLOCK then 0 else 2)

/-- R258, R366, R367, R481, R485, R486, R523, R525: a durable order: its form, the level, its own condition, the port and a
free queue entry decide in this order; accepted, it has its queue entry with the next ORDNO, DWMARK is its SEQ, and ACCEPT
carries the ORDNO; while another holds the port it waits unanswered. It rests on the model's choices in log entries 15, 19,
33 and 36. -/
def Obligations.DurableOrders : Prop :=
  ∀ (s : State) (p : InParcel), Ready s p 12 →
    let ord := p.body.drop 4
    let n := ord.length
    let kind := byteAt ord 0
    let code := u16At p.body 0
    ∀ (c : Instr) (ocode : Nat) (which form : Bool) (need : Nat) (cond : Bool),
      (c, ocode, which, form, need, cond) ∈ ([
        (.orderTariff, 0x0101, true, decide (1 ≤ n ∧ kind < 8), 0, true),
        (.orderAdjust, 0x0102, true, decide (16 ≤ n ∧ kind < 64 ∧ byteAt ord 1 ≤ 8), 2, true),
        (.orderTamperClear, 0x0103, true, decide (1 ≤ n), 2, true),
        (.accessSetVerifier, 0x0104, decide (kind = 1), decide (33 ≤ n), 2, true),
        (.accessRemoveVerifier, 0x0104, decide (kind = 2), true, 2, true),
        (.accessProductionLock, 0x0104, decide (kind = 3), decide (33 ≤ n), 0, !s.on ACCESS.LEVEL.PLOCK),
        (.accessSetIdle, 0x0104, decide (kind = 0 ∨ 3 < kind), decide (2 ≤ n ∧ kind = 4), 2, true)] :
          List (Instr × Nat × Bool × Bool × Nat × Bool)) →
      p.type = 2 → 4 ≤ p.body.length → code = ocode → which = true →
        let good := form = true ∧ n ≤ 96
        let held := s.get (LEASE.HOLD.STATE 0) ≠ 0 ∧ s.get (LEASE.HOLD.HOLDER 0) ≠ 0x10
        let done := match newer s.cairn.stA s.cairn.stB with | none => 0 | some b => b.lastord
        let full := 128 ≤ (s.cairn.orders.filter (fun e => decide (done < e.ordno))).length
        (¬ good → Refuses c s p 3) ∧
        (good → s.level < need → Refuses c s p 1) ∧
        (good → need ≤ s.level → cond = false → Refuses c s p 4) ∧
        (good → need ≤ s.level → cond = true → held → ∃ t, exec c s = .next t ∧ t.on (LEASE.HOLD.SUPWAIT 0) = true ∧
          t.link = { s.link with taken := true } ∧
          Same [.link] [LEASE.HOLD.SUPWAIT 0, HOST.EXP.SEQ, HOST.STATUS.EXPVALID] s t) ∧
        (good → need ≤ s.level → cond = true → ¬ held → full → Refuses c s p 2) ∧
        (good → need ≤ s.level → cond = true → ¬ held → ¬ full →
          let e : QEntry := ⟨s.jrnl.nextord, p.seq, code, s.level, s.get ACCESS.KGEN.KGEN, ord⟩
          ∃ t, exec c s = .next t ∧ Answered s t p 0x81 0 0 (leBytes 4 e.ordno) ∧
            t.get HOST.DWMARK.SEQ = p.seq % 2 ^ 32 ∧ e ∈ t.cairn.orders ∧
            (∀ x ∈ s.cairn.orders, (x.ordno - 1) % 128 ≠ (e.ordno - 1) % 128 → x ∈ t.cairn.orders) ∧
            t.jrnl = { s.jrnl with nextord := s.jrnl.nextord + 1 } ∧ KeptOutside 0x20009000 0x2000B000 s t ∧
            t.bytes (0x20009000 + 128 * ((e.ordno - 1) % 64)) 128 = e.bytes ∧
            (need = 2 → t.access.lastAuth = s.clock.rtc) ∧ (need = 0 → t.access = s.access) ∧
            Frame [.link, .jrnl, .cairn, .access, .mem] (fun f => f ∈ HOST.DWMARK.SEQ :: answerFlds ∨ f.unit ∈ [0x04, 0x08,
              0x28])
              s t)

/-- R278, R410, R489, R520, R527: what each READ view answers with. It rests on the model's choices in log entries 15, 19
and 32. -/
def Obligations.ReadViews : Prop :=
  ∀ (s : State) (p : InParcel),
    -- the state in which the handler reads: EXP has moved on
    let r' := s.seqTake p
    let arg := fun i : Nat => byteAt p.body i
    let is := fun v : Nat => p.type = 3 ∧ 4 ≤ p.body.length ∧ u16At p.body 0 = v
    let room := fun n : Nat => Ready s p (12 + n)
    let no := fun (c : Instr) (sub : Nat) => room 0 → Refuses c s p sub
    -- the view's number and its data, and nothing changed but by the answer, in cs and in fs
    let shows := fun (c : Instr) (v : Nat) (data : List Byte) (cs : List Comp) (fs : List Fld) (t : State) =>
      exec c s = .next t ∧ Answered s t p 0x82 0 0 (leBytes 2 v ++ zeros 2 ++ data) ∧
        Same (.link :: cs) (answerFlds ++ fs) s t
    let just := fun (c : Instr) (v : Nat) (data : List Byte) => room data.length → ∃ t, shows c v data [] [] t
    let reg := fun (u i : Nat) => leBytes 4 (r'.peek 5 u i)
    let slot := fun n : Nat =>
      let x := if byteAt p.body 6 = 1 then some (s.slots[Fin.ofNat 72 n].tot :: s.slots[Fin.ofNat 72 n].subs.toList)
        else (newer s.jrnl.committed (newer (s.half 0) (s.half 1))).map (fun b =>
          let y := b.slots.getD n ⟨0, 0, 0, 0, 0, List.replicate 8 0⟩
          y.tot :: y.subs)
      match x with
      | none => zeros 108
      | some l => l.flatMap (fun v => leBytes 8 (v.toNat / 2 ^ 64) ++ leBytes 4 (v.toNat / 2 ^ 32))
    (p.type = 3 → (p.body.length < 4 ∨ u16At p.body 0 = 0 ∨ 9 < u16At p.body 0) → no .viewInventory 3) ∧
    (is 1 → just .viewInventory 1 ((List.range 13).flatMap (reg 0))) ∧
    (is 2 → just .viewStatus 2 (reg 0x40 0 ++ reg 0x41 0 ++ reg 0 0x0C ++ reg 0 0x10 ++ reg 0x29 0 ++ leBytes 8 s.jrnl.cseq ++
      leBytes 8 s.jrnl.ackseq ++ reg 0x28 0x10 ++ reg 0x3D 0)) ∧
    (is 3 →
      let bad := p.body.length < 7 ∨ 24 < arg 5 ∨ 72 < arg 4 + arg 5 ∨ 1 < arg 6
      (bad → no .viewTotals 3) ∧ (¬ bad → just .viewTotals 3 ((List.range (arg 5)).flatMap (fun i => slot (arg 4 + i))))) ∧
    (is 4 → room 12 → ∃ t, exec .viewInterrupts s = .next t ∧
      Answered s t p 0x82 0 0 (leBytes 2 4 ++ zeros 2 ++
        (List.range 3).flatMap (fun i => leBytes 4 (s.get (IRQ.HPEND.PEND i)))) ∧
      (∀ src, 0x10 ≤ src → src < 0x70 → s.bit (IRQ.HPEND.PEND ((src - 0x10) / 32)) ((src - 0x10) % 32) = true →
        t.bit (IRQ.HPEND.PEND ((src - 0x10) / 32)) ((src - 0x10) % 32) = false ∧
        t.bit (IRQ.SPEND.PEND ((src - 0x10) / 32)) ((src - 0x10) % 32) = false ∧ t.get (IRQ.SCFG.RRLAST src) = 2) ∧
      t.irq.host = [] ∧ t.lanes = s.lanes ∧ t.clock = s.clock ∧
        ∀ f : Fld, f.unit ≠ 0x08 → f ∉ answerFlds → t.get f = s.get f) ∧
    (is 5 →
      let off := u32At p.body 4
      let n := u16At p.body 8
      let bad := p.body.length < 10 ∨ 4080 < n ∨ n % 4 ≠ 0 ∨ 2 ^ 20 < off + n
      (bad → no .viewQuantityStore 3) ∧ (¬ bad → just .viewQuantityStore 5 (s.bytes (0x10680000 + off) n))) ∧
    (is 6 →
      let u := arg 4
      let ix := (List.range (arg 6)).map (· + arg 5)
      let r := r'.readUnit u (arg 5) (arg 6)
      let bad := p.body.length < 7 ∨ 64 < arg 6
      (bad → no .viewUnit 3) ∧ (¬ bad → s.part.hasUnit u = false → no .viewUnit 6) ∧
      (¬ bad → s.part.hasUnit u = true → (∃ i ∈ ix, s.busDefined u i = false) → no .viewUnit 7) ∧
      (¬ bad → s.part.hasUnit u = true → (∀ i ∈ ix, s.busDefined u i = true) → (∃ i ∈ ix, leaseGuard u i ≠ none) →
        no .viewUnit 1) ∧
      (¬ bad → s.part.hasUnit u = true → (∀ i ∈ ix, s.busDefined u i = true ∧ leaseGuard u i = none) →
        room r.1.length → ∃ t, exec .viewUnit s = .next t ∧ Answered s t p 0x82 0 0 (leBytes 2 6 ++ zeros 2 ++ r.1) ∧
          r.1.length = 4 * arg 6 ∧ (arg 6 = 1 → r.1 = reg u (arg 5)))) ∧
    (is 7 →
      let area := arg 4
      let first := u16At p.body 5
      let n := u16At p.body 7
      let bad := p.body.length < 9 ∨ 1020 < n ∨ 5 < area
      (bad → no .viewCairn 3) ∧
      (¬ bad → just .viewCairn 7 ((List.range n).flatMap (fun i =>
        leBytes 4 (if first + i < areaWords area then (r'.cairnRead area (first + i)).toNat else 0))))) ∧
    (is 8 → (p.body.length < 36 → no .viewQuote 3) ∧
      (36 ≤ p.body.length → room 0 → ∃ t q, exec .viewQuote s = .next t ∧ q.slot = p.slot ∧ q.seq = p.seq ∧
        q.body.length = 200 ∧ (q.body.drop 32).take 32 = (p.body.drop 4).take 32 ∧
        (q.body.drop 24).take 8 = leBytes 8 s.clock.grain ∧
        t.access = { s.access with quotes := s.access.quotes ++ [q] } ∧ t.link.inb = s.link.inb.tail ∧
        t.link.outb = s.link.outb ∧ Same [.link, .access] [HOST.EXP.SEQ, HOST.STATUS.EXPVALID] s t)) ∧
    (is 9 → just .viewStartReport 9 s.link.report)

/-- R16, R33, R71, R191, R194, R219: a register write acts by the access codes of the register's fields; a read returns them
and puts RC fields back; the read of a low word latches its high word; an absent unit, an undefined index, a lease not held
and a level too low fault. It rests on the model's choices in log entries 1 and 16. -/
def Obligations.RegisterAccess : Prop :=
  ∀ (s : State) (p : Proc) (u r : Fin 256) (v : Word), s.power = .on → AtOnce s p →
    let b := s.copyOf p
    let who := s.holder p
    let cells := s.busCells b u r
    let reads := [Instr.counterReadClear p u r, .splitLowRead p u r]
    let takes := fun (c : Instr) (code : Nat) => exec c s = .next (s.trap p ⟨code, u, none⟩)
    let there := s.part.hasUnit u = true ∧ s.busDefined u r = true
    ((s.part.hasUnit u = false → ∀ c ∈ .registerWrite p u r v :: reads, takes c 0x0E) ∧
      (s.part.hasUnit u = true → s.busDefined u r = false → ∀ c ∈ .registerWrite p u r v :: reads, takes c 0x0D) ∧
      (there → s.leaseOk who u r = false → ∀ c ∈ .registerWrite p u r v :: reads, takes c 0x05) ∧
      (there → s.leaseOk who u r = true → s.level < s.levelGuard u r v.toNat → takes (.registerWrite p u r v) 0x09)) ∧
    (there → s.leaseOk who u r = true → (cells.map Cell.fld).Nodup →
      (s.levelGuard u r v.toNat ≤ s.level → s.unitWrite b who u r v.toNat = none →
        ∃ t, exec (.registerWrite p u r v) s = .next t ∧
          (∀ c ∈ cells, let f := c.fld
            (f.acc = .rw → t.get f = storedAs c.sub (field v.toNat f.lo f.w) % 2 ^ f.w) ∧
            (f.acc = .w1c → ∀ i, i < f.w → t.bit f i = (s.bit f i && !v.toNat.testBit (f.lo + i))) ∧
            (f.acc ≠ .rw → f.acc ≠ .w1c → t.get f = s.get f)) ∧
          Same [] (cells.map Cell.fld) s t) ∧
      ((∀ x : State, x.latch b u r = x ∧ x.afterRead b u r = x) → ∀ c ∈ reads, ∃ t, exec c s = .next t ∧
        t.readData = BitVec.ofNat 32 (s.peek b u r) ∧
        (s.unitView b u r = none → (∀ c ∈ cells, s.get c.fld < 2 ^ c.fld.w) →
          t.readData = BitVec.ofNat 32 ((cells.map (fun c => if c.fld.acc = .wo then 0 else s.get c.fld * 2 ^ c.fld.lo)).sum)) ∧
        (∀ c ∈ cells, t.get c.fld = if c.fld.acc = .rc then c.fld.reset % 2 ^ c.fld.w else s.get c.fld) ∧
        Same [.readData] (cells.map Cell.fld) s t)) ∧
    (let low := fun (unit idx : Fin 256) (x : Nat) (hi : Fld) => ∃ t, exec (.splitLowRead p unit idx) s = .next t ∧
       t.readData = BitVec.ofNat 32 x ∧ t.get hi = x / 2 ^ 32 % 2 ^ hi.w ∧ Same [.readData] [hi] s t
     low 0x01 0x00 s.clock.grain TIME.GRAINHI.GHI ∧ low 0x01 0x0C s.clock.rtc TIME.RTCHI.RHI ∧
     low 0x28 0x01 s.jrnl.nextseq JRNL.NEXTSEQHI.SHI ∧ low 0x28 0x03 s.jrnl.cseq JRNL.CSEQHI.SHI ∧
     low 0x28 0x05 s.jrnl.ackseq JRNL.ACKSEQHI.SHI)

/-- A step takes the command at the front of the queue and runs it with the rest of the queue. -/
def Sys2Proof.Claims.StepRunsTheCommand : Prop :=
  ∀ (s : State) (c : Instr) (rest : List Instr), s.pending = c :: rest → step s = exec c { s with pending := rest }

/-- An empty queue lets time pass (the model's own choice, log entry 1): one CORE cycle while the mains side runs, and 6250 of
them are one SLOW cycle (R24); one SLOW cycle in BIVOUAC; nothing in OFF. -/
def Sys2Proof.Claims.IdleTick : Prop :=
  ∀ (s : State), s.pending = [] → ∃ t, step s = .next t ∧ (∀ k : Comp, k ≠ .clock → k.same s t) ∧ (∀ f, t.get f = s.get f) ∧
    t.clock.grain = s.clock.grain ∧ t.clock.tie = s.clock.tie ∧
    (s.power = .on → t.clock.now = s.clock.now + 1 ∧
      (s.clock.slowPh < 6250 → 6250 * t.clock.rtc + t.clock.slowPh = 6250 * s.clock.rtc + s.clock.slowPh + 1) ∧
      (s.clock.pllLock = true → s.clock.phase + 1 < s.clock.glen → t.clock.phase = s.clock.phase + 1) ∧
      (s.clock.pllLock = false ∨ s.clock.glen ≤ s.clock.phase + 1 → t.clock.phase = s.clock.phase)) ∧
    (s.power = .bivouac → t.clock = { s.clock with rtc := s.clock.rtc + 1 }) ∧ (s.power = .off → t = s)

/-- Both: `Claims.StepRunsTheCommand` and `Claims.IdleTick`. It rests on the model's choices in log entries 1 and 20. -/
def Obligations.StepRunsTheFrontCommand : Prop := Claims.StepRunsTheCommand ∧ Claims.IdleTick

/-- R15, R80, R480, R509, R511: every register reads its reset value in the state after reset, the queues and buffers are
empty and no program runs. Where a field has no reset value in the spec, its value is the model's (log entry 6); the part
and its factory contents are those of log entry 2. It rests on the model's choices in log entries 2 and 6. -/
def Obligations.ResetValues : Prop :=
  let r := State.reset
  (∀ f, r.get f = f.reset ∧ r.eff f = f.reset) ∧ r.mem = [] ∧ r.power = .on ∧ r.clock.pllLock = false ∧
  r.get RST.CAUSE.CAUSE = 1 ∧ r.get PWR.STATE.STATE = 1 ∧ r.get LEASE.ROPE.SECOND = 1 ∧ r.get SYS.LANE.STBY = 4 ∧
  (∀ n, r.get (PERMIT.SLOT.HOLDER n) = 0xFF) ∧ (∀ n : Fin 5, (r.lane n).cur = none) ∧ r.cues = [] ∧ r.laneOrders = [] ∧
  r.progs = [] ∧ r.second = [] ∧ r.link.inb = [] ∧ r.link.outb = [] ∧ r.jrnl.staged = [] ∧ r.cairn.orders = [] ∧
  (∀ n : Fin 72, r.slots[n].tot = 0) ∧ r.access.nonce = none ∧ r.pending = [] ∧ r.level = 2

/-- The state after reset is canonical: memory and field files in their one form, every field within its width. It rests on
the model's choices in log entries 2, 4 and 6. -/
def Obligations.ResetIsCanonical : Prop := State.reset.Canonical

/-- Every step keeps the canonical form: addresses rise and no listed byte or field equals what an unlisted one reads as, so
that equal contents are equal data, and no field holds a value beyond its width (R15). It rests on the model's choices in
log entry 4. -/
def Obligations.CanonicalKept : Prop := ∀ (s t : State), s.Canonical → step s = .next t → t.Canonical

/-- No command touches the queue or changes the part; and the counter that the free values are taken at, by which a value
that the spec leaves open is drawn anew at each use, never goes back (the model's own counter, log entry 7). It rests on the
model's choices in log entry 7. -/
def Obligations.CommandsLeaveTheQueue : Prop :=
  ∀ (c : Instr) (s t : State), exec c s = .next t → t.pending = s.pending ∧ t.part = s.part ∧ s.free ≤ t.free
end

