-- ==== Sys2Proof/Laws/Sparse.lean ====
section
/-! SUPPORT. Sparse lists: a read after a write, and the canonical form, which every write keeps. -/

namespace Sys2Proof.Machine

section
variable {κ α : Type} [DecidableEq κ]

theorem sparseGet_erase_same (d : α) (k : κ) (l : List (κ × α)) : sparseGet d k (sparseErase k l) = d := by
  induction l with
  | nil => rfl
  | cons e l ih => obtain ⟨k', v⟩ := e; by_cases h : k' = k <;> simp [sparseErase, sparseGet, h, ih]

theorem sparseGet_erase_other (d : α) {k j : κ} (h : k ≠ j) (l : List (κ × α)) :
    sparseGet d j (sparseErase k l) = sparseGet d j l := by
  induction l with
  | nil => rfl
  | cons e l ih =>
    obtain ⟨k', v⟩ := e
    by_cases hk : k' = k
    · subst hk; simp [sparseErase, sparseGet, h, ih]
    · simp [sparseErase, sparseGet, hk, ih]

theorem sparseGet_insert_same (lt : κ → κ → Bool) (d : α) (k : κ) (v : α) (l : List (κ × α)) :
    sparseGet d k (sparseInsert lt k v (sparseErase k l)) = v := by
  induction l with
  | nil => simp [sparseErase, sparseInsert, sparseGet]
  | cons e l ih =>
    obtain ⟨k', w⟩ := e
    by_cases hk : k' = k
    · simp [sparseErase, hk, ih]
    · by_cases hl : lt k k' = true <;> simp [sparseErase, sparseInsert, sparseGet, hk, hl, ih]

theorem sparseGet_insert_other (lt : κ → κ → Bool) (d : α) {k j : κ} (h : k ≠ j) (v : α) (l : List (κ × α)) :
    sparseGet d j (sparseInsert lt k v l) = sparseGet d j l := by
  induction l with
  | nil => simp [sparseInsert, sparseGet, h]
  | cons e l ih =>
    obtain ⟨k', w⟩ := e
    by_cases hl : lt k k' = true <;> simp [sparseInsert, sparseGet, h, hl, ih]

/-- What was written reads back. -/
theorem sparseGet_put_same [DecidableEq α] (lt : κ → κ → Bool) (d : α) (k : κ) (v : α) (l : List (κ × α)) :
    sparseGet d k (sparsePut lt d k v l) = v := by
  by_cases h : v = d
  · simp [sparsePut, h, sparseGet_erase_same]
  · simp [sparsePut, h, sparseGet_insert_same]

/-- A write leaves every other key alone. -/
theorem sparseGet_put_other [DecidableEq α] (lt : κ → κ → Bool) (d e : α) {k j : κ} (h : k ≠ j) (v : α) (l : List (κ × α)) :
    sparseGet e j (sparsePut lt d k v l) = sparseGet e j l := by
  by_cases hv : v = d <;>
    simp [sparsePut, hv, sparseGet_erase_other _ h, sparseGet_insert_other _ _ h]

theorem all_erase (p : κ × α → Bool) (k : κ) (l : List (κ × α)) (h : l.all p = true) :
    (sparseErase k l).all p = true := by
  induction l with
  | nil => rfl
  | cons e l ih =>
    obtain ⟨k', v⟩ := e
    rw [List.all_cons, Bool.and_eq_true] at h
    by_cases hk : k' = k <;> simp only [sparseErase, hk, if_true, if_false, List.all_cons, Bool.and_eq_true]
    · exact ih h.2
    · exact ⟨h.1, ih h.2⟩

omit [DecidableEq κ] in
theorem all_insert (p : κ × α → Bool) (lt : κ → κ → Bool) (k : κ) (v : α) (l : List (κ × α))
    (hk : p (k, v) = true) (h : l.all p = true) : (sparseInsert lt k v l).all p = true := by
  induction l with
  | nil => simp [sparseInsert, hk]
  | cons e l ih =>
    obtain ⟨k', w⟩ := e
    rw [List.all_cons, Bool.and_eq_true] at h
    by_cases hl : lt k k' = true <;>
      simp only [sparseInsert, hl, if_true, if_false, List.all_cons, Bool.and_eq_true, Bool.false_eq_true]
    · exact ⟨hk, h⟩
    · exact ⟨h.1, ih h.2⟩

theorem sparseWf_erase [DecidableEq α] (lt : κ → κ → Bool) (d : κ → α) (k : κ) (l : List (κ × α)) (h : sparseWf lt d l = true) :
    sparseWf lt d (sparseErase k l) = true := by
  induction l with
  | nil => rfl
  | cons e l ih =>
    obtain ⟨k', v⟩ := e
    simp only [sparseWf, Bool.and_eq_true] at h
    by_cases hk : k' = k
    · simpa [sparseErase, hk] using ih h.2
    · simp only [sparseErase, hk, if_false, sparseWf, Bool.and_eq_true]
      exact ⟨⟨h.1.1, all_erase _ k l h.1.2⟩, ih h.2⟩

theorem erase_no_key (k : κ) (l : List (κ × α)) : ∀ e ∈ sparseErase k l, e.1 ≠ k := by
  induction l with
  | nil => simp [sparseErase]
  | cons e l ih =>
    obtain ⟨k', v⟩ := e
    by_cases hk : k' = k
    · simpa [sparseErase, hk] using ih
    · simp only [sparseErase, hk, if_false, List.mem_cons]
      rintro e (rfl | he)
      · exact hk
      · exact ih e he

omit [DecidableEq κ] in
theorem sparseWf_insert [DecidableEq α] (lt : κ → κ → Bool) (d : κ → α) (trans : ∀ a b c, lt a b = true → lt b c = true → lt a c = true)
    (total : ∀ a b, a ≠ b → lt a b = false → lt b a = true) (k : κ) (v : α) (hv : v ≠ d k) (l : List (κ × α))
    (hk : ∀ e ∈ l, e.1 ≠ k) (h : sparseWf lt d l = true) : sparseWf lt d (sparseInsert lt k v l) = true := by
  induction l with
  | nil => simp [sparseInsert, sparseWf, hv]
  | cons e l ih =>
    obtain ⟨k', w⟩ := e
    simp only [sparseWf, Bool.and_eq_true] at h
    by_cases hl : lt k k' = true
    · simp only [sparseInsert, hl, if_true, sparseWf, List.all_cons, Bool.and_eq_true, decide_eq_true_eq]
      refine ⟨⟨hv, trivial, ?_⟩, ⟨by simpa using h.1.1, h.1.2⟩, h.2⟩
      rw [List.all_eq_true] at h ⊢
      exact fun e he => trans _ _ _ hl (h.1.2 e he)
    · have hne : k' ≠ k := hk _ (List.mem_cons_self ..)
      have hlt : lt k' k = true := total k k' (Ne.symm hne) (by simpa using hl)
      simp only [sparseInsert, hl, if_false, sparseWf, Bool.and_eq_true, Bool.false_eq_true]
      exact ⟨⟨h.1.1, all_insert _ lt k v l hlt h.1.2⟩, ih (fun e he => hk e (List.mem_cons_of_mem _ he)) h.2⟩

/-- A write keeps the form. -/
theorem sparseWf_put [DecidableEq α] (lt : κ → κ → Bool) (d : κ → α) (trans : ∀ a b c, lt a b = true → lt b c = true → lt a c = true)
    (total : ∀ a b, a ≠ b → lt a b = false → lt b a = true) (k : κ) (v : α) (l : List (κ × α))
    (h : sparseWf lt d l = true) : sparseWf lt d (sparsePut lt (d k) k v l) = true := by
  by_cases hv : v = d k
  · simpa [sparsePut, hv] using sparseWf_erase lt d k l h
  · simpa [sparsePut, hv] using
      sparseWf_insert lt d trans total k v hv _ (erase_no_key k l) (sparseWf_erase lt d k l h)

end

/-! ## The order of the field file -/

theorem lexLt_cons (x y : Nat) (a b : List Nat) :
    lexLt (x :: a) (y :: b) = true ↔ x < y ∨ (x = y ∧ lexLt a b = true) := by
  by_cases h : x < y
  · simp [lexLt, h]
  · by_cases h' : y < x
    · simp [lexLt, h', show x ≠ y by omega]
    · simp [lexLt, show x = y by omega]

theorem lexLt_trans : ∀ a b c : List Nat, lexLt a b = true → lexLt b c = true → lexLt a c = true
  | [], [], _, h, _ => by simp [lexLt] at h
  | _ :: _, [], _, h, _ => by simp [lexLt] at h
  | _, _ :: _, [], _, h => by simp [lexLt] at h
  | [], _ :: _, _ :: _, _, _ => by simp [lexLt]
  | x :: a, y :: b, z :: c, h, h' => by
    have ih := lexLt_trans a b c
    rw [lexLt_cons] at h h' ⊢
    obtain h | ⟨rfl, h⟩ := h
    · exact .inl (by omega)
    · obtain h' | ⟨rfl, h'⟩ := h'
      · exact .inl h'
      · exact .inr ⟨rfl, ih h h'⟩

theorem lexLt_total : ∀ a b : List Nat, a.length = b.length → a ≠ b → lexLt a b = false → lexLt b a = true
  | [], [], _, h, _ => absurd rfl h
  | x :: a, y :: b, hl, h, h' => by
    have ih := lexLt_total a b (by simpa using hl)
    rw [lexLt_cons]
    rw [Bool.eq_false_iff, Ne, lexLt_cons, not_or, not_and] at h'
    rcases Nat.lt_trichotomy y x with hx | rfl | hx
    · exact .inl hx
    · exact .inr ⟨rfl, ih (by simpa using h) (by simpa using h'.2 rfl)⟩
    · exact absurd hx h'.1

theorem Fld.code_length (f : Fld) : f.code.length = 8 := rfl

theorem Fld.code_inj {f g : Fld} (h : f.code = g.code) : f = g := by
  obtain ⟨u, i, l, w, b, r, s, a⟩ := f
  obtain ⟨u', i', l', w', b', r', s', a'⟩ := g
  simp only [Fld.code, List.cons.injEq, and_true] at h
  obtain ⟨rfl, rfl, rfl, rfl, rfl, rfl, hs, ha⟩ := h
  cases s <;> cases s' <;> simp_all <;> cases a <;> cases a' <;> simp_all

theorem Fld.lt_trans (a b c : Fld) (h : a.lt b = true) (h' : b.lt c = true) : a.lt c = true := lexLt_trans _ _ _ h h'

theorem Fld.lt_total (a b : Fld) (h : a ≠ b) (h' : a.lt b = false) : b.lt a = true :=
  lexLt_total _ _ rfl (fun e => h (Fld.code_inj e)) h'

/-- A write of the field file keeps its form. -/
theorem fldsWf_put (l : List (Fld × Nat)) (f : Fld) (v : Nat) (h : fldsWf l = true) :
    fldsWf (sparsePut Fld.lt f.reset f v l) = true := sparseWf_put Fld.lt (fun f => f.reset) Fld.lt_trans Fld.lt_total f v l h

end Sys2Proof.Machine
end

