-- ==== Sys2Proof/Laws/State.lean ====
section
/-! SUPPORT. The named updates of the state, field by field: what each leaves alone and what it writes. -/

namespace Sys2Proof.Machine

/-! ### State.set -/

@[simp] theorem State.set_part (s : State) (f : Fld) (v : Nat) : (s.set f v).part = s.part := rfl
@[simp] theorem State.set_force (s : State) (f : Fld) (v : Nat) : (s.set f v).force = s.force := rfl
@[simp] theorem State.set_mem (s : State) (f : Fld) (v : Nat) : (s.set f v).mem = s.mem := rfl
@[simp] theorem State.set_clock (s : State) (f : Fld) (v : Nat) : (s.set f v).clock = s.clock := rfl
@[simp] theorem State.set_lanes (s : State) (f : Fld) (v : Nat) : (s.set f v).lanes = s.lanes := rfl
@[simp] theorem State.set_cores (s : State) (f : Fld) (v : Nat) : (s.set f v).cores = s.cores := rfl
@[simp] theorem State.set_power (s : State) (f : Fld) (v : Nat) : (s.set f v).power = s.power := rfl
@[simp] theorem State.set_tracker (s : State) (f : Fld) (v : Nat) : (s.set f v).tracker = s.tracker := rfl
@[simp] theorem State.set_pps (s : State) (f : Fld) (v : Nat) : (s.set f v).pps = s.pps := rfl
@[simp] theorem State.set_utcSet (s : State) (f : Fld) (v : Nat) : (s.set f v).utcSet = s.utcSet := rfl
@[simp] theorem State.set_cues (s : State) (f : Fld) (v : Nat) : (s.set f v).cues = s.cues := rfl
@[simp] theorem State.set_chain (s : State) (f : Fld) (v : Nat) : (s.set f v).chain = s.chain := rfl
@[simp] theorem State.set_quads (s : State) (f : Fld) (v : Nat) : (s.set f v).quads = s.quads := rfl
@[simp] theorem State.set_selfCal (s : State) (f : Fld) (v : Nat) : (s.set f v).selfCal = s.selfCal := rfl
@[simp] theorem State.set_shNode (s : State) (f : Fld) (v : Nat) : (s.set f v).shNode = s.shNode := rfl
@[simp] theorem State.set_bitMon (s : State) (f : Fld) (v : Nat) : (s.set f v).bitMon = s.bitMon := rfl
@[simp] theorem State.set_driftBlocks (s : State) (f : Fld) (v : Nat) : (s.set f v).driftBlocks = s.driftBlocks := rfl
@[simp] theorem State.set_rampBlocks (s : State) (f : Fld) (v : Nat) : (s.set f v).rampBlocks = s.rampBlocks := rfl
@[simp] theorem State.set_second (s : State) (f : Fld) (v : Nat) : (s.set f v).second = s.second := rfl
@[simp] theorem State.set_retiring (s : State) (f : Fld) (v : Nat) : (s.set f v).retiring = s.retiring := rfl
@[simp] theorem State.set_changeOver (s : State) (f : Fld) (v : Nat) : (s.set f v).changeOver = s.changeOver := rfl
@[simp] theorem State.set_streams (s : State) (f : Fld) (v : Nat) : (s.set f v).streams = s.streams := rfl
@[simp] theorem State.set_progs (s : State) (f : Fld) (v : Nat) : (s.set f v).progs = s.progs := rfl
@[simp] theorem State.set_laneOrders (s : State) (f : Fld) (v : Nat) : (s.set f v).laneOrders = s.laneOrders := rfl
@[simp] theorem State.set_rope (s : State) (f : Fld) (v : Nat) : (s.set f v).rope = s.rope := rfl
@[simp] theorem State.set_leases (s : State) (f : Fld) (v : Nat) : (s.set f v).leases = s.leases := rfl
@[simp] theorem State.set_slots (s : State) (f : Fld) (v : Nat) : (s.set f v).slots = s.slots := rfl
@[simp] theorem State.set_resp (s : State) (f : Fld) (v : Nat) : (s.set f v).resp = s.resp := rfl
@[simp] theorem State.set_pulse (s : State) (f : Fld) (v : Nat) : (s.set f v).pulse = s.pulse := rfl
@[simp] theorem State.set_watch (s : State) (f : Fld) (v : Nat) : (s.set f v).watch = s.watch := rfl
@[simp] theorem State.set_cairn (s : State) (f : Fld) (v : Nat) : (s.set f v).cairn = s.cairn := rfl
@[simp] theorem State.set_jrnl (s : State) (f : Fld) (v : Nat) : (s.set f v).jrnl = s.jrnl := rfl
@[simp] theorem State.set_port (s : State) (f : Fld) (v : Nat) : (s.set f v).port = s.port := rfl
@[simp] theorem State.set_readAt (s : State) (f : Fld) (v : Nat) : (s.set f v).readAt = s.readAt := rfl
@[simp] theorem State.set_pq (s : State) (f : Fld) (v : Nat) : (s.set f v).pq = s.pq := rfl
@[simp] theorem State.set_capt (s : State) (f : Fld) (v : Nat) : (s.set f v).capt = s.capt := rfl
@[simp] theorem State.set_aux (s : State) (f : Fld) (v : Nat) : (s.set f v).aux = s.aux := rfl
@[simp] theorem State.set_irq (s : State) (f : Fld) (v : Nat) : (s.set f v).irq = s.irq := rfl
@[simp] theorem State.set_readData (s : State) (f : Fld) (v : Nat) : (s.set f v).readData = s.readData := rfl
@[simp] theorem State.set_modem (s : State) (f : Fld) (v : Nat) : (s.set f v).modem = s.modem := rfl
@[simp] theorem State.set_glass (s : State) (f : Fld) (v : Nat) : (s.set f v).glass = s.glass := rfl
@[simp] theorem State.set_tamp (s : State) (f : Fld) (v : Nat) : (s.set f v).tamp = s.tamp := rfl
@[simp] theorem State.set_access (s : State) (f : Fld) (v : Nat) : (s.set f v).access = s.access := rfl
@[simp] theorem State.set_pwr (s : State) (f : Fld) (v : Nat) : (s.set f v).pwr = s.pwr := rfl
@[simp] theorem State.set_link (s : State) (f : Fld) (v : Nat) : (s.set f v).link = s.link := rfl
@[simp] theorem State.set_free (s : State) (f : Fld) (v : Nat) : (s.set f v).free = s.free := rfl
@[simp] theorem State.set_pending (s : State) (f : Fld) (v : Nat) : (s.set f v).pending = s.pending := rfl

/-! ### State.flag -/

@[simp] theorem State.flag_part (s : State) (f : Fld) (b : Bool) : (s.flag f b).part = s.part := rfl
@[simp] theorem State.flag_force (s : State) (f : Fld) (b : Bool) : (s.flag f b).force = s.force := rfl
@[simp] theorem State.flag_mem (s : State) (f : Fld) (b : Bool) : (s.flag f b).mem = s.mem := rfl
@[simp] theorem State.flag_clock (s : State) (f : Fld) (b : Bool) : (s.flag f b).clock = s.clock := rfl
@[simp] theorem State.flag_lanes (s : State) (f : Fld) (b : Bool) : (s.flag f b).lanes = s.lanes := rfl
@[simp] theorem State.flag_cores (s : State) (f : Fld) (b : Bool) : (s.flag f b).cores = s.cores := rfl
@[simp] theorem State.flag_power (s : State) (f : Fld) (b : Bool) : (s.flag f b).power = s.power := rfl
@[simp] theorem State.flag_tracker (s : State) (f : Fld) (b : Bool) : (s.flag f b).tracker = s.tracker := rfl
@[simp] theorem State.flag_pps (s : State) (f : Fld) (b : Bool) : (s.flag f b).pps = s.pps := rfl
@[simp] theorem State.flag_utcSet (s : State) (f : Fld) (b : Bool) : (s.flag f b).utcSet = s.utcSet := rfl
@[simp] theorem State.flag_cues (s : State) (f : Fld) (b : Bool) : (s.flag f b).cues = s.cues := rfl
@[simp] theorem State.flag_chain (s : State) (f : Fld) (b : Bool) : (s.flag f b).chain = s.chain := rfl
@[simp] theorem State.flag_quads (s : State) (f : Fld) (b : Bool) : (s.flag f b).quads = s.quads := rfl
@[simp] theorem State.flag_selfCal (s : State) (f : Fld) (b : Bool) : (s.flag f b).selfCal = s.selfCal := rfl
@[simp] theorem State.flag_shNode (s : State) (f : Fld) (b : Bool) : (s.flag f b).shNode = s.shNode := rfl
@[simp] theorem State.flag_bitMon (s : State) (f : Fld) (b : Bool) : (s.flag f b).bitMon = s.bitMon := rfl
@[simp] theorem State.flag_driftBlocks (s : State) (f : Fld) (b : Bool) : (s.flag f b).driftBlocks = s.driftBlocks := rfl
@[simp] theorem State.flag_rampBlocks (s : State) (f : Fld) (b : Bool) : (s.flag f b).rampBlocks = s.rampBlocks := rfl
@[simp] theorem State.flag_second (s : State) (f : Fld) (b : Bool) : (s.flag f b).second = s.second := rfl
@[simp] theorem State.flag_retiring (s : State) (f : Fld) (b : Bool) : (s.flag f b).retiring = s.retiring := rfl
@[simp] theorem State.flag_changeOver (s : State) (f : Fld) (b : Bool) : (s.flag f b).changeOver = s.changeOver := rfl
@[simp] theorem State.flag_streams (s : State) (f : Fld) (b : Bool) : (s.flag f b).streams = s.streams := rfl
@[simp] theorem State.flag_progs (s : State) (f : Fld) (b : Bool) : (s.flag f b).progs = s.progs := rfl
@[simp] theorem State.flag_laneOrders (s : State) (f : Fld) (b : Bool) : (s.flag f b).laneOrders = s.laneOrders := rfl
@[simp] theorem State.flag_rope (s : State) (f : Fld) (b : Bool) : (s.flag f b).rope = s.rope := rfl
@[simp] theorem State.flag_leases (s : State) (f : Fld) (b : Bool) : (s.flag f b).leases = s.leases := rfl
@[simp] theorem State.flag_slots (s : State) (f : Fld) (b : Bool) : (s.flag f b).slots = s.slots := rfl
@[simp] theorem State.flag_resp (s : State) (f : Fld) (b : Bool) : (s.flag f b).resp = s.resp := rfl
@[simp] theorem State.flag_pulse (s : State) (f : Fld) (b : Bool) : (s.flag f b).pulse = s.pulse := rfl
@[simp] theorem State.flag_watch (s : State) (f : Fld) (b : Bool) : (s.flag f b).watch = s.watch := rfl
@[simp] theorem State.flag_cairn (s : State) (f : Fld) (b : Bool) : (s.flag f b).cairn = s.cairn := rfl
@[simp] theorem State.flag_jrnl (s : State) (f : Fld) (b : Bool) : (s.flag f b).jrnl = s.jrnl := rfl
@[simp] theorem State.flag_port (s : State) (f : Fld) (b : Bool) : (s.flag f b).port = s.port := rfl
@[simp] theorem State.flag_readAt (s : State) (f : Fld) (b : Bool) : (s.flag f b).readAt = s.readAt := rfl
@[simp] theorem State.flag_pq (s : State) (f : Fld) (b : Bool) : (s.flag f b).pq = s.pq := rfl
@[simp] theorem State.flag_capt (s : State) (f : Fld) (b : Bool) : (s.flag f b).capt = s.capt := rfl
@[simp] theorem State.flag_aux (s : State) (f : Fld) (b : Bool) : (s.flag f b).aux = s.aux := rfl
@[simp] theorem State.flag_irq (s : State) (f : Fld) (b : Bool) : (s.flag f b).irq = s.irq := rfl
@[simp] theorem State.flag_readData (s : State) (f : Fld) (b : Bool) : (s.flag f b).readData = s.readData := rfl
@[simp] theorem State.flag_modem (s : State) (f : Fld) (b : Bool) : (s.flag f b).modem = s.modem := rfl
@[simp] theorem State.flag_glass (s : State) (f : Fld) (b : Bool) : (s.flag f b).glass = s.glass := rfl
@[simp] theorem State.flag_tamp (s : State) (f : Fld) (b : Bool) : (s.flag f b).tamp = s.tamp := rfl
@[simp] theorem State.flag_access (s : State) (f : Fld) (b : Bool) : (s.flag f b).access = s.access := rfl
@[simp] theorem State.flag_pwr (s : State) (f : Fld) (b : Bool) : (s.flag f b).pwr = s.pwr := rfl
@[simp] theorem State.flag_link (s : State) (f : Fld) (b : Bool) : (s.flag f b).link = s.link := rfl
@[simp] theorem State.flag_free (s : State) (f : Fld) (b : Bool) : (s.flag f b).free = s.free := rfl
@[simp] theorem State.flag_pending (s : State) (f : Fld) (b : Bool) : (s.flag f b).pending = s.pending := rfl

/-! ### State.setBit -/

@[simp] theorem State.setBit_part (s : State) (f : Fld) (i : Nat) (b : Bool) : (s.setBit f i b).part = s.part := rfl
@[simp] theorem State.setBit_force (s : State) (f : Fld) (i : Nat) (b : Bool) : (s.setBit f i b).force = s.force := rfl
@[simp] theorem State.setBit_mem (s : State) (f : Fld) (i : Nat) (b : Bool) : (s.setBit f i b).mem = s.mem := rfl
@[simp] theorem State.setBit_clock (s : State) (f : Fld) (i : Nat) (b : Bool) : (s.setBit f i b).clock = s.clock := rfl
@[simp] theorem State.setBit_lanes (s : State) (f : Fld) (i : Nat) (b : Bool) : (s.setBit f i b).lanes = s.lanes := rfl
@[simp] theorem State.setBit_cores (s : State) (f : Fld) (i : Nat) (b : Bool) : (s.setBit f i b).cores = s.cores := rfl
@[simp] theorem State.setBit_power (s : State) (f : Fld) (i : Nat) (b : Bool) : (s.setBit f i b).power = s.power := rfl
@[simp] theorem State.setBit_tracker (s : State) (f : Fld) (i : Nat) (b : Bool) : (s.setBit f i b).tracker = s.tracker := rfl
@[simp] theorem State.setBit_pps (s : State) (f : Fld) (i : Nat) (b : Bool) : (s.setBit f i b).pps = s.pps := rfl
@[simp] theorem State.setBit_utcSet (s : State) (f : Fld) (i : Nat) (b : Bool) : (s.setBit f i b).utcSet = s.utcSet := rfl
@[simp] theorem State.setBit_cues (s : State) (f : Fld) (i : Nat) (b : Bool) : (s.setBit f i b).cues = s.cues := rfl
@[simp] theorem State.setBit_chain (s : State) (f : Fld) (i : Nat) (b : Bool) : (s.setBit f i b).chain = s.chain := rfl
@[simp] theorem State.setBit_quads (s : State) (f : Fld) (i : Nat) (b : Bool) : (s.setBit f i b).quads = s.quads := rfl
@[simp] theorem State.setBit_selfCal (s : State) (f : Fld) (i : Nat) (b : Bool) : (s.setBit f i b).selfCal = s.selfCal := rfl
@[simp] theorem State.setBit_shNode (s : State) (f : Fld) (i : Nat) (b : Bool) : (s.setBit f i b).shNode = s.shNode := rfl
@[simp] theorem State.setBit_bitMon (s : State) (f : Fld) (i : Nat) (b : Bool) : (s.setBit f i b).bitMon = s.bitMon := rfl
@[simp] theorem State.setBit_driftBlocks (s : State) (f : Fld) (i : Nat) (b : Bool) : (s.setBit f i b).driftBlocks = s.driftBlocks := rfl
@[simp] theorem State.setBit_rampBlocks (s : State) (f : Fld) (i : Nat) (b : Bool) : (s.setBit f i b).rampBlocks = s.rampBlocks := rfl
@[simp] theorem State.setBit_second (s : State) (f : Fld) (i : Nat) (b : Bool) : (s.setBit f i b).second = s.second := rfl
@[simp] theorem State.setBit_retiring (s : State) (f : Fld) (i : Nat) (b : Bool) : (s.setBit f i b).retiring = s.retiring := rfl
@[simp] theorem State.setBit_changeOver (s : State) (f : Fld) (i : Nat) (b : Bool) : (s.setBit f i b).changeOver = s.changeOver := rfl
@[simp] theorem State.setBit_streams (s : State) (f : Fld) (i : Nat) (b : Bool) : (s.setBit f i b).streams = s.streams := rfl
@[simp] theorem State.setBit_progs (s : State) (f : Fld) (i : Nat) (b : Bool) : (s.setBit f i b).progs = s.progs := rfl
@[simp] theorem State.setBit_laneOrders (s : State) (f : Fld) (i : Nat) (b : Bool) : (s.setBit f i b).laneOrders = s.laneOrders := rfl
@[simp] theorem State.setBit_rope (s : State) (f : Fld) (i : Nat) (b : Bool) : (s.setBit f i b).rope = s.rope := rfl
@[simp] theorem State.setBit_leases (s : State) (f : Fld) (i : Nat) (b : Bool) : (s.setBit f i b).leases = s.leases := rfl
@[simp] theorem State.setBit_slots (s : State) (f : Fld) (i : Nat) (b : Bool) : (s.setBit f i b).slots = s.slots := rfl
@[simp] theorem State.setBit_resp (s : State) (f : Fld) (i : Nat) (b : Bool) : (s.setBit f i b).resp = s.resp := rfl
@[simp] theorem State.setBit_pulse (s : State) (f : Fld) (i : Nat) (b : Bool) : (s.setBit f i b).pulse = s.pulse := rfl
@[simp] theorem State.setBit_watch (s : State) (f : Fld) (i : Nat) (b : Bool) : (s.setBit f i b).watch = s.watch := rfl
@[simp] theorem State.setBit_cairn (s : State) (f : Fld) (i : Nat) (b : Bool) : (s.setBit f i b).cairn = s.cairn := rfl
@[simp] theorem State.setBit_jrnl (s : State) (f : Fld) (i : Nat) (b : Bool) : (s.setBit f i b).jrnl = s.jrnl := rfl
@[simp] theorem State.setBit_port (s : State) (f : Fld) (i : Nat) (b : Bool) : (s.setBit f i b).port = s.port := rfl
@[simp] theorem State.setBit_readAt (s : State) (f : Fld) (i : Nat) (b : Bool) : (s.setBit f i b).readAt = s.readAt := rfl
@[simp] theorem State.setBit_pq (s : State) (f : Fld) (i : Nat) (b : Bool) : (s.setBit f i b).pq = s.pq := rfl
@[simp] theorem State.setBit_capt (s : State) (f : Fld) (i : Nat) (b : Bool) : (s.setBit f i b).capt = s.capt := rfl
@[simp] theorem State.setBit_aux (s : State) (f : Fld) (i : Nat) (b : Bool) : (s.setBit f i b).aux = s.aux := rfl
@[simp] theorem State.setBit_irq (s : State) (f : Fld) (i : Nat) (b : Bool) : (s.setBit f i b).irq = s.irq := rfl
@[simp] theorem State.setBit_readData (s : State) (f : Fld) (i : Nat) (b : Bool) : (s.setBit f i b).readData = s.readData := rfl
@[simp] theorem State.setBit_modem (s : State) (f : Fld) (i : Nat) (b : Bool) : (s.setBit f i b).modem = s.modem := rfl
@[simp] theorem State.setBit_glass (s : State) (f : Fld) (i : Nat) (b : Bool) : (s.setBit f i b).glass = s.glass := rfl
@[simp] theorem State.setBit_tamp (s : State) (f : Fld) (i : Nat) (b : Bool) : (s.setBit f i b).tamp = s.tamp := rfl
@[simp] theorem State.setBit_access (s : State) (f : Fld) (i : Nat) (b : Bool) : (s.setBit f i b).access = s.access := rfl
@[simp] theorem State.setBit_pwr (s : State) (f : Fld) (i : Nat) (b : Bool) : (s.setBit f i b).pwr = s.pwr := rfl
@[simp] theorem State.setBit_link (s : State) (f : Fld) (i : Nat) (b : Bool) : (s.setBit f i b).link = s.link := rfl
@[simp] theorem State.setBit_free (s : State) (f : Fld) (i : Nat) (b : Bool) : (s.setBit f i b).free = s.free := rfl
@[simp] theorem State.setBit_pending (s : State) (f : Fld) (i : Nat) (b : Bool) : (s.setBit f i b).pending = s.pending := rfl

/-! ### State.set2 -/

@[simp] theorem State.set2_part (s : State) (f g : Fld) (v : Nat) : (s.set2 f g v).part = s.part := rfl
@[simp] theorem State.set2_force (s : State) (f g : Fld) (v : Nat) : (s.set2 f g v).force = s.force := rfl
@[simp] theorem State.set2_mem (s : State) (f g : Fld) (v : Nat) : (s.set2 f g v).mem = s.mem := rfl
@[simp] theorem State.set2_clock (s : State) (f g : Fld) (v : Nat) : (s.set2 f g v).clock = s.clock := rfl
@[simp] theorem State.set2_lanes (s : State) (f g : Fld) (v : Nat) : (s.set2 f g v).lanes = s.lanes := rfl
@[simp] theorem State.set2_cores (s : State) (f g : Fld) (v : Nat) : (s.set2 f g v).cores = s.cores := rfl
@[simp] theorem State.set2_power (s : State) (f g : Fld) (v : Nat) : (s.set2 f g v).power = s.power := rfl
@[simp] theorem State.set2_tracker (s : State) (f g : Fld) (v : Nat) : (s.set2 f g v).tracker = s.tracker := rfl
@[simp] theorem State.set2_pps (s : State) (f g : Fld) (v : Nat) : (s.set2 f g v).pps = s.pps := rfl
@[simp] theorem State.set2_utcSet (s : State) (f g : Fld) (v : Nat) : (s.set2 f g v).utcSet = s.utcSet := rfl
@[simp] theorem State.set2_cues (s : State) (f g : Fld) (v : Nat) : (s.set2 f g v).cues = s.cues := rfl
@[simp] theorem State.set2_chain (s : State) (f g : Fld) (v : Nat) : (s.set2 f g v).chain = s.chain := rfl
@[simp] theorem State.set2_quads (s : State) (f g : Fld) (v : Nat) : (s.set2 f g v).quads = s.quads := rfl
@[simp] theorem State.set2_selfCal (s : State) (f g : Fld) (v : Nat) : (s.set2 f g v).selfCal = s.selfCal := rfl
@[simp] theorem State.set2_shNode (s : State) (f g : Fld) (v : Nat) : (s.set2 f g v).shNode = s.shNode := rfl
@[simp] theorem State.set2_bitMon (s : State) (f g : Fld) (v : Nat) : (s.set2 f g v).bitMon = s.bitMon := rfl
@[simp] theorem State.set2_driftBlocks (s : State) (f g : Fld) (v : Nat) : (s.set2 f g v).driftBlocks = s.driftBlocks := rfl
@[simp] theorem State.set2_rampBlocks (s : State) (f g : Fld) (v : Nat) : (s.set2 f g v).rampBlocks = s.rampBlocks := rfl
@[simp] theorem State.set2_second (s : State) (f g : Fld) (v : Nat) : (s.set2 f g v).second = s.second := rfl
@[simp] theorem State.set2_retiring (s : State) (f g : Fld) (v : Nat) : (s.set2 f g v).retiring = s.retiring := rfl
@[simp] theorem State.set2_changeOver (s : State) (f g : Fld) (v : Nat) : (s.set2 f g v).changeOver = s.changeOver := rfl
@[simp] theorem State.set2_streams (s : State) (f g : Fld) (v : Nat) : (s.set2 f g v).streams = s.streams := rfl
@[simp] theorem State.set2_progs (s : State) (f g : Fld) (v : Nat) : (s.set2 f g v).progs = s.progs := rfl
@[simp] theorem State.set2_laneOrders (s : State) (f g : Fld) (v : Nat) : (s.set2 f g v).laneOrders = s.laneOrders := rfl
@[simp] theorem State.set2_rope (s : State) (f g : Fld) (v : Nat) : (s.set2 f g v).rope = s.rope := rfl
@[simp] theorem State.set2_leases (s : State) (f g : Fld) (v : Nat) : (s.set2 f g v).leases = s.leases := rfl
@[simp] theorem State.set2_slots (s : State) (f g : Fld) (v : Nat) : (s.set2 f g v).slots = s.slots := rfl
@[simp] theorem State.set2_resp (s : State) (f g : Fld) (v : Nat) : (s.set2 f g v).resp = s.resp := rfl
@[simp] theorem State.set2_pulse (s : State) (f g : Fld) (v : Nat) : (s.set2 f g v).pulse = s.pulse := rfl
@[simp] theorem State.set2_watch (s : State) (f g : Fld) (v : Nat) : (s.set2 f g v).watch = s.watch := rfl
@[simp] theorem State.set2_cairn (s : State) (f g : Fld) (v : Nat) : (s.set2 f g v).cairn = s.cairn := rfl
@[simp] theorem State.set2_jrnl (s : State) (f g : Fld) (v : Nat) : (s.set2 f g v).jrnl = s.jrnl := rfl
@[simp] theorem State.set2_port (s : State) (f g : Fld) (v : Nat) : (s.set2 f g v).port = s.port := rfl
@[simp] theorem State.set2_readAt (s : State) (f g : Fld) (v : Nat) : (s.set2 f g v).readAt = s.readAt := rfl
@[simp] theorem State.set2_pq (s : State) (f g : Fld) (v : Nat) : (s.set2 f g v).pq = s.pq := rfl
@[simp] theorem State.set2_capt (s : State) (f g : Fld) (v : Nat) : (s.set2 f g v).capt = s.capt := rfl
@[simp] theorem State.set2_aux (s : State) (f g : Fld) (v : Nat) : (s.set2 f g v).aux = s.aux := rfl
@[simp] theorem State.set2_irq (s : State) (f g : Fld) (v : Nat) : (s.set2 f g v).irq = s.irq := rfl
@[simp] theorem State.set2_readData (s : State) (f g : Fld) (v : Nat) : (s.set2 f g v).readData = s.readData := rfl
@[simp] theorem State.set2_modem (s : State) (f g : Fld) (v : Nat) : (s.set2 f g v).modem = s.modem := rfl
@[simp] theorem State.set2_glass (s : State) (f g : Fld) (v : Nat) : (s.set2 f g v).glass = s.glass := rfl
@[simp] theorem State.set2_tamp (s : State) (f g : Fld) (v : Nat) : (s.set2 f g v).tamp = s.tamp := rfl
@[simp] theorem State.set2_access (s : State) (f g : Fld) (v : Nat) : (s.set2 f g v).access = s.access := rfl
@[simp] theorem State.set2_pwr (s : State) (f g : Fld) (v : Nat) : (s.set2 f g v).pwr = s.pwr := rfl
@[simp] theorem State.set2_link (s : State) (f g : Fld) (v : Nat) : (s.set2 f g v).link = s.link := rfl
@[simp] theorem State.set2_free (s : State) (f g : Fld) (v : Nat) : (s.set2 f g v).free = s.free := rfl
@[simp] theorem State.set2_pending (s : State) (f g : Fld) (v : Nat) : (s.set2 f g v).pending = s.pending := rfl

/-! ### State.takeEffect -/

@[simp] theorem State.takeEffect_part (s : State) (f : Fld) : (s.takeEffect f).part = s.part := rfl
@[simp] theorem State.takeEffect_flds (s : State) (f : Fld) : (s.takeEffect f).flds = s.flds := rfl
@[simp] theorem State.takeEffect_mem (s : State) (f : Fld) : (s.takeEffect f).mem = s.mem := rfl
@[simp] theorem State.takeEffect_clock (s : State) (f : Fld) : (s.takeEffect f).clock = s.clock := rfl
@[simp] theorem State.takeEffect_lanes (s : State) (f : Fld) : (s.takeEffect f).lanes = s.lanes := rfl
@[simp] theorem State.takeEffect_cores (s : State) (f : Fld) : (s.takeEffect f).cores = s.cores := rfl
@[simp] theorem State.takeEffect_power (s : State) (f : Fld) : (s.takeEffect f).power = s.power := rfl
@[simp] theorem State.takeEffect_tracker (s : State) (f : Fld) : (s.takeEffect f).tracker = s.tracker := rfl
@[simp] theorem State.takeEffect_pps (s : State) (f : Fld) : (s.takeEffect f).pps = s.pps := rfl
@[simp] theorem State.takeEffect_utcSet (s : State) (f : Fld) : (s.takeEffect f).utcSet = s.utcSet := rfl
@[simp] theorem State.takeEffect_cues (s : State) (f : Fld) : (s.takeEffect f).cues = s.cues := rfl
@[simp] theorem State.takeEffect_chain (s : State) (f : Fld) : (s.takeEffect f).chain = s.chain := rfl
@[simp] theorem State.takeEffect_quads (s : State) (f : Fld) : (s.takeEffect f).quads = s.quads := rfl
@[simp] theorem State.takeEffect_selfCal (s : State) (f : Fld) : (s.takeEffect f).selfCal = s.selfCal := rfl
@[simp] theorem State.takeEffect_shNode (s : State) (f : Fld) : (s.takeEffect f).shNode = s.shNode := rfl
@[simp] theorem State.takeEffect_bitMon (s : State) (f : Fld) : (s.takeEffect f).bitMon = s.bitMon := rfl
@[simp] theorem State.takeEffect_driftBlocks (s : State) (f : Fld) : (s.takeEffect f).driftBlocks = s.driftBlocks := rfl
@[simp] theorem State.takeEffect_rampBlocks (s : State) (f : Fld) : (s.takeEffect f).rampBlocks = s.rampBlocks := rfl
@[simp] theorem State.takeEffect_second (s : State) (f : Fld) : (s.takeEffect f).second = s.second := rfl
@[simp] theorem State.takeEffect_retiring (s : State) (f : Fld) : (s.takeEffect f).retiring = s.retiring := rfl
@[simp] theorem State.takeEffect_changeOver (s : State) (f : Fld) : (s.takeEffect f).changeOver = s.changeOver := rfl
@[simp] theorem State.takeEffect_streams (s : State) (f : Fld) : (s.takeEffect f).streams = s.streams := rfl
@[simp] theorem State.takeEffect_progs (s : State) (f : Fld) : (s.takeEffect f).progs = s.progs := rfl
@[simp] theorem State.takeEffect_laneOrders (s : State) (f : Fld) : (s.takeEffect f).laneOrders = s.laneOrders := rfl
@[simp] theorem State.takeEffect_rope (s : State) (f : Fld) : (s.takeEffect f).rope = s.rope := rfl
@[simp] theorem State.takeEffect_leases (s : State) (f : Fld) : (s.takeEffect f).leases = s.leases := rfl
@[simp] theorem State.takeEffect_slots (s : State) (f : Fld) : (s.takeEffect f).slots = s.slots := rfl
@[simp] theorem State.takeEffect_resp (s : State) (f : Fld) : (s.takeEffect f).resp = s.resp := rfl
@[simp] theorem State.takeEffect_pulse (s : State) (f : Fld) : (s.takeEffect f).pulse = s.pulse := rfl
@[simp] theorem State.takeEffect_watch (s : State) (f : Fld) : (s.takeEffect f).watch = s.watch := rfl
@[simp] theorem State.takeEffect_cairn (s : State) (f : Fld) : (s.takeEffect f).cairn = s.cairn := rfl
@[simp] theorem State.takeEffect_jrnl (s : State) (f : Fld) : (s.takeEffect f).jrnl = s.jrnl := rfl
@[simp] theorem State.takeEffect_port (s : State) (f : Fld) : (s.takeEffect f).port = s.port := rfl
@[simp] theorem State.takeEffect_readAt (s : State) (f : Fld) : (s.takeEffect f).readAt = s.readAt := rfl
@[simp] theorem State.takeEffect_pq (s : State) (f : Fld) : (s.takeEffect f).pq = s.pq := rfl
@[simp] theorem State.takeEffect_capt (s : State) (f : Fld) : (s.takeEffect f).capt = s.capt := rfl
@[simp] theorem State.takeEffect_aux (s : State) (f : Fld) : (s.takeEffect f).aux = s.aux := rfl
@[simp] theorem State.takeEffect_irq (s : State) (f : Fld) : (s.takeEffect f).irq = s.irq := rfl
@[simp] theorem State.takeEffect_readData (s : State) (f : Fld) : (s.takeEffect f).readData = s.readData := rfl
@[simp] theorem State.takeEffect_modem (s : State) (f : Fld) : (s.takeEffect f).modem = s.modem := rfl
@[simp] theorem State.takeEffect_glass (s : State) (f : Fld) : (s.takeEffect f).glass = s.glass := rfl
@[simp] theorem State.takeEffect_tamp (s : State) (f : Fld) : (s.takeEffect f).tamp = s.tamp := rfl
@[simp] theorem State.takeEffect_access (s : State) (f : Fld) : (s.takeEffect f).access = s.access := rfl
@[simp] theorem State.takeEffect_pwr (s : State) (f : Fld) : (s.takeEffect f).pwr = s.pwr := rfl
@[simp] theorem State.takeEffect_link (s : State) (f : Fld) : (s.takeEffect f).link = s.link := rfl
@[simp] theorem State.takeEffect_free (s : State) (f : Fld) : (s.takeEffect f).free = s.free := rfl
@[simp] theorem State.takeEffect_pending (s : State) (f : Fld) : (s.takeEffect f).pending = s.pending := rfl

/-! ### State.setBytes -/

@[simp] theorem State.setBytes_part (s : State) (a : Nat) (bs : List Byte) : (s.setBytes a bs).part = s.part := rfl
@[simp] theorem State.setBytes_flds (s : State) (a : Nat) (bs : List Byte) : (s.setBytes a bs).flds = s.flds := rfl
@[simp] theorem State.setBytes_force (s : State) (a : Nat) (bs : List Byte) : (s.setBytes a bs).force = s.force := rfl
@[simp] theorem State.setBytes_clock (s : State) (a : Nat) (bs : List Byte) : (s.setBytes a bs).clock = s.clock := rfl
@[simp] theorem State.setBytes_lanes (s : State) (a : Nat) (bs : List Byte) : (s.setBytes a bs).lanes = s.lanes := rfl
@[simp] theorem State.setBytes_cores (s : State) (a : Nat) (bs : List Byte) : (s.setBytes a bs).cores = s.cores := rfl
@[simp] theorem State.setBytes_power (s : State) (a : Nat) (bs : List Byte) : (s.setBytes a bs).power = s.power := rfl
@[simp] theorem State.setBytes_tracker (s : State) (a : Nat) (bs : List Byte) : (s.setBytes a bs).tracker = s.tracker := rfl
@[simp] theorem State.setBytes_pps (s : State) (a : Nat) (bs : List Byte) : (s.setBytes a bs).pps = s.pps := rfl
@[simp] theorem State.setBytes_utcSet (s : State) (a : Nat) (bs : List Byte) : (s.setBytes a bs).utcSet = s.utcSet := rfl
@[simp] theorem State.setBytes_cues (s : State) (a : Nat) (bs : List Byte) : (s.setBytes a bs).cues = s.cues := rfl
@[simp] theorem State.setBytes_chain (s : State) (a : Nat) (bs : List Byte) : (s.setBytes a bs).chain = s.chain := rfl
@[simp] theorem State.setBytes_quads (s : State) (a : Nat) (bs : List Byte) : (s.setBytes a bs).quads = s.quads := rfl
@[simp] theorem State.setBytes_selfCal (s : State) (a : Nat) (bs : List Byte) : (s.setBytes a bs).selfCal = s.selfCal := rfl
@[simp] theorem State.setBytes_shNode (s : State) (a : Nat) (bs : List Byte) : (s.setBytes a bs).shNode = s.shNode := rfl
@[simp] theorem State.setBytes_bitMon (s : State) (a : Nat) (bs : List Byte) : (s.setBytes a bs).bitMon = s.bitMon := rfl
@[simp] theorem State.setBytes_driftBlocks (s : State) (a : Nat) (bs : List Byte) : (s.setBytes a bs).driftBlocks = s.driftBlocks := rfl
@[simp] theorem State.setBytes_rampBlocks (s : State) (a : Nat) (bs : List Byte) : (s.setBytes a bs).rampBlocks = s.rampBlocks := rfl
@[simp] theorem State.setBytes_second (s : State) (a : Nat) (bs : List Byte) : (s.setBytes a bs).second = s.second := rfl
@[simp] theorem State.setBytes_retiring (s : State) (a : Nat) (bs : List Byte) : (s.setBytes a bs).retiring = s.retiring := rfl
@[simp] theorem State.setBytes_changeOver (s : State) (a : Nat) (bs : List Byte) : (s.setBytes a bs).changeOver = s.changeOver := rfl
@[simp] theorem State.setBytes_streams (s : State) (a : Nat) (bs : List Byte) : (s.setBytes a bs).streams = s.streams := rfl
@[simp] theorem State.setBytes_progs (s : State) (a : Nat) (bs : List Byte) : (s.setBytes a bs).progs = s.progs := rfl
@[simp] theorem State.setBytes_laneOrders (s : State) (a : Nat) (bs : List Byte) : (s.setBytes a bs).laneOrders = s.laneOrders := rfl
@[simp] theorem State.setBytes_rope (s : State) (a : Nat) (bs : List Byte) : (s.setBytes a bs).rope = s.rope := rfl
@[simp] theorem State.setBytes_leases (s : State) (a : Nat) (bs : List Byte) : (s.setBytes a bs).leases = s.leases := rfl
@[simp] theorem State.setBytes_slots (s : State) (a : Nat) (bs : List Byte) : (s.setBytes a bs).slots = s.slots := rfl
@[simp] theorem State.setBytes_resp (s : State) (a : Nat) (bs : List Byte) : (s.setBytes a bs).resp = s.resp := rfl
@[simp] theorem State.setBytes_pulse (s : State) (a : Nat) (bs : List Byte) : (s.setBytes a bs).pulse = s.pulse := rfl
@[simp] theorem State.setBytes_watch (s : State) (a : Nat) (bs : List Byte) : (s.setBytes a bs).watch = s.watch := rfl
@[simp] theorem State.setBytes_cairn (s : State) (a : Nat) (bs : List Byte) : (s.setBytes a bs).cairn = s.cairn := rfl
@[simp] theorem State.setBytes_jrnl (s : State) (a : Nat) (bs : List Byte) : (s.setBytes a bs).jrnl = s.jrnl := rfl
@[simp] theorem State.setBytes_port (s : State) (a : Nat) (bs : List Byte) : (s.setBytes a bs).port = s.port := rfl
@[simp] theorem State.setBytes_readAt (s : State) (a : Nat) (bs : List Byte) : (s.setBytes a bs).readAt = s.readAt := rfl
@[simp] theorem State.setBytes_pq (s : State) (a : Nat) (bs : List Byte) : (s.setBytes a bs).pq = s.pq := rfl
@[simp] theorem State.setBytes_capt (s : State) (a : Nat) (bs : List Byte) : (s.setBytes a bs).capt = s.capt := rfl
@[simp] theorem State.setBytes_aux (s : State) (a : Nat) (bs : List Byte) : (s.setBytes a bs).aux = s.aux := rfl
@[simp] theorem State.setBytes_irq (s : State) (a : Nat) (bs : List Byte) : (s.setBytes a bs).irq = s.irq := rfl
@[simp] theorem State.setBytes_readData (s : State) (a : Nat) (bs : List Byte) : (s.setBytes a bs).readData = s.readData := rfl
@[simp] theorem State.setBytes_modem (s : State) (a : Nat) (bs : List Byte) : (s.setBytes a bs).modem = s.modem := rfl
@[simp] theorem State.setBytes_glass (s : State) (a : Nat) (bs : List Byte) : (s.setBytes a bs).glass = s.glass := rfl
@[simp] theorem State.setBytes_tamp (s : State) (a : Nat) (bs : List Byte) : (s.setBytes a bs).tamp = s.tamp := rfl
@[simp] theorem State.setBytes_access (s : State) (a : Nat) (bs : List Byte) : (s.setBytes a bs).access = s.access := rfl
@[simp] theorem State.setBytes_pwr (s : State) (a : Nat) (bs : List Byte) : (s.setBytes a bs).pwr = s.pwr := rfl
@[simp] theorem State.setBytes_link (s : State) (a : Nat) (bs : List Byte) : (s.setBytes a bs).link = s.link := rfl
@[simp] theorem State.setBytes_free (s : State) (a : Nat) (bs : List Byte) : (s.setBytes a bs).free = s.free := rfl
@[simp] theorem State.setBytes_pending (s : State) (a : Nat) (bs : List Byte) : (s.setBytes a bs).pending = s.pending := rfl

/-! ### State.setWord -/

@[simp] theorem State.setWord_part (s : State) (a : Nat) (w : Word) : (s.setWord a w).part = s.part := rfl
@[simp] theorem State.setWord_flds (s : State) (a : Nat) (w : Word) : (s.setWord a w).flds = s.flds := rfl
@[simp] theorem State.setWord_force (s : State) (a : Nat) (w : Word) : (s.setWord a w).force = s.force := rfl
@[simp] theorem State.setWord_clock (s : State) (a : Nat) (w : Word) : (s.setWord a w).clock = s.clock := rfl
@[simp] theorem State.setWord_lanes (s : State) (a : Nat) (w : Word) : (s.setWord a w).lanes = s.lanes := rfl
@[simp] theorem State.setWord_cores (s : State) (a : Nat) (w : Word) : (s.setWord a w).cores = s.cores := rfl
@[simp] theorem State.setWord_power (s : State) (a : Nat) (w : Word) : (s.setWord a w).power = s.power := rfl
@[simp] theorem State.setWord_tracker (s : State) (a : Nat) (w : Word) : (s.setWord a w).tracker = s.tracker := rfl
@[simp] theorem State.setWord_pps (s : State) (a : Nat) (w : Word) : (s.setWord a w).pps = s.pps := rfl
@[simp] theorem State.setWord_utcSet (s : State) (a : Nat) (w : Word) : (s.setWord a w).utcSet = s.utcSet := rfl
@[simp] theorem State.setWord_cues (s : State) (a : Nat) (w : Word) : (s.setWord a w).cues = s.cues := rfl
@[simp] theorem State.setWord_chain (s : State) (a : Nat) (w : Word) : (s.setWord a w).chain = s.chain := rfl
@[simp] theorem State.setWord_quads (s : State) (a : Nat) (w : Word) : (s.setWord a w).quads = s.quads := rfl
@[simp] theorem State.setWord_selfCal (s : State) (a : Nat) (w : Word) : (s.setWord a w).selfCal = s.selfCal := rfl
@[simp] theorem State.setWord_shNode (s : State) (a : Nat) (w : Word) : (s.setWord a w).shNode = s.shNode := rfl
@[simp] theorem State.setWord_bitMon (s : State) (a : Nat) (w : Word) : (s.setWord a w).bitMon = s.bitMon := rfl
@[simp] theorem State.setWord_driftBlocks (s : State) (a : Nat) (w : Word) : (s.setWord a w).driftBlocks = s.driftBlocks := rfl
@[simp] theorem State.setWord_rampBlocks (s : State) (a : Nat) (w : Word) : (s.setWord a w).rampBlocks = s.rampBlocks := rfl
@[simp] theorem State.setWord_second (s : State) (a : Nat) (w : Word) : (s.setWord a w).second = s.second := rfl
@[simp] theorem State.setWord_retiring (s : State) (a : Nat) (w : Word) : (s.setWord a w).retiring = s.retiring := rfl
@[simp] theorem State.setWord_changeOver (s : State) (a : Nat) (w : Word) : (s.setWord a w).changeOver = s.changeOver := rfl
@[simp] theorem State.setWord_streams (s : State) (a : Nat) (w : Word) : (s.setWord a w).streams = s.streams := rfl
@[simp] theorem State.setWord_progs (s : State) (a : Nat) (w : Word) : (s.setWord a w).progs = s.progs := rfl
@[simp] theorem State.setWord_laneOrders (s : State) (a : Nat) (w : Word) : (s.setWord a w).laneOrders = s.laneOrders := rfl
@[simp] theorem State.setWord_rope (s : State) (a : Nat) (w : Word) : (s.setWord a w).rope = s.rope := rfl
@[simp] theorem State.setWord_leases (s : State) (a : Nat) (w : Word) : (s.setWord a w).leases = s.leases := rfl
@[simp] theorem State.setWord_slots (s : State) (a : Nat) (w : Word) : (s.setWord a w).slots = s.slots := rfl
@[simp] theorem State.setWord_resp (s : State) (a : Nat) (w : Word) : (s.setWord a w).resp = s.resp := rfl
@[simp] theorem State.setWord_pulse (s : State) (a : Nat) (w : Word) : (s.setWord a w).pulse = s.pulse := rfl
@[simp] theorem State.setWord_watch (s : State) (a : Nat) (w : Word) : (s.setWord a w).watch = s.watch := rfl
@[simp] theorem State.setWord_cairn (s : State) (a : Nat) (w : Word) : (s.setWord a w).cairn = s.cairn := rfl
@[simp] theorem State.setWord_jrnl (s : State) (a : Nat) (w : Word) : (s.setWord a w).jrnl = s.jrnl := rfl
@[simp] theorem State.setWord_port (s : State) (a : Nat) (w : Word) : (s.setWord a w).port = s.port := rfl
@[simp] theorem State.setWord_readAt (s : State) (a : Nat) (w : Word) : (s.setWord a w).readAt = s.readAt := rfl
@[simp] theorem State.setWord_pq (s : State) (a : Nat) (w : Word) : (s.setWord a w).pq = s.pq := rfl
@[simp] theorem State.setWord_capt (s : State) (a : Nat) (w : Word) : (s.setWord a w).capt = s.capt := rfl
@[simp] theorem State.setWord_aux (s : State) (a : Nat) (w : Word) : (s.setWord a w).aux = s.aux := rfl
@[simp] theorem State.setWord_irq (s : State) (a : Nat) (w : Word) : (s.setWord a w).irq = s.irq := rfl
@[simp] theorem State.setWord_readData (s : State) (a : Nat) (w : Word) : (s.setWord a w).readData = s.readData := rfl
@[simp] theorem State.setWord_modem (s : State) (a : Nat) (w : Word) : (s.setWord a w).modem = s.modem := rfl
@[simp] theorem State.setWord_glass (s : State) (a : Nat) (w : Word) : (s.setWord a w).glass = s.glass := rfl
@[simp] theorem State.setWord_tamp (s : State) (a : Nat) (w : Word) : (s.setWord a w).tamp = s.tamp := rfl
@[simp] theorem State.setWord_access (s : State) (a : Nat) (w : Word) : (s.setWord a w).access = s.access := rfl
@[simp] theorem State.setWord_pwr (s : State) (a : Nat) (w : Word) : (s.setWord a w).pwr = s.pwr := rfl
@[simp] theorem State.setWord_link (s : State) (a : Nat) (w : Word) : (s.setWord a w).link = s.link := rfl
@[simp] theorem State.setWord_free (s : State) (a : Nat) (w : Word) : (s.setWord a w).free = s.free := rfl
@[simp] theorem State.setWord_pending (s : State) (a : Nat) (w : Word) : (s.setWord a w).pending = s.pending := rfl

/-! ### State.clearMem -/

@[simp] theorem State.clearMem_part (s : State) (a n : Nat) : (s.clearMem a n).part = s.part := rfl
@[simp] theorem State.clearMem_flds (s : State) (a n : Nat) : (s.clearMem a n).flds = s.flds := rfl
@[simp] theorem State.clearMem_force (s : State) (a n : Nat) : (s.clearMem a n).force = s.force := rfl
@[simp] theorem State.clearMem_clock (s : State) (a n : Nat) : (s.clearMem a n).clock = s.clock := rfl
@[simp] theorem State.clearMem_lanes (s : State) (a n : Nat) : (s.clearMem a n).lanes = s.lanes := rfl
@[simp] theorem State.clearMem_cores (s : State) (a n : Nat) : (s.clearMem a n).cores = s.cores := rfl
@[simp] theorem State.clearMem_power (s : State) (a n : Nat) : (s.clearMem a n).power = s.power := rfl
@[simp] theorem State.clearMem_tracker (s : State) (a n : Nat) : (s.clearMem a n).tracker = s.tracker := rfl
@[simp] theorem State.clearMem_pps (s : State) (a n : Nat) : (s.clearMem a n).pps = s.pps := rfl
@[simp] theorem State.clearMem_utcSet (s : State) (a n : Nat) : (s.clearMem a n).utcSet = s.utcSet := rfl
@[simp] theorem State.clearMem_cues (s : State) (a n : Nat) : (s.clearMem a n).cues = s.cues := rfl
@[simp] theorem State.clearMem_chain (s : State) (a n : Nat) : (s.clearMem a n).chain = s.chain := rfl
@[simp] theorem State.clearMem_quads (s : State) (a n : Nat) : (s.clearMem a n).quads = s.quads := rfl
@[simp] theorem State.clearMem_selfCal (s : State) (a n : Nat) : (s.clearMem a n).selfCal = s.selfCal := rfl
@[simp] theorem State.clearMem_shNode (s : State) (a n : Nat) : (s.clearMem a n).shNode = s.shNode := rfl
@[simp] theorem State.clearMem_bitMon (s : State) (a n : Nat) : (s.clearMem a n).bitMon = s.bitMon := rfl
@[simp] theorem State.clearMem_driftBlocks (s : State) (a n : Nat) : (s.clearMem a n).driftBlocks = s.driftBlocks := rfl
@[simp] theorem State.clearMem_rampBlocks (s : State) (a n : Nat) : (s.clearMem a n).rampBlocks = s.rampBlocks := rfl
@[simp] theorem State.clearMem_second (s : State) (a n : Nat) : (s.clearMem a n).second = s.second := rfl
@[simp] theorem State.clearMem_retiring (s : State) (a n : Nat) : (s.clearMem a n).retiring = s.retiring := rfl
@[simp] theorem State.clearMem_changeOver (s : State) (a n : Nat) : (s.clearMem a n).changeOver = s.changeOver := rfl
@[simp] theorem State.clearMem_streams (s : State) (a n : Nat) : (s.clearMem a n).streams = s.streams := rfl
@[simp] theorem State.clearMem_progs (s : State) (a n : Nat) : (s.clearMem a n).progs = s.progs := rfl
@[simp] theorem State.clearMem_laneOrders (s : State) (a n : Nat) : (s.clearMem a n).laneOrders = s.laneOrders := rfl
@[simp] theorem State.clearMem_rope (s : State) (a n : Nat) : (s.clearMem a n).rope = s.rope := rfl
@[simp] theorem State.clearMem_leases (s : State) (a n : Nat) : (s.clearMem a n).leases = s.leases := rfl
@[simp] theorem State.clearMem_slots (s : State) (a n : Nat) : (s.clearMem a n).slots = s.slots := rfl
@[simp] theorem State.clearMem_resp (s : State) (a n : Nat) : (s.clearMem a n).resp = s.resp := rfl
@[simp] theorem State.clearMem_pulse (s : State) (a n : Nat) : (s.clearMem a n).pulse = s.pulse := rfl
@[simp] theorem State.clearMem_watch (s : State) (a n : Nat) : (s.clearMem a n).watch = s.watch := rfl
@[simp] theorem State.clearMem_cairn (s : State) (a n : Nat) : (s.clearMem a n).cairn = s.cairn := rfl
@[simp] theorem State.clearMem_jrnl (s : State) (a n : Nat) : (s.clearMem a n).jrnl = s.jrnl := rfl
@[simp] theorem State.clearMem_port (s : State) (a n : Nat) : (s.clearMem a n).port = s.port := rfl
@[simp] theorem State.clearMem_readAt (s : State) (a n : Nat) : (s.clearMem a n).readAt = s.readAt := rfl
@[simp] theorem State.clearMem_pq (s : State) (a n : Nat) : (s.clearMem a n).pq = s.pq := rfl
@[simp] theorem State.clearMem_capt (s : State) (a n : Nat) : (s.clearMem a n).capt = s.capt := rfl
@[simp] theorem State.clearMem_aux (s : State) (a n : Nat) : (s.clearMem a n).aux = s.aux := rfl
@[simp] theorem State.clearMem_irq (s : State) (a n : Nat) : (s.clearMem a n).irq = s.irq := rfl
@[simp] theorem State.clearMem_readData (s : State) (a n : Nat) : (s.clearMem a n).readData = s.readData := rfl
@[simp] theorem State.clearMem_modem (s : State) (a n : Nat) : (s.clearMem a n).modem = s.modem := rfl
@[simp] theorem State.clearMem_glass (s : State) (a n : Nat) : (s.clearMem a n).glass = s.glass := rfl
@[simp] theorem State.clearMem_tamp (s : State) (a n : Nat) : (s.clearMem a n).tamp = s.tamp := rfl
@[simp] theorem State.clearMem_access (s : State) (a n : Nat) : (s.clearMem a n).access = s.access := rfl
@[simp] theorem State.clearMem_pwr (s : State) (a n : Nat) : (s.clearMem a n).pwr = s.pwr := rfl
@[simp] theorem State.clearMem_link (s : State) (a n : Nat) : (s.clearMem a n).link = s.link := rfl
@[simp] theorem State.clearMem_free (s : State) (a n : Nat) : (s.clearMem a n).free = s.free := rfl
@[simp] theorem State.clearMem_pending (s : State) (a n : Nat) : (s.clearMem a n).pending = s.pending := rfl

/-! ### State.elapse -/

@[simp] theorem State.elapse_part (s : State) (n : Nat) : (s.elapse n).part = s.part := rfl
@[simp] theorem State.elapse_flds (s : State) (n : Nat) : (s.elapse n).flds = s.flds := rfl
@[simp] theorem State.elapse_force (s : State) (n : Nat) : (s.elapse n).force = s.force := rfl
@[simp] theorem State.elapse_mem (s : State) (n : Nat) : (s.elapse n).mem = s.mem := rfl
@[simp] theorem State.elapse_lanes (s : State) (n : Nat) : (s.elapse n).lanes = s.lanes := rfl
@[simp] theorem State.elapse_cores (s : State) (n : Nat) : (s.elapse n).cores = s.cores := rfl
@[simp] theorem State.elapse_power (s : State) (n : Nat) : (s.elapse n).power = s.power := rfl
@[simp] theorem State.elapse_tracker (s : State) (n : Nat) : (s.elapse n).tracker = s.tracker := rfl
@[simp] theorem State.elapse_pps (s : State) (n : Nat) : (s.elapse n).pps = s.pps := rfl
@[simp] theorem State.elapse_utcSet (s : State) (n : Nat) : (s.elapse n).utcSet = s.utcSet := rfl
@[simp] theorem State.elapse_cues (s : State) (n : Nat) : (s.elapse n).cues = s.cues := rfl
@[simp] theorem State.elapse_chain (s : State) (n : Nat) : (s.elapse n).chain = s.chain := rfl
@[simp] theorem State.elapse_quads (s : State) (n : Nat) : (s.elapse n).quads = s.quads := rfl
@[simp] theorem State.elapse_selfCal (s : State) (n : Nat) : (s.elapse n).selfCal = s.selfCal := rfl
@[simp] theorem State.elapse_shNode (s : State) (n : Nat) : (s.elapse n).shNode = s.shNode := rfl
@[simp] theorem State.elapse_bitMon (s : State) (n : Nat) : (s.elapse n).bitMon = s.bitMon := rfl
@[simp] theorem State.elapse_driftBlocks (s : State) (n : Nat) : (s.elapse n).driftBlocks = s.driftBlocks := rfl
@[simp] theorem State.elapse_rampBlocks (s : State) (n : Nat) : (s.elapse n).rampBlocks = s.rampBlocks := rfl
@[simp] theorem State.elapse_second (s : State) (n : Nat) : (s.elapse n).second = s.second := rfl
@[simp] theorem State.elapse_retiring (s : State) (n : Nat) : (s.elapse n).retiring = s.retiring := rfl
@[simp] theorem State.elapse_changeOver (s : State) (n : Nat) : (s.elapse n).changeOver = s.changeOver := rfl
@[simp] theorem State.elapse_streams (s : State) (n : Nat) : (s.elapse n).streams = s.streams := rfl
@[simp] theorem State.elapse_progs (s : State) (n : Nat) : (s.elapse n).progs = s.progs := rfl
@[simp] theorem State.elapse_laneOrders (s : State) (n : Nat) : (s.elapse n).laneOrders = s.laneOrders := rfl
@[simp] theorem State.elapse_rope (s : State) (n : Nat) : (s.elapse n).rope = s.rope := rfl
@[simp] theorem State.elapse_leases (s : State) (n : Nat) : (s.elapse n).leases = s.leases := rfl
@[simp] theorem State.elapse_slots (s : State) (n : Nat) : (s.elapse n).slots = s.slots := rfl
@[simp] theorem State.elapse_resp (s : State) (n : Nat) : (s.elapse n).resp = s.resp := rfl
@[simp] theorem State.elapse_pulse (s : State) (n : Nat) : (s.elapse n).pulse = s.pulse := rfl
@[simp] theorem State.elapse_watch (s : State) (n : Nat) : (s.elapse n).watch = s.watch := rfl
@[simp] theorem State.elapse_cairn (s : State) (n : Nat) : (s.elapse n).cairn = s.cairn := rfl
@[simp] theorem State.elapse_jrnl (s : State) (n : Nat) : (s.elapse n).jrnl = s.jrnl := rfl
@[simp] theorem State.elapse_port (s : State) (n : Nat) : (s.elapse n).port = s.port := rfl
@[simp] theorem State.elapse_readAt (s : State) (n : Nat) : (s.elapse n).readAt = s.readAt := rfl
@[simp] theorem State.elapse_pq (s : State) (n : Nat) : (s.elapse n).pq = s.pq := rfl
@[simp] theorem State.elapse_capt (s : State) (n : Nat) : (s.elapse n).capt = s.capt := rfl
@[simp] theorem State.elapse_aux (s : State) (n : Nat) : (s.elapse n).aux = s.aux := rfl
@[simp] theorem State.elapse_irq (s : State) (n : Nat) : (s.elapse n).irq = s.irq := rfl
@[simp] theorem State.elapse_readData (s : State) (n : Nat) : (s.elapse n).readData = s.readData := rfl
@[simp] theorem State.elapse_modem (s : State) (n : Nat) : (s.elapse n).modem = s.modem := rfl
@[simp] theorem State.elapse_glass (s : State) (n : Nat) : (s.elapse n).glass = s.glass := rfl
@[simp] theorem State.elapse_tamp (s : State) (n : Nat) : (s.elapse n).tamp = s.tamp := rfl
@[simp] theorem State.elapse_access (s : State) (n : Nat) : (s.elapse n).access = s.access := rfl
@[simp] theorem State.elapse_pwr (s : State) (n : Nat) : (s.elapse n).pwr = s.pwr := rfl
@[simp] theorem State.elapse_link (s : State) (n : Nat) : (s.elapse n).link = s.link := rfl
@[simp] theorem State.elapse_free (s : State) (n : Nat) : (s.elapse n).free = s.free := rfl
@[simp] theorem State.elapse_pending (s : State) (n : Nat) : (s.elapse n).pending = s.pending := rfl

/-! ### State.elapseSlow -/

@[simp] theorem State.elapseSlow_part (s : State) (n : Nat) : (s.elapseSlow n).part = s.part := rfl
@[simp] theorem State.elapseSlow_flds (s : State) (n : Nat) : (s.elapseSlow n).flds = s.flds := rfl
@[simp] theorem State.elapseSlow_force (s : State) (n : Nat) : (s.elapseSlow n).force = s.force := rfl
@[simp] theorem State.elapseSlow_mem (s : State) (n : Nat) : (s.elapseSlow n).mem = s.mem := rfl
@[simp] theorem State.elapseSlow_lanes (s : State) (n : Nat) : (s.elapseSlow n).lanes = s.lanes := rfl
@[simp] theorem State.elapseSlow_cores (s : State) (n : Nat) : (s.elapseSlow n).cores = s.cores := rfl
@[simp] theorem State.elapseSlow_power (s : State) (n : Nat) : (s.elapseSlow n).power = s.power := rfl
@[simp] theorem State.elapseSlow_tracker (s : State) (n : Nat) : (s.elapseSlow n).tracker = s.tracker := rfl
@[simp] theorem State.elapseSlow_pps (s : State) (n : Nat) : (s.elapseSlow n).pps = s.pps := rfl
@[simp] theorem State.elapseSlow_utcSet (s : State) (n : Nat) : (s.elapseSlow n).utcSet = s.utcSet := rfl
@[simp] theorem State.elapseSlow_cues (s : State) (n : Nat) : (s.elapseSlow n).cues = s.cues := rfl
@[simp] theorem State.elapseSlow_chain (s : State) (n : Nat) : (s.elapseSlow n).chain = s.chain := rfl
@[simp] theorem State.elapseSlow_quads (s : State) (n : Nat) : (s.elapseSlow n).quads = s.quads := rfl
@[simp] theorem State.elapseSlow_selfCal (s : State) (n : Nat) : (s.elapseSlow n).selfCal = s.selfCal := rfl
@[simp] theorem State.elapseSlow_shNode (s : State) (n : Nat) : (s.elapseSlow n).shNode = s.shNode := rfl
@[simp] theorem State.elapseSlow_bitMon (s : State) (n : Nat) : (s.elapseSlow n).bitMon = s.bitMon := rfl
@[simp] theorem State.elapseSlow_driftBlocks (s : State) (n : Nat) : (s.elapseSlow n).driftBlocks = s.driftBlocks := rfl
@[simp] theorem State.elapseSlow_rampBlocks (s : State) (n : Nat) : (s.elapseSlow n).rampBlocks = s.rampBlocks := rfl
@[simp] theorem State.elapseSlow_second (s : State) (n : Nat) : (s.elapseSlow n).second = s.second := rfl
@[simp] theorem State.elapseSlow_retiring (s : State) (n : Nat) : (s.elapseSlow n).retiring = s.retiring := rfl
@[simp] theorem State.elapseSlow_changeOver (s : State) (n : Nat) : (s.elapseSlow n).changeOver = s.changeOver := rfl
@[simp] theorem State.elapseSlow_streams (s : State) (n : Nat) : (s.elapseSlow n).streams = s.streams := rfl
@[simp] theorem State.elapseSlow_progs (s : State) (n : Nat) : (s.elapseSlow n).progs = s.progs := rfl
@[simp] theorem State.elapseSlow_laneOrders (s : State) (n : Nat) : (s.elapseSlow n).laneOrders = s.laneOrders := rfl
@[simp] theorem State.elapseSlow_rope (s : State) (n : Nat) : (s.elapseSlow n).rope = s.rope := rfl
@[simp] theorem State.elapseSlow_leases (s : State) (n : Nat) : (s.elapseSlow n).leases = s.leases := rfl
@[simp] theorem State.elapseSlow_slots (s : State) (n : Nat) : (s.elapseSlow n).slots = s.slots := rfl
@[simp] theorem State.elapseSlow_resp (s : State) (n : Nat) : (s.elapseSlow n).resp = s.resp := rfl
@[simp] theorem State.elapseSlow_pulse (s : State) (n : Nat) : (s.elapseSlow n).pulse = s.pulse := rfl
@[simp] theorem State.elapseSlow_watch (s : State) (n : Nat) : (s.elapseSlow n).watch = s.watch := rfl
@[simp] theorem State.elapseSlow_cairn (s : State) (n : Nat) : (s.elapseSlow n).cairn = s.cairn := rfl
@[simp] theorem State.elapseSlow_jrnl (s : State) (n : Nat) : (s.elapseSlow n).jrnl = s.jrnl := rfl
@[simp] theorem State.elapseSlow_port (s : State) (n : Nat) : (s.elapseSlow n).port = s.port := rfl
@[simp] theorem State.elapseSlow_readAt (s : State) (n : Nat) : (s.elapseSlow n).readAt = s.readAt := rfl
@[simp] theorem State.elapseSlow_pq (s : State) (n : Nat) : (s.elapseSlow n).pq = s.pq := rfl
@[simp] theorem State.elapseSlow_capt (s : State) (n : Nat) : (s.elapseSlow n).capt = s.capt := rfl
@[simp] theorem State.elapseSlow_aux (s : State) (n : Nat) : (s.elapseSlow n).aux = s.aux := rfl
@[simp] theorem State.elapseSlow_irq (s : State) (n : Nat) : (s.elapseSlow n).irq = s.irq := rfl
@[simp] theorem State.elapseSlow_readData (s : State) (n : Nat) : (s.elapseSlow n).readData = s.readData := rfl
@[simp] theorem State.elapseSlow_modem (s : State) (n : Nat) : (s.elapseSlow n).modem = s.modem := rfl
@[simp] theorem State.elapseSlow_glass (s : State) (n : Nat) : (s.elapseSlow n).glass = s.glass := rfl
@[simp] theorem State.elapseSlow_tamp (s : State) (n : Nat) : (s.elapseSlow n).tamp = s.tamp := rfl
@[simp] theorem State.elapseSlow_access (s : State) (n : Nat) : (s.elapseSlow n).access = s.access := rfl
@[simp] theorem State.elapseSlow_pwr (s : State) (n : Nat) : (s.elapseSlow n).pwr = s.pwr := rfl
@[simp] theorem State.elapseSlow_link (s : State) (n : Nat) : (s.elapseSlow n).link = s.link := rfl
@[simp] theorem State.elapseSlow_free (s : State) (n : Nat) : (s.elapseSlow n).free = s.free := rfl
@[simp] theorem State.elapseSlow_pending (s : State) (n : Nat) : (s.elapseSlow n).pending = s.pending := rfl

/-! ### State.setLane -/

@[simp] theorem State.setLane_part (s : State) (n : Fin 5) (l : Lane) : (s.setLane n l).part = s.part := rfl
@[simp] theorem State.setLane_flds (s : State) (n : Fin 5) (l : Lane) : (s.setLane n l).flds = s.flds := rfl
@[simp] theorem State.setLane_force (s : State) (n : Fin 5) (l : Lane) : (s.setLane n l).force = s.force := rfl
@[simp] theorem State.setLane_mem (s : State) (n : Fin 5) (l : Lane) : (s.setLane n l).mem = s.mem := rfl
@[simp] theorem State.setLane_clock (s : State) (n : Fin 5) (l : Lane) : (s.setLane n l).clock = s.clock := rfl
@[simp] theorem State.setLane_lanes (s : State) (n : Fin 5) (l : Lane) : (s.setLane n l).lanes = s.lanes.set n l := rfl
@[simp] theorem State.setLane_cores (s : State) (n : Fin 5) (l : Lane) : (s.setLane n l).cores = s.cores := rfl
@[simp] theorem State.setLane_power (s : State) (n : Fin 5) (l : Lane) : (s.setLane n l).power = s.power := rfl
@[simp] theorem State.setLane_tracker (s : State) (n : Fin 5) (l : Lane) : (s.setLane n l).tracker = s.tracker := rfl
@[simp] theorem State.setLane_pps (s : State) (n : Fin 5) (l : Lane) : (s.setLane n l).pps = s.pps := rfl
@[simp] theorem State.setLane_utcSet (s : State) (n : Fin 5) (l : Lane) : (s.setLane n l).utcSet = s.utcSet := rfl
@[simp] theorem State.setLane_cues (s : State) (n : Fin 5) (l : Lane) : (s.setLane n l).cues = s.cues := rfl
@[simp] theorem State.setLane_chain (s : State) (n : Fin 5) (l : Lane) : (s.setLane n l).chain = s.chain := rfl
@[simp] theorem State.setLane_quads (s : State) (n : Fin 5) (l : Lane) : (s.setLane n l).quads = s.quads := rfl
@[simp] theorem State.setLane_selfCal (s : State) (n : Fin 5) (l : Lane) : (s.setLane n l).selfCal = s.selfCal := rfl
@[simp] theorem State.setLane_shNode (s : State) (n : Fin 5) (l : Lane) : (s.setLane n l).shNode = s.shNode := rfl
@[simp] theorem State.setLane_bitMon (s : State) (n : Fin 5) (l : Lane) : (s.setLane n l).bitMon = s.bitMon := rfl
@[simp] theorem State.setLane_driftBlocks (s : State) (n : Fin 5) (l : Lane) : (s.setLane n l).driftBlocks = s.driftBlocks := rfl
@[simp] theorem State.setLane_rampBlocks (s : State) (n : Fin 5) (l : Lane) : (s.setLane n l).rampBlocks = s.rampBlocks := rfl
@[simp] theorem State.setLane_second (s : State) (n : Fin 5) (l : Lane) : (s.setLane n l).second = s.second := rfl
@[simp] theorem State.setLane_retiring (s : State) (n : Fin 5) (l : Lane) : (s.setLane n l).retiring = s.retiring := rfl
@[simp] theorem State.setLane_changeOver (s : State) (n : Fin 5) (l : Lane) : (s.setLane n l).changeOver = s.changeOver := rfl
@[simp] theorem State.setLane_streams (s : State) (n : Fin 5) (l : Lane) : (s.setLane n l).streams = s.streams := rfl
@[simp] theorem State.setLane_progs (s : State) (n : Fin 5) (l : Lane) : (s.setLane n l).progs = s.progs := rfl
@[simp] theorem State.setLane_laneOrders (s : State) (n : Fin 5) (l : Lane) : (s.setLane n l).laneOrders = s.laneOrders := rfl
@[simp] theorem State.setLane_rope (s : State) (n : Fin 5) (l : Lane) : (s.setLane n l).rope = s.rope := rfl
@[simp] theorem State.setLane_leases (s : State) (n : Fin 5) (l : Lane) : (s.setLane n l).leases = s.leases := rfl
@[simp] theorem State.setLane_slots (s : State) (n : Fin 5) (l : Lane) : (s.setLane n l).slots = s.slots := rfl
@[simp] theorem State.setLane_resp (s : State) (n : Fin 5) (l : Lane) : (s.setLane n l).resp = s.resp := rfl
@[simp] theorem State.setLane_pulse (s : State) (n : Fin 5) (l : Lane) : (s.setLane n l).pulse = s.pulse := rfl
@[simp] theorem State.setLane_watch (s : State) (n : Fin 5) (l : Lane) : (s.setLane n l).watch = s.watch := rfl
@[simp] theorem State.setLane_cairn (s : State) (n : Fin 5) (l : Lane) : (s.setLane n l).cairn = s.cairn := rfl
@[simp] theorem State.setLane_jrnl (s : State) (n : Fin 5) (l : Lane) : (s.setLane n l).jrnl = s.jrnl := rfl
@[simp] theorem State.setLane_port (s : State) (n : Fin 5) (l : Lane) : (s.setLane n l).port = s.port := rfl
@[simp] theorem State.setLane_readAt (s : State) (n : Fin 5) (l : Lane) : (s.setLane n l).readAt = s.readAt := rfl
@[simp] theorem State.setLane_pq (s : State) (n : Fin 5) (l : Lane) : (s.setLane n l).pq = s.pq := rfl
@[simp] theorem State.setLane_capt (s : State) (n : Fin 5) (l : Lane) : (s.setLane n l).capt = s.capt := rfl
@[simp] theorem State.setLane_aux (s : State) (n : Fin 5) (l : Lane) : (s.setLane n l).aux = s.aux := rfl
@[simp] theorem State.setLane_irq (s : State) (n : Fin 5) (l : Lane) : (s.setLane n l).irq = s.irq := rfl
@[simp] theorem State.setLane_readData (s : State) (n : Fin 5) (l : Lane) : (s.setLane n l).readData = s.readData := rfl
@[simp] theorem State.setLane_modem (s : State) (n : Fin 5) (l : Lane) : (s.setLane n l).modem = s.modem := rfl
@[simp] theorem State.setLane_glass (s : State) (n : Fin 5) (l : Lane) : (s.setLane n l).glass = s.glass := rfl
@[simp] theorem State.setLane_tamp (s : State) (n : Fin 5) (l : Lane) : (s.setLane n l).tamp = s.tamp := rfl
@[simp] theorem State.setLane_access (s : State) (n : Fin 5) (l : Lane) : (s.setLane n l).access = s.access := rfl
@[simp] theorem State.setLane_pwr (s : State) (n : Fin 5) (l : Lane) : (s.setLane n l).pwr = s.pwr := rfl
@[simp] theorem State.setLane_link (s : State) (n : Fin 5) (l : Lane) : (s.setLane n l).link = s.link := rfl
@[simp] theorem State.setLane_free (s : State) (n : Fin 5) (l : Lane) : (s.setLane n l).free = s.free := rfl
@[simp] theorem State.setLane_pending (s : State) (n : Fin 5) (l : Lane) : (s.setLane n l).pending = s.pending := rfl

/-! ### State.setCore -/

@[simp] theorem State.setCore_part (s : State) (c : Fin 2) (k : CoreSt) : (s.setCore c k).part = s.part := rfl
@[simp] theorem State.setCore_flds (s : State) (c : Fin 2) (k : CoreSt) : (s.setCore c k).flds = s.flds := rfl
@[simp] theorem State.setCore_force (s : State) (c : Fin 2) (k : CoreSt) : (s.setCore c k).force = s.force := rfl
@[simp] theorem State.setCore_mem (s : State) (c : Fin 2) (k : CoreSt) : (s.setCore c k).mem = s.mem := rfl
@[simp] theorem State.setCore_clock (s : State) (c : Fin 2) (k : CoreSt) : (s.setCore c k).clock = s.clock := rfl
@[simp] theorem State.setCore_lanes (s : State) (c : Fin 2) (k : CoreSt) : (s.setCore c k).lanes = s.lanes := rfl
@[simp] theorem State.setCore_cores (s : State) (c : Fin 2) (k : CoreSt) : (s.setCore c k).cores = s.cores.set c k := rfl
@[simp] theorem State.setCore_power (s : State) (c : Fin 2) (k : CoreSt) : (s.setCore c k).power = s.power := rfl
@[simp] theorem State.setCore_tracker (s : State) (c : Fin 2) (k : CoreSt) : (s.setCore c k).tracker = s.tracker := rfl
@[simp] theorem State.setCore_pps (s : State) (c : Fin 2) (k : CoreSt) : (s.setCore c k).pps = s.pps := rfl
@[simp] theorem State.setCore_utcSet (s : State) (c : Fin 2) (k : CoreSt) : (s.setCore c k).utcSet = s.utcSet := rfl
@[simp] theorem State.setCore_cues (s : State) (c : Fin 2) (k : CoreSt) : (s.setCore c k).cues = s.cues := rfl
@[simp] theorem State.setCore_chain (s : State) (c : Fin 2) (k : CoreSt) : (s.setCore c k).chain = s.chain := rfl
@[simp] theorem State.setCore_quads (s : State) (c : Fin 2) (k : CoreSt) : (s.setCore c k).quads = s.quads := rfl
@[simp] theorem State.setCore_selfCal (s : State) (c : Fin 2) (k : CoreSt) : (s.setCore c k).selfCal = s.selfCal := rfl
@[simp] theorem State.setCore_shNode (s : State) (c : Fin 2) (k : CoreSt) : (s.setCore c k).shNode = s.shNode := rfl
@[simp] theorem State.setCore_bitMon (s : State) (c : Fin 2) (k : CoreSt) : (s.setCore c k).bitMon = s.bitMon := rfl
@[simp] theorem State.setCore_driftBlocks (s : State) (c : Fin 2) (k : CoreSt) : (s.setCore c k).driftBlocks = s.driftBlocks := rfl
@[simp] theorem State.setCore_rampBlocks (s : State) (c : Fin 2) (k : CoreSt) : (s.setCore c k).rampBlocks = s.rampBlocks := rfl
@[simp] theorem State.setCore_second (s : State) (c : Fin 2) (k : CoreSt) : (s.setCore c k).second = s.second := rfl
@[simp] theorem State.setCore_retiring (s : State) (c : Fin 2) (k : CoreSt) : (s.setCore c k).retiring = s.retiring := rfl
@[simp] theorem State.setCore_changeOver (s : State) (c : Fin 2) (k : CoreSt) : (s.setCore c k).changeOver = s.changeOver := rfl
@[simp] theorem State.setCore_streams (s : State) (c : Fin 2) (k : CoreSt) : (s.setCore c k).streams = s.streams := rfl
@[simp] theorem State.setCore_progs (s : State) (c : Fin 2) (k : CoreSt) : (s.setCore c k).progs = s.progs := rfl
@[simp] theorem State.setCore_laneOrders (s : State) (c : Fin 2) (k : CoreSt) : (s.setCore c k).laneOrders = s.laneOrders := rfl
@[simp] theorem State.setCore_rope (s : State) (c : Fin 2) (k : CoreSt) : (s.setCore c k).rope = s.rope := rfl
@[simp] theorem State.setCore_leases (s : State) (c : Fin 2) (k : CoreSt) : (s.setCore c k).leases = s.leases := rfl
@[simp] theorem State.setCore_slots (s : State) (c : Fin 2) (k : CoreSt) : (s.setCore c k).slots = s.slots := rfl
@[simp] theorem State.setCore_resp (s : State) (c : Fin 2) (k : CoreSt) : (s.setCore c k).resp = s.resp := rfl
@[simp] theorem State.setCore_pulse (s : State) (c : Fin 2) (k : CoreSt) : (s.setCore c k).pulse = s.pulse := rfl
@[simp] theorem State.setCore_watch (s : State) (c : Fin 2) (k : CoreSt) : (s.setCore c k).watch = s.watch := rfl
@[simp] theorem State.setCore_cairn (s : State) (c : Fin 2) (k : CoreSt) : (s.setCore c k).cairn = s.cairn := rfl
@[simp] theorem State.setCore_jrnl (s : State) (c : Fin 2) (k : CoreSt) : (s.setCore c k).jrnl = s.jrnl := rfl
@[simp] theorem State.setCore_port (s : State) (c : Fin 2) (k : CoreSt) : (s.setCore c k).port = s.port := rfl
@[simp] theorem State.setCore_readAt (s : State) (c : Fin 2) (k : CoreSt) : (s.setCore c k).readAt = s.readAt := rfl
@[simp] theorem State.setCore_pq (s : State) (c : Fin 2) (k : CoreSt) : (s.setCore c k).pq = s.pq := rfl
@[simp] theorem State.setCore_capt (s : State) (c : Fin 2) (k : CoreSt) : (s.setCore c k).capt = s.capt := rfl
@[simp] theorem State.setCore_aux (s : State) (c : Fin 2) (k : CoreSt) : (s.setCore c k).aux = s.aux := rfl
@[simp] theorem State.setCore_irq (s : State) (c : Fin 2) (k : CoreSt) : (s.setCore c k).irq = s.irq := rfl
@[simp] theorem State.setCore_readData (s : State) (c : Fin 2) (k : CoreSt) : (s.setCore c k).readData = s.readData := rfl
@[simp] theorem State.setCore_modem (s : State) (c : Fin 2) (k : CoreSt) : (s.setCore c k).modem = s.modem := rfl
@[simp] theorem State.setCore_glass (s : State) (c : Fin 2) (k : CoreSt) : (s.setCore c k).glass = s.glass := rfl
@[simp] theorem State.setCore_tamp (s : State) (c : Fin 2) (k : CoreSt) : (s.setCore c k).tamp = s.tamp := rfl
@[simp] theorem State.setCore_access (s : State) (c : Fin 2) (k : CoreSt) : (s.setCore c k).access = s.access := rfl
@[simp] theorem State.setCore_pwr (s : State) (c : Fin 2) (k : CoreSt) : (s.setCore c k).pwr = s.pwr := rfl
@[simp] theorem State.setCore_link (s : State) (c : Fin 2) (k : CoreSt) : (s.setCore c k).link = s.link := rfl
@[simp] theorem State.setCore_free (s : State) (c : Fin 2) (k : CoreSt) : (s.setCore c k).free = s.free := rfl
@[simp] theorem State.setCore_pending (s : State) (c : Fin 2) (k : CoreSt) : (s.setCore c k).pending = s.pending := rfl

/-! ### State.draw -/

@[simp] theorem State.draw_part (s : State)  : (s.draw.2).part = s.part := rfl
@[simp] theorem State.draw_flds (s : State)  : (s.draw.2).flds = s.flds := rfl
@[simp] theorem State.draw_force (s : State)  : (s.draw.2).force = s.force := rfl
@[simp] theorem State.draw_mem (s : State)  : (s.draw.2).mem = s.mem := rfl
@[simp] theorem State.draw_clock (s : State)  : (s.draw.2).clock = s.clock := rfl
@[simp] theorem State.draw_lanes (s : State)  : (s.draw.2).lanes = s.lanes := rfl
@[simp] theorem State.draw_cores (s : State)  : (s.draw.2).cores = s.cores := rfl
@[simp] theorem State.draw_power (s : State)  : (s.draw.2).power = s.power := rfl
@[simp] theorem State.draw_tracker (s : State)  : (s.draw.2).tracker = s.tracker := rfl
@[simp] theorem State.draw_pps (s : State)  : (s.draw.2).pps = s.pps := rfl
@[simp] theorem State.draw_utcSet (s : State)  : (s.draw.2).utcSet = s.utcSet := rfl
@[simp] theorem State.draw_cues (s : State)  : (s.draw.2).cues = s.cues := rfl
@[simp] theorem State.draw_chain (s : State)  : (s.draw.2).chain = s.chain := rfl
@[simp] theorem State.draw_quads (s : State)  : (s.draw.2).quads = s.quads := rfl
@[simp] theorem State.draw_selfCal (s : State)  : (s.draw.2).selfCal = s.selfCal := rfl
@[simp] theorem State.draw_shNode (s : State)  : (s.draw.2).shNode = s.shNode := rfl
@[simp] theorem State.draw_bitMon (s : State)  : (s.draw.2).bitMon = s.bitMon := rfl
@[simp] theorem State.draw_driftBlocks (s : State)  : (s.draw.2).driftBlocks = s.driftBlocks := rfl
@[simp] theorem State.draw_rampBlocks (s : State)  : (s.draw.2).rampBlocks = s.rampBlocks := rfl
@[simp] theorem State.draw_second (s : State)  : (s.draw.2).second = s.second := rfl
@[simp] theorem State.draw_retiring (s : State)  : (s.draw.2).retiring = s.retiring := rfl
@[simp] theorem State.draw_changeOver (s : State)  : (s.draw.2).changeOver = s.changeOver := rfl
@[simp] theorem State.draw_streams (s : State)  : (s.draw.2).streams = s.streams := rfl
@[simp] theorem State.draw_progs (s : State)  : (s.draw.2).progs = s.progs := rfl
@[simp] theorem State.draw_laneOrders (s : State)  : (s.draw.2).laneOrders = s.laneOrders := rfl
@[simp] theorem State.draw_rope (s : State)  : (s.draw.2).rope = s.rope := rfl
@[simp] theorem State.draw_leases (s : State)  : (s.draw.2).leases = s.leases := rfl
@[simp] theorem State.draw_slots (s : State)  : (s.draw.2).slots = s.slots := rfl
@[simp] theorem State.draw_resp (s : State)  : (s.draw.2).resp = s.resp := rfl
@[simp] theorem State.draw_pulse (s : State)  : (s.draw.2).pulse = s.pulse := rfl
@[simp] theorem State.draw_watch (s : State)  : (s.draw.2).watch = s.watch := rfl
@[simp] theorem State.draw_cairn (s : State)  : (s.draw.2).cairn = s.cairn := rfl
@[simp] theorem State.draw_jrnl (s : State)  : (s.draw.2).jrnl = s.jrnl := rfl
@[simp] theorem State.draw_port (s : State)  : (s.draw.2).port = s.port := rfl
@[simp] theorem State.draw_readAt (s : State)  : (s.draw.2).readAt = s.readAt := rfl
@[simp] theorem State.draw_pq (s : State)  : (s.draw.2).pq = s.pq := rfl
@[simp] theorem State.draw_capt (s : State)  : (s.draw.2).capt = s.capt := rfl
@[simp] theorem State.draw_aux (s : State)  : (s.draw.2).aux = s.aux := rfl
@[simp] theorem State.draw_irq (s : State)  : (s.draw.2).irq = s.irq := rfl
@[simp] theorem State.draw_readData (s : State)  : (s.draw.2).readData = s.readData := rfl
@[simp] theorem State.draw_modem (s : State)  : (s.draw.2).modem = s.modem := rfl
@[simp] theorem State.draw_glass (s : State)  : (s.draw.2).glass = s.glass := rfl
@[simp] theorem State.draw_tamp (s : State)  : (s.draw.2).tamp = s.tamp := rfl
@[simp] theorem State.draw_access (s : State)  : (s.draw.2).access = s.access := rfl
@[simp] theorem State.draw_pwr (s : State)  : (s.draw.2).pwr = s.pwr := rfl
@[simp] theorem State.draw_link (s : State)  : (s.draw.2).link = s.link := rfl
@[simp] theorem State.draw_free (s : State)  : (s.draw.2).free = s.free + 1 := rfl
@[simp] theorem State.draw_pending (s : State)  : (s.draw.2).pending = s.pending := rfl

/-! ### State.openVal -/

@[simp] theorem State.openVal_part (s : State)  : (s.openVal.2).part = s.part := rfl
@[simp] theorem State.openVal_flds (s : State)  : (s.openVal.2).flds = s.flds := rfl
@[simp] theorem State.openVal_force (s : State)  : (s.openVal.2).force = s.force := rfl
@[simp] theorem State.openVal_mem (s : State)  : (s.openVal.2).mem = s.mem := rfl
@[simp] theorem State.openVal_clock (s : State)  : (s.openVal.2).clock = s.clock := rfl
@[simp] theorem State.openVal_lanes (s : State)  : (s.openVal.2).lanes = s.lanes := rfl
@[simp] theorem State.openVal_cores (s : State)  : (s.openVal.2).cores = s.cores := rfl
@[simp] theorem State.openVal_power (s : State)  : (s.openVal.2).power = s.power := rfl
@[simp] theorem State.openVal_tracker (s : State)  : (s.openVal.2).tracker = s.tracker := rfl
@[simp] theorem State.openVal_pps (s : State)  : (s.openVal.2).pps = s.pps := rfl
@[simp] theorem State.openVal_utcSet (s : State)  : (s.openVal.2).utcSet = s.utcSet := rfl
@[simp] theorem State.openVal_cues (s : State)  : (s.openVal.2).cues = s.cues := rfl
@[simp] theorem State.openVal_chain (s : State)  : (s.openVal.2).chain = s.chain := rfl
@[simp] theorem State.openVal_quads (s : State)  : (s.openVal.2).quads = s.quads := rfl
@[simp] theorem State.openVal_selfCal (s : State)  : (s.openVal.2).selfCal = s.selfCal := rfl
@[simp] theorem State.openVal_shNode (s : State)  : (s.openVal.2).shNode = s.shNode := rfl
@[simp] theorem State.openVal_bitMon (s : State)  : (s.openVal.2).bitMon = s.bitMon := rfl
@[simp] theorem State.openVal_driftBlocks (s : State)  : (s.openVal.2).driftBlocks = s.driftBlocks := rfl
@[simp] theorem State.openVal_rampBlocks (s : State)  : (s.openVal.2).rampBlocks = s.rampBlocks := rfl
@[simp] theorem State.openVal_second (s : State)  : (s.openVal.2).second = s.second := rfl
@[simp] theorem State.openVal_retiring (s : State)  : (s.openVal.2).retiring = s.retiring := rfl
@[simp] theorem State.openVal_changeOver (s : State)  : (s.openVal.2).changeOver = s.changeOver := rfl
@[simp] theorem State.openVal_streams (s : State)  : (s.openVal.2).streams = s.streams := rfl
@[simp] theorem State.openVal_progs (s : State)  : (s.openVal.2).progs = s.progs := rfl
@[simp] theorem State.openVal_laneOrders (s : State)  : (s.openVal.2).laneOrders = s.laneOrders := rfl
@[simp] theorem State.openVal_rope (s : State)  : (s.openVal.2).rope = s.rope := rfl
@[simp] theorem State.openVal_leases (s : State)  : (s.openVal.2).leases = s.leases := rfl
@[simp] theorem State.openVal_slots (s : State)  : (s.openVal.2).slots = s.slots := rfl
@[simp] theorem State.openVal_resp (s : State)  : (s.openVal.2).resp = s.resp := rfl
@[simp] theorem State.openVal_pulse (s : State)  : (s.openVal.2).pulse = s.pulse := rfl
@[simp] theorem State.openVal_watch (s : State)  : (s.openVal.2).watch = s.watch := rfl
@[simp] theorem State.openVal_cairn (s : State)  : (s.openVal.2).cairn = s.cairn := rfl
@[simp] theorem State.openVal_jrnl (s : State)  : (s.openVal.2).jrnl = s.jrnl := rfl
@[simp] theorem State.openVal_port (s : State)  : (s.openVal.2).port = s.port := rfl
@[simp] theorem State.openVal_readAt (s : State)  : (s.openVal.2).readAt = s.readAt := rfl
@[simp] theorem State.openVal_pq (s : State)  : (s.openVal.2).pq = s.pq := rfl
@[simp] theorem State.openVal_capt (s : State)  : (s.openVal.2).capt = s.capt := rfl
@[simp] theorem State.openVal_aux (s : State)  : (s.openVal.2).aux = s.aux := rfl
@[simp] theorem State.openVal_irq (s : State)  : (s.openVal.2).irq = s.irq := rfl
@[simp] theorem State.openVal_readData (s : State)  : (s.openVal.2).readData = s.readData := rfl
@[simp] theorem State.openVal_modem (s : State)  : (s.openVal.2).modem = s.modem := rfl
@[simp] theorem State.openVal_glass (s : State)  : (s.openVal.2).glass = s.glass := rfl
@[simp] theorem State.openVal_tamp (s : State)  : (s.openVal.2).tamp = s.tamp := rfl
@[simp] theorem State.openVal_access (s : State)  : (s.openVal.2).access = s.access := rfl
@[simp] theorem State.openVal_pwr (s : State)  : (s.openVal.2).pwr = s.pwr := rfl
@[simp] theorem State.openVal_link (s : State)  : (s.openVal.2).link = s.link := rfl
@[simp] theorem State.openVal_free (s : State)  : (s.openVal.2).free = s.free + 1 := rfl
@[simp] theorem State.openVal_pending (s : State)  : (s.openVal.2).pending = s.pending := rfl

theorem State.setBytes_mem' (s : State) (a : Nat) (bs : List Byte) :
    (s.setBytes a bs).mem = s.mem.filter (fun e => decide (e.1 < a)) ++ runOf a bs ++
      s.mem.filter (fun e => decide (a + bs.length ≤ e.1)) := rfl

end Sys2Proof.Machine
end

