-- ==== Sys2Proof/Laws/Ops.lean ====
section
/-! SUPPORT. What the shared operations over fields, memory, interrupt sources and the fault record do. -/

namespace Sys2Proof.Machine

/-! ## Fields -/

/-- A field reads back what was written, at its width. -/
@[simp] theorem State.get_set_same (s : State) (f : Fld) (v : Nat) : (s.set f v).get f = v % 2 ^ f.w :=
  sparseGet_put_same ..

/-- A write of one field leaves every other alone. -/
theorem State.get_set_other (s : State) {f g : Fld} (h : f ≠ g) (v : Nat) : (s.set f v).get g = s.get g :=
  sparseGet_put_other _ _ _ h _ _

theorem State.get_set (s : State) (f g : Fld) (v : Nat) :
    (s.set f v).get g = if f = g then v % 2 ^ f.w else s.get g := by
  by_cases h : f = g
  · subst h; simp
  · simp [h, State.get_set_other s h]

theorem State.get_flag (s : State) (f g : Fld) (b : Bool) :
    (s.flag f b).get g = if f = g then ofB b % 2 ^ f.w else s.get g := State.get_set ..

theorem State.get_setBit (s : State) (f g : Fld) (i : Nat) (b : Bool) :
    (s.setBit f i b).get g = if f = g then withBit (s.get f) i b % 2 ^ f.w else s.get g := State.get_set ..

theorem State.get_set2 (s : State) (lo hi g : Fld) (v : Nat) :
    (s.set2 lo hi v).get g =
      if hi = g then v / 2 ^ 32 % 2 ^ hi.w else if lo = g then v % 2 ^ lo.w else s.get g := by
  simp only [State.set2, State.get_set]

/-- Reading a field looks at the field file alone. -/
theorem State.get_of_flds {s t : State} (h : t.flds = s.flds) (f : Fld) : t.get f = s.get f := by
  simp only [State.get, h]

@[simp] theorem State.get_takeEffect (s : State) (f g : Fld) : (s.takeEffect f).get g = s.get g := rfl

theorem State.eff_takeEffect (s : State) (f g : Fld) :
    (s.takeEffect f).eff g = if f = g then s.get f else s.eff g := by
  by_cases h : f = g
  · subst h; simp only [State.eff, State.takeEffect, if_true]; exact sparseGet_put_same ..
  · simp only [h, if_false, State.eff, State.takeEffect]; exact sparseGet_put_other _ _ _ h _ _

/-! ## The canonical forms -/

theorem State.fldsWf_set (s : State) (f : Fld) (v : Nat) (h : fldsWf s.flds = true) :
    fldsWf (s.set f v).flds = true := fldsWf_put _ _ _ h

theorem State.forceWf_takeEffect (s : State) (f : Fld) (h : fldsWf s.force = true) :
    fldsWf (s.takeEffect f).force = true := fldsWf_put _ _ _ h

/-! ## Memory -/

theorem runOf_keys (a : Nat) (bs : List Byte) : ∀ e ∈ runOf a bs, a ≤ e.1 ∧ e.1 < a + bs.length := by
  induction bs generalizing a with
  | nil => simp [runOf]
  | cons b bs ih =>
    intro e he
    by_cases hb : b = 0
    · simp only [runOf, hb, if_true] at he
      have := ih (a + 1) e he
      simp only [List.length_cons]; omega
    · simp only [runOf, hb, if_false, List.mem_cons] at he
      rcases he with rfl | he
      · simp
      · have := ih (a + 1) e he
        simp only [List.length_cons]; omega

theorem sparseWf_filter (p : Nat × Byte → Bool) (m : List (Nat × Byte)) (h : memWf m = true) :
    memWf (m.filter p) = true := by
  unfold memWf at *
  induction m with
  | nil => rfl
  | cons e m ih =>
    obtain ⟨k, v⟩ := e
    simp only [sparseWf, Bool.and_eq_true] at h
    by_cases hp : p (k, v) = true
    · rw [List.filter_cons_of_pos hp]
      simp only [sparseWf, Bool.and_eq_true]
      refine ⟨⟨h.1.1, ?_⟩, ih h.2⟩
      rw [List.all_eq_true] at h ⊢
      exact fun e he => h.1.2 e (List.mem_of_mem_filter he)
    · rw [List.filter_cons_of_neg hp]
      exact ih h.2

theorem sparseWf_append (a b : List (Nat × Byte)) (ha : memWf a = true) (hb : memWf b = true)
    (hab : ∀ x ∈ a, ∀ y ∈ b, x.1 < y.1) : memWf (a ++ b) = true := by
  unfold memWf at *
  induction a with
  | nil => exact hb
  | cons e a ih =>
    obtain ⟨k, v⟩ := e
    simp only [sparseWf, List.cons_append, Bool.and_eq_true] at ha ⊢
    refine ⟨⟨ha.1.1, ?_⟩, ih ha.2 fun x hx y hy => hab x (List.mem_cons_of_mem _ hx) y hy⟩
    rw [List.all_append, Bool.and_eq_true]
    refine ⟨ha.1.2, ?_⟩
    rw [List.all_eq_true]
    exact fun y hy => by simpa using hab _ (List.mem_cons_self ..) y hy

theorem memWf_runOf (a : Nat) (bs : List Byte) : memWf (runOf a bs) = true := by
  induction bs generalizing a with
  | nil => rfl
  | cons b bs ih =>
    by_cases hb : b = 0
    · simpa [runOf, hb] using ih (a + 1)
    · have hk := runOf_keys (a + 1) bs
      have := ih (a + 1)
      unfold memWf at *
      simp only [runOf, hb, if_false, sparseWf, Bool.and_eq_true]
      refine ⟨⟨by simpa using hb, ?_⟩, this⟩
      rw [List.all_eq_true]
      intro e he
      have := hk e he
      simp only [decide_eq_true_eq]; omega

/-- Writing bytes keeps the memory's form. -/
theorem State.memWf_setBytes (s : State) (a : Nat) (bs : List Byte) (h : memWf s.mem = true) :
    memWf (s.setBytes a bs).mem = true := by
  have h1 := sparseWf_filter (fun e => decide (e.1 < a)) s.mem h
  have h2 := sparseWf_filter (fun e => decide (a + bs.length ≤ e.1)) s.mem h
  refine sparseWf_append _ _ (sparseWf_append _ _ h1 (memWf_runOf a bs) ?_) h2 ?_
  · intro x hx y hy
    have := runOf_keys a bs y hy
    have hx := List.of_mem_filter hx
    simp only [decide_eq_true_eq] at hx; omega
  · intro x hx y hy
    have hy := List.of_mem_filter hy
    simp only [decide_eq_true_eq] at hy
    rcases List.mem_append.1 hx with hx | hx
    · have hx := List.of_mem_filter hx
      simp only [decide_eq_true_eq] at hx; omega
    · have := runOf_keys a bs x hx
      omega

/-- Clearing a region keeps the memory's form. -/
theorem State.memWf_clearMem (s : State) (a n : Nat) (h : memWf s.mem = true) : memWf (s.clearMem a n).mem = true :=
  sparseWf_filter _ _ h

theorem sparseGet_append (k : Nat) (a b : List (Nat × Byte)) (h : ∀ e ∈ a, e.1 ≠ k) :
    sparseGet 0 k (a ++ b) = sparseGet 0 k b := by
  induction a with
  | nil => rfl
  | cons e a ih =>
    obtain ⟨k', v⟩ := e
    have hk : k' ≠ k := h _ (List.mem_cons_self ..)
    simp only [List.cons_append, sparseGet, hk, if_false]
    exact ih fun e he => h e (List.mem_cons_of_mem _ he)

theorem sparseGet_append_none (k : Nat) (a b : List (Nat × Byte)) (h : ∀ e ∈ b, e.1 ≠ k) :
    sparseGet 0 k (a ++ b) = sparseGet 0 k a := by
  induction a with
  | nil =>
    have : sparseGet (0 : Byte) k (b ++ []) = sparseGet 0 k [] := sparseGet_append k b [] h
    simpa using this
  | cons e a ih => obtain ⟨k', v⟩ := e; simp only [List.cons_append, sparseGet, ih]

theorem sparseGet_filter (k : Nat) (p : Nat × Byte → Bool) (m : List (Nat × Byte)) (h : ∀ v, p (k, v) = true) :
    sparseGet 0 k (m.filter p) = sparseGet 0 k m := by
  induction m with
  | nil => rfl
  | cons e m ih =>
    obtain ⟨k', v⟩ := e
    by_cases hp : p (k', v) = true
    · rw [List.filter_cons_of_pos hp]; simp only [sparseGet, ih]
    · rw [List.filter_cons_of_neg hp, ih]
      have hk : k' ≠ k := by rintro rfl; exact hp (h v)
      simp [sparseGet, hk]

theorem sparseGet_runOf (a i : Nat) (bs : List Byte) (h : i < bs.length) :
    sparseGet 0 (a + i) (runOf a bs) = bs[i] := by
  induction bs generalizing a i with
  | nil => simp at h
  | cons b bs ih =>
    cases i with
    | zero =>
      by_cases hb : b = 0
      · have : ∀ e ∈ runOf (a + 1) bs, e.1 ≠ a := fun e he => by have := runOf_keys _ _ e he; omega
        simp only [runOf, hb, if_true, Nat.add_zero, List.getElem_cons_zero]
        simpa [sparseGet] using sparseGet_append a _ [] this
      · simp only [runOf, hb, if_false, Nat.add_zero, sparseGet, if_true, List.getElem_cons_zero]
    | succ i =>
      have e : a + (i + 1) = a + 1 + i := by omega
      by_cases hb : b = 0
      · simp only [runOf, hb, if_true, e, List.getElem_cons_succ]
        exact ih (a + 1) i (by simpa using h)
      · simp only [runOf, hb, if_false, e, List.getElem_cons_succ, sparseGet]
        rw [if_neg (by omega)]
        exact ih (a + 1) i (by simpa using h)

/-- A stored byte reads back. -/
theorem State.byte_setBytes_same (s : State) (a i : Nat) (bs : List Byte) (h : i < bs.length) (hr : 0x80000 ≤ a + i) :
    (s.setBytes a bs).byte (a + i) = bs[i] := by
  have h1 : ¬ a + i < 0x80000 := by omega
  simp only [State.byte, h1, if_false, State.setBytes_mem']
  rw [List.append_assoc, sparseGet_append _ _ _ (fun e he => by
    have := List.of_mem_filter he; simp only [decide_eq_true_eq] at this; omega),
    sparseGet_append_none _ _ _ (fun e he => by
    have := List.of_mem_filter he; simp only [decide_eq_true_eq] at this; omega)]
  exact sparseGet_runOf a i bs h

/-- A store leaves every other byte alone. -/
theorem State.byte_setBytes_other (s : State) (a b : Nat) (bs : List Byte) (h : b < a ∨ a + bs.length ≤ b) :
    (s.setBytes a bs).byte b = s.byte b := by
  simp only [State.byte, State.setBytes_mem']
  split
  · rfl
  · rcases h with h | h
    · rw [List.append_assoc, sparseGet_append_none _ _ _ (fun e he => by
        rcases List.mem_append.1 he with he | he
        · have := runOf_keys a bs e he; omega
        · have := List.of_mem_filter he; simp only [decide_eq_true_eq] at this; omega)]
      exact sparseGet_filter _ _ _ (fun v => by simpa using h)
    · rw [sparseGet_append _ _ _ (fun e he => by
        rcases List.mem_append.1 he with he | he
        · have := List.of_mem_filter he; simp only [decide_eq_true_eq] at this; omega
        · have := runOf_keys a bs e he; omega)]
      exact sparseGet_filter _ _ _ (fun v => by simpa using h)

end Sys2Proof.Machine
end

