-- ==== Sys2Proof/Laws/Frame.lean ====
section
/-! SUPPORT. Frames: how they compose, and the frame of each shared operation. -/

namespace Sys2Proof.Machine

theorem Comp.same_refl (s : State) (c : Comp) : c.same s s := by cases c <;> exact rfl

theorem Comp.same_trans {s t u : State} (c : Comp) (h : c.same s t) (h' : c.same t u) : c.same s u := by
  cases c <;> exact Eq.trans h' h

theorem Frame.refl (cs : List Comp) (P : Fld → Prop) (s : State) : Frame cs P s s :=
  ⟨fun _ _ => rfl, fun c _ => c.same_refl s⟩

/-- Two frames one after the other: what either may touch. -/
theorem Frame.trans {cs cs' : List Comp} {P P' : Fld → Prop} {s t u : State} (h : Frame cs P s t) (h' : Frame cs' P' t u) :
    Frame (cs ++ cs') (fun f => P f ∨ P' f) s u := by
  refine ⟨fun f hf => ?_, fun c hc => ?_⟩
  · rw [h'.1 f (fun e => hf (.inr e)), h.1 f (fun e => hf (.inl e))]
  · rw [List.mem_append, not_or] at hc
    exact c.same_trans (h.2 c hc.1) (h'.2 c hc.2)

/-- A frame may be read as a wider one. -/
theorem Frame.mono {cs cs' : List Comp} {P P' : Fld → Prop} {s t : State} (h : Frame cs P s t) (hc : ∀ c ∈ cs, c ∈ cs')
    (hP : ∀ f, P f → P' f) : Frame cs' P' s t :=
  ⟨fun f hf => h.1 f (fun e => hf (hP f e)), fun c hn => h.2 c (fun e => hn (hc c e))⟩

/-- Two steps within one frame stay within it. -/
theorem Frame.then {cs : List Comp} {P : Fld → Prop} {s t u : State} (h : Frame cs P s t) (h' : Frame cs P t u) :
    Frame cs P s u :=
  ⟨fun f hf => (h'.1 f hf).trans (h.1 f hf), fun c hc => c.same_trans (h.2 c hc) (h'.2 c hc)⟩

/-- A state that differs only in named components, its field file unchanged. -/
theorem Frame.of_flds {cs : List Comp} {P : Fld → Prop} {s t : State} (hf : t.flds = s.flds)
    (h : ∀ c, c ∉ cs → c.same s t) : Frame cs P s t := ⟨fun f _ => State.get_of_flds hf f, h⟩

/-- A state whose field file alone differs. -/
theorem Frame.of_get {cs : List Comp} {P : Fld → Prop} {s t : State} (hc : ∀ c : Comp, c.same s t)
    (h : ∀ f, ¬ P f → t.get f = s.get f) : Frame cs P s t := ⟨h, fun c _ => hc c⟩

theorem State.set_frame (cs : List Comp) {P : Fld → Prop} (s : State) (f : Fld) (v : Nat) (h : P f) :
    Frame cs P s (s.set f v) :=
  .of_get (fun c => by cases c <;> rfl) (fun g hg => State.get_set_other s (by rintro rfl; exact hg h) v)

theorem State.flag_frame (cs : List Comp) {P : Fld → Prop} (s : State) (f : Fld) (b : Bool) (h : P f) :
    Frame cs P s (s.flag f b) := State.set_frame cs s f _ h

theorem State.setBit_frame (cs : List Comp) {P : Fld → Prop} (s : State) (f : Fld) (i : Nat) (b : Bool) (h : P f) :
    Frame cs P s (s.setBit f i b) := State.set_frame cs s f _ h

theorem State.set2_frame (cs : List Comp) {P : Fld → Prop} (s : State) (lo hi : Fld) (v : Nat) (h : P lo) (h' : P hi) :
    Frame cs P s (s.set2 lo hi v) := (State.set_frame cs s lo _ h).then (State.set_frame cs _ hi _ h')

theorem State.bump_frame (cs : List Comp) {P : Fld → Prop} (s : State) (c t : Fld) (h : P c) (h' : P t) :
    Frame cs P s (s.bump c t) := by
  unfold State.bump; split
  · exact State.set_frame cs s _ _ h
  · exact State.flag_frame cs s _ _ h'

theorem State.incSat_frame (cs : List Comp) {P : Fld → Prop} (s : State) (f : Fld) (h : P f) : Frame cs P s (s.incSat f) := by
  unfold State.incSat; split
  · exact State.set_frame cs s _ _ h
  · exact .refl ..

theorem State.takeEffect_frame (cs : List Comp) (P : Fld → Prop) (s : State) (f : Fld) (h : Comp.force ∈ cs) :
    Frame cs P s (s.takeEffect f) :=
  .of_flds rfl (fun c hc => by cases c <;> first | rfl | exact absurd h hc)

theorem State.setBytes_frame (cs : List Comp) (P : Fld → Prop) (s : State) (a : Nat) (bs : List Byte) (h : Comp.mem ∈ cs) :
    Frame cs P s (s.setBytes a bs) :=
  .of_flds rfl (fun c hc => by cases c <;> first | rfl | exact absurd h hc)

theorem State.clearMem_frame (cs : List Comp) (P : Fld → Prop) (s : State) (a n : Nat) (h : Comp.mem ∈ cs) :
    Frame cs P s (s.clearMem a n) :=
  .of_flds rfl (fun c hc => by cases c <;> first | rfl | exact absurd h hc)

theorem State.elapse_frame (cs : List Comp) (P : Fld → Prop) (s : State) (n : Nat) (h : Comp.clock ∈ cs) :
    Frame cs P s (s.elapse n) :=
  .of_flds rfl (fun c hc => by cases c <;> first | rfl | exact absurd h hc)

theorem State.setLane_frame (cs : List Comp) (P : Fld → Prop) (s : State) (n : Fin 5) (l : Lane) (h : Comp.lanes ∈ cs) :
    Frame cs P s (s.setLane n l) :=
  .of_flds rfl (fun c hc => by cases c <;> first | rfl | exact absurd h hc)

theorem State.setCore_frame (cs : List Comp) (P : Fld → Prop) (s : State) (n : Fin 2) (k : CoreSt) (h : Comp.cores ∈ cs) :
    Frame cs P s (s.setCore n k) :=
  .of_flds rfl (fun c hc => by cases c <;> first | rfl | exact absurd h hc)

/-! ## Interrupt sources and the fault record -/

theorem State.countArrival_frame (cs : List Comp) {P : Fld → Prop} (s : State) (b : Nat) (h : P (IRQ.SCNT.COUNT b))
    (h' : P (IRQ.SCNT.SAT b)) : Frame cs P s (s.countArrival b) := by
  unfold State.countArrival; split
  · exact State.flag_frame cs s _ _ h'
  · exact State.set_frame cs s _ _ h

/-- An arrival touches nothing but the source's pending bit and count. -/
theorem State.arrive_frame (cs : List Comp) {P : Fld → Prop} (s : State) (src : Nat) (h : ∀ f ∈ arrivalOf src, P f) :
    Frame cs P s (s.arrive src) := by
  unfold State.arrive; split
  · exact (State.setBit_frame cs s _ _ _ (h _ (by simp [arrivalOf]))).then
      (State.countArrival_frame cs _ _ (h _ (by simp [arrivalOf])) (h _ (by simp [arrivalOf])))
  · exact .refl ..

theorem State.raise_frame (cs : List Comp) {P : Fld → Prop} (s : State) (f : Fld) (src : Nat) (hf : P f)
    (h : ∀ g ∈ arrivalOf src, P g) : Frame cs P s (s.raise f src) := by
  unfold State.raise; split
  · exact .refl ..
  · exact (State.flag_frame cs s _ _ hf).then (State.arrive_frame cs _ _ h)

/-- Recording a fault touches nothing but the fault registers and source 0x3B. -/
theorem State.recordFault_frame (cs : List Comp) {P : Fld → Prop} (s : State) (who code unit pc : Nat)
    (h : ∀ f ∈ faultFields, P f) : Frame cs P s (s.recordFault who code unit pc) := by
  have arr : ∀ g ∈ arrivalOf 0x3B, P g := fun g hg => h g (List.mem_append.2 (.inr hg))
  have h1 : Frame cs P s (s.bump SYS.FCOUNT.COUNT SYS.FCOUNT.SAT) :=
    State.bump_frame cs s _ _ (h SYS.FCOUNT.COUNT (by decide)) (h SYS.FCOUNT.SAT (by decide))
  unfold State.recordFault
  refine h1.then ?_
  dsimp only
  split
  · exact State.flag_frame cs _ _ _ (h SYS.FAULT.MORE (by decide))
  · exact (((((State.set_frame cs _ _ _ (h SYS.FAULT.UNIT (by decide))).then
      (State.set_frame cs _ _ _ (h SYS.FAULT.WHO (by decide)))).then
      (State.set_frame cs _ _ _ (h SYS.FAULT.CODE (by decide)))).then
        (State.set2_frame cs _ _ _ _ (h SYS.FGRAINLO.GLO (by decide)) (h SYS.FGRAINHI.GHI (by decide)))).then
          (State.set_frame cs _ _ _ (h SYS.FPC.PC (by decide)))).then
            (State.raise_frame cs _ _ _ (h SYS.FAULT.VALID (by decide)) arr)

end Sys2Proof.Machine
end

