-- ==== Sys2Proof/Laws/Proc.lean ====
section
/-! SUPPORT. What one instruction of a processor does to its running context, and that it does nothing else. -/

namespace Sys2Proof.Machine

@[simp] theorem State.lane_setLane_same (s : State) (n : Fin 5) (l : Lane) : (s.setLane n l).lane n = l := by
  simp [State.lane, State.setLane]

theorem State.lane_setLane_other (s : State) {n m : Fin 5} (h : n ≠ m) (l : Lane) : (s.setLane n l).lane m = s.lane m := by
  simp [State.lane, State.setLane, show n.val ≠ m.val from fun e => h (Fin.ext e)]

@[simp] theorem State.core_setCore_same (s : State) (c : Fin 2) (k : CoreSt) : (s.setCore c k).core c = k := by
  simp [State.core, State.setCore]

theorem State.core_setCore_other (s : State) {c d : Fin 2} (h : c ≠ d) (k : CoreSt) : (s.setCore c k).core d = s.core d := by
  simp [State.core, State.setCore, show c.val ≠ d.val from fun e => h (Fin.ext e)]

@[simp] theorem State.lane_setCore (s : State) (n : Fin 5) (c : Fin 2) (k : CoreSt) : (s.setCore c k).lane n = s.lane n := rfl

@[simp] theorem State.core_setLane (s : State) (n : Fin 5) (c : Fin 2) (l : Lane) : (s.setLane n l).core c = s.core c := rfl

@[simp] theorem State.get_setLane (s : State) (n : Fin 5) (l : Lane) (f : Fld) : (s.setLane n l).get f = s.get f := rfl

@[simp] theorem State.get_setCore (s : State) (c : Fin 2) (k : CoreSt) (f : Fld) : (s.setCore c k).get f = s.get f := rfl

@[simp] theorem State.on_setCore (s : State) (c : Fin 2) (k : CoreSt) (f : Fld) : (s.setCore c k).on f = s.on f := rfl

@[simp] theorem State.on_setLane (s : State) (n : Fin 5) (l : Lane) (f : Fld) : (s.setLane n l).on f = s.on f := rfl

@[simp] theorem State.inHandler_setCore (s : State) (c : Fin 2) (k : CoreSt) (d : Nat) :
    (s.setCore c k).inHandler d = s.inHandler d := rfl

theorem Lane.setCtx_pitch {l : Lane} (h : l.cur = some .pitch) (c : Context) : l.setCtx c = { l with p := c } := by
  simp only [Lane.setCtx, h]

theorem Lane.setCtx_grain {l : Lane} (h : l.cur ≠ some .pitch) (c : Context) : l.setCtx c = { l with g := c } := by
  unfold Lane.setCtx; split
  · rename_i h'; exact absurd h' h
  · rfl

theorem Lane.ctx_pitch {l : Lane} (h : l.cur = some .pitch) : l.ctx = l.p := by simp only [Lane.ctx, h]

theorem Lane.ctx_grain {l : Lane} (h : l.cur ≠ some .pitch) : l.ctx = l.g := by
  unfold Lane.ctx; split
  · rename_i h'; exact absurd h' h
  · rfl

@[simp] theorem Lane.cur_setCtx (l : Lane) (c : Context) : (l.setCtx c).cur = l.cur := by
  by_cases h : l.cur = some .pitch
  · rw [Lane.setCtx_pitch h]
  · rw [Lane.setCtx_grain h]

@[simp] theorem Lane.ctx_setCtx (l : Lane) (c : Context) : (l.setCtx c).ctx = c := by
  by_cases h : l.cur = some .pitch
  · rw [Lane.ctx_pitch (by simpa using h), Lane.setCtx_pitch h]
  · rw [Lane.ctx_grain (by simpa using h), Lane.setCtx_grain h]

/-- The bank a core sees after one is written. -/
@[simp] theorem State.coreBank_setCoreBank (s : State) (c : Fin 2) (b : Bank) : (s.setCoreBank c b).coreBank c = b := by
  unfold State.setCoreBank State.coreBank
  by_cases h : s.on (CSR.STAT.INFAST c) = true
  · simp only [h, if_true, State.on_setCore, State.core_setCore_same]
    have hv : (Vector.ofFn (fun i : Fin 32 =>
        if h : 16 ≤ i.val then (Vector.ofFn (fun i : Fin 16 => b.s[i.val + 16]))[i.val - 16]'(by omega)
        else (Vector.ofFn (fun i : Fin 32 => if i.val < 16 then b.s[i] else (s.core c).bank.s[i]))[i]) : Vector Word 32) =
        b.s := by
      refine Vector.ext (fun i hi => ?_)
      by_cases hi' : 16 ≤ i
      · simp [hi', show i - 16 + 16 = i by omega]
      · simp [hi', show i < 16 by omega]
    rw [hv]
  · simp [h]

/-- The loop stack of the running level after one is written. -/
@[simp] theorem State.coreLoops_setCoreLoops (s : State) (c : Fin 2) (l : List Loop) :
    (s.setCoreLoops c l).coreLoops c = l := by
  unfold State.setCoreLoops State.coreLoops
  by_cases h : s.on (CSR.STAT.INFAST c) = true
  · simp [h]
  · by_cases h' : s.inHandler c = true <;> simp [h, h']

/-- Writing a running context, with the slice's charge, is what Ran says. -/
theorem State.setRun_ran (s : State) (p : Proc) (cost : Nat) (r : Regs) (pc : Word) (loops : List Loop) :
    Ran p cost r.bank pc loops s ((s.setRun p r pc loops).charge p cost) := by
  cases p with
  | lane n =>
    have hs : ∃ l : Lane, (s.setRun (.lane n) r pc loops).charge (.lane n) cost = s.setLane n l ∧
        l.ctx = ⟨r.bank, pc, loops⟩ ∧ l.cur = (s.lane n).cur ∧
        { l with g := (s.lane n).g, p := (s.lane n).p, sig := (s.lane n).sig, sliceLeft := (s.lane n).sliceLeft } = s.lane n ∧
        ((s.lane n).cur = some .pitch → l.g = (s.lane n).g ∧ l.sliceLeft = (s.lane n).sliceLeft - cost) ∧
        ((s.lane n).cur ≠ some .pitch → l.p = (s.lane n).p ∧ l.sliceLeft = (s.lane n).sliceLeft) := by
      by_cases hc : (s.lane n).cur = some .pitch
      · refine ⟨{ s.lane n with
            p := ⟨r.bank, pc, loops⟩
            sig := (s.lane n).sig ++ r.sig
            sliceLeft := (s.lane n).sliceLeft - cost }, ?_, Lane.ctx_pitch hc, rfl, rfl,
            fun _ => ⟨rfl, rfl⟩, fun h => absurd hc h⟩
        simp only [State.setRun, State.charge, State.lane_setLane_same, Lane.setCtx_pitch hc, hc, if_true]
        simp only [State.setLane, Vector.set_set]
      · refine ⟨{ s.lane n with
            g := ⟨r.bank, pc, loops⟩
            sig := (s.lane n).sig ++ r.sig }, ?_, Lane.ctx_grain hc, rfl, rfl,
            fun h => absurd h hc, fun _ => ⟨rfl, rfl⟩⟩
        simp only [State.setRun, State.charge, State.lane_setLane_same, Lane.setCtx_grain hc, hc, if_false]
    obtain ⟨l, he, hctx, hcur, hl, hp, hg⟩ := hs
    rw [he]
    refine ⟨?_, ?_, ?_, State.setLane_frame _ _ s n l (by simp), ?_, ?_, ?_⟩
    · simp [State.bankOf, hctx]
    · simp [State.pcOf, hctx]
    · simp [State.loopsOf, hctx]
    · exact ⟨fun m hm => State.lane_setLane_other s (by simpa using hm) l, fun c _ => rfl⟩
    · rintro m hm
      obtain rfl : n = m := by simpa using hm
      simp only [State.lane_setLane_same]
      exact ⟨hl, hp, hg⟩
    · simp
  | cc c =>
    have hs : ∃ k : CoreSt, (s.setRun (.cc c) r pc loops).charge (.cc c) cost = s.setCore c k ∧
        (s.setCore c k).coreBank c = r.bank ∧ k.pc = pc ∧ (s.setCore c k).coreLoops c = loops ∧
        { k with bank := (s.core c).bank, shadow := (s.core c).shadow, pc := (s.core c).pc,
                 loopsBase := (s.core c).loopsBase, loopsMid := (s.core c).loopsMid,
                 loopsFast := (s.core c).loopsFast } = s.core c := by
      refine ⟨((s.setRun (.cc c) r pc loops).charge (.cc c) cost).core c, ?_, ?_⟩
      · simp only [State.setRun, State.charge, State.setCoreBank, State.setCoreLoops, State.on_setCore]
        split <;> simp [State.setCore, State.core]
      · have hb := State.coreBank_setCoreBank (s.setCoreLoops c loops) c r.bank
        have hl := State.coreLoops_setCoreLoops s c loops
        simp only [State.setRun, State.charge]
        by_cases h : s.on (CSR.STAT.INFAST c) = true
        · simp_all [State.setCoreBank, State.setCoreLoops, State.coreBank, State.coreLoops]
        · by_cases h' : s.inHandler c = true <;>
            simp_all [State.setCoreBank, State.setCoreLoops, State.coreBank, State.coreLoops]
    obtain ⟨k, he, hb, hpc, hl, hk⟩ := hs
    rw [he]
    refine ⟨hb, ?_, hl, State.setCore_frame _ _ s c k (by simp), ?_, ?_, ?_⟩
    · simp [State.pcOf, hpc]
    · exact ⟨fun m _ => rfl, fun d hd => State.core_setCore_other s (by simpa using hd) k⟩
    · simp
    · rintro d hd
      obtain rfl : c = d := by simpa using hd
      simpa using hk

/-- An instruction whose body answers an effect writes it, at the sequential next address or where it jumps. -/
theorem State.instr_ok {s : State} {p : Proc} {cost : Nat} {body : State → Regs → Except Trap Eff} {e : Eff}
    (h : s.Executes p cost) (hb : body s ⟨s.bankOf p, []⟩ = .ok e) :
    s.instr p cost body =
      (e.st.setRun p e.regs (e.jump.getD (nextPc (s.pcOf p) e.loops).1)
        (if e.jump.isSome then e.loops else (nextPc (s.pcOf p) e.loops).2)).charge p cost := by
  unfold State.instr
  simp only [h.1, h.2, if_true, if_false, Bool.false_eq_true, hb]
  cases e.jump <;> rfl

/-- An instruction whose body faults traps. -/
theorem State.instr_trap {s : State} {p : Proc} {cost : Nat} {body : State → Regs → Except Trap Eff} {t : Trap}
    (h : s.Executes p cost) (hb : body s ⟨s.bankOf p, []⟩ = .error t) : s.instr p cost body = s.trap p t := by
  unfold State.instr
  simp only [h.1, h.2, if_true, if_false, Bool.false_eq_true, hb]

/-- A processor that does not run executes nothing. -/
theorem State.instr_idle {s : State} {p : Proc} {cost : Nat} {body : State → Regs → Except Trap Eff}
    (h : s.runs p = false) : s.instr p cost body = s := by
  unfold State.instr; simp [h]

/-- A slice without the cycles for the next instruction suspends (R244). -/
theorem State.instr_suspend {s : State} {p : Proc} {cost : Nat} {body : State → Regs → Except Trap Eff}
    (h : s.runs p = true) (h' : s.sliceOver p cost = true) : s.instr p cost body = s.suspend p := by
  unfold State.instr; simp [h, h']

/-- An instruction that only computes does what Ran says, and nothing else. -/
theorem State.regOp_ran {s : State} {p : Proc} {cost : Nat} (f : Regs → Regs) (h : s.Executes p cost) :
    Ran p cost (f ⟨s.bankOf p, []⟩).bank (s.flow p).1 (s.flow p).2 s (s.regOp p cost f) := by
  unfold State.regOp
  rw [State.instr_ok h rfl]
  exact State.setRun_ran ..

/-- Acts, from the body of the meaning. -/
theorem Acts.of_instr {c : Instr} {p : Proc} {cost : Nat} {s m : State} {b : Bank} {body : State → Regs → Except Trap Eff}
    {r : Regs} (h : s.Executes p cost) (he : exec c s = .next (s.instr p cost body))
    (hb : body s ⟨s.bankOf p, []⟩ = .ok ⟨r, m, none, s.loopsOf p⟩) (hr : r.bank = b) : Acts c p cost s m b := by
  refine ⟨_, he, ?_⟩
  rw [State.instr_ok h hb]
  exact hr ▸ State.setRun_ran m p cost r _ _

/-- Faults, from the body of the meaning. -/
theorem Faults.of_instr {c : Instr} {p : Proc} {cost : Nat} {s : State} {body : State → Regs → Except Trap Eff} {t : Trap}
    (h : s.Executes p cost) (he : exec c s = .next (s.instr p cost body)) (hb : body s ⟨s.bankOf p, []⟩ = .error t) :
    Faults c p s t := by
  unfold Faults
  rw [he, State.instr_trap h hb]

/-- Computes, from the meaning being a register operation. -/
theorem Computes.of_regOp {c : Instr} {p : Proc} {cost : Nat} {s : State} {b : Bank} (f : Regs → Regs)
    (h : s.Executes p cost) (he : exec c s = .next (s.regOp p cost f)) (hb : (f ⟨s.bankOf p, []⟩).bank = b) :
    Computes c p cost s b := ⟨_, he, hb ▸ State.regOp_ran f h⟩

/-! ## Registers -/

@[simp] theorem Regs.sr_eq (b : Bank) (sg : List SigItem) (i : Fin 32) : (Regs.mk b sg).sr i = valS b i := rfl

@[simp] theorem Regs.bank_setS (r : Regs) (d : Fin 32) (x : Word) : (r.setS d x).bank = putS r.bank d x := by
  unfold Regs.setS putS; split <;> rfl

@[simp] theorem Regs.bank_setV (r : Regs) (d : Fin 16) (x : Vec) : (r.setV d x).bank = putV r.bank d x := rfl

@[simp] theorem Regs.bank_setA (r : Regs) (d : Fin 8) (x : Acc) : (r.setA d x).bank = putA r.bank d x := rfl

@[simp] theorem Regs.bank_setFl (r : Regs) (x : Word) : (r.setFl x).bank = { r.bank with fl := x } := by
  unfold Regs.setFl; split
  · rename_i h; rw [h]
  · rfl

@[simp] theorem putS_fl (b : Bank) (d : Fin 32) (x : Word) : (putS b d x).fl = b.fl := by unfold putS; split <;> rfl

@[simp] theorem putS_acc (b : Bank) (d : Fin 32) (x : Word) : (putS b d x).acc = b.acc := by unfold putS; split <;> rfl

@[simp] theorem putS_v (b : Bank) (d : Fin 32) (x : Word) : (putS b d x).v = b.v := by unfold putS; split <;> rfl

@[simp] theorem putV_fl (b : Bank) (d : Fin 16) (x : Vec) : (putV b d x).fl = b.fl := rfl

@[simp] theorem putA_fl (b : Bank) (d : Fin 8) (x : Acc) : (putA b d x).fl = b.fl := rfl

end Sys2Proof.Machine
end

