-- ==== Sys2Proof/Laws/Flags.lean ====
section
/-! SUPPORT. What each flag computation writes, bit by bit. -/

namespace Sys2Proof.Machine

theorem putBit_bit (w : Word) (i j : Nat) (b : Bool) (hj : j < 32) :
    (putBit w i b).getLsbD j = if j = i then b else w.getLsbD j := by
  unfold putBit
  by_cases h : j = i
  · subst h; cases b <;> simp [hj]
  · cases b <;> simp [h, hj]

theorem FlagsAre.refl (fl : Word) : FlagsAre fl fl [] := fun _ _ => rfl

/-- One more bit written. -/
theorem FlagsAre.put {fl fl' : Word} {l : List (Nat × Bool)} (h : FlagsAre fl fl' l) (k : Nat) (b : Bool) :
    FlagsAre fl (putBit fl' k b) ((k, b) :: l) := by
  intro i hi
  rw [putBit_bit _ _ _ _ hi, h i hi]
  by_cases hk : i = k
  · subst hk; simp only [if_true, List.lookup, beq_self_eq_true, Option.getD_some]
  · have : (i == k) = false := by simpa using hk
    simp only [hk, if_false, List.lookup, this]

/-- One more sticky bit: it keeps or sets. -/
theorem FlagsAre.stick {fl fl' : Word} {l : List (Nat × Bool)} (h : FlagsAre fl fl' l) (k : Nat) (c : Bool) (hk : k < 32)
    (hl : l.lookup k = none) : FlagsAre fl (sticky fl' k c) ((k, fl.getLsbD k || c) :: l) := by
  cases c with
  | true => simpa only [sticky, if_true, Bool.or_true] using h.put k true
  | false =>
    intro i hi
    simp only [sticky, Bool.false_eq_true, if_false, Bool.or_false, h i hi]
    by_cases hk' : i = k
    · subst hk'; simp only [hl, List.lookup, beq_self_eq_true, Option.getD_some, Option.getD_none]
    · have : (i == k) = false := by simpa using hk'
      simp only [List.lookup, this]

theorem flagsZN_are (fl r : Word) : FlagsAre fl (flagsZN fl r) [(1, r.msb), (0, r == 0)] :=
  ((FlagsAre.refl fl).put 0 _).put 1 _

theorem flagsAdd_are (fl a b : Word) : FlagsAre fl (flagsAdd fl a b)
    [(3, decide ((a + b).toInt ≠ a.toInt + b.toInt)), (2, decide (2 ^ 32 ≤ a.toNat + b.toNat)), (1, (a + b).msb),
     (0, a + b == 0)] := ((flagsZN_are fl (a + b)).put 2 _).put 3 _

theorem flagsSub_are (fl a b : Word) : FlagsAre fl (flagsSub fl a b)
    [(3, decide ((a - b).toInt ≠ a.toInt - b.toInt)), (2, decide (b.toNat ≤ a.toNat)), (1, (a - b).msb),
     (0, a - b == 0)] := ((flagsZN_are fl (a - b)).put 2 _).put 3 _

/-- Z and N, then SAT. -/
theorem znSat_are (fl r : Word) (c : Bool) :
    FlagsAre fl (sticky (flagsZN fl r) flSAT c) [(8, fl.getLsbD 8 || c), (1, r.msb), (0, r == 0)] :=
  (flagsZN_are fl r).stick 8 c (by omega) rfl

/-- One sticky bit alone. -/
theorem sticky_are (fl : Word) (k : Nat) (c : Bool) (hk : k < 32) :
    FlagsAre fl (sticky fl k c) [(k, fl.getLsbD k || c)] := (FlagsAre.refl fl).stick k c hk rfl

end Sys2Proof.Machine
end

