-- ==== Sys2Proof/Laws/Arith.lean ====
section
/-! SUPPORT. What each shared arithmetic operation computes: registers, flags, and nothing else. -/

namespace Sys2Proof.Machine

/-- A register operation whose flags are described bit by bit. -/
theorem ComputesFl.of_regOp {c : Instr} {p : Proc} {cost : Nat} {s : State} {b : Bank} {l : List (Nat × Bool)} {fl : Word}
    (f : Regs → Regs) (h : s.Executes p cost) (he : exec c s = .next (s.regOp p cost f)) (hf : FlagsAre b.fl fl l)
    (hb : (f ⟨s.bankOf p, []⟩).bank = { b with fl := fl }) : ComputesFl c p cost s b l :=
  ⟨fl, hf, Computes.of_regOp f h he hb⟩

theorem alu_computes {c : Instr} {s : State} {p : Proc} {d a b : Fin 32} {f : Word → Word → Word}
    {fl : Word → Word → Word → Word} {l : List (Nat × Bool)} (h : s.Executes p 1)
    (he : exec c s = .next (s.alu p d a b f fl))
    (hf : FlagsAre (s.bankOf p).fl (fl (s.bankOf p).fl (valS (s.bankOf p) a) (valS (s.bankOf p) b)) l) :
    ComputesFl c p 1 s (putS (s.bankOf p) d (f (valS (s.bankOf p) a) (valS (s.bankOf p) b))) l :=
  ComputesFl.of_regOp _ h he (by rw [putS_fl]; exact hf) (by rw [Regs.bank_setFl, Regs.bank_setS]; rfl)

theorem aluZN_computes {c : Instr} {s : State} {p : Proc} {d a b : Fin 32} {f : Word → Word → Word} {r : Word}
    (h : s.Executes p 1) (he : exec c s = .next (s.aluZN p d a b f))
    (hr : f (valS (s.bankOf p) a) (valS (s.bankOf p) b) = r) :
    ComputesFl c p 1 s (putS (s.bankOf p) d r) [(1, r.msb), (0, r == 0)] :=
  hr ▸ alu_computes h he (flagsZN_are _ _)

theorem aluSat_computes {c : Instr} {s : State} {p : Proc} {d a b : Fin 32} {f : Int → Int → Int} {x : Int}
    (h : s.Executes p 1) (he : exec c s = .next (s.aluSat p d a b f))
    (hx : f (valS (s.bankOf p) a).toInt (valS (s.bankOf p) b).toInt = x) :
    ComputesFl c p 1 s (putS (s.bankOf p) d (sat32 x).1)
      [(8, (s.bankOf p).fl.getLsbD 8 || (sat32 x).2), (1, (sat32 x).1.msb), (0, (sat32 x).1 == 0)] :=
  hx ▸ alu_computes (f := fun x y => (sat32 (f x.toInt y.toInt)).1)
    (fl := fun fl x y => sticky (flagsZN fl (sat32 (f x.toInt y.toInt)).1) flSAT (sat32 (f x.toInt y.toInt)).2)
    h he (znSat_are _ _ _)

theorem aluShift_computes {c : Instr} {s : State} {p : Proc} {d a x : Fin 32} {f : Word → Nat → Word}
    (h : s.Executes p 1) (he : exec c s = .next (s.aluShift p d a x f)) :
    ComputesFl c p 1 s (putS (s.bankOf p) d (f (valS (s.bankOf p) a) x))
      [(1, (f (valS (s.bankOf p) a) x).msb), (0, f (valS (s.bankOf p) a) x == 0)] :=
  ComputesFl.of_regOp _ h he (by rw [putS_fl]; exact flagsZN_are _ _) (by rw [Regs.bank_setFl, Regs.bank_setS]; rfl)

theorem aluImm_computes {c : Instr} {s : State} {p : Proc} {d a : Fin 32} {k : Word} {f : Word → Word → Word}
    {fl : Word → Word → Word → Word} {l : List (Nat × Bool)} (h : s.Executes p 1)
    (he : exec c s = .next (s.aluImm p d a k f fl))
    (hf : FlagsAre (s.bankOf p).fl (fl (s.bankOf p).fl (valS (s.bankOf p) a) k) l) :
    ComputesFl c p 1 s (putS (s.bankOf p) d (f (valS (s.bankOf p) a) k)) l :=
  ComputesFl.of_regOp _ h he (by rw [putS_fl]; exact hf) (by rw [Regs.bank_setFl, Regs.bank_setS]; rfl)

theorem mds_computes {c : Instr} {s : State} {p : Proc} {cost : Nat} {d a b : Fin 32} {f : Word → Word → Word} {k : Nat}
    {g : Word → Word → Bool} (hk : k < 32) (h : s.Executes p cost) (he : exec c s = .next (s.mds p cost d a b f k g)) :
    ComputesFl c p cost s (putS (s.bankOf p) d (f (valS (s.bankOf p) a) (valS (s.bankOf p) b)))
      [(k, (s.bankOf p).fl.getLsbD k || g (valS (s.bankOf p) a) (valS (s.bankOf p) b))] :=
  ComputesFl.of_regOp _ h he (by rw [putS_fl]; exact sticky_are _ _ _ hk)
    (by rw [Regs.stick, Regs.bank_setFl, Regs.bank_setS, putS_fl]; rfl)

/-- Where no flag can set, an MDS function is a plain computation. -/
theorem mds_computes0 {c : Instr} {s : State} {p : Proc} {cost : Nat} {d a b : Fin 32} {f : Word → Word → Word} {k : Nat}
    (h : s.Executes p cost) (he : exec c s = .next (s.mds p cost d a b f k (fun _ _ => false))) :
    Computes c p cost s (putS (s.bankOf p) d (f (valS (s.bankOf p) a) (valS (s.bankOf p) b))) :=
  Computes.of_regOp _ h he (by
    rw [Regs.stick, Regs.bank_setFl, Regs.bank_setS]
    simp only [sticky, Bool.false_eq_true, if_false]
    rfl)

end Sys2Proof.Machine
end

