-- ==== Sys2Proof/Machine/Pads.lean ====
section
/-! DEFINITION. What the output pads show, as the pad tables give it: what a pad carries while its domain is on, and its
state while off (R50, R51, R54–R56, R61, R136, R140, R289). -/

namespace Sys2Proof.Machine

/-- A digital output pad: driven low or high, or not driven (high impedance, or an open drain released). -/
inductive PadLevel where
  | low | high | off
  deriving DecidableEq, Repr

/-- A driven level. -/
def PadLevel.drive (b : Bool) : PadLevel := if b then .high else .low

/-- An analogue output or a supply pad: at ground (discharged), at a voltage in mV or a ratio of two numbers of it, following
the backup cell, or not driven. -/
inductive PadVolt where
  | ground | mv (x : Nat) | ratio (num den : Nat) | cell | off
  deriving DecidableEq, Repr

/-! ## The host side (R51, R54) -/

/-- A host-side output: not driven while HVDD is absent. -/
def State.hostPad (s : State) (x : PadLevel) : PadLevel := if s.link.hvdd then x else .off

/-- The mains side vouches for the host-side outputs: it runs and has finished its boot (R54). -/
def State.vouches (s : State) : Bool := s.power == .on && s.clock.pllLock

/-- HCF0 and HCF1 (R54, R289). -/
def State.hcfPad (s : State) (m : Nat) : PadLevel := s.hostPad (.drive (s.vouches && s.hcfCopy m))

/-- HWATCH (R54, R292): low until the mains side runs and PULSE has set the polarity since HVDD rose. -/
def State.watchPad (s : State) : PadLevel := s.hostPad (.drive (s.vouches && !s.link.polHeld && s.watchLevel))

/-- HIRQ_N (R54, R55): an open drain, pulled low while an interrupt is presented to the host. -/
def State.hirqPad (s : State) : PadLevel :=
  s.hostPad (if s.vouches && s.irq.host != [] then .low else .off)

/-- HRDY (R51, R518). -/
def State.hrdyPad (s : State) : PadLevel := s.hostPad (.drive s.hrdy)

/-- MISO drives a bit only while CS_N is low (R51). -/
def State.misoPad (s : State) (selected bit : Bool) : PadLevel := s.hostPad (if selected then .drive bit else .off)

/-- CHP and CHN are driven only with CHVDD connected and the link enabled (R51, R56). -/
def State.chainDriven (s : State) : Bool := s.link.hvdd && s.chainOn

/-! ## The mains side (R50, R61) -/

/-- The AFE domain is on (R39): in RUN and BASE CAMP. -/
def State.afeOn (s : State) : Bool := s.power == .on

/-- The SENTRY domain is on (R39): always while the mains side runs, in BIVOUAC during a window alone. -/
def State.sentryOn (s : State) (window : Bool) : Bool :=
  match s.power with
  | .on => true
  | .bivouac => window
  | .off => false

/-- BCLKO (R50, R140): 12.8 MHz of MOD while the source is BCLKO and BCLKOEN is set; else low. -/
def State.bclkoRuns (s : State) : Bool :=
  s.afeOn && s.clock.pllLock && s.eff BITIN.CTRL.CLKSRC == 0 && s.on BITIN.CTRL.BCLKOEN

/-- REFOUT (R50): 2.048 V, discharged to MGND while SENTRY is off. -/
def State.refoutPad (s : State) (window : Bool) : PadVolt := if s.sentryOn window then .mv 2048 else .ground

/-- V3O (R61): 3.3 V in RUN and BASE CAMP, the cell's voltage in a SENTRY window, 0 V otherwise. -/
def State.v3oPad (s : State) (window : Bool) : PadVolt :=
  match s.power with
  | .on => .mv 3300
  | .bivouac => if window then .cell else .ground
  | .off => .ground

/-- GLP and GLN (R50): at MGND while SENTRY is off; absent without -G. -/
def State.crackPads (s : State) (window : Bool) : PadVolt :=
  if s.part.optG = false then .off else if s.sentryOn window then .mv 0 else .ground

/-- The charge pump's voltage for an LCD, in mV: in the outage view that of VSET and the last temperature (R461). -/
def State.lcdVolts (s : State) : Nat := if s.glassOn then s.glass.pump else s.lcdTarget

/-- A bistable update has the pump on (R446, R455). -/
def State.panelDriven (s : State) : Bool :=
  s.glassOn && match s.glass.upd with | none => false | some u => u.began.isSome

/-- VLCD (R50, R446): the charge pump's voltage while an LCD is driven, 15.0 V during a bistable update, 0 V otherwise; absent
without -G. -/
def State.vlcdPad (s : State) : PadVolt :=
  if s.part.optG = false then .off
  else if s.panelDriven then .mv 15000
  else if s.lcdDriven then .mv s.lcdVolts
  else .ground

/-- Whether segment n of common c is on (R448, R461); while GLASS is off none is. -/
def State.segOn (s : State) (c n : Nat) : Bool := s.lcdOn c n || s.frozenOn c n

/-- COM n (R446, R448, R451), in a half of the slot of common c of an LCD; COM0 is the top plane of a bistable panel. -/
def State.comPad (s : State) (c : Nat) (second : Bool) (n : Nat) : PadVolt :=
  if s.part.optG = false then .off
  else if s.panelDriven then (if n = 0 ∧ (s.bistableLevels 0).1 then .mv 15000 else .ground)
  else if s.lcdDriven then .ratio (s.comLevel c second n * s.lcdVolts) s.lcdBias
  else .ground

/-- SEG n (R446, R448, R451), in a half of the slot of common c of an LCD. -/
def State.segPad (s : State) (c : Nat) (second : Bool) (n : Nat) : PadVolt :=
  if s.part.optG = false then .off
  else if s.panelDriven then (if (s.bistableLevels n).2 then .mv 15000 else .ground)
  else if s.lcdDriven then .ratio (s.segLevel c second (s.segOn c n) * s.lcdVolts) s.lcdBias
  else .ground

/-! ## Open-wire currents (R136) -/

/-- The current a pin's source drives. -/
inductive PinCurrent where
  | none | up (ua : Nat) | down (ua : Nat)
  deriving DecidableEq, Repr

/-- What the source of one pin drives by its CFG fields and the quad's test (R136, R137): with TEST set only while a running
test has its pins switched on for that slot. -/
def State.pinDrive (s : State) (q : Fin 4) (k : Nat) (neg : Bool) : PinCurrent :=
  let on := if neg then s.on (QUAD.CFG.NEN q k) else s.on (QUAD.CFG.PEN q k)
  let test := if neg then s.on (QUAD.CFG.NTEST q k) else s.on (QUAD.CFG.PTEST q k)
  let ua := if (if neg then s.on (QUAD.CFG.N10 q k) else s.on (QUAD.CFG.P10 q k)) then 10 else 1
  let live := match s.quads[q].ow with
    | none => false
    | some t => t.live && bitOf t.mask k
  if on && (!test || live) then
    (if (if neg then s.on (QUAD.CFG.NUP q k) else s.on (QUAD.CFG.PUP q k)) then .up ua else .down ua)
  else .none

/-- The current of pin P (or N) of slot k of a quad (R136): 1 or 10 µA, up or down, all the time where its TEST bit is clear,
during a test alone where it is set; none on a part or in a state without the channel. -/
def State.pinCurrent (s : State) (q : Fin 4) (k : Nat) (neg : Bool) : PinCurrent :=
  if s.afeOn = false ∨ s.part.hasChan (slotChan (4 * q + k)) = false ∨ s.unpowered (slotChan (4 * q + k)) then .none
  else s.pinDrive q k neg

end Sys2Proof.Machine
end

