-- ==== Sys2Proof/Tests/Slice0.lean ====
section
/-! SUPPORT. Tests: for each statement a concrete state that meets its hypotheses, clause by clause, with a result worked out
by hand from the spec's rules; the worked examples of the spec; an ill-formed command for each check of WellFormed. -/

open Sys2Proof Sys2Proof.Machine

namespace Sys2Proof.Tests

-- One proof at a time: a thread each would run beyond the memory the check allows.
set_option Elab.async false

/-- The state after reset with the PLL locked, in grain 1000, and some fields written. -/
def at1000 (fs : List (Fld × Nat)) : State :=
  fs.foldl (fun s e => s.set e.1 e.2) { State.reset with clock := { State.reset.clock with pllLock := true, grain := 1000 } }

/-- The command goes on to a state with a property. -/
def ends (o : Host.Outcome State Fault Refusal) (p : State → Bool) : Bool :=
  match o with
  | .next t => p t
  | _ => false

/-- The command goes on and leaves the whole state as it was. -/
def idles (c : Instr) (s : State) : Bool := ends (exec c s) (fun t => decide (t = s))

/-- Core 0 runs a service program with these registers. -/
def core0 (b : Bank) (s : State) : State :=
  s.setCore 0 { s.core 0 with run := .service, pc := 0x10400000, bank := b, waiting := false }

/-- Lane 2, which no rope ties, is in a grain program with these registers. -/
def lane2 (b : Bank) (s : State) : State := s.setLane 2 { Lane.zero with cur := some .grain, g := ⟨b, 0, []⟩ }

/-- Scalar registers. -/
def scalars (l : List (Fin 32 × Word)) : Bank := { Bank.zero with s := l.foldl (fun v e => v.set e.1 e.2) Bank.zero.s }

/-- Core 0 after a command. -/
def ends0 (c : Instr) (s : State) (p : Bank → Bool) : Bool := ends (exec c s) (fun t => p (t.core 0).bank)

/-- s in another grain. -/
def inGrain (g : Nat) (s : State) : State := { s with clock := { s.clock with grain := g } }

/-! ## Instructions -/

/-- Operands for the scalar tests: s1 = −1, s2 = 1, s3 = −2^31, s4 = 2^31 − 1, s5 = 7, s6 = −2. -/
def ops : State := core0 (scalars [(1, 0xFFFFFFFF), (2, 1), (3, 0x80000000), (4, 0x7FFFFFFF), (5, 7), (6, 0xFFFFFFFE)]) (at1000 [])

/-- A core that runs executes; so does a lane in a grain program, and a lane's slice with cycles left (R189, R244). -/
theorem test_executes : ops.Executes (.cc 0) 20 ∧ (lane2 Bank.zero (at1000 [])).Executes (.lane 2) 4 ∧
    ((at1000 []).setLane 2 { Lane.zero with cur := some .pitch, sliceLeft := 2 }).Executes (.lane 2) 2 := by
  unfold State.Executes; decide +kernel

/-- R206: −1 + 1 is 0 with C and Z; 2^31 − 1 + 1 is negative with V. -/
theorem test_add_wraps : ends0 (.add (.cc 0) 9 1 2) ops (fun b => b.s[9] == 0 && b.fl == 5#32) = true ∧
    ends0 (.add (.cc 0) 9 4 2) ops (fun b => b.s[9] == 0x80000000#32 && b.fl == 10#32) = true := by decide +kernel

/-- R206: 1 − (−1) borrows, so C is clear; −2^31 − 1 overflows. R171: s0 discards the write. -/
theorem test_sub_borrow : ends0 (.sub (.cc 0) 9 2 1) ops (fun b => b.s[9] == 2 && b.fl == 0#32) = true ∧
    ends0 (.sub (.cc 0) 0 3 2) ops (fun b => b.s[0] == 0 && b.fl == 12#32) = true := by decide +kernel

/-- R205: signed and unsigned comparison, minimum, and shifts by a register count modulo 32. -/
theorem test_compare_shift : ends0 (.cmplt (.cc 0) 9 1 2) ops (fun b => b.s[9] == 1) = true ∧
    ends0 (.cmpltu (.cc 0) 9 1 2) ops (fun b => b.s[9] == 0 && b.fl == 1#32) = true ∧
    ends0 (.min (.cc 0) 9 1 2) ops (fun b => b.s[9] == 0xFFFFFFFF#32) = true ∧
    ends0 (.sllv (.cc 0) 9 2 1) ops (fun b => b.s[9] == 0x80000000#32) = true ∧
    ends0 (.sra (.cc 0) 9 3 31) ops (fun b => b.s[9] == 0xFFFFFFFF#32) = true := by decide +kernel

/-- R205, R207: saturation at both ends sets SAT (bit 8), and only there. -/
theorem test_saturate : ends0 (.qadd (.cc 0) 9 4 2) ops (fun b => b.s[9] == 0x7FFFFFFF#32 && b.fl == 0x100#32) = true ∧
    ends0 (.qsub (.cc 0) 9 3 2) ops (fun b => b.s[9] == 0x80000000#32 && b.fl == 0x102#32) = true ∧
    ends0 (.qabs (.cc 0) 9 3) ops (fun b => b.s[9] == 0x7FFFFFFF#32 && b.fl.getLsbD 8) = true ∧
    ends0 (.qneg (.cc 0) 9 5) ops (fun b => b.s[9] == 0xFFFFFFF9#32 && !b.fl.getLsbD 8) = true ∧
    ends0 (.qmul (.cc 0) 9 3 3) ops (fun b => b.s[9] == 0x7FFFFFFF#32 && b.fl.getLsbD 8) = true := by decide +kernel

/-- R207: high products and square roots; a negative operand gives 0 and SQN (bit 11). -/
theorem test_products_roots : ends0 (.mulh (.cc 0) 9 1 2) ops (fun b => b.s[9] == 0xFFFFFFFF#32) = true ∧
    ends0 (.mulhu (.cc 0) 9 1 1) ops (fun b => b.s[9] == 0xFFFFFFFE#32) = true ∧
    ends0 (.sqrt (.cc 0) 9 5) ops (fun b => b.s[9] == 2 && b.fl == 0#32) = true ∧
    ends0 (.qsqrt (.cc 0) 9 3) ops (fun b => b.s[9] == 0 && b.fl == 0x800#32) = true := by decide +kernel

/-- R208: a divisor of 0 sets DZ (bit 10) with its fixed results; −2^31 by −1 saturates; quotients go toward zero. -/
theorem test_division : ends0 (.div (.cc 0) 9 6 0) ops (fun b => b.s[9] == 0x80000000#32 && b.fl == 0x400#32) = true ∧
    ends0 (.rem (.cc 0) 9 5 0) ops (fun b => b.s[9] == 7 && b.fl == 0x400#32) = true ∧
    ends0 (.div (.cc 0) 9 3 1) ops (fun b => b.s[9] == 0x7FFFFFFF#32 && b.fl == 0x100#32) = true ∧
    ends0 (.div (.cc 0) 9 5 6) ops (fun b => b.s[9] == 0xFFFFFFFD#32) = true ∧
    ends0 (.rem (.cc 0) 9 5 6) ops (fun b => b.s[9] == 1) = true := by decide +kernel

/-- R209: ADDI extends the sign, ANDI extends with zeros, HIMM places its immediate high and keeps the flags. -/
theorem test_immediates : ends0 (.addi (.cc 0) 9 2 0xFFFF) ops (fun b => b.s[9] == 0 && b.fl == 5#32) = true ∧
    ends0 (.andi (.cc 0) 9 1 0x8001) ops (fun b => b.s[9] == 0x8001#32) = true ∧
    ends0 (.himm (.cc 0) 9 0x8001) ops (fun b => b.s[9] == 0x80010000#32 && b.fl == 0#32) = true := by decide +kernel

/-- A bank with v1 = (2^31 − 1, −1, 2, 3), v2 = (1, 1, −2^31, 4), s1 = 9 and accumulators. -/
def vecs : State := core0 { Bank.zero with
  v := ((Bank.zero.v.set 1 (vec4 0x7FFFFFFF 0xFFFFFFFF 2 3)).set 2 (vec4 1 1 0x80000000 4))
  s := Bank.zero.s.set 1 9
  acc := (Bank.zero.acc.set 1 (BitVec.ofInt 96 (-(3 * 2 ^ 31)))).set 2 (BitVec.ofNat 96 (2 ^ 95 - 1)) } (at1000 [])

/-- R211: elements wrap in VADD and are held, with SAT, in VQADD; R213: insert, extract, sum. -/
theorem test_vectors : ends0 (.vadd (.cc 0) 3 1 2) vecs (fun b => b.v[3] == vec4 0x80000000 0 0x80000002 7 && b.fl == 0#32) = true ∧
    ends0 (.vqadd (.cc 0) 3 1 2) vecs (fun b => b.v[3] == vec4 0x7FFFFFFF 0 0x80000002 7 && b.fl == 0x100#32) = true ∧
    ends0 (.vins (.cc 0) 1 1 2) vecs (fun b => b.v[1] == vec4 0x7FFFFFFF 0xFFFFFFFF 9 3) = true ∧
    ends0 (.vext (.cc 0) 9 2 2) vecs (fun b => b.s[9] == 0x80000000#32) = true ∧
    ends0 (.vsum (.cc 0) 9 1) vecs (fun b => b.s[9] == 0x80000003#32) = true := by decide +kernel

/-- R212, R215: an integer product enters above the point; a fractional one is scaled by 2^(X − 30), a tie going to the even
multiple (9 · 9 = 81, X = 29: 40.5 becomes 40). R178: past the range the accumulator is held and AOV (bit 9) sets. -/
theorem test_accumulate : ends0 (.maci (.cc 0) 0 1 1 0) vecs (fun b => b.acc[0] == BitVec.ofNat 96 (81 * 2 ^ 32) && b.fl == 0#32) = true ∧
    ends0 (.mac (.cc 0) 0 1 1 29) vecs (fun b => b.acc[0] == 40#96) = true ∧
    ends0 (.maci (.cc 0) 2 1 1 0) vecs (fun b => b.acc[2] == BitVec.ofNat 96 (2 ^ 95 - 1) && b.fl == 0x200#32) = true ∧
    ends0 (.vmaci (.cc 0) 0 2 2 0) vecs (fun b => b.acc[0] == BitVec.ofNat 96 ((2 ^ 62 + 18) * 2 ^ 32)) = true := by decide +kernel

/-- R214: ARND rounds to even (−3 · 2^31 / 2^32 = −1.5 becomes −2) and ARDW reads a word. -/
theorem test_accumulator_functions : ends0 (.arnd (.cc 0) 9 1 31) vecs (fun b => b.s[9] == 0xFFFFFFFE#32) = true ∧
    ends0 (.ardw (.cc 0) 9 2 2) vecs (fun b => b.s[9] == 0x7FFFFFFF#32) = true ∧
    ends0 (.aclr (.cc 0) 2) vecs (fun b => b.acc[2] == 0#96) = true := by decide +kernel

/-- R216: a count of 0 skips the body, a count over the bound is held and sets LCL (bit 12), else the body is entered. -/
theorem test_loops : ends (exec (.loop (.cc 0) true 0 9 3) ops) (fun t => (t.core 0).pc == 0x10400014#32 && t.loopsOf (.cc 0) == []) = true ∧
    ends (exec (.loop (.cc 0) true 5 2 3) ops) (fun t => t.loopsOf (.cc 0) == [⟨0x10400004, 0x10400010, 3⟩] &&
      (t.core 0).bank.fl == 0x1000#32) = true ∧
    ends (exec (.loop (.cc 0) false 0 0 0) ops) (fun t => t.loopsOf (.cc 0) == [⟨0x10400004, 0x10400004, 1⟩]) = true := by decide +kernel

/-- R216: at the end of a body the inner loop ends and the outer one, which ends there too, goes round; else both end. -/
theorem test_loop_ends :
    ends (exec (.nop (.cc 0)) (ops.setCore 0 { ops.core 0 with
      loopsBase := [⟨0x10400000, 0x10400000, 1⟩, ⟨0x103FFFF0, 0x10400000, 2⟩] }))
      (fun t => (t.core 0).pc == 0x103FFFF0#32 && t.loopsOf (.cc 0) == [⟨0x103FFFF0, 0x10400000, 1⟩]) = true ∧
    ends (exec (.nop (.cc 0)) (ops.setCore 0 { ops.core 0 with loopsBase := [⟨0x10400000, 0x10400000, 1⟩] }))
      (fun t => (t.core 0).pc == 0x10400004#32 && t.loopsOf (.cc 0) == []) = true ∧
    ends (exec (.nop (.cc 0)) (ops.setCore 0 { ops.core 0 with loopsBase := [⟨0x10400000, 0x10400008, 2⟩] }))
      (fun t => (t.core 0).pc == 0x10400004#32 && t.loopsOf (.cc 0) == [⟨0x10400000, 0x10400008, 2⟩]) = true := by decide +kernel

/-- R217: taken and not taken, signed and unsigned. -/
theorem test_branches : ends (exec (.iflt (.cc 0) 1 2 0xFFFE) ops) (fun t => (t.core 0).pc == 0x103FFFF8#32) = true ∧
    ends (exec (.ifltu (.cc 0) 1 2 0xFFFE) ops) (fun t => (t.core 0).pc == 0x10400004#32) = true ∧
    ends (exec (.ifgeu (.cc 0) 1 2 3) ops) (fun t => (t.core 0).pc == 0x1040000C#32) = true := by decide +kernel

/-- The next address, where the register of JUMP holds a. -/
def jumps (a : Word) (s : State) : Bool :=
  ends (exec (.jump (.cc 0) 7 7) (core0 (scalars [(7, a)]) s)) (fun t => (t.core 0).pc == a && (t.core 0).bank.s[7] == 0x10400004#32)

/-- R218: JUMP reads before it links, to the first and the last program word; faults 0x03, 0x04 and 0x07. -/
theorem test_jump_call : jumps 0x10400000 (at1000 []) = true ∧ jumps 0x1057FFFC (at1000 []) = true ∧ jumps 0x7FFFC (at1000 []) = true ∧
    ends (exec (.jump (.cc 0) 7 5) ops) (fun t => t.get (CSR.ECAUSE.CODE 0) == 3) = true ∧
    ends (exec (.jump (.cc 0) 7 3) ops) (fun t => t.get (CSR.ECAUSE.CODE 0) == 4) = true ∧
    ends (exec (.call (.cc 0) 7 0x10) ops) (fun t => (t.core 0).pc == 0x10400040#32 && (t.core 0).bank.s[7] == 0x10400004#32) = true ∧
    ends (exec (.call (.cc 0) 7 0x10) (ops.setCore 0 { ops.core 0 with loopsBase := [⟨0, 4, 1⟩] }))
      (fun t => t.get (CSR.ECAUSE.CODE 0) == 7) = true := by decide +kernel
/-- A fault of core 0 with this code. -/
def faults0 (c : Instr) (s : State) (code : Nat) : Bool :=
  ends (exec c s) (fun t => t.get (CSR.ECAUSE.CODE 0) == code && t.on (CSR.STAT.INFAULT 0))

/-- R228: WAIT holds the core, TRAP raises 0x0B, RETI outside a handler 0x02, FLW keeps the bits of fl. -/
theorem test_sys : ends (exec (.wait (.cc 0)) ops) (fun t => (t.core 0).waiting && (t.core 0).pc == 0x10400004#32) = true ∧
    faults0 (.trap (.cc 0) 1) ops 0x0B = true ∧ ops.inHandler 0 = false ∧ faults0 (.reti (.cc 0)) ops 2 = true ∧
    ends0 (.flw (.cc 0) 1) ops (fun b => b.fl == 0x7F0F#32) = true ∧
    ends0 (.flr (.cc 0) 9) ops (fun b => b.s[9] == 0) = true := by decide +kernel

/-- A core in its normal handler, from which RETI goes back to EPC. -/
def handling : State := at1000 [(CSR.STAT.INNORM 0, 1), (CSR.EPC.PC 0, 0x10400100), (CSR.EFL.FL 0, 5)]

/-- R228: RETI ends the normal handler; in a fast handler it ends that one first. -/
theorem test_reti : (core0 Bank.zero handling).inHandler 0 = true ∧ (core0 Bank.zero handling).Executes (.cc 0) 1 ∧
    ((core0 Bank.zero handling).core 0).run ≠ .idle ∧
    ends (exec (.reti (.cc 0)) (core0 Bank.zero handling)) (fun t => (t.core 0).pc == 0x10400100#32 && (t.core 0).bank.fl == 5#32 &&
      !t.inHandler 0) = true ∧
    ends (exec (.reti (.cc 0)) (core0 Bank.zero (handling.set (CSR.STAT.INFAST 0) 1))) (fun t => t.inHandler 0 &&
      (t.core 0).pc == 0#32) = true := by
  unfold State.Executes; decide +kernel

/-- R180, R190, R222: the profiles; a lease resource that does not exist is an illegal encoding. -/
theorem test_profiles : exec (.wait (.lane 2)) (lane2 Bank.zero (at1000 [])) = .fault .loaderExcludes ∧
    exec (.stvc (.lane 2) 0 21 .grain 0 0) (lane2 Bank.zero (at1000 [])) = .fault .loaderExcludes ∧
    exec (.leaseTake (.lane 2) 0 6) (lane2 Bank.zero (at1000 [])) = .fault .loaderExcludes := ⟨rfl, rfl, rfl⟩

/-- R180, R190, R222 on a control core: fault 0x02 for a lane's instruction, 0x01 for an illegal encoding. -/
theorem test_profiles_core : ops.Executes (.cc 0) 4 ∧ faults0 (.jacc (.cc 0) 0 0 63) ops 2 = true ∧
    faults0 (.stvc (.cc 0) 0 20 .grain 0 0) ops 2 = true ∧ faults0 (.stvc (.cc 0) 0 21 .grain 0 0) ops 1 = true ∧
    faults0 (.leaseQuery (.cc 0) 0 7) ops 1 = true ∧ faults0 (.leaseQuery (.cc 0) 0 12) ops 1 = true := by
  unfold State.Executes; decide +kernel

/-- R227: SCR0 is exchanged with a register; an undefined index faults with 0x06; CORE is read only. -/
theorem test_csr : ends (exec (.csrWrite (.cc 0) 9 1 12) ops) (fun t => t.get (CSR.SCR.DATA 0 0) == 0xFFFFFFFF && (t.core 0).bank.s[9] == 0) = true ∧
    (cellsOf regsCsr 0x100 31 0).isNone = true ∧ faults0 (.csrRead (.cc 0) 9 31) ops 6 = true ∧
    (cellsOf regsCsr 0x100 0 0).isSome = true ∧ ends0 (.csrRead (.cc 0) 9 0) ops (fun b => b.s[9] == 0) = true := by decide +kernel

/-- R198: entry into the fault handler; R199: a fault in a handler stops the core with code 0x0C. -/
theorem test_fault_entry : ops.inHandler 0 = false ∧ ops.on SYS.FAULT.VALID = false ∧
    ends (.next (ops.trap (.cc 0) ⟨0x04, 0xFF, some 0x1234⟩)) (fun t => t.get (CSR.EPC.PC 0) == 0x10400000 &&
      t.get (CSR.FADDR.ADDR 0) == 0x1234 && t.get SYS.FAULT.CODE == 4 && t.get SYS.FAULT.WHO == 8) = true ∧
    (core0 Bank.zero handling).inHandler 0 = true ∧
    ends (.next ((core0 Bank.zero handling).trap (.cc 0) ⟨0x04, 0xFF, none⟩)) (fun t => (t.core 0).halted &&
      t.get SYS.FAULT.CODE == 0x0C && t.bit (IRQ.SPEND.PEND 1) 10) = true := by decide +kernel

/-- R201, R202, R244: a lane's fault in a grain program, with a pitch program waiting, and in a slice; the slot bound to the
lane is marked faulted. -/
theorem test_fault_of_lane :
    ends (.next (({ at1000 [] with force := [(NRG.BIND.OWNER 5, 2)] }.setLane 2 { Lane.zero with
      cur := some .grain, imgP := some [], pitchDue := true, wq := [⟨1, 1, .write, 0⟩] }).trap (.lane 2) ⟨0x04, 0xFF, none⟩))
      (fun t => t.slots[(5 : Fin 72)].faulted && !t.slots[(6 : Fin 72)].faulted && (t.lane 2).wq == [] && (t.lane 2).cur == some .pitch &&
      t.get SYS.FAULT.WHO == 2) = true ∧
    ends (.next (((at1000 []).setLane 2 { Lane.zero with cur := some .pitch, pitchOn := true }).trap (.lane 2) ⟨0x04, 0xFF, none⟩))
      (fun t => (t.lane 2).cur == none && !(t.lane 2).pitchOn) = true := by decide +kernel

/-- Core 0 with s1 = a and control SRAM holding 1, 2, 3, ... at 0x10400100. -/
def mems (a : Word) : State := (core0 (scalars [(1, a)]) (at1000 [])).setBytes 0x10400100 [1, 2, 3, 4, 5, 6, 7, 8, 9, 10, 11, 12, 13, 14, 15, 16]

/-- R183, R210: little-endian loads; a store to the last word of control SRAM; the checks 0x03, 0x04, 0x05, 0x0A in order. -/
theorem test_loads_stores : ends0 (.ld (.cc 0) 9 1 4 false) (mems 0x10400100) (fun b => b.s[9] == 0x08070605#32) = true ∧
    ends0 (.vld (.cc 0) 9 1 0 false) (mems 0x10400100) (fun b => b.v[9] == vec4 0x04030201 0x08070605 0x0C0B0A09 0x100F0E0D) = true ∧
    ends (exec (.st (.cc 0) 1 1 0) (mems 0x1057FFFC)) (fun t => t.byte 0x1057FFFF == 0x10#8 && t.byte 0x1057FFFC == 0xFC#8) = true ∧
    ends (exec (.vst (.cc 0) 0 1 0) (mems 0x10400100)) (fun t => t.byte 0x1040010F == 0#8 && t.byte 0x104000FF == 0#8) = true ∧
    faults0 (.ld (.cc 0) 9 1 1 true) (mems 0x10400100) 3 = true ∧ faults0 (.vld (.cc 0) 9 1 4 true) (mems 0x10400100) 3 = true ∧
    faults0 (.st (.cc 0) 9 1 0) (mems 0x80000) 4 = true ∧ faults0 (.ld (.cc 0) 9 1 0 true) (mems 0x103FFFFC) 5 = true ∧
    faults0 (.ld (.cc 0) 9 1 0 true) (mems 0x10400100) 0x0A = true := by decide +kernel

/-- The witnesses of LoadsAndStores: a core's address in control SRAM, and a lane's in its own memory and in the table. -/
theorem test_can_access : Claims.CanAccess (mems 0) (.cc 0) false 0x103FFFFC 4 ∧ Claims.RingShut (mems 0) (.cc 0) 0x103FFFFC ∧
    Claims.CanAccess (mems 0) (.cc 0) true 0x1078903C 4 ∧ ¬ Claims.CanAccess (mems 0) (.cc 0) true 0x1078A000 4 ∧
    Claims.CanAccess (mems 0) (.lane 2) true 0x2FFFC 4 ∧ Claims.CanAccess (mems 0) (.lane 2) false 0x4FFFC 4 ∧
    ¬ Claims.CanAccess (mems 0) (.lane 2) true 0x4FFFC 4 ∧ ¬ Claims.RingShut (mems 0) (.lane 2) 0x103FFFFC := by
  refine ⟨?_, ⟨⟨0, rfl⟩, ?_⟩, ?_, ?_, ?_, ?_, ?_, ?_⟩
  all_goals first | (unfold Claims.CanAccess; decide) | decide | (rintro ⟨⟨c, h⟩, -⟩; cases h)

/-- Lane 2 with samples in its grain stream: ch 0 good, ch 1 marked, ch 2 invalid, ch 3 good. -/
def takes : State :=
  let s := lane2 (scalars [(1, 1), (2, 2)]) (at1000 [])
  { s with streams := { s.streams with now := [⟨5, 0, false⟩, ⟨6, 1, false⟩, ⟨7, 1, true⟩, ⟨8, 0, false⟩], prev := [⟨9, 0, false⟩] } }

/-- Lane 2 after a command. -/
def endsL (c : Instr) (s : State) (p : Bank → Bool) : Bool := ends (exec c s) (fun t => p (t.lane 2).g.bank)

/-- R220: takes across channels and along an index; an invalid element reads 0 and sets INV, a marked one MRK; index 2 faults. -/
theorem test_takes : endsL (.stvc (.lane 2) 9 0 .grain 0 0) takes (fun b => b.v[9] == vec4 5 6 0 8 && b.fl == 0x6000#32) = true ∧
    endsL (.stg (.lane 2) 9 0 .grain 0 1) takes (fun b => b.s[9] == 9 && b.fl == 0#32) = true ∧
    ends (exec (.stg (.lane 2) 9 0 .grain 0 2) takes) (fun t => t.get SYS.FAULT.CODE == 8) = true ∧
    endsL (.stvi (.lane 2) 9 0 .pitch 508 0) takes (fun b => b.fl == 0x2000#32) = true ∧
    ends (exec (.stvi (.lane 2) 9 0 .pitch 508 1) takes) (fun t => t.get SYS.FAULT.CODE == 8) = true ∧
    ends (exec (.stvi (.lane 2) 9 0 .grain 0 0) takes) (fun t => t.get SYS.FAULT.CODE == 8) = true := by decide +kernel

/-- R221: a slot not bound gives 1, another's 2; the lane's own takes the value and clears the accumulator. -/
theorem test_jacc : takes.eff (NRG.BIND.OWNER 63) = 0xF ∧ endsL (.jacc (.lane 2) 9 0 63) takes (fun b => b.s[9] == 1) = true ∧
    endsL (.jacc (.lane 2) 9 0 63) { takes with force := [(NRG.BIND.OWNER 63, 5)] } (fun b => b.s[9] == 2) = true ∧
    ends (exec (.jacc (.lane 2) 9 0 63) (({ takes with force := [(NRG.BIND.OWNER 63, 2)] }).setLane 2 { takes.lane 2 with
      g := { (takes.lane 2).g with bank := { Bank.zero with acc := Bank.zero.acc.set 0 77 } } }))
      (fun t => (t.lane 2).incs == [⟨63, 77, false, false⟩] && (t.lane 2).g.bank.acc[0] == 0#96) = true := by decide +kernel

/-- R219: an absent unit 0x0E, an undefined index 0x0D, a lease not held 0x05, a level too low 0x09, in this order. -/
theorem test_unit_faults : ops.part.hasUnit 0x50 = false ∧ faults0 (.ur (.cc 0) 9 0x50 0 0) ops 0x0E = true ∧
    faults0 (.ur (.cc 0) 9 0x01 0xFF 0) ops 0x0D = true ∧ faults0 (.uw (.cc 0) 9 0x34 0 0) ops 5 = true ∧
    faults0 (.uw (.cc 0) 9 0x3C 0x05 0) (core0 Bank.zero (at1000 [(ACCESS.LEVEL.PLOCK, 1)])) 9 = true := by decide +kernel

/-- R191, R195: USET and UCLR of a register; a lane of the pair queues its write. -/
theorem test_unit_writes : Claims.ServedAlone ops (.cc 0) ∧
    ends (exec (.uset (.cc 0) 5 0x01 3 0) (core0 (scalars [(5, 1)]) (at1000 [(TIME.CTRL.PPSEN, 1)]))) (fun t => t.on TIME.CTRL.PPSEN) = true ∧
    ends0 (.ur (.cc 0) 9 0x01 0 0) ops (fun b => b.s[9] == 1000) = true ∧
    ops.roped 0 = true ∧ ends (exec (.uw (.lane 0) 5 0x01 3 0) (ops.setLane 0 { Lane.zero with cur := some .grain }))
      (fun t => (t.lane 0).wq == [⟨1, 3, .write, 0⟩] && t.flds == ops.flds) = true := by
  refine ⟨fun n h => (by cases h), ?_⟩; decide +kernel

/-- R195: what lane 0 reads first is left for lane 1, which takes it without another access. -/
theorem test_pair_served : ops.inPair 0 = true ∧ ops.standIn 0 = false ∧ 5 ≤ (ops.set SYS.LANE.STBY 7).get SYS.LANE.STBY ∧
    ends (exec (.ur (.lane 0) 9 0x01 0 0) (((ops.set SYS.LANE.STBY 7).setLane 0 { Lane.zero with cur := some .grain })))
      (fun t => (t.lane 1).inbox == [1000#32] && (t.lane 0).g.bank.s[9] == 1000) = true ∧
    ends (exec (.ur (.lane 1) 9 0x01 0 0) (ops.setLane 1 { Lane.zero with cur := some .grain, inbox := [7, 8] }))
      (fun t => (t.lane 1).inbox == [8#32] && (t.lane 1).g.bank.s[9] == 7) = true := by decide +kernel

/-- The result of an instruction of core 0 in s9. -/
def gives0 (c : Instr) (s : State) (v : Word) : Bool := ends0 c s (fun b => b.s[9] == v)

/-- Core 0 with lease 2 in a state, in a holder's hands. -/
def leased (fs : List (Fld × Nat)) : State := core0 Bank.zero (at1000 fs)

/-- R222, R256–R258: a free lease is taken for a term, one in rollback is not, one's own is renewed unless the supervisor
waits, another's is refused; a release by one who lost it says so. -/
theorem test_leases : gives0 (.leaseTake (.cc 0) 9 2) (leased []) 0 = true ∧
    ends (exec (.leaseTake (.cc 0) 9 2) (leased [])) (fun t => t.get (LEASE.HOLD.STATE 2) == 1 && t.get (LEASE.HOLD.HOLDER 2) == 8) = true ∧
    gives0 (.leaseQuery (.cc 0) 9 2) (leased [(LEASE.HOLD.STATE 2, 2)]) 3 = true ∧
    gives0 (.leaseRenew (.cc 0) 9 2) (leased [(LEASE.HOLD.STATE 2, 1), (LEASE.HOLD.HOLDER 2, 8)]) 0 = true ∧
    gives0 (.leaseRenew (.cc 0) 9 2) (leased [(LEASE.HOLD.STATE 2, 1), (LEASE.HOLD.HOLDER 2, 8), (LEASE.HOLD.SUPWAIT 2, 1)]) 4 = true ∧
    gives0 (.leaseTake (.cc 0) 9 2) (leased [(LEASE.HOLD.STATE 2, 1), (LEASE.HOLD.HOLDER 2, 9)]) 1 = true ∧
    gives0 (.leaseRelease (.cc 0) 9 2) (leased []) 2 = true ∧
    gives0 (.leaseRelease (.cc 0) 9 2) { leased [] with leases := Vector.replicate 12 ⟨0, 0, [8]⟩ } 3 = true ∧
    (leased []).part.hasUnit (leaseUnit 3) = true := by decide +kernel

/-- R222: a lease on the modem of a part without it raises fault 0x0E. -/
theorem test_lease_absent : faults0 (.leaseQuery (.cc 0) 9 3) { leased [] with part := { (leased []).part with optL := false } } 0x0E = true := by
  decide +kernel

/-- Core 0 asks for a draw and a hold. -/
def asks (draw hold : Word) (s : State) : State := core0 (scalars [(1, draw), (2, hold)]) s

/-- Every permit slot but slot 3 is taken. -/
def oneSlot : List (Fld × Nat) := ((List.range 16).filter (· != 3)).map (fun n => (PERMIT.SLOT.STATE n, 2))

/-- R497: at most 1050 units can be drawn of the 2000; the codes of PERMIT in their order. -/
theorem test_permits : gives0 (.permit (.cc 0) 9 1 2 1 true) (asks 0 5 (at1000 [])) 6 = true ∧
    gives0 (.permit (.cc 0) 9 1 2 1 true) (asks 1051 5 (at1000 [])) 2 = true ∧
    gives0 (.permit (.cc 0) 9 1 2 1 true) (asks 1050 960001 (at1000 [])) 3 = true ∧
    gives0 (.permit (.cc 0) 9 1 2 1 true) (asks 1050 960000 (at1000 oneSlot)) 768 = true ∧
    gives0 (.permit (.cc 0) 9 1 2 1 true) (asks 5 5 (at1000 [(PERMIT.STATUS.FROZEN, 1)])) 4 = true ∧
    gives0 (.permit (.cc 0) 9 1 2 1 false) (asks 5 5 (at1000 ((PERMIT.STATUS.FROZEN, 1) :: oneSlot))) 769 = true ∧
    gives0 (.permit (.cc 0) 9 1 2 1 false) (asks 5 5 (at1000 ((List.range 16).map (fun n => (PERMIT.SLOT.STATE n, 2))))) 5 = true := by
  decide +kernel

/-- Core 0 with a cue entry in v1. -/
def cued (e : Vec) : State := core0 { Bank.zero with v := Bank.zero.v.set 1 e } (at1000 [])

/-- R86, R87: a launch for grain 1001 is queued; one for grain 1000 is late, an unknown action bad, an absent unit a fault. -/
theorem test_cues : ends (exec (.cue (.cc 0) 9 1) (cued (vec4 1001 0 0x00040001 63))) (fun t => t.cues == [⟨1001, 1, 0, 4, 0, 63, 8⟩]) = true ∧
    gives0 (.cue (.cc 0) 9 1) (cued (vec4 1000 0 0x00040001 63)) 1 = true ∧
    ends (exec (.cue (.cc 0) 9 1) (cued (vec4 1001 0 0x00040001 64))) (fun t => t.get TIME.CUEREF.COUNT == 1 && (t.core 0).bank.s[9] == 3) = true ∧
    faults0 (.cue (.cc 0) 9 1) (cued (vec4 1001 0 0x00010050 0)) 0x0E = true ∧
    gives0 (.cue (.cc 0) 9 1) { cued (vec4 1001 0 0x00040001 63) with cues := List.replicate 256 ⟨1001, 1, 0, 4, 0, 0, 8⟩ } 2 = true := by
  decide +kernel

/-- A grain image whose declarations say that it writes TIME. -/
def img : List Byte := zeros 12 ++ [2, 0] ++ zeros 50 ++ [1] ++ zeros 15 ++ [3, 0, 0, 0, 96, 0, 0, 0, 8, 0, 0, 0] ++ zeros 4 ++
  [1, 1, 2, 0, 0, 0, 0, 0]

/-- R94, R224: a lane's cue needs a declaration of its unit; with it an early one waits in the queue, a late one is refused. -/
theorem test_lane_cue : (lane2 Bank.zero (at1000 [])).Executes (.lane 2) 1 ∧ imgUnit img 1 = 2 ∧
    endsL (.cue (.lane 2) 9 0) (lane2 { Bank.zero with v := Bank.zero.v.set 0 (vec4 1001 0 0x00040001 63) } (at1000 [])) (fun b => b.s[9] == 3) = true ∧
    (let s := (at1000 []).setLane 2 { Lane.zero with cur := some .grain, imgG := some img
                                                     g := ⟨{ Bank.zero with v := Bank.zero.v.set 0 (vec4 1001 0 0x00040001 63) }, 0, []⟩ }
     ends (exec (.cue (.lane 2) 9 0) s) (fun t => (t.lane 2).cueq.length == 1 && (t.lane 2).g.bank.s[9] == 0) &&
     endsL (.cue (.lane 2) 9 0) { s with clock := { s.clock with grain := 1001 } } (fun b => b.s[9] == 1)) = true := by
  unfold State.Executes; decide +kernel

/-- R225: MEXT's checks: alignment, place, and MEAS0 only from the ROM. -/
theorem test_mext : faults0 (.mext (.cc 0) 1 1) (core0 (scalars [(1, 2)]) (at1000 [])) 3 = true ∧
    faults0 (.mext (.cc 0) 1 1) (core0 (scalars [(1, 0x7FFE4)]) (at1000 [])) 4 = true ∧
    faults0 (.mext (.cc 0) 0 1) (core0 (scalars [(1, 0x7FFE0)]) (at1000 [])) 9 = true ∧
    (core0 Bank.zero (at1000 [])).Executes (.cc 0) 80 := by
  unfold State.Executes; decide +kernel

/-- R226: BSWAP to bank B of channels 0 to 23 orders the swap; a lane of the pair queues it. -/
theorem test_bswap : ends (exec (.bswap (.cc 0) 1 true) (core0 (scalars [(1, 0xFFFFFFFF)]) (at1000 []))) (fun t => t.streams.swap == some (0xFFFFFF, 1)) = true ∧
    ends (exec (.bswap (.lane 0) 1 false) ((at1000 []).setLane 0 { Lane.zero with cur := some .grain })) (fun t =>
      (t.lane 0).wq == [⟨0x18, 1, .write, 0⟩]) = true := by decide +kernel

/-- R228, R253, R254: END of a lane's grain program, of a service program, of a cue program with another queued or a saved one. -/
theorem test_end : ends (exec (.endRun (.lane 2)) (lane2 Bank.zero (at1000 []))) (fun t => (t.lane 2).cur == none) = true ∧
    ends (exec (.endRun (.cc 0)) ops) (fun t => (t.core 0).run == .idle && (t.core 0).waiting) = true ∧
    ends (exec (.endRun (.cc 0)) (ops.setCore 0 { ops.core 0 with run := .cueProg 1, launch := [2] })) (fun t =>
      (t.core 0).run == .cueProg 2 && (t.core 0).bank.s[1] == 1000 && (t.core 0).bank.s[2] == 2) = true ∧
    ends (exec (.endRun (.cc 0)) (ops.setCore 0 { ops.core 0 with run := .cueProg 1, saved := some ⟨Bank.zero, Vector.replicate 16 0, 0x10400200, [], true⟩ }))
      (fun t => (t.core 0).run == .service && (t.core 0).pc == 0x10400200#32 && (t.core 0).waiting) = true ∧
    ends (exec (.endRun (.cc 0)) (ops.setCore 0 { ops.core 0 with newSvc := some 0x10400300 })) (fun t =>
      (t.core 0).run == .service && (t.core 0).pc == 0x10400300#32) = true ∧
    ends (exec (.endRun (.cc 0)) (core0 Bank.zero handling)) (fun t => (t.core 0).halted) = true := by decide +kernel
/-! ## Time, the chain link, interrupts -/

/-- The reference came back in grain 1000 and has run for 4096 grains, or one less. -/
def returned (g : Nat) : State :=
  let s := inGrain g (at1000 [(SYS.STATUS.CLKDEG, 1)])
  { s with clock := { s.clock with xtalOk := false, lostAt := 1000 } }

/-- R26: the crystal monitor raises 0x3E once, and CLKDEG clears after 4096 grains; R42: the fault record is cleared. -/
theorem test_clock_monitors : (at1000 []).power = .on ∧
    ends (exec .xtalRefLost (at1000 [])) (fun t => t.on SYS.STATUS.CLKDEG && t.bit (IRQ.SPEND.PEND 1) 14 && !t.clock.xtalOk) = true ∧
    ends (exec .xtalRefReturn (returned 5096)) (fun t => !t.on SYS.STATUS.CLKDEG && t.get (IRQ.SCNT.COUNT 0x3E) == 1) = true ∧
    idles .xtalRefReturn (returned 5095) = true ∧
    ends (exec .slowCrystalFail (at1000 [])) (fun t => t.on SYS.STATUS.SLOWDEG && t.bit (IRQ.SPEND.PEND 1) 14) = true ∧
    ends (exec .sysFaultClear (at1000 [(SYS.FAULT.VALID, 1), (SYS.FAULT.CODE, 9)])) (fun t => !t.on SYS.FAULT.VALID && t.get SYS.FAULT.CODE == 9) = true := by
  decide +kernel

/-- Two SLOW cycles and 40 CORE cycles past the edge 8192, in grain 1000 at phase 100. -/
def tied : State :=
  let s := at1000 []
  { s with clock := { s.clock with rtc := 8194, slowPh := 40, phase := 100, tie := some ⟨4096, 7, 0⟩ } }

/-- R72: the tie is 12,540 CORE cycles back: grain 998, phase 360. -/
theorem test_tie : tied.clock.pllLock = true ∧ tied.clock.tie.map Tie.rtc ≠ some (tied.clock.rtc - tied.clock.rtc % 4096) ∧
    ends (exec .tieRecord tied) (fun t => t.clock.tie == some ⟨8192, 998, 360⟩) = true := by decide +kernel

/-- A PPS input whose last accepted edge lies n cycles before the edge of grain 40000, phase 0. -/
def pps (n : Nat) : State :=
  let s := inGrain 40000 (at1000 [(TIME.CTRL.PPSEN, 1), (TIME.CTRL.PPSPOL, 1)])
  { s with pps := { s.pps with last := some (255999960 - n), run := 3 } }

/-- R76: the window is 3.2 grains either side, edges included; one cycle beyond is rejected; a wrong polarity is no edge, nor is
an edge on a follower. -/
theorem test_pps : (pps 204820480).isFollower = false ∧ (pps 204820480).pps.last = some 51179480 ∧
    (pps 204820480).ppsInWindow 51179480 255999960 = true ∧ (pps 204779520).ppsInWindow 51220440 255999960 = true ∧
    ends (exec (.ppsEdge false) (pps 204820481)) (fun t => t.get TIME.PPSREJ.COUNT == 1 && t.get TIME.PPSCYC.CYC == 6360 && t.pps.run == 0) = true ∧
    ends (exec (.ppsEdge false) (let s := pps 0; { s with pps := { s.pps with last := none } })) (fun t => t.get TIME.PPSCYC.CYC == 6360 &&
      t.get TIME.PPSREJ.COUNT == 0 && t.pps.last == none) = true ∧
    ends (exec (.ppsEdge false) (pps 204779519)) (fun t => t.get TIME.PPSREJ.COUNT == 1) = true ∧
    idles (.ppsEdge true) (pps 204800000) = true ∧
    idles (.ppsEdge false) (inGrain 40000 (at1000 [(TIME.CTRL.PPSEN, 1), (TIME.CTRL.PPSPOL, 1), (CHAIN.STATUS.STATE, 1)])) = true := by
  decide +kernel

/-- R77: the edge is missed 204,820,481 cycles and 40 after the last; the fourth loses the lock. -/
theorem test_pps_missed :
    ends (exec .ppsEdgeMissed (pps 204820441)) (fun t => t.pps.missed == 1 && t.pps.run == 0) = true ∧
    (let s := inGrain 200000 (pps 0)
     ends (exec .ppsEdgeMissed { s with pps := { s.pps with missed := 3 } }) (fun t => t.on TIME.UTCSTAT.PPSLOST && t.pps.last == none &&
       t.bit (IRQ.SPEND.PEND 0) 5)) = true := by decide +kernel

/-- The tracker in TRACK, its last qualifying crossing at grain 300, the period before it 600 grains. -/
def track (fs : List (Fld × Nat)) : State :=
  let s := at1000 ((TIME.TRK.STATE, 1) :: (TIME.TRK.QUAL, 9) :: fs)
  { s with tracker := { s.tracker with lastQ := 300 * 2 ^ 32, lastPer := 600 * 2 ^ 32, prevPer := some (600 * 2 ^ 32), prevX := some (300 * 2 ^ 32),
                                       lastMet := some (300 * 2 ^ 32), lastStart := some (300 * 2 ^ 32), running := [] } }

/-- R81: an amplitude of 1 % and a period 5 % longer qualify; a little less, or longer, does not. -/
theorem test_crossings :
    ends (exec (.zeroCrossing (930 * 2 ^ 32) 21474837) (track [])) (fun t => t.get TIME.TRK.QUAL == 10 && t.tracker.lastPer == 630 * 2 ^ 32 &&
      t.tracker.running.length == 1) = true ∧
    ends (exec (.zeroCrossing (930 * 2 ^ 32) 21474836) (track [])) (fun t => t.get TIME.TRK.QUAL == 0 && t.get TIME.TRK.STATE == 1) = true ∧
    ends (exec (.zeroCrossing (930 * 2 ^ 32 + 1) 21474837) (track [])) (fun t => t.get TIME.TRK.QUAL == 0) = true ∧
    ends (exec (.zeroCrossing (930 * 2 ^ 32) 21474837) (track [(TIME.TRK.STATE, 0), (TIME.TRK.QUAL, 7)])) (fun t =>
      t.get TIME.TRK.STATE == 1 && t.get TIME.TRK.QUAL == 8) = true := by decide +kernel

/-- R81: CTRL.HOLD, or a deadline 1.5 periods after the last crossing, ends in HOLD; R83: a 10-minute boundary. -/
theorem test_tracker_ends : ends (exec .trackerTimeout (track [(TIME.TRK.STATE, 0), (TIME.CTRL.HOLD, 1)])) (fun t => t.get TIME.TRK.STATE == 2) = true ∧
    (inGrain 1200 (track [])).trackDeadline = 1200 * 2 ^ 32 ∧ idles .trackerTimeout (inGrain 1199 (track [])) = true ∧
    ends (exec .trackerTimeout (inGrain 1200 (track []))) (fun t => t.get TIME.TRK.STATE == 2 && t.get TIME.TRK.QUAL == 0) = true ∧
    (at1000 []).tenMinute = 0 ∧ (let s := at1000 []; ends (exec .intervalBoundary { s with tracker := { s.tracker with tenIdx := 5 } })
      (fun t => t.tracker.ivEnd && t.tracker.tenIdx == 0)) = true := by decide +kernel

/-- R92: a tag, or all. -/
theorem test_cue_cancel : (let s := { at1000 [] with cues := [⟨1001, 1, 0, 4, 7, 0, 8⟩, ⟨1002, 1, 0, 4, 8, 0, 8⟩] }
    ends (exec (.cueCancelTag 7) s) (fun t => t.cues.map Cue.tag == [8]) && ends (exec .cueCancelAll s) (fun t => t.cues == [])) = true := by
  decide +kernel

/-- The chain link on, in a state, grain 992. -/
def chained (state : Nat) (fs : List (Fld × Nat)) : State :=
  let s := inGrain 992 (at1000 ([(CHAIN.CTRL.EN, 1), (CHAIN.STATUS.STATE, state)] ++ fs))
  { s with chain := { s.chain with chvdd := true } }

/-- R95–R104, the leader's side. -/
theorem test_chain_leads : (chained 6 []).chainOn = true ∧ (chained 6 []).handedOver = false ∧
    ends (exec (.timecodeFrameSend false) (chained 6 [])) (fun t => t.chain.tx.length == 36 && t.chain.tx.take 4 == [0xAA, 0xAA, 0xC3, 1] &&
      t.chain.sent == some 992) = true ∧
    (let s := chained 6 []; idles (.timecodeFrameSend false) { s with chain := { s.chain with sent := some 992 } }) = true ∧
    ends (exec (.followerReplyReceive []) (chained 6 [])) (fun t => t.get CHAIN.CRCERR.COUNT == 1) = true ∧
    (let s := chained 6 [(CHAIN.MEMBERS.MEM, 128)]
     ends (exec (.replyMissed 7) { s with chain := { s.chain with miss := List.replicate 8 3 } }) (fun t => t.get CHAIN.MEMBERS.MEM == 0 &&
       t.on CHAIN.FLAGS.MEMBERLOST) &&
     ends (exec (.handoverGo 7) s) (fun t => t.chain.handover == some (7, 4)) &&
     ends (exec (.handoverGo 6) s) (fun t => t.on CHAIN.FLAGS.MEMBERLOST) &&
     ends (exec .handoverSwitch { s with chain := { s.chain with handover := some (7, 0) } }) (fun t => t.get CHAIN.STATUS.STATE == 1) &&
     ends (exec .leaderListenEnd { s with chain := { s.chain with listenUntil := some 992 } }) (fun t => t.get CHAIN.STATUS.STATE == 6)) = true := by
  decide +kernel

/-- R99–R106, the follower's side: the end of silence, an heir's takeover, a hand-over to it, replies, loss and a step. -/
theorem test_chain_follows :
    (let s := chained 1 [(CHAIN.CTRL.HEIR, 1), (CHAIN.CTRL.POS, 3)]
     s.isFollower &&
     ends (exec .leaderSilenceEnd { s with chain := { s.chain with silentUntil := some 992 } }) (fun t => t.chain.listenUntil == some 1056) &&
     ends (exec .heirTakeover (inGrain 1024 { s with chain := { s.chain with lastFrame := 0 } })) (fun t => t.get CHAIN.STATUS.STATE == 6) &&
     ends (exec .handoverSwitch { s with chain := { s.chain with switchAt := some 992 } }) (fun t => t.get CHAIN.STATUS.STATE == 6 &&
       t.get CHAIN.STATUS.LPOS == 3) &&
     ends (exec (.timecodeFrameReceive [0xAA]) s) (fun t => t.get CHAIN.CRCERR.COUNT == 1) &&
     ends (exec .followerReplySend { s with chain := { s.chain with sync := some 0 }, clock := { s.clock with now := 14 * 6400 } })
       (fun t => t.chain.tx.length == 14 && t.chain.sync == none)) = true ∧
    (let s := chained 4 []
     ends (exec .frameLoss { s with chain := { s.chain with lastFrame := 896 } }) (fun t => t.get CHAIN.STATUS.STATE == 5 && t.on CHAIN.FLAGS.LOSS) &&
     ends (exec .chainStep { s with chain := { s.chain with stepPend := some (-2, 991) } }) (fun t => t.clock.grain == 990 &&
       t.get2 CHAIN.STEPLO.SLO CHAIN.STEPHI.SHI == 2 ^ 64 - 2)) = true := by decide +kernel

/-- A good timecode frame from position 5 in grain 64: its check is the CRC-32C of the bytes from its type on. -/
def goodFrame : List Byte :=
  let b := [1, 5, 0] ++ leBytes 8 64 ++ zeros 18
  [0xAA, 0xAA, 0xC3] ++ b ++ leBytes 4 (crc32c b)

/-- R97, R99: a good frame of a leader is counted and its position noted; the third in a row starts RANGING. -/
theorem test_good_frame : frameGood 1 36 goodFrame = true ∧ (chained 1 []).chain.silentUntil = none ∧
    ends (exec (.timecodeFrameReceive goodFrame) (chained 1 [])) (fun t => t.get CHAIN.STATUS.LPOS == 5 && t.chain.lastFrame == 992 &&
      t.get CHAIN.STATUS.STATE == 1) = true ∧
    (let s := chained 1 []; ends (exec (.timecodeFrameReceive goodFrame) { s with chain := { s.chain with good := 2, lastFrame := 960 } })
      (fun t => t.get CHAIN.STATUS.STATE == 2)) = true := by
  decide +kernel

/-- An interrupt source presented to core 0 with IE set. -/
def presented (src : Nat) (fs : List (Fld × Nat)) : State :=
  let s := core0 Bank.zero (at1000 ([(CSR.STAT.IE 0, 1), (IRQ.SPEND.PEND 0, 1), (IRQ.HOLD.HOLD 0, 2)] ++ fs))
  s.setCore 0 { s.core 0 with normal := some ⟨src, 5⟩, fast := some ⟨src, 5⟩ }

/-- R198, R411, R414: both entries; WAIT without IE goes on. -/
theorem test_entries : ends (exec (.normalEntry 0) (presented 0x10 [(CSR.VEC.BASE 0, 0x104001)])) (fun t => (t.core 0).pc == 0x10400140#32 &&
      t.get (CSR.EPC.PC 0) == 0x10400000 && t.get (CSR.ECAUSE.CODE 0) == 0x10 && t.on (CSR.STAT.INNORM 0) && t.get (IRQ.SPEND.PEND 0) == 0 &&
      t.irq.holdEnd[0] == t.clock.now + 400) = true ∧
    ends (exec (.fastEntry 0) (presented 0x10 [])) (fun t => (t.core 0).pc == 0x80#32 && t.get (CSR.FEPC.PC 0) == 0x10400000 &&
      t.on (CSR.STAT.INFAST 0)) = true ∧
    (let s := at1000 [(IRQ.SPEND.PEND 0, 1), (IRQ.SMASK.MASK 0, 0)]
     let s := s.setCore 0 { s.core 0 with run := .service, waiting := true }
     s.considered 0 0x10 && bitOf (s.tset 0 0x10) 0 && s.coreOpen 0 (s.irqFast 0 0x10) && decide ((0, 0x10) ∈ sourcesOf 0) &&
     ends (exec (.waitWake 0) s) (fun t => !(t.core 0).waiting)) = true := by decide +kernel
/-! ## Sources, boundaries, lanes, leases -/

/-- A source that is pending, open and unmasked for core 0. -/
def asking (fs : List (Fld × Nat)) : State :=
  core0 Bank.zero (at1000 ([(IRQ.SPEND.PEND 0, 3), (IRQ.SMASK.MASK 0, 0), (IRQ.SCFG.TSET 0x10, 1), (IRQ.SCFG.TSET 0x11, 1), (CSR.STAT.IE 0, 1)] ++ fs))

/-- R409, R410: the lower number is presented first, a fast source before it; the host's turn sets its bit. -/
theorem test_selection : (asking []).chosen 0 0x10 = some 0 ∧ (asking []).chosen 0 0x11 = some 0 ∧
    ends (exec .irqPresent (asking [])) (fun t => (t.core 0).normal == some ⟨0x10, 1⟩ && t.get (IRQ.CCSTAT.PRES 0) == 0x10 && (t.core 0).fast == none) = true ∧
    ends (exec .irqPresent (asking [(IRQ.SCFG.CLASS 0x11, 1)])) (fun t => (t.core 0).fast == some ⟨0x11, 1⟩) = true ∧
    (asking [(IRQ.SCFG.TSET 0x10, 4), (IRQ.GCTL.TEN, 7)]).chosen 0 0x10 = some 2 ∧
    ends (exec .irqPresent (asking [(IRQ.SCFG.TSET 0x10, 4), (IRQ.GCTL.TEN, 7)])) (fun t => t.get (IRQ.HPEND.PEND 0) == 1 && t.irq.host == [⟨0x10, 1⟩]) = true := by
  decide +kernel

/-- R404, R405, R407, R414: a software source, the timer and its arrival, a count read, a hold-off that ends. -/
theorem test_sources : ends (exec (.swsetWrite 1 0x80) (at1000 [])) (fun t => t.get (IRQ.PPEND.PEND 1) == 0x80 && t.get (IRQ.SCNT.COUNT 0x117) == 1) = true ∧
    ends (exec (.irqTimerWrite 0 0x10000) (at1000 [])) (fun t => t.get (IRQ.TMR.PERIOD 0) == 1 && t.irq.timerDue[0] == some 1002) = true ∧
    ends (exec (.irqTimerWrite 0 0) (at1000 [(IRQ.TMR.EN 0, 1)])) (fun t => t.irq.timerDue[0] == none) = true ∧
    (let s := at1000 [(IRQ.TMR.PERIOD 0, 7), (IRQ.SCNT.COUNT 0x20, 9), (IRQ.SEL.SRC 5, 0x20)]
     ends (exec (.coreTimerExpiry 0) { s with irq := { s.irq with timerDue := Vector.replicate 2 (some 1000) } }) (fun t =>
       t.irq.timerDue[0] == some 1007 && t.bit (IRQ.PPEND.PEND 0) 8) &&
     ends (exec (.scntRead (.cc 0)) s) (fun t => t.readData == 9#32 && t.get (IRQ.SCNT.COUNT 0x20) == 0) &&
     ends (exec (.holdoffEnd 7) { s with irq := { s.irq with holdEnd := Vector.replicate 8 0 } }) (fun t => t.irq.holdEnd[7] == 0)) = true := by
  decide +kernel

/-- R412, R413: a presentation of cycle P is withdrawn by a mask from P + 4 on, by a cleared pending bit at once; an index that
the row does not cover is refused. -/
theorem test_withdrawal :
    (let s := presented 0x10 []
     let late := { s with clock := { s.clock with now := 9 } }
     ends (exec (.irqMaskWrite 0x14 1) late) (fun t => (t.core 0).normal == none && t.get (IRQ.SMASK.MASK 0) == 1) &&
     ends (exec (.irqMaskWrite 0x14 1) { s with clock := { s.clock with now := 8 } }) (fun t => (t.core 0).normal != none) &&
     ends (exec (.irqMaskWrite 0x14 0xFFFFFFFE) (late.set (IRQ.GCTL.TEN) 7)) (fun t => (t.core 0).normal != none) &&
     ends (exec (.irqPendClear 0x10 1) s) (fun t => (t.core 0).normal == none) && ends (exec (.irqMaskWrite 0x00 1) s) (fun t => t.on IRQ.GCTL.GDIS)) = true := by
  decide +kernel

/-- R407: the mask and pending writes take six and five indices. -/
theorem test_mask_index : exec (.irqMaskWrite 0x13 1) (at1000 []) = .refused .illFormed ∧ exec (.irqPendClear 0x13 1) (at1000 []) = .refused .illFormed := ⟨rfl, rfl⟩

/-- Line 1 with raw and filtered levels, the raw one unchanged for 3 SLOW cycles. -/
def lined (raw filt unc : Bool) (edge : Nat) : State :=
  let s := at1000 [(IRQ.XCFG.EDGE 1, edge), (IRQ.XCFG.FLT 1, 3)]
  { s with clock := { s.clock with rtc := 10 }, irq := { s.irq with lines := s.irq.lines.set 1 ⟨raw, filt, 7, unc⟩ } }

/-- R416, R417: the filter follows after FLT cycles and interrupts on a named edge; a short pulse is latched and is a glitch. -/
theorem test_lines : ends (exec (.lineLevelChange 1) (lined true false false 1)) (fun t => t.irq.lines[1].filt && t.bit (IRQ.SPEND.PEND 2) 17) = true ∧
    ends (exec (.lineLevelChange 1) (lined true false false 0)) (fun t => t.irq.lines[1].filt && t.get (IRQ.SPEND.PEND 2) == 0) = true ∧
    ends (exec (.lineEdgeLatch 1 true) (lined false false false 1)) (fun t => t.bit IRQ.XSTAT.LATCH 1 && t.get IRQ.XSTAT.GLITCH == 0 && t.irq.lines[1].raw) = true ∧
    ends (exec (.lineEdgeLatch 1 false) (lined true false true 1)) (fun t => t.get IRQ.XSTAT.LATCH == 0 && t.bit IRQ.XSTAT.GLITCH 1) = true ∧
    ends (exec (.lineEdgeLatch 1 false) (lined true false false 2)) (fun t => t.bit IRQ.XSTAT.LATCH 1 && t.bit IRQ.XSTAT.GLITCH 1) = true := by
  decide +kernel

/-- A pitch of 640 grains that completes at boundary 1000. -/
def pitch0 : Pitch := ⟨300 * 2 ^ 32, 640 * 2 ^ 22, false, 0, 1000, 0⟩

/-- Witnesses of GrainsPitchesBlocks, with a pitch that completes, a block that ends and an absence that waits for it. -/
theorem test_boundaries : (at1000 []).power = .on ∧ (at1000 []).clock.pllLock = true ∧
    [pitch0].find? (fun p => decide (p.done ≤ 1000)) = some pitch0 ∧
    (let s := at1000 [(TRIM.DCTL.FREEZE, 1)]
     ends (exec (.blockBoundary 3250) { s with tracker := { s.tracker with blockDue := true }, pwr := { s.pwr with absence := true } }) (fun t =>
       !t.tracker.blockDue && t.cues == [] && !t.pwr.absence)) = true := by decide +kernel

/-- Lane 2 in service with a set placed, due in this grain. -/
def placed (l : Lane) : State := (at1000 []).setLane 2 { l with prot := [(0, 4)] }

/-- R244, R230: a grain program starts at its entry with fl clear; a slice goes on where it was. -/
theorem test_lane_start : (placed { Lane.zero with imgG := some img }).laneDue 2 = true ∧
    ends (exec (.grainProgramStart 2) (placed { Lane.zero with imgG := some img, g := ⟨{ Bank.zero with fl := 0xFF }, 9, []⟩ })) (fun t =>
      (t.lane 2).cur == some .grain && (t.lane 2).g.pc == 0#32 && (t.lane 2).g.bank.fl == 0#32 && t.clock.phase == 384) = true ∧
    (placed { Lane.zero with imgP := some img, pitchOn := true }).laneDue 2 = true ∧
    ends (exec (.grainProgramStart 2) (placed { Lane.zero with imgP := some img, pitchOn := true, p := ⟨Bank.zero, 9, []⟩ })) (fun t =>
      (t.lane 2).cur == some .pitch && (t.lane 2).p.pc == 9#32) = true := by decide +kernel

/-- A grain in which lane 0 ended a run and lane 1 and lane 4, the standby, ended none. -/
def disputed (recomputing : Bool) : State :=
  let s := at1000 []
  let l := fun r : List RunRec => { Lane.zero with imgG := some img, prot := [(0, 4)], runs := r }
  let s := ((s.setLane 0 (l [⟨.grain, [], 4, none⟩])).setLane 1 (l [])).setLane 4 (l [])
  { s with rope := { s.rope with recomputing := recomputing, voted := false } }

/-- R247, R250, R251: a disagreement is recomputed by the standby, whose side stays; it takes the loser's place, and the loser is
the standby that is rebuilt. -/
theorem test_vote : (disputed false).standby = some 4 ∧ (disputed false).pairDisagrees = true ∧ (disputed false).on LEASE.ROPE.SOLO = false ∧
    ((disputed false).lane 4).ready = true ∧
    ends (exec .standbyRecompute (disputed false)) (fun t => t.rope.recomputing && t.clock.phase == 3340 && (t.lane 4).cur == some .grain) = true ∧
    runsAgree ((disputed true).lane 4).runs ((disputed true).lane 0).runs = false ∧
    runsAgree ((disputed true).lane 4).runs ((disputed true).lane 1).runs = true ∧
    ends (exec .voteTail (disputed true)) (fun t => t.rope.roles == some (1, 4, 0) && t.on LEASE.ROPE.REBUILD && t.rope.copyAt == some 1257) = true ∧
    (let t := ({ disputed true with rope := { (disputed true).rope with roles := some (1, 4, 0) } } : State).rolesTake
     t.get LEASE.ROPE.FIRST = 1 ∧ t.get LEASE.ROPE.SECOND = 4 ∧ t.get SYS.LANE.STBY = 0 ∧ t.rope.roles = none) := by decide +kernel

/-- R251, R252: the rebuild ends 768 grains after the copy began; sections are protected; a lane's failure is decided twice and
its retirement committed; R253: a cue program starts over a service program. -/
theorem test_lane_events :
    (let s := at1000 [(LEASE.ROPE.REBUILD, 1), (LEASE.ROPE.NOSTBY, 1), (LEASE.HOLD.STATE 3, 1), (LEASE.HOLD.HOLDER 3, 2)]
     ends (exec .standbyRebuildEnd { s with rope := { s.rope with copyAt := some 232 } }) (fun t => !t.on LEASE.ROPE.REBUILD && t.rope.copyAt == none) &&
     ends (exec (.installSectionsDone 2) (s.setLane 2 { Lane.zero with imgG := some img, startAt := 1000 })) (fun t =>
       (t.lane 2).prot == codeRanges (some img) none) &&
     ends (exec .laneRetireCommit { s with retiring := [.lane 2] }) (fun t => t.get SYS.LANE.INSVC == 0x1B && t.get (LEASE.HOLD.STATE 3) == 2 &&
       t.bit (IRQ.SPEND.PEND 1) 9 && t.retiring == []) &&
     bitOf (s.get SYS.LANE.INSVC) 2 && !s.retiringLane 2 && !s.portHeld) = true ∧
    (let s := ops.setCore 0 { ops.core 0 with launch := [5] }
     ends (exec (.cueProgramStart 0) s) (fun t => (t.core 0).run == .cueProg 5 && (t.core 0).saved != none && (t.core 0).bank.s[1] == 1000)) = true := by
  decide +kernel

/-- The witness for the decision to retire lane 2: no path of the model fixes when the second comes. -/
theorem test_lane_selftest : ∃ t, exec (.laneSelftestFail 2) (at1000 []) = .next t ∧ t.second.length = 1 := ⟨_, rfl, rfl⟩

/-- A lease of core 1 with its state. -/
def lease5 (st expires rollAt : Nat) (sup : Nat) : State :=
  let s := at1000 [(LEASE.HOLD.STATE 2, st), (LEASE.HOLD.HOLDER 2, 9), (LEASE.HOLD.SUPWAIT 2, sup)]
  { s with clock := { s.clock with now := 5000 }, leases := Vector.replicate 12 ⟨expires, rollAt, []⟩ }

/-- R257, R258, R509: expiry at the cycle itself, the end of a rollback with and without the supervisor, one overdue. -/
theorem test_lease_events : ends (exec (.leaseExpiry 2) (lease5 1 5000 0 0)) (fun t => t.get (LEASE.HOLD.STATE 2) == 2 && t.get LEASE.LASTREV.HOLDER == 9 &&
      t.get SYS.FAULT.CODE == 0x21 && t.get SYS.FAULT.UNIT == leaseUnit 2) = true ∧
    idles (.leaseExpiry 2) (lease5 1 5001 0 0) = true ∧
    ends (exec (.leaseRollbackDone 2) (lease5 2 0 4000 0)) (fun t => t.get (LEASE.HOLD.STATE 2) == 0 && t.get (LEASE.HOLD.HOLDER 2) == 0xFF) = true ∧
    ends (exec (.leaseRollbackDone 2) (lease5 2 0 4000 1)) (fun t => t.get (LEASE.HOLD.STATE 2) == 1 && t.get (LEASE.HOLD.HOLDER 2) == 0x10) = true ∧
    ((lease5 2 0 (5000 - 2 * (lease5 2 0 0 0).rollBound 2) 0).leases[2].rollAt + 2 * (lease5 2 0 0 0).rollBound 2 ≤ 5000 ∨ 5000 < 2 * (lease5 2 0 0 0).rollBound 2) ∧
    (let s := lease5 2 0 0 0
     ends (exec (.leaseRollbackOverdue 2) { s with clock := { s.clock with now := 10 ^ 9 } }) (fun t => t.pwr.reset == some ⟨6, 1000⟩)) = true := by
  decide +kernel
/-! ## Quads, filters, energy, power quality, capture -/

/-- s with a quad changed. -/
def quad (q : Fin 4) (f : Quad → Quad) (s : State) : State := s.setQuad q (f s.quads[q])

/-- R113, R117, R126, R128, R129: overload, settling at 64 grains, the end of a dwell, Stride refused by another channel, a test
asked for twice. -/
theorem test_quads : (at1000 []).part.hasQuad 3 = true ∧
    ends (exec (.overloadTrip 3 3 2) (at1000 [])) (fun t => t.on (QUAD.CHST.OVLS 3 3)) = true ∧
    ends (exec (.spareSettled 3) (quad 3 (fun q => { q with connected := 936 }) (at1000 []))) (fun t => t.quads[3].settled) = true ∧
    ends (exec (.traverseDwellEnd 3 7) (quad 3 (fun q => { q with pos := 7, dwell := 0, dwSum := -1048576, dwN := 15625 }) (at1000 [(QUAD.STATUS.SPUSE 3, 0)]))) (fun t =>
      t.quads[3].pos == 0 && t.get (QUAD.IZERO.OFS 3) == 65531 && t.on (QUAD.IZERO.VALID 3)) = true ∧
    ends (exec (.strideRequest 3 1) (at1000 [(QUAD.MODE.STRIDE 3, 1), (QUAD.MODE.SCH 3, 2)])) (fun t => t.on (QUAD.STATUS.STRIDEREF 3) &&
      t.bit (IRQ.SPEND.PEND 0) 11) = true ∧
    ends (exec (.strideRequest 3 7) (at1000 [])) (fun t => t.on (QUAD.MODE.STRIDE 3) && t.get (QUAD.MODE.SCH 3) == 3) = true ∧
    ends (exec (.owTestGo 3) (at1000 [(QUAD.OWCTL.MASK 3, 15), (QUAD.OWRES.DONE 3 3, 1)])) (fun t => t.quads[3].owGo && !t.on (QUAD.OWRES.DONE 3 3)) = true ∧
    idles (.owTestGo 3) (quad 3 (fun q => { q with owGo := true }) (at1000 [])) = true := by decide +kernel

/-- R119, R120, R470: the second path agrees or does not, and a retirement is committed. -/
theorem test_retire :
    (let s := { at1000 [] with second := [⟨.retire (.spare 3), 0⟩] }
     ends (exec (.dualDecisionSecond true) s) (fun t => t.retiring == [.spare 3] && t.second == []) &&
     ends (exec (.dualDecisionSecond false) s) (fun t => t.on TAMP.STICKY.FI && t.bit (IRQ.SPEND.PEND 1) 18 && t.second == [])) = true ∧
    (let s := at1000 []
     ends (exec .retireCommit { s with retiring := [.spare 3] }) (fun t => t.on (QUAD.RETIRED.SPRET 3) && t.on (TRIM.CSTAT.RETIRED 35)) &&
     ends (exec .retireCommit { s with retiring := [.core 0 2 1] }) (fun t => t.bit (QUAD.RETIRED.C1RET 0) 2 && t.changeOver == [.core 0 2 1])) = true := by
  decide +kernel

/-- R142, R143: the clock lost, good for 1024 grains, a stuck channel and one out of range. -/
theorem test_bitstreams : ends (exec (.bitclkLoss 5) (at1000 [(BITIN.STATUS.CLKOK, 1)])) (fun t => !t.on BITIN.STATUS.CLKOK && t.on BITIN.STATUS.CLKLOST &&
      t.get BITIN.FMEAS.F == 5 && t.get BITIN.LOSSCNT.COUNT == 1) = true ∧
    ends (exec (.bitclkLoss 5) (at1000 [])) (fun t => t.get BITIN.LOSSCNT.COUNT == 1 && t.on BITIN.STATUS.REQUAL && t.bitMon.goodSince == 1000) = true ∧
    (let s := inGrain 2024 (at1000 [(BITIN.CTRL.EN, 128), (BITIN.RLIM.RGRAINS, 4)])
     ends (exec .bitclkRequalify { s with bitMon := { s.bitMon with goodSince := 1000 } }) (fun t => t.on BITIN.STATUS.CLKOK) &&
     ends (exec (.bitstreamStuck 7) s) (fun t => t.bit BITIN.STATUS.STUCK 7) &&
     ends (exec (.bitstreamRangeExceed 7) { s with bitMon := { s.bitMon with above := List.replicate 8 4 } }) (fun t => t.bit BITIN.STATUS.OVR 7)) = true := by
  decide +kernel

/-- R150, R155, R165, R166: orders 3 to 5, a swap, a write to an active and to an inactive bank, the coefficient window's end. -/
theorem test_filters : ends (exec (.filtCfgWrite 23 3) (at1000 [])) (fun t => t.get (FILT.CFG.ORDER 23) == 3) = true ∧
    ends (exec (.filtCfgWrite 11 3) (at1000 [(QUAD.STATUS.STRIDEON 3, 1), (QUAD.MODE.SCH 3, 0), (QUAD.MODE.STRIDE 3, 1)])) (fun t => t.on FILT.STATUS.CFGREF) = true ∧
    idles (.filtCfgWrite 23 3) { at1000 [] with part := { (at1000 []).part with big := false } } = true ∧
    (at1000 []).splitsPair 0xFFFFFF = false ∧ ends (exec (.filtSwap 0x03000001) (at1000 [])) (fun t => t.streams.swap == some (1, 1)) = true ∧
    ends (exec (.activeBankWrite false 0x57 0xFF) (at1000 [(FILT.ACTIVE.B, 1)])) (fun t => t.on FILT.STATUS.ACTWR) = true ∧
    ends (exec (.activeBankWrite false 0x57 0xFF) (at1000 [(FILT.ACTIVE.B, 0x800000)])) (fun t => t.get (FILT.CHA.LEAK 23) == 25 && t.get (FILT.CHA.DRPSET 23) == 3) = true ∧
    ends (exec (.activeBankWrite true 0x57 9) (at1000 [])) (fun t => t.get (RSMP.PHB.PH 23) == 9) = true ∧
    ends (exec (.coefDataAccess true 0x1000007) (at1000 [(FILT.CADDR.BANK, 1), (FILT.CADDR.TAP, 127)])) (fun t => t.get (FILT.CDATA.COEF 767) == 7 &&
      t.get FILT.CADDR.TAP == 0) = true ∧
    ends (exec (.coefDataAccess true 7) (at1000 [(FILT.CADDR.SET, 0)])) (fun t => t.on FILT.STATUS.ACTWR && t.get FILT.CADDR.TAP == 1) = true := by decide +kernel

/-- R165: an index between the banks' registers is no bank register. -/
theorem test_bank_index : exec (.activeBankWrite false 0x58 0) (at1000 []) = .refused .illFormed ∧ exec (.activeBankWrite false 0x3F 0) (at1000 []) = .refused .illFormed :=
  ⟨rfl, rfl⟩

/-- R268, R274: slot 64 cannot be bound; slot 0 to an absent quantity is refused; a tariff changes with a record. -/
theorem test_bindings : ends (exec (.nrgBindWrite (.cc 0) 2 5) (at1000 [(NRG.SEL.SLOT 5, 64)])) (fun t => t.on NRG.STATUS.BINDREF) = true ∧
    ends (exec (.nrgBindWrite (.cc 0) 0 0) (at1000 [])) (fun t => t.on NRG.STATUS.BINDREF) = true ∧
    ends (exec (.nrgBindWrite (.cc 0) 0 0x10700000) (at1000 [])) (fun t => t.get (NRG.BIND.QTY 0) == 0x10 && t.get (NRG.BIND.MODE 0) == 1 && t.slots[0].newBind) = true ∧
    ends (exec (.tariffWrite 7 true) (at1000 [])) (fun t => t.get NRG.TARIFF.T == 7 && t.get NRG.TSWLO.GLO == 1000 && t.jrnl.staged.length == 1) = true ∧
    idles (.tariffWrite 0 false) (at1000 []) = true := by decide +kernel

/-- A pulse output free at grain 1000 with a backlog. -/
def pulsing (backlog : Nat) : State :=
  let s := at1000 [(PULSE.SRC.SLOT 3, 5), (NRG.BIND.MODE 5, 1), (PULSE.BLOG.COUNT 3, backlog)]
  { s with pulse := s.pulse.set 3 { s.pulse[3] with freeAt := 1000, srcOk := true, constOk := true, start := some 990, reqNow := 9 } }

/-- R287, R290: a pulse is 5 grains high 10 grains after the last, 8 with a backlog from earlier; a source write clears. -/
theorem test_pulses : ends (exec (.pulseEnd 3) (pulsing 9)) (fun t => t.pulse[3].highEnd == 1005 && t.pulse[3].freeAt == 1010 && t.get (PULSE.BLOG.COUNT 3) == 8) = true ∧
    ends (exec (.pulseEnd 3) (pulsing 10)) (fun t => t.pulse[3].highEnd == 1008) = true ∧
    ends (exec (.pulseEnd 3) (pulsing 0)) (fun t => !t.bit PULSE.STATUS.BUSY 3 && !t.pulse[3].high) = true ∧
    ends (exec (.pulseSourceWrite 3 true 0x940) (pulsing 9)) (fun t => t.get (PULSE.SRC.SLOT 3) == 127 && t.get (PULSE.SRC.TSEL 3) == 8) = true ∧
    ends (exec (.pulseSourceWrite 3 true 0x105) (pulsing 9)) (fun t => t.get (PULSE.BLOG.COUNT 3) == 0 && t.pulse[3].start == none) = true ∧
    ends (exec (.pulseSourceWrite 3 false 0) (pulsing 9)) (fun t => t.get (PULSE.CONST.C 3) == 1) = true := by decide +kernel

/-- The export watch, upward at 100 with hysteresis 10. -/
def watching (tripped : Bool) : State :=
  let s := at1000 [(PULSE.EWCTRL.EN, 1), (PULSE.EWCTRL.DIR, 1), (PULSE.EWTRIP.TRIP, 100), (PULSE.EWHYST.HYST, 10), (PULSE.EWCTRL.STALE, 15)]
  { s with watch := { s.watch with tripped := tripped, stale := false, since := 985 } }

/-- R292, R293: it trips above 100, not at it; it clears at 90, not above; it is stale 15 grains after the last write. -/
theorem test_export_watch : ends (exec (.ewvalWrite 101) (watching false)) (fun t => t.watch.tripped && t.bit (IRQ.SPEND.PEND 0) 20) = true ∧
    ends (exec (.ewvalWrite 100) (watching false)) (fun t => !t.watch.tripped) = true ∧
    ends (exec (.ewvalWrite 90) (watching true)) (fun t => !t.watch.tripped) = true ∧ ends (exec (.ewvalWrite 91) (watching true)) (fun t => t.watch.tripped) = true ∧
    ends (exec .ewStale (watching false)) (fun t => t.watch.stale && t.bit (IRQ.SPEND.PEND 0) 21) = true ∧
    idles .ewStale (inGrain 999 (watching false)) = true := by decide +kernel

/-- R298, R302, R307: witnesses: a window that ends with a pitch in it, a block to post, a supraharmonic window. -/
theorem test_pq_windows : (let s := at1000 []
     let s := { s with pq := { s.pq with f10End := 1000, f10 := [(300 * 2 ^ 32, 940 * 2 ^ 32, true)] } }
     decide (s.pq.f10End ≠ 0 ∧ s.pq.f10End ≤ s.clock.grain) &&
     ends (exec .f10WindowEnd { s with pq := { s.pq with f10 := [] } }) (fun t => t.pq.f10End == t.nextTen && !t.on PQ.F10STAT.VALID) &&
     ends (exec .supraWindowEnd { s with pq := { s.pq with ended := some ([], 0, 990) } }) (fun t => t.pq.ended == none && t.pq.supra == [(990, List.replicate 4 none)])) = true := by
  decide +kernel

/-- R311, R314: thresholds that hold together, with equality at each, and one step beyond; the declared voltage of a port. -/
theorem test_thresholds : ends (exec (.pqThrWrite 0 (BitVec.ofNat 32 (9800 + 65536 * 10200))) (at1000 [(PQ.THR2.INT, 500), (PQ.THR2.HYST, 200)])) (fun t =>
      t.get PQ.THR1.DIP == 9800 && t.get PQ.THR1.SWELL == 10200) = true ∧
    ends (exec (.pqThrWrite 0 (BitVec.ofNat 32 (9801 + 65536 * 10200))) (at1000 [(PQ.THR2.INT, 500), (PQ.THR2.HYST, 200)])) (fun t => t.on PQ.STATUS.THRREF) = true ∧
    ends (exec (.pqThrWrite 1 (BitVec.ofNat 32 (8799 + 65536 * 200))) (at1000 [(PQ.THR1.DIP, 9000), (PQ.THR1.SWELL, 11000)])) (fun t => t.get PQ.THR2.INT == 8799) = true ∧
    ends (exec (.pqThrWrite 1 (BitVec.ofNat 32 (8800 + 65536 * 200))) (at1000 [(PQ.THR1.DIP, 9000), (PQ.THR1.SWELL, 11000)])) (fun t => t.on PQ.STATUS.THRREF) = true ∧
    ends (exec (.udinWrite 1 230000) (at1000 [(PQ.STATUS.LEARNB, 1)])) (fun t => t.get PQ.UDINB.UDIN == 230000 && !t.on PQ.STATUS.LEARNB) = true := by decide +kernel

/-- The capture in a state, armed with 10 grains before and 20 after, filled from grain 900, triggered at 950 and drawn by core 0. -/
def capturing (state : Nat) (fs : List (Fld × Nat)) : State :=
  let s := at1000 ([(PWR.STATE.STATE, 0), (CAPT.STATUS.STATE, state), (CAPT.PRE.PRE, 10), (CAPT.POST.POST, 20), (CAPT.TGLO.GLO, 981), (CAPT.FIRSTLO.GLO, 971),
    (LEASE.HOLD.STATE 2, 1), (LEASE.HOLD.HOLDER 2, 8), (PERMIT.SLOT.STATE 15, 2), (PERMIT.SLOT.HOLDER 15, 8), (PERMIT.SLOT.DRAW 15, 60)] ++ fs)
  { s with capt := { s.capt with pre := 10, post := 20, first := 900 } }

/-- R326–R328: arming at the limits of PRE and POST; a trigger, the same grain again, and a missed one; the fill and the freeze. -/
theorem test_capture : ends (exec .captArm (capturing 0 [(CAPT.PRE.PRE, 32000), (CAPT.POST.POST, 25600)])) (fun t => t.get CAPT.STATUS.STATE == 1 && t.capt.first == 1001) = true ∧
    ends (exec .captArm (capturing 0 [(CAPT.PRE.PRE, 32000), (CAPT.POST.POST, 25601)])) (fun t => t.on CAPT.STATUS.ARMREF) = true ∧
    ends (exec .captArm (capturing 0 [(PWR.STATE.STATE, 1)])) (fun t => t.on CAPT.STATUS.ARMREF) = true ∧
    ends (exec .captTrig (capturing 2 [])) (fun t => t.get CAPT.STATUS.STATE == 3 && t.get CAPT.FIRSTLO.GLO == 990 && t.get CAPT.CAUSE.CAUSE == 128) = true ∧
    ends (exec .captTrig (inGrain 909 (capturing 1 []))) (fun t => t.on CAPT.STATUS.PRESHORT && t.get CAPT.FIRSTLO.GLO == 900) = true ∧
    ends (exec .captTrig (capturing 3 [(CAPT.TGLO.GLO, 1000)])) (fun t => t.bit CAPT.CAUSE.CAUSE 7 && t.get CAPT.MISSED.COUNT == 0) = true ∧
    ends (exec .captTrig (capturing 3 [])) (fun t => t.get CAPT.MISSED.COUNT == 1) = true ∧
    ends (exec .captPreFilled (inGrain 909 (capturing 1 []))) (fun t => t.get CAPT.STATUS.STATE == 2) = true ∧
    idles .captPreFilled (inGrain 908 (capturing 1 [])) = true ∧
    ends (exec .captFreeze (capturing 3 [])) (fun t => t.get CAPT.STATUS.STATE == 4 && t.get CAPT.COUNT.COUNT == 30 && t.bit (IRQ.SPEND.PEND 0) 25) = true ∧
    ends (exec .captDisarm (capturing 4 [])) (fun t => t.get CAPT.STATUS.STATE == 0) = true ∧ idles .captDisarm (capturing 5 []) = true := by decide +kernel

/-- R329, R330: a draw with a permit of 60, not of 59; parcels of 56 frames, the last of which ends it. -/
theorem test_draw : Claims.AtOnce (capturing 4 []) (.cc 0) ∧
    ends (exec (.drawGo (.cc 0) 0x20F) (capturing 4 [(CAPT.DRAWPOS.POS, 9)])) (fun t => t.get CAPT.STATUS.STATE == 5 && t.get CAPT.DRAWPOS.POS == 0 && t.capt.who == 8) = true ∧
    ends (exec (.drawGo (.cc 0) 0x20F) (capturing 4 [(PERMIT.SLOT.DRAW 15, 59)])) (fun t => t.on CAPT.STATUS.DRAWREF) = true ∧
    (capturing 5 [(CAPT.COUNT.COUNT, 57)]).outFull = false := by
  refine ⟨⟨by decide, fun n h => (by cases h)⟩, ?_⟩; decide +kernel
/-! ## Journal, cairn, trim, the auxiliary converter -/

/-- s with the journal changed. -/
def jr (f : Jrnl → Jrnl) (s : State) : State := { s with jrnl := f s.jrnl }

/-- An event record of 8 bytes of body. -/
def ev0 : JRec := ⟨2, 0, 0, 990, [0x20, 1, 0, 0, 0, 0, 0, 0], false⟩

/-- R337, R338: the cairn belay waits for the port and takes the older slot. -/
theorem test_belays : (let b := { Belay.factory with gen := 9, nextseq := 1 }
     let s := jr (fun j => { j with cairnPend := some b, covered := true }) (at1000 [])
     idles .cairnBelayCommit (s.set (LEASE.HOLD.STATE 0) 1) && !s.portHeld && (s.set (LEASE.HOLD.STATE 0) 1).portHeld &&
     idles .cairnBelayCommit (jr (fun j => { j with covered := false }) s) && decide (genOf s.cairn.stB < genOf s.cairn.stA) &&
     ends (exec .cairnBelayCommit s) (fun t => t.cairn.stB == some b && t.cairn.stA == s.cairn.stA && t.jrnl.committed == some b)) = true := by
  decide +kernel

/-- R336: the bytes of a belay stand at the half's address. -/
theorem test_aon_belay : ∃ t, exec .aonBelayCommit (jr (fun j => { j with aonPend := some Belay.factory }) (at1000 [])) = .next t ∧
    t.jrnl.aonPend = none := ⟨_, rfl, rfl⟩

/-- R363, R364: a segment with one record folds into the carry, and its commitment takes the record from the ring. -/
theorem test_fold :
    (let s := jr (fun j => { j with fold := true, head := 8 }) (at1000 [])
     let s := { s with cairn := { s.cairn with ring := [⟨4096, 3, ev0⟩, ⟨8192, 4, ev0⟩] } }
     s.nextSegment == 1 && s.jrnl.carry.empty &&
     ends (exec .segmentFold s) (fun t => match t.jrnl.carryPend with
       | some c => c.first == 3 && c.last == 3 && !c.empty && c.grain == 990 &&
         ends (exec .foldCommit t) (fun u => u.cairn.ring.length == 1 && u.jrnl.carry == c && u.get JRNL.COALCNT.COUNT == 1 && !u.jrnl.fold)
       | none => false)) = true := by decide +kernel

/-- R360–R362: no record is owed, or one is sent, or the buffer has no room. -/
theorem test_journal_parcels : (at1000 []).outFull = false ∧ (at1000 []).carryOwed = false ∧ idles .journalParcelSend (at1000 []) = true ∧
    (let s := at1000 []
     { s with jrnl := { s.jrnl with carry := { s.jrnl.carry with empty := false, last := 7 } } }.carryOwed &&
     { s with link := { s.link with outb := [zeros 4081] } }.outFull) = true ∧
    (gather [⟨0, 1, ev0⟩] 1 4096).2 = 2 := by decide +kernel

/-- Core 0 runs and holds the journal writer. -/
def writer (f : Jrnl → Jrnl) : State := core0 Bank.zero (jr f (at1000 [(JRNL.STGCTL.KIND, 5), (LEASE.HOLD.STATE 1, 1), (LEASE.HOLD.HOLDER 1, 8)]))

/-- R365: sixteen words are staged, a seventeenth is not; a record is appended where it finds room, else STGREF; without the
lease the access faults. -/
theorem test_stage : Claims.AtOnce (writer id) (.cc 0) ∧ Claims.Leased (writer id) (.cc 0) 1 ∧
    ends (exec (.stageDataWrite 7) (writer (fun j => { j with stg := List.replicate 15 0 }))) (fun t => t.jrnl.stg.length == 16) = true ∧
    idles (.stageDataWrite 7) (writer (fun j => { j with stg := List.replicate 16 0 })) = true ∧
    ends (exec .stagedAppendGo (writer (fun j => { j with stg := [1] }))) (fun t => t.jrnl.stg == [] &&
      t.jrnl.staged.map (fun r => r.body.take 8) == [[0x28, 5, 0, 0, 1, 0, 0, 0]]) = true ∧
    ends (exec .stagedAppendGo (writer (fun j => { j with staged := List.replicate 150 ev0 }))) (fun t => t.on JRNL.STATUS.STGREF) = true ∧
    ends (exec (.registerWrite (.cc 0) 0x28 0x19 7) (core0 Bank.zero (at1000 []))) (fun t => t.get (CSR.ECAUSE.CODE 0) == 5 && t.jrnl.stg == []) = true := by
  refine ⟨⟨by decide, fun n h => (by cases h)⟩, ⟨by decide, by decide⟩, ?_⟩; decide +kernel

/-- Core 0 holds leases 0 and 5, runs, and the port is in a state. -/
def porter (p : CairnPort) (fs : List (Fld × Nat)) : State :=
  { core0 Bank.zero (at1000 ([(LEASE.HOLD.STATE 0, 1), (LEASE.HOLD.HOLDER 0, 8), (LEASE.HOLD.STATE 5, 1), (LEASE.HOLD.HOLDER 5, 8)] ++ fs)) with port := p }

/-- R344, R345: area 1 opens and no other; word 1019 is the last; words 4 to 190 need OWNER and more; commit and abort. -/
theorem test_write_port : Claims.AtOnce (porter ⟨false, false, [], 0⟩ []) (.cc 0) ∧ Claims.Leased (porter ⟨false, false, [], 0⟩ []) (.cc 0) 0 ∧
    ends (exec (.portOpen (.cc 0) 1) (porter ⟨false, false, [], 0⟩ [])) (fun t => t.port == ⟨true, true, [], 0⟩ && t.on CAIRN.PSTAT.OPEN) = true ∧
    ends (exec (.portOpen (.cc 0) 0) (porter ⟨false, false, [], 0⟩ [])) (fun t => t.on CAIRN.STATUS.PREF && t.bit (IRQ.SPEND.PEND 0) 31) = true ∧
    ends (exec (.portDataWrite (.cc 0) 5) (porter ⟨true, false, [], 0⟩ [(CAIRN.PADDR.WORD, 1019)])) (fun t => wordsGet t.port.work 1019 == 5 &&
      t.get CAIRN.PADDR.WORD == 1020) = true ∧
    ends (exec (.portDataWrite (.cc 0) 5) (porter ⟨true, false, [], 0⟩ [(CAIRN.PADDR.WORD, 1020)])) (fun t => t.on CAIRN.STATUS.PREF) = true ∧
    ends (exec (.portDataWrite (.cc 0) 5) (porter ⟨true, false, [], 0⟩ [(CAIRN.PADDR.WORD, 190)])) (fun t => t.on CAIRN.STATUS.PREF) = true ∧
    ends (exec (.portDataWrite (.cc 0) 5) (porter ⟨true, false, [], 0⟩ [(CAIRN.PADDR.WORD, 191)])) (fun t => wordsGet t.port.work 191 == 5) = true ∧
    ends (exec (.portAbort (.cc 0)) (porter ⟨true, false, [(191, 5)], 1⟩ [(CAIRN.PSTAT.OPEN, 1)])) (fun t => t.on CAIRN.STATUS.PREF && t.port.opened) = true ∧
    ends (exec (.portAbort (.cc 0)) (porter ⟨true, false, [(191, 5)], 0⟩ [(CAIRN.PSTAT.OPEN, 1)])) (fun t => t.port == ⟨false, false, [], 0⟩ && !t.on CAIRN.PSTAT.OPEN) = true ∧
    ends (exec (.portAbort (.cc 0)) (core0 Bank.zero (at1000 []))) (fun t => t.get (CSR.ECAUSE.CODE 0) == 5) = true := by
  refine ⟨⟨by decide, fun n h => (by cases h)⟩, ⟨by decide, by decide⟩, ?_⟩; decide +kernel

/-- R344: a commit keeps words 1 to 3 and takes the next generation. -/
theorem test_port_commit :
    (let s := porter ⟨true, false, [], 0⟩ []
     ends (exec (.portCommit (.cc 0)) { s with port := { s.port with work := s.cairn.trim.words } }) (fun t => t.cairn.trim.gen == s.cairn.trim.gen + 1 &&
       !t.port.opened && t.on CAIRN.PSTAT.DONE) &&
     ends (exec .portCopyDone { s with port := ⟨true, true, [], 0⟩ }) (fun t => !t.port.copying && t.port.work == s.cairn.trim.words)) = true := by
  decide +kernel

/-- R370: the read port: an address, 32 cycles, a word; a read beyond the area or too early is an error. -/
theorem test_read_port : ends (exec (.cairnAddrWrite 0x10005) (at1000 [])) (fun t => t.get CAIRN.RADDR.WORD == 5 && t.readAt == t.clock.now + 32) = true ∧
    ends (exec .cairnReadReady { at1000 [(CAIRN.RADDR.WORD, 3072)] with readAt := 32, clock := { (at1000 []).clock with now := 32 } }) (fun t =>
      t.on CAIRN.RSTAT.READY && t.on CAIRN.RSTAT.RERR) = true ∧
    ends (exec .cairnDataRead (at1000 [(CAIRN.RADDR.WORD, 65535)])) (fun t => t.readData == 0 && t.on CAIRN.RSTAT.RERR && t.get CAIRN.RADDR.WORD == 0) = true ∧
    ends (exec .cairnDataRead (at1000 [(CAIRN.RSTAT.READY, 1), (CAIRN.RDATA.DATA, 9)])) (fun t => t.readData == 9 && !t.on CAIRN.RSTAT.RERR) = true := by
  decide +kernel

/-- Core 0's permit 15, fit for SELFCAL. -/
def calibrating (draw : Nat) (fs : List (Fld × Nat)) : State :=
  core0 Bank.zero (at1000 ([(PERMIT.SLOT.STATE 15, 2), (PERMIT.SLOT.HOLDER 15, 8), (PERMIT.SLOT.DRAW 15, draw), (PERMIT.REM.GRAINS 15, 2304)] ++ fs))

/-- R375, R376, R379: SELFCAL with a permit of 180 for 2304 grains; the end of its third phase. -/
theorem test_selfcal : ends (exec (.selfcalGo (.cc 0) 15) (calibrating 180 [])) (fun t => t.selfCal == some ⟨1001, 15, 0, List.replicate 38 0, List.replicate 38 0⟩) = true ∧
    ends (exec (.selfcalGo (.cc 0) 15) (calibrating 179 [])) (fun t => t.on TRIM.STATUS.SCREF && t.selfCal == none) = true ∧
    (let s := { calibrating 180 [(TRIM.SCSTAT.PHASE, 3)] with selfCal := some ⟨0, 15, 0, List.replicate 38 0, List.replicate 38 0⟩ }
     let s := inGrain 2304 s
     decide (35 ∈ s.phaseCores 3 ∧ 768 * 3 ≤ s.clock.grain)) = true := by decide +kernel

/-- R381, R387, R388, R386: calibration writes before and after START, a drift save, a reset of the terms, a new baseline, OTP. -/
theorem test_trim : ends (exec (.calibrationWrite (.cc 0) 0x97 9) (calibrating 0 [])) (fun t => t.get (TRIM.RATIO.R 23) == 9) = true ∧
    ends (exec (.calibrationWrite (.cc 0) 0x40 9) (calibrating 0 [(PWR.STATE.STATE, 0), (ACCESS.LEVEL.PLOCK, 1)])) (fun t => t.get (CSR.ECAUSE.CODE 0) == 9) = true ∧
    (at1000 []).driftBlocks = 0 ∧ (at1000 [(TRIM.DSAVE.BLK, 1)]).portHeld = false ∧
    ends (exec (.driftReset (.cc 0)) (calibrating 0 [(TRIM.CTARGET.TG 37, 5), (TRIM.QCOM.TARGET 3, 5), (TRIM.CDRIFT.DG 0, 5)])) (fun t =>
      t.get (TRIM.CTARGET.TG 37) == 0 && t.get (TRIM.QCOM.TARGET 3) == 0 && t.get (TRIM.CDRIFT.DG 0) == 5) = true ∧
    ends (exec (.driftReset (.cc 0)) (calibrating 0 [(ACCESS.LEVEL.PLOCK, 1)])) (fun t => t.get (CSR.ECAUSE.CODE 0) == 9) = true ∧
    ends (exec (.shnodeRestart (.cc 0)) (calibrating 0 [])) (fun t => t.shNode[2].fresh) = true ∧
    ends (exec .otpDataRead (at1000 [(TRIM.OSEL.WORD, 4095)])) (fun t => t.get TRIM.OSEL.WORD == 0) = true := by decide +kernel

/-- R381: an index that is no calibration register. -/
theorem test_calibration_index : exec (.calibrationWrite (.cc 0) 0x98 9) (at1000 []) = .refused .illFormed ∧
    exec (.calibrationWrite (.cc 0) 0x58 9) (at1000 []) = .refused .illFormed := ⟨rfl, rfl⟩

/-- The converter in a state, at cycle 1000. -/
def auxs (fs : List (Fld × Nat)) (f : AuxSt → AuxSt) : State :=
  let s := porter ⟨false, false, [], 0⟩ fs
  { s with aux := f { s.aux with urgent := none }, clock := { s.clock with now := 1000 } }

/-- R392–R396: GO with the reference ready converts for 8 · 17 cycles; busy it is refused; STOP, CAL and a reserved channel. -/
theorem test_aux : ends (exec (.auxGo (.cc 0)) (auxs [(AUX.STATUS.REFRDY, 1), (AUX.CH.SEL, 3), (AUX.CTRL.ACQ, 0)] id)) (fun t => t.aux.stop == some 1144 && t.aux.ch == 3 &&
      t.on AUX.STATUS.BUSY) = true ∧
    ends (exec (.auxGo (.cc 0)) (auxs [] id)) (fun t => t.on AUX.STATUS.BUSY && t.aux.stop == none) = true ∧
    ends (exec (.auxGo (.cc 0)) (auxs [(AUX.STATUS.CALBUSY, 1)] id)) (fun t => t.on AUX.STATUS.GOREF) = true ∧
    ends (exec (.auxStop (.cc 0)) (auxs [(AUX.STATUS.CALBUSY, 1)] id)) (fun t => !t.on AUX.STATUS.CALBUSY) = true ∧
    ends (exec (.auxStop (.cc 0)) (auxs [(AUX.STATUS.BUSY, 1)] (fun a => { a with stop := some 1 }))) (fun t => t.aux.discard) = true ∧
    ends (exec (.auxCal (.cc 0)) (auxs [] id)) (fun t => t.on AUX.STATUS.CALREF) = true ∧
    ends (exec (.auxCal (.cc 0)) (auxs [(AUX.STATUS.REFRDY, 1)] id)) (fun t => t.on AUX.STATUS.CALBUSY && t.aux.calEnd == 22504) = true ∧
    (auxs [] id).auxChBad 30 = true ∧ (auxs [] id).auxChBad 0 = false := by decide +kernel

/-- R393, R395, R397–R400: a step and the last step of calibration, conversions in formation and at their end, urgent ones. -/
theorem test_aux_ends :
    ends (exec .auxCalStepEnd (auxs [(AUX.STATUS.CALBUSY, 1)] (fun a => { a with calStep := 19, calEnd := 1000 }))) (fun t => t.on AUX.STATUS.CALOK) = true ∧
    ends (exec .auxCalStepEnd (auxs [(AUX.STATUS.CALBUSY, 1)] (fun a => { a with calStep := 18, calEnd := 1000 }))) (fun t => t.aux.calStep == 19) = true ∧
    ends (exec (.auxConversionEnd 5) (auxs [(AUX.STATUS.BUSY, 1)] (fun a => { a with stop := some 1000, avg := 2, n := 0, sum := 0 }))) (fun t => t.aux.sum == 5 && t.aux.n == 1) = true ∧
    ends (exec (.auxConversionEnd 6) (auxs [(AUX.STATUS.BUSY, 1)] (fun a => { a with stop := some 1000, avg := 2, n := 1, sum := 5, new := true, ch := 0 }))) (fun t =>
      t.get AUX.RESULT.DATA == 6 && t.on AUX.STATUS.OVR && t.bit (IRQ.SPEND.PEND 1) 3 && t.bit (IRQ.SPEND.PEND 1) 4) = true ∧
    ends (exec .auxRefReady (auxs [(AUX.STATUS.BUSY, 1), (AUX.CTRL.ACQ, 0)] (fun a => { a with refAt := 1000, stop := none }))) (fun t => t.on AUX.STATUS.REFRDY && t.aux.stop == some 1144) = true ∧
    ends (exec (.urgentRequest 2 31) (auxs [] (fun a => { a with intAt := 1000 }))) (fun t => t.get AUX.ULAST.SRC == 3 && t.get AUX.ULAST.CH == 31 &&
      t.aux.urgent == some ⟨3, 31, some 1336⟩) = true ∧
    ends (exec (.urgentRequest 2 31) (auxs [(AUX.STATUS.URGBUSY, 1)] id)) (fun t => t.get AUX.UDROP.COUNT == 1) = true ∧
    ends (exec (.urgentConversionEnd 7) (auxs [(AUX.STATUS.URGBUSY, 1)] (fun a => { a with urgent := some ⟨3, 31, some 1000⟩ }))) (fun t =>
      !t.on AUX.STATUS.URGBUSY && t.aux.got.getD 3 none == some 7) = true := by decide +kernel
/-! ## Modem, glass, tamper, access -/

/-- Core 0 holds leases 3 and 4 in RUN; the modem and the glass are enabled. -/
def running (fs : List (Fld × Nat)) : State :=
  core0 Bank.zero (at1000 ([(PWR.STATE.STATE, 0), (LEASE.HOLD.STATE 3, 1), (LEASE.HOLD.HOLDER 3, 8), (LEASE.HOLD.STATE 4, 1), (LEASE.HOLD.HOLDER 4, 8),
    (MODEM.CTRL.EN, 1), (GLASS.CTRL.EN, 1)] ++ fs))

/-- A frame with permit 15, to begin at cycle b. -/
def frame0 (b : Nat) : TxFrame := ⟨3, 7, 5, 9, true, false, 1, 0, 1, 2, 1, 1000, some b, b + 128000, [1], some 15, none⟩

/-- s with the modem changed. -/
def mdm (f : ModemSt → ModemSt) (s : State) : State := { s with modem := f s.modem }

/-- R435, R441: a busy modem refuses, a payload of 257 is too long for band 0 and 184 for band C; nothing to cancel, a frame
before it is on the line, and one on it, which stops at a symbol boundary. -/
theorem test_modem_commands : Claims.AtOnce (running []) (.cc 0) ∧
    ends (exec (.modemTxGo (.cc 0)) (running [(MODEM.STATUS.TXBUSY, 1)])) (fun t => t.on MODEM.STATUS.TXREF) = true ∧
    ends (exec (.modemTxGo (.cc 0)) (running [(MODEM.CTRL.BAND, 0), (MODEM.TXDESC.LEN, 257)])) (fun t => t.on MODEM.STATUS.LENREF) = true ∧
    ends (exec (.modemTxGo (.cc 0)) (running [(MODEM.CTRL.BAND, 1), (MODEM.TXDESC.LEN, 184)])) (fun t => t.on MODEM.STATUS.LENREF) = true ∧
    ends (exec (.modemTxGo (.cc 0)) (running ([(MODEM.CTRL.BAND, 1), (MODEM.TXDESC.LEN, 183), (MODEM.TXCFG.ATT, 31)] ++ oneSlot))) (fun t => t.on MODEM.STATUS.TXBUSY &&
      t.get (PERMIT.SLOT.DRAW (t.get MODEM.PERMIT.NUM)) == 202 && t.modem.seq == 1) = true ∧
    idles (.modemTxCancel (.cc 0)) (running []) = true ∧
    ends (exec (.modemTxCancel (.cc 0)) (mdm (fun m => { m with tx := some (frame0 0) }) (running [(MODEM.STATUS.TXBUSY, 1)]))) (fun t =>
      t.get MODEM.TXRES.RESULT == 6 && t.modem.tx == none) = true ∧
    ends (exec (.modemTxCancel (.cc 0)) (mdm (fun m => { m with tx := some (frame0 6399999) }) (running [(MODEM.STATUS.TXBUSY, 1), (MODEM.STATUS.TXON, 1)]))) (fun t =>
      t.modem.stopping == some 6 && t.modem.tx.map TxFrame.stops == some 6527999) = true := by
  refine ⟨⟨by decide, fun n h => (by cases h)⟩, ?_⟩; decide +kernel

/-- The modem with a frame to send, its permit granted. -/
def sending (f : TxFrame) (fs : List (Fld × Nat)) : State :=
  mdm (fun m => { m with tx := some f }) (running ([(PERMIT.SLOT.STATE 15, 2), (MODEM.STATUS.TXBUSY, 1)] ++ fs))

/-- R429, R434–R437: a frame starts with the channel clear, is put off with it busy, ends waiting for its acknowledgement or
not, and fails when the last try has no answer; an acknowledgement without a permit is dropped. -/
theorem test_transmission : (sending (frame0 6400000) []).modemOn = true ∧ Claims.Clear (sending (frame0 6400000) []) 1 ∧
    ends (exec .modemFrameStart (sending (frame0 6400000) [])) (fun t => t.on MODEM.STATUS.TXON && t.get MODEM.TXSTLO.GLO == 1000 && t.get MODEM.TXRES.TRIES == 2) = true ∧
    ends (exec .modemFrameStart (mdm (fun m => { m with busy := true }) (sending (frame0 6400000) []))) (fun t => t.on MODEM.STATUS.LBTWAIT) = true ∧
    ends (exec .modemFrameStart (sending (frame0 6400000) [(MODEM.STATUS.PERMWAIT, 1)])) (fun t => t.on MODEM.PERMIT.VALID && t.get MODEM.PERMIT.NUM == 15) = true ∧
    ends (exec .modemFrameEnd (sending { frame0 0 with stops := 6400000 } [(MODEM.STATUS.TXON, 1), (MODEM.ACKTO.TO, 50)])) (fun t => t.on MODEM.STATUS.WAITACK &&
      (t.modem.tx.bind TxFrame.deadline) == some 1050) = true ∧
    ends (exec .modemFrameEnd (sending { frame0 0 with stops := 6400000, wantAck := false } [(MODEM.STATUS.TXON, 1)])) (fun t => t.get MODEM.TXRES.RESULT == 2) = true ∧
    ends (exec .modemFrameEnd (mdm (fun m => { m with stopping := some 4 }) (sending { frame0 0 with stops := 6400000 } [(MODEM.STATUS.TXON, 1)]))) (fun t =>
      t.get MODEM.TXRES.RESULT == 4 && t.bit (IRQ.SPEND.PEND 1) 26) = true ∧
    ends (exec .modemAckTimeout (sending { frame0 0 with deadline := some 999, tries := 3 } [(MODEM.STATUS.WAITACK, 1)])) (fun t => t.get MODEM.TXRES.RESULT == 3) = true ∧
    ends (exec .modemAckTimeout (sending { frame0 0 with deadline := some 999, tries := 2 } [(MODEM.STATUS.WAITACK, 1)])) (fun t => t.get MODEM.NRETRY.COUNT == 1) = true ∧
    ends (exec .modemAckSend (mdm (fun m => { m with ack := some { frame0 6400000 with isAck := true } }) (running [(PERMIT.STATUS.FROZEN, 1)]))) (fun t =>
      t.modem.ack == none) = true := by
  refine ⟨by decide +kernel, ⟨by decide +kernel, fun _ => ⟨by decide +kernel, by decide +kernel, fun e h => ?_⟩⟩, ?_⟩
  · cases h
  · decide +kernel

/-- A body to 5 from 7 of a length, with its check. -/
def body0 (flags : Byte) (pay : List Byte) : List Byte :=
  let b := [5, 0, 7, 0, flags, 9] ++ leBytes 2 pay.length ++ pay
  b ++ leBytes 4 (crc32c b)

/-- A symbol in which one tone alone stands, and one that an impulse has erased. -/
def tone (n : Nat) : SymEnergy := ⟨if n = 0 then 9 else 0, if n = 1 then 9 else 0, if n = 2 then 9 else 0, if n = 3 then 9 else 0, 0⟩
def erasedSym : SymEnergy := ⟨0, 0, 0, 0, 1⟩

/-- The modem of address 5 with the symbols of a body received, the first k of them erased. -/
def hearing (k : Nat) (body : List Byte) (f : ModemSt → ModemSt) (fs : List (Fld × Nat)) : State :=
  mdm (fun m => f { m with rxAt := some 990, rxSyms := List.replicate k erasedSym ++ ((bodyTones body).map tone).drop k })
    (running ([(MODEM.ADDR.ADDR, 5)] ++ fs))

/-- R424, R426, by hand from the generators: a 1 among zeros has the coded bits 1, 1, 1, 1, 0, 0, 1 of 171 and 1, 0, 1, 1, 0, 1, 1
of 133, so tones 2, 3, 2, 2, 0, 1, 2; two symbols of twenty-two lost to an impulse are recovered. -/
theorem test_coding : codeTones 0 [true, false, false, false, false, false, false] = [2, 3, 2, 2, 0, 1, 2] ∧
    decodeBody 16 ((bodyTones [0x80, 0x35]).map tone) = [0x80, 0x35] ∧
    decodeBody 16 (List.replicate 2 erasedSym ++ ((bodyTones [0x80, 0x35]).map tone).drop 2) = [0x80, 0x35] := by decide +kernel

/-- The symbols received are decoded. -/
def decodes (s : State) : Host.Outcome State Fault Refusal := exec (.modemRxDecode 990 s.modem.rxSyms.length) s

/-- R433, R436, R437: a bad check, another station, the acknowledgement waited for, a repetition, a full ring, and a frame
stored, three of its symbols erased. -/
theorem test_reception : (hearing 0 [1] id []).modemOn = true ∧
    ends (decodes (hearing 2 [1] id [])) (fun t => t.get MODEM.NCRC.COUNT == 1 && t.get MODEM.NERAS.COUNT == 2) = true ∧
    ends (decodes (hearing 0 (body0 0 [1, 2]) id [(MODEM.ADDR.ADDR, 6)])) (fun t => t.modem.rxAt == none && t.get MODEM.RXHEAD.HEAD == 0) = true ∧
    ends (decodes (hearing 0 (body0 1 []) (fun m => { m with tx := some { frame0 0 with deadline := some 1000 } })
      [(MODEM.STATUS.WAITACK, 1), (MODEM.STATUS.TXBUSY, 1)])) (fun t => t.get MODEM.TXRES.RESULT == 1 && t.modem.tx == none) = true := by decide +kernel
theorem test_reception_stored :
    ends (decodes (hearing 0 (body0 4 []) (fun m => { m with heard := [(7, 9)] }) [])) (fun t => t.get MODEM.NDUP.COUNT == 1) = true ∧
    ends (decodes (hearing 0 (body0 0 []) (fun m => { m with full := true }) [])) (fun t => t.on MODEM.STATUS.RXOVF) = true ∧
    ends (decodes (hearing 3 (body0 2 [1, 2]) id [(MODEM.RXHEAD.HEAD, 63)])) (fun t => t.get MODEM.RXHEAD.HEAD == 0 &&
      t.bytes (0x10782000 + 512 * 63 + 32) 2 == [1, 2] && (t.modem.ack.map TxFrame.dst) == some 7) = true := by decide +kernel

/-- R429, R431, R432: the channel, its back-off, and a preamble. -/
theorem test_channel : ends (exec .modemChannelBusy (running [])) (fun t => t.modem.busy) = true ∧
    ends (exec .lbtBackoffEnd (mdm (fun m => { m with idleTo := some 1000 }) (running []))) (fun t => t.modem.idleTo == none) = true ∧
    ends (exec .modemPreambleSync { running [] with clock := { (running []).clock with phase := 1399 } }) (fun t => t.on MODEM.STATUS.RXSYNC && t.modem.rxAt == some 1000 && t.modem.rxSkip == 3) = true := by decide +kernel

/-- s with the glass changed. -/
def gls (f : GlassSt → GlassSt) (s : State) : State := { s with glass := f s.glass }

/-- R446, R447, R449, R452: a mode kept while enabled, frame rates at 128 Hz and 32 Hz and beyond, a table's word and its
balance, a mask that overlaps. -/
theorem test_glass_commands : Claims.AtOnce (running []) (.cc 0) ∧ (running []).glassOn = true ∧
    ends (exec (.glassModeWrite (.cc 0) 3) (running [(GLASS.CTRL.MODE, 0)])) (fun t => t.on GLASS.STATUS.CFGREF && t.get GLASS.CTRL.MODE == 0) = true ∧
    ends (exec (.glassModeWrite (.cc 0) 2) (running [(GLASS.CTRL.EN, 0)])) (fun t => t.get GLASS.CTRL.MODE == 1 && !t.on GLASS.CTRL.EN) = true ∧
    ends (exec (.lcdcfgWrite (.cc 0) 0x81010) (running [])) (fun t => t.get GLASS.LCDCFG.H == 8 && t.get GLASS.LCDCFG.GDIV == 16) = true ∧
    ends (exec (.lcdcfgWrite (.cc 0) 0x80F10) (running [])) (fun t => t.on GLASS.STATUS.CFGREF) = true ∧
    ends (exec (.lcdcfgWrite (.cc 0) 0x82011) (running [])) (fun t => t.get GLASS.LCDCFG.MUX == 1) = true ∧
    ends (exec (.lcdcfgWrite (.cc 0) 0x82012) (running [])) (fun t => t.on GLASS.STATUS.CFGREF) = true ∧
    ends (exec (.tableDataAccess (.cc 0) true 0x1234) (running [(GLASS.TADDR.TABLE, 3), (GLASS.TADDR.PHASE, 15), (GLASS.TVALID.VALID, 15)])) (fun t =>
      t.get (GLASS.TDATA.WORD 63) == 0x1234 && t.get GLASS.TVALID.VALID == 7 && t.get GLASS.TADDR.PHASE == 0) = true ∧
    ends (exec (.tableCheck (.cc 0) 0x103) (running [])) (fun t => t.bit GLASS.TVALID.VALID 3) = true ∧
    idles (.tableCheck (.cc 0) 3) (running []) = true ∧
    ends (exec (.regionMaskWrite (.cc 0) 7 false 4) (running [(GLASS.RMLO.MASK 0, 4)])) (fun t => t.on GLASS.STATUS.REQREF) = true ∧
    ends (exec (.regionMaskWrite (.cc 0) 7 true 0x80000) (running [])) (fun t => t.get (GLASS.RMHI.MASK 7) == 0x80000) = true := by
  refine ⟨⟨by decide, fun n h => (by cases h)⟩, ?_⟩; decide +kernel

/-- A glass that can update: bistable, table 1 valid, region 7 one segment, permit 15 of 60. -/
def panel (fs : List (Fld × Nat)) : State :=
  running ([(GLASS.CTRL.MODE, 1), (GLASS.TVALID.VALID, 2), (GLASS.RMLO.MASK 7, 16), (PERMIT.SLOT.STATE 15, 2), (PERMIT.SLOT.HOLDER 15, 8),
    (PERMIT.SLOT.DRAW 15, 60), (PERMIT.REM.GRAINS 15, 1000)] ++ fs)

/-- An update of region 7, begun or not. -/
def upd0 (began : Option Nat) (stop : Option (Nat × Nat)) : GlassUpd := ⟨7, 16, ⟨16, 1, 15⟩, ev0, [], began, 8, List.replicate 52 0, stop⟩

/-- R454–R459: a request taken, one queued behind another, one that replaces a request of its region, one refused; an update
begins, is refused its start, stops early, and ends whole. -/
theorem test_updates :
    ends (exec (.glassUpdateRequest (.cc 0) 0xF17) (panel [])) (fun t => (t.glass.upd.map GlassUpd.region) == some 7 && t.jrnl.staged.length == 1) = true ∧
    ends (exec (.glassUpdateRequest (.cc 0) 0xF17) (panel [(PERMIT.SLOT.DRAW 15, 59)])) (fun t => t.on GLASS.STATUS.REQREF) = true ∧
    ends (exec (.glassUpdateRequest (.cc 0) 0xF17) (gls (fun g => { g with upd := some (upd0 none none) }) (panel []))) (fun t => t.glass.pend.length == 1) = true ∧
    ends (exec (.glassUpdateRequest (.cc 0) 0xF17) (gls (fun g => { g with upd := some (upd0 none none), pend := [(7, ⟨0, 1, 15⟩)] }) (panel []))) (fun t =>
      t.glass.pend.length == 1 && t.get GLASS.BSTAT.LASTRES == 6 && t.get GLASS.NSUP.COUNT == 1) = true ∧
    (gls (fun g => { g with upd := some (upd0 none none) }) (panel [])).covered ev0 = true ∧
    ends (exec .glassUpdateStart (gls (fun g => { g with upd := some (upd0 none none) }) (panel []))) (fun t => t.on GLASS.STATUS.BUSY) = true ∧
    ends (exec .glassUpdateStart (gls (fun g => { g with upd := some (upd0 none none) }) (panel [(PERMIT.REM.GRAINS 15, 63)]))) (fun t => t.get GLASS.BSTAT.LASTRES == 5) = true ∧
    ends (exec .glassUpdateEnd (gls (fun g => { g with upd := some (upd0 (some 0) (some (0, 4))) }) (panel [(GLASS.STATUS.BUSY, 1)]))) (fun t =>
      t.get GLASS.BSTAT.LASTRES == 4 && t.on GLASS.BSTHI.UNKNOWN) = true ∧
    (let s := gls (fun g => { g with upd := some (upd0 (some 0) none) }) (panel [(GLASS.STATUS.BUSY, 1)])
     ends (exec .glassUpdateEnd { s with clock := { s.clock with rtc := 66 } }) (fun t => t.get GLASS.BSTAT.LASTRES == 1 && t.get GLASS.BSTLO.DARK == 16) &&
     ends (exec .outageViewEnd (gls (fun g => { g with viewEnd := some 0 }) s)) (fun t => t.glass.viewEnd == none)) = true := by decide +kernel

/-- R449, R450, R461: a frame boundary, a reading dropped for the eighth time, a pump fault. -/
theorem test_glass_events : ends (exec .lcdFrameBoundary { running [(GLASS.VLCD.VSET, 3000)] with glass := { (running []).glass with pump := 3000 } }) (fun t => t.glass.pump == 3000 && t.glass.frames == 1 && t.get GLASS.TEMP.VOUT == 3000 && t.on GLASS.STATUS.PUMPOK) = true ∧
    ends (exec (.ntcRequest none) (gls (fun g => { g with ntcDrops := 7 }) (inGrain 32000 (running [(GLASS.NTC.NTCEN, 1)])))) (fun t => t.on GLASS.STATUS.TSTALE) = true ∧
    ends (exec .pumpFault (running [])) (fun t => t.on GLASS.STATUS.PUMPFLT && !t.on GLASS.CTRL.EN && t.bit (IRQ.SPEND.PEND 2) 2) = true := by decide +kernel

/-- Nothing is read by the supervisor but the port's clean state. -/
def quiet (fail : Nat) : TickIn := ⟨none, none, none, none, none, false, false, fail⟩

/-- Source 7 alone, by either detector, with an alarm at its first event; its tick is due at 1024. -/
def tick (f : TampSrc → TampSrc) (fs : List (Fld × Nat)) : State :=
  let s := at1000 ([(TAMP.CFG.EN 7, 1), (TAMP.CFG.D1EN 7, 1), (TAMP.CFG.COMB 7, 1), (TAMP.CFG.N 7, 1)] ++ fs)
  { s with clock := { s.clock with rtc := 1024 }, tamp := { s.tamp with src := s.tamp.src.set 7 (f s.tamp.src[7]), lastTick := 0 } }

/-- R466–R470: a latch is an event, and the first of one an alarm for decision; a failed test is recorded and no event. -/
theorem test_tamper_tick : (tick id []).tamp.lastTick + 1024 ≤ (tick id []).clock.rtc ∧
    ends (exec (.tamperTick (quiet 0)) (tick (fun x => { x with latch1 := true }) [])) (fun t => t.tamp.src[7].comb && !t.tamp.src[7].latch1 && t.second.length == 1) = true ∧
    ends (exec (.tamperTick (quiet 0)) (tick (fun x => { x with latch1 := true }) [(TAMP.CFG.N 7, 2)])) (fun t => t.second.length == 0 && t.tamp.src[7].hist == [1024]) = true ∧
    (let s := tick (fun x => { x with latch1 := true }) []
     ends (exec (.tamperTick (quiet 128)) { s with tamp := { s.tamp with test := 128 } }) (fun t => !t.tamp.src[7].comb && t.second.length == 0 &&
       t.bit TAMP.TESTRES.DONE 7 && t.bit TAMP.TESTRES.FAIL 7 && t.bit TAMP.STICKY.DETFLT 7)) = true := by decide +kernel

/-- R462, R463, R465, R471: latches, a test at OWNER level, the crack loop's readings and pulses. -/
theorem test_tamper_inputs : ends (exec .supplyGlitch (at1000 [])) (fun t => t.tamp.src[4].latch1) = true ∧ ends (exec .testPortLeaveReset (at1000 [])) (fun t => t.tamp.src[7].latch1) = true ∧
    2 ≤ (running []).level ∧ ends (exec (.tamperTest (.cc 0) 0x181) (running [])) (fun t => t.tamp.test == 0x81) = true ∧
    (let s := gls (fun g => { g with crkAt := 0, crkDrops := 3, pulseFails := 1 }) (running [(GLASS.CRKCFG.EN, 1), (GLASS.CRKCFG.PER, 1), (GLASS.CRKBASE.VALID, 1), (GLASS.CRKBASE.R, 1000), (GLASS.CRKCFG.LIM, 10)])
     let s := { s with clock := { s.clock with rtc := 32768 } }
     ends (exec (.crackReading none) s) (fun t => t.on GLASS.CRKSTAT.STALE) &&
     ends (exec (.crackReading (some (-32768))) s) (fun t => t.on GLASS.CRKSTAT.OPEN && t.get GLASS.CRKRES.R == 32768) &&
     ends (exec (.crackReading (some (-1010))) s) (fun t => !t.on GLASS.CRKSTAT.DRIFT) && ends (exec (.crackReading (some (-1011))) s) (fun t => t.on GLASS.CRKSTAT.DRIFT) &&
     ends (exec (.crackPulseCheck false) s) (fun t => t.on GLASS.CRKSTAT.PFAIL) && ends (exec (.crackPulseCheck true) s) (fun t => t.glass.pulseFails == 0)) = true := by
  decide +kernel

/-- R481, R483, R489, R491: a close before and after the production lock, the idle time, a nonce's end, a word of MEAS3. -/
theorem test_sessions : ends (exec .accessClose (at1000 [(ACCESS.LEVEL.PLOCK, 1), (ACCESS.LEVEL.LEVEL, 3)])) (fun t => t.level == 0 && t.bit (IRQ.SPEND.PEND 1) 19) = true ∧
    ends (exec .accessClose (at1000 [])) (fun t => t.level == 2 && t.get (IRQ.SPEND.PEND 1) == 0) = true ∧
    (let s := at1000 [(ACCESS.LEVEL.PLOCK, 1), (ACCESS.LEVEL.LEVEL, 3), (ACCESS.CTRL.IDLE, 1), (ACCESS.MSEL.REG 5, 3), (ACCESS.MSEL.WORD 5, 7)]
     let s := { s with clock := { s.clock with rtc := 1966080 }, access := { s.access with lastAuth := 0, nonce := some (zeros 32, 1966080) } }
     ends (exec .sessionIdleTimeout s) (fun t => t.level == 0) && ends (exec .nonceExpiry s) (fun t => t.access.nonce == none) &&
     ends (exec (.measDataRead (.cc 0)) s) (fun t => t.get (ACCESS.MSEL.WORD 5) == 0)) = true ∧
    (at1000 []).link.owed = false ∧ 16 + 72 ≤ (at1000 []).outFree := by decide +kernel
/-! ## Power, resets, restarts -/

/-- Core 0 holds permit 3, granted; permits 4 and 5 wait. -/
def permits (fs : List (Fld × Nat)) : State :=
  let s := core0 Bank.zero (at1000 ([(PWR.STATE.STATE, 0), (PERMIT.SLOT.STATE 3, 2), (PERMIT.SLOT.HOLDER 3, 8), (PERMIT.SLOT.DRAW 3, 60), (PERMIT.SLOT.STATE 4, 1),
    (PERMIT.SLOT.HOLDER 4, 9), (PERMIT.SLOT.DRAW 4, 1000), (PERMIT.SLOT.CLASS 4, 1), (PERMIT.SLOT.STATE 5, 1), (PERMIT.SLOT.HOLDER 5, 9), (PERMIT.SLOT.DRAW 5, 51)] ++ fs))
  { s with pwr := { s.pwr with queue := [4, 5], grants := [] } }

/-- R498, R499: a permit given back and one of another's, an expiry, grants by class up to the budget of 1050, host absence. -/
theorem test_permits_ended : Claims.AtOnce (permits []) (.cc 0) ∧
    ends (exec (.permitRelease (.cc 0) 3) (permits [])) (fun t => t.get (PERMIT.SLOT.STATE 3) == 0 && t.get PERMIT.REVOKES.COUNT == 0) = true ∧
    ends (exec (.permitRelease (.cc 0) 4) (permits [])) (fun t => t.on PERMIT.STATUS.RELREF && t.get (PERMIT.SLOT.STATE 4) == 1) = true ∧
    ends (exec (.permitExpiry 3) (permits [])) (fun t => t.get (PERMIT.SLOT.STATE 3) == 0 && t.get PERMIT.REVOKES.COUNT == 1 && t.on PERMIT.STATUS.REVOKED) = true ∧
    (permits []).pwr.queue.Nodup ∧ (∀ n ∈ (permits []).pwr.queue, n < 16 ∧ n ∉ (permits []).pwr.grants) ∧
    ends (exec .permitQueuedGrant (permits [])) (fun t => t.pwr.grants == [5] && t.pwr.queue == [4] && t.get (PERMIT.SLOT.STATE 5) == 2) = true ∧
    ends (exec .permitQueuedGrant (permits [(PERMIT.SLOT.DRAW 5, 50)])) (fun t => t.pwr.grants == [5, 4] && t.pwr.queue == []) = true ∧
    idles .permitQueuedGrant (permits [(PERMIT.STATUS.FROZEN, 1)]) = true ∧
    (let s := permits [(PWR.HOSTTO.SEC, 2)]
     ends (exec .hostAbsenceTimeout { s with clock := { s.clock with rtc := 65536 } }) (fun t => t.pwr.absence)) = true := by
  refine ⟨⟨by decide, fun n h => (by cases h)⟩, ?_⟩; decide +kernel

/-- The state after reset, with a warning w grains back. -/
def warned (w : Nat) (fs : List (Fld × Nat)) : State :=
  let s := at1000 ([(PWR.STATE.STATE, 0), (PWR.STATE.SFW, 1), (PERMIT.STATUS.FROZEN, 1)] ++ fs)
  { s with pwr := { s.pwr with warnAt := some (1000 - w) } }

/-- R318, R329, R335, R495: a warning with 2400 mV and with one less; a port held by a core goes into rollback; a closing
snapshot every 64 grains; the end. -/
theorem test_supply_failure :
    ends (exec (.supplyFailWarning 2400) (at1000 [(CAPT.STATUS.STATE, 3)])) (fun t => t.on PWR.STATE.SFW && t.on PWR.STATE.CELLOK && t.on PERMIT.STATUS.FROZEN &&
      t.on CAPT.STATUS.INCOMPLETE && t.get (LEASE.HOLD.HOLDER 0) == 0x10 && decide (.final ∈ t.jrnl.due) && t.on PQ.STATUS.SUPINT) = true ∧
    ends (exec (.supplyFailWarning 2399) (at1000 [(LEASE.HOLD.STATE 0, 1), (LEASE.HOLD.HOLDER 0, 8)])) (fun t => !t.on PWR.STATE.CELLOK &&
      t.get (LEASE.HOLD.STATE 0) == 2 && t.on (LEASE.HOLD.SUPWAIT 0)) = true ∧
    ends (exec .closingSnapshot (warned 64 [])) (fun t => decide (.closing ∈ t.jrnl.due)) = true ∧ idles .closingSnapshot (warned 63 []) = true ∧
    ends (exec .supplyFailClear (warned 64 [])) (fun t => !t.on PWR.STATE.SFW && t.pwr.warnAt == none && t.bit (IRQ.SPEND.PEND 1) 13) = true := by
  decide +kernel

/-- R509, R510: requests with and without their key; a core serves its own watchdog only; its warning and its expiry. -/
theorem test_resets_decided : Claims.AtOnce (permits []) (.cc 0) ∧
    ends (exec .testPortReset (at1000 [])) (fun t => t.pwr.reset == some ⟨0x0B, 1000⟩) = true ∧
    ends (exec (.resetRequest (.cc 0) 0x1C3) (permits [])) (fun t => t.pwr.reset == some ⟨7, 1000⟩) = true ∧ idles (.resetRequest (.cc 0) 0x3C) (permits []) = true ∧
    idles (.watchdogServe (.cc 0) 1 0x5A) (permits []) = true ∧
    (let s := permits []
     let s := { s with clock := { s.clock with now := 204800 * s.get (RST.WDCFG.PERIOD 0) } }
     ends (exec (.watchdogServe (.cc 0) 0 0x5A) s) (fun t => t.pwr.served[0] == s.clock.now) &&
     ends (exec (.watchdogWarn 0) s) (fun t => t.bit (IRQ.PPEND.PEND 0) 9) &&
     ends (exec (.watchdogExpiry 0) s) (fun t => t.pwr.reset == some ⟨5, 1000⟩ && t.get SYS.FAULT.CODE == 0x20) &&
     idles (.watchdogExpiry 0) { s with clock := { s.clock with now := s.clock.now - 1 } }) = true ∧
    (let s := at1000 []
     ends (exec .zeroizeReset { s with tamp := { s.tamp with zeroized := true } }) (fun t => t.pwr.reset == some ⟨0x0A, 1000⟩ && !t.tamp.zeroized)) = true := by
  refine ⟨⟨by decide, fun n h => (by cases h)⟩, ?_⟩; decide +kernel

/-- In BIVOUAC, saved or not. -/
def bivouac (saved : Bool) (fs : List (Fld × Nat)) : State :=
  let s := at1000 fs
  { s with power := .bivouac, pwr := { s.pwr with saved := saved }, clock := { s.clock with pllLock := false } }

/-- Witnesses of Restarts: no open write, a reset 48 grains after its decision and not one sooner, the host die's supply, the
states before each return. -/
theorem test_restarts : Claims.Settled (at1000 []) ∧
    (let s := at1000 []
     let s := { s with pwr := { s.pwr with reset := some ⟨7, 952⟩ }, link := { s.link with hvdd := true } }
     s.power = .on ∧ s.link.hvdd = true ∧ (952 : Nat) + 48 ≤ s.clock.grain ∧ s.clock.tie = none ∧
     idles .resetAssert { s with pwr := { s.pwr with reset := some ⟨7, 953⟩ }, jrnl := { s.jrnl with due := [.prereset] } } = true) ∧
    ((bivouac true []).power = .bivouac ∧ (bivouac true []).pwr.saved = true ∧ (bivouac false []).pwr.saved = false) ∧
    (State.reset.power = .on ∧ State.reset.clock.pllLock = false) := by
  refine ⟨by unfold Claims.Settled; decide +kernel, ?_⟩; decide +kernel

/-- R72: the grain count after the worked example's 1000 SLOW cycles in BIVOUAC. -/
theorem test_rebuild : rebuild ⟨5000, 81920000, 1100⟩ 6000 = (81920976, 4700) := by decide +kernel

/-- R500, R503–R505, R417: into BIVOUAC at a dropout and after 512 grains, into OFF; a window that counts a code above its
limit; a WAKE line's edge. -/
theorem test_bivouac : ends (exec .bulkDropout (warned 1 [(PWR.STATE.CELLOK, 1)])) (fun t => t.power == .bivouac && t.pwr.saved && t.clock.tie == some ⟨t.clock.rtc, t.clock.grain, t.clock.phase⟩) = true ∧
    ends (exec .bivouacEntryDecide (warned 512 [(PWR.STATE.CELLOK, 1)])) (fun t => t.power == .bivouac) = true ∧
    idles .bivouacEntryDecide (warned 511 [(PWR.STATE.CELLOK, 1)]) = true ∧
    ends (exec .railCollapse (warned 1 [(PWR.STATE.CELLOK, 0)])) (fun t => t.power == .off && t.mem == []) = true ∧
    ends (exec .cellExhausted (bivouac true [])) (fun t => t.power == .off) = true ∧
    (let s := bivouac true [(PWR.BVCFG.PERIOD, 1), (PWR.BVCFG.EN, 1), (PWR.BVCH.SEL 0, 0), (PWR.BVTHR.LO 0, 10), (PWR.BVTHR.HI 0, 100)]
     let s := { s with clock := { s.clock with rtc := 8192 } }
     s.part.bvChannel 0 && ends (exec (.bivouacWindow [101, 0, 0, 0, 0, 0, 0, 0] (quiet 0) true) s) (fun t =>
       t.get PWR.BVWIN.COUNT == 1 && t.get (PWR.BVLAST.CODE 0) == 101 && t.get (PWR.BVCNT.COUNT 0) == 1 && t.pwr.lastWindow == 8192) &&
     ends (exec (.bivouacWindow [100, 0, 0, 0, 0, 0, 0, 0] (quiet 0) true) s) (fun t => t.get (PWR.BVCNT.COUNT 0) == 0)) = true ∧
    (match exec (.bivouacWindow [1] (quiet 0) true) (bivouac true []) with | .refused .illFormed => true | _ => false) = true ∧
    ends (exec (.lineEdgeLatch 1 true) (bivouac true [(IRQ.XCFG.EDGE 1, 1), (IRQ.XCFG.WAKE 1, 1), (GLASS.VIEW.EN, 1), (GLASS.VIEW.LINES, 1)])) (fun t =>
      t.bit IRQ.XSTAT.LATCH 1 && t.pwr.alarmWatch == 256 && t.on GLASS.STATUS.VIEWON && t.glass.viewEnd == some 327680) = true := by decide +kernel

/-! ## The host link, orders and views -/

/-- A parcel of SEQ 5 in slot 0, which is EXP; the host die answers. -/
def parcel (type : Nat) (body : List Byte) (fs : List (Fld × Nat)) : State :=
  let s := at1000 ([(HOST.EXP.SEQ, 5), (HOST.STATUS.EXPVALID, 1)] ++ fs)
  { s with link := { s.link with hvdd := true, live := true, inb := [⟨0, type, 5, body⟩] } }

/-- An order parcel. -/
def order (code : Nat) (body : List Byte) (fs : List (Fld × Nat)) : State := parcel 2 (leBytes 2 code ++ zeros 2 ++ body) fs

/-- The last parcel out has a type, a code and a sub-code, and the state a property. -/
def answersWith (c : Instr) (s : State) (type code sub : Nat) (p : State → Bool) : Bool :=
  ends (exec c s) (fun t => (match t.link.outb.getLast? with
    | some b => byteAt b 2 == type && byteAt b 16 == code && byteAt b 17 == sub
    | none => false) && p t)

/-- The command accepts the parcel. -/
def accepts (c : Instr) (s : State) (p : State → Bool) : Bool := answersWith c s 0x81 0 0 (fun t => p t && t.get HOST.EXP.SEQ == 6)

/-- The command refuses it with FAULT 0x06 and a sub-code. -/
def refuses (c : Instr) (s : State) (sub : Nat) : Bool := answersWith c s 0x85 6 sub (fun t => t.get HOST.EXP.SEQ == 6)

/-- A parcel as the bus carries it. -/
def wire (type : Nat) (body : List Byte) : List Byte := parcelBytes type 0 7 body

/-- R516–R520, R522, R530: silence before the die answers, status, an empty read, a discarded command, a parcel taken, one with
a wrong check, a read that takes the oldest; HVDD lost. -/
theorem test_host_bus : (let s := parcel 3 [1, 0, 0, 0] []
     let dead := { s with link := { s.link with live := false, hvdd := false } }
     idles .spiStatus dead && ends (exec .hvddUp dead) (fun t => t.link.hvdd && !t.link.live) && ends (exec .hostDieReady s) (fun t => t.link.live) &&
     ends (exec .hvddLoss s) (fun t => t.link.inb == [] && !t.link.live) &&
     ends (exec .spiStatus s) (fun t => t.readData == BitVec.ofNat 32 s.statusWord) && ends (exec .spiInvalidCommand s) (fun t => t.get HOST.NDISC.COUNT == 1) &&
     ends (exec (.spiRead false) { s with link := { s.link with outb := [[1, 2], [3]] } }) (fun t => t.link.miso == [1, 2] && t.link.outb.length == 2) &&
     ends (exec (.spiRead true) { s with link := { s.link with outb := [[1, 2], [3]] } }) (fun t => t.link.outb == [[3]] && t.link.last == some [1, 2])) = true := by
  decide +kernel

/-- R516–R520: at the boundary of the form: 16 bytes are a parcel, a wrong check and 15 bytes are none, a boot state takes none. -/
theorem test_host_write : (let s := parcel 3 [1, 0, 0, 0] []
     let b := wire 4 []
     let bad := wire 4 [] |>.set 7 1
     s.mstate = 1 ∧ s.inFree = 7 ∧ b.length = 16 ∧
     ends (exec (.spiWrite 16 b) s) (fun t => t.link.inb.length == 2 && t.get HOST.NBAD.COUNT == 0) = true ∧
     ends (exec (.spiWrite 16 bad) s) (fun t => t.link.inb.length == 1 && t.get HOST.NBAD.COUNT == 1 && t.link.outb.length == 1) = true ∧
     ends (exec (.spiWrite 15 (b.take 15)) s) (fun t => t.link.inb.length == 1 && t.get HOST.NBAD.COUNT == 1) = true ∧
     ends (exec (.spiWrite 17 b) s) (fun t => t.get HOST.NDISC.COUNT == 1 && t.link.inb.length == 1) = true ∧
     ends (exec (.spiWrite 16 b) { s with clock := { s.clock with pllLock := false } }) (fun t => t.link.inb.length == 1) = true) := by decide +kernel

/-- R531: four words composed and sent; a read of the inbound slot advances the word. -/
theorem test_compose : (let s := parcel 3 [1, 0, 0, 0] []
     ends (exec (.outboundLenWrite 4) s) (fun t => t.get HOST.OBLEN.LEN == 4) &&
     ends (exec (.outboundDataWrite 0x04030201) s) (fun t => t.link.words == [1, 2, 3, 4]) &&
     ends (exec (.outboundGo 0x8301) { s with link := { s.link with words := [1, 2, 3, 4] }, }) (fun t => t.link.words == [] && t.link.outb.length == 1 && t.get HOST.OUTSEQ.SEQ == 1) &&
     idles (.outboundGo 0x8300) s && ends (exec (.outboundGo 0x8303) s) (fun t => t.link.inb == [] && t.link.outb.length == 1) &&
     ends (exec (.inboundDataRead (.cc 0)) s) (fun t => t.readData == 0x0003A55A && t.get (HOST.IBSEL.WORD 5) == 1)) = true := by decide +kernel

/-- R521, R524: a SEQ ahead, the repetition of one answered, one behind without a stored answer; a parcel of another row waits. -/
theorem test_sequence : (let s := order 0x0B [] [(HOST.EXP.SEQ, 4)]
     let behind := order 0x0B [] [(HOST.EXP.SEQ, 6)]
     answersWith .orderClose s 0x85 3 0 (fun t => t.get HOST.EXP.SEQ == 4 && t.get HOST.NGAP.COUNT == 1 && t.link.inb == []) &&
     answersWith .orderClose { behind with link := { behind.link with stored := [⟨5, 0x81, answerPrefix 0 0 5⟩] } } 0x81 0 0 (fun t => t.get HOST.NDUP.COUNT == 1) &&
     answersWith .orderClose behind 0x85 4 0 (fun t => t.get HOST.EXP.SEQ == 6) && idles .parcelAck s && idles .viewStartReport s && idles .parcelLoad s) = true := by
  decide +kernel

/-- R525: orders of one code at the edge of each condition. -/
theorem test_transient_orders : Claims.Ready (order 7 [0xC3] []) ⟨0, 2, 5, [7, 0, 0, 0, 0xC3]⟩ 32 ∧
    (refuses .orderStart (order 0x0C [] []) 3 && refuses .orderStart (order 1 (zeros 31) [(NRG.BCSTAT.BCRUN, 0)]) 3 &&
     refuses .orderStart (order 1 (zeros 32) [(PWR.STATE.STATE, 0)]) 4 && accepts .orderStart (order 1 (zeros 32) [(NRG.BCSTAT.BCRUN, 0)]) (fun t => t.pwr.start == some (5, zeros 32)) &&
     refuses .orderInstall (order 2 (zeros 7) []) 3 && refuses .orderInstall (order 2 (zeros 8) []) 4 && accepts .orderRemove (order 3 [2] []) (fun t => t.laneOrders == [⟨2, none, false⟩]) &&
     refuses .orderRemove (order 3 [] []) 3 && refuses .orderRemove (order 3 [0x10] []) 4 && refuses .orderRemove (order 3 [6] []) 3) = true ∧
    (refuses .orderCue (order 4 (zeros 15) []) 3 && refuses .orderSetUtc (order 5 (zeros 11) []) 3 && accepts .orderSetUtc (order 5 (leBytes 4 9 ++ leBytes 8 64000) []) (fun t => t.utcSet == some (9, 64000)) &&
     refuses .orderSelfcal (order 6 [] []) 3 && accepts .orderSelfcal (order 6 [1] ((PWR.STATE.STATE, 0) :: oneSlot)) (fun t => t.selfCal.isSome) &&
     refuses .orderReset (order 7 [0xC2] []) 3 && accepts .orderReset (order 7 [0xC3] []) (fun t => t.pwr.reset == some ⟨8, 1000⟩)) = true ∧
    (let s := parcel 4 (leBytes 6 9) []
     refuses .parcelAck (parcel 4 (zeros 5) []) 3 && accepts .parcelAck { s with jrnl := { s.jrnl with cseq := 9 } } (fun t => t.jrnl.ackseq == 8 && t.on JRNL.STATUS.ACKHI) &&
     refuses .parcelLoad (parcel 1 (leBytes 4 0 ++ leBytes 4 4 ++ zeros 5) []) 0x11 &&
     accepts .parcelLoad (parcel 1 (leBytes 4 0 ++ leBytes 4 4 ++ [1, 2]) []) (fun t => t.link.parts == [(0, 2)] && t.byte 0x10540001 == 2)) = true := by
  refine ⟨by unfold Claims.Ready; decide +kernel, ?_⟩; decide +kernel

/-- R482–R485: the passphrase whose digest is the verifier; one that is too short, one while a back-off runs, a wrong one; a
challenge; an answer without a nonce; a close. -/
theorem test_access_orders : Claims.Ready (order 8 (zeros 8) []) ⟨0, 2, 5, [8, 0, 0, 0, 0, 0, 0, 0, 0, 0, 0, 0]⟩ 40 ∧
    (refuses .orderOpenService (order 8 (zeros 7) []) 3 && refuses .orderOpenService (order 8 (zeros 33) []) 3 &&
     refuses .orderOpenService (order 8 (zeros 8) [(ACCESS.LEVEL.LOCKED, 1)]) 4 &&
     (let s := order 8 (zeros 8) []
      refuses .orderOpenService { s with access := { s.access with retryAt := 1 } } 5) &&
     answersWith .orderOpenService (order 8 (zeros 8) []) 0x85 6 1 (fun t => t.get ACCESS.FAIL.COUNT == 1 && t.access.retryAt == 32768)) = true ∧
    (refuses .orderChallenge (order 9 [1] []) 3 && refuses .orderAnswer (order 0x0A (2 :: zeros 127) []) 3 && refuses .orderAnswer (order 0x0A (3 :: zeros 63) []) 3 &&
     answersWith .orderAnswer (order 0x0A (3 :: zeros 64) []) 0x85 6 1 (fun t => t.access.nonce == none) &&
     accepts .orderClose (order 0x0B [] [(ACCESS.LEVEL.PLOCK, 1), (ACCESS.LEVEL.LEVEL, 2)]) (fun t => t.level == 0)) = true := by
  refine ⟨by unfold Claims.Ready; decide +kernel, ?_⟩; decide +kernel

/-- R485: the right passphrase goes to the second path and is not answered yet. -/
theorem test_open_service : (let s := order 8 (zeros 8) []
    let key := sha256 (leBytes 4 s.part.serialLo ++ leBytes 4 s.part.serialHi ++ leBytes 4 0 ++ zeros 8)
    ends (exec .orderOpenService { s with access := { s.access with verifier := some key } }) (fun t => t.second.length == 1 && t.link.taken && t.link.outb == [])) = true := by
  decide +kernel

/-- R258, R366, R367: each durable order accepted once, and at the edges: its form, the level, its own condition, the port. -/
theorem test_durable_orders : Claims.Ready (order 0x0101 [7] []) ⟨0, 2, 5, [1, 1, 0, 0, 7]⟩ 12 ∧
    (accepts .orderTariff (order 0x0101 [7] []) (fun t => t.jrnl.nextord == State.reset.jrnl.nextord + 1 && t.cairn.orders.length == 1 && t.get HOST.DWMARK.SEQ == 5) &&
     refuses .orderTariff (order 0x0101 [8] []) 3 && refuses .orderTariff (order 0x0101 (zeros 97) []) 3 &&
     accepts .orderAdjust (order 0x0102 ([63, 8] ++ zeros 14) []) (fun t => t.cairn.orders.length == 1) && refuses .orderAdjust (order 0x0102 ([63, 9] ++ zeros 14) []) 3 &&
     accepts .orderTamperClear (order 0x0103 [1] []) (fun t => t.cairn.orders.length == 1) &&
     refuses .orderTamperClear (order 0x0103 [1] [(ACCESS.LEVEL.PLOCK, 1), (ACCESS.LEVEL.LEVEL, 1)]) 1) = true ∧
    (accepts .accessSetVerifier (order 0x0104 (1 :: zeros 32) []) (fun t => t.cairn.orders.length == 1) && refuses .accessSetVerifier (order 0x0104 (1 :: zeros 31) []) 3 &&
     accepts .accessRemoveVerifier (order 0x0104 [2] []) (fun t => t.cairn.orders.length == 1) &&
     accepts .accessProductionLock (order 0x0104 (3 :: zeros 32) []) (fun t => t.cairn.orders.length == 1) &&
     refuses .accessProductionLock (order 0x0104 (3 :: zeros 32) [(ACCESS.LEVEL.PLOCK, 1)]) 4 &&
     accepts .accessSetIdle (order 0x0104 [4, 9] []) (fun t => t.cairn.orders.length == 1) && refuses .accessSetIdle (order 0x0104 [5, 9] []) 3 &&
     ends (exec .orderTariff (order 0x0101 [7] [(LEASE.HOLD.STATE 0, 1), (LEASE.HOLD.HOLDER 0, 8)])) (fun t => t.on (LEASE.HOLD.SUPWAIT 0) && t.link.taken && t.link.outb == [])) = true := by
  refine ⟨by unfold Claims.Ready; decide +kernel, ?_⟩; decide +kernel

/-- A READ parcel. -/
def view (v : Nat) (body : List Byte) (fs : List (Fld × Nat)) : State := parcel 3 (leBytes 2 v ++ zeros 2 ++ body) fs

/-- The command answers with the view's data. -/
def shows (c : Instr) (s : State) (data : List Byte) : Bool :=
  ends (exec c s) (fun t => match t.link.outb.getLast? with | some b => byteAt b 2 == 0x82 && b.drop 28 == data | none => false)

/-- R527: the inventory of R40 and R42, and each other view at the edge of its form. -/
theorem test_views : Claims.Ready (view 9 [] []) ⟨0, 3, 5, [9, 0, 0, 0]⟩ 12 ∧
    (shows .viewInventory (view 1 [] []) ([0x4D532401, 3, 0x1000, 1, 0x031F011F, 0x31111333, 0x103, 0, 0x01FFFFFF, 0xF, 0x41F, 1, 0].flatMap (leBytes 4)) &&
     refuses .viewInventory (view 10 [] []) 3 && refuses .viewInventory (parcel 3 [1, 0, 0] []) 3 &&
     shows .viewTotals (view 3 [71, 1, 1] []) (zeros 108) && refuses .viewTotals (view 3 [72, 1, 1] []) 3 && refuses .viewTotals (view 3 [0, 25, 1] []) 3 && refuses .viewTotals (view 3 [0, 1, 2] []) 3) = true ∧
    (shows .viewInterrupts (view 4 [] [(IRQ.HPEND.PEND 0, 5)]) (leBytes 4 5 ++ zeros 8) && shows .viewQuantityStore (view 5 (leBytes 4 0xFFFFC ++ leBytes 2 4) []) (zeros 4) &&
     refuses .viewQuantityStore (view 5 (leBytes 4 0xFFFFC ++ leBytes 2 8) []) 3 && refuses .viewQuantityStore (view 5 (leBytes 4 0 ++ leBytes 2 2) []) 3) = true ∧
    (shows .viewUnit (view 6 [0x00, 9, 1] []) [0x0F, 0, 0, 0] && refuses .viewUnit (view 6 [0x00, 0, 65] []) 3 && refuses .viewUnit (view 6 [0x05, 0, 1] []) 6 &&
     refuses .viewUnit (view 6 [0x00, 0xFF, 1] []) 7 && refuses .viewCairn (view 7 [6, 0, 0, 1, 0] []) 3 && refuses .viewQuote (view 8 (zeros 31) []) 3 &&
     ends (exec .viewQuote (view 8 (zeros 32) [])) (fun t => t.access.quotes.length == 1 && t.link.inb == []) && shows .viewStartReport (view 9 [] []) State.reset.link.report) = true := by
  refine ⟨by unfold Claims.Ready; decide +kernel, ?_⟩; decide +kernel

/-! ## Registers, steps, forms -/

/-- Core 0 runs, in grain 1000. -/
def reg0 (fs : List (Fld × Nat)) : State := core0 Bank.zero (at1000 fs)

/-- Registers of two fields have no field twice; nothing hangs on a read of IRQ.XCFG. -/
theorem test_registers : Claims.AtOnce (reg0 []) (.cc 0) ∧
    ends (exec (.registerWrite (.cc 0) 0x30 0xFF 0) (reg0 [])) (fun t => t.get (CSR.ECAUSE.CODE 0) == 0x0D) = true ∧
    ends (exec (.registerWrite (.cc 0) 0x05 0 0) (reg0 [])) (fun t => t.get (CSR.ECAUSE.CODE 0) == 0x0E) = true ∧
    ends (exec (.registerWrite (.cc 0) 0x30 0x02 5) (reg0 [])) (fun t => t.get (CSR.ECAUSE.CODE 0) == 0x05) = true ∧
    ((reg0 []).busDefined 0x01 0x12 = true ∧ (((reg0 []).busCells 5 0x01 0x12).map Cell.fld).Nodup ∧ (reg0 []).levelGuard 0x01 0x12 1 ≤ (reg0 []).level ∧
      ((reg0 []).unitWrite 5 8 0x01 0x12 1).isNone = true) ∧
    ends (exec (.splitLowRead (.cc 0) 0x01 0x00) (inGrain 0x700000005 (reg0 []))) (fun t => t.readData == 5 && t.get TIME.GRAINHI.GHI == 7) = true ∧
    ends (exec (.counterReadClear (.cc 0) 0x00 0x14) (reg0 [(SYS.FCOUNT.COUNT, 9), (SYS.FCOUNT.SAT, 1)])) (fun t => t.get SYS.FCOUNT.COUNT == 0 && t.readData == 0x80000009) = true := by
  refine ⟨⟨by decide, fun n h => (by cases h)⟩, ?_⟩; decide +kernel

/-- Reading SYS.FCOUNT does nothing but clear what is read. -/
theorem test_plain_read : ∀ x : State, x.latch 5 0x00 0x14 = x ∧ x.afterRead 5 0x00 0x14 = x := fun _ => ⟨rfl, rfl⟩

/-- A canonical state with fields and bytes listed, from which a step goes on. -/
theorem test_canonical : (mems 0x10400100).Canonical ∧ ends (step { mems 0x10400100 with pending := [.st (.cc 0) 1 1 0] }) (fun t => t.byte 0x10400101 == 1) = true := by
  unfold State.Canonical; decide +kernel

/-- A step runs the front of the queue; an empty one lets a cycle pass, a SLOW cycle in BIVOUAC, nothing in OFF (R24). -/
theorem test_step : (let s := at1000 []
     (ends (step { s with pending := [.xtalRefLost, .nop (.cc 0)] }) (fun t => t.pending == [.nop (.cc 0)] && t.on SYS.STATUS.CLKDEG)) &&
     ends (step s) (fun t => t.clock.now == 1 && t.clock.slowPh == 1 && t.clock.phase == 1 && t.clock.rtc == 0) &&
     ends (step { s with clock := { s.clock with slowPh := 6249, phase := 6399 } }) (fun t => t.clock.rtc == 1 && t.clock.slowPh == 0 && t.clock.phase == 6399) &&
     ends (step { s with power := .bivouac }) (fun t => t.clock.rtc == 1 && t.clock.now == 0) && ends (step { s with power := .off }) (fun t => decide (t = { s with power := .off }))) = true := by
  decide +kernel

/-- The table gives no bits: no word spells a command, and nothing is put into the queue. -/
theorem test_no_words : decodeTableWord 32 0x0CA00000 = none ∧ State.reset.withFetchWord 32 0x0CA00000 = State.reset := by decide

/-- R181, R204: words of the worked program of R229, and a word of an operation code that is not assigned. -/
theorem test_words : qdecode 0x0CA00000 = some ⟨.both, 1, .plain⟩ ∧ qdecode 0x50200000 = some ⟨.both, 1, .plain⟩ ∧
    qdecode 0x60007F02 = some ⟨.both, 1, .loop 127 2⟩ ∧ (qdecode 0xB8204005).map (fun d => (d.profile, d.cost)) = some (.lane, 2) ∧
    qdecode 0x44200021 = some ⟨.both, 1, .plain⟩ ∧ qdecode 0x0CA00085 = some ⟨.both, 1, .plain⟩ ∧ qdecode 0x50C49420 = some ⟨.both, 1, .plain⟩ ∧
    qdecode 0x08E024C0 = some ⟨.both, 20, .plain⟩ ∧ (qdecode 0x2CE02000).map QDec.cost = some 1 ∧ qdecode 0xE4000400 = some ⟨.both, 1, .endRun⟩ ∧
    qdecode 0 = none := by decide

/-- R229: the root of a mean square of 0.125. -/
theorem test_rms : gives0 (.qsqrt (.cc 0) 9 1) (core0 (scalars [(1, 0x10000000)]) (at1000 [])) 0x2D413CCC = true := by decide +kernel

/-- Each check of WellFormed refuses a command and passes its neighbour. -/
theorem test_well_formed :
    ([Instr.loop (.lane 2) false 1 0 0, .stvc (.lane 2) 0 21 .grain 0 0, .leaseTake (.cc 0) 9 6, .leaseRenew (.cc 0) 9 12, .leaseRelease (.cc 0) 9 7, .leaseQuery (.cc 0) 9 63,
      .bivouacWindow (List.replicate 7 0) ⟨none, none, none, none, none, false, false, 0⟩ true].map Instr.wellFormed = List.replicate 7 false) ∧
    ([Instr.loop (.lane 2) false 0 0 0, .loop (.lane 2) true 1 0 0, .stvc (.lane 2) 0 20 .grain 0 0, .leaseTake (.cc 0) 9 5, .leaseRenew (.cc 0) 9 8, .leaseRelease (.cc 0) 9 11,
      .bivouacWindow (List.replicate 8 0) ⟨none, none, none, none, none, false, false, 0⟩ true].map Instr.wellFormed = List.replicate 7 true) := by decide

/-- The same for the register writes that name an index. -/
theorem test_well_formed_index :
    (Instr.irqMaskWrite 0x13 0).wellFormed = false ∧ (Instr.irqMaskWrite 0x14 0).wellFormed = true ∧ (Instr.irqPendClear 0x13 0).wellFormed = false ∧ (Instr.irqPendClear 0x12 0).wellFormed = true ∧
    (Instr.activeBankWrite false 0x58 0).wellFormed = false ∧ (Instr.activeBankWrite false 0x57 0).wellFormed = true ∧ (Instr.activeBankWrite true 0x60 0).wellFormed = false ∧
    (Instr.calibrationWrite (.cc 0) 0x98 0).wellFormed = false ∧ (Instr.calibrationWrite (.cc 0) 0x57 0).wellFormed = true := by decide

/-! ## Words, the decimation chain, posting -/

/-- R185, R229: the words of the worked program, and what they spell. -/
theorem test_worked_words : qcommand (.lane 2) 0x0CA00000 false = some (.addi (.lane 2) 5 0 0) ∧ qcommand (.lane 2) 0x50200000 false = some (.aclr (.lane 2) 1) ∧
    qcommand (.lane 2) 0x60007F02 false = some (.loop (.lane 2) false 0 127 2) ∧
    qcommand (.lane 2) 0xB8204005 false = some (.stvi (.lane 2) 1 0 .pitch 0 5) ∧
    qcommand (.lane 2) 0x44200021 false = some (.vmac (.lane 2) 1 1 1 0) ∧ qcommand (.lane 2) 0x50C49420 false = some (.arnd (.lane 2) 6 1 9) ∧
    qcommand (.lane 2) 0x08E024C0 false = some (.qsqrt (.lane 2) 7 6) ∧ qcommand (.lane 2) 0x2CE02000 true = some (.st (.lane 2) 7 0 0x100) ∧
    qcommand (.lane 2) 0xE4000400 false = some (.endRun (.lane 2)) ∧ qcommand (.cc 0) 0xB8204005 false = none := by decide

/-- R185, R187, R205–R228: a word of each other group, its fields filled in by hand; a word of the control profile spells nothing
on a lane. -/
theorem test_group_words : qcommand (.cc 1) 0x04600422 false = some (.sub (.cc 1) 3 1 2) ∧ qcommand (.cc 1) 0x0463A020 false = some (.sra (.cc 1) 3 1 7) ∧
    qcommand (.cc 1) 0x40401064 false = some (.vqmul (.cc 1) 2 3 4) ∧ qcommand (.cc 1) 0x48A184C0 false = some (.vext (.cc 1) 5 6 3) ∧
    qcommand (.cc 1) 0x545F8864 false = some (.msu (.cc 1) 2 3 4 63) ∧ qcommand (.cc 1) 0xC4428400 false = some (.leaseRenew (.cc 1) 2 5) ∧
    qcommand (.cc 1) 0xC8401C64 false = some (.permit (.cc 1) 2 3 4 3 true) ∧ qcommand (.cc 1) 0x1CFFFFE0 false = some (.himm (.cc 1) 7 0xFFFF) ∧
    qcommand (.cc 1) 0x313FFF88 true = some (.vld (.cc 1) 9 8 0xFFFC true) ∧ qcommand (.cc 1) 0xE0401081 false = some (.csrSet (.cc 1) 2 1 4) ∧
    qcommand (.cc 1) 0x803FFFE2 false = some (.ifltu (.cc 1) 1 2 0xFFFF) ∧ qcommand (.cc 1) 0x8BFFFFC0 false = some (.call (.cc 1) 31 0xFFFE) ∧
    qcommand (.cc 1) 0xAC241E03 false = some (.uclr (.cc 1) 1 0x20 0xF0 3) ∧ qcommand (.lane 4) 0xB454BFE4 false = some (.stvc (.lane 4) 2 20 .strided 511 4) ∧
    qcommand (.lane 4) 0xC03F8060 false = some (.jacc (.lane 4) 1 3 63) ∧ qcommand (.cc 1) 0xE4029000 false = some (.trap (.cc 1) 5) ∧
    qcommand (.cc 1) 0xD0010080 false = some (.mext (.cc 1) 2 4) ∧ qcommand (.lane 4) 0xD4000460 false = some (.bswap (.lane 4) 3 true) ∧
    qcommand (.lane 4) 0xCC2001E0 false = some (.cue (.lane 4) 1 15) ∧ qcommand (.lane 4) 0xE4029000 false = none := by decide

/-- The CIC of order 3 after two grains of the same bits. -/
def twice (bits : BitVec 400) : List Word := (Cic.grain 3 [] bits (Cic.grain 3 [] bits Cic.zero).1).2

/-- R147: as many ones as zeros give 0, ones alone give 2 ρ − 1 = 1, held to Q1.31, zeros −1. -/
theorem test_cic : twice (BitVec.ofNat 400 ((2 ^ 400 - 1) / 3)) = List.replicate 8 0 ∧ twice (BitVec.allOnes 400) = List.replicate 8 0x7FFFFFFF ∧
    twice 0 = List.replicate 8 0x80000000 := by decide +kernel

/-- R112, R117, R153: the middle of three, 1 % of full scale in ppm, a sum held to Q1.31 with its mark. -/
theorem test_arithmetic : median (-5) 9 3 = 3 ∧ median 9 9 (-1) = 9 ∧ codesToPpm 1 (2 ^ 31 * 5 * 10 ^ 4) (8 * 10 ^ 6) = 10000 ∧
    firOut (fun _ => 2 ^ 23) [0x7FFFFFFF, 0x7FFFFFFF] = (0x7FFFFFFF, true) ∧ firOut (fun _ => 2 ^ 22) [0x40000000, 0x40000000] = (0x40000000, false) := by
  decide +kernel

/-- Witnesses of the posting of blocks: one that is whole since 320 grains, one since 319, one whose last straddling window is
evaluated; a window aligned to no UTC. -/
theorem test_postable : (at1000 []).postable 680 = true ∧ (at1000 []).postable 681 = false ∧
    (let s := at1000 []
     ({ s with pq := { s.pq with pos := 256 } } : State).postable 1000) = true ∧
    (let s := at1000 [(TIME.UTCSTAT.VALID, 1)]
     let s := { s with pq := { s.pq with f10End := 1000, f10Unsync := true, f10 := [(300 * 2 ^ 32, 300 * 2 ^ 32 + 320000 * 2 ^ 22, true)] } }
     ends (exec .f10WindowEnd s) (fun t => !t.pq.f10Unsync)) = true := by decide +kernel
end Sys2Proof.Tests
end

/-! SUPPORT. What every command keeps, operation by operation: the canonical forms, the queue, the part, and the order
of the free values. Each lemma follows the branches of its operation's definition. -/

namespace Sys2Proof.Machine

/-- t comes from s by writes that keep the canonical forms; the queue and the part are those of s, and the counter of
the free values has not gone back. -/
structure Keeps (s t : State) : Prop where
  canonical : s.Canonical → t.Canonical
  pending : t.pending = s.pending
  part : t.part = s.part
  free : s.free ≤ t.free

/-- As `Keeps`, for an operation that may answer no state. -/
inductive KeepsOpt (s : State) : Option State → Prop
  | none : KeepsOpt s none
  | some {t : State} (h : Keeps s t) : KeepsOpt s (some t)

/-- As `Keeps`, for the body of an instruction: a fault changes nothing here. -/
inductive KeepsEff (s : State) : Except Trap Eff → Prop
  | error {f : Trap} : KeepsEff s (.error f)
  | ok {e : Eff} (h : Keeps s e.st) : KeepsEff s (.ok e)

/-- As `Keeps`, for the outcome of a command: a stop has no next state. -/
inductive KeepsOut (s : State) : Host.Outcome State Fault Refusal → Prop
  | next {t : State} (h : Keeps s t) : KeepsOut s (.next t)
  | fault {f : Fault} : KeepsOut s (.fault f)
  | refused {x : Refusal} : KeepsOut s (.refused x)

section
variable {s₀ s t : State}

/-! ## How operations compose -/

theorem Keeps.refl (s : State) : Keeps s s := ⟨id, rfl, rfl, Nat.le_refl _⟩

theorem Keeps.trans (h : Keeps s₀ s) (h' : Keeps s t) : Keeps s₀ t :=
  ⟨fun c => h'.canonical (h.canonical c), h'.pending.trans h.pending, h'.part.trans h.part, h.free.trans h'.free⟩

/-- The other components play no part in what is kept. -/
theorem Keeps.update {clock lanes cores power tracker pps utcSet cues chain quads selfCal shNode bitMon driftBlocks
    rampBlocks second retiring changeOver streams progs laneOrders rope leases slots resp pulse watch cairn jrnl
    port readAt pq capt aux irq readData modem glass tamp access pwr link}
    (h : Keeps s₀ s) : Keeps s₀ { s with
      clock, lanes, cores, power, tracker, pps, utcSet, cues, chain, quads, selfCal, shNode, bitMon, driftBlocks,
      rampBlocks, second, retiring, changeOver, streams, progs, laneOrders, rope, leases, slots, resp, pulse,
      watch, cairn, jrnl, port, readAt, pq, capt, aux, irq, readData, modem, glass, tamp, access, pwr, link } :=
  h.trans ⟨id, rfl, rfl, Nat.le_refl _⟩

theorem Keeps.ite {c : Prop} [Decidable c] (h : Keeps s₀ s) (h' : Keeps s₀ t) : Keeps s₀ (if c then s else t) := by
  split
  · exact h
  · exact h'

/-- A further step that is taken under a condition. -/
theorem Keeps.when {c : Prop} [Decidable c] (h : Keeps s₀ s) (hf : Keeps s₀ s → Keeps s₀ t) :
    Keeps s₀ (if c then t else s) := .ite (hf h) h

/-- A further step that is left out under a condition. -/
theorem Keeps.unless {c : Prop} [Decidable c] (h : Keeps s₀ s) (hf : Keeps s₀ s → Keeps s₀ t) :
    Keeps s₀ (if c then s else t) := .ite h (hf h)

/-- The state beside a value. -/
theorem Keeps.pair {α : Type} {a : α} (h : Keeps s₀ s) : Keeps s₀ (a, s).2 := h

theorem Keeps.iteSnd {α : Type} {x y : α × State} {c : Prop} [Decidable c] (h : Keeps s₀ x.2) (h' : Keeps s₀ y.2) :
    Keeps s₀ (if c then x else y).2 := by
  split
  · exact h
  · exact h'

theorem KeepsOpt.ite {c : Prop} [Decidable c] {x y : Option State} (h : KeepsOpt s₀ x) (h' : KeepsOpt s₀ y) :
    KeepsOpt s₀ (if c then x else y) := by
  split
  · exact h
  · exact h'

theorem KeepsEff.ite {c : Prop} [Decidable c] {x y : Except Trap Eff} (h : KeepsEff s₀ x) (h' : KeepsEff s₀ y) :
    KeepsEff s₀ (if c then x else y) := by
  split
  · exact h
  · exact h'

theorem KeepsOut.ite {c : Prop} [Decidable c] {x y : Host.Outcome State Fault Refusal} (h : KeepsOut s₀ x)
    (h' : KeepsOut s₀ y) : KeepsOut s₀ (if c then x else y) := by
  split
  · exact h
  · exact h'

theorem Keeps.foldl {α : Type} {f : State → α → State} {l : List α} (h : Keeps s₀ s)
    (hf : ∀ {t x}, Keeps s₀ t → Keeps s₀ (f t x)) : Keeps s₀ (l.foldl f s) := by
  induction l generalizing s with
  | nil => exact h
  | cons x l ih => exact ih (hf h)

/-- A fold that collects something beside the state. -/
theorem Keeps.foldlSnd {α β : Type} {f : β × State → α → β × State} {l : List α} {a : β × State} (h : Keeps s₀ a.2)
    (hf : ∀ {b x}, Keeps s₀ b.2 → Keeps s₀ (f b x).2) : Keeps s₀ (l.foldl f a).2 := by
  induction l generalizing a with
  | nil => exact h
  | cons x l ih => exact ih (hf h)

theorem Keeps.forN {n : Nat} {f : Nat → State → State} (h : Keeps s₀ s)
    (hf : ∀ {x t}, Keeps s₀ t → Keeps s₀ (f x t)) : Keeps s₀ (s.forN n f) := h.foldl hf

theorem KeepsOpt.getD {x : Option State} (h : KeepsOpt s₀ x) (h' : Keeps s₀ s) : Keeps s₀ (x.getD s) := by
  cases h with
  | none => exact h'
  | some h => exact h

theorem KeepsOpt.map {α : Type} {f : α → State} {x : Option α} (hf : ∀ {a}, Keeps s₀ (f a)) :
    KeepsOpt s₀ (x.map f) := by
  cases x with
  | none => exact .none
  | some a => exact .some hf

/-! ## Fields and memory -/

theorem flds_width_put (f : Fld) (v : Nat) (l : List (Fld × Nat)) (h : l.all (fun e => decide (e.2 < 2 ^ e.1.w)) = true)
    (hv : v < 2 ^ f.w) : (sparsePut Fld.lt f.reset f v l).all (fun e => decide (e.2 < 2 ^ e.1.w)) = true := by
  unfold sparsePut
  split
  · exact all_erase _ f l h
  · exact all_insert _ Fld.lt f v _ (decide_eq_true hv) (all_erase _ f l h)

theorem Keeps.set {f : Fld} {v : Nat} (h : Keeps s₀ s) : Keeps s₀ (s.set f v) := by
  refine h.trans ⟨fun ⟨hm, hf, hg, hw⟩ => ?_, rfl, rfl, Nat.le_refl _⟩
  exact ⟨hm, s.fldsWf_set f v hf, hg, flds_width_put f _ _ hw (Nat.mod_lt _ (Nat.two_pow_pos _))⟩

theorem Keeps.takeEffect {f : Fld} (h : Keeps s₀ s) : Keeps s₀ (s.takeEffect f) :=
  h.trans ⟨fun ⟨hm, hf, hg, hw⟩ => ⟨hm, hf, s.forceWf_takeEffect f hg, hw⟩, rfl, rfl, Nat.le_refl _⟩

theorem Keeps.force' {f : Fld} {v : Nat} (h : Keeps s₀ s) : Keeps s₀ (s.force' f v) :=
  h.trans ⟨fun ⟨hm, hf, hg, hw⟩ => ⟨hm, hf, fldsWf_put _ f v hg, hw⟩, rfl, rfl, Nat.le_refl _⟩

theorem Keeps.setBytes {a : Nat} {bs : List Byte} (h : Keeps s₀ s) : Keeps s₀ (s.setBytes a bs) :=
  h.trans ⟨fun ⟨hm, hf, hg, hw⟩ => ⟨s.memWf_setBytes a bs hm, hf, hg, hw⟩, rfl, rfl, Nat.le_refl _⟩

theorem Keeps.clearMem {a n : Nat} (h : Keeps s₀ s) : Keeps s₀ (s.clearMem a n) :=
  h.trans ⟨fun ⟨hm, hf, hg, hw⟩ => ⟨s.memWf_clearMem a n hm, hf, hg, hw⟩, rfl, rfl, Nat.le_refl _⟩

theorem Keeps.draw (h : Keeps s₀ s) : Keeps s₀ s.draw.2 := h.trans ⟨id, rfl, rfl, Nat.le_succ _⟩

theorem Keeps.openVal (h : Keeps s₀ s) : Keeps s₀ s.openVal.2 := h.trans ⟨id, rfl, rfl, Nat.le_succ _⟩


/-! ## Registers, memory, clocks, interrupt sources, the fault record -/

theorem Keeps.flag {f : Fld} {b : Bool} (h : Keeps s₀ s) : Keeps s₀ (s.flag f b) := h.set

theorem Keeps.setBit {f : Fld} {i : Nat} {b : Bool} (h : Keeps s₀ s) : Keeps s₀ (s.setBit f i b) := h.set

theorem Keeps.set2 {lo hi : Fld} {v : Nat} (h : Keeps s₀ s) : Keeps s₀ (s.set2 lo hi v) := h.set.set

theorem Keeps.bump {count sat : Fld} (h : Keeps s₀ s) : Keeps s₀ (s.bump count sat) := .ite h.set h.flag

theorem Keeps.incSat {f : Fld} (h : Keeps s₀ s) : Keeps s₀ (s.incSat f) := .ite h.set h

theorem Keeps.clearRC {cs : List Cell} (h : Keeps s₀ s) : Keeps s₀ (s.clearRC cs) :=
  h.foldl (fun ht => .ite ht.set ht)

theorem Keeps.writeCell {v : Nat} {c : Cell} (h : Keeps s₀ s) : Keeps s₀ (s.writeCell v c) := by
  unfold State.writeCell
  split
  · exact h.set
  · exact h.set
  · exact h

theorem Keeps.writeCells {cs : List Cell} {v : Nat} (h : Keeps s₀ s) : Keeps s₀ (s.writeCells cs v) :=
  h.foldl (·.writeCell)

theorem Keeps.setWord {a : Nat} {w : Word} (h : Keeps s₀ s) : Keeps s₀ (s.setWord a w) := h.setBytes

theorem Keeps.elapse {n : Nat} (h : Keeps s₀ s) : Keeps s₀ (s.elapse n) := h.update

theorem Keeps.whenOn (h1 : Keeps s₀ s) (h2 : Keeps s₀ t) : Keeps s₀ (s.whenOn t) := .ite h2 h1

theorem Keeps.countArrival {b : Nat} (h : Keeps s₀ s) : Keeps s₀ (s.countArrival b) := .ite h.flag h.set

theorem Keeps.arrive {src : Nat} (h : Keeps s₀ s) : Keeps s₀ (s.arrive src) := .ite h.setBit.countArrival h

theorem Keeps.arrivePrivate {c src : Nat} (h : Keeps s₀ s) : Keeps s₀ (s.arrivePrivate c src) :=
  .ite h.setBit.countArrival h

theorem Keeps.raise {f : Fld} {src : Nat} (h : Keeps s₀ s) : Keeps s₀ (s.raise f src) := .ite h h.flag.arrive

theorem Keeps.recordFault {who code unit pc : Nat} (h : Keeps s₀ s) : Keeps s₀ (s.recordFault who code unit pc) :=
  .ite h.bump.flag h.bump.set.set.set.set2.set.raise

theorem Keeps.supervisorFault {code unit : Nat} (h : Keeps s₀ s) : Keeps s₀ (s.supervisorFault code unit) :=
  h.recordFault

/-! ## Processors and their faults -/

theorem Keeps.setLane {n : Fin 5} {l : Lane} (h : Keeps s₀ s) : Keeps s₀ (s.setLane n l) := h.update

theorem Keeps.setCore {c : Fin 2} {k : CoreSt} (h : Keeps s₀ s) : Keeps s₀ (s.setCore c k) := h.update

theorem Keeps.setCoreLoops {c : Fin 2} {l : List Loop} (h : Keeps s₀ s) : Keeps s₀ (s.setCoreLoops c l) := h.setCore

theorem Keeps.setCoreBank {c : Fin 2} {b : Bank} (h : Keeps s₀ s) : Keeps s₀ (s.setCoreBank c b) :=
  .ite h.setCore h.setCore

theorem Keeps.setRun {p : Proc} {r : Regs} {pc : Word} {loops : List Loop} (h : Keeps s₀ s) :
    Keeps s₀ (s.setRun p r pc loops) := by
  unfold State.setRun
  split
  · exact h.setLane
  · exact h.setCoreLoops.setCoreBank.setCore

theorem Keeps.coreTrap {c : Fin 2} {t : Trap} (h : Keeps s₀ s) : Keeps s₀ (s.coreTrap c t) := by
  unfold State.coreTrap
  refine .ite (.arrive (.setCore (.recordFault ?_))) (.setCore (.flag (.set (.flag (.set (.set (.recordFault ?_)))))))
  · split
    · exact h
    · exact h.set
  · split
    · exact h
    · exact h.set

theorem Keeps.pairCompare {n : Fin 5} (h : Keeps s₀ s) : Keeps s₀ (s.pairCompare n) := by
  unfold State.pairCompare
  refine .ite ?_ h
  split
  · exact .ite (.ite h.set h) h.bump.set2.arrive
  · exact h

theorem Keeps.markFaulted {n : Fin 5} (h : Keeps s₀ s) : Keeps s₀ (s.markFaulted n) := .ite h h.update

theorem Keeps.trap {p : Proc} {t : Trap} (h : Keeps s₀ s) : Keeps s₀ (s.trap p t) := by
  unfold State.trap
  split
  · exact h.recordFault.markFaulted.setLane.pairCompare
  · exact h.coreTrap

theorem Keeps.charge {p : Proc} {cost : Nat} (h : Keeps s₀ s) : Keeps s₀ (s.charge p cost) := by
  unfold State.charge
  split
  · exact .ite h.setLane h
  · exact h

theorem Keeps.suspend {p : Proc} (h : Keeps s₀ s) : Keeps s₀ (s.suspend p) := by
  unfold State.suspend
  split
  · exact h.setLane.pairCompare
  · exact h

theorem Keeps.instr {p : Proc} {cost : Nat} {body : State → Regs → Except Trap Eff} (h : Keeps s₀ s)
    (hbody : ∀ {t x}, Keeps s₀ t → KeepsEff s₀ (body t x)) : Keeps s₀ (s.instr p cost body) := by
  unfold State.instr
  have hb : KeepsEff s₀ (body s ⟨s.bankOf p, []⟩) := hbody h
  split
  · refine .ite h.suspend ?_
    generalize body s ⟨s.bankOf p, []⟩ = e at hb ⊢
    cases hb with
    | error => exact h.trap
    | ok h' =>
      dsimp only
      split
      · exact h'.setRun.charge
      · exact h'.setRun.charge
  · exact h

theorem Keeps.regOp {p : Proc} {cost : Nat} {f : Regs → Regs} (h : Keeps s₀ s) : Keeps s₀ (s.regOp p cost f) :=
  h.instr (fun ht => .ok ht)

/-! ## Loads, stores and streams -/

theorem Keeps.logStore {p : Proc} {a : Nat} {w : Word} (h : Keeps s₀ s) : Keeps s₀ (s.logStore p a w) := by
  unfold State.logStore
  split
  · exact h.setLane
  · exact h

theorem Keeps.storeWord {p : Proc} {a : Nat} {w : Word} (h : Keeps s₀ s) : Keeps s₀ (s.storeWord p a w) :=
  h.setWord.logStore

theorem Keeps.load {p : Proc} {a : Fin 32} {imm : BitVec 16} {n : Nat} {memErr : Bool} {wr : Regs → Nat → Regs}
    (h : Keeps s₀ s) : Keeps s₀ (s.load p a imm n memErr wr) := by
  unfold State.load
  refine h.instr (fun ht => ?_)
  split
  · exact .error
  · exact .ite .error (.ok ht)

theorem Keeps.execSt {p : Proc} {d a : Fin 32} {imm : BitVec 16} (h : Keeps s₀ s) :
    KeepsOut s₀ (execSt p d a imm s) := by
  unfold Machine.execSt
  refine .next (h.instr (fun ht => ?_))
  split
  · exact .error
  · exact .ok ht.storeWord

theorem Keeps.execVst {p : Proc} {d : Fin 16} {a : Fin 32} {imm : BitVec 16} (h : Keeps s₀ s) :
    KeepsOut s₀ (execVst p d a imm s) := by
  unfold Machine.execVst
  refine .next (h.instr (fun ht => ?_))
  split
  · exact .error
  · exact .ok ht.storeWord.storeWord.storeWord.storeWord

theorem Keeps.streamOp {p : Proc} {st : Stream} {idx : Fin 512} {a : Fin 32} {span : Nat} {wr : Regs → Nat → Regs}
    (h : Keeps s₀ s) : Keeps s₀ (s.streamOp p st idx a span wr) := by
  unfold State.streamOp
  refine h.instr (fun ht => ?_)
  split
  · exact .error
  · exact .ite .error (.ok ht)

theorem Keeps.execStvc {p : Proc} {d : Fin 16} {ch : Fin 24} {strm : Stream} {idx : Fin 512} {a : Fin 32}
    (h : Keeps s₀ s) : KeepsOut s₀ (execStvc p d ch strm idx a s) := by
  unfold Machine.execStvc
  refine .ite ?_ (.next h.streamOp)
  split
  · exact .fault
  · exact .next (h.instr (fun _ => .error))

/-! ## Interrupts -/

theorem Keeps.irqUnpend {core src : Nat} (h : Keeps s₀ s) : Keeps s₀ (s.irqUnpend core src) := .ite h.setBit h.setBit

theorem Keeps.presentCore {c : Fin 2} {x : Option (Nat × Nat)} (h : Keeps s₀ s) : Keeps s₀ (s.presentCore c x) := by
  unfold State.presentCore
  split
  · exact h
  · exact .ite h.setCore h.set.setCore

theorem Keeps.presentHost {src : Nat} (h : Keeps s₀ s) : Keeps s₀ (s.presentHost src) := h.setBit.update

theorem Keeps.takeSource {core src taker : Nat} (h : Keeps s₀ s) : Keeps s₀ (s.takeSource core src taker) :=
  h.irqUnpend.set.unless (·.update)

theorem Keeps.execNormalEntry {c : Fin 2} (h : Keeps s₀ s) : KeepsOut s₀ (execNormalEntry c s) := by
  unfold Machine.execNormalEntry
  refine .next ?_
  split
  · exact h
  · exact .ite h.takeSource.set.set.set.flag.set.flag.setCore h

theorem Keeps.execFastEntry {c : Fin 2} (h : Keeps s₀ s) : KeepsOut s₀ (execFastEntry c s) := by
  unfold Machine.execFastEntry
  refine .next ?_
  split
  · exact h
  · exact .ite h.takeSource.set.set.set.flag.setCore h

theorem Keeps.withdraw {p : State → Nat → Nat → Present → Bool} (h : Keeps s₀ s) : Keeps s₀ (s.withdraw p) := by
  unfold State.withdraw
  extract_lets core t
  have hcore {t : State} {c : Fin 2} (ht : Keeps s₀ t) : Keeps s₀ (core t c) := by
    dsimp only [core]
    split
    · refine .ite (.setCore ?_) ?_
      · split
        · exact .ite ht.set.setCore ht
        · exact ht
      · split
        · exact .ite ht.set.setCore ht
        · exact ht
    · split
      · exact .ite ht.set.setCore ht
      · exact ht
  exact (hcore (hcore h)).foldl fun ht => .ite ht.setBit.update ht

theorem Keeps.maskWithdraw (h : Keeps s₀ s) : Keeps s₀ s.maskWithdraw := h.withdraw

theorem Keeps.clearWithdraw (h : Keeps s₀ s) : Keeps s₀ s.clearWithdraw := h.withdraw

theorem Keeps.timerWrite {c v : Nat} (h : Keeps s₀ s) : Keeps s₀ (s.timerWrite c v) := h.flag.set.update

theorem Keeps.swset {c v : Nat} (h : Keeps s₀ s) : Keeps s₀ (s.swset c v) :=
  h.forN (fun ht => .ite ht.arrivePrivate ht)

theorem Keeps.irqWrite {b idx v : Nat} (h : Keeps s₀ s) : KeepsOpt s₀ (irqWrite s b idx v) :=
  .ite (.some h.writeCells.maskWithdraw) (.ite (.some (.ite h.writeCells h))
    (.ite (.some h.writeCells.clearWithdraw) (.ite (.some h.swset) (.ite (.some h.timerWrite) .none))))

theorem Keeps.execCoreTimerExpiry {c : Fin 2} (h : Keeps s₀ s) : KeepsOut s₀ (execCoreTimerExpiry c s) := by
  unfold Machine.execCoreTimerExpiry
  refine .next (h.whenOn ?_)
  split
  · exact h
  · exact .ite h.arrivePrivate.update h

theorem Keeps.setLine {l : Fin 3} {x : ExtLine} (h : Keeps s₀ s) : Keeps s₀ (s.setLine l x) := h.update

theorem Keeps.rawEdge {l : Fin 3} {rising : Bool} (h : Keeps s₀ s) : Keeps s₀ (s.rawEdge l rising) :=
  .ite (.setLine (.when (.ite h.setBit h) (·.setBit))) (.setLine (.ite h.setBit h))

/-! ## Clock monitors, pitch tracking, the cue table -/

theorem Keeps.putArea {off len : Nat} {what : List Nat} (h : Keeps s₀ s) : Keeps s₀ (s.putArea off len what) :=
  h.setBytes

theorem Keeps.putTie {t : Tie} (h : Keeps s₀ s) : Keeps s₀ (s.putTie t) := h.update.putArea

theorem Keeps.tieNow (h : Keeps s₀ s) : Keeps s₀ s.tieNow := h.putTie

theorem Keeps.setUtcOff {x : Int} (h : Keeps s₀ s) : Keeps s₀ (s.setUtcOff x) := h.set2.set

theorem Keeps.utcLoad (h : Keeps s₀ s) : Keeps s₀ s.utcLoad := by
  unfold State.utcLoad
  split
  · exact h
  · exact h.setUtcOff.flag.set.update

theorem Keeps.ppsAccept {t : Nat} (h : Keeps s₀ s) : Keeps s₀ (s.ppsAccept t) :=
  (h.setUtcOff.set.set.set.flag.when (·.flag)).update.arrive

theorem Keeps.ppsStamp {t : Nat} (h : Keeps s₀ s) : Keeps s₀ (s.ppsStamp t) := h.set2.set

theorem Keeps.ppsReject (h : Keeps s₀ s) : Keeps s₀ s.ppsReject := h.bump.update

theorem Keeps.execPpsEdge {rising : Bool} (h : Keeps s₀ s) : KeepsOut s₀ (execPpsEdge rising s) := by
  unfold Machine.execPpsEdge
  refine .next (.ite ?_ h)
  dsimp only
  split
  · exact h.ppsStamp.when (·.ppsAccept)
  · exact .ite h.ppsStamp.ppsAccept h.ppsStamp.ppsReject

theorem Keeps.execPpsEdgeMissed (h : Keeps s₀ s) : KeepsOut s₀ (execPpsEdgeMissed s) := by
  unfold Machine.execPpsEdgeMissed
  refine .next ?_
  split
  · exact h
  · exact .ite (.ite h.update h.flag.raise.update) h

theorem Keeps.startPitch {t p : Nat} {held : Bool} (h : Keeps s₀ s) : Keeps s₀ (s.startPitch t p held) := h.set.update

theorem Keeps.enterHold {t : Nat} (h : Keeps s₀ s) : Keeps s₀ (s.enterHold t) := h.set.set.update

theorem Keeps.holdRun {n upTo : Nat} (h : Keeps s₀ s) : Keeps s₀ (State.holdRun n upTo s) := by
  induction n generalizing s with
  | zero => exact h
  | succ n ih => exact .ite (ih (h.startPitch.update)) h

theorem Keeps.judgeCrossing {t : Nat} {amp : Word} (h : Keeps s₀ s) : Keeps s₀ (s.judgeCrossing t amp) :=
  .ite h.incSat.update (.ite h.set h.set.update)

theorem Keeps.execZeroCrossing {t : Nat} {amp : Word} (h : Keeps s₀ s) : KeepsOut s₀ (execZeroCrossing t amp s) :=
  .next (.ite (.ite ((h.judgeCrossing.when (·.update)).when (·.update.startPitch))
    (.ite (.ite ((h.judgeCrossing.when (·.update)).when (·.update)).update.set.startPitch
    (((h.judgeCrossing.when (·.update)).when (·.update)).when (·.enterHold)))
    ((h.judgeCrossing.when (·.update)).when (·.update.set.startPitch)))) h)

theorem Keeps.intervalAtBlock (h : Keeps s₀ s) : Keeps s₀ s.intervalAtBlock := h.update

theorem Keeps.cueRefused (h : Keeps s₀ s) : Keeps s₀ s.cueRefused := h.bump.arrive

theorem Keeps.cueAdd {c : Cue} (h : Keeps s₀ s) : Keeps s₀ (s.cueAdd c).2 :=
  .iteSnd (.pair h.cueRefused) (.pair (h.update.when (·.set)))

theorem Keeps.cueRemove {p : Cue → Bool} (h : Keeps s₀ s) : Keeps s₀ (s.cueRemove p) := h.set.update

theorem Keeps.cueFailed (h : Keeps s₀ s) : Keeps s₀ s.cueFailed := h.bump.arrive

theorem Keeps.timeLatch {idx : Nat} (h : Keeps s₀ s) : Keeps s₀ (timeLatch s idx) :=
  .ite h.set (.ite h.set (.ite h.set (.ite h.set h)))

theorem Keeps.timeWrite {idx v : Nat} (h : Keeps s₀ s) : KeepsOpt s₀ (timeWrite s idx v) :=
  .ite (.some (.ite h.cueRemove h.cueRemove)) (.ite (.some h.set.update)
    (.ite (.some (h.writeCells.when (·.update))) .none))

/-! ## Staged records -/

theorem Keeps.stageAt {type grain : Nat} {reconstructed : Bool} {body : List Byte} (h : Keeps s₀ s) :
    Keeps s₀ (s.stageAt type grain reconstructed body) :=
  h.update

theorem Keeps.stage {type : Nat} {body : List Byte} (h : Keeps s₀ s) : Keeps s₀ (s.stage type body) := h.stageAt

theorem Keeps.stageEvent {unit kind : Nat} {data : List Byte} (h : Keeps s₀ s) :
    Keeps s₀ (s.stageEvent unit kind data) :=
  h.stage

theorem Keeps.stageWrap {slot sub dir : Nat} (h : Keeps s₀ s) : Keeps s₀ (s.stageWrap slot sub dir) := h.stage

theorem Keeps.stageRetire {what unit which : Nat} (h : Keeps s₀ s) : Keeps s₀ (s.stageRetire what unit which) :=
  h.stage

theorem Keeps.stageTamper {source kind responses : Nat} {copied : Bool} {rtc : Nat} (h : Keeps s₀ s) :
    Keeps s₀ (s.stageTamper source kind responses copied rtc) :=
  h.stage

theorem Keeps.stageOutcome {reconstructed : Bool} {ordno pseq ocode : Nat} {data : List Byte} (h : Keeps s₀ s) :
    Keeps s₀ (s.stageOutcome reconstructed ordno pseq ocode data) :=
  h.stageAt

theorem Keeps.stageGap {from' upTo cause flags epoch : Nat} (h : Keeps s₀ s) :
    Keeps s₀ (s.stageGap from' upTo cause flags epoch) :=
  h.stage

theorem Keeps.closeGap {grain : Nat} (h : Keeps s₀ s) : Keeps s₀ (s.closeGap grain) := by
  unfold State.closeGap
  split
  · exact h
  · exact h.update

/-! ## Pulse outputs and their watch -/

theorem Keeps.pulseRequest {n : Fin 4} {k : Nat} (h : Keeps s₀ s) : Keeps s₀ (s.pulseRequest n k) :=
  h.set.set.update.unless (fun ht => .unless (.ite ht.set ht.set.flag) (·.setBit.arrive))

theorem Keeps.pulseTake {n : Fin 4} {slot : Nat} {signed : Bool} {sub : Nat} {v : Int} (h : Keeps s₀ s) :
    Keeps s₀ (s.pulseTake n slot signed sub v) :=
  .ite (.ite h.setBit h.update.pulseRequest) h

theorem Keeps.pulseBooked {slot : Nat} {signed : Bool} {sub : Nat} {v : Int} (h : Keeps s₀ s) :
    Keeps s₀ (s.pulseBooked slot signed sub v) :=
  h.foldl (·.pulseTake)

theorem Keeps.pulseEnd {n : Fin 4} (h : Keeps s₀ s) : Keeps s₀ (s.pulseEnd n) := h.update.setBit

theorem Keeps.pulseStart {n : Fin 4} {signed : Bool} (h : Keeps s₀ s) : Keeps s₀ (s.pulseStart n signed) :=
  .ite h.set.setBit.update h

theorem Keeps.pulseBoundary (h : Keeps s₀ s) : Keeps s₀ s.pulseBoundary := (h.foldl (·.pulseEnd.pulseStart)).update

theorem Keeps.pulseSnap (h : Keeps s₀ s) : Keeps s₀ s.pulseSnap := h.update

theorem Keeps.pulseCommit (h : Keeps s₀ s) : Keeps s₀ s.pulseCommit := h.update

theorem Keeps.pulseSource {n : Fin 4} {isSrc : Bool} {v : Nat} (h : Keeps s₀ s) :
    Keeps s₀ (s.pulseSource n isSrc v) :=
  (h.writeCells.update.unless (·.set)).when (·.setBit)

theorem Keeps.watchDrive (h : Keeps s₀ s) : Keeps s₀ s.watchDrive := .ite h h.set2.update

theorem Keeps.watchValue {v : Nat} (h : Keeps s₀ s) : Keeps s₀ (s.watchValue v) :=
  .watchDrive (.ite h.set.update.update.flag.bump.arrive (h.set.update.when (·.update.flag.arrive)))

theorem Keeps.pulseWrite {idx v : Nat} (h : Keeps s₀ s) : KeepsOpt s₀ (pulseWrite s idx v) := by
  unfold Machine.pulseWrite
  split
  · exact .some h.pulseSource
  · split
    · exact .some h.pulseSource
    · exact .ite (.some (h.writeCells.when (·.update)).watchDrive.update) (.ite (.some h.watchValue) .none)

/-! ## Energy slots -/

theorem Keeps.setSlot {n : Fin 72} {x : Slot} (h : Keeps s₀ s) : Keeps s₀ (s.setSlot n x) := h.update

theorem Keeps.slotAdd {n : Fin 72} {i : Nat} {v : Int} (h : Keeps s₀ s) : Keeps s₀ (s.slotAdd n i v) := by
  unfold State.slotAdd
  dsimp only
  split
  · exact h.setSlot
  · exact h.setSlot.flag.flag.stageWrap.arrive

theorem Keeps.slotFlags {n : Nat} {mrk inv unver : Bool} (h : Keeps s₀ s) : Keeps s₀ (s.slotFlags n mrk inv unver) :=
  .when (.when (.ite h.flag h) (·.flag)) (·.flag)

theorem Keeps.post {n : Fin 72} {v : Int} (h : Keeps s₀ s) : Keeps s₀ (s.post n v) :=
  .pulseBooked (.setSlot (.slotAdd (.slotAdd (.ite h.flag.flag.arrive h))))

theorem Keeps.wholeLen (h : Keeps s₀ s) : Keeps s₀ s.wholeLen.2 := by
  unfold State.wholeLen
  split
  · exact .pair h
  · exact .pair h.openVal

theorem Keeps.book {n : Fin 64} {owner : Nat} {inc : Int} {mrk inv unver : Bool} (h : Keeps s₀ s) :
    Keeps s₀ (s.book n owner inc mrk inv unver) :=
  .ite h.flag.arrive (.post (.slotFlags (.iteSnd h.wholeLen (.pair h))))

theorem Keeps.bookBase {b : Fin 8} {plen : Nat} {inc : Int} {mrk inv : Bool} (h : Keeps s₀ s) :
    Keeps s₀ (s.bookBase b plen inc mrk inv) :=
  h.slotFlags.post

theorem Keeps.bookIncs {owner : Nat} {unver : Bool} {l : List Inc} (h : Keeps s₀ s) :
    Keeps s₀ (s.bookIncs owner unver l) := by
  unfold State.bookIncs
  refine .foldl (.ite h h.closeGap) (fun ht => ?_)
  split
  · exact ht
  · exact ht.book

theorem Keeps.setTariff {t cause : Nat} (h : Keeps s₀ s) : Keeps s₀ (s.setTariff t cause) :=
  .ite h h.set.set2.stageEvent

theorem Keeps.adjust {n : Fin 64} {sub : Nat} {amount : Int} (h : Keeps s₀ s) : Keeps s₀ (s.adjust n sub amount) :=
  .ite h.setSlot h.slotAdd.slotAdd.setSlot

theorem Keeps.convert {b : Fin 8} {target : Fin 64} {sub : Nat} (h : Keeps s₀ s) :
    Keeps s₀ (s.convert b target sub) :=
  h.slotAdd.slotAdd.setSlot.setSlot

theorem Keeps.bindTakes {n : Fin 64} (h : Keeps s₀ s) : Keeps s₀ (s.bindTakes n) :=
  .ite (h.foldl (·.takeEffect)).setSlot h

theorem Keeps.baseBinds (h : Keeps s₀ s) : Keeps s₀ s.baseBinds := .ite h.update h

theorem Keeps.bindBoundary (h : Keeps s₀ s) : Keeps s₀ s.bindBoundary := (h.foldl (·.bindTakes)).baseBinds

theorem Keeps.nrgLatch {b idx : Nat} (h : Keeps s₀ s) : Keeps s₀ (nrgLatch s b idx) := .ite h.set.set h

theorem Keeps.bindWrite {n : Fin 72} {idx v : Nat} (h : Keeps s₀ s) : Keeps s₀ (s.bindWrite n idx v) :=
  .ite h.flag h.writeCells.setSlot

theorem Keeps.nrgWrite {b idx v : Nat} (h : Keeps s₀ s) : KeepsOpt s₀ (nrgWrite s b idx v) :=
  .ite (.some h.bindWrite) (.ite (.some h.setTariff) .none)

/-! ## The journal and its belays -/

theorem Keeps.stageBelay {b : Belay} (h : Keeps s₀ s) : Keeps s₀ (s.stageBelay b) := h.foldl (·.stageAt)

theorem Keeps.belayDue {k : BelayKind} (h : Keeps s₀ s) : Keeps s₀ (s.belayDue k) := .ite h h.update

theorem Keeps.clearSlotFlags (h : Keeps s₀ s) : Keeps s₀ s.clearSlotFlags :=
  h.update.forN (fun ht => ht.foldl (·.set))

theorem Keeps.makeBelay (h : Keeps s₀ s) : Keeps s₀ s.makeBelay := by
  unfold State.makeBelay
  split
  · exact h
  · exact .ite (.update (.pulseSnap (.ite h h.closeGap))) (.when
      (.update (.stageBelay (.update (.pulseSnap (.ite h h.closeGap))))) (·.clearSlotFlags))

theorem Keeps.pitchBelayTimer (h : Keeps s₀ s) : Keeps s₀ s.pitchBelayTimer := .ite h.belayDue.update h

theorem Keeps.cover (h : Keeps s₀ s) : Keeps s₀ s.cover := .ite h h.update

theorem Keeps.jrnlStatus (h : Keeps s₀ s) : Keeps s₀ s.jrnlStatus := .flag (.flag (.ite h.raise h.flag))

theorem Keeps.mirrorHeads (h : Keeps s₀ s) : Keeps s₀ s.mirrorHeads := h.putArea

theorem Keeps.appendOne {r : JRec} (h : Keeps s₀ s) : Keeps s₀ (s.appendOne r).2 :=
  .iteSnd (.pair h.update) (.pair (h.update.when (·.bump)))

theorem Keeps.appendAll {l : List JRec} (h : Keeps s₀ s) : Keeps s₀ (s.appendAll l) := by
  induction l generalizing s with
  | nil => exact .cover h.update
  | cons x l ih =>
    have hx : Keeps s₀ (s.appendOne x).2 := h.appendOne
    unfold State.appendAll
    split
    next t e =>
      rw [e] at hx
      exact ih hx
    next t e =>
      rw [e] at hx
      exact hx.update

theorem Keeps.appendStaged (h : Keeps s₀ s) : Keeps s₀ s.appendStaged := .ite h h.appendAll.jrnlStatus.mirrorHeads

theorem Keeps.aonCommit (h : Keeps s₀ s) : Keeps s₀ s.aonCommit := by
  unfold State.aonCommit
  split
  · exact h
  · exact h.setBytes.pulseCommit.update

theorem Keeps.supervisorDone (h : Keeps s₀ s) : Keeps s₀ s.supervisorDone :=
  .ite h (h.foldl (fun ht => .ite ht.set.set ht))

theorem Keeps.cairnCommit {b : Belay} (h : Keeps s₀ s) : Keeps s₀ (s.cairnCommit b) :=
  (h.update.when (·.arrive)).jrnlStatus.mirrorHeads

theorem Keeps.cairnTry (h : Keeps s₀ s) : Keeps s₀ s.cairnTry := by
  unfold State.cairnTry
  split
  · exact h
  · exact .ite h.cairnCommit.supervisorDone h

theorem Keeps.execFoldCommit (h : Keeps s₀ s) : KeepsOut s₀ (execFoldCommit s) := by
  unfold Machine.execFoldCommit
  refine .next ?_
  split
  · exact h
  · exact .ite h.update.bump.arrive.jrnlStatus.mirrorHeads h

theorem Keeps.ack {n : Nat} (h : Keeps s₀ s) : Keeps s₀ (s.ack n) :=
  .unless (.ite h.flag h) (·.update.jrnlStatus.mirrorHeads)

theorem Keeps.mirrorOrder {e : QEntry} (h : Keeps s₀ s) : Keeps s₀ (s.mirrorOrder e) := h.setBytes

theorem Keeps.stageData {v : Word} (h : Keeps s₀ s) : Keeps s₀ (s.stageData v) := .ite h.update h

theorem Keeps.stageGo (h : Keeps s₀ s) : Keeps s₀ s.stageGo := .ite h.update.flag h.update.stageEvent.update

theorem Keeps.jrnlLatch {idx : Nat} (h : Keeps s₀ s) : Keeps s₀ (jrnlLatch s idx) :=
  .ite h.set (.ite h.set (.ite h.set (.ite h.set (.ite h.set h))))

theorem Keeps.jrnlWrite {idx v : Nat} (h : Keeps s₀ s) : KeepsOpt s₀ (jrnlWrite s idx v) :=
  .ite (.some h.set.jrnlStatus) (.ite (.some h.stageData) (.ite (.some (.ite h.stageGo h)) .none))

/-! ## Filters and resampling -/

theorem Keeps.settleFor {k g n : Nat} (h : Keeps s₀ s) : Keeps s₀ (s.settleFor k g n) := h.update

theorem Keeps.settleTake {k : Nat} {f : Fld} {n : Nat} (h : Keeps s₀ s) : Keeps s₀ (s.settleTake k f n) :=
  .ite h h.takeEffect.settleFor

theorem Keeps.frontSettings (h : Keeps s₀ s) : Keeps s₀ s.frontSettings := by
  unfold State.frontSettings
  refine h.forN (fun ht => ?_)
  dsimp only
  split
  · exact ht.settleTake.settleTake.settleTake.settleTake
  · exact ht.settleTake.settleTake.settleTake.settleTake.settleTake.takeEffect

theorem Keeps.swapOrder {v : Nat} (h : Keeps s₀ s) : Keeps s₀ (s.swapOrder v).2 :=
  .iteSnd (.pair h.raise) (.pair h.update)

theorem Keeps.swapChan {bank k : Nat} (h : Keeps s₀ s) : Keeps s₀ (s.swapChan bank k) :=
  .ite h (h.setBit.update.when (·.update.settleFor))

theorem Keeps.swapApply (h : Keeps s₀ s) : Keeps s₀ s.swapApply := by
  unfold State.swapApply
  split
  · exact h
  · exact (h.update.forN (fun ht => .ite ht.swapChan ht)).set2

theorem Keeps.stageSat {mask : Nat} (h : Keeps s₀ s) : Keeps s₀ (s.stageSat mask) := .ite h h.set.arrive

theorem Keeps.fillPoints (h : Keeps s₀ s) : Keeps s₀ s.fillPoints.2 := by
  unfold State.fillPoints
  dsimp only
  split
  · exact .pair h.update.stageSat
  · exact .pair h.update.stageSat.update

theorem Keeps.baseCampPitch (h : Keeps s₀ s) : Keeps s₀ s.baseCampPitch := by
  unfold State.baseCampPitch
  split
  · exact h
  · exact .ite (h.foldl (·.bookBase)) h

theorem Keeps.cfgWrite {k v : Nat} (h : Keeps s₀ s) : Keeps s₀ (s.cfgWrite k v) := .ite h (.ite h.raise h.writeCells)

theorem Keeps.bankWrite {unit idx k : Nat} {b : Bool} {v : Nat} (h : Keeps s₀ s) :
    Keeps s₀ (s.bankWrite unit idx k b v) :=
  .ite h (.ite h.raise (h.writeCells.when (·.set)))

theorem Keeps.execActiveBankWrite {rsmp : Bool} {idx : Fin 256} {v : Word} (h : Keeps s₀ s) :
    KeepsOut s₀ (execActiveBankWrite rsmp idx v s) := by
  unfold Machine.execActiveBankWrite
  dsimp only
  split
  · exact .refused
  · exact .next (h.whenOn h.bankWrite)

theorem Keeps.tapNext (h : Keeps s₀ s) : Keeps s₀ s.tapNext := h.set

theorem Keeps.coefWrite {v : Nat} (h : Keeps s₀ s) : Keeps s₀ (s.coefWrite v) := .tapNext (.ite h.raise h.set)

theorem Keeps.filtAfterRead {idx : Nat} (h : Keeps s₀ s) : Keeps s₀ (filtAfterRead s idx) := .ite h.tapNext h

theorem Keeps.filtWrite {idx v : Nat} (h : Keeps s₀ s) : KeepsOpt s₀ (filtWrite s idx v) :=
  .ite (.some h.swapOrder) (.ite (.some (.ite h.raise h.writeCells))
    (.ite (.some h.coefWrite) (.ite (.some h.cfgWrite) (.map h.bankWrite))))

theorem Keeps.rsmpWrite {idx v : Nat} (h : Keeps s₀ s) : KeepsOpt s₀ (rsmpWrite s idx v) := .map h.bankWrite

/-! ## The converters' side -/

theorem Keeps.frontEnd {m : Measure} (h : Keeps s₀ s) : Keeps s₀ (s.frontEnd m).2 := .pair h.update

theorem Keeps.fillGrain {g : GrainWords} (h : Keeps s₀ s) : Keeps s₀ (s.fillGrain g) := h.update.stageSat

/-! ## Quads and bitstreams -/

theorem Keeps.setQuad {q : Fin 4} {x : Quad} (h : Keeps s₀ s) : Keeps s₀ (s.setQuad q x) := h.update

theorem Keeps.modQuad {q : Fin 4} {f : Quad → Quad} (h : Keeps s₀ s) : Keeps s₀ (s.modQuad q f) := h.setQuad

theorem Keeps.decideFirst {d : Decision} (h : Keeps s₀ s) : Keeps s₀ (s.decideFirst d) := h.draw.update

theorem Keeps.faultInjection {source third : Nat} (h : Keeps s₀ s) : Keeps s₀ (s.faultInjection source third) :=
  h.flag.stageTamper.arrive.belayDue

theorem Keeps.rejoinSettle {q : Nat} (h : Keeps s₀ s) : Keeps s₀ (s.rejoinSettle q) :=
  .ite (h.forN (fun ht => .ite ht ht.settleFor)) h

theorem Keeps.abandonPhase {q : Fin 4} (h : Keeps s₀ s) : Keeps s₀ (s.abandonPhase q) := by
  unfold State.abandonPhase
  split
  · exact h
  · exact .ite h h.rejoinSettle.setBit.update

theorem Keeps.spareClaims {q : Fin 4} (h : Keeps s₀ s) : Keeps s₀ (s.spareClaims q) := .ite h.modQuad h

theorem Keeps.spareBoundary {q : Fin 4} (h : Keeps s₀ s) : Keeps s₀ (s.spareBoundary q) :=
  .unless (.ite h.abandonPhase h) (·.set.set.modQuad)

theorem Keeps.postInternal {q pos : Nat} {r : Int} (h : Keeps s₀ s) : Keeps s₀ (s.postInternal q pos r) := by
  unfold State.postInternal
  dsimp only
  split
  · exact h.set.flag
  · exact h.set.flag
  · exact h.set.flag
  · exact h.set.flag
  · exact h

theorem Keeps.slotPasses {q : Fin 4} {k : Nat} (h : Keeps s₀ s) : Keeps s₀ (s.slotPasses q k) :=
  .ite h.set.flag.setQuad h.set.flag.set.flag.setQuad

theorem Keeps.slotFails {q : Fin 4} {k : Nat} (h : Keeps s₀ s) : Keeps s₀ (s.slotFails q k) :=
  .ite (h.incSat.raise.modQuad.when (·.flag)) (h.incSat.raise.modQuad.unless (·.modQuad))

theorem Keeps.openVote {q : Fin 4} (h : Keeps s₀ s) : Keeps s₀ (s.openVote q) := by
  unfold State.openVote
  split
  · exact h
  · exact .ite h.modQuad h

theorem Keeps.ambiguous {q : Fin 4} {k : Nat} (h : Keeps s₀ s) : Keeps s₀ (s.ambiguous q k) := by
  unfold State.ambiguous
  exact (h.flag.incSat.when (·.flag)).modQuad

theorem Keeps.decideVote {q : Fin 4} {k : Nat} {a b : Bool} (h : Keeps s₀ s) : Keeps s₀ (s.decideVote q k a b) :=
  .ite h.bump.arrive.modQuad.bump.flag.modQuad (.ite h.bump.arrive.modQuad.decideFirst
    (.ite h.bump.arrive.modQuad.decideFirst h.bump.arrive.modQuad.ambiguous.modQuad))

theorem Keeps.votePitch {q : Fin 4} {k : Nat} (h : Keeps s₀ s) : Keeps s₀ (s.votePitch q k) :=
  h.setQuad.when (·.decideVote)

theorem Keeps.strideResult {q : Fin 4} {k : Nat} {ok : Bool} (h : Keeps s₀ s) : Keeps s₀ (s.strideResult q k ok) :=
  .ite h.flag.set.flag h.raise

theorem Keeps.stridePitch {q : Fin 4} {k : Nat} {odd : Bool} (h : Keeps s₀ s) : Keeps s₀ (s.stridePitch q k odd) :=
  .ite h (h.setQuad.strideResult.unless (fun ht => .ite ht.modQuad.decideFirst ht.ambiguous.modQuad))

theorem Keeps.sparePitch {q : Fin 4} {k : Nat} (h : Keeps s₀ s) : Keeps s₀ (s.sparePitch q k) :=
  .ite (.ite h.setQuad.decideFirst h.setQuad) h

theorem Keeps.slotPitch {q : Fin 4} {k : Nat} {odd : Bool} (h : Keeps s₀ s) : Keeps s₀ (s.slotPitch q k odd) := by
  unfold State.slotPitch
  refine .ite (.stridePitch (.ite h h.set.set)) (.unless (.ite h h.set.set)
      (fun ht => .when (.sparePitch ?_) (·.votePitch)))
  split
  · exact ht
  · exact ht.slotPasses
  · exact ht.slotFails

theorem Keeps.owStart {q : Fin 4} (h : Keeps s₀ s) : Keeps s₀ (s.owStart q).2 :=
  .iteSnd (.pair h) (.pair (h.modQuad.forN (fun ht => .ite ht.flag ht)))

theorem Keeps.owBoundary {q : Fin 4} (h : Keeps s₀ s) : Keeps s₀ (s.owBoundary q) := .ite h.modQuad h

theorem Keeps.owPost {q : Nat} {t : OwTest} {k : Nat} (h : Keeps s₀ s) : Keeps s₀ (s.owPost q t k) :=
  .ite h.set.flag.flag.flag h

theorem Keeps.owPitch {q : Fin 4} (h : Keeps s₀ s) : Keeps s₀ (s.owPitch q) := by
  unfold State.owPitch
  split
  · exact h
  · exact .ite h.modQuad (.ite h.modQuad (.ite (h.forN (·.owPost)).modQuad.arrive h.modQuad))

theorem Keeps.modeWrite {q : Fin 4} {v : Nat} (h : Keeps s₀ s) : Keeps s₀ (s.modeWrite q v).2 :=
  .iteSnd (.pair h.raise) (.pair h.writeCells)

theorem Keeps.strideOff {q : Fin 4} (h : Keeps s₀ s) : Keeps s₀ (s.strideOff q) := .ite h.flag.flag.modQuad h

theorem Keeps.strideTakes {q : Fin 4} (h : Keeps s₀ s) : Keeps s₀ (s.strideTakes q) := by
  unfold State.strideTakes
  exact h.flag.flag.modQuad

theorem Keeps.strideAbort {q : Fin 4} (h : Keeps s₀ s) : Keeps s₀ (s.strideAbort q) := by
  unfold State.strideAbort
  exact h.strideOff.flag.raise.stageEvent.modQuad

theorem Keeps.strideBoundary {q : Fin 4} (h : Keeps s₀ s) : Keeps s₀ (s.strideBoundary q) :=
  .ite h.spareClaims.strideAbort (h.spareClaims.unless (fun ht => ht.strideOff.when (·.strideTakes)))

theorem Keeps.ilvGainEst {q : Fin 4} {odd : Bool} (h : Keeps s₀ s) : Keeps s₀ (s.ilvGainEst q odd) := by
  unfold State.ilvGainEst
  refine .ite h ?_
  dsimp only
  split
  · exact h.modQuad.set
  · exact h.modQuad

theorem Keeps.ilvSkewEst {q : Fin 4} (h : Keeps s₀ s) : Keeps s₀ (s.ilvSkewEst q) := .ite h h.set

theorem Keeps.ilvPitch {q : Fin 4} {odd : Bool} (h : Keeps s₀ s) : Keeps s₀ (s.ilvPitch q odd) :=
  .ite ((h.ilvGainEst.when (·.ilvSkewEst)).when (·.flag)) h

theorem Keeps.ilvBlock {q : Fin 4} (h : Keeps s₀ s) : Keeps s₀ (s.ilvBlock q) := .ite h.modQuad h

theorem Keeps.quadPitch {q : Fin 4} (h : Keeps s₀ s) : Keeps s₀ (s.quadPitch q) :=
  .ite ((h.forN (·.slotPitch)).openVote.owPitch.ilvPitch.when (·.modQuad)) h

theorem Keeps.changeOne {x : RetireWhat} (h : Keeps s₀ s) : Keeps s₀ (s.changeOne x) := by
  unfold State.changeOne
  split
  · exact h.set.flag.flag.modQuad
  · exact h.flag
  · exact h

theorem Keeps.quadBoundary (h : Keeps s₀ s) : Keeps s₀ s.quadBoundary :=
  (h.foldl (·.changeOne)).update.foldl (fun ht => .ite ht.owBoundary.strideBoundary.spareBoundary ht)

theorem Keeps.quadWrite {q : Fin 4} {idx v : Nat} (h : Keeps s₀ s) : KeepsOpt s₀ (quadWrite s q idx v) :=
  .ite (.some h.modeWrite) (.ite (.some (h.writeCells.unless (·.set)))
    (.ite (.some (h.writeCells.when (·.set))) (.ite (.some (.ite h.owStart h)) .none)))

theorem Keeps.bitclkLost (h : Keeps s₀ s) : Keeps s₀ s.bitclkLost :=
  h.update.flag.flag.flag.bump.set.stageEvent.arrive

theorem Keeps.bitFlush (h : Keeps s₀ s) : Keeps s₀ s.bitFlush := h.update

theorem Keeps.bitMeasure {f : Nat} (h : Keeps s₀ s) : Keeps s₀ (s.bitMeasure f) :=
  h.set.update.unless (fun ht => .ite ht.bitclkLost ht.update)

theorem Keeps.bitBoundary {f : Nat} (h : Keeps s₀ s) : Keeps s₀ (s.bitBoundary f) :=
  ((h.bitMeasure.unless (·.takeEffect.bitclkLost)).when (·.flag)).set

theorem Keeps.bitRange (h : Keeps s₀ s) : Keeps s₀ s.bitRange := h.update

theorem Keeps.bitinWrite {idx v : Nat} (h : Keeps s₀ s) : KeepsOpt s₀ (bitinWrite s idx v) :=
  .ite (.some h.writeCells.set) .none

/-! ## The cairn and its write port -/

theorem Keeps.portRefused (h : Keeps s₀ s) : Keeps s₀ s.portRefused := h.raise

theorem Keeps.portOpen (h : Keeps s₀ s) : Keeps s₀ s.portOpen := h.flag.flag.update

theorem Keeps.portCopied (h : Keeps s₀ s) : Keeps s₀ s.portCopied := .ite h.update h

theorem Keeps.portData {v : Word} (h : Keeps s₀ s) : Keeps s₀ (s.portData v) := .ite h.portRefused h.set.update

theorem Keeps.portClose (h : Keeps s₀ s) : Keeps s₀ s.portClose := h.flag.update

theorem Keeps.portCommit (h : Keeps s₀ s) : Keeps s₀ s.portCommit := .ite h.portRefused h.update.portClose.flag.arrive

theorem Keeps.portAbort (h : Keeps s₀ s) : Keeps s₀ s.portAbort := h.portClose

theorem Keeps.cairnFetch (h : Keeps s₀ s) : Keeps s₀ s.cairnFetch := h.flag.update

theorem Keeps.cairnAddr {v : Nat} (h : Keeps s₀ s) : Keeps s₀ (s.cairnAddr v) := h.set.cairnFetch

theorem Keeps.cairnReady (h : Keeps s₀ s) : Keeps s₀ s.cairnReady := .ite h (.ite h.set.flag.flag h.set.flag)

theorem Keeps.cairnAfterData (h : Keeps s₀ s) : Keeps s₀ s.cairnAfterData := .cairnFetch (.set (.ite h h.flag))

theorem Keeps.cairnAfterRead {idx : Nat} (h : Keeps s₀ s) : Keeps s₀ (cairnAfterRead s idx) := .ite h.cairnAfterData h

theorem Keeps.portCtl {v : Nat} (h : Keeps s₀ s) : Keeps s₀ (s.portCtl v) :=
  .ite h.portRefused (.when (.when (.ite h.portAbort h) (·.portCommit)) (·.portOpen))

theorem Keeps.cairnWrite {idx v : Nat} (h : Keeps s₀ s) : KeepsOpt s₀ (cairnWrite s idx v) :=
  .ite (.some h.portCtl) (.ite (.some h.portData) (.ite (.some h.cairnAddr) .none))

theorem Keeps.stageRetireOf {x : RetireWhat} (h : Keeps s₀ s) : Keeps s₀ (s.stageRetireOf x) := by
  unfold State.stageRetireOf
  split
  · exact h.stageRetire
  · exact h.stageRetire
  · exact h.stageRetire

theorem Keeps.showRetired {x : RetireWhat} (h : Keeps s₀ s) : Keeps s₀ (s.showRetired x) := by
  unfold State.showRetired
  split
  · exact h.setBit.flag
  · exact h.flag.flag
  · exact h.setBit

theorem Keeps.commitRetire {w : RetireWhat} (h : Keeps s₀ s) : Keeps s₀ (s.commitRetire w) :=
  h.showRetired.update.stageRetireOf

theorem Keeps.execRetireCommit (h : Keeps s₀ s) : KeepsOut s₀ (execRetireCommit s) := by
  unfold Machine.execRetireCommit
  refine .next (.ite ?_ h)
  split
  · exact h
  · exact h.commitRetire.arrive.update.supervisorDone

/-! ## Calibration and drift -/

theorem Keeps.noteClamp {n : Nat} (h : Keeps s₀ s) : Keeps s₀ (s.noteClamp n) := .ite h.flag h

theorem Keeps.noteClamps (h : Keeps s₀ s) : Keeps s₀ s.noteClamps := h.forN (fun ht => .ite ht.noteClamp ht)

theorem Keeps.showFrozen (h : Keeps s₀ s) : Keeps s₀ s.showFrozen := h.flag

theorem Keeps.selfCalGo {who permit : Nat} (h : Keeps s₀ s) : Keeps s₀ (s.selfCalGo who permit) :=
  .ite h.flag h.update.set.set.set.set

theorem Keeps.selfCalStop {phase : Nat} (h : Keeps s₀ s) : Keeps s₀ (s.selfCalStop phase) := h.update.set.arrive

theorem Keeps.selfCalAbort (h : Keeps s₀ s) : Keeps s₀ s.selfCalAbort := by
  unfold State.selfCalAbort
  split
  · exact h
  · exact (h.forN (fun ht => .ite ht.rejoinSettle.setBit ht)).selfCalStop.flag

theorem Keeps.strideSkips (h : Keeps s₀ s) : Keeps s₀ s.strideSkips := h.forN (fun ht => .ite ht.setBit ht)

theorem Keeps.selfCalBoundary (h : Keeps s₀ s) : Keeps s₀ s.selfCalBoundary := by
  unfold State.selfCalBoundary
  split
  · exact h
  · exact .ite h.set.strideSkips h

theorem Keeps.rejoin {c : SelfCal} {n : Nat} (h : Keeps s₀ s) : Keeps s₀ (s.rejoin c n) := .ite h h.set.set.noteClamp

theorem Keeps.execSelfcalPhaseEnd {phase : Fin 4} (h : Keeps s₀ s) : KeepsOut s₀ (execSelfcalPhaseEnd phase s) := by
  unfold Machine.execSelfcalPhaseEnd
  refine .next ?_
  split
  · exact h
  · exact .ite (.ite ((h.foldl (·.rejoin)).forN (fun ht => .ite ht ht.rejoinSettle)).selfCalStop
      (.ite ((h.foldl (·.rejoin)).forN (fun ht => .ite ht ht.rejoinSettle)).update.set.strideSkips
      (((h.foldl (·.rejoin)).forN (fun ht => .ite ht ht.rejoinSettle)).update.set.when (·.flag)))) h

theorem Keeps.setRel {n : Nat} {a : Int} (h : Keeps s₀ s) : Keeps s₀ (s.setRel n a) := h.set

theorem Keeps.limitHit {n : Nat} (h : Keeps s₀ s) : Keeps s₀ (s.limitHit n) := h.flag.arrive

theorem Keeps.targetGain {n : Nat} {a m : Int} (h : Keeps s₀ s) : Keeps s₀ (s.targetGain n a m) :=
  h.set.unless (·.limitHit)

theorem Keeps.targetOfs {n : Nat} {os rel : Int} (h : Keeps s₀ s) : Keeps s₀ (s.targetOfs n os rel) :=
  h.set.unless (·.limitHit)

theorem Keeps.twinWindow {q : Fin 4} {k : Nat} {w : Cmp} (h : Keeps s₀ s) : Keeps s₀ (s.twinWindow q k w) :=
  h.setRel.setRel.targetGain.targetGain

theorem Keeps.spareWindow {q : Fin 4} {k : Nat} {w0 w1 : Cmp} (h : Keeps s₀ s) : Keeps s₀ (s.spareWindow q k w0 w1) :=
  h.setRel.setRel.targetGain.targetGain.targetGain.when (·.targetOfs.targetOfs)

theorem Keeps.twinPitch {q : Fin 4} {k : Nat} (h : Keeps s₀ s) : Keeps s₀ (s.twinPitch q k) :=
  .ite (.ite h.setQuad.twinWindow h.setQuad) h

theorem Keeps.spareEst {q : Fin 4} {k : Nat} (h : Keeps s₀ s) : Keeps s₀ (s.spareEst q k) :=
  .ite (.ite h.setQuad.spareWindow h.setQuad) h

theorem Keeps.driftPitch {q : Fin 4} (h : Keeps s₀ s) : Keeps s₀ (s.driftPitch q) :=
  .ite (h.forN (·.twinPitch.spareEst)) h

theorem Keeps.rampGain {n : Nat} {other : Int} (h : Keeps s₀ s) : Keeps s₀ (s.rampGain n other) := h.set

theorem Keeps.rampOfs {n : Nat} (h : Keeps s₀ s) : Keeps s₀ (s.rampOfs n) := h.set

theorem Keeps.rampBlock (h : Keeps s₀ s) : Keeps s₀ s.rampBlock :=
  h.update.unless (fun ht => ((ht.forN (fun ht' => .ite ht'.rampGain.rampOfs ht')).forN
    (fun ht' => .ite ht'.set ht')).noteClamps.update)

theorem Keeps.shWindow {p : Fin 3} {a b : Nat} (h : Keeps s₀ s) : Keeps s₀ (s.shWindow p a b) :=
  .ite h.update h.set.flag.update

theorem Keeps.shFollow (h : Keeps s₀ s) : Keeps s₀ s.shFollow := .showFrozen (.ite h.raise h.flag)

theorem Keeps.shPitch (h : Keeps s₀ s) : Keeps s₀ s.shPitch :=
  .ite (h.foldl (fun ht => .ite (.ite ht.shWindow ht.update) ht)).shFollow h

theorem Keeps.shWrite {v : Nat} (h : Keeps s₀ s) : Keeps s₀ (s.shWrite v) := .ite h h.set.update.shFollow

theorem Keeps.loadDrift (h : Keeps s₀ s) : Keeps s₀ s.loadDrift :=
  ((h.flag.forN (·.set.set.set.set.set)).forN (·.set.set)).update.noteClamps.showFrozen

theorem Keeps.loadRetired (h : Keeps s₀ s) : Keeps s₀ s.loadRetired :=
  h.set.forN (fun ht => ht.set.set.flag.flag.flag.forN (·.flag.flag.set))

theorem Keeps.driftReset (h : Keeps s₀ s) : Keeps s₀ s.driftReset := (h.forN (·.set.set.set)).forN (·.set)

theorem Keeps.trimAfterRead {idx : Nat} (h : Keeps s₀ s) : Keeps s₀ (trimAfterRead s idx) := .ite h.set h

theorem Keeps.trimWrite {who idx v : Nat} (h : Keeps s₀ s) : KeepsOpt s₀ (trimWrite s who idx v) :=
  .ite (.some (h.set.when (·.selfCalGo))) (.ite (.some (h.set.showFrozen.when (·.driftReset)))
    (.ite (.some h.shWrite.showFrozen) (.ite (.some h) .none)))

/-! ## The chain link -/

theorem Keeps.modChain {f : Chain → Chain} (h : Keeps s₀ s) : Keeps s₀ (s.modChain f) := h.update

theorem Keeps.chainGo {st : Nat} (h : Keeps s₀ s) : Keeps s₀ (s.chainGo st) := .ite h h.set.arrive

theorem Keeps.countReplies (h : Keeps s₀ s) : Keeps s₀ s.countReplies := by
  unfold State.countReplies
  exact h.modChain

theorem Keeps.frameSent {ranged : Option (Nat × Nat)} {bad : Bool} (h : Keeps s₀ s) :
    Keeps s₀ (s.frameSent ranged bad) :=
  h.modChain

theorem Keeps.silence (h : Keeps s₀ s) : Keeps s₀ s.silence := .ite h.draw.modChain.chainGo h

theorem Keeps.handoverGo {target : Nat} (h : Keeps s₀ s) : Keeps s₀ (s.handoverGo target) :=
  .ite h (.ite h.modChain h.raise)

theorem Keeps.lead (h : Keeps s₀ s) : Keeps s₀ s.lead := h.chainGo.set.modChain

theorem Keeps.follow (h : Keeps s₀ s) : Keeps s₀ s.follow := h.chainGo.set.modChain

theorem Keeps.execHandoverSwitch (h : Keeps s₀ s) : KeepsOut s₀ (execHandoverSwitch s) := by
  unfold Machine.execHandoverSwitch
  refine .next (.ite (.ite h.follow ?_) h)
  split
  · exact .ite h.lead h
  · exact h

theorem Keeps.execLeaderListenEnd (h : Keeps s₀ s) : KeepsOut s₀ (execLeaderListenEnd s) := by
  unfold Machine.execLeaderListenEnd
  refine .next ?_
  split
  · exact .ite h.lead h
  · exact h

theorem Keeps.listen (h : Keeps s₀ s) : Keeps s₀ s.listen := h.chainGo.modChain

theorem Keeps.execLeaderSilenceEnd (h : Keeps s₀ s) : KeepsOut s₀ (execLeaderSilenceEnd s) := by
  unfold Machine.execLeaderSilenceEnd
  refine .next ?_
  split
  · exact .ite h.listen h
  · exact h

theorem Keeps.chainUtc {f : List Byte} (h : Keeps s₀ s) : Keeps s₀ (s.chainUtc f) :=
  h.set.set.set.flag.flag.when (·.set)

theorem Keeps.takeRtt {rtt : Nat} (h : Keeps s₀ s) : Keeps s₀ (s.takeRtt rtt) := h.set.modChain

theorem Keeps.ranged {g rtt : Nat} (h : Keeps s₀ s) : Keeps s₀ (s.ranged g rtt) :=
  .ite h.takeRtt.set.chainGo h.takeRtt.set.modChain

theorem Keeps.rangeCheck {rtt : Nat} (h : Keeps s₀ s) : Keeps s₀ (s.rangeCheck rtt) :=
  .ite (.ite h.raise.modChain.chainGo h.raise.modChain) h.takeRtt

theorem Keeps.maybeLocked (h : Keeps s₀ s) : Keeps s₀ s.maybeLocked :=
  .ite (h.update.chainGo.when (·.stageEvent.modChain)) h

theorem Keeps.followFrame {f : List Byte} (h : Keeps s₀ s) : Keeps s₀ (s.followFrame f) :=
  h.chainUtc.set.modChain.chainGo.unless (fun ht => .ite (.ite ht h.chainUtc.set.modChain)
    (.ite h.chainUtc.set.modChain.modChain.chainGo (.ite (h.chainUtc.set.modChain.when (·.ranged))
    (h.chainUtc.set.modChain.when (·.rangeCheck)).set)))

theorem Keeps.execFollowerReplySend (h : Keeps s₀ s) : KeepsOut s₀ (execFollowerReplySend s) := by
  unfold Machine.execFollowerReplySend
  refine .next ?_
  split
  · exact h
  · exact .ite h.modChain h

theorem Keeps.renumberWork {d : Int} (h : Keeps s₀ s) : Keeps s₀ (s.renumberWork d) := h.update

theorem Keeps.renumberGrains {d : Int} (h : Keeps s₀ s) : Keeps s₀ (s.renumberGrains d) := h.renumberWork.update

theorem Keeps.chainStepBy {d : Int} (h : Keeps s₀ s) : Keeps s₀ (s.chainStepBy d) :=
  h.renumberGrains.modChain.set2.raise.stageEvent.chainGo

theorem Keeps.chainBoundary (h : Keeps s₀ s) : Keeps s₀ s.chainBoundary :=
  .ite (h.set.maybeLocked.when (·.update)) (.ite h h.update)

theorem Keeps.ownLpos (h : Keeps s₀ s) : Keeps s₀ s.ownLpos := .ite h.set h

theorem Keeps.chainCtrl {v : Nat} (h : Keeps s₀ s) : Keeps s₀ (s.chainCtrl v) :=
  .ite (h.writeCells.when (·.chainGo.set.update)) (.ite h.writeCells.ownLpos
    (.ite h.writeCells.listen h.writeCells.follow))

theorem Keeps.chainWrite {idx v : Nat} (h : Keeps s₀ s) : KeepsOpt s₀ (chainWrite s idx v) :=
  .ite (.some h.chainCtrl) (.ite (.some (.ite h.handoverGo h)) .none)

/-! ## Power quality -/

theorem Keeps.countPosted {i : Nat} (h : Keeps s₀ s) : Keeps s₀ (s.countPosted i) := h.setWord

theorem Keeps.writeEvent {e : PqEvent} {extra : Nat} {stop : Option Nat} (h : Keeps s₀ s) :
    Keeps s₀ (s.writeEvent e extra stop) :=
  h.setBytes.stageEvent.arrive

theorem Keeps.newEvent {kind port phases start : Nat} {held : Bool} (h : Keeps s₀ s) :
    Keeps s₀ (s.newEvent kind port phases start held).2 :=
  .pair h.set.countPosted

theorem Keeps.trigger {b : Nat} (h : Keeps s₀ s) : Keeps s₀ (s.trigger b) :=
  .ite h.set2.set2.set.flag.set (.ite h.setBit h.bump)

theorem Keeps.eventTrigger {kind : Nat} (h : Keeps s₀ s) : Keeps s₀ (s.eventTrigger kind) := .ite h.trigger h

theorem Keeps.countEvent {kind : Nat} (h : Keeps s₀ s) : Keeps s₀ (s.countEvent kind) := by
  unfold State.countEvent
  split
  · exact h.bump
  · exact h.bump
  · exact h.bump
  · exact h.bump
  · exact h.bump
  · exact h

theorem Keeps.openEvent {kind port phases start ext extCh : Nat} {held : Bool} (h : Keeps s₀ s) :
    Keeps s₀ (s.openEvent kind port phases start ext extCh held).2 :=
  .pair h.newEvent.countEvent.writeEvent.eventTrigger

theorem Keeps.pointEvent {kind port byte10 : Nat} (h : Keeps s₀ s) : Keeps s₀ (s.pointEvent kind port byte10) :=
  h.newEvent.writeEvent.eventTrigger

theorem Keeps.modPort {p : Fin 2} {f : PqPort → PqPort} (h : Keeps s₀ s) : Keeps s₀ (s.modPort p f) := h.update

theorem Keeps.machineStep {cur : Option PqEvent} {kind p start : Nat} {held begins ends low : Bool} {hit : Nat}
    {l : List (Nat × Nat)} (h : Keeps s₀ s) :
    Keeps s₀ (s.machineStep cur kind p start held begins ends low hit l).2 := by
  unfold State.machineStep
  dsimp only
  split
  · exact .iteSnd (.pair h.openEvent) (.pair h)
  · exact .iteSnd (.pair h.writeEvent) (.pair h)

theorem Keeps.showActive (h : Keeps s₀ s) : Keeps s₀ s.showActive := h.set

theorem Keeps.portWindow {p : Fin 2} {start : Nat} {held : Bool} {vals : List (Option Nat)} (h : Keeps s₀ s) :
    Keeps s₀ (s.portWindow p start held vals) :=
  .ite h h.machineStep.machineStep.machineStep.modPort.showActive

theorem Keeps.flagBlock {before : Bool} (h : Keeps s₀ s) : Keeps s₀ (s.flagBlock before) := by
  unfold State.flagBlock
  split
  · exact h.update
  · exact h.update

theorem Keeps.halfWindow {p : Pitch} {start : Nat} {whole : Bool} {pts : List (List Smp)} (h : Keeps s₀ s) :
    Keeps s₀ (s.halfWindow p start whole pts) := by
  unfold State.halfWindow
  refine .when (.portWindow (.portWindow (.update (h.forN (fun ht => ?_))))) (·.flagBlock)
  split
  · exact ht
  · exact ht.set.when (·.set)

theorem Keeps.transPoint {p : Fin 2} {i t : Nat} {held : Bool} {pt : List Smp} (h : Keeps s₀ s) :
    Keeps s₀ (s.transPoint p i t held pt) := by
  unfold State.transPoint
  refine .modPort ?_
  split
  · split
    · exact .pair h
    · exact .pair h.newEvent.countEvent.eventTrigger
  · split
    · split
      · exact .pair h.writeEvent
      · exact .pair h
    · exact .pair h

theorem Keeps.transPoints {p : Pitch} {i : Nat} {pts : List (List Smp)} (h : Keeps s₀ s) :
    Keeps s₀ (s.transPoints p i pts) :=
  .ite h.update (h.foldl (fun ht => ht.foldl (fun ht' => .ite ht'.transPoint ht')))

theorem Keeps.noPitch {p : Pitch} (h : Keeps s₀ s) : Keeps s₀ (s.noPitch p) := .ite h.flag h

theorem Keeps.pqWhole (h : Keeps s₀ s) : Keeps s₀ s.pqWhole := by
  unfold State.pqWhole
  split
  · exact h
  · exact h.noPitch.transPoints.halfWindow.update.when (·.update)

theorem Keeps.pqPitch {p : Pitch} {last : Bool} (h : Keeps s₀ s) : Keeps s₀ (s.pqPitch p last) := h.update

theorem Keeps.pqPoints (h : Keeps s₀ s) : Keeps s₀ s.pqPoints := by
  unfold State.pqPoints
  split
  · exact h
  · exact .ite h (h.transPoints.update.when (·.halfWindow))

theorem Keeps.pqFill {whole : Bool} (h : Keeps s₀ s) : Keeps s₀ (s.pqFill whole) := .pqPoints (.ite h.pqWhole h)

theorem Keeps.seqBlock {p : Fin 2} {cls : Nat} (h : Keeps s₀ s) : Keeps s₀ (s.seqBlock p cls) :=
  .ite h.modPort (.ite h.set.modPort.pointEvent h.modPort)

theorem Keeps.neutralBlock {p : Fin 2} {r : PortRes} (h : Keeps s₀ s) : Keeps s₀ (s.neutralBlock p r) :=
  (h.modPort.setBit.setBit.when (·.pointEvent)).when (·.pointEvent)

theorem Keeps.learn {p : Fin 2} {track : Bool} {rms : Nat → Option Nat} (h : Keeps s₀ s) :
    Keeps s₀ (s.learn p track rms) :=
  .ite (.ite h (h.force'.force'.when (·.set.set)).flag.pointEvent) h

theorem Keeps.writeEntry {e kind : Nat} {a : PqAgg} {vals : List Nat} {tail : List (Nat × Nat × Nat × Nat)}
    (h : Keeps s₀ s) : Keeps s₀ (s.writeEntry e kind a vals tail) :=
  h.setBytes

theorem Keeps.portTail {p : Nat} (h : Keeps s₀ s) : Keeps s₀ (s.portTail p).2 :=
  .iteSnd (.pair h.openVal.openVal) (.pair h)

theorem Keeps.tailOf (h : Keeps s₀ s) : Keeps s₀ s.tailOf.2 := .pair h.portTail.portTail

theorem Keeps.postInterval {entry kind count : Nat} {a : PqAgg} (h : Keeps s₀ s) :
    Keeps s₀ (s.postInterval entry kind count a) :=
  h.tailOf.writeEntry.countPosted.arrive

theorem Keeps.postTwo (h : Keeps s₀ s) : Keeps s₀ s.postTwo := by
  unfold State.postTwo
  split
  · exact h
  · exact h.postInterval.update

theorem Keeps.joinTwo {a : PqAgg} {ix : Nat} (h : Keeps s₀ s) : Keeps s₀ (s.joinTwo a ix) :=
  .when (.update (.ite h h.postTwo)) (·.postTwo)

theorem Keeps.postTen (h : Keeps s₀ s) : Keeps s₀ s.postTen := by
  unfold State.postTen
  split
  · exact h
  · exact h.postInterval.update.joinTwo

theorem Keeps.postEnded (h : Keeps s₀ s) : Keeps s₀ s.postEnded := .ite h (.when (.ite h.postTen h) (·.postTwo))

theorem Keeps.joinIv {iv : PqAgg} {x : Option Bool} (h : Keeps s₀ s) : Keeps s₀ (s.joinIv iv x) := by
  unfold State.joinIv
  split
  · exact h.update
  · exact h.postInterval.update

theorem Keeps.joinTen {a : PqAgg} {vals : List Nat} {ix : Nat} (h : Keeps s₀ s) : Keeps s₀ (s.joinTen a vals ix) :=
  h.update

theorem Keeps.joinIntervals {a : PqAgg} {vals : List Nat} {i : BlockInfo} (h : Keeps s₀ s) :
    Keeps s₀ (s.joinIntervals a vals i) :=
  (h.joinIv.when (·.postTen)).joinTen

theorem Keeps.writePhases {n : Nat} {pts : Nat → List Smp} {on' : Nat → Bool} (h : Keeps s₀ s) :
    Keeps s₀ (s.writePhases n pts on') :=
  h.setBytes

theorem Keeps.postBlock {blk : List (Pitch × List (List Smp))} {flagged : Bool} {i : BlockInfo} (h : Keeps s₀ s) :
    Keeps s₀ (s.postBlock blk flagged i) :=
  ((h.writeEntry.countPosted.unless (·.writePhases)).update.joinIntervals.postEnded.foldl
    (fun ht => .ite ht.seqBlock.neutralBlock.learn ht)).set2.arrive

theorem Keeps.execPqBlockPost (h : Keeps s₀ s) : KeepsOut s₀ (execPqBlockPost s) := by
  unfold Machine.execPqBlockPost
  refine .next ?_
  split
  · exact .ite h.update.postBlock h
  · exact h

theorem Keeps.pqBlockBoundary (h : Keeps s₀ s) : Keeps s₀ s.pqBlockBoundary :=
  h.update.unless (fun ht => ht.foldl (·.takeEffect))

theorem Keeps.pqBoundary (h : Keeps s₀ s) : Keeps s₀ s.pqBoundary := (h.foldl (·.takeEffect)).when (·.update)

theorem Keeps.pqBaseCamp (h : Keeps s₀ s) : Keeps s₀ s.pqBaseCamp := (h.foldl (·.force')).when (·.set)

/-! ## Capture -/

theorem Keeps.supraFill (h : Keeps s₀ s) : Keeps s₀ s.supraFill := .unless (.ite h.update h) (·.update)

theorem Keeps.execSupraWindowEnd (h : Keeps s₀ s) : KeepsOut s₀ (execSupraWindowEnd s) := by
  unfold Machine.execSupraWindowEnd
  refine .next ?_
  split
  · exact h
  · exact .ite h.update h

theorem Keeps.thrWrite {i v : Nat} (h : Keeps s₀ s) : Keeps s₀ (s.thrWrite i v) :=
  .ite (.ite h.set.set h.flag) (.ite h.set.set h.flag)

theorem Keeps.udinWrite {p v : Nat} (h : Keeps s₀ s) : Keeps s₀ (s.udinWrite p v) := .ite h (h.set.unless (·.flag))

theorem Keeps.pqWrite {idx v : Nat} (h : Keeps s₀ s) : KeepsOpt s₀ (pqWrite s idx v) :=
  .ite (.some (h.writeCells.set.unless (·.set.set))) (.ite (.some h.udinWrite) (.ite (.some h.thrWrite) .none))

theorem Keeps.pqWarning (h : Keeps s₀ s) : Keeps s₀ s.pqWarning :=
  (h.foldl (·.writeEvent)).unless (·.openEvent.update.flag)

theorem Keeps.pqClear (h : Keeps s₀ s) : Keeps s₀ s.pqClear := by
  unfold State.pqClear
  split
  · exact h
  · exact h.writeEvent.update.flag

theorem Keeps.pqReopen {cold : Bool} (h : Keeps s₀ s) : Keeps s₀ (s.pqReopen cold) :=
  .ite h (h.foldl (fun ht => .ite ht.writeEvent ht.writeEvent)).update

theorem Keeps.captFill (h : Keeps s₀ s) : Keeps s₀ s.captFill := .ite h.setBytes.update h

theorem Keeps.freeze {incomplete : Bool} {stop : Nat} (h : Keeps s₀ s) : Keeps s₀ (s.freeze incomplete stop) :=
  (h.set.set.when (·.flag)).set.arrive

theorem Keeps.captWarning (h : Keeps s₀ s) : Keeps s₀ s.captWarning := .ite h.set2.freeze (.ite h.freeze h)

theorem Keeps.arm (h : Keeps s₀ s) : Keeps s₀ s.arm := .ite h.flag h.update.set.set.flag.set.set

theorem Keeps.disarm (h : Keeps s₀ s) : Keeps s₀ s.disarm := .ite h h.set

theorem Keeps.drawGo {who v : Nat} (h : Keeps s₀ s) : Keeps s₀ (s.drawGo who v) :=
  .ite h.flag (h.update.when (·.set)).set

theorem Keeps.drawStop (h : Keeps s₀ s) : Keeps s₀ s.drawStop := .ite h.set.flag.arrive h

theorem Keeps.captWrite {who idx v : Nat} (h : Keeps s₀ s) : KeepsOpt s₀ (captWrite s who idx v) :=
  .ite (.some h.set) (.ite (.some (.when (.when (.ite h.disarm h) (·.arm)) (·.trigger)))
    (.ite (.some (.ite h.drawGo h)) .none))

/-! ## The auxiliary converter -/

theorem Keeps.modAux {f : AuxSt → AuxSt} (h : Keeps s₀ s) : Keeps s₀ (s.modAux f) := h.update

theorem Keeps.auxCh {v : Nat} (h : Keeps s₀ s) : Keeps s₀ (s.auxCh v) := .ite h.flag h.set

theorem Keeps.convStart {at' : Nat} (h : Keeps s₀ s) : Keeps s₀ (s.convStart at') := by
  unfold State.convStart
  exact h.modAux

theorem Keeps.auxResume {at' : Nat} (h : Keeps s₀ s) : Keeps s₀ (s.auxResume at') := .ite h.convStart h

theorem Keeps.resultStart {at' : Nat} (h : Keeps s₀ s) : Keeps s₀ (s.resultStart at') := h.modAux.auxResume

theorem Keeps.auxGo (h : Keeps s₀ s) : Keeps s₀ s.auxGo := .ite h.flag h.flag.resultStart

theorem Keeps.auxStop (h : Keeps s₀ s) : Keeps s₀ s.auxStop := .ite h.flag (.ite (.ite h.modAux h.flag) h)

theorem Keeps.auxCal (h : Keeps s₀ s) : Keeps s₀ s.auxCal := .ite h.flag h.flag.flag.modAux

theorem Keeps.auxPost {code : Int} (h : Keeps s₀ s) : Keeps s₀ (s.auxPost code) :=
  .arrive (.modAux (.set (.ite h.flag.arrive h)))

theorem Keeps.execAuxConversionEnd {code : Int} (h : Keeps s₀ s) : KeepsOut s₀ (execAuxConversionEnd code s) := by
  unfold Machine.execAuxConversionEnd
  refine .next ?_
  split
  · exact h
  · exact .ite (.ite h.flag.modAux (.ite h.modAux.auxResume (.ite h.modAux.auxPost.resultStart
      h.modAux.auxPost.flag))) h

theorem Keeps.urgentStart {src ch : Nat} (h : Keeps s₀ s) : Keeps s₀ (s.urgentStart src ch) := by
  unfold State.urgentStart
  exact h.set.set.modAux

theorem Keeps.execAuxRefReady (h : Keeps s₀ s) : KeepsOut s₀ (execAuxRefReady s) := by
  unfold Machine.execAuxRefReady
  refine .next (.ite ?_ h)
  dsimp only
  split
  · exact .when (.ite h.flag h) (·.urgentStart)
  · exact .ite h.flag h
  · exact .unless (.ite h.flag h) (fun ht => .ite ht.convStart (.ite ht.auxCal.modAux ht))

theorem Keeps.urgentRequest {src ch : Nat} (h : Keeps s₀ s) : Keeps s₀ (s.urgentRequest src ch) :=
  .ite h.bump (.ite h.flag.urgentStart h.flag.modAux)

theorem Keeps.execUrgentConversionEnd {code : Int} (h : Keeps s₀ s) :
    KeepsOut s₀ (execUrgentConversionEnd code s) := by
  unfold Machine.execUrgentConversionEnd
  refine .next ?_
  split
  · exact .ite (h.flag.modAux.unless (·.auxResume)) h
  · exact h

theorem Keeps.auxCtrl {v : Nat} (h : Keeps s₀ s) : Keeps s₀ (s.auxCtrl v) := h.writeCells.unless (·.flag.flag.modAux)

theorem Keeps.auxAfterRead {idx : Nat} (h : Keeps s₀ s) : Keeps s₀ (auxAfterRead s idx) :=
  .ite h.flag.flag.flag.set.modAux h

theorem Keeps.auxWrite {idx v : Nat} (h : Keeps s₀ s) : KeepsOpt s₀ (auxWrite s idx v) :=
  .ite (.some h.auxCtrl) (.ite (.some h.auxCh) (.ite (.some (.when (.when (.ite h.auxStop h) (·.auxCal)) (·.auxGo)))
    .none))

/-! ## Branches, control-status registers, SYS -/

theorem KeepsOut.controlOnly {p : Proc} {f : Fin 2 → State} (hf : ∀ {x}, Keeps s₀ (f x)) :
    KeepsOut s₀ (controlOnly p f) := by
  unfold Sys2Proof.Machine.controlOnly
  split
  · exact .fault
  · exact .next hf

theorem Keeps.branch {p : Proc} {a b : Fin 32} {off : BitVec 16} {c : Word → Word → Bool} (h : Keeps s₀ s) :
    Keeps s₀ (s.branch p a b off c) :=
  h.instr (fun ht => .ok ht)

theorem Keeps.csrLatch {c : Fin 2} {i : Nat} (h : Keeps s₀ s) : Keeps s₀ (s.csrLatch c i) := .ite h.set h

theorem Keeps.csrOp {p : Proc} {d a i : Fin 32} {f : Nat → Nat → Option Nat} (h : Keeps s₀ s) :
    KeepsOut s₀ (s.csrOp p d a i f) := by
  unfold State.csrOp
  refine .controlOnly ?_
  intro _
  refine h.instr (fun ht => ?_)
  split
  · exact .error
  · refine .ok ?_
    split
    · exact ht.csrLatch.writeCells
    · exact ht.csrLatch

theorem Keeps.execCsrRead {p : Proc} {d c : Fin 32} (h : Keeps s₀ s) : KeepsOut s₀ (execCsrRead p d c s) := by
  unfold Machine.execCsrRead
  exact h.csrOp

theorem Keeps.execCsrSet {p : Proc} {d a c : Fin 32} (h : Keeps s₀ s) : KeepsOut s₀ (execCsrSet p d a c s) := by
  unfold Machine.execCsrSet
  exact h.csrOp

theorem Keeps.execCsrClear {p : Proc} {d a c : Fin 32} (h : Keeps s₀ s) : KeepsOut s₀ (execCsrClear p d a c s) := by
  unfold Machine.execCsrClear
  exact h.csrOp

theorem Keeps.returnFrom {c : Fin 2} (h : Keeps s₀ s) : Keeps s₀ (s.returnFrom c) :=
  .ite h.flag.setCore h.flag.flag.setCore

theorem Keeps.svcNext {c : Fin 2} (h : Keeps s₀ s) : Keeps s₀ (s.svcNext c) := by
  unfold State.svcNext
  split
  · exact .ite h.setCore h
  · exact h

/-! ## The host link -/

theorem Keeps.modLink {f : LinkSt → LinkSt} (h : Keeps s₀ s) : Keeps s₀ (s.modLink f) := h.update

theorem Keeps.outSeqNext (h : Keeps s₀ s) : Keeps s₀ s.outSeqNext := h.set

theorem Keeps.send {type flags : Nat} {body : List Byte} (h : Keeps s₀ s) : Keeps s₀ (s.send type flags body) :=
  h.modLink.outSeqNext

theorem Keeps.sendReport (h : Keeps s₀ s) : Keeps s₀ s.sendReport := .ite h.send.modLink h

theorem Keeps.refuseParcel {b : List Byte} (h : Keeps s₀ s) : Keeps s₀ (s.refuseParcel b) :=
  .ite (.send (.iteSnd (.pair h.bump.arrive) h.bump.arrive.openVal))
    (.outSeqNext (.iteSnd (.pair h.bump.arrive) h.bump.arrive.openVal))

theorem Keeps.takeParcel {b : List Byte} (h : Keeps s₀ s) : Keeps s₀ (s.takeParcel b) := h.openVal.modLink.arrive

theorem Keeps.shiftStatus (h : Keeps s₀ s) : Keeps s₀ s.shiftStatus := h.update

theorem Keeps.shiftOut {b : List Byte} (h : Keeps s₀ s) : Keeps s₀ (s.shiftOut b) := h.modLink

theorem Keeps.execSpiWrite {len : BitVec 24} {bytes : List Byte} (h : Keeps s₀ s) :
    KeepsOut s₀ (execSpiWrite len bytes s) :=
  .next (.ite h (.ite h.shiftStatus.shiftOut.bump (.ite h.shiftStatus.shiftOut.takeParcel
    h.shiftStatus.shiftOut.refuseParcel)))

theorem Keeps.execSpiRead {whole : Bool} (h : Keeps s₀ s) : KeepsOut s₀ (execSpiRead whole s) := by
  unfold Machine.execSpiRead
  refine .next (.ite h ?_)
  dsimp only
  split
  · exact h.shiftStatus.shiftOut
  · exact h.shiftStatus.shiftOut.unless (fun ht => ht.modLink.sendReport.when (·.arrive))

theorem Keeps.linkLost (h : Keeps s₀ s) : Keeps s₀ s.linkLost := h.set.modLink

theorem Keeps.freeFront (h : Keeps s₀ s) : Keeps s₀ s.freeFront := h.modLink

theorem Keeps.accepted {seq type : Nat} {body : List Byte} (h : Keeps s₀ s) :
    Keeps s₀ (s.accepted seq type body) := by
  unfold State.accepted
  exact h.set.modLink

theorem Keeps.answerGood {p : InParcel} {type code sub : Nat} {rest : List Byte} (h : Keeps s₀ s) :
    Keeps s₀ (s.answerGood p type code sub rest) :=
  h.send.accepted.freeFront

theorem Keeps.answerFault {p : InParcel} {code sub : Nat} (h : Keeps s₀ s) : Keeps s₀ (s.answerFault p code sub) :=
  h.send.freeFront

theorem Keeps.refuse {p : InParcel} {sub : Nat} (h : Keeps s₀ s) : Keeps s₀ (s.refuse p sub) := h.answerFault

theorem Keeps.answerBehind {p : InParcel} (h : Keeps s₀ s) : Keeps s₀ (s.answerBehind p) := by
  unfold State.answerBehind
  split
  · exact h.bump.send.freeFront
  · split
    · exact .ite h.bump.send.freeFront h.answerFault
    · exact h.answerFault

theorem Keeps.seqTake {p : InParcel} (h : Keeps s₀ s) : Keeps s₀ (s.seqTake p) := .ite h h.set.flag.modLink

theorem Keeps.orWait (h1 : Keeps s₀ s) (h2 : Keeps s₀ t) : Keeps s₀ (s.orWait t) := .ite h2 h1

theorem Keeps.handle {kind : InParcel → Bool} {act : InParcel → State → State} (h : Keeps s₀ s)
    (hact : ∀ {x} {t}, Keeps s₀ t → Keeps s₀ (act x t)) : Keeps s₀ (s.handle kind act) := by
  unfold State.handle
  refine .ite h ?_
  split
  · exact h
  · refine .ite h (.ite (hact h) ?_)
    split
    · exact hact h.seqTake
    · exact .ite h.bump.answerFault h
    · exact h.orWait h.answerBehind

theorem Keeps.outLen {v : Nat} (h : Keeps s₀ s) : Keeps s₀ (s.outLen v) := h.set.modLink

theorem Keeps.outData {v : Nat} (h : Keeps s₀ s) : Keeps s₀ (s.outData v) := h.modLink

theorem Keeps.outGo {v : Nat} (h : Keeps s₀ s) : Keeps s₀ (s.outGo v) := by
  unfold State.outGo
  refine .ite h (.ite h.bump (h.send.modLink.when (fun ht => .modLink ?_)))
  split
  · exact .ite ht.accepted ht
  · exact ht

theorem Keeps.hostAfterRead {b idx : Nat} (h : Keeps s₀ s) : Keeps s₀ (hostAfterRead s b idx) := .ite h.set h

theorem Keeps.hostWrite {idx v : Nat} (h : Keeps s₀ s) : KeepsOpt s₀ (hostWrite s idx v) :=
  .ite (.some h.outLen) (.ite (.some h.outData) (.ite (.some h.outGo) .none))

/-! ## Tamper and access -/

theorem Keeps.modTamp {f : Tamp → Tamp} (h : Keeps s₀ s) : Keeps s₀ (s.modTamp f) := h.update

theorem Keeps.modSrc {n : Fin 8} {f : TampSrc → TampSrc} (h : Keeps s₀ s) : Keeps s₀ (s.modSrc n f) := h.modTamp

theorem Keeps.modAccess {f : AccessSt → AccessSt} (h : Keeps s₀ s) : Keeps s₀ (s.modAccess f) := h.update

theorem Keeps.setLevel {v : Nat} (h : Keeps s₀ s) : Keeps s₀ (s.setLevel v) := h.set.unless (·.arrive)

theorem Keeps.endSession (h : Keeps s₀ s) : Keeps s₀ s.endSession := h.setLevel

theorem Keeps.unlock {level : Nat} (h : Keeps s₀ s) : Keeps s₀ (s.unlock level) := h.setLevel.set.modAccess

theorem Keeps.failedAttempt (h : Keeps s₀ s) : Keeps s₀ s.failedAttempt := h.incSat.modSrc.modAccess.arrive

theorem Keeps.authenticated (h : Keeps s₀ s) : Keeps s₀ s.authenticated := h.modAccess

theorem Keeps.execNonceExpiry (h : Keeps s₀ s) : KeepsOut s₀ (execNonceExpiry s) := by
  unfold Machine.execNonceExpiry
  refine .next ?_
  split
  · exact .ite h.modAccess h
  · exact h

theorem Keeps.extend {x : Fin 4} {bs : List Byte} (h : Keeps s₀ s) : Keeps s₀ (s.extend x bs) := by
  unfold State.extend
  exact .modAccess (.ite h.set h)

theorem Keeps.accessAfterRead {b idx : Nat} (h : Keeps s₀ s) : Keeps s₀ (accessAfterRead s b idx) := .ite h.set h

theorem Keeps.accessWrite {idx v : Nat} (h : Keeps s₀ s) : KeepsOpt s₀ (accessWrite s idx v) :=
  .ite (.some (.ite h.endSession h)) .none

theorem Keeps.execQuoteSigned (h : Keeps s₀ s) : KeepsOut s₀ (execQuoteSigned s) := by
  unfold Machine.execQuoteSigned
  refine .next ?_
  split
  · exact h
  · exact .ite h.send.accepted.modAccess h

theorem Keeps.mirrorRing (h : Keeps s₀ s) : Keeps s₀ s.mirrorRing := h.setBytes.set

theorem Keeps.ringAdd {e : RingEntry} (h : Keeps s₀ s) : Keeps s₀ (s.ringAdd e) :=
  .ite h.modTamp.mirrorRing h.incSat.modTamp.mirrorRing

theorem Keeps.tampRecord {src kind resp dets code1 code2 : Nat} (h : Keeps s₀ s) :
    Keeps s₀ (s.tampRecord src kind resp dets code1 code2) :=
  .ite h.stageTamper.belayDue h.ringAdd

theorem Keeps.inForce (h : Keeps s₀ s) : Keeps s₀ s.inForce := h.set.flag.flag.showFrozen

theorem Keeps.refuseUnlock (h : Keeps s₀ s) : Keeps s₀ s.refuseUnlock := by
  unfold State.refuseUnlock
  refine h.update.when (fun ht => ?_)
  dsimp only
  split
  · exact .ite ht.refuse ht
  · exact ht

theorem Keeps.zeroize (h : Keeps s₀ s) : Keeps s₀ s.zeroize :=
  h.refuseUnlock.endSession.flag.set.modAccess.modTamp.belayDue

theorem Keeps.declare {n : Fin 8} {mask : Nat} (h : Keeps s₀ s) : Keeps s₀ (s.declare n mask) :=
  ((((h.setBit.bump.update.when (·.decideFirst)).when (·.endSession)).inForce.when (·.update)).tampRecord.when
    (·.update)).when (·.arrive)

theorem Keeps.detFault {n : Fin 8} (h : Keeps s₀ s) : Keeps s₀ (s.detFault n) := h.setBit.tampRecord.arrive

theorem Keeps.tickSource {t : TickIn} {n : Fin 8} (h : Keeps s₀ s) : Keeps s₀ (s.tickSource t n) :=
  .when (.ite ((h.modSrc.when (·.setBit.setBit.setBit.setBit.setBit)).setBit.when (·.setBit.detFault))
    ((h.modSrc.when (·.setBit.setBit.setBit.setBit.setBit)).when (·.detFault))) (·.decideFirst)

theorem Keeps.tampTick {t : TickIn} (h : Keeps s₀ s) : Keeps s₀ (s.tampTick t) := by
  unfold State.tampTick
  exact (h.foldl (·.tickSource)).modTamp

theorem Keeps.agree {x : Decision} (h : Keeps s₀ s) : Keeps s₀ (s.agree x) := by
  unfold State.agree
  split
  · exact h.update
  · exact h.declare
  · dsimp only
    split
    · exact h.unlock.when (·.answerGood)
    · exact h.unlock
  · exact h.zeroize

theorem Keeps.disagree {d : Decision} (h : Keeps s₀ s) : Keeps s₀ (s.disagree d) := by
  unfold State.disagree
  dsimp only
  split
  · exact .ite h.faultInjection h.flag.ringAdd
  · exact .declare (.ite h.faultInjection h.flag.ringAdd)
  · split
    · exact .when (.ite h.faultInjection h.flag.ringAdd) (·.refuse)
    · exact .ite h.faultInjection h.flag.ringAdd
  · exact .zeroize (.ite h.faultInjection h.flag.ringAdd)

theorem Keeps.execDualDecisionSecond {agree : Bool} (h : Keeps s₀ s) :
    KeepsOut s₀ (execDualDecisionSecond agree s) := by
  unfold Machine.execDualDecisionSecond
  refine .next ?_
  split
  · exact h
  · exact .ite h (.ite h.update.agree h.update.disagree)

theorem Keeps.clearSource {n : Fin 8} (h : Keeps s₀ s) : Keeps s₀ (s.clearSource n) := by
  unfold State.clearSource
  exact h.setBit.setBit.update.modSrc

theorem Keeps.tampClear {mask : Nat} {fi : Bool} (h : Keeps s₀ s) : Keeps s₀ (s.tampClear mask fi) :=
  ((h.foldl (fun ht => .ite ht.clearSource ht)).when (·.flag)).inForce

theorem Keeps.tampTest {v : Nat} (h : Keeps s₀ s) : Keeps s₀ (s.tampTest v) := h.modTamp

theorem Keeps.tampWrite {b idx v : Nat} (h : Keeps s₀ s) : KeepsOpt s₀ (tampWrite s b idx v) :=
  .ite (.some h.tampTest) (.ite (.some h) .none)

/-! ## Permits -/

theorem Keeps.modPwr {f : PowerSt → PowerSt} (h : Keeps s₀ s) : Keeps s₀ (s.modPwr f) := h.update

theorem Keeps.budget (h : Keeps s₀ s) : Keeps s₀ s.budget := .ite h h.set

theorem Keeps.supplyAt {bulk : Nat} (h : Keeps s₀ s) : Keeps s₀ (s.supplyAt bulk) := h.set.unless (·.set.budget)

theorem Keeps.grant {n : Nat} (h : Keeps s₀ s) : Keeps s₀ (s.grant n) := h.set.modPwr

theorem Keeps.fillPermit {n who cls draw hold : Nat} (h : Keeps s₀ s) : Keeps s₀ (s.fillPermit n who cls draw hold) :=
  h.set.set.set.set.set

theorem Keeps.pickPermit (h : Keeps s₀ s) : ∀ x ∈ s.pickPermit, Keeps s₀ x.2 := by
  unfold State.pickPermit
  split
  · simp
  · rintro x ⟨⟩; exact h
  · rintro x ⟨⟩; exact h.openVal

theorem Keeps.permitRequest {who cls draw hold : Nat} {nowait : Bool} (h : Keeps s₀ s) :
    Keeps s₀ (s.permitRequest who cls draw hold nowait).2.2 := by
  unfold State.permitRequest
  split
  · exact h
  · split
    · exact h
    · split
      · exact h
      · split
        · exact h
        next n t e =>
          have ht : Keeps s₀ t := h.pickPermit (n, t) e
          split
          · exact ht.fillPermit.grant
          · split
            · exact h
            · dsimp only
              exact ht.fillPermit.modPwr

theorem Keeps.freePermit {n : Nat} (h : Keeps s₀ s) : Keeps s₀ (s.freePermit n) := by
  unfold State.freePermit
  exact h.set.set.set.set.set.modPwr

theorem Keeps.grantList {l : List Nat} (h : Keeps s₀ s) : Keeps s₀ (s.grantList l).2 := by
  induction l generalizing s with
  | nil => exact h
  | cons n l ih =>
    unfold State.grantList
    split
    · exact ih h.grant.arrive
    · exact h

theorem Keeps.grantQueued (h : Keeps s₀ s) : Keeps s₀ s.grantQueued := by
  unfold State.grantQueued
  refine .ite h (.foldlSnd h fun {b} {_} hb => ?_)
  split
  · exact hb
  · exact hb.grantList

/-! ## The modem -/

theorem Keeps.modModem {f : ModemSt → ModemSt} (h : Keeps s₀ s) : Keeps s₀ (s.modModem f) := h.update

theorem Keeps.txPermit {f : TxFrame} {nowait : Bool} (h : Keeps s₀ s) : Keeps s₀ (s.txPermit f nowait).2.2 :=
  h.permitRequest

theorem Keeps.showPermit {n : Option Nat} (h : Keeps s₀ s) : Keeps s₀ (s.showPermit n) := by
  unfold State.showPermit
  split
  · exact h.flag.set
  · exact h.flag.set

theorem Keeps.txDone {result : Nat} (h : Keeps s₀ s) : Keeps s₀ (s.txDone result) :=
  .ite h.flag.flag.flag.flag.set.showPermit.modModem.arrive (h.flag.flag.flag.flag.set.showPermit.modModem.when
    (·.arrive))

theorem Keeps.attempt {f : TxFrame} {from' : Nat} (h : Keeps s₀ s) : Keeps s₀ (s.attempt f from') :=
  .ite h.txPermit.modModem.txDone (.ite h.txPermit.modModem.flag h.txPermit.modModem.showPermit)

theorem Keeps.txGo (h : Keeps s₀ s) : Keeps s₀ s.txGo.2 :=
  .iteSnd (.pair h.flag) (.iteSnd (.pair h.flag) (.pair h.flag.modModem.set.set.set.attempt))

theorem Keeps.beginTx {f : TxFrame} {at' : Nat} (h : Keeps s₀ s) : Keeps s₀ (s.beginTx f at').2 :=
  .pair h.flag.flag.set2

theorem Keeps.execModemFrameStart (h : Keeps s₀ s) : KeepsOut s₀ (execModemFrameStart s) := by
  unfold Machine.execModemFrameStart
  refine .next ?_
  split
  · exact h
  · refine .ite h (.ite h.flag.showPermit.modModem ?_)
    dsimp only
    split
    · exact h.modModem
    · exact .ite h (.ite h.flag.modModem h.beginTx.set.modModem)

theorem Keeps.execModemFrameEnd (h : Keeps s₀ s) : KeepsOut s₀ (execModemFrameEnd s) := by
  unfold Machine.execModemFrameEnd
  refine .next ?_
  split
  · exact h
  · refine .ite h (.ite h.flag.modModem.modModem ?_)
    split
    · exact h.flag.modModem.txDone
    · exact .ite h.flag.modModem.flag.modModem h.flag.modModem.txDone

theorem Keeps.txStop {result : Nat} (h : Keeps s₀ s) : Keeps s₀ (s.txStop result) := by
  unfold State.txStop
  dsimp only
  split
  · exact h.flag.modModem
  · exact .ite (.ite (h.flag.modModem.modModem.when (·.txDone)) h.flag.modModem.modModem)
      (h.flag.modModem.modModem.when (·.txDone))

theorem Keeps.execLbtBackoffEnd (h : Keeps s₀ s) : KeepsOut s₀ (execLbtBackoffEnd s) := by
  unfold Machine.execLbtBackoffEnd
  refine .next ?_
  split
  · exact .ite h.modModem h
  · exact h

theorem Keeps.modemWords (h : Keeps s₀ s) : Keeps s₀ s.modemWords := .ite h h.modModem

theorem Keeps.bumpBy {count sat : Fld} {n : Nat} (h : Keeps s₀ s) : Keeps s₀ (s.bumpBy count sat n) :=
  .ite h.set h.set.flag

theorem Keeps.ringWrite {b : List Byte} {at' erased : Nat} (h : Keeps s₀ s) : Keeps s₀ (s.ringWrite b at' erased) :=
  h.setBytes.set.bump.modModem.arrive

theorem Keeps.planAck {b : List Byte} (h : Keeps s₀ s) : Keeps s₀ (s.planAck b) := by
  unfold State.planAck
  exact h.modModem

theorem Keeps.deliver {b : List Byte} {at' erased : Nat} (h : Keeps s₀ s) : Keeps s₀ (s.deliver b at' erased) :=
  .ite (h.bump.when (·.planAck)) (.ite h.flag (h.ringWrite.when (·.planAck)))

theorem Keeps.execModemRxDecode {began symbols : Nat} (h : Keeps s₀ s) :
    KeepsOut s₀ (execModemRxDecode began symbols s) := by
  unfold Machine.execModemRxDecode
  refine .next ?_
  split
  · exact h
  · exact .ite h (.ite h.flag.modModem.bumpBy.bump (.ite h.flag.modModem.bumpBy.txDone
      (h.flag.modModem.bumpBy.when (·.deliver))))

theorem Keeps.execModemAckSend (h : Keeps s₀ s) : KeepsOut s₀ (execModemAckSend s) := by
  unfold Machine.execModemAckSend
  refine .next ?_
  split
  · exact h
  · refine .ite h ?_
    split
    · exact h.modModem
    · exact .ite h (.ite h.flag.modModem (.ite h.txPermit.modModem h.txPermit.beginTx.modModem))

theorem Keeps.execModemAckTimeout (h : Keeps s₀ s) : KeepsOut s₀ (execModemAckTimeout s) := by
  unfold Machine.execModemAckTimeout
  refine .next ?_
  split
  · exact h
  · exact .ite h (.ite h.flag.bump.attempt h.txDone)

theorem Keeps.txgoWrite {v : Nat} (h : Keeps s₀ s) : Keeps s₀ (s.txgoWrite v).2 :=
  .iteSnd (.txGo (.ite h.txStop h)) (.pair (.ite h.txStop h))

theorem Keeps.modemWrite {idx v : Nat} (h : Keeps s₀ s) : KeepsOpt s₀ (modemWrite s idx v) :=
  .ite (.some h.txgoWrite) (.ite (.some h.modModem.set) .none)

/-! ## Glass -/

theorem Keeps.modGlass {f : GlassSt → GlassSt} (h : Keeps s₀ s) : Keeps s₀ (s.modGlass f) := h.update

theorem Keeps.lcdcfgWrite {v : Nat} (h : Keeps s₀ s) : Keeps s₀ (s.lcdcfgWrite v) := .ite h.flag h.writeCells

theorem Keeps.pumpOk (h : Keeps s₀ s) : Keeps s₀ s.pumpOk := h.flag

theorem Keeps.execLcdFrameBoundary (h : Keeps s₀ s) : KeepsOut s₀ (execLcdFrameBoundary s) :=
  .next (.ite ((h.foldl (·.takeEffect)).forN (·.takeEffect.takeEffect)).set.openVal.modGlass.pumpOk h)

theorem Keeps.execNtcRequest {code : Option Int} (h : Keeps s₀ s) : KeepsOut s₀ (execNtcRequest code s) := by
  unfold Machine.execNtcRequest
  refine .next (.ite ?_ h)
  dsimp only
  split
  · exact h.modGlass.modGlass.when (·.flag)
  · exact h.modGlass.modGlass.flag.set.set

theorem Keeps.tableCheck {v : Nat} (h : Keeps s₀ s) : Keeps s₀ (s.tableCheck v) :=
  .ite h (.ite h.setBit h.setBit.flag)

theorem Keeps.phaseNext (h : Keeps s₀ s) : Keeps s₀ s.phaseNext := h.set

theorem Keeps.tableWrite {v : Nat} (h : Keeps s₀ s) : Keeps s₀ (s.tableWrite v) := h.set.setBit.phaseNext

theorem Keeps.maskWrite {idx v : Nat} (h : Keeps s₀ s) : Keeps s₀ (s.maskWrite idx v) := .ite h.flag h.writeCells

theorem Keeps.stageStart {region mask : Nat} {req : GlassReq} (h : Keeps s₀ s) :
    Keeps s₀ (s.stageStart region mask req) := by
  unfold State.stageStart
  exact h.stageEvent.modGlass

theorem Keeps.nextUpdate (h : Keeps s₀ s) : Keeps s₀ s.nextUpdate := by
  unfold State.nextUpdate
  refine .ite h (.ite (.stageStart (.modGlass ?_)) ?_)
  · split
    · exact h.permitRequest
    · exact .pair h
  · split
    · exact .ite h.modGlass h
    · split
      · exact .ite h.modGlass h
      · exact .stageStart (.modGlass (.ite h.modGlass h))

theorem Keeps.glassBlock (h : Keeps s₀ s) : Keeps s₀ s.glassBlock := h.modGlass.nextUpdate

theorem Keeps.glassGo {who v : Nat} (h : Keeps s₀ s) : Keeps s₀ (s.glassGo who v).2 :=
  .iteSnd (.pair h) (.iteSnd (.pair h.flag) (.pair (.nextUpdate (.modGlass (.ite h.bump.set.set.arrive h)))))

theorem Keeps.mirrorGlass (h : Keeps s₀ s) : Keeps s₀ s.mirrorGlass := h.putArea

theorem Keeps.glassGrain (h : Keeps s₀ s) : Keeps s₀ s.glassGrain := by
  unfold State.glassGrain
  split
  · exact h
  · exact .ite h.mirrorGlass h

theorem Keeps.frozenWrite {idx v : Nat} (h : Keeps s₀ s) : Keeps s₀ (s.frozenWrite idx v) := h.writeCells.mirrorGlass

theorem Keeps.compPend (h : Keeps s₀ s) : Keeps s₀ s.compPend := h.flag

theorem Keeps.updDone {u : GlassUpd} {res : Nat} (h : Keeps s₀ s) : Keeps s₀ (s.updDone u res) :=
  h.set.set.flag.modGlass.mirrorGlass.compPend.stageEvent.arrive.nextUpdate

theorem Keeps.execGlassUpdateStart (h : Keeps s₀ s) : KeepsOut s₀ (execGlassUpdateStart s) := by
  unfold Machine.execGlassUpdateStart
  refine .next ?_
  split
  · exact h.nextUpdate
  · exact .ite h (.ite h.updDone h.flag.modGlass)

theorem Keeps.setBst {v : Nat} (h : Keeps s₀ s) : Keeps s₀ (s.setBst v) := h.set.set

theorem Keeps.execGlassUpdateEnd (h : Keeps s₀ s) : KeepsOut s₀ (execGlassUpdateEnd s) := by
  unfold Machine.execGlassUpdateEnd
  refine .next ?_
  split
  · exact h
  · split
    · exact h
    · dsimp only
      split
      · exact .ite h h.modGlass.flag.updDone
      · exact .ite h h.setBst.modGlass.flag.flag.updDone

theorem Keeps.updStop {res : Nat} {at' : GlassUpd → Nat} (h : Keeps s₀ s) : Keeps s₀ (s.updStop res at') := by
  unfold State.updStop
  split
  · exact h
  · exact .ite h.updDone (.ite h h.modGlass)

theorem Keeps.glassCut (h : Keeps s₀ s) : Keeps s₀ s.glassCut := by
  unfold State.glassCut
  split
  · exact h
  · exact .ite h.modGlass.flag.updDone h.modGlass.updDone

theorem Keeps.glassRollback (h : Keeps s₀ s) : Keeps s₀ s.glassRollback := h.updStop

theorem Keeps.glassPermitEnd {n : Nat} (h : Keeps s₀ s) : Keeps s₀ (s.glassPermitEnd n) := by
  unfold State.glassPermitEnd
  split
  · exact .ite h.updStop h
  · exact h

theorem Keeps.glassWarning (h : Keeps s₀ s) : Keeps s₀ s.glassWarning := h.updStop

theorem Keeps.execOutageViewEnd (h : Keeps s₀ s) : KeepsOut s₀ (execOutageViewEnd s) := by
  unfold Machine.execOutageViewEnd
  refine .next ?_
  split
  · exact .ite h.flag.modGlass h
  · exact h

theorem Keeps.crackTake {code : Int} (h : Keeps s₀ s) : Keeps s₀ (s.crackTake code) :=
  h.flag.set.flag.flag.flag.flag.unless (fun ht => ht.modGlass.unless (·.set.flag.flag))

theorem Keeps.execCrackReading {code : Option Int} (h : Keeps s₀ s) : KeepsOut s₀ (execCrackReading code s) := by
  unfold Machine.execCrackReading
  refine .next (.ite ?_ h)
  dsimp only
  split
  · exact h.modGlass.modGlass.crackTake
  · exact h.modGlass.modGlass.when (·.flag)

theorem Keeps.pulseCheck {ok : Bool} (h : Keeps s₀ s) : Keeps s₀ (s.pulseCheck ok) := h.modGlass.when (·.flag)

theorem Keeps.glassCtrl {v : Nat} (h : Keeps s₀ s) : Keeps s₀ (s.glassCtrl v) := h.writeCells.when (·.set.flag)

theorem Keeps.ntcWrite {v : Nat} (h : Keeps s₀ s) : Keeps s₀ (s.ntcWrite v) := .ite h.flag h.writeCells

theorem Keeps.crkWrite {v : Nat} (h : Keeps s₀ s) : Keeps s₀ (s.crkWrite v) := h.writeCells.when (·.modGlass)

theorem Keeps.glassAfterRead {idx : Nat} (h : Keeps s₀ s) : Keeps s₀ (glassAfterRead s idx) := .ite h.phaseNext h

theorem Keeps.glassWrite {who idx v : Nat} (h : Keeps s₀ s) : KeepsOpt s₀ (glassWrite s who idx v) :=
  .ite (.some h.glassCtrl) (.ite (.some h.lcdcfgWrite) (.ite (.some h.ntcWrite)
    (.ite (.some h.frozenWrite) (.ite (.some h.maskWrite) (.ite (.some h.glassGo)
    (.ite (.some h.tableWrite) (.ite (.some h.tableCheck) (.ite (.some h.crkWrite) .none))))))))

/-! ## Leases -/

theorem Keeps.modLease {x : Fin 12} {f : LeaseSt → LeaseSt} (h : Keeps s₀ s) : Keeps s₀ (s.modLease x f) := h.update

theorem Keeps.leaseGive {x : Fin 12} {who : Nat} (h : Keeps s₀ s) : Keeps s₀ (s.leaseGive x who) := h.set.set

theorem Keeps.leaseFree {x : Fin 12} (h : Keeps s₀ s) : Keeps s₀ (s.leaseFree x) := .ite h.flag.leaseGive h.set.set

theorem Keeps.leaseUndo {x : Fin 12} (h : Keeps s₀ s) : Keeps s₀ (s.leaseUndo x) := by
  unfold State.leaseUndo
  split
  · exact h.portAbort
  · exact h.update
  · exact h.drawStop
  · exact h.txStop
  · exact h.glassRollback
  · exact h.auxStop
  · exact h

theorem Keeps.rollback {x : Fin 12} (h : Keeps s₀ s) : Keeps s₀ (s.rollback x) := h.set.set.leaseUndo.modLease

theorem Keeps.leaseRevoke {x : Fin 12} {reason : Nat} (h : Keeps s₀ s) : Keeps s₀ (s.leaseRevoke x reason) := by
  unfold State.leaseRevoke
  exact .modLease (.rollback (.arrive (.set (.set (.set (.bump (.ite h.supervisorFault h)))))))

theorem Keeps.revokeLane {n : Nat} (h : Keeps s₀ s) : Keeps s₀ (s.revokeLane n) :=
  h.foldl (fun ht => .ite ht.leaseRevoke ht)

theorem Keeps.supervisorTake {x : Fin 12} (h : Keeps s₀ s) : Keeps s₀ (s.supervisorTake x) :=
  .ite h.leaseGive (.ite h h.flag)

theorem Keeps.preempt (h : Keeps s₀ s) : Keeps s₀ s.preempt :=
  h.foldl (fun ht => .ite ht.flag.leaseRevoke ht.supervisorTake)

theorem Keeps.decideReset {kind : Nat} (h : Keeps s₀ s) : Keeps s₀ (s.decideReset kind) :=
  .ite h h.modPwr.belayDue.preempt

theorem Keeps.serve {p : Proc} {f : State → Word × State} (h : Keeps s₀ s)
    (hf : ∀ {t}, Keeps s₀ t → Keeps s₀ (f t).2) : Keeps s₀ (s.serve p f).2 := by
  unfold State.serve
  split
  · exact hf h
  · split
    · exact .pair h.setLane
    · exact .iteSnd (.pair h.openVal) (.pair ((hf h).foldl (·.setLane)))

theorem Keeps.leaseOp {p : Proc} {d : Fin 32} {x : Fin 64} {op : Nat} {f : State → Fin 12 → Nat × State}
    (h : Keeps s₀ s) (hf : ∀ {t} {x}, Keeps s₀ t → Keeps s₀ (f t x).2) : KeepsOut s₀ (s.leaseOp p d x op f) := by
  unfold State.leaseOp
  refine .ite (.next (h.instr (fun ht => .ite .error (.ok (ht.serve (fun ht' => .pair (hf ht'))))))) ?_
  split
  · exact .fault
  · exact .next (h.instr (fun _ => .error))

theorem Keeps.leaseExtend {p : Proc} {x : Fin 12} (h : Keeps s₀ s) : Keeps s₀ (s.leaseExtend p x) := h.modLease

theorem Keeps.leaseForget {x : Fin 12} {who : Nat} (h : Keeps s₀ s) : Keeps s₀ (s.leaseForget x who) := h.modLease

theorem Keeps.leaseTake {p : Proc} {x : Fin 12} (h : Keeps s₀ s) : Keeps s₀ (s.leaseTake p x).2 :=
  .iteSnd (.pair h) (.iteSnd (.pair (.ite h h.leaseExtend)) (.iteSnd (.pair h)
    (.pair h.leaseGive.leaseExtend.leaseForget)))

theorem Keeps.leaseRenew {p : Proc} {x : Fin 12} (h : Keeps s₀ s) : Keeps s₀ (s.leaseRenew p x).2 :=
  .iteSnd (.iteSnd (.pair h) (.pair h.leaseExtend)) (.iteSnd (.pair h) (.pair h))

theorem Keeps.leaseRelease {p : Proc} {x : Fin 12} (h : Keeps s₀ s) : Keeps s₀ (s.leaseRelease p x).2 :=
  .iteSnd (.pair h.rollback) (.iteSnd (.pair h.leaseForget) (.pair h))

theorem Keeps.leaseQuery {p : Proc} {x : Fin 12} (h : Keeps s₀ s) : Keeps s₀ (s.leaseQuery p x).2 := .pair h

/-! ## Power states and resets -/

theorem Keeps.permitLost {n : Nat} (h : Keeps s₀ s) : Keeps s₀ (s.permitLost n) := by
  unfold State.permitLost
  refine .glassPermitEnd (.when ?_ (·.txStop))
  split
  · exact .when (.ite h.drawStop h) (·.selfCalAbort)
  · exact .ite h.drawStop h

theorem Keeps.permitEnd {n : Nat} {counted : Bool} (h : Keeps s₀ s) : Keeps s₀ (s.permitEnd n counted) :=
  .arrive (.permitLost (.freePermit (.ite h.bump.flag h)))

theorem Keeps.permitRelease {who n : Nat} (h : Keeps s₀ s) : Keeps s₀ (s.permitRelease who n) :=
  .ite h.permitEnd h.flag

theorem Keeps.permitCount (h : Keeps s₀ s) : Keeps s₀ s.permitCount := h.foldl (·.set)

theorem Keeps.budgetRevoke (h : Keeps s₀ s) : Keeps s₀ s.budgetRevoke := h.foldl (·.permitEnd)

theorem Keeps.permitWrite {who idx v : Nat} (h : Keeps s₀ s) : KeepsOpt s₀ (permitWrite s who idx v) :=
  .ite (.some h.writeCells.budget) (.ite (.some h.permitRelease) .none)

theorem Keeps.cellAt {mv : Nat} (h : Keeps s₀ s) : Keeps s₀ (s.cellAt mv) := h.set.flag

theorem Keeps.execSupplyFailWarning {cell : BitVec 16} (h : Keeps s₀ s) :
    KeepsOut s₀ (execSupplyFailWarning cell s) :=
  .next (.ite (h.flag.arrive.cellAt.flag.update.preempt.belayDue.modPwr.pqWarning.captWarning.txStop.glassWarning.when
    (·.selfCalAbort)) h)

theorem Keeps.execClosingSnapshot (h : Keeps s₀ s) : KeepsOut s₀ (execClosingSnapshot s) := by
  unfold Machine.execClosingSnapshot
  refine .next ?_
  split
  · exact h
  · exact .ite h.belayDue.preempt h

theorem Keeps.wdServe {c : Fin 2} (h : Keeps s₀ s) : Keeps s₀ (s.wdServe c) := h.modPwr

theorem Keeps.wdConfig {c : Fin 2} {v : Nat} (h : Keeps s₀ s) : Keeps s₀ (s.wdConfig c v) := h.set.set

theorem Keeps.rstWrite {p : Proc} {idx v : Nat} (h : Keeps s₀ s) : KeepsOpt s₀ (rstWrite s p idx v) := by
  unfold Machine.rstWrite
  split
  · exact .some h
  · exact .ite (.some (.ite h.decideReset h)) (.ite (.some h.wdConfig)
      (.ite (.some h.wdConfig) (.ite (.some (.ite h.wdServe h)) .none)))

/-! ## Lanes and cue programs -/

theorem Keeps.toPhase {ph : Nat} (h : Keeps s₀ s) : Keeps s₀ (s.toPhase ph) := .ite h.elapse.update h

theorem Keeps.mirrorTakes (h : Keeps s₀ s) : Keeps s₀ s.mirrorTakes := by
  unfold State.mirrorTakes
  split
  · exact h
  · refine .update ?_
    split
    · exact h.foldl (·.setWord)
    · exact (h.foldl (·.setWord)).setLane

theorem Keeps.laneEnd {n : Fin 5} (h : Keeps s₀ s) : Keeps s₀ (s.laneEnd n) :=
  .ite h.setLane.setLane.pairCompare h.setLane.bookIncs

theorem Keeps.execJacc {p : Proc} {d : Fin 32} {a : Fin 8} {x : Fin 64} (h : Keeps s₀ s) :
    KeepsOut s₀ (execJacc p d a x s) := by
  unfold Machine.execJacc
  refine .next (h.instr (fun ht => ?_))
  split
  · exact .error
  · exact .ite (.ok ht) (.ite (.ok ht) (.ok ht.setLane))

theorem Keeps.startCue {c : Fin 2} {n : Nat} (h : Keeps s₀ s) : Keeps s₀ (s.startCue c n) := h.setCore

theorem Keeps.execCueProgramStart {c : Fin 2} (h : Keeps s₀ s) : KeepsOut s₀ (execCueProgramStart c s) := by
  unfold Machine.execCueProgramStart
  refine .next ?_
  split
  · exact h
  · exact .ite h.setCore.startCue h

theorem Keeps.coreEnd {c : Fin 2} (h : Keeps s₀ s) : Keeps s₀ (s.coreEnd c) := by
  unfold State.coreEnd
  dsimp only
  split
  · split
    · exact h.setCore.startCue
    · split
      · exact h.setCore
      · exact h.setCore.svcNext
  · exact h.setCore.svcNext

theorem Keeps.bootServe (h : Keeps s₀ s) : Keeps s₀ s.bootServe := h.foldl (fun ht => .ite ht.wdServe ht)

theorem Keeps.execEndRun {p : Proc} (h : Keeps s₀ s) : KeepsOut s₀ (execEndRun p s) := by
  unfold Machine.execEndRun
  refine .next (.ite (.ite h.suspend ?_) h)
  split
  · exact h.laneEnd
  · exact .ite h.trap h.coreEnd

theorem Keeps.launch {core n : Nat} (h : Keeps s₀ s) : Keeps s₀ (s.launch core n).2 :=
  .iteSnd (.pair h) (.pair h.setCore)

theorem Keeps.copySections {base : Nat} {i : List Byte} (h : Keeps s₀ s) : Keeps s₀ (s.copySections base i) :=
  h.foldl (fun ht => .ite ht.setBytes (.ite ht.setBytes ht))

theorem Keeps.measure {i : List Byte} (h : Keeps s₀ s) : Keeps s₀ (s.measure i) := h.extend

theorem Keeps.installProg {i : List Byte} (h : Keeps s₀ s) : Keeps s₀ (s.installProg i) :=
  h.copySections.measure.update.when (·.setCore.svcNext)

theorem Keeps.removeProg {code : Nat} (h : Keeps s₀ s) : Keeps s₀ (s.removeProg code) :=
  h.update.unless (fun ht => .ite h.setCore.svcNext ht.setCore)

theorem Keeps.clearLane {n : Fin 5} {images : Option (Option (List Byte) × Option (List Byte))} {start : Nat}
    (h : Keeps s₀ s) : Keeps s₀ (s.clearLane n images start) :=
  h.clearMem.setLane

theorem Keeps.noStandby (h : Keeps s₀ s) : Keeps s₀ s.noStandby := h.set.flag.flag.update

theorem Keeps.setRoles (h : Keeps s₀ s) : Keeps s₀ s.setRoles := h.set.set.set.flag.flag

theorem Keeps.installRoped {images : Option (List Byte) × Option (List Byte)} (h : Keeps s₀ s) :
    Keeps s₀ (s.installRoped images) := by
  unfold State.installRoped
  refine .when ?_ (·.update)
  split
  · exact (h.foldl (·.clearLane)).flag.flag.flag
  · exact (h.foldl (·.clearLane)).stageGap

theorem Keeps.leaveRun (h : Keeps s₀ s) : Keeps s₀ s.leaveRun := .ite h h.txStop.pqBaseCamp.set.glassCut

theorem Keeps.removeRoped (h : Keeps s₀ s) : Keeps s₀ s.removeRoped :=
  (h.foldl (·.clearLane)).update.flag.setRoles.leaveRun.flag.when (·.baseCampPitch)

theorem Keeps.laneOrder {o : LaneOrder} (h : Keeps s₀ s) : Keeps s₀ (s.laneOrder o) := by
  unfold State.laneOrder
  refine .ite ?_ (.clearLane (.ite h.noStandby h))
  split
  · exact h.installRoped
  · exact h.removeRoped

theorem Keeps.soloEnds (h : Keeps s₀ s) : Keeps s₀ s.soloEnds :=
  .ite (.update (.flag (.flag (.flag (.ite h.clearLane h))))) h

theorem Keeps.placeSet {n : Fin 5} {g p : Option (List Byte)} (h : Keeps s₀ s) : Keeps s₀ (s.placeSet n g p) :=
  (h.foldl (·.copySections)).setLane

theorem Keeps.standbyTakes (h : Keeps s₀ s) : Keeps s₀ s.standbyTakes := .ite h.placeSet.update h

theorem Keeps.mirrorCopy (h : Keeps s₀ s) : Keeps s₀ s.mirrorCopy := by
  unfold State.mirrorCopy
  split
  · exact h
  · exact .ite h.setBytes h

theorem Keeps.baseCampEnds (h : Keeps s₀ s) : Keeps s₀ s.baseCampEnds := .ite h.flag h

theorem Keeps.lanesBoundary (h : Keeps s₀ s) : Keeps s₀ s.lanesBoundary :=
  (h.soloEnds.standbyTakes.update.foldl (·.laneOrder)).baseCampEnds.mirrorCopy

theorem Keeps.execStandbyRecompute (h : Keeps s₀ s) : KeepsOut s₀ (execStandbyRecompute s) := by
  unfold Machine.execStandbyRecompute
  refine .next ?_
  split
  · exact h
  · exact .ite h.toPhase.mirrorTakes.update.setLane h

theorem Keeps.execStandbyRebuildEnd (h : Keeps s₀ s) : KeepsOut s₀ (execStandbyRebuildEnd s) := by
  unfold Machine.execStandbyRebuildEnd
  refine .next ?_
  split
  · exact h
  · exact .ite h.flag.flag.update h

theorem Keeps.retireLane {n : Nat} (h : Keeps s₀ s) : Keeps s₀ (s.retireLane n) := .ite h.decideFirst h

theorem Keeps.execLaneRetireCommit (h : Keeps s₀ s) : KeepsOut s₀ (execLaneRetireCommit s) := by
  unfold Machine.execLaneRetireCommit
  refine .next (.ite ?_ h)
  split
  · exact h
  · exact ((h.commitRetire.supervisorFault.arrive.revokeLane.when (·.noStandby)).unless
      (·.setLane)).update.supervisorDone

/-! ## Unit registers and cues -/

theorem Keeps.latch {b u idx : Nat} (h : Keeps s₀ s) : Keeps s₀ (s.latch b u idx) :=
  .ite h.timeLatch (.ite h.nrgLatch (.ite h.jrnlLatch h))

theorem Keeps.afterRead {b u idx : Nat} (h : Keeps s₀ s) : Keeps s₀ (s.afterRead b u idx) :=
  .ite h.filtAfterRead (.ite h.cairnAfterRead (.ite h.trimAfterRead
    (.ite h.auxAfterRead (.ite h.glassAfterRead (.ite h.accessAfterRead (.ite h.hostAfterRead h))))))

theorem Keeps.busRead {b u idx : Nat} (h : Keeps s₀ s) : Keeps s₀ (s.busRead b u idx).2 :=
  .pair h.latch.clearRC.afterRead

theorem Keeps.unitWrite {b who u idx v : Nat} (h : Keeps s₀ s) : KeepsOpt s₀ (s.unitWrite b who u idx v) :=
  .ite (.ite (.some h.flag.flag) .none) (.ite h.timeWrite (.ite h.chainWrite
    (.ite h.permitWrite (.ite h.irqWrite (.ite h.quadWrite (.ite h.bitinWrite
    (.ite h.filtWrite (.ite h.rsmpWrite (.ite h.nrgWrite (.ite h.pulseWrite
    (.ite h.pqWrite (.ite h.captWrite (.ite h.jrnlWrite (.ite h.cairnWrite
    (.ite h.trimWrite (.ite h.auxWrite (.ite h.modemWrite (.ite h.glassWrite
    (.ite h.tampWrite (.ite h.accessWrite (.ite h.rstWrite (.ite h.hostWrite .none))))))))))))))))))))))

theorem Keeps.busWrite {b who u idx v : Nat} (h : Keeps s₀ s) : Keeps s₀ (s.busWrite b who u idx v) :=
  h.unitWrite.getD h.writeCells

theorem Keeps.unitPost {p : Proc} {u idx : Nat} {op : WriteOp} {v : Word} (h : Keeps s₀ s) :
    Keeps s₀ (s.unitPost p u idx op v) := by
  unfold State.unitPost
  dsimp only
  split
  · exact h.busWrite
  · exact .ite h.setLane h.busWrite

theorem Keeps.applyQueued {w : QWrite} (h : Keeps s₀ s) : Keeps s₀ (s.applyQueued w) := by
  unfold State.applyQueued
  dsimp only
  split
  · exact h.supervisorFault
  · exact h.busWrite

theorem Keeps.execUr {p : Proc} {d : Fin 32} {unit reg : Fin 256} {a : Fin 32} (h : Keeps s₀ s) :
    KeepsOut s₀ (execUr p d unit reg a s) := by
  unfold Machine.execUr
  refine .next (h.instr (fun ht => ?_))
  dsimp only
  split
  · exact .error
  · exact .ok (ht.serve (fun ht' => .pair ht'.busRead))

theorem Keeps.unitOp {p : Proc} {d : Fin 32} {unit reg : Fin 256} {a : Fin 32} {op : WriteOp} (h : Keeps s₀ s) :
    Keeps s₀ (s.unitOp p d unit reg a op) := by
  unfold State.unitOp
  refine h.instr (fun ht => ?_)
  dsimp only
  split
  · exact .error
  · exact .ok ht.unitPost

theorem Keeps.cueIssue {p : Proc} {e : Vec} (h : Keeps s₀ s) : Keeps s₀ (s.cueIssue p e).2 := by
  unfold State.cueIssue
  dsimp only
  split
  · exact .iteSnd h.cueAdd (.pair h.cueRefused)
  · exact .iteSnd (.pair h.setLane) (.pair (.ite h.cueRefused h))

theorem Keeps.applyCues {owner : Nat} {l : List Vec} (h : Keeps s₀ s) : Keeps s₀ (s.applyCues owner l) :=
  h.foldl (·.cueAdd)

theorem Keeps.rowWrite {p : Proc} {u idx v : Nat} (h : Keeps s₀ s) : Keeps s₀ (s.rowWrite p u idx v) := by
  unfold State.rowWrite
  refine .ite ?_ h
  split
  · exact h.trap
  · exact h.unitPost

theorem Keeps.rowRead {p : Proc} {u idx : Nat} (h : Keeps s₀ s) : Keeps s₀ (s.rowRead p u idx) := by
  unfold State.rowRead
  refine .ite ?_ h
  split
  · exact h.trap
  · exact h.busRead.update

theorem Keeps.holderWrite {x u idx v : Nat} (h : Keeps s₀ s) : Keeps s₀ (s.holderWrite x u idx v) :=
  h.foldl (·.rowWrite)

theorem Keeps.dispatch {c : Cue} (h : Keeps s₀ s) : Keeps s₀ (s.dispatch c) :=
  .ite (.ite h.launch h.cueFailed) (.ite h.cueFailed (.when (.ite h.setTariff h.busWrite) (·.cueFailed)))

theorem Keeps.cuePop {rest : List Cue} (h : Keeps s₀ s) : Keeps s₀ (s.cuePop rest) := h.set.update

theorem Keeps.dispatchN {n : Nat} (h : Keeps s₀ s) : Keeps s₀ (State.dispatchN n s) := by
  induction n generalizing s with
  | zero => exact h
  | succ n ih =>
    unfold State.dispatchN
    split
    · exact h
    · exact .ite (ih (.dispatch (.ite h.cuePop.bump h.cuePop))) h

theorem Keeps.dispatchDue (h : Keeps s₀ s) : Keeps s₀ s.dispatchDue := h.dispatchN

/-! ## The vote -/

theorem Keeps.applyOutputs {n : Fin 5} {unver : Bool} (h : Keeps s₀ s) : Keeps s₀ (s.applyOutputs n unver) :=
  (h.foldl (·.applyQueued)).applyCues.foldl (·.bookIncs)

theorem Keeps.mirrorFrom {sb sel : Fin 5} {contexts : Bool} (h : Keeps s₀ s) :
    Keeps s₀ (s.mirrorFrom sb sel contexts) :=
  .update (.ite h.setLane h)

theorem Keeps.undoStores {n src : Fin 5} (h : Keeps s₀ s) : Keeps s₀ (s.undoStores n src) := h.foldl (·.setWord)

theorem Keeps.mirrorUpdate {sel : Fin 5} (h : Keeps s₀ s) : Keeps s₀ (s.mirrorUpdate sel) := by
  unfold State.mirrorUpdate
  split
  · exact h.mirrorFrom
  · split
    · exact h
    · exact .ite h.mirrorFrom h

theorem Keeps.countLost {n : Fin 5} (h : Keeps s₀ s) : Keeps s₀ (s.countLost n) := .ite h.set h

theorem Keeps.replaceMember {loser winner sb : Fin 5} (h : Keeps s₀ s) : Keeps s₀ (s.replaceMember loser winner sb) :=
  h.flag.flag.update.when (·.retireLane)

theorem Keeps.recordVote {outcome loser : Nat} (h : Keeps s₀ s) : Keeps s₀ (s.recordVote outcome loser) :=
  h.supervisorFault.set.set

theorem Keeps.vote (h : Keeps s₀ s) : Keeps s₀ s.vote := by
  unfold State.vote
  dsimp only
  split
  · exact .ite h.recordVote.countLost.applyOutputs.replaceMember
      (.ite h.recordVote.countLost.applyOutputs.replaceMember h.recordVote.applyOutputs.undoStores.mirrorUpdate)
  · exact h.recordVote.applyOutputs.mirrorUpdate

theorem Keeps.voteTail (h : Keeps s₀ s) : Keeps s₀ s.voteTail := by
  unfold State.voteTail
  refine .update (.foldl (.ite ?_ (.ite h.mirrorTakes.vote h.mirrorTakes.applyOutputs.mirrorUpdate)) (·.setLane))
  split
  · exact h.mirrorTakes.applyOutputs
  · exact h.mirrorTakes

theorem Keeps.rolesTake (h : Keeps s₀ s) : Keeps s₀ s.rolesTake := by
  unfold State.rolesTake
  split
  · exact h
  · exact h.set.set.set.update.unless (·.noStandby.setLane)

theorem Keeps.finishGrain (h : Keeps s₀ s) : Keeps s₀ s.finishGrain :=
  .rolesTake (.update (.foldl (.ite h h.voteTail) (fun ht => .ite ht ht.applyCues.setLane)))

/-! ## Parcels, orders and views -/

theorem Keeps.accept {p : InParcel} {rest : List Byte} (h : Keeps s₀ s) : Keeps s₀ (s.accept p rest) := h.answerGood

theorem Keeps.order {code : Nat} {act : InParcel → State → State} (h : Keeps s₀ s)
    (hact : ∀ {x} {t}, Keeps s₀ t → Keeps s₀ (act x t)) : Keeps s₀ (s.order code act) :=
  h.handle (fun ht => ht.orWait (hact ht))

theorem Keeps.unstage (h : Keeps s₀ s) : Keeps s₀ s.unstage := h.modLink

theorem Keeps.loadImage {p : InParcel} {len : Nat} (h : Keeps s₀ s) : Keeps s₀ (s.loadImage p len) :=
  .ite h.unstage.modLink.answerGood h.unstage.refuse

theorem Keeps.loadPart {p : InParcel} (h : Keeps s₀ s) : Keeps s₀ (State.loadPart p s) :=
  .ite h.refuse (.ite h.setBytes.modLink.loadImage h.setBytes.modLink.accept)

theorem Keeps.orderStart {p : InParcel} (h : Keeps s₀ s) : Keeps s₀ (State.orderStart p s) :=
  .ite h.refuse (.ite h.refuse h.modPwr.accept)

theorem Keeps.install {t : Nat} {force : Bool} {i : List Byte} (h : Keeps s₀ s) : Keeps s₀ (s.install t force i) :=
  .ite h.update h.installProg

theorem Keeps.orderInstall {p : InParcel} (h : Keeps s₀ s) : Keeps s₀ (State.orderInstall p s) := by
  unfold State.orderInstall
  refine .ite h.refuse ?_
  dsimp only
  split
  · exact h.refuse
  · exact .ite h.refuse h.install.accept

theorem Keeps.orderRemove {p : InParcel} (h : Keeps s₀ s) : Keeps s₀ (State.orderRemove p s) :=
  h.refuse.unless (fun ht => .ite (.ite h.refuse h.update.accept)
    (.ite h.update.accept (.ite (.ite h.refuse h.removeProg.accept) ht)))

theorem Keeps.orderCue {p : InParcel} (h : Keeps s₀ s) : Keeps s₀ (State.orderCue p s) :=
  .ite h.refuse (.ite h.refuse h.cueIssue.answerGood)

theorem Keeps.orderSetUtc {p : InParcel} (h : Keeps s₀ s) : Keeps s₀ (State.orderSetUtc p s) :=
  .ite h.refuse h.update.accept

theorem Keeps.orderSelfcal {p : InParcel} (h : Keeps s₀ s) : Keeps s₀ (State.orderSelfcal p s) :=
  .ite h.refuse (.ite h.refuse (.ite h.permitRequest.set.selfCalGo.accept
    h.permitRequest.set.selfCalGo.permitEnd.refuse))

theorem Keeps.orderReset {p : InParcel} (h : Keeps s₀ s) : Keeps s₀ (State.orderReset p s) :=
  .ite h.accept.decideReset h.refuse

theorem Keeps.attemptUnlock {p : InParcel} {ok : Bool} {level : Nat} (h : Keeps s₀ s) :
    Keeps s₀ (s.attemptUnlock p ok level) :=
  .ite h.decideFirst h.failedAttempt.refuse

theorem Keeps.orderOpenService {p : InParcel} (h : Keeps s₀ s) : Keeps s₀ (State.orderOpenService p s) :=
  .ite h.refuse (.ite h.refuse (.ite h.refuse h.attemptUnlock))

theorem Keeps.drawBytes {n : Nat} (h : Keeps s₀ s) : Keeps s₀ (s.drawBytes n).2 := by
  induction n generalizing s with
  | zero => exact h
  | succ n ih => exact ih h.draw

theorem Keeps.orderChallenge {p : InParcel} (h : Keeps s₀ s) : Keeps s₀ (State.orderChallenge p s) :=
  .ite h.refuse h.drawBytes.modAccess.accept

theorem Keeps.orderAnswer {p : InParcel} (h : Keeps s₀ s) : Keeps s₀ (State.orderAnswer p s) :=
  .ite h.refuse (.ite h.refuse h.modAccess.attemptUnlock)

theorem Keeps.queueOrder {pseq ocode level kgen : Nat} {body : List Byte} (h : Keeps s₀ s) :
    ∀ x ∈ s.queueOrder pseq ocode level kgen body, Keeps s₀ x.2 := by
  unfold State.queueOrder
  split
  · simp
  · rintro x ⟨⟩
    exact h.update.mirrorOrder.jrnlStatus

theorem Keeps.durable {p : InParcel} {form : Bool} {level : Nat} {cond : Bool} (h : Keeps s₀ s) :
    Keeps s₀ (s.durable p form level cond) := by
  unfold State.durable
  refine .ite h.refuse (.ite h.refuse (.ite h.refuse (.ite h.supervisorTake ?_)))
  split
  · exact h.refuse
  next n t e =>
    have ht : Keeps s₀ t := h.queueOrder (n, t) e
    exact .accept (.set (.supervisorDone (.ite ht.authenticated ht)))

theorem Keeps.accessOrder {which form : InParcel → Bool} {level : Nat} {cond : State → Bool} (h : Keeps s₀ s) :
    Keeps s₀ (s.accessOrder which form level cond) :=
  h.handle (fun ht => ht.orWait ht.durable)

theorem Keeps.applyAccess {e : QEntry} (h : Keeps s₀ s) : Keeps s₀ (s.applyAccess e).2 :=
  .iteSnd (.iteSnd (.pair h) (.pair h.set.flag.modAccess)) (.iteSnd (.pair h.set.flag.modAccess)
    (.iteSnd (.pair (.ite h h.flag.flag.set.modAccess.arrive)) (.pair h.set)))

theorem Keeps.orderEffect {e : QEntry} (h : Keeps s₀ s) : Keeps s₀ (s.orderEffect e).2 :=
  .iteSnd (.pair h.setTariff) (.iteSnd (.pair h.adjust) (.iteSnd (.pair h.tampClear.belayDue)
    (.pair h.applyAccess.belayDue)))

theorem Keeps.applyOrder (h : Keeps s₀ s) : Keeps s₀ s.applyOrder := by
  unfold State.applyOrder
  split
  · exact h
  · exact h.orderEffect.stageOutcome.update.jrnlStatus.arrive

theorem Keeps.applyStart (h : Keeps s₀ s) : Keeps s₀ s.applyStart := by
  unfold State.applyStart
  split
  · exact h
  · refine .modPwr (.set (.stageOutcome (.foldlSnd h fun {b} {_} hb => ?_)))
    dsimp only
    split
    · exact hb
    · exact hb.convert

theorem Keeps.answerView {p : InParcel} {v : Nat} {data : List Byte} (h : Keeps s₀ s) :
    Keeps s₀ (s.answerView p v data) :=
  h.answerGood

theorem Keeps.view {v : Nat} {act : InParcel → State → State} (h : Keeps s₀ s)
    (hact : ∀ {x} {t}, Keeps s₀ t → Keeps s₀ (act x t)) : Keeps s₀ (s.view v act) :=
  h.handle (fun ht => ht.orWait (hact ht))

theorem Keeps.hostTakes (h : Keeps s₀ s) : Keeps s₀ s.hostTakes :=
  (h.foldl (fun ht => .ite ht.takeSource.setBit ht)).update

theorem Keeps.readUnit {u first n : Nat} (h : Keeps s₀ s) : Keeps s₀ (s.readUnit u first n).2 := by
  induction n generalizing s first with
  | zero => exact h
  | succ n ih => exact ih h.busRead

theorem Keeps.execViewUnit (h : Keeps s₀ s) : KeepsOut s₀ (execViewUnit s) :=
  .next (h.view (fun ht => .ite ht.refuse (.ite ht.refuse (.ite ht.refuse (.ite ht.refuse ht.readUnit.answerView)))))

/-! ## Restarts -/

theorem fldsWf_filter (p : Fld × Nat → Bool) (l : List (Fld × Nat)) (h : fldsWf l = true) :
    fldsWf (l.filter p) = true := by
  unfold fldsWf at *
  induction l with
  | nil => rfl
  | cons e l ih =>
    simp only [sparseWf, Bool.and_eq_true, List.all_eq_true] at h
    obtain ⟨⟨hv, hlt⟩, hl⟩ := h
    rw [List.filter_cons]
    split
    · simp only [sparseWf, Bool.and_eq_true, List.all_eq_true]
      exact ⟨⟨hv, fun x hx => hlt x (List.mem_of_mem_filter hx)⟩, ih hl⟩
    · exact ih hl

theorem Keeps.keepFields {cold s1 : Bool} (h : Keeps s₀ s) : Keeps s₀ (s.keepFields cold s1) := by
  refine h.trans ⟨fun ⟨hm, hf, _, hw⟩ => ?_, rfl, rfl, Nat.le_refl _⟩
  have hl := fldsWf_filter (fun e => e.1.surv.kept cold s1 || e.1 == HOST.OUTSEQ.SEQ || e.1 == RST.CAUSE.CAUSE) s.flds
      hf
  rw [List.all_eq_true] at hw
  exact ⟨hm, hl, hl, List.all_eq_true.2 fun e he => hw e (List.mem_of_mem_filter he)⟩

/-- Of the memory a filtered part remains. -/
theorem Keeps.filterMem {p : Nat × Byte → Bool} (h : Keeps s₀ s) : Keeps s₀ { s with mem := s.mem.filter p } :=
  h.trans ⟨fun ⟨hm, hf, hg, hw⟩ => ⟨sparseWf_filter p s.mem hm, hf, hg, hw⟩, rfl, rfl, Nat.le_refl _⟩

theorem Keeps.dropMem (h : Keeps s₀ s) : Keeps s₀ { s with mem := [] } :=
  h.trans ⟨fun ⟨_, hf, hg, hw⟩ => ⟨rfl, hf, hg, hw⟩, rfl, rfl, Nat.le_refl _⟩

theorem Keeps.dropAlwaysOn {cold : Bool} (h : Keeps s₀ s) : Keeps s₀ (s.dropAlwaysOn cold) := by
  unfold State.dropAlwaysOn
  split
  · exact h.dropMem.update
  · split
    · have ht : Keeps s₀ (s.flag GLASS.BSTHI.UNKNOWN true) := h.flag
      exact ht.filterMem.update
    · exact h.filterMem.update

theorem Keeps.pulseKept {cold : Bool} (h : Keeps s₀ s) : Keeps s₀ (s.pulseKept cold) := .ite h (h.foldl (·.set.set))

theorem Keeps.dropVolatile {cold s1 : Bool} (h : Keeps s₀ s) : Keeps s₀ (s.dropVolatile cold s1) :=
  h.dropAlwaysOn.update

theorem Keeps.openBit (h : Keeps s₀ s) : Keeps s₀ s.openBit.2 := .pair h.openVal

theorem Keeps.tearHalf (h : Keeps s₀ s) : Keeps s₀ s.tearHalf := h.setBytes

theorem Keeps.tear (h : Keeps s₀ s) : Keeps s₀ s.tear :=
  .when (.when (.when (.ite (h.openBit.when (·.update)) h) (fun ht => ht.openBit.when (·.update)))
    (fun ht => ht.openBit.when (·.update))) (fun ht => ht.openBit.when (·.tearHalf))

theorem Keeps.restoreSlots {b : Option Belay} (h : Keeps s₀ s) : Keeps s₀ (s.restoreSlots b) :=
  (h.update.set.forN (·.set.set.set.set.set)).forN (·.set.set.set)

theorem Keeps.restoreTamper {e : Evidence} (h : Keeps s₀ s) : Keeps s₀ (s.restoreTamper e) :=
  h.set.set.flag.set.set.set.update

theorem Keeps.journalFrom {st : Option Belay} (h : Keeps s₀ s) : Keeps s₀ (s.journalFrom st).2 := by
  unfold State.journalFrom
  split
  · exact .pair h
  · exact .pair h
  · exact .iteSnd (.pair h) (.pair h.openVal.openVal)

theorem Keeps.recoverJournal {st : Option Belay} {epoch : Nat} (h : Keeps s₀ s) :
    Keeps s₀ (s.recoverJournal st epoch) :=
  h.journalFrom.update

theorem Keeps.cairnFlags (h : Keeps s₀ s) : Keeps s₀ s.cairnFlags := h.flag.flag.flag.set

theorem Keeps.glassCold (h : Keeps s₀ s) : Keeps s₀ s.glassCold := by
  unfold State.glassCold
  split
  · exact h
  · exact .ite h.setBst.flag.flag h.modGlass.setBst.flag.compPend

theorem Keeps.recover {cold : Bool} {kept : Nat} (h : Keeps s₀ s) : Keeps s₀ (s.recover cold kept) :=
  (h.cairnFlags.restoreSlots.recoverJournal.modPwr.when
    (·.restoreTamper.glassCold)).inForce.loadRetired.loadDrift.setRoles.jrnlStatus.when (·.modGlass)

theorem Keeps.restart {kind : Nat} {cold s1 : Bool} (h : Keeps s₀ s) : Keeps s₀ (s.restart kind cold s1) :=
  (h.dropVolatile.keepFields.pulseKept.update.set.set.unless (·.bump)).flag.recover

theorem Keeps.execResetAssert (h : Keeps s₀ s) : KeepsOut s₀ (execResetAssert s) := by
  unfold Machine.execResetAssert
  refine .next ?_
  split
  · exact h
  · exact .ite h.tear.restart h

theorem Keeps.checkTrims (h : Keeps s₀ s) : Keeps s₀ s.checkTrims := h.flag.flag.flag.flag.flag

theorem Keeps.stageRetirements (h : Keeps s₀ s) : Keeps s₀ s.stageRetirements := (h.foldl (·.stageAt)).update

theorem Keeps.rebuiltData {e : QEntry} (h : Keeps s₀ s) : Keeps s₀ (s.rebuiltData e).2 :=
  .iteSnd (.pair h.openVal) (.iteSnd (.pair h) (.iteSnd (.pair h) (.pair h.openVal)))

theorem Keeps.stageOutcomes (h : Keeps s₀ s) : Keeps s₀ s.stageOutcomes := h.foldl (·.rebuiltData.stageOutcome)

theorem Keeps.stageRing (h : Keeps s₀ s) : Keeps s₀ s.stageRing :=
  .ite h (h.foldl (fun ht => ht.stageTamper.when (·.arrive))).modTamp.mirrorRing.belayDue

theorem Keeps.startGrains (h : Keeps s₀ s) : Keeps s₀ s.startGrains := h.update.set.set.update

theorem Keeps.stageOwed (h : Keeps s₀ s) : Keeps s₀ s.stageOwed := by
  unfold State.stageOwed
  split
  · exact h
  · exact h.stageGap

theorem Keeps.measureBoot (h : Keeps s₀ s) : Keeps s₀ s.measureBoot := h.foldl (·.extend)

theorem Keeps.bootDone (h : Keeps s₀ s) : Keeps s₀ s.bootDone :=
  h.startGrains.checkTrims.measureBoot.stageOwed.stageRetirements.stageOutcomes.stageRing.flag.modLink.sendReport

theorem Keeps.toGrain {n : Nat} (h : Keeps s₀ s) : Keeps s₀ (s.toGrain n) := h.elapse.update

theorem Keeps.toSlowEdge (h : Keeps s₀ s) : Keeps s₀ s.toSlowEdge := h.elapse.update

theorem Keeps.enterBivouac (h : Keeps s₀ s) : Keeps s₀ s.enterBivouac := by
  unfold State.enterBivouac
  exact h.finishGrain.toGrain.belayDue.preempt.makeBelay.appendStaged.aonCommit.cairnTry.toGrain
    |>.openVal.putArea.toSlowEdge.tieNow.dropVolatile.keepFields.update.modPwr

theorem Keeps.execBivouacEntryDecide (h : Keeps s₀ s) : KeepsOut s₀ (execBivouacEntryDecide s) := by
  unfold Machine.execBivouacEntryDecide
  refine .next ?_
  split
  · exact h
  · exact .ite h.enterBivouac h

theorem Keeps.goOff (h : Keeps s₀ s) : Keeps s₀ s.goOff := h.dropVolatile.keepFields.update

theorem Keeps.expFromMark (h : Keeps s₀ s) : Keeps s₀ s.expFromMark := h.set.flag

theorem Keeps.execMainsUp {aonGood : Bool} (h : Keeps s₀ s) : KeepsOut s₀ (execMainsUp aonGood s) := by
  unfold Machine.execMainsUp
  refine .next ?_
  split
  · exact h
  · exact h.restart
  · exact .ite h (.ite h.restart h.restart)

theorem Keeps.bvEntry {n : Nat} {code : Int} (h : Keeps s₀ s) : Keeps s₀ (s.bvEntry n code) :=
  .ite (h.set.when (·.bump)) h

theorem Keeps.watchAlarm (h : Keeps s₀ s) : Keeps s₀ s.watchAlarm := h.modPwr

theorem Keeps.outageView {l : Fin 3} (h : Keeps s₀ s) : Keeps s₀ (s.outageView l) := .ite h.flag.modGlass h

theorem Keeps.execLineEdgeLatch {l : Fin 3} {rising : Bool} (h : Keeps s₀ s) :
    KeepsOut s₀ (execLineEdgeLatch l rising s) :=
  .next (.ite h ((h.rawEdge.when (·.modSrc)).unless (fun ht => .outageView (.ite ht.watchAlarm ht))))

theorem Keeps.hostAbsent (h : Keeps s₀ s) : Keeps s₀ s.hostAbsent :=
  .ite (h.removeRoped.foldl (·.clearLane)).update.flag.modPwr h

/-! ## Boundaries -/

theorem Keeps.nextGrain (h : Keeps s₀ s) : Keeps s₀ s.nextGrain := h.elapse.update

theorem Keeps.settingsBoundary {fmeas : Nat} (h : Keeps s₀ s) : Keeps s₀ (s.settingsBoundary fmeas) :=
  h.utcLoad.frontSettings.bindBoundary.pqBoundary.bitBoundary.quadBoundary.selfCalBoundary.chainBoundary.set

theorem Keeps.orderBoundary (h : Keeps s₀ s) : Keeps s₀ s.orderBoundary :=
  (h.pitchBelayTimer.makeBelay.when (·.supervisorTake)).applyOrder.applyStart

theorem Keeps.pitchReady (h : Keeps s₀ s) : Keeps s₀ s.pitchReady := h.foldl (fun ht => .ite ht.setLane ht)

theorem Keeps.gapEnds (h : Keeps s₀ s) : Keeps s₀ s.gapEnds := by
  unfold State.gapEnds
  split
  · exact h
  · exact h.closeGap

theorem Keeps.fillPhase {g : GrainWords} (h : Keeps s₀ s) : Keeps s₀ (s.fillPhase g) :=
  (h.swapApply.fillGrain.supraFill.bitRange.fillPoints.when (·.pitchReady.baseCampPitch)).pqFill.captFill.pqReopen

theorem Keeps.execGrainBoundary {m : Measure} (h : Keeps s₀ s) : KeepsOut s₀ (execGrainBoundary m s) :=
  .next (.ite
    (h.finishGrain.frontEnd.nextGrain.settingsBoundary.gapEnds.orderBoundary.lanesBoundary.permitCount.glassGrain
      |>.bootServe.unless (·.dispatchDue) |>.modemWords.fillPhase.appendStaged.pulseBoundary.holdRun.arrive) h)

theorem Keeps.execChainStep (h : Keeps s₀ s) : KeepsOut s₀ (execChainStep s) := by
  unfold Machine.execChainStep
  refine .next ?_
  split
  · exact h
  · exact .ite h.chainStepBy.dispatchDue h

theorem Keeps.loadPitch {p : Pitch} (h : Keeps s₀ s) : Keeps s₀ (s.loadPitch p) :=
  h.set2.set.set.flag.set2.arrive.belayDue.update.pqPitch

theorem Keeps.execPitchComplete {pos : Fin 12} {held : Bool} (h : Keeps s₀ s) :
    KeepsOut s₀ (execPitchComplete pos held s) := by
  unfold Machine.execPitchComplete
  refine .next (.ite ?_ h)
  split
  · exact h
  · exact .ite (h.loadPitch.foldl (·.quadPitch.driftPitch)).shPitch.update h

theorem Keeps.nominalTakes (h : Keeps s₀ s) : Keeps s₀ s.nominalTakes := h.takeEffect.update

theorem Keeps.trimBlock (h : Keeps s₀ s) : Keeps s₀ s.trimBlock := h.rampBlock.foldl (fun ht => .ite ht.ilvBlock ht)

theorem Keeps.execBlockBoundary {bulk : BitVec 16} (h : Keeps s₀ s) : KeepsOut s₀ (execBlockBoundary bulk s) :=
  .next (.ite (h.belayDue.arrive.nominalTakes.intervalAtBlock.pqBlockBoundary.trimBlock.supplyAt.budgetRevoke
    |>.hostAbsent.glassBlock) h)

/-! ## Scalar arithmetic -/

theorem Keeps.alu {p : Proc} {d a b : Fin 32} {f : Word → Word → Word} {fl : Word → Word → Word → Word}
    (h : Keeps s₀ s) : Keeps s₀ (s.alu p d a b f fl) :=
  h.regOp

theorem Keeps.aluZN {p : Proc} {d a b : Fin 32} {f : Word → Word → Word} (h : Keeps s₀ s) :
    Keeps s₀ (s.aluZN p d a b f) :=
  h.alu

theorem Keeps.aluSat {p : Proc} {d a b : Fin 32} {f : Int → Int → Int} (h : Keeps s₀ s) :
    Keeps s₀ (s.aluSat p d a b f) :=
  h.alu

theorem Keeps.aluShift {p : Proc} {d a x : Fin 32} {f : Word → Nat → Word} (h : Keeps s₀ s) :
    Keeps s₀ (s.aluShift p d a x f) :=
  h.regOp

theorem Keeps.mds {p : Proc} {cost : Nat} {d a b : Fin 32} {f : Word → Word → Word} {bit : Nat}
    {c : Word → Word → Bool} (h : Keeps s₀ s) : Keeps s₀ (s.mds p cost d a b f bit c) :=
  h.regOp

theorem Keeps.aluImm {p : Proc} {d a : Fin 32} {k : Word} {f : Word → Word → Word} {fl : Word → Word → Word → Word}
    (h : Keeps s₀ s) : Keeps s₀ (s.aluImm p d a k f fl) :=
  h.regOp

/-! ## Vector arithmetic -/

theorem Keeps.valu {p : Proc} {d a b : Fin 16} {f : Word → Word → Word} {c : Word → Word → Bool} (h : Keeps s₀ s) :
    Keeps s₀ (s.valu p d a b f c) :=
  h.regOp

theorem Keeps.valu0 {p : Proc} {d a b : Fin 16} {f : Word → Word → Word} (h : Keeps s₀ s) :
    Keeps s₀ (s.valu0 p d a b f) :=
  h.valu

theorem Keeps.valuSat {p : Proc} {d a b : Fin 16} {f : Word → Word → Int} (h : Keeps s₀ s) :
    Keeps s₀ (s.valuSat p d a b f) :=
  h.valu

theorem Keeps.vmacOp {p : Proc} {integer minus : Bool} {d : Fin 8} {a b : Fin 16} {x : Fin 64} (h : Keeps s₀ s) :
    Keeps s₀ (s.vmacOp p integer minus d a b x) :=
  h.regOp

theorem Keeps.macOp {p : Proc} {integer minus : Bool} {d : Fin 8} {a b : Fin 32} {x : Fin 64} (h : Keeps s₀ s) :
    Keeps s₀ (s.macOp p integer minus d a b x) :=
  h.regOp

/-! ## Every command -/

theorem Keeps.exec {c : Instr} (h : Keeps s₀ s) : KeepsOut s₀ (exec c s) := by
  cases c with
  | ld | vld => exact .next h.load
  | stg | stvi => exact .next h.streamOp
  | irqPresent => exact .next (.ite (h.presentCore.presentCore.foldl (·.presentHost)) h)
  | waitWake => exact .next (.ite h.setCore h)
  | swsetWrite => exact .next (h.whenOn h.swset)
  | irqTimerWrite => exact .next (h.whenOn h.timerWrite)
  | scntRead => exact .next (h.whenOn h.clearRC.update)
  | irqMaskWrite | irqPendClear => exact .ite (.next (h.whenOn (h.irqWrite.getD h))) .refused
  | holdoffEnd => exact .next (h.whenOn (.ite h.update h))
  | lineLevelChange => exact .next (.ite (h.setLine.when (·.arrive)) h)
  | xtalRefLost => exact .next (h.whenOn h.update.raise)
  | xtalRefReturn => exact .next (.ite h.update.flag.arrive h)
  | slowCrystalFail => exact .next (.ite h h.update.raise)
  | sysFaultClear => exact .next (h.whenOn h.flag.flag)
  | tieRecord => exact .next (.ite h.putTie h)
  | trackerTimeout => exact .next (.ite (.ite h.enterHold.holdRun (.ite h.enterHold.holdRun h)) h)
  | cueCancelTag | cueCancelAll => exact .next (h.whenOn h.cueRemove)
  | pulseEnd => exact .next (.ite h.pulseEnd.pulseStart h)
  | pulseSourceWrite => exact .next (h.whenOn h.pulseSource)
  | ewvalWrite => exact .next (h.whenOn h.watchValue)
  | ewStale => exact .next (.ite h.update.raise.watchDrive h)
  | nrgBindWrite => exact .next (h.whenOn h.bindWrite)
  | tariffWrite => exact .next (h.whenOn h.setTariff)
  | aonBelayCommit => exact .next (.ite h.aonCommit h)
  | cairnBelayCommit => exact .next (.ite h.cairnTry h)
  | segmentFold => exact .next (.ite h.update h)
  | filtCfgWrite => exact .next (h.whenOn h.cfgWrite)
  | filtSwap => exact .next (h.whenOn h.swapOrder)
  | coefDataAccess => exact .next (h.whenOn (.ite h.coefWrite h.tapNext.update))
  | spareSettled => exact .next (.ite h.modQuad h)
  | traverseDwellEnd => exact .next (.ite (.setQuad (.ite h.postInternal h)) h)
  | owTestGo => exact .next (h.whenOn (.ite h.owStart h))
  | strideRequest => exact .next (h.whenOn (.ite h.modeWrite h))
  | overloadTrip => exact .next (.ite h.update.flag h)
  | bitclkLoss => exact .next (.ite h.update.set.bitclkLost h)
  | bitclkRequalify => exact .next (.ite h.bitFlush.flag.flag.stageEvent.arrive h)
  | bitstreamStuck => exact .next (.ite (.update (.ite h h.setBit.arrive)) h)
  | bitstreamRangeExceed => exact .next (.ite h.setBit.arrive h)
  | portCopyDone => exact .next (h.whenOn h.portCopied)
  | cairnAddrWrite => exact .next (h.whenOn h.cairnAddr)
  | cairnReadReady => exact .next (h.whenOn h.cairnReady)
  | cairnDataRead => exact .next (h.whenOn h.cairnAfterData.update)
  | driftSave => exact .next (.ite h.update.supervisorDone h)
  | otpDataRead => exact .next (h.whenOn h.trimAfterRead.update)
  | timecodeFrameSend => exact .next (.ite h.countReplies.frameSent.silence h)
  | followerReplyReceive => exact .next (.ite (.ite h.setBit.modChain h.bump) h)
  | replyMissed => exact .next (.ite h.setBit.raise.modChain h)
  | handoverGo => exact .next (h.whenOn h.handoverGo)
  | heirTakeover => exact .next (.ite h.lead h)
  | timecodeFrameReceive =>
    exact .next (.ite (.ite (.ite h (.ite h.follow.raise.followFrame h.followFrame)) h.bump.modChain) h)
  | frameLoss => exact .next (.ite h.update.modChain.raise.chainGo.stageEvent h)
  | intervalBoundary => exact .next (.ite h.update.postEnded h)
  | f10WindowEnd => exact .next (.ite (h.update.unless (·.set.flag.flag.flag.set2)) h)
  | pqThrWrite => exact .next (h.whenOn h.thrWrite)
  | udinWrite => exact .next (h.whenOn h.udinWrite)
  | captFreeze => exact .next (h.whenOn (.ite h.freeze h))
  | captPreFilled => exact .next (h.whenOn (.ite h.set h))
  | captArm => exact .next (h.whenOn h.arm)
  | captTrig => exact .next (h.whenOn h.trigger)
  | captDisarm => exact .next (h.whenOn h.disarm)
  | auxCalStepEnd => exact .next (.ite (.ite h.flag.flag h.modAux) h)
  | urgentRequest => exact .next (.ite h.urgentRequest h)
  | loop => exact .next (h.instr (fun ht => .ite (.ok ht) (.ok ht)))
  | ifeq | ifne | iflt | ifge | ifltu | ifgeu => exact .next h.branch
  | call => exact .controlOnly (h.instr (fun ht => .ite .error (.ok ht)))
  | jump => exact .controlOnly (h.instr (fun ht => .ite .error (.ite .error (.ite .error (.ok ht)))))
  | csrWrite => exact h.csrOp
  | nop | flr | flw | div | himm | vins | vext | vbc | vmov | vsum | aclr | amov | aadds | aadd | asub | arnd
  | ardw | awrw =>
    exact .next h.regOp
  | wait => exact .controlOnly (h.instr (fun ht => .ok ht.setCore))
  | trap => exact .controlOnly (h.instr (fun _ => .error))
  | reti => exact .controlOnly (.ite (.ite h.returnFrom.svcNext h.trap) h)
  | spiStatus | spiRepeat => exact .next (.ite h.shiftStatus.shiftOut h)
  | spiInvalidCommand => exact .next (.ite h.shiftStatus.shiftOut.bump h)
  | hvddUp => exact .next (.ite h h.modLink)
  | hostDieReady => exact .next (.ite h.modLink h)
  | hvddLoss => exact .next h.linkLost.modLink
  | outboundLenWrite => exact .next (h.whenOn h.outLen)
  | outboundDataWrite => exact .next (h.whenOn h.outData)
  | outboundGo => exact .next (h.whenOn h.outGo)
  | inboundDataRead => exact .next (h.whenOn h.hostAfterRead.update)
  | accessClose => exact .next (h.whenOn h.endSession)
  | sessionIdleTimeout => exact .next (.ite h.endSession h)
  | measDataRead => exact .next (h.whenOn h.accessAfterRead.update)
  | tamperTick => exact .next (.ite h.tampTick h)
  | supplyGlitch => exact .next (.ite h.modSrc h)
  | testPortLeaveReset => exact .next (.ite h h.modSrc)
  | testLogicReset => exact .next h
  | permitQueuedGrant => exact .next (.ite h.grantQueued h)
  | modemChannelBusy => exact .next (.ite h.modModem h)
  | modemChannelIdle => exact .next (.ite h.draw.modModem h)
  | modemPreambleSync => exact .next (.ite h.flag.modModem h)
  | pumpFault => exact .next (.ite h.flag.arrive.flag.flag h)
  | crackPulseCheck => exact .next (.ite h.pulseCheck h)
  | leaseExpiry => exact .next (.ite h.leaseRevoke h)
  | leaseRollbackDone => exact .next (.ite (h.leaseFree.when (·.nextUpdate)) h)
  | leaseRollbackOverdue | testPortReset => exact .next (.ite h.decideReset h)
  | leaseTake => exact h.leaseOp (·.leaseTake)
  | leaseRenew => exact h.leaseOp (·.leaseRenew)
  | leaseRelease => exact h.leaseOp (·.leaseRelease)
  | leaseQuery => exact h.leaseOp (·.leaseQuery)
  | permitExpiry => exact .next (.ite h.permitEnd h)
  | supplyFailClear => exact .next (.ite h.flag.flag.arrive.modPwr.pqClear h)
  | zeroizeReset => exact .next (.ite h.modTamp.decideReset h)
  | watchdogWarn => exact .next (.ite h.arrivePrivate.modPwr h)
  | watchdogExpiry => exact .next (.ite h.supervisorFault.decideReset h)
  | grainProgramStart => exact .next (.ite h.toPhase.mirrorTakes.setLane h)
  | installSectionsDone => exact .next (.ite (h.placeSet.unless (fun ht => ht.foldl (·.measure))) h)
  | laneSelftestFail => exact .next (.ite h.retireLane h)
  | uw | uset | uclr => exact .next h.unitOp
  | permit => exact .controlOnly (h.instr (fun ht => .ok ht.permitRequest))
  | cue => exact .next (h.instr (fun ht => .ite .error (.ok ht.cueIssue)))
  | mext => exact .controlOnly (h.instr (fun ht => .ite .error (.ite .error (.ite .error (.ok ht.extend)))))
  | bswap => exact .next (h.instr (fun ht => .ok ht.unitPost))
  | registerWrite | drawGo | portOpen | portDataWrite | portCommit | portAbort | selfcalGo | driftReset
  | shnodeRestart | auxGo | auxStop | auxCal | auxChWrite | modemTxGo | modemTxCancel | glassModeWrite
  | lcdcfgWrite | tableCheck | regionMaskWrite | glassUpdateRequest | tamperTest | permitRelease
  | watchdogServe | resetRequest =>
    exact .next h.rowWrite
  | counterReadClear | splitLowRead | auxResultRead => exact .next h.rowRead
  | stageDataWrite | stagedAppendGo => exact .next h.holderWrite
  | calibrationWrite => exact .ite (.next h.rowWrite) .refused
  | tableDataAccess => exact .next (.ite h.rowWrite h.rowRead)
  | voteTail => exact .next (.ite h.toPhase.voteTail h)
  | parcelLoad => exact .next (h.handle (fun ht => ht.orWait ht.loadPart))
  | parcelAck => exact .next (h.handle (fun ht => ht.orWait (.ite ht.refuse ht.ack.accept)))
  | orderStart => exact .next (h.handle (fun ht => ht.orWait (.ite ht.refuse ht.orderStart)))
  | orderInstall => exact .next (h.order (·.orderInstall))
  | orderRemove => exact .next (h.order (·.orderRemove))
  | orderCue => exact .next (h.order (·.orderCue))
  | orderSetUtc => exact .next (h.order (·.orderSetUtc))
  | orderSelfcal => exact .next (h.order (·.orderSelfcal))
  | orderReset => exact .next (h.order (·.orderReset))
  | orderOpenService => exact .next (h.order (·.orderOpenService))
  | orderChallenge => exact .next (h.order (·.orderChallenge))
  | orderAnswer => exact .next (h.order (·.orderAnswer))
  | orderClose => exact .next (h.order (·.endSession.accept))
  | orderTariff | orderAdjust | orderTamperClear => exact .next (h.order (·.durable))
  | accessSetVerifier | accessRemoveVerifier | accessProductionLock | accessSetIdle => exact .next h.accessOrder
  | viewInventory => exact .next (h.handle (fun ht => ht.orWait (.ite ht.refuse ht.answerView)))
  | viewStatus | viewStartReport => exact .next (h.view (·.answerView))
  | viewTotals | viewQuantityStore | viewCairn => exact .next (h.view (fun ht => .ite ht.refuse ht.answerView))
  | viewInterrupts => exact .next (h.view (·.hostTakes.answerView))
  | viewQuote => exact .next (h.view (fun ht => .ite ht.refuse ht.modAccess.freeFront))
  | journalParcelSend => exact .next (.ite h (.ite h.send.modLink (.ite h h.send.modLink)))
  | drawParcel => exact .next (.ite h (.when (.set (.ite h h.send)) (·.set.arrive)))
  | brownOut => exact .next (.ite h.tear.restart h)
  | hreset => exact .next (.ite h (h.linkLost.when (·.tear.restart)))
  | pllLock => exact .next (.ite h.bootDone h)
  | bulkDropout => exact .next (.ite h.enterBivouac h)
  | railCollapse => exact .next (.ite h.tear.goOff h)
  | cellExhausted => exact .next (.ite h.goOff h)
  | mainsReturn => exact .next (.ite (.ite h.restart (.ite h.restart.expFromMark h.restart.flag)) h)
  | bivouacWindow =>
    exact .ite .refused (.next (.ite ((h.modPwr.bump.forN (·.bvEntry)).tampTick.when (·.pulseCheck)) h))
  | hostAbsenceTimeout => exact .next (.ite h.modPwr h)
  | add | sub => exact .next h.alu
  | and | or | xor | andn | sllv | srlv | srav | cmplt | cmpltu | min | max => exact .next h.aluZN
  | sll | srl | sra => exact .next h.aluShift
  | qadd | qsub | qabs | qneg => exact .next h.aluSat
  | mul | mulh | mulhu | qmul | divu | rem | remu | sqrt | qsqrt => exact .next h.mds
  | addi | andi | ori | xori | cmplti | cmpltiu => exact .next h.aluImm
  | vadd | vsub | vmul | vand | vor | vxor | vmin | vmax | vsll | vsra => exact .next h.valu0
  | vqadd | vqsub | vqmul | vqabs => exact .next h.valuSat
  | vmac | vmaci | vmsu | vmsui => exact .next h.vmacOp
  | mac | maci | msu | msui => exact .next h.macOp
  | st => exact h.execSt
  | vst => exact h.execVst
  | stvc => exact h.execStvc
  | normalEntry => exact h.execNormalEntry
  | fastEntry => exact h.execFastEntry
  | coreTimerExpiry => exact h.execCoreTimerExpiry
  | ppsEdge => exact h.execPpsEdge
  | ppsEdgeMissed => exact h.execPpsEdgeMissed
  | zeroCrossing => exact h.execZeroCrossing
  | foldCommit => exact h.execFoldCommit
  | activeBankWrite => exact h.execActiveBankWrite
  | retireCommit => exact h.execRetireCommit
  | selfcalPhaseEnd => exact h.execSelfcalPhaseEnd
  | handoverSwitch => exact h.execHandoverSwitch
  | leaderListenEnd => exact h.execLeaderListenEnd
  | leaderSilenceEnd => exact h.execLeaderSilenceEnd
  | followerReplySend => exact h.execFollowerReplySend
  | pqBlockPost => exact h.execPqBlockPost
  | supraWindowEnd => exact h.execSupraWindowEnd
  | auxConversionEnd => exact h.execAuxConversionEnd
  | auxRefReady => exact h.execAuxRefReady
  | urgentConversionEnd => exact h.execUrgentConversionEnd
  | csrRead => exact h.execCsrRead
  | csrSet => exact h.execCsrSet
  | csrClear => exact h.execCsrClear
  | spiWrite => exact h.execSpiWrite
  | spiRead => exact h.execSpiRead
  | nonceExpiry => exact h.execNonceExpiry
  | quoteSigned => exact h.execQuoteSigned
  | dualDecisionSecond => exact h.execDualDecisionSecond
  | modemFrameStart => exact h.execModemFrameStart
  | modemFrameEnd => exact h.execModemFrameEnd
  | lbtBackoffEnd => exact h.execLbtBackoffEnd
  | modemRxDecode => exact h.execModemRxDecode
  | modemAckSend => exact h.execModemAckSend
  | modemAckTimeout => exact h.execModemAckTimeout
  | lcdFrameBoundary => exact h.execLcdFrameBoundary
  | ntcRequest => exact h.execNtcRequest
  | glassUpdateStart => exact h.execGlassUpdateStart
  | glassUpdateEnd => exact h.execGlassUpdateEnd
  | outageViewEnd => exact h.execOutageViewEnd
  | crackReading => exact h.execCrackReading
  | supplyFailWarning => exact h.execSupplyFailWarning
  | closingSnapshot => exact h.execClosingSnapshot
  | jacc => exact h.execJacc
  | cueProgramStart => exact h.execCueProgramStart
  | endRun => exact h.execEndRun
  | standbyRecompute => exact h.execStandbyRecompute
  | standbyRebuildEnd => exact h.execStandbyRebuildEnd
  | laneRetireCommit => exact h.execLaneRetireCommit
  | ur => exact h.execUr
  | viewUnit => exact h.execViewUnit
  | resetAssert => exact h.execResetAssert
  | bivouacEntryDecide => exact h.execBivouacEntryDecide
  | mainsUp => exact h.execMainsUp
  | lineEdgeLatch => exact h.execLineEdgeLatch
  | grainBoundary => exact h.execGrainBoundary
  | chainStep => exact h.execChainStep
  | pitchComplete => exact h.execPitchComplete
  | blockBoundary => exact h.execBlockBoundary

theorem Keeps.tick (h : Keeps s₀ s) : Keeps s₀ s.tick := by
  unfold State.tick
  split
  · exact .ite h.elapse.update h.elapse
  · exact h.update
  · exact h

end

/-- What a command keeps that answers a next state. -/
theorem exec_keeps {c : Instr} {s t : State} (h : exec c s = .next t) : Keeps s t := by
  have hk : KeepsOut s (exec c s) := (Keeps.refl s).exec
  rw [h] at hk
  cases hk with
  | next hk => exact hk

/-- The queue is no part of the canonical form. -/
theorem State.canonical_pending {s : State} (h : s.Canonical) (l : List Instr) : { s with pending := l }.Canonical := h

/-- Settles O59: a step lets time pass or runs a command, and either keeps the canonical form. -/
theorem canonicalKept : Obligations.CanonicalKept := by
  intro s t hs h
  unfold step at h
  split at h
  · cases h
    exact (Keeps.refl s).tick.canonical hs
  · exact (exec_keeps h).canonical (State.canonical_pending hs _)

end Sys2Proof.Machine

/-! SUPPORT. The state after reset. -/

namespace Sys2Proof.Machine

/-- No field is listed after reset, so each reads its reset value. -/
@[simp] theorem State.get_reset (f : Fld) : State.reset.get f = f.reset := rfl

/-- The same of the values in force. -/
@[simp] theorem State.eff_reset (f : Fld) : State.reset.eff f = f.reset := rfl

theorem State.lane_reset (n : Fin 5) : State.reset.lane n = Lane.zero := by simp [State.lane, State.reset]

theorem State.slot_reset (n : Fin 72) : State.reset.slots[n] = Slot.zero := by simp [State.reset]

/-- The production lock is open after reset, so the level is at least OWNER (R480). -/
theorem State.level_reset : State.reset.level = 2 := by
  have hlock : State.reset.on ACCESS.LEVEL.PLOCK = false := rfl
  have hlevel : State.reset.get ACCESS.LEVEL.LEVEL = 0 := rfl
  simp [State.level, hlock, hlevel]

/-- Settles O57: nothing is listed that differs from its reset value, and each queue and buffer is written out empty. -/
theorem resetValues : Obligations.ResetValues := by
  refine ⟨fun f => ⟨State.get_reset f, State.eff_reset f⟩, rfl, rfl, rfl, rfl, rfl, rfl, rfl, fun n => rfl, fun n => ?_,
    rfl, rfl, rfl, rfl, rfl, rfl, rfl, rfl, fun n => ?_, rfl, rfl, State.level_reset⟩
  · rw [State.lane_reset]; rfl
  · rw [State.slot_reset]; rfl

/-- Settles O58: empty lists are in their canonical forms. -/
theorem resetIsCanonical : Obligations.ResetIsCanonical := ⟨rfl, rfl, rfl, rfl⟩

end Sys2Proof.Machine

/-! SUPPORT. One access to a register by a processor: the guards in their order, what a write stores and what a read
returns, field by field. -/

namespace Sys2Proof.Machine

open Sys2Proof.Claims

/-! ## The guards (R219) -/

section
variable {s : State} {who u idx : Nat} {v : Option Nat}

theorem State.busCheck_absent (h : s.part.hasUnit u = false) : s.busCheck who u idx v = some ⟨0x0E, u, none⟩ := by
  simp [State.busCheck, h]

theorem State.busCheck_undefined (h : s.part.hasUnit u = true) (hd : s.busDefined u idx = false) :
    s.busCheck who u idx v = some ⟨0x0D, u, none⟩ := by
  simp [State.busCheck, h, hd]

/-- Of a register that is there, what is left are the lease and the level. -/
theorem State.busCheck_there (h : s.part.hasUnit u = true) (hd : s.busDefined u idx = true) :
    s.busCheck who u idx v = (s.guardFault who u idx v).map (fun c => ⟨c, u, none⟩) := by
  simp [State.busCheck, h, hd]

theorem State.guardFault_lease (h : s.leaseOk who u idx = false) : s.guardFault who u idx v = some 0x05 := by
  simp [State.guardFault, h]

theorem State.guardFault_read (h : s.leaseOk who u idx = true) : s.guardFault who u idx none = none := by
  simp [State.guardFault, h]

theorem State.guardFault_level {x : Nat} (h : s.leaseOk who u idx = true) (hl : s.level < s.levelGuard u idx x) :
    s.guardFault who u idx (some x) = some 0x09 := by
  simp [State.guardFault, h, hl]

theorem State.guardFault_write {x : Nat} (h : s.leaseOk who u idx = true) (hl : s.levelGuard u idx x ≤ s.level) :
    s.guardFault who u idx (some x) = none := by
  simp [State.guardFault, h, Nat.not_lt.2 hl]

end

/-! ## The access itself (log entry 16) -/

section
variable {s : State} {p : Proc} {u idx : Nat}

theorem State.rowWrite_trap {v : Nat} {t : Trap} (hr : s.runs p = true)
    (hc : s.busCheck (s.holder p) u idx (some (v % 2 ^ 32)) = some t) : s.rowWrite p u idx v = s.trap p t := by
  simp only [State.rowWrite, hr, if_true, hc]

theorem State.rowRead_trap {t : Trap} (hr : s.runs p = true) (hc : s.busCheck (s.holder p) u idx none = some t) :
    s.rowRead p u idx = s.trap p t := by
  simp only [State.rowRead, hr, if_true, hc]

/-- A write that acts at once is the unit's write in the processor's name (R191, R195). -/
theorem State.unitPost_now (ha : AtOnce s p) (v : Word) :
    s.unitPost p u idx .write v = s.busWrite (s.copyOf p) (s.holder p) u idx v.toNat := by
  cases p with
  | cc c => rfl
  | lane n => simp [State.unitPost, State.opValue, ha.2 n rfl]

theorem State.rowWrite_now (ha : AtOnce s p) (v : Word)
    (hc : s.busCheck (s.holder p) u idx (some v.toNat) = none) :
    s.rowWrite p u idx v.toNat = s.busWrite (s.copyOf p) (s.holder p) u idx v.toNat := by
  have hv : v.toNat % 2 ^ 32 = v.toNat := Nat.mod_eq_of_lt v.isLt
  simp only [State.rowWrite, ha.1, if_true, hv, hc, BitVec.ofNat_toNat, BitVec.setWidth_eq, State.unitPost_now ha]

theorem State.rowRead_now (hr : s.runs p = true) (hc : s.busCheck (s.holder p) u idx none = none) :
    s.rowRead p u idx =
      { (s.busRead (s.copyOf p) u idx).2 with readData := BitVec.ofNat 32 (s.busRead (s.copyOf p) u idx).1 } := by
  simp only [State.rowRead, hr, if_true, hc]

end

/-! ## The fields of a register (R16) -/

section
variable {s : State} {cs : List Cell} {f : State → Cell → State}

/-- Actions that touch their own cell's field alone leave every other field of the register's frame alone. -/
theorem foldl_cells_same (hf : ∀ t c, Same [] [c.fld] t (f t c)) : Same [] (cs.map Cell.fld) s (cs.foldl f s) := by
  induction cs generalizing s with
  | nil => exact .refl ..
  | cons c cs ih =>
    have hhead : Same [] ((c :: cs).map Cell.fld) s (f s c) :=
      (hf s c).mono (fun _ h => h) (fun x hx => by simp_all)
    have htail : Same [] ((c :: cs).map Cell.fld) (f s c) (cs.foldl f (f s c)) :=
      (ih).mono (fun _ h => h) (fun x hx => List.mem_cons_of_mem _ hx)
    exact hhead.then htail

/-- Where the fields of a register are distinct, each ends as its own action leaves it. -/
theorem foldl_cells_get {g : Cell → Nat → Nat} (hf : ∀ t c, Same [] [c.fld] t (f t c))
    (hg : ∀ t c, (f t c).get c.fld = g c (t.get c.fld)) (hn : (cs.map Cell.fld).Nodup) {c : Cell} (hc : c ∈ cs) :
    (cs.foldl f s).get c.fld = g c (s.get c.fld) := by
  induction cs generalizing s with
  | nil => simp at hc
  | cons d cs ih =>
    rw [List.map_cons, List.nodup_cons] at hn
    obtain ⟨hd, hn⟩ := hn
    rw [List.foldl_cons]
    obtain rfl | hc := List.mem_cons.1 hc
    · rw [(foldl_cells_same hf).1 _ hd, hg]
    · have hne : c.fld ≠ d.fld := fun e => hd (e ▸ List.mem_map_of_mem hc)
      rw [ih hn hc, (hf s d).1 _ (by simpa using hne)]

end

/-- What a write of a word leaves in a field that held a value (R16). -/
def Cell.written (v : Nat) (c : Cell) (old : Nat) : Nat :=
  match c.fld.acc with
  | .rw => storedAs c.sub (field v c.fld.lo c.fld.w) % 2 ^ c.fld.w
  | .w1c => (old &&& (2 ^ c.fld.w - 1 - field v c.fld.lo c.fld.w)) % 2 ^ c.fld.w
  | _ => old

/-- What a read leaves in a field that held a value (R16). -/
def Cell.afterRead (c : Cell) (old : Nat) : Nat := if c.fld.acc = .rc then c.fld.reset % 2 ^ c.fld.w else old

theorem State.writeCell_get (s : State) (v : Nat) (c : Cell) :
    (s.writeCell v c).get c.fld = c.written v (s.get c.fld) := by
  unfold State.writeCell Cell.written
  cases c.fld.acc <;> simp

theorem State.writeCell_same (s : State) (v : Nat) (c : Cell) : Same [] [c.fld] s (s.writeCell v c) := by
  have hset (x : Nat) : Same [] [c.fld] s (s.set c.fld x) := State.set_frame [] s _ _ (List.mem_singleton_self _)
  unfold State.writeCell
  split
  · exact hset _
  · exact hset _
  · exact .refl ..

theorem State.writeCells_same (s : State) (cs : List Cell) (v : Nat) :
    Same [] (cs.map Cell.fld) s (s.writeCells cs v) := foldl_cells_same fun t c => t.writeCell_same v c

theorem State.writeCells_get (s : State) {cs : List Cell} (v : Nat) (hn : (cs.map Cell.fld).Nodup) {c : Cell}
    (hc : c ∈ cs) : (s.writeCells cs v).get c.fld = c.written v (s.get c.fld) :=
  foldl_cells_get (fun t c => t.writeCell_same v c) (fun t c => t.writeCell_get v c) hn hc

theorem State.clearRC_step_same (t : State) (c : Cell) :
    Same [] [c.fld] t (if c.fld.acc = .rc then t.set c.fld c.fld.reset else t) := by
  split
  · exact State.set_frame [] t _ _ (List.mem_singleton_self _)
  · exact .refl ..

theorem State.clearRC_same (s : State) (cs : List Cell) : Same [] (cs.map Cell.fld) s (s.clearRC cs) :=
  foldl_cells_same State.clearRC_step_same

theorem State.clearRC_get (s : State) {cs : List Cell} (hn : (cs.map Cell.fld).Nodup) {c : Cell} (hc : c ∈ cs) :
    (s.clearRC cs).get c.fld = c.afterRead (s.get c.fld) := by
  refine foldl_cells_get State.clearRC_step_same (fun t c => ?_) hn hc
  unfold Cell.afterRead
  split
  · exact State.get_set_same ..
  · rfl

/-- A register without RC fields is left alone by its reads. -/
theorem State.clearRC_none (s : State) {cs : List Cell} (h : ∀ c ∈ cs, c.fld.acc ≠ .rc) : s.clearRC cs = s := by
  induction cs with
  | nil => rfl
  | cons c cs ih =>
    rw [State.clearRC, List.foldl_cons, if_neg (h c (List.mem_cons_self ..))]
    exact ih fun d hd => h d (List.mem_cons_of_mem _ hd)

theorem Cell.written_rw {v old : Nat} {c : Cell} (h : c.fld.acc = .rw) :
    c.written v old = storedAs c.sub (field v c.fld.lo c.fld.w) % 2 ^ c.fld.w := by
  simp only [Cell.written, h]

theorem Cell.written_other {v old : Nat} {c : Cell} (h : c.fld.acc ≠ .rw) (h' : c.fld.acc ≠ .w1c) :
    c.written v old = old := by
  unfold Cell.written
  split
  · contradiction
  · contradiction
  · rfl

theorem bitOf_eq_testBit (x i : Nat) : bitOf x i = x.testBit i := by
  rw [Nat.testBit_eq_decide_div_mod_eq]; rfl

/-- A one written clears the bit of a W1C field, a zero leaves it. -/
theorem Cell.written_w1c {v old i : Nat} {c : Cell} (h : c.fld.acc = .w1c) (hi : i < c.fld.w) :
    bitOf (c.written v old) i = (bitOf old i && !v.testBit (c.fld.lo + i)) := by
  have hf : field v c.fld.lo c.fld.w < 2 ^ c.fld.w := Nat.mod_lt _ (Nat.two_pow_pos _)
  have hbit : (field v c.fld.lo c.fld.w).testBit i = v.testBit (c.fld.lo + i) := by
    rw [field, Nat.testBit_mod_two_pow, Nat.testBit_div_two_pow, Nat.add_comm]
    simp [hi]
  have hneg : (2 ^ c.fld.w - 1 - field v c.fld.lo c.fld.w).testBit i = !v.testBit (c.fld.lo + i) := by
    rw [show 2 ^ c.fld.w - 1 - field v c.fld.lo c.fld.w = 2 ^ c.fld.w - (field v c.fld.lo c.fld.w + 1) by omega,
      Nat.testBit_two_pow_sub_succ hf, hbit]
    simp [hi]
  simp only [Cell.written, h, bitOf_eq_testBit, Nat.testBit_mod_two_pow, hi, decide_true, Bool.true_and,
    Nat.testBit_and, hneg]

/-! ## The four parts of O55 -/

/-- The word that a read hands to its processor is no part of any register. -/
theorem readData_same (s : State) (x : Word) (fs : List Fld) : Same [.readData] fs s { s with readData := x } :=
  .of_flds rfl fun c hc => by
    cases c with
    | readData => simp at hc
    | _ => rfl

/-- Each of the two rows that read a register is one read of it. -/
theorem exec_reads {p : Proc} {u r : Fin 256} {c : Instr} (h : c ∈ [.counterReadClear p u r, .splitLowRead p u r])
    (s : State) : exec c s = .next (s.rowRead p u r) := by
  simp only [List.mem_cons, List.not_mem_nil, or_false] at h
  obtain rfl | rfl := h <;> rfl

theorem exec_registerWrite (p : Proc) (u r : Fin 256) (v : Word) (s : State) :
    exec (.registerWrite p u r v) s = .next (s.rowWrite p u r v.toNat) := rfl

/-- Where the checks fail alike for any word and for a read, all three rows take the fault. -/
theorem access_trap {s : State} {p : Proc} {u r : Fin 256} {v : Word} {t : Trap} (hr : s.runs p = true)
    (hc : ∀ x, s.busCheck (s.holder p) u r x = some t) :
    ∀ c ∈ [.registerWrite p u r v, .counterReadClear p u r, .splitLowRead p u r], exec c s = .next (s.trap p t) := by
  intro c hmem
  obtain rfl | hmem := List.mem_cons.1 hmem
  · rw [exec_registerWrite, State.rowWrite_trap hr (hc _)]
  · rw [exec_reads hmem, State.rowRead_trap hr (hc _)]

/-- What a read returns, as the sum of its fields at their places. -/
theorem State.readCells_eq_sum (s : State) (cs : List Cell) :
    s.readCells cs = (cs.map (fun c => if c.fld.acc = .wo then 0 else s.get c.fld * 2 ^ c.fld.lo)).sum := by
  have hfold (a : Nat) : cs.foldl (fun a c => a + (if c.fld.acc = .wo then 0 else s.get c.fld) * 2 ^ c.fld.lo) a =
      a + (cs.map (fun c => if c.fld.acc = .wo then 0 else s.get c.fld * 2 ^ c.fld.lo)).sum := by
    induction cs generalizing a with
    | nil => rfl
    | cons c cs ih =>
      rw [List.foldl_cons, ih, List.map_cons, List.sum_cons, ← Nat.add_assoc, ite_mul, Nat.zero_mul]
  rw [State.readCells, hfold, Nat.zero_add]

theorem ofNat_mod_word (x : Nat) : BitVec.ofNat 32 (x % 2 ^ 32) = BitVec.ofNat 32 x :=
  BitVec.eq_of_toNat_eq (by simp)

/-- A register that is formed by no view reads as its fields. -/
theorem State.ofNat_peek {s : State} {b u idx : Nat} (h : s.unitView b u idx = none) :
    BitVec.ofNat 32 (s.peek b u idx) = BitVec.ofNat 32 (s.readCells (s.busCells b u idx)) := by
  rw [State.peek, h, Option.getD_none, ofNat_mod_word]

/-- A good write of a register without an effect of its own acts field by field (R16). -/
theorem registerWrite_fields {s : State} {p : Proc} {u r : Fin 256} {v : Word} (ha : AtOnce s p)
    (hc : s.busCheck (s.holder p) u r (some v.toNat) = none)
    (hu : s.unitWrite (s.copyOf p) (s.holder p) u r v.toNat = none) :
    exec (.registerWrite p u r v) s = .next (s.writeCells (s.busCells (s.copyOf p) u r) v.toNat) := by
  rw [exec_registerWrite, State.rowWrite_now ha v hc, State.busWrite, hu, Option.getD_none]

/-- A good read without a latch and without an effect of its own: the value, and RC fields put back (R16). -/
theorem readRow_fields {s : State} {p : Proc} {u r : Fin 256} {c : Instr}
    (he : exec c s = .next (s.rowRead p u r)) (hr : s.runs p = true) (hc : s.busCheck (s.holder p) u r none = none)
    (hx : ∀ x : State, x.latch (s.copyOf p) u r = x ∧ x.afterRead (s.copyOf p) u r = x) :
    exec c s = .next { s.clearRC (s.busCells (s.copyOf p) u r) with
      readData := BitVec.ofNat 32 (s.peek (s.copyOf p) u r) } := by
  rw [he, State.rowRead_now hr hc]
  simp only [State.busRead, (hx _).1, (hx _).2]

/-- A good read of a low word whose register has no RC field latches the high word (R71). -/
theorem splitLowRead_latches {s : State} {p : Proc} {u r : Fin 256} {x : Nat} {hi : Fld} (hr : s.runs p = true)
    (hc : s.busCheck (s.holder p) u r none = none) (hv : s.unitView (s.copyOf p) u r = some (x % 2 ^ 32))
    (hl : s.latch (s.copyOf p) u r = s.set hi (x / 2 ^ 32)) (ht : ∀ t : State, t.afterRead (s.copyOf p) u r = t)
    (hrc : ∀ t : State, ∀ c ∈ t.busCells (s.copyOf p) u r, c.fld.acc ≠ .rc) :
    ∃ t, exec (.splitLowRead p u r) s = .next t ∧ t.readData = BitVec.ofNat 32 x ∧
      t.get hi = x / 2 ^ 32 % 2 ^ hi.w ∧ Same [.readData] [hi] s t := by
  have hread : s.busRead (s.copyOf p) u r = (x % 2 ^ 32, s.set hi (x / 2 ^ 32)) := by
    simp only [State.busRead, hl, ht, State.clearRC_none _ (hrc _), State.peek, hv, Option.getD_some, Nat.mod_mod]
  refine ⟨{ s.set hi (x / 2 ^ 32) with readData := BitVec.ofNat 32 x }, ?_, rfl, State.get_set_same .., ?_⟩
  · rw [exec_reads (List.mem_cons_of_mem _ (List.mem_singleton_self _)), State.rowRead_now hr hc, hread]
    simp only [ofNat_mod_word]
  · exact (State.set_frame [.readData] s hi _ (List.mem_singleton_self _)).then
      (readData_same ..)

/-- A read that no lease guards passes its checks. -/
theorem State.busCheck_open {s : State} {who u idx : Nat} (hu : s.part.hasUnit u = true) (hd : s.busDefined u idx = true)
    (hl : leaseGuard u idx = none) : s.busCheck who u idx none = none := by
  rw [State.busCheck_there hu hd, State.guardFault_read (by simp only [State.leaseOk, hl]), Option.map_none]

/-- The low words of TIME (R71, R108). -/
theorem timeRead_latches {s : State} {p : Proc} {r : Fin 256} {x : Nat} {hi : Fld} (hr : s.runs p = true)
    (hd : regDefined 0x01 r = true) (hv : timeView s r = some (x % 2 ^ 32)) (hl : timeLatch s r = s.set hi (x / 2 ^ 32))
    (hrc : ∀ c ∈ (cellsOf regsTime 0x01 r 0).getD [], c.fld.acc ≠ .rc) :
    ∃ t, exec (.splitLowRead p 0x01 r) s = .next t ∧ t.readData = BitVec.ofNat 32 x ∧
      t.get hi = x / 2 ^ 32 % 2 ^ hi.w ∧ Same [.readData] [hi] s t :=
  splitLowRead_latches hr (State.busCheck_open rfl (by simp [State.busDefined, Part.defines, hd]) rfl) hv hl
    (fun _ => rfl) fun _ => hrc

/-- The low words of JRNL (R71, R369). -/
theorem jrnlRead_latches {s : State} {p : Proc} {r : Fin 256} {x : Nat} {hi : Fld} (hr : s.runs p = true)
    (hd : regDefined 0x28 r = true) (hg : leaseGuard 0x28 r = none) (hv : jrnlView s r = some (x % 2 ^ 32))
    (hl : jrnlLatch s r = s.set hi (x / 2 ^ 32))
    (hrc : ∀ c ∈ (cellsOf regsJrnl 0x28 r 0).getD [], c.fld.acc ≠ .rc) :
    ∃ t, exec (.splitLowRead p 0x28 r) s = .next t ∧ t.readData = BitVec.ofNat 32 x ∧
      t.get hi = x / 2 ^ 32 % 2 ^ hi.w ∧ Same [.readData] [hi] s t :=
  splitLowRead_latches hr (State.busCheck_open rfl (by simp [State.busDefined, Part.defines, hd]) hg) hv hl
    (fun _ => rfl) fun _ => hrc

/-- Settles O55: the checks of an access in their order, then a write and a read field by field, and the five low words
that latch a high word. -/
theorem registerAccess : Obligations.RegisterAccess := by
  intro s p u r v _ ha b who cells reads takes there
  refine ⟨⟨fun h => ?absent, fun h hd => ?undefined, fun ⟨h, hd⟩ hl => ?lease, fun ⟨h, hd⟩ hl hlev => ?level⟩,
    fun ⟨h, hd⟩ hl hn => ⟨fun hlev hu => ?write, fun hx c hc => ?read⟩, ?low⟩
  case absent => exact access_trap ha.1 fun _ => State.busCheck_absent h
  case undefined => exact access_trap ha.1 fun _ => State.busCheck_undefined h hd
  case lease =>
    exact access_trap ha.1 fun _ => by rw [State.busCheck_there h hd, State.guardFault_lease hl, Option.map_some]
  case level =>
    have hv : v.toNat % 2 ^ 32 = v.toNat := Nat.mod_eq_of_lt v.isLt
    have hc : s.busCheck who u r (some (v.toNat % 2 ^ 32)) = some ⟨0x09, u, none⟩ := by
      rw [hv, State.busCheck_there h hd, State.guardFault_level hl hlev, Option.map_some]
    exact congrArg _ (State.rowWrite_trap ha.1 hc)
  case write =>
    have hc : s.busCheck who u r (some v.toNat) = none := by
      rw [State.busCheck_there h hd, State.guardFault_write hl hlev, Option.map_none]
    refine ⟨_, registerWrite_fields ha hc hu, fun c hmem => ?_, State.writeCells_same ..⟩
    have hget := State.writeCells_get s v.toNat hn hmem
    refine ⟨fun hacc => hget.trans (Cell.written_rw hacc), fun hacc i hi => ?_,
      fun hrw hw => hget.trans (Cell.written_other hrw hw)⟩
    exact (congrArg (bitOf · i) hget).trans (Cell.written_w1c hacc hi)
  case read =>
    have hcheck : s.busCheck who u r none = none := by
      rw [State.busCheck_there h hd, State.guardFault_read hl, Option.map_none]
    refine ⟨_, readRow_fields (exec_reads hc s) ha.1 hcheck hx, rfl, fun hview _ => ?_,
      fun d hmem => State.clearRC_get s hn hmem, ?_⟩
    · rw [← State.readCells_eq_sum]
      exact State.ofNat_peek hview
    · exact ((State.clearRC_same s cells).mono (fun _ h => nomatch h) fun _ h => h).then
        (readData_same ..)
  case low =>
    exact ⟨timeRead_latches ha.1 rfl rfl rfl (by decide), timeRead_latches ha.1 rfl rfl rfl (by decide),
      jrnlRead_latches ha.1 rfl rfl rfl rfl (by decide), jrnlRead_latches ha.1 rfl rfl rfl rfl (by decide),
      jrnlRead_latches ha.1 rfl rfl rfl rfl (by decide)⟩

end Sys2Proof.Machine

namespace Sys2Proof.Machine
open Sys2Proof.Claims

/-! SUPPORT. The passing of time. -/

/-- One CORE cycle moves the two clocks that SLOW is counted by on together (R24). -/
theorem State.elapse_slow_cycles (s : State) (n : Nat) :
    6250 * (s.elapse n).clock.rtc + (s.elapse n).clock.slowPh = 6250 * s.clock.rtc + s.clock.slowPh + n := by
  have h := Nat.div_add_mod (s.clock.slowPh + n) 6250
  simp only [State.elapse]
  omega

/-- A state whose clock alone differs. -/
theorem clock_other (s : State) (k : Clock) {c : Comp} (h : c ≠ .clock) : c.same s { s with clock := k } := by
  cases c with
  | clock => exact absurd rfl h
  | _ => rfl

/-- One cycle of an empty queue while the mains side runs: the phase moves up to the last of the grain (R68). -/
theorem State.tick_on {s : State} (h : s.power = .on) :
    s.tick = { s.elapse 1 with clock := { (s.elapse 1).clock with
      phase := if s.clock.pllLock = true ∧ s.clock.phase + 1 < s.clock.glen then s.clock.phase + 1 else s.clock.phase } } := by
  simp only [State.tick, h]
  by_cases hp : s.clock.pllLock = true ∧ s.clock.phase + 1 < s.clock.glen
  · rw [if_pos hp]
    exact if_pos hp
  · rw [if_neg hp]
    exact if_neg hp

theorem State.tick_bivouac {s : State} (h : s.power = .bivouac) : s.tick = s.elapseSlow 1 := by simp only [State.tick, h]

theorem State.tick_off {s : State} (h : s.power = .off) : s.tick = s := by simp only [State.tick, h]

theorem step_cons {s : State} {c : Instr} {rest : List Instr} (h : s.pending = c :: rest) :
    step s = exec c { s with pending := rest } := by simp only [step, h]

theorem step_nil {s : State} (h : s.pending = []) : step s = .next s.tick := by simp only [step, h]

/-- The idle cycle, power state by power state. -/
theorem idleTick : Claims.IdleTick := by
  intro s h
  refine ⟨s.tick, step_nil h, ?_⟩
  cases hp : s.power with
  | on =>
    rw [State.tick_on hp]
    refine ⟨fun k hk => clock_other s _ hk, fun f => rfl, rfl, rfl, fun _ => ⟨rfl, fun _ => s.elapse_slow_cycles 1,
      fun hl hg => if_pos ⟨hl, hg⟩, fun hn => if_neg ?_⟩, nofun, nofun⟩
    rintro ⟨hl, hg⟩
    obtain hn | hn := hn
    · rw [hl] at hn; cases hn
    · omega
  | bivouac =>
    rw [State.tick_bivouac hp]
    exact ⟨fun k hk => clock_other s _ hk, fun f => rfl, rfl, rfl, nofun, fun _ => rfl, nofun⟩
  | off =>
    rw [State.tick_off hp]
    exact ⟨fun k _ => k.same_refl s, fun f => rfl, rfl, rfl, nofun, nofun, fun _ => rfl⟩

/-- Settles O56: `step` is one match on the queue. -/
theorem stepRunsTheFrontCommand : Obligations.StepRunsTheFrontCommand := ⟨fun _ _ _ h => step_cons h, idleTick⟩

end Sys2Proof.Machine

namespace Sys2Proof.Machine
open Sys2Proof.Claims

/-! SUPPORT. The memory instructions: the checks in terms of the map, and words stored upward from an address. -/

/-! ## The checks (R210, R37) -/

/-- A lane's address is in the control-core view where the map says so (R35). -/
theorem laneAddr_isNone (n a : Nat) : (laneAddr n a).isNone = true ↔ ¬ (a < 0x30000 ∨ 0x40000 ≤ a ∧ a < 0x50000) := by
  unfold laneAddr
  split
  · simp_all
  · split <;> simp_all

/-- A store stays clear of a lane's code: each region lies before it or behind (R235). -/
def Lane.ClearOf (l : Lane) (a n : Nat) : Prop := ∀ r ∈ l.prot, a + n ≤ r.1 ∨ r.2 ≤ a

theorem Lane.protects_iff (l : Lane) (a n : Nat) : l.protects a n = true ↔ ¬ l.ClearOf a n := by
  simp only [Lane.protects, Lane.ClearOf, List.any_eq_true, decide_eq_true_eq, not_forall, exists_prop]
  refine exists_congr fun r => and_congr_right fun _ => ?_
  omega

/-- The addresses of each region of the control-core view (R35). -/
def Region.holds (a : Nat) : Region → Prop
  | .rom => a < 0x80000
  | .capture => 0x10000000 ≤ a ∧ a < 0x10400000
  | .control => 0x10400000 ≤ a ∧ a < 0x10580000
  | .laneMem k => 0x10580000 ≤ a ∧ a < 0x10670000 ∧ k = (a - 0x10580000) / 0x30000
  | .table => 0x10670000 ≤ a ∧ a < 0x10680000
  | .quantity => 0x10680000 ≤ a ∧ a < 0x10780000
  | .modem => 0x10780000 ≤ a ∧ a < 0x10800000
  | .aon => 0x20000000 ≤ a ∧ a < 0x20010000
  | .none => 0x80000 ≤ a ∧ ¬ (0x10000000 ≤ a ∧ a < 0x10800000) ∧ ¬ (0x20000000 ≤ a ∧ a < 0x20010000)

theorem regionOf_holds (a : Nat) : (regionOf a).holds a := by
  unfold regionOf
  split_ifs <;> simp only [Region.holds, and_true] <;> omega

section
variable {s : State} {p : Proc} {store : Bool} {a : Word} {n : Nat}

theorem State.memCheck_unaligned (h : a.toNat % n ≠ 0) : s.memCheck p store a n = some ⟨0x03, 0xFF, some a⟩ := by
  simp only [State.memCheck, if_pos h]

/-- The outcomes of the checks of an aligned access, by the map and the lease of the capture ring. -/
inductive MapCheck (s : State) (p : Proc) (store : Bool) (a : Word) (n : Nat) : Option Trap → Prop
  | outside (h : ¬ CanAccess s p store a.toNat n) : MapCheck s p store a n (some ⟨0x04, 0xFF, some a⟩)
  | shut (h : CanAccess s p store a.toNat n) (hr : RingShut s p a.toNat) :
    MapCheck s p store a n (some ⟨0x05, 0xFF, some a⟩)
  | good (h : CanAccess s p store a.toNat n) (hr : ¬ RingShut s p a.toNat) : MapCheck s p store a n none

/-- Where no ring is involved, the map alone decides. -/
theorem MapCheck.of_map {b : Bool} (hr : ¬ RingShut s p a.toNat) (hb : b = true ↔ ¬ CanAccess s p store a.toNat n) :
    MapCheck s p store a n (if b = true then some ⟨0x04, 0xFF, some a⟩ else none) := by
  split
  · next h => exact .outside (hb.1 h)
  · next h => exact .good (not_not.1 fun hn => h (hb.2 hn)) hr

theorem memCheck_lane {k : Fin 5} (h : a.toNat % n = 0) :
    MapCheck s (.lane k) store a n (s.memCheck (.lane k) store a n) := by
  have hring : ¬ RingShut s (.lane k) a.toNat := fun ⟨⟨_, hc⟩, _⟩ => nomatch hc
  have hacc : CanAccess s (.lane k) store a.toNat n ↔
      (a.toNat < 0x30000 ∧ (store = true → (s.lane k).ClearOf a.toNat n)) ∨
      (store = false ∧ 0x40000 ≤ a.toNat ∧ a.toNat < 0x50000) := .rfl
  simp only [State.memCheck, h, ne_eq, not_true_eq_false, if_false]
  refine .of_map hring ?_
  rw [Bool.or_eq_true, laneAddr_isNone, Bool.and_eq_true, Bool.or_eq_true, decide_eq_true_eq, Lane.protects_iff, hacc]
  by_cases hclear : (s.lane k).ClearOf a.toNat n
  · cases store <;> simp [hclear]
    omega
  · cases store <;> simp [hclear]

/-- No lane's code is reached by a core's access (R235). -/
def State.ClearOfCode (s : State) (a n : Nat) : Prop := ∀ k : Fin 5, 0x10580000 + k.val * 0x30000 ≤ a →
  a < 0x10580000 + k.val * 0x30000 + 0x30000 → (s.lane k).ClearOf (a - (0x10580000 + k.val * 0x30000)) n

/-- Behind the lanes' memories there is no code. -/
theorem State.clearOfCode_outside {a n : Nat} (ha : a < 0x10580000 ∨ 0x10670000 ≤ a) : s.ClearOfCode a n := by
  intro k hlo hhi
  omega

/-- The code that an access in a lane's memory could reach is that lane's. -/
theorem State.laneCode_iff {a n j : Nat} (hr : Region.holds a (.laneMem j)) :
    s.laneCode j a n = true ↔ ¬ s.ClearOfCode a n := by
  obtain ⟨hlo, hhi, hj⟩ := hr
  obtain ⟨i, rfl⟩ : ∃ i : Fin 5, i.val = j := ⟨⟨j, by omega⟩, rfl⟩
  have hall : s.ClearOfCode a n ↔ (s.lane i).ClearOf (a - (0x10580000 + i.val * 0x30000)) n := by
    refine ⟨fun h => h i (by omega) (by omega), fun h k hk hk' => ?_⟩
    obtain rfl : i = k := Fin.ext (by omega)
    exact h
  rw [State.laneCode, Bool.and_eq_true, decide_eq_true_eq, Lane.protects_iff, hall, Fin.ofNat_eq_cast, Fin.cast_val_eq_self]
  simp only [i.isLt, true_and]

theorem canAccess_core {c : Fin 2} {x : Nat} : CanAccess s (.cc c) store x n ↔
    (store = false ∧ (x < 0x80000 ∨ (0x10000000 ≤ x ∧ x < 0x10400000))) ∨
    (0x10400000 ≤ x ∧ x < 0x10800000 ∧ (store = true → x < 0x1078A000 ∧ s.ClearOfCode x n)) ∨
    (0x20000000 ≤ x ∧ x < 0x20010000) := .rfl

theorem State.holds_iff {x : Nat} : s.holds p x = true ↔
    s.get (LEASE.HOLD.STATE x) = 1 ∧ s.get (LEASE.HOLD.HOLDER x) = s.holder p := by
  simp only [State.holds, Bool.and_eq_true, beq_iff_eq]

theorem memCheck_core {c : Fin 2} (h : a.toNat % n = 0) :
    MapCheck s (.cc c) store a n (s.memCheck (.cc c) store a n) := by
  have hreg := regionOf_holds a.toNat
  have hclear := s.clearOfCode_outside (a := a.toNat) (n := n)
  have hring : ¬ (0x10000000 ≤ a.toNat ∧ a.toNat < 0x10400000) → ¬ RingShut s (.cc c) a.toNat :=
    fun hn ⟨_, hlo, hhi, _⟩ => hn ⟨hlo, hhi⟩
  simp only [State.memCheck, h, ne_eq, not_true_eq_false, if_false]
  cases hr : regionOf a.toNat with
  | none =>
    rw [hr, Region.holds] at hreg
    exact .outside (by rw [canAccess_core]; omega)
  | rom =>
    rw [hr, Region.holds] at hreg
    exact .of_map (hring (by omega)) (by rw [canAccess_core]; cases store <;> simp <;> omega)
  | capture =>
    rw [hr, Region.holds] at hreg
    cases store with
    | true => exact .outside (by rw [canAccess_core]; simp; omega)
    | false =>
      have hacc : CanAccess s (.cc c) false a.toNat n := .inl ⟨rfl, .inr hreg⟩
      cases hl : s.holds (.cc c) 2 with
      | true => exact .good hacc fun ⟨_, _, _, hn⟩ => hn (State.holds_iff.1 hl)
      | false => exact .shut hacc ⟨⟨c, rfl⟩, hreg.1, hreg.2, fun hn => by simp [State.holds_iff.2 hn] at hl⟩
  | laneMem k =>
    rw [hr] at hreg
    have hcode := State.laneCode_iff (s := s) (n := n) hreg
    obtain ⟨hlo, hhi, _⟩ := hreg
    refine .of_map (hring (by omega)) ?_
    rw [canAccess_core, Bool.and_eq_true, hcode]
    by_cases hc : s.ClearOfCode a.toNat n <;> cases store <;> simp [hc] <;> omega
  | modem =>
    rw [hr, Region.holds] at hreg
    refine .of_map (hring (by omega)) ?_
    rw [canAccess_core, Bool.and_eq_true, decide_eq_true_eq]
    simp only [hclear (by omega)]
    cases store <;> simp <;> omega
  | control | table | quantity | aon =>
    rw [hr, Region.holds] at hreg
    refine .good ?_ (hring (by omega))
    rw [canAccess_core]
    simp [hclear (by omega)]
    omega

/-- The checks of an aligned access, whoever makes it. -/
theorem State.memCheck_aligned (h : a.toNat % n = 0) : MapCheck s p store a n (s.memCheck p store a n) := by
  cases p with
  | lane k => exact memCheck_lane h
  | cc c => exact memCheck_core h

theorem State.memCheck_outside (h : a.toNat % n = 0) (hc : ¬ CanAccess s p store a.toNat n) :
    s.memCheck p store a n = some ⟨0x04, 0xFF, some a⟩ := by
  have hm := State.memCheck_aligned (s := s) (p := p) (store := store) h
  generalize s.memCheck p store a n = r at hm ⊢
  cases hm with
  | outside _ => rfl
  | shut h' _ => exact absurd h' hc
  | good h' _ => exact absurd h' hc

theorem State.memCheck_shut (h : a.toNat % n = 0) (hc : CanAccess s p store a.toNat n) (hr : RingShut s p a.toNat) :
    s.memCheck p store a n = some ⟨0x05, 0xFF, some a⟩ := by
  have hm := State.memCheck_aligned (s := s) (p := p) (store := store) h
  generalize s.memCheck p store a n = r at hm ⊢
  cases hm with
  | outside h' => exact absurd hc h'
  | shut _ _ => rfl
  | good _ hr' => exact absurd hr hr'

theorem State.memCheck_good (h : a.toNat % n = 0) (hc : CanAccess s p store a.toNat n) (hr : ¬ RingShut s p a.toNat) :
    s.memCheck p store a n = none := by
  have hm := State.memCheck_aligned (s := s) (p := p) (store := store) h
  generalize s.memCheck p store a n = r at hm ⊢
  cases hm with
  | outside h' => exact absurd hc h'
  | shut _ hr' => exact absurd hr' hr
  | good _ _ => rfl

end

/-! ## Instructions that fault (R210) -/

section
variable {s : State} {p : Proc} {a : Fin 32} {imm : BitVec 16} {c : Instr} {t : Trap} {ea : Word}
  (hea : valS (s.bankOf p) a + BitVec.ofInt 32 imm.toInt = ea)
include hea

/-- The effective address is the statement's. -/
theorem Regs.ea_eq : (Regs.mk (s.bankOf p) []).ea a imm = ea := hea

theorem load_faults {n : Nat} {bad : Bool} {wr : Regs → Nat → Regs} (he : s.Executes p 2)
    (hx : exec c s = .next (s.load p a imm n bad wr)) (hc : s.memCheck p false ea n = some t) : Faults c p s t := by
  refine Faults.of_instr he hx ?_
  simp only [Regs.ea_eq hea, hc]

/-- An uncorrectable error is met where the checks pass. -/
theorem load_error {n : Nat} {wr : Regs → Nat → Regs} (he : s.Executes p 2)
    (hx : exec c s = .next (s.load p a imm n true wr)) (hc : s.memCheck p false ea n = none) :
    Faults c p s ⟨0x0A, 0xFF, some ea⟩ := by
  refine Faults.of_instr he hx ?_
  simp only [Regs.ea_eq hea, hc, if_true]

theorem st_faults {d : Fin 32} (he : s.Executes p 1) (hc : s.memCheck p true ea 4 = some t) :
    Faults (.st p d a imm) p s t := by
  refine Faults.of_instr he rfl ?_
  simp only [Regs.ea_eq hea, hc]

theorem vst_faults {d : Fin 16} (he : s.Executes p 1) (hc : s.memCheck p true ea 16 = some t) :
    Faults (.vst p d a imm) p s t := by
  refine Faults.of_instr he rfl ?_
  simp only [Regs.ea_eq hea, hc]

end

/-- A store never meets the capture ring: the map has it read-only (R35). -/
theorem not_ringShut_of_store {s : State} {p : Proc} {x n : Nat} (h : CanAccess s p true x n) : ¬ RingShut s p x := by
  rintro ⟨⟨c, rfl⟩, hlo, hhi, _⟩
  obtain ⟨hst, _⟩ | ⟨hlo', _⟩ | ⟨hlo', _⟩ := h
  · cases hst
  · omega
  · omega

/-- Settles O13: the checks come in their order, and an uncorrectable error where all of them pass. -/
theorem memoryFaultsInOrder : Obligations.MemoryFaultsInOrder := by
  intro s p a d v imm bad h2 h1 ea fault
  have of_load {c : Instr} {n : Nat} {wr : Regs → Nat → Regs} (hx : exec c s = .next (s.load p a imm n bad wr)) :
      fault c false n bad := by
    refine ⟨fun h => ?_, fun h hc => ?_, fun h hc hr => ?_, fun h hc hr hbad => ?_⟩
    · exact load_faults rfl h2 hx (State.memCheck_unaligned h)
    · exact load_faults rfl h2 hx (State.memCheck_outside h hc)
    · exact load_faults rfl h2 hx (State.memCheck_shut h hc hr)
    · exact load_error rfl h2 (hbad ▸ hx) (State.memCheck_good h hc hr)
  have of_store {c : Instr} {n : Nat} (hf : ∀ t, s.memCheck p true ea n = some t → Faults c p s t) :
      fault c true n false :=
    ⟨fun h => hf _ (State.memCheck_unaligned h), fun h hc => hf _ (State.memCheck_outside h hc),
      fun _ hc hr => absurd hr (not_ringShut_of_store hc), nofun⟩
  exact ⟨of_load rfl, of_load rfl, of_store fun _ => st_faults rfl h1, of_store fun _ => vst_faults rfl h1⟩

/-! ## Words in memory (R183) -/

theorem toNat_append_add {m n : Nat} (x : BitVec m) (y : BitVec n) : (x ++ y).toNat = 2 ^ n * x.toNat + y.toNat := by
  rw [BitVec.toNat_append, ← Nat.shiftLeft_add_eq_or_of_lt y.isLt, Nat.shiftLeft_eq, Nat.mul_comm]

/-- Little-endian bytes spell the word that they join to. -/
theorem leNat_four (b0 b1 b2 b3 : Byte) : BitVec.ofNat 32 (leNat [b0, b1, b2, b3]) = b3 ++ b2 ++ b1 ++ b0 := by
  refine BitVec.eq_of_toNat_eq ?_
  have hlt := (b3 ++ b2 ++ b1 ++ b0).isLt
  simp only [toNat_append_add] at hlt ⊢
  simp only [leNat, BitVec.toNat_ofNat]
  omega

theorem State.word_eq_wordAt (s : State) (x : Nat) : s.word x = wordAt s x := leNat_four ..

/-- The bytes of a word, joined. -/
theorem leBytes_joined (w : Word) : ∃ b0 b1 b2 b3, leBytes 4 w.toNat = [b0, b1, b2, b3] ∧ b3 ++ b2 ++ b1 ++ b0 = w := by
  refine ⟨_, _, _, _, rfl, ?_⟩
  rw [← leNat_four]
  refine BitVec.eq_of_toNat_eq ?_
  have hw := w.isLt
  simp only [leNat, BitVec.toNat_ofNat]
  omega

/-- A stored word reads back. -/
theorem wordAt_setWord (s : State) (x : Nat) (w : Word) (hx : 0x80000 ≤ x) : wordAt (s.setWord x w) x = w := by
  obtain ⟨b0, b1, b2, b3, hb, hw⟩ := leBytes_joined w
  have hbyte (i : Nat) (hi : i < 4) : (s.setWord x w).byte (x + i) = [b0, b1, b2, b3][i] := by
    rw [State.setWord, hb]
    exact s.byte_setBytes_same x i [b0, b1, b2, b3] hi (by omega)
  have h0 : (s.setWord x w).byte x = b0 := hbyte 0 (by omega)
  rw [wordAt, hbyte 3 (by omega), hbyte 2 (by omega), hbyte 1 (by omega), h0]
  exact hw

/-- A stored word leaves every other byte alone. -/
theorem byte_setWord_other (s : State) (x b : Nat) (w : Word) (h : b < x ∨ x + 4 ≤ b) :
    (s.setWord x w).byte b = s.byte b := s.byte_setBytes_other x b _ h

/-- A word whose bytes are unchanged is unchanged. -/
theorem wordAt_congr {s t : State} {x : Nat} (h : ∀ b, x ≤ b → b < x + 4 → t.byte b = s.byte b) :
    wordAt t x = wordAt s x := by
  simp only [wordAt, h _ (Nat.le_add_right x _) (Nat.add_lt_add_left (by omega : 3 < 4) x),
    h _ (Nat.le_add_right x _) (Nat.add_lt_add_left (by omega : 2 < 4) x),
    h _ (Nat.le_add_right x _) (Nat.add_lt_add_left (by omega : 1 < 4) x), h x (Nat.le_refl x) (by omega)]

/-! ## Words stored upward (R210, R247) -/

/-- The whole span of a store lies in one region that bytes are stored in. -/
def Spans (p : Proc) (a n : Nat) : Prop :=
  match p with
  | .lane _ => a + n ≤ 0x30000
  | .cc _ => 0x80000 ≤ a

theorem spans_of_canAccess {s : State} {p : Proc} {a n : Nat} (hn : 0x30000 % n = 0) (ha : a % n = 0)
    (h : CanAccess s p true a n) : Spans p a n := by
  cases p with
  | lane k =>
    obtain ⟨hlt, _⟩ | ⟨hst, _⟩ := h
    · obtain ⟨q, hq⟩ := Nat.dvd_of_mod_eq_zero hn
      obtain ⟨r, rfl⟩ := Nat.dvd_of_mod_eq_zero ha
      rw [hq] at hlt
      have hr : r + 1 ≤ q := Nat.lt_of_mul_lt_mul_left hlt
      have hspan := Nat.mul_le_mul_left n hr
      rw [Nat.mul_succ, ← hq] at hspan
      exact hspan
    · cases hst
  | cc c =>
    obtain ⟨hst, _⟩ | ⟨hlo, _⟩ | ⟨hlo, _⟩ := h
    · cases hst
    · exact (by omega : 0x80000 ≤ a)
    · exact (by omega : 0x80000 ≤ a)

/-- An address within the span has its place in the core's view (R35). -/
theorem procAddr_add {p : Proc} {a n i : Nat} (h : Spans p a n) (hi : i < n) : procAddr p (a + i) = place p a + i := by
  cases p with
  | lane k =>
    have hlt : a + i < 0x30000 := by simp only [Spans] at h; omega
    simp only [procAddr, laneAddr, place, if_pos hlt, if_pos (show a < 0x30000 by omega), Option.getD_some]
    omega
  | cc c => rfl

theorem place_ram {p : Proc} {a n : Nat} (h : Spans p a n) : 0x80000 ≤ place p a := by
  cases p with
  | lane k => simp only [place]; split <;> omega
  | cc c => exact h

/-- Words stored at ascending addresses. -/
def State.storeWords (s : State) (p : Proc) (a : Nat) : List Word → State
  | [] => s
  | w :: ws => (s.storeWord p a w).storeWords p (a + 4) ws

section
variable {s m : State} {p : Proc} {a x b : Nat} {w : Word} {ws : List Word}

@[simp] theorem logStore_byte : (s.logStore p a w).byte b = s.byte b := by
  cases p <;> rfl

theorem logStore_frame : Same [.mem, .lanes] [] s (s.logStore p a w) := by
  cases p with
  | lane n => exact State.setLane_frame _ _ s n _ (by decide)
  | cc c => exact .refl ..

theorem storeWord_frame : Same [.mem, .lanes] [] s (s.storeWord p a w) :=
  (State.setBytes_frame _ _ s _ _ (by decide)).then logStore_frame

theorem storeWord_byte_other (hx : procAddr p a = x) (h : b < x ∨ x + 4 ≤ b) :
    (s.storeWord p a w).byte b = s.byte b := by
  rw [State.storeWord, logStore_byte, hx]
  exact byte_setWord_other s x b w h

theorem storeWord_wordAt (hx : procAddr p a = x) (hr : 0x80000 ≤ x) : wordAt (s.storeWord p a w) x = w := by
  rw [State.storeWord, hx, wordAt_congr fun b _ _ => logStore_byte (b := b), wordAt_setWord s x w hr]

theorem storeWord_lane_other {n : Fin 5} (h : p ≠ .lane n) : (s.storeWord p a w).lane n = s.lane n := by
  cases p with
  | lane k => exact State.lane_setLane_other _ (fun e => h (congrArg Proc.lane e)) _
  | cc c => rfl

theorem storeWord_lane_same {n : Fin 5} : (s.storeWord (.lane n) a w).lane n =
    { s.lane n with log := (s.lane n).log ++ [(a, w)] } := State.lane_setLane_same ..

/-- `Stored` with the place of the words named: from s to m, words were stored from x upward, and noted from a upward. -/
structure StoredAt (p : Proc) (x a : Nat) (ws : List Word) (s m : State) : Prop where
  words : ∀ i (h : i < ws.length), wordAt m (x + 4 * i) = ws[i]
  bytes : ∀ b, b < x ∨ x + 4 * ws.length ≤ b → m.byte b = s.byte b
  frame : Same [.mem, .lanes] [] s m
  others : ∀ n, p ≠ .lane n → m.lane n = s.lane n
  noted : ∀ n, p = .lane n → m.lane n = { s.lane n with
    log := (s.lane n).log ++ (List.range ws.length).map (fun i => (a + 4 * i, ws.getD i 0)) }

theorem StoredAt.stored (h : StoredAt p (place p a) a ws s m) : Claims.Stored p a ws s m :=
  ⟨h.words, h.bytes, h.frame, h.others, h.noted⟩

theorem StoredAt.nil : StoredAt p x a [] s s :=
  ⟨nofun, fun _ _ => rfl, .refl .., fun _ _ => rfl, fun n _ => by simp⟩

/-- One word, and the rest behind it. -/
theorem StoredAt.cons (hx : procAddr p a = x) (hr : 0x80000 ≤ x)
    (h : StoredAt p (x + 4) (a + 4) ws (s.storeWord p a w) m) : StoredAt p x a (w :: ws) s m := by
  refine ⟨fun i hi => ?_, fun b hb => ?_, storeWord_frame.then h.frame, fun n hn => ?_, fun n hn => ?_⟩
  · cases i with
    | zero =>
      have hkept : wordAt m x = wordAt (s.storeWord p a w) x := wordAt_congr fun b _ hb => h.bytes b (.inl hb)
      exact hkept.trans (storeWord_wordAt hx hr)
    | succ i =>
      have hword := h.words i (by simpa using hi)
      rwa [show x + 4 + 4 * i = x + 4 * (i + 1) by omega] at hword
  · rw [List.length_cons] at hb
    rw [h.bytes b (by omega), storeWord_byte_other hx (by omega)]
  · rw [h.others n hn, storeWord_lane_other hn]
  · subst hn
    rw [h.noted n rfl, storeWord_lane_same, List.length_cons, List.range_succ_eq_map]
    simp [Function.comp_def, show ∀ i, a + 4 + 4 * i = a + 4 * (i + 1) from fun i => by omega]

/-- Words stored upward are stored, and nothing else is. -/
theorem storeWords_stored (hr : 0x80000 ≤ x) (hx : ∀ i < 4 * ws.length, procAddr p (a + i) = x + i) :
    StoredAt p x a ws s (s.storeWords p a ws) := by
  induction ws generalizing s a x with
  | nil => exact .nil
  | cons w ws ih =>
    rw [List.length_cons] at hx
    refine .cons (hx 0 (by omega)) hr (ih (by omega) fun i hi => ?_)
    rw [Nat.add_assoc, hx (4 + i) (by omega), Nat.add_assoc]

/-- A store that passes its checks stores its words. -/
theorem storeWords_of_canAccess {s₁ : State} {n : Nat} (hw : 4 * ws.length = n) (hn : 0x30000 % n = 0) (ha : a % n = 0)
    (h : CanAccess s₁ p true a n) : Claims.Stored p a ws s (s.storeWords p a ws) := by
  have hs := spans_of_canAccess hn ha h
  exact (storeWords_stored (place_ram hs) fun i hi => procAddr_add hs (hw ▸ hi)).stored

end

/-! ## Loads and stores that pass their checks -/

section
variable {s : State} {p : Proc} {a : Fin 32} {imm : BitVec 16} {c : Instr} {ea : Word}
  (hea : valS (s.bankOf p) a + BitVec.ofInt 32 imm.toInt = ea)
include hea

theorem load_acts {n : Nat} {wr : Regs → Nat → Regs} {b : Bank} (he : s.Executes p 2)
    (hx : exec c s = .next (s.load p a imm n false wr)) (hc : s.memCheck p false ea n = none)
    (hb : (wr ⟨s.bankOf p, []⟩ (procAddr p ea.toNat)).bank = b) : Computes c p 2 s b := by
  refine Acts.of_instr he hx ?_ hb
  simp only [Regs.ea_eq hea, hc, Bool.false_eq_true, if_false]

theorem st_acts {d : Fin 32} (he : s.Executes p 1) (hc : s.memCheck p true ea 4 = none) :
    Acts (.st p d a imm) p 1 s (s.storeWords p ea.toNat [valS (s.bankOf p) d]) (s.bankOf p) := by
  refine Acts.of_instr (r := ⟨s.bankOf p, [.mem ea.toNat (valS (s.bankOf p) d).toNat]⟩) he rfl ?_ rfl
  simp only [Regs.ea_eq hea, hc, Regs.sr_eq, List.nil_append]
  rfl

theorem vst_acts {d : Fin 16} (he : s.Executes p 1) (hc : s.memCheck p true ea 16 = none) :
    Acts (.vst p d a imm) p 1 s (s.storeWords p ea.toNat ((List.finRange 4).map (el (s.bankOf p).v[d]))) (s.bankOf p) := by
  refine Acts.of_instr (r := ⟨s.bankOf p, (List.range 4).map fun i =>
    .mem (ea.toNat + 4 * i) (elem (s.bankOf p).v[d] i).toNat⟩) he rfl ?_ rfl
  simp only [Regs.ea_eq hea, hc, List.nil_append]
  rfl

end

/-- Element i of a vector is the one it was made with. -/
theorem el_vec4 (f : Fin 4 → Word) (i : Fin 4) : el (vec4 (f 0) (f 1) (f 2) (f 3)) i = f i := by
  refine BitVec.eq_of_toNat_eq ?_
  have h0 := (f 0).isLt
  have h1 := (f 1).isLt
  have h2 := (f 2).isLt
  have h3 := (f 3).isLt
  simp only [el, vec4, BitVec.extractLsb'_toNat, toNat_append_add, Nat.shiftRight_eq_div_pow]
  match i with
  | 0 => change _ / 1 % 2 ^ 32 = _; omega
  | 1 => change _ / 2 ^ 32 % 2 ^ 32 = _; omega
  | 2 => change _ / 2 ^ 64 % 2 ^ 32 = _; omega
  | 3 => change _ / 2 ^ 96 % 2 ^ 32 = _; omega

/-- A load's address has its place in the core's view (R35). -/
theorem procAddr_of_canAccess {s : State} {p : Proc} {a n : Nat} (h : CanAccess s p false a n) : procAddr p a = place p a := by
  cases p with
  | cc c => rfl
  | lane k =>
    unfold procAddr laneAddr place
    obtain ⟨hlt, _⟩ | ⟨_, htable⟩ := h
    · dsimp only
      rw [if_pos hlt, if_pos hlt, Option.getD_some]
    · have hlt : ¬ a < 0x30000 := by omega
      dsimp only
      rw [if_neg hlt, if_pos htable, if_neg hlt, Option.getD_some]

/-- Settles O12: what passes its checks reads the words in their place, or stores them upward from it. -/
theorem loadsAndStores : Obligations.LoadsAndStores := by
  intro s p a imm B ea m
  refine ⟨fun d he h4 hc hr => ?ld, fun d he h16 hc hr => ?vld, fun d he h4 hc => ?st, fun d he h16 hc => ?vst⟩
  case ld =>
    refine load_acts (ea := ea) rfl he rfl (State.memCheck_good h4 hc hr) ?_
    rw [Regs.bank_setS, State.word_eq_wordAt, procAddr_of_canAccess hc]
  case vld =>
    refine ⟨vec4 (wordAt s m) (wordAt s (m + 4)) (wordAt s (m + 8)) (wordAt s (m + 12)),
      el_vec4 fun i => wordAt s (m + 4 * i.val), load_acts (ea := ea) rfl he rfl (State.memCheck_good h16 hc hr) ?_⟩
    rw [Regs.bank_setV, procAddr_of_canAccess hc]
    simp only [State.word_eq_wordAt]
    rfl
  case st =>
    have hm := State.memCheck_good h4 hc (not_ringShut_of_store hc)
    exact ⟨_, storeWords_of_canAccess (n := 4) (ws := [_]) rfl rfl h4 hc, st_acts rfl he hm⟩
  case vst =>
    have hm := State.memCheck_good h16 hc (not_ringShut_of_store hc)
    exact ⟨_, storeWords_of_canAccess (n := 16) (ws := [_, _, _, _]) rfl rfl h16 hc, vst_acts rfl he hm⟩

end Sys2Proof.Machine

namespace Sys2Proof.Machine
open Sys2Proof.Claims

/-! SUPPORT. The unit instructions of a processor: their checks in order, a read served to it alone, a write at once or
queued. -/

/-- The checks of a unit instruction in their order (R219), each as the trap it answers. -/
theorem State.busCheck_order {s : State} {who u idx : Nat} {w : Option Nat} :
    (s.part.hasUnit u = false → s.busCheck who u idx w = some ⟨0x0E, u, none⟩) ∧
    (s.part.hasUnit u = true → s.busDefined u idx = false → s.busCheck who u idx w = some ⟨0x0D, u, none⟩) ∧
    (s.part.hasUnit u = true → s.busDefined u idx = true → s.leaseOk who u idx = false →
      s.busCheck who u idx w = some ⟨0x05, u, none⟩) ∧
    (s.part.hasUnit u = true → s.busDefined u idx = true → s.leaseOk who u idx = true →
      ∀ x, w = some x → s.level < s.levelGuard u idx x → s.busCheck who u idx w = some ⟨0x09, u, none⟩) := by
  refine ⟨State.busCheck_absent, State.busCheck_undefined, fun h hd hl => ?_, fun h hd hl x hw hlev => ?_⟩
  · rw [State.busCheck_there h hd, State.guardFault_lease hl, Option.map_some]
  · rw [State.busCheck_there h hd, hw, State.guardFault_level hl hlev, Option.map_some]

/-- A processor served for itself is served by the read alone (R195). -/
theorem State.serve_alone {s : State} {p : Proc} (h : ServedAlone s p) (f : State → Word × State) : s.serve p f = f s := by
  cases p with
  | cc c => rfl
  | lane n =>
    obtain ⟨hr, hi⟩ := h n rfl
    obtain ⟨hp, hs⟩ : s.inPair n = false ∧ s.standIn n = false := by simpa [State.roped] using hr
    simp [State.serve, hi, hp, hs, State.alsoServed]

/-- A processor outside the roped set writes at once (R195). -/
theorem State.unitPost_unroped {s : State} {p : Proc} (h : ∀ n, p = .lane n → s.roped n = false) (u idx : Nat)
    (op : WriteOp) (v : Word) :
    s.unitPost p u idx op v =
      s.busWrite (s.copyOf p) (s.holder p) u idx (s.opValue (s.copyOf p) u idx op v.toNat) := by
  cases p with
  | cc c => rfl
  | lane n => simp [State.unitPost, h n rfl]

/-- A lane of the roped set queues its write (R195). -/
theorem State.unitPost_roped {s : State} {n : Fin 5} (h : s.roped n = true) (u idx : Nat) (op : WriteOp) (v : Word) :
    s.unitPost (.lane n) u idx op v = s.setLane n { s.lane n with wq := (s.lane n).wq ++ [⟨u, idx, op, v⟩] } := by
  simp [State.unitPost, h]

section
variable {s : State} {p : Proc} {d a : Fin 32} {unit reg : Fin 256} {c : Instr} {t : Trap} {i : Nat}
  (hi : reg.val + (valS (s.bankOf p) a).toNat = i)
include hi

/-- UR faults as its checks say. -/
theorem ur_faults (he : s.Executes p 2) (hc : s.busCheck (s.holder p) unit i none = some t) :
    Faults (.ur p d unit reg a) p s t := by
  refine Faults.of_instr he rfl ?_
  simp only [Regs.index, Regs.sr_eq, hi, hc]

/-- UR reads the register, with the effects of reading it. -/
theorem ur_acts (he : s.Executes p 2) (ha : ServedAlone s p) (hc : s.busCheck (s.holder p) unit i none = none) :
    let r := s.busRead (s.copyOf p) unit i
    Acts (.ur p d unit reg a) p 2 s r.2 (putS (s.bankOf p) d (BitVec.ofNat 32 r.1)) := by
  refine Acts.of_instr he rfl ?_ (Regs.bank_setS ⟨s.bankOf p, []⟩ d _)
  simp only [Regs.index, Regs.sr_eq, hi, hc, State.serve_alone ha]

/-- UW, USET and UCLR fault as their checks of the word to be written say. -/
theorem unitOp_faults {op : WriteOp} (he : s.Executes p 1) (hx : exec c s = .next (s.unitOp p d unit reg a op))
    (hc : s.busCheck (s.holder p) unit i
      (some (s.opValue (s.copyOf p) unit i op (valS (s.bankOf p) d).toNat)) = some t) : Faults c p s t := by
  refine Faults.of_instr he hx ?_
  simp only [Regs.index, Regs.sr_eq, hi, hc]

/-- UW, USET and UCLR hand their word over. -/
theorem unitOp_acts {op : WriteOp} (he : s.Executes p 1) (hx : exec c s = .next (s.unitOp p d unit reg a op))
    (hc : s.busCheck (s.holder p) unit i
      (some (s.opValue (s.copyOf p) unit i op (valS (s.bankOf p) d).toNat)) = none) :
    Acts c p 1 s (s.unitPost p unit i op (valS (s.bankOf p) d)) (s.bankOf p) := by
  refine Acts.of_instr (r := ⟨s.bankOf p, [writeSig unit i op (valS (s.bankOf p) d)]⟩) he hx ?_ rfl
  simp only [Regs.index, Regs.sr_eq, hi, hc, List.nil_append]

end

/-- The checks of the four unit instructions are those of the register they name. -/
theorem unitAccessFaults : Claims.UnitAccessFaults := by
  intro s p d unit reg a h2 h1 i v old fault
  have of_checks {c : Instr} {w : Option Nat}
      (hc : ∀ t, s.busCheck (s.holder p) unit i w = some t → Faults c p s t) : fault c w := by
    obtain ⟨habsent, hundef, hlease, hlevel⟩ := State.busCheck_order (s := s) (who := s.holder p) (u := unit) (idx := i) (w := w)
    exact ⟨fun h => hc _ (habsent h), fun h hd => hc _ (hundef h hd), fun h hd hl => hc _ (hlease h hd hl),
      fun h hd hl x hw hx => hc _ (hlevel h hd hl x hw hx)⟩
  exact ⟨of_checks fun _ => ur_faults rfl h2, of_checks fun _ => unitOp_faults (op := .write) rfl h1 rfl,
    of_checks fun _ => unitOp_faults (op := .set) rfl h1 rfl, of_checks fun _ => unitOp_faults (op := .clear) rfl h1 rfl⟩

/-- A read served alone, and the three writes by who makes them. -/
theorem unitAccess : Claims.UnitAccess := by
  intro s p d unit reg a B i v b old
  refine ⟨ur_acts rfl, ?_⟩
  intro h1 does
  have of_op {c : Instr} (op : WriteOp) (hx : exec c s = .next (s.unitOp p d unit reg a op)) :
      does c op (s.opValue b unit i op v.toNat) := by
    intro hc
    have hact : Acts c p 1 s (s.unitPost p unit i op v) B := unitOp_acts rfl h1 hx hc
    refine ⟨fun n hp hr => ?_, fun hn => ?_⟩
    · subst hp
      rwa [State.unitPost_roped hr] at hact
    · rwa [State.unitPost_unroped hn] at hact
  exact ⟨of_op .write rfl, of_op .set rfl, of_op .clear rfl⟩

/-- Settles O15: the checks in their order, then the effect of a read and of the three writes. -/
theorem unitLoadsAndStores : Obligations.UnitLoadsAndStores := ⟨unitAccessFaults, unitAccess⟩

end Sys2Proof.Machine

namespace Sys2Proof.Machine
open Sys2Proof.Claims

/-! SUPPORT. What an interrupt source's arrival and a fault record leave in the registers. -/

/-! ## One-bit fields and bits of fields -/

theorem ofB_mod (b : Bool) : ofB b % 2 ^ 1 = ofB b := by cases b <;> rfl

theorem ofB_bne_zero (b : Bool) : (ofB b != 0) = b := by cases b <;> rfl

/-- A one-bit field reads back what was written. -/
theorem State.on_flag_same (s : State) {f : Fld} (b : Bool) (hw : f.w = 1) : (s.flag f b).on f = b := by
  rw [State.on, State.get_flag, if_pos rfl, hw, ofB_mod, ofB_bne_zero]

theorem State.on_of_get {s t : State} {f : Fld} (h : t.get f = s.get f) : t.on f = s.on f := by
  simp only [State.on, h]

theorem State.on_flag_other (s : State) {f g : Fld} (b : Bool) (h : f ≠ g) : (s.flag f b).on g = s.on g :=
  State.on_of_get (State.get_set_other s h _)

/-- A frame leaves the fields it does not name alone. -/
theorem Same.get {cs : List Comp} {fs : List Fld} {s t : State} (h : Same cs fs s t) {f : Fld} (hf : f ∉ fs) :
    t.get f = s.get f := h.1 f hf

/-- A bit set in a number is set. -/
theorem bitOf_withBit_true (x i : Nat) : bitOf (withBit x i true) i = true := by
  unfold withBit
  split
  · next h => simpa using h
  · next h =>
    simp only [bitOf, beq_iff_eq] at h
    simp only [bitOf, if_true, beq_iff_eq, Nat.add_div_right _ (Nat.two_pow_pos i)]
    omega

/-- A bit below the width outlasts the cut to it. -/
theorem bitOf_mod (x : Nat) {i w : Nat} (h : i < w) : bitOf (x % 2 ^ w) i = bitOf x i := by
  simp only [bitOf_eq_testBit, Nat.testBit_mod_two_pow, h, decide_true, Bool.true_and]

/-- A bit that is set in a field reads as set. -/
theorem State.bit_setBit_same (s : State) {f : Fld} {i : Nat} (h : i < f.w) : (s.setBit f i true).bit f i = true := by
  rw [State.bit, State.get_setBit, if_pos rfl, bitOf_mod _ h, bitOf_withBit_true]

/-! ## Arrivals (R407) -/

/-- The count of a source after one arrival. -/
theorem State.countArrival_get (s : State) (b : Nat) :
    (s.get (IRQ.SCNT.COUNT b) < 255 →
      (s.countArrival b).get (IRQ.SCNT.COUNT b) = s.get (IRQ.SCNT.COUNT b) + 1) ∧
    (s.get (IRQ.SCNT.COUNT b) = 255 →
      (s.countArrival b).get (IRQ.SCNT.COUNT b) = 255 ∧ (s.countArrival b).on (IRQ.SCNT.SAT b) = true) := by
  refine ⟨fun h => ?_, fun h => ?_⟩
  · rw [State.countArrival, if_neg (by omega), State.get_set_same]
    exact Nat.mod_eq_of_lt (show _ < 256 by omega)
  · rw [State.countArrival, if_pos h]
    exact ⟨(State.get_set_other s (by nofun) _).trans h, State.on_flag_same s true rfl⟩

/-- An arrival of a source that the part has is one. -/
theorem State.arrive_arrived (s : State) {src : Nat} (h : s.part.hasSource src = true) : Arrived src s (s.arrive src) := by
  have hpend : ((src - 0x10) % 32) < 32 := Nat.mod_lt _ (by omega)
  obtain ⟨hnext, hfull⟩ := (s.setBit (IRQ.SPEND.PEND ((src - 0x10) / 32)) ((src - 0x10) % 32) true).countArrival_get src
  have hcount : (s.setBit (IRQ.SPEND.PEND ((src - 0x10) / 32)) ((src - 0x10) % 32) true).get (IRQ.SCNT.COUNT src) =
      s.get (IRQ.SCNT.COUNT src) := State.get_set_other s (by simp [IRQ.SPEND.PEND, IRQ.SCNT.COUNT]) _
  rw [hcount] at hnext hfull
  rw [State.arrive, if_pos h]
  refine ⟨?_, hnext, hfull⟩
  have hkept := State.countArrival_frame [] (P := (· ∈ [IRQ.SCNT.COUNT src, IRQ.SCNT.SAT src]))
    (s.setBit (IRQ.SPEND.PEND ((src - 0x10) / 32)) ((src - 0x10) % 32) true) src (by simp) (by simp)
  rw [State.bit, Same.get hkept (by simp [IRQ.SPEND.PEND, IRQ.SCNT.COUNT, IRQ.SCNT.SAT])]
  exact State.bit_setBit_same s hpend

/-- An arrival lies between two states whose registers of the source are those of the arrival's own. -/
theorem Arrived.congr {src : Nat} {s s' t t' : State} (h : Arrived src s t) (hs : ∀ f ∈ arrivalOf src, s.get f = s'.get f)
    (ht : ∀ f ∈ arrivalOf src, t'.get f = t.get f) : Arrived src s' t' := by
  have hpend := ht (IRQ.SPEND.PEND ((src - 0x10) / 32)) (by simp [arrivalOf])
  have hcount := ht (IRQ.SCNT.COUNT src) (by simp [arrivalOf])
  have hsat := ht (IRQ.SCNT.SAT src) (by simp [arrivalOf])
  have hold := hs (IRQ.SCNT.COUNT src) (by simp [arrivalOf])
  simpa only [Arrived, State.bit, State.on, hpend, hcount, hsat, hold] using h

/-- An arrival leaves every register but the source's alone. -/
theorem State.arrive_get_other (s : State) {src : Nat} {f : Fld} (h : f ∉ arrivalOf src) : (s.arrive src).get f = s.get f :=
  Same.get (State.arrive_frame [] s src fun _ h => h) h

/-- A status bit that was clear sets, and its source arrives. -/
theorem State.raise_clear {s : State} {f : Fld} (h : s.on f = false) (src : Nat) :
    s.raise f src = (s.flag f true).arrive src := by
  simp only [State.raise, h, Bool.false_eq_true, if_false]

theorem State.raise_set {s : State} {f : Fld} (h : s.on f = true) (src : Nat) : s.raise f src = s := by
  simp only [State.raise, h, if_true]

/-- A status bit raised is set. -/
theorem State.on_raise (s : State) {f : Fld} {src : Nat} (hw : f.w = 1) (hf : f ∉ arrivalOf src) :
    (s.raise f src).on f = true := by
  cases h : s.on f with
  | false => rw [State.raise_clear h, State.on_of_get (State.arrive_get_other _ hf), State.on_flag_same s true hw]
  | true => rw [State.raise_set h, h]

/-- A status bit that sets lets its source arrive. -/
theorem State.raise_arrived {s : State} {f : Fld} {src : Nat} (hp : s.part.hasSource src = true) (hf : f ∉ arrivalOf src)
    (h : s.on f = false) : Arrived src s (s.raise f src) := by
  rw [State.raise_clear h]
  refine ((s.flag f true).arrive_arrived hp).congr (fun g hg => ?_) fun _ _ => rfl
  exact State.get_set_other s (by rintro rfl; exact hf hg) _

/-! ## The fault record (R41) -/

theorem State.bump_get_other (s : State) {c t f : Fld} (h : f ∉ [c, t]) : (s.bump c t).get f = s.get f :=
  Same.get (State.bump_frame [] s c t (by simp) (by simp)) h

/-- A fault leaves every register but its record and source alone. -/
theorem State.recordFault_get_other (s : State) {who code unit pc : Nat} {f : Fld} (h : f ∉ faultFields) :
    (s.recordFault who code unit pc).get f = s.get f :=
  Same.get (State.recordFault_frame [] s who code unit pc fun _ h => h) h

/-- Where no fault is recorded, this one is written down. -/
theorem State.recordFault_of_clear {s : State} (h : s.on SYS.FAULT.VALID = false) (who code unit pc : Nat) :
    s.recordFault who code unit pc =
      (((((((s.bump SYS.FCOUNT.COUNT SYS.FCOUNT.SAT).set SYS.FAULT.UNIT unit).set SYS.FAULT.WHO who).set SYS.FAULT.CODE
        code).set2 SYS.FGRAINLO.GLO SYS.FGRAINHI.GHI (s.bump SYS.FCOUNT.COUNT SYS.FCOUNT.SAT).clock.grain).set
        SYS.FPC.PC pc).flag SYS.FAULT.VALID true).arrive 0x3B := by
  have hb : (s.bump SYS.FCOUNT.COUNT SYS.FCOUNT.SAT).on SYS.FAULT.VALID = false :=
    (State.on_of_get (State.bump_get_other s (by decide))).trans h
  rw [State.recordFault, if_neg (by simp [hb]), State.raise_clear]
  rw [← hb]
  refine State.on_of_get ?_
  simp [State.get_set, State.get_set2, SYS.FAULT.VALID, SYS.FAULT.UNIT, SYS.FAULT.WHO, SYS.FAULT.CODE,
    SYS.FGRAINLO.GLO, SYS.FGRAINHI.GHI, SYS.FPC.PC]

/-- What is written down of a fault, field by field. -/
theorem State.recordFault_get {s : State} (h : s.on SYS.FAULT.VALID = false) (who code unit pc : Nat) {f : Fld}
    (hf : f ∉ arrivalOf 0x3B) : (s.recordFault who code unit pc).get f =
      if SYS.FAULT.VALID = f then 1 else if SYS.FPC.PC = f then pc % 2 ^ 32
      else if SYS.FGRAINHI.GHI = f then s.clock.grain / 2 ^ 32 % 2 ^ 32
      else if SYS.FGRAINLO.GLO = f then s.clock.grain % 2 ^ 32
      else if SYS.FAULT.CODE = f then code % 2 ^ 8 else if SYS.FAULT.WHO = f then who % 2 ^ 8
      else if SYS.FAULT.UNIT = f then unit % 2 ^ 8 else (s.bump SYS.FCOUNT.COUNT SYS.FCOUNT.SAT).get f := by
  have hclock : (s.bump SYS.FCOUNT.COUNT SYS.FCOUNT.SAT).clock = s.clock :=
    (State.bump_frame [] (P := fun _ => True) s _ _ trivial trivial).2 .clock (by decide)
  rw [State.recordFault_of_clear h, State.arrive_get_other _ hf, State.get_flag, State.get_set, State.get_set2,
    State.get_set, State.get_set, State.get_set, hclock]
  rfl

/-- What is written down of a fault, at the widths of its fields. -/
theorem State.recordFault_first {s : State} (h : s.on SYS.FAULT.VALID = false) (who code unit pc : Nat) :
    let u := s.recordFault who code unit pc
    u.on SYS.FAULT.VALID = true ∧ u.get SYS.FAULT.WHO = who % 2 ^ 8 ∧ u.get SYS.FAULT.CODE = code % 2 ^ 8 ∧
    u.get SYS.FAULT.UNIT = unit % 2 ^ 8 ∧ u.get SYS.FPC.PC = pc % 2 ^ 32 := by
  have hget (f : Fld) := State.recordFault_get h who code unit pc (f := f)
  refine ⟨?_, hget _ (by decide), hget _ (by decide), hget _ (by decide), hget _ (by decide)⟩
  rw [State.on, hget _ (by decide)]
  rfl

end Sys2Proof.Machine

namespace Sys2Proof.Machine
open Sys2Proof.Claims

/-! SUPPORT. A fault of a control core: its record, then the entry of the handler or the stop (R41, R198, R199). -/

/-- A memory fault leaves its address (R198). -/
def State.noteAddr (s : State) (c : Nat) (t : Trap) : State :=
  match t.addr with
  | none => s
  | some a => s.set (CSR.FADDR.ADDR c) a.toNat

/-- The entry of the fault handler, for a fault of the instruction at pc (R198). -/
def State.enterFault (s : State) (c : Fin 2) (pc : Word) (code : Nat) : State :=
  let u := ((((s.set (CSR.EPC.PC c) pc.toNat).set (CSR.EFL.FL c) (s.core c).bank.fl.toNat).flag (CSR.ECAUSE.INT c)
    false).set (CSR.ECAUSE.CODE c) code).flag (CSR.STAT.INFAULT c) true
  u.setCore c { u.core c with pc := BitVec.ofNat 32 (256 * u.get (CSR.VEC.BASE c)), loopsMid := [] }

/-- The fields that the entry writes. -/
def entryFields (c : Nat) : List Fld :=
  [CSR.EPC.PC c, CSR.EFL.FL c, CSR.ECAUSE.CODE c, CSR.ECAUSE.INT c, CSR.STAT.INFAULT c]

/-- The fields of a core are no part of a fault record or of an arrival. -/
theorem csr_not_fault {c : Nat} {f : Fld} (h : f.unit = 256 + c) : f ∉ faultFields := by
  have hu : ∀ g ∈ faultFields, g.unit < 256 := by decide
  intro hf
  have := hu f hf
  omega

/-- A core's field is none of those that the entry writes, by its register and bit. -/
theorem csr_not_entry {c : Nat} {f : Fld} (h : (f.idx, f.lo) ∉ [(1, 3), (2, 0), (3, 0), (3, 31), (4, 0)]) :
    f ∉ entryFields c := by
  have hk : ∀ g ∈ entryFields c, (g.idx, g.lo) ∈ [(1, 3), (2, 0), (3, 0), (3, 31), (4, 0)] := by
    simp [entryFields, CSR.EPC.PC, CSR.EFL.FL, CSR.ECAUSE.CODE, CSR.ECAUSE.INT, CSR.STAT.INFAULT]
  exact fun hf => h (hk f hf)

/-- A core's field is no part of a fault of it but for the address. -/
theorem csr_not_record {c : Nat} {f : Fld} (hu : f.unit = 256 + c) (hi : f.idx ≠ 0x0A) :
    f ∉ CSR.FADDR.ADDR c :: faultFields := by
  rintro (_ | ⟨_, hf⟩)
  · exact hi rfl
  · exact csr_not_fault hu hf

section
variable {s : State} {c : Fin 2} {t : Trap}

theorem State.noteAddr_frame : Same [] [CSR.FADDR.ADDR c] s (s.noteAddr c t) := by
  unfold State.noteAddr
  split
  · exact .refl ..
  · exact State.set_frame [] s _ _ (List.mem_singleton_self _)

theorem State.noteAddr_get {a : Word} (h : t.addr = some a) : (s.noteAddr c t).get (CSR.FADDR.ADDR c) = a.toNat := by
  simp only [State.noteAddr, h]
  exact (State.get_set_same ..).trans (Nat.mod_eq_of_lt a.isLt)

@[simp] theorem State.noteAddr_core : (s.noteAddr c t).core c = s.core c := by
  unfold State.noteAddr
  split <;> rfl

/-- Whether a handler runs is read off three fields (R198). -/
theorem State.inHandler_congr {u : State} (h : ∀ f ∈ [CSR.STAT.INFAULT c, CSR.STAT.INNORM c, CSR.STAT.INFAST c],
    u.get f = s.get f) : u.inHandler c = s.inHandler c := by
  have hf := h (CSR.STAT.INFAULT c) (by simp)
  have hn := h (CSR.STAT.INNORM c) (by simp)
  have hx := h (CSR.STAT.INFAST c) (by simp)
  simp only [State.inHandler, State.on, hf, hn, hx]

theorem State.noteAddr_inHandler : (s.noteAddr c t).inHandler c = s.inHandler c :=
  State.inHandler_congr fun f hf => Same.get State.noteAddr_frame (by
    rintro h
    obtain rfl := List.mem_singleton.1 h
    simp [CSR.STAT.INFAULT, CSR.STAT.INNORM, CSR.STAT.INFAST, CSR.FADDR.ADDR] at hf)

theorem State.coreTrap_enters (h : s.inHandler c = false) : s.coreTrap c t =
    ((s.noteAddr c t).recordFault (8 + c) t.code t.unit (s.core c).pc.toNat).enterFault c (s.core c).pc t.code := by
  have hn : ¬ (s.noteAddr c t).inHandler c = true := by rw [State.noteAddr_inHandler, h]; simp
  rw [← State.noteAddr_core (s := s) (t := t)]
  exact if_neg hn

theorem State.coreTrap_stops (h : s.inHandler c = true) : s.coreTrap c t =
    (((s.noteAddr c t).recordFault (8 + c) 0x0C t.unit (s.core c).pc.toNat).setCore c { s.core c with halted := true }).arrive
      0x3A := by
  have hn : (s.noteAddr c t).inHandler c = true := by rw [State.noteAddr_inHandler, h]
  rw [← State.noteAddr_core (s := s) (t := t)]
  exact if_pos hn

end

/-! ## The entry of the handler -/

section
variable {m : State} {c : Fin 2} {pc : Word} {code : Nat}

theorem State.enterFault_frame : Same [.cores] (entryFields c) m (m.enterFault c pc code) := by
  have hset (u : State) {f : Fld} (v : Nat) (h : f ∈ entryFields c) : Same [.cores] (entryFields c) u (u.set f v) :=
    State.set_frame _ u f v h
  exact (((((hset m _ (by simp [entryFields])).then (hset _ _ (by simp [entryFields]))).then
    (hset _ _ (by simp [entryFields]))).then (hset _ _ (by simp [entryFields]))).then
      (hset _ _ (by simp [entryFields]))).then (State.setCore_frame _ _ _ c _ (by decide))

/-- What the entry saves, and that the handler runs (R198). -/
theorem State.enterFault_saves (hc : code < 256) :
    let u := m.enterFault c pc code
    u.get (CSR.EPC.PC c) = pc.toNat ∧ u.get (CSR.EFL.FL c) = (m.core c).bank.fl.toNat ∧
    u.get (CSR.ECAUSE.CODE c) = code ∧ u.on (CSR.ECAUSE.INT c) = false ∧ u.on (CSR.STAT.INFAULT c) = true := by
  simp [State.enterFault, State.on, State.get_flag, State.get_set, CSR.EPC.PC, CSR.EFL.FL, CSR.ECAUSE.CODE,
    CSR.ECAUSE.INT, CSR.STAT.INFAULT, ofB]
  exact ⟨pc.isLt, (m.core c).bank.fl.isLt, hc⟩

/-- The handler begins at the vector, at its own level (R198, R216). -/
theorem State.enterFault_core : (m.enterFault c pc code).core c =
    { m.core c with pc := BitVec.ofNat 32 (256 * m.get (CSR.VEC.BASE c)), loopsMid := [] } := by
  have hbase : CSR.VEC.BASE c ∉ entryFields c := csr_not_entry (by simp [CSR.VEC.BASE])
  rw [← Same.get (State.enterFault_frame (pc := pc) (code := code)) hbase]
  exact State.core_setCore_same ..

theorem State.enterFault_core_other {e : Fin 2} (h : e ≠ c) : (m.enterFault c pc code).core e = m.core e :=
  State.core_setCore_other _ (Ne.symm h) _

end

/-! ## The fault as a whole -/

theorem State.core_congr {s u : State} (h : u.cores = s.cores) (c : Fin 2) : u.core c = s.core c := by
  simp only [State.core, h]

/-- Outside a fast handler a core sees its own bank. -/
theorem State.coreBank_slow {s : State} {c : Fin 2} (h : s.on (CSR.STAT.INFAST c) = false) :
    s.coreBank c = (s.core c).bank := by
  simp only [State.coreBank, h, Bool.false_eq_true, if_false]

/-- In a handler that is not the fast one, the stack is the handlers'. -/
theorem State.coreLoops_mid {s : State} {c : Fin 2} (h : s.on (CSR.STAT.INFAST c) = false) (hh : s.inHandler c = true) :
    s.coreLoops c = (s.core c).loopsMid := by
  simp only [State.coreLoops, h, hh, Bool.false_eq_true, if_false, if_true]

/-- The record of a core's fault, with its address. -/
def State.coreRecord (s : State) (c : Fin 2) (t : Trap) (code : Nat) : State :=
  (s.noteAddr c t).recordFault (8 + c) code t.unit (s.core c).pc.toNat

section
variable {s : State} {c : Fin 2} {t : Trap} {code : Nat}

theorem State.coreRecord_frame : Same [] (CSR.FADDR.ADDR c :: faultFields) s (s.coreRecord c t code) :=
  ((State.noteAddr_frame (c := c) (t := t)).mono (fun _ h => h) (fun _ h => by simp_all)).then
    (State.recordFault_frame [] _ _ _ _ _ fun _ h => List.mem_cons_of_mem _ h)

@[simp] theorem State.coreRecord_core (e : Fin 2) : (s.coreRecord c t code).core e = s.core e :=
  State.core_congr ((State.coreRecord_frame (t := t) (code := code)).2 .cores (by simp)) e

theorem State.coreRecord_first (h : s.on SYS.FAULT.VALID = false) (ht : t.unit < 256) (hc : code < 256) :
    let u := s.coreRecord c t code
    u.on SYS.FAULT.VALID = true ∧ u.get SYS.FAULT.WHO = 8 + c ∧ u.get SYS.FAULT.CODE = code ∧
    u.get SYS.FAULT.UNIT = t.unit ∧ u.get SYS.FPC.PC = (s.core c).pc.toNat := by
  have hn : (s.noteAddr c t).on SYS.FAULT.VALID = false := by
    rw [State.on_of_get (Same.get State.noteAddr_frame _), h]
    simp [SYS.FAULT.VALID, CSR.FADDR.ADDR]
  obtain ⟨hvalid, hwho, hcode, hunit, hpc⟩ := State.recordFault_first hn (8 + c) code t.unit (s.core c).pc.toNat
  rw [Nat.mod_eq_of_lt (by omega)] at hwho hcode hunit
  rw [Nat.mod_eq_of_lt (s.core c).pc.isLt] at hpc
  exact ⟨hvalid, hwho, hcode, hunit, hpc⟩

/-- A fault record is outside the fields of the handlers. -/
theorem fault_not_entry {f : Fld} (h : f.unit < 256) : f ∉ entryFields c := by
  have hu : ∀ g ∈ entryFields c, g.unit = 256 + c := by
    simp [entryFields, CSR.EPC.PC, CSR.EFL.FL, CSR.ECAUSE.CODE, CSR.ECAUSE.INT, CSR.STAT.INFAULT]
  intro hf
  have := hu f hf
  omega

end

section
variable {s : State} {c : Fin 2} {t : Trap}

/-- A fault outside the handlers (R198, R41). -/
theorem coreTrap_outside_handler (hh : s.inHandler c = false) (hcode : t.code < 256) (hunit : t.unit < 256) :
    let p := Proc.cc c
    let u := s.coreTrap c t
    u.get (CSR.EPC.PC c) = (s.pcOf p).toNat ∧ u.get (CSR.EFL.FL c) = (s.core c).bank.fl.toNat ∧
    u.get (CSR.ECAUSE.CODE c) = t.code ∧ u.on (CSR.ECAUSE.INT c) = false ∧ u.on (CSR.STAT.INFAULT c) = true ∧
    u.pcOf p = BitVec.ofNat 32 (256 * s.get (CSR.VEC.BASE c)) ∧ u.loopsOf p = [] ∧
    (u.core c).loopsBase = (s.core c).loopsBase ∧ u.bankOf p = s.bankOf p ∧
    (∀ a, t.addr = some a → u.get (CSR.FADDR.ADDR c) = a.toNat) ∧
    (s.on SYS.FAULT.VALID = false →
      u.on SYS.FAULT.VALID = true ∧ u.get SYS.FAULT.WHO = 8 + c ∧ u.get SYS.FAULT.CODE = t.code ∧
      u.get SYS.FAULT.UNIT = t.unit ∧ u.get SYS.FPC.PC = (s.pcOf p).toNat) ∧
    Same [.cores] ([CSR.EPC.PC c, CSR.EFL.FL c, CSR.ECAUSE.CODE c, CSR.ECAUSE.INT c, CSR.STAT.INFAULT c,
      CSR.FADDR.ADDR c] ++ faultFields) s u := by
  intro p u
  let m := s.coreRecord c t t.code
  have hu : u = m.enterFault c (s.core c).pc t.code := State.coreTrap_enters hh
  have hrec : Same [] (CSR.FADDR.ADDR c :: faultFields) s m := State.coreRecord_frame
  have hent : Same [.cores] (entryFields c) m u := hu ▸ State.enterFault_frame
  have hcore : u.core c =
      { s.core c with pc := BitVec.ofNat 32 (256 * s.get (CSR.VEC.BASE c)), loopsMid := [] } := by
    have hbase : m.get (CSR.VEC.BASE c) = s.get (CSR.VEC.BASE c) :=
      hrec.get (csr_not_record rfl (by simp [CSR.VEC.BASE]))
    rw [hu, State.enterFault_core, State.coreRecord_core, hbase]
  obtain ⟨hepc, hefl, hecode, hint, hinf⟩ := State.enterFault_saves (m := m) (c := c) (pc := (s.core c).pc) hcode
  rw [← hu] at hepc hefl hecode hint hinf
  rw [State.coreRecord_core] at hefl
  have hslow : s.on (CSR.STAT.INFAST c) = false := by simp_all [State.inHandler]
  have hslow' : u.on (CSR.STAT.INFAST c) = false := by
    rw [State.on_of_get (hent.get (csr_not_entry (by simp [CSR.STAT.INFAST]))),
      State.on_of_get (hrec.get (csr_not_record rfl (by simp [CSR.STAT.INFAST]))), hslow]
  have hin : u.inHandler c = true := by simp [State.inHandler, hinf]
  have hsame (f : Fld) (hf : f.unit < 256) : u.get f = m.get f := hent.get (fault_not_entry hf)
  refine ⟨hepc, hefl, hecode, hint, hinf, ?pc, ?loops, ?base, ?bank, ?addr, fun hv => ?first, ?frame⟩
  case pc => simp only [State.pcOf, p, hcore]
  case loops => simp only [State.loopsOf, p, State.coreLoops_mid hslow' hin, hcore]
  case base => rw [hcore]
  case bank => simp only [State.bankOf, p, State.coreBank_slow hslow, State.coreBank_slow hslow', hcore]
  case addr =>
    intro a ha
    rw [hent.get (csr_not_entry (by simp [CSR.FADDR.ADDR])), ← State.noteAddr_get (s := s) (c := c) ha]
    exact State.recordFault_get_other _ (csr_not_fault rfl)
  case first =>
    rw [State.on_of_get (hsame _ (by decide)), hsame _ (by decide), hsame _ (by decide), hsame _ (by decide),
      hsame _ (by decide)]
    exact State.coreRecord_first hv hunit hcode
  case frame =>
    refine (hrec.mono (by simp) fun f hf => ?_).then (hent.mono (fun _ h => h) fun f hf => List.mem_append_left _ ?_)
    · obtain rfl | hf := List.mem_cons.1 hf
      · exact List.mem_append_left _ (by simp)
      · exact List.mem_append_right _ hf
    · exact List.mem_append_left [CSR.FADDR.ADDR c] hf

/-- A fault in a handler (R199). -/
theorem coreTrap_in_handler (hh : s.inHandler c = true) (hunit : t.unit < 256) :
    let u := s.coreTrap c t
    (u.core c).halted = true ∧ u.runs (.cc c) = false ∧
    (s.on SYS.FAULT.VALID = false → u.get SYS.FAULT.CODE = 0x0C ∧ u.get SYS.FAULT.WHO = 8 + c) ∧
    u.bit (IRQ.SPEND.PEND 1) 0x0A = true ∧
    Same [.cores] (CSR.FADDR.ADDR c :: faultFields ++ arrivalOf 0x3A) s u := by
  intro u
  let m := s.coreRecord c t 0x0C
  let w := m.setCore c { s.core c with halted := true }
  have hu : u = w.arrive 0x3A := State.coreTrap_stops hh
  have hrec : Same [] (CSR.FADDR.ADDR c :: faultFields) s m := State.coreRecord_frame
  have harr : Same [] (arrivalOf 0x3A) w u := hu ▸ State.arrive_frame [] w 0x3A fun _ h => h
  have hhalt : (u.core c).halted = true := by
    rw [State.core_congr (harr.2 .cores (by simp)) c, State.core_setCore_same]
  refine ⟨hhalt, ?_, fun hv => ?_, ?_, ?_⟩
  · simp [State.runs, hhalt]
  · obtain ⟨_, hwho, hcode, _⟩ := State.coreRecord_first (c := c) hv hunit (show 0x0C < 256 by omega)
    rw [harr.get (by decide), harr.get (by decide)]
    exact ⟨hcode, hwho⟩
  · obtain ⟨hpend, _⟩ := w.arrive_arrived (src := 0x3A) rfl
    exact hu ▸ hpend
  · have hset : Same [.cores] [] m w := State.setCore_frame _ _ m c _ (by simp)
    refine ((hrec.mono (by simp) fun f hf => ?_).then (hset.mono (fun _ h => h) nofun)).then
      (harr.mono (by simp) fun f hf => ?_)
    · exact List.mem_append_left _ hf
    · exact List.mem_append_right _ hf

/-- A core's fault leaves the other core alone. -/
theorem coreTrap_other {e : Fin 2} (he : e ≠ c) : (s.coreTrap c t).core e = s.core e := by
  cases hh : s.inHandler c with
  | false =>
    rw [State.coreTrap_enters hh, State.enterFault_core_other he]
    exact State.coreRecord_core e
  | true =>
    rw [State.coreTrap_stops hh, State.core_congr ((State.arrive_frame [] _ 0x3A fun _ h => h).2 .cores (by simp)) e,
      State.core_setCore_other _ (Ne.symm he)]
    exact State.coreRecord_core e

end

/-- A core's fault: the record, then the handler's entry or the stop. -/
theorem faultEntryOfACore : Claims.FaultEntryOfACore := fun _ _ _ hcode hunit =>
  ⟨fun hh => coreTrap_outside_handler hh hcode hunit, fun hh => coreTrap_in_handler hh hunit, fun _ he => coreTrap_other he⟩

end Sys2Proof.Machine

namespace Sys2Proof.Machine
open Sys2Proof.Claims

/-! SUPPORT. A fault of a lane: the run it discards, the quantities it marks, the comparison of the pair (R201, R244, R248). -/

/-! ## The run (R201, R244) -/

section
variable {l : Lane} {code : Nat}

/-- A slice that begins leaves the queues and what the grain puts out alone. -/
theorem Lane.beginSlice_kept : l.beginSlice.wq = l.wq ∧ l.beginSlice.cueq = l.cueq ∧ l.beginSlice.outQ = l.outQ ∧
    l.beginSlice.outCues = l.outCues ∧ l.beginSlice.outIncs = l.outIncs ∧ l.beginSlice.g = l.g ∧
    l.beginSlice.incs = l.incs := by
  unfold Lane.beginSlice
  split
  · exact ⟨rfl, rfl, rfl, rfl, rfl, rfl, rfl⟩
  · split_ifs <;> exact ⟨rfl, rfl, rfl, rfl, rfl, rfl, rfl⟩

/-- A slice begins where there is a pitch program with work on hand or due (R244). -/
theorem Lane.beginSlice_cur : l.beginSlice.cur ≠ some .grain ∧
    (l.beginSlice.cur = some .pitch ↔ l.imgP.isSome = true ∧ (l.pitchOn = true ∨ l.pitchDue = true)) := by
  unfold Lane.beginSlice
  split
  · next h => simp [h]
  · next i h => split_ifs <;> simp_all

theorem Lane.faultRun_pitch (h : l.cur = some .pitch) : l.faultRun code =
    { (l.noteRun .pitch l.p.pc (some code)) with
      p := l.snapP, wq := [], cueq := [], pitchIncs := [], cur := none, pitchOn := false } := by
  simp only [Lane.faultRun, h]

theorem Lane.faultRun_grain (h : l.cur ≠ some .pitch) : l.faultRun code =
    ({ (l.noteRun .grain l.g.pc (some code)) with
      g := l.snapG, wq := [], cueq := [], incs := [], cur := none } : Lane).beginSlice := by
  unfold Lane.faultRun
  split
  · next h' => exact absurd h' h
  · rfl

/-- Whatever ran, its queues are discarded and what the grain puts out is kept. -/
theorem Lane.faultRun_queues : (l.faultRun code).wq = [] ∧ (l.faultRun code).cueq = [] ∧
    (l.faultRun code).outQ = l.outQ ∧ (l.faultRun code).outCues = l.outCues ∧ (l.faultRun code).outIncs = l.outIncs := by
  by_cases h : l.cur = some .pitch
  · rw [Lane.faultRun_pitch h]
    exact ⟨rfl, rfl, rfl, rfl, rfl⟩
  · rw [Lane.faultRun_grain h]
    obtain ⟨hwq, hcueq, hout, hcues, hincs, _⟩ := Lane.beginSlice_kept (l := { (l.noteRun .grain l.g.pc (some code)) with
      g := l.snapG, wq := [], cueq := [], incs := [], cur := none })
    exact ⟨hwq, hcueq, hout, hcues, hincs⟩

end

/-! ## The comparison of the pair (R248) -/

/-- The fields that the comparison writes. -/
def pairFields : List Fld := [LEASE.VOTE.OUTCOME, LEASE.DISAGREE.COUNT, LEASE.DISAGREE.SAT, LEASE.VGRAINLO.GLO,
  LEASE.VGRAINHI.GHI] ++ arrivalOf 0x38

theorem State.pairCompare_frame (s : State) (n : Fin 5) : Same [] pairFields s (s.pairCompare n) := by
  unfold State.pairCompare
  split
  · split
    · split
      · split
        · exact State.set_frame [] s _ _ (by decide)
        · exact .refl ..
      · exact ((State.bump_frame [] s _ _ (by decide) (by decide)).then
          (State.set2_frame [] _ _ _ _ (by decide) (by decide))).then
            (State.arrive_frame [] _ _ fun _ h => List.mem_append_right _ h)
    · exact .refl ..
  · exact .refl ..

/-! ## The quantities (R201) -/

theorem State.markFaulted_frame (s : State) (n : Fin 5) : Same [.slots] [] s (s.markFaulted n) := by
  unfold State.markFaulted
  split
  · exact .refl ..
  · exact .of_flds rfl fun c hc => by
      cases c with
      | slots => simp at hc
      | _ => rfl

theorem State.markFaulted_slot (s : State) (n : Fin 5) (i : Fin 72) : (s.markFaulted n).slots[i] =
    if s.roped n = false ∧ i.val < 64 ∧ s.eff (NRG.BIND.OWNER i) = n.val then { s.slots[i] with faulted := true }
    else s.slots[i] := by
  unfold State.markFaulted
  cases h : s.roped n with
  | true => simp
  | false => simp

/-- Whether a lane runs the roped set is read off four fields and the standby's work. -/
theorem State.roped_congr {s u : State} (hf : ∀ f ∈ [LEASE.ROPE.FIRST, LEASE.ROPE.SECOND, SYS.LANE.STBY, LEASE.ROPE.SOLO],
    u.get f = s.get f) (hr : u.rope = s.rope) (n : Nat) : u.roped n = s.roped n := by
  have hfirst := hf LEASE.ROPE.FIRST (by decide)
  have hsecond := hf LEASE.ROPE.SECOND (by decide)
  have hstby := hf SYS.LANE.STBY (by decide)
  have hsolo := hf LEASE.ROPE.SOLO (by decide)
  simp only [State.roped, State.inPair, State.standIn, State.on, hfirst, hsecond, hstby, hsolo, hr]

theorem State.eff_of_force {s u : State} (h : u.force = s.force) (f : Fld) : u.eff f = s.eff f := by
  simp only [State.eff, h]

/-- A lane's fault: the record, the marks, the run discarded, the pair compared. -/
theorem faultOfALane : Claims.FaultOfALane := by
  intro s n t l u k
  let r := s.recordFault n t.code t.unit (s.pcOf (.lane n)).toNat
  have hrec : Same [] faultFields s r := State.recordFault_frame [] s _ _ _ _ fun _ h => h
  have hmark : Same [.slots] [] r (r.markFaulted n) := r.markFaulted_frame n
  let w := (r.markFaulted n).setLane n (l.faultRun t.code)
  have hset : Same [.lanes] [] (r.markFaulted n) w := State.setLane_frame _ _ _ n _ (by decide)
  have hpair : Same [] pairFields w u := w.pairCompare_frame n
  have hlane (m : Fin 5) : u.lane m = w.lane m := by
    simp only [State.lane, show u.lanes = w.lanes from hpair.2 .lanes (by decide)]
  have hk : k = l.faultRun t.code := (hlane n).trans (State.lane_setLane_same ..)
  obtain ⟨hwq, hcueq, hout, hcues, hincs⟩ := Lane.faultRun_queues (l := l) (code := t.code)
  rw [hk]
  refine ⟨hwq, hcueq, hout, hcues, hincs, fun hc => ?pitch, fun hc => ?grain, fun m hm => ?others, fun i => ?slots, ?frame⟩
  case pitch =>
    rw [Lane.faultRun_pitch hc]
    exact ⟨rfl, rfl, rfl, rfl, rfl⟩
  case grain =>
    rw [Lane.faultRun_grain (by simp [hc])]
    obtain ⟨_, _, _, _, _, hg, hi⟩ := Lane.beginSlice_kept (l := { (l.noteRun .grain l.g.pc (some t.code)) with
      g := l.snapG, wq := [], cueq := [], incs := [], cur := none })
    exact ⟨hg, hi, Lane.beginSlice_cur⟩
  case others =>
    rw [hlane m, State.lane_setLane_other _ (Ne.symm hm)]
    have hlanes : (r.markFaulted n).lanes = s.lanes := (hmark.2 .lanes (by decide)).trans (hrec.2 .lanes (by decide))
    simp only [State.lane, hlanes]
  case slots =>
    have hkept : ∀ f ∈ [LEASE.ROPE.FIRST, LEASE.ROPE.SECOND, SYS.LANE.STBY, LEASE.ROPE.SOLO], f ∉ faultFields := by decide
    have hroped : r.roped n = s.roped n :=
      State.roped_congr (fun f hf => hrec.get (hkept f hf)) (hrec.2 .rope (by decide)) n
    have howner : r.eff (NRG.BIND.OWNER i) = s.eff (NRG.BIND.OWNER i) := State.eff_of_force (hrec.2 .force (by decide)) _
    have hslots : r.slots = s.slots := hrec.2 .slots (by decide)
    have hmarked : u.slots = (r.markFaulted n).slots := hpair.2 .slots (by decide)
    rw [hmarked, State.markFaulted_slot, hroped, howner, hslots]
  case frame =>
    rw [List.append_assoc]
    exact (((hrec.mono (by simp) fun f hf => List.mem_append_left pairFields hf).then
      (hmark.mono (by simp) nofun)).then (hset.mono (by simp) nofun)).then
        (hpair.mono (by simp) fun f hf => List.mem_append_right faultFields hf)

/-- Settles O11: a control core's fault, in a handler and outside one, and a lane's. -/
theorem faultsOfCoresAndLanes : Obligations.FaultsOfCoresAndLanes := ⟨faultEntryOfACore, faultOfALane⟩

end Sys2Proof.Machine

namespace Sys2Proof.Machine
open Sys2Proof.Claims

/-! SUPPORT. Clock monitors, the tie record and PPS edges (R26, R27, R42, R72, R76–R78). -/

/-! ## Clock monitors -/

theorem State.whenOn_on {s t : State} (h : s.power = .on) : s.whenOn t = t := if_pos h

/-- A new clock is the clock's change alone. -/
theorem clock_frame (s : State) (k : Clock) (fs : List Fld) : Same [.clock] fs s { s with clock := k } :=
  .of_flds rfl fun c hc => by
    cases c with
    | clock => simp at hc
    | _ => rfl

/-- A monitor's finding: the clock takes it, a status bit sets, and the clock source arrives when the bit was clear. -/
theorem clock_monitor (s : State) (k : Clock) {f : Fld} (hw : f.w = 1) (hf : f ∉ arrivalOf 0x3E) :
    let t := { s with clock := k }.raise f 0x3E
    t.on f = true ∧ t.clock = k ∧ (s.on f = false → Arrived 0x3E s t) ∧ Same [.clock] (f :: arrivalOf 0x3E) s t := by
  intro t
  have hraise : Same [] (f :: arrivalOf 0x3E) { s with clock := k } t :=
    State.raise_frame [] _ f 0x3E (List.mem_cons_self ..) fun _ h => List.mem_cons_of_mem _ h
  refine ⟨State.on_raise _ hw hf, hraise.2 .clock (by decide), fun h => ?_, ?_⟩
  · exact (State.raise_arrived (s := { s with clock := k }) rfl hf h).congr (fun _ _ => rfl) fun _ _ => rfl
  · exact (clock_frame s k _).then (hraise.mono nofun fun _ h => h)

theorem xtalRefLost_next {s : State} (h : s.power = .on) : exec .xtalRefLost s =
    .next ({ s with clock := { s.clock with xtalOk := false, lostAt := s.clock.grain } }.raise SYS.STATUS.CLKDEG 0x3E) :=
  congrArg _ (State.whenOn_on h)

theorem slowCrystalFail_next {s : State} (h : s.power = .on) : exec .slowCrystalFail s =
    .next ({ s with clock := { s.clock with slowOk := false } }.raise SYS.STATUS.SLOWDEG 0x3E) :=
  congrArg _ (if_neg (by simp [h]))

/-- The crystal has run for 4096 grains, at a grain boundary (R26). -/
def State.xtalBack (s : State) : Prop :=
  s.on SYS.STATUS.CLKDEG = true ∧ s.clock.phase = 0 ∧ s.clock.lostAt + 4096 ≤ s.clock.grain

theorem xtalRefReturn_next {s : State} (h : s.power = .on) (hb : s.xtalBack) : exec .xtalRefReturn s =
    .next (({ s with clock := { s.clock with xtalOk := true } }.flag SYS.STATUS.CLKDEG false).arrive 0x3E) :=
  congrArg _ (if_pos ⟨h, hb⟩)

theorem xtalRefReturn_idle {s : State} (hb : ¬ s.xtalBack) : exec .xtalRefReturn s = .next s :=
  congrArg _ (if_neg fun h => hb h.2)

/-- The return of the reference clears CLKDEG. -/
theorem xtalRefReturn_clears (s : State) (k : Clock) :
    let t := ({ s with clock := k }.flag SYS.STATUS.CLKDEG false).arrive 0x3E
    t.on SYS.STATUS.CLKDEG = false ∧ t.clock = k ∧ Arrived 0x3E s t ∧
      Same [.clock] (SYS.STATUS.CLKDEG :: arrivalOf 0x3E) s t := by
  intro t
  let u : State := { s with clock := k }.flag SYS.STATUS.CLKDEG false
  have harr : Same [] (arrivalOf 0x3E) u t := State.arrive_frame [] u 0x3E fun _ h => h
  refine ⟨?_, harr.2 .clock (by decide), ?_, ?_⟩
  · rw [State.on_of_get (harr.get (by decide)), State.on_flag_same _ _ rfl]
  · refine (u.arrive_arrived (src := 0x3E) rfl).congr (fun f hf => ?_) fun _ _ => rfl
    exact State.get_set_other _ (by rintro rfl; revert hf; decide) _
  · exact ((clock_frame s k _).then (State.flag_frame _ _ _ _ (List.mem_cons_self ..))).then
      (harr.mono nofun fun _ h => List.mem_cons_of_mem _ h)

/-- VALID and MORE clear together (R42). -/
theorem sysFaultClear_next {s : State} (h : s.power = .on) : exec .sysFaultClear s =
    .next ((s.flag SYS.FAULT.VALID false).flag SYS.FAULT.MORE false) := congrArg _ (State.whenOn_on h)

theorem sysFaultClear_clears (s : State) :
    let t := (s.flag SYS.FAULT.VALID false).flag SYS.FAULT.MORE false
    t.on SYS.FAULT.VALID = false ∧ t.on SYS.FAULT.MORE = false ∧ Same [] [SYS.FAULT.VALID, SYS.FAULT.MORE] s t := by
  refine ⟨?_, State.on_flag_same _ _ rfl, ?_⟩
  · rw [State.on_flag_other _ _ (by decide), State.on_flag_same _ _ rfl]
  · exact (State.flag_frame [] s _ _ (by decide)).then (State.flag_frame [] _ _ _ (by decide))

/-! ## The tie record (R72) -/

theorem tieRecord_next {s : State} (h : s.power = .on) (hl : s.clock.pllLock = true)
    (hb : s.clock.rtc % 4096 * 6250 + s.clock.slowPh ≤ s.cycle)
    (ht : s.clock.tie.map Tie.rtc ≠ some (s.clock.rtc - s.clock.rtc % 4096)) :
    let at' := s.cycle - (s.clock.rtc % 4096 * 6250 + s.clock.slowPh)
    exec .tieRecord s = .next (s.putTie ⟨s.clock.rtc - s.clock.rtc % 4096, at' / 6400, at' % 6400⟩) :=
  congrArg _ (if_pos ⟨h, hl, hb, ht⟩)

/-- A tie is held by TIME and by the timebase area, and nothing else changes (R36, R72). -/
theorem State.putTie_frame (s : State) (t : Tie) :
    (s.putTie t).clock = { s.clock with tie := some t } ∧
    (∀ a, a < 0x20002000 ∨ 0x20002400 ≤ a → (s.putTie t).byte a = s.byte a) ∧
    Same [.clock, .mem] [] s (s.putTie t) := by
  refine ⟨rfl, fun a ha => ?_, ?_⟩
  · exact State.byte_setBytes_other _ _ a _ (by simpa using ha)
  · exact ((clock_frame s _ []).mono (by simp) fun _ h => h).then (State.setBytes_frame _ _ _ _ _ (by decide))

/-- The monitors, the fault record's clearing and the tie. -/
theorem clockMonitorsAndTie : Claims.ClockMonitorsAndTie := by
  intro s hon
  refine ⟨⟨_, xtalRefLost_next hon, clock_monitor s _ rfl (by decide)⟩,
    ⟨fun hb => ⟨_, xtalRefReturn_next hon hb, xtalRefReturn_clears s _⟩, xtalRefReturn_idle⟩,
    ⟨_, slowCrystalFail_next hon, clock_monitor s _ rfl (by decide)⟩,
    ⟨_, sysFaultClear_next hon, sysFaultClear_clears s⟩, ?tie⟩
  case tie =>
    intro hl since hb ht
    obtain ⟨hclock, hbytes, hframe⟩ := s.putTie_frame ⟨s.clock.rtc - s.clock.rtc % 4096, (s.cycle - since) / 6400,
      (s.cycle - since) % 6400⟩
    have hb' : since ≤ s.cycle := hb
    have hcycle : s.cycle = s.clock.grain * 6400 + s.clock.phase := rfl
    refine ⟨_, _, tieRecord_next hon hl hb ht, hclock, ?_, ?_, ?_, ?_, ?_, hbytes, hframe⟩
    all_goals dsimp only
    all_goals omega

/-! ## PPS (R76, R77, R78) -/

/-- The fields of an edge's time. -/
def stampFields : List Fld := [TIME.PPSGLO.PGLO, TIME.PPSGHI.PGHI.at 1, TIME.PPSCYC.CYC]

/-- The fields that an accepted edge sets besides. -/
def acceptFields : List Fld := [TIME.UTCOFFLO.ULO, TIME.UTCOFFHI.UHI, TIME.UTCOFFFR.UFR, TIME.PPSSEC.SEC,
  TIME.UTCRATE.RATE, TIME.UTCSTAT.SRC, TIME.UTCSTAT.VALID, TIME.UTCSTAT.PPSLOCK]

/-- New PPS data is that change alone. -/
theorem pps_frame (s : State) (x : Pps) (fs : List Fld) : Same [.pps] fs s { s with pps := x } :=
  .of_flds rfl fun c hc => by
    cases c with
    | pps => simp at hc
    | _ => rfl

section
variable (s : State) (e : Nat)

theorem State.ppsStamp_frame : Same [] stampFields s (s.ppsStamp e) :=
  (State.set2_frame [] s _ _ _ (by decide) (by decide)).then (State.set_frame [] _ _ _ (by decide))

theorem State.ppsStamp_cycle : (s.ppsStamp e).get TIME.PPSCYC.CYC = e % 6400 := by
  have hlt : e % 6400 < 2 ^ 13 := by omega
  exact (State.get_set_same ..).trans (Nat.mod_eq_of_lt hlt)

/-- UTC as an accepted edge sets it (R74, R76). -/
def State.ppsUtc : State :=
  let iv := match s.pps.last with | none => [] | some l => [e - l]
  let u := s.setUtcOff ((s.get TIME.PPSSEC.SEC * 32000 : Nat) * 2 ^ 32 - Config.round ((e : Int) * 2 ^ 32) 6400)
  let u := (u.set TIME.PPSSEC.SEC (s.get TIME.PPSSEC.SEC + 1)).set TIME.UTCRATE.RATE
    (wrapN 32 (ppsRate ((iv ++ s.pps.intervals).take 16)))
  (u.set TIME.UTCSTAT.SRC 2).flag TIME.UTCSTAT.VALID true

/-- The registers of an accepted edge, before its source arrives: the fourth in a row gives lock (R77). -/
def State.ppsAccepted : State :=
  if 4 ≤ s.pps.run + 1 then (s.ppsUtc e).flag TIME.UTCSTAT.PPSLOCK true else s.ppsUtc e

/-- And with the edge remembered, before its source arrives. -/
def State.ppsKept : State :=
  { s.ppsAccepted e with pps := ⟨some e, s.pps.run + 1, 0,
    ((match s.pps.last with | none => [] | some l => [e - l]) ++ s.pps.intervals).take 16, true, some e⟩ }

theorem State.ppsAccept_eq : s.ppsAccept e = (s.ppsKept e).arrive 0x14 := rfl

theorem State.ppsUtc_frame : Same [] acceptFields s (s.ppsUtc e) := by
  have hset (u : State) {f : Fld} (v : Nat) (h : f ∈ acceptFields) : Same [] acceptFields u (u.set f v) :=
    State.set_frame [] u f v h
  exact (((((((hset s _ (by decide)).then (hset _ _ (by decide))).then (hset _ _ (by decide))).then
    (hset _ _ (by decide))).then (hset _ _ (by decide))).then (hset _ _ (by decide))).then (hset _ _ (by decide)))

theorem State.ppsAccepted_frame : Same [] acceptFields s (s.ppsAccepted e) := by
  unfold State.ppsAccepted
  split
  · exact (s.ppsUtc_frame e).then (State.flag_frame [] _ _ _ (by decide))
  · exact s.ppsUtc_frame e

theorem State.ppsUtc_get : (s.ppsUtc e).get TIME.PPSSEC.SEC = (s.get TIME.PPSSEC.SEC + 1) % 2 ^ 32 ∧
    (s.ppsUtc e).get TIME.UTCSTAT.SRC = 2 ∧ (s.ppsUtc e).on TIME.UTCSTAT.VALID = true := by
  refine ⟨?_, ?_, State.on_flag_same _ _ rfl⟩
  · simp only [State.ppsUtc, State.get_flag, State.get_set]
    rfl
  · simp only [State.ppsUtc, State.get_flag, State.get_set]
    rfl

theorem State.ppsAccepted_get : (s.ppsAccepted e).get TIME.PPSSEC.SEC = (s.get TIME.PPSSEC.SEC + 1) % 2 ^ 32 ∧
    (s.ppsAccepted e).get TIME.UTCSTAT.SRC = 2 ∧ (s.ppsAccepted e).on TIME.UTCSTAT.VALID = true ∧
    (3 ≤ s.pps.run → (s.ppsAccepted e).on TIME.UTCSTAT.PPSLOCK = true) := by
  obtain ⟨hsec, hsrc, hvalid⟩ := s.ppsUtc_get e
  unfold State.ppsAccepted
  split
  · refine ⟨?_, ?_, ?_, fun _ => State.on_flag_same _ _ rfl⟩
    · exact (State.get_set_other _ (by decide) _).trans hsec
    · exact (State.get_set_other _ (by decide) _).trans hsrc
    · exact (State.on_flag_other _ _ (by decide)).trans hvalid
  · exact ⟨hsec, hsrc, hvalid, fun h => by omega⟩

end

section
variable {s : State} {e : Nat}

/-- An accepted edge: UTC, lock, the edge remembered, the source (R76, R77). -/
theorem ppsAccept_effect (u : State) :
    let t := u.ppsAccept e
    t.get TIME.PPSSEC.SEC = (u.get TIME.PPSSEC.SEC + 1) % 2 ^ 32 ∧ t.get TIME.UTCSTAT.SRC = 2 ∧
    t.on TIME.UTCSTAT.VALID = true ∧ (3 ≤ u.pps.run → t.on TIME.UTCSTAT.PPSLOCK = true) ∧ t.pps.last = some e ∧
    t.pps.missed = 0 ∧ Arrived 0x14 u t ∧ Same [.pps] (acceptFields ++ arrivalOf 0x14) u t := by
  intro t
  obtain ⟨hsec, hsrc, hvalid, hlock⟩ := u.ppsAccepted_get e
  have hacc := u.ppsAccepted_frame e
  have harr : Same [] (arrivalOf 0x14) (u.ppsKept e) t := by
    rw [show t = _ from u.ppsAccept_eq e]
    exact State.arrive_frame [] _ 0x14 fun _ h => h
  have hpps : t.pps = (u.ppsKept e).pps := harr.2 .pps (by decide)
  refine ⟨(harr.get (by decide)).trans hsec, (harr.get (by decide)).trans hsrc,
    (State.on_of_get (harr.get (by decide))).trans hvalid,
    fun h => (State.on_of_get (harr.get (by decide))).trans (hlock h), by rw [hpps]; rfl, by rw [hpps]; rfl, ?_, ?_⟩
  · refine ((u.ppsKept e).arrive_arrived (src := 0x14) rfl).congr (fun f hf => hacc.get ?_) fun _ _ => rfl
    revert f
    decide
  · have hnew : Same [.pps] (acceptFields ++ arrivalOf 0x14) (u.ppsAccepted e) (u.ppsKept e) :=
      pps_frame _ _ _
    exact ((hacc.mono nofun fun _ h => List.mem_append_left _ h).then hnew).then
      (harr.mono nofun fun _ h => List.mem_append_right _ h)

/-- A rejected edge is counted, and ends the run (R76, R77). -/
theorem ppsReject_effect (u : State) :
    let t := u.ppsReject
    (u.get TIME.PPSREJ.COUNT + 1 < 2 ^ TIME.PPSREJ.COUNT.w → t.get TIME.PPSREJ.COUNT = u.get TIME.PPSREJ.COUNT + 1) ∧
    t.pps = { u.pps with run := 0 } ∧ Same [.pps] [TIME.PPSREJ.COUNT, TIME.PPSREJ.SAT] u t := by
  refine ⟨fun h => ?_, rfl, ?_⟩
  · have hbump : u.bump TIME.PPSREJ.COUNT TIME.PPSREJ.SAT = u.set TIME.PPSREJ.COUNT (u.get TIME.PPSREJ.COUNT + 1) := if_pos h
    rw [State.ppsReject, hbump]
    exact (State.get_set_same ..).trans (Nat.mod_eq_of_lt h)
  · exact (State.bump_frame _ u _ _ (by decide) (by decide)).then (pps_frame _ _ _)

section
variable (hon : s.power = .on) (hen : s.on TIME.CTRL.PPSEN = true) (hf : s.isFollower = false)
include hon hen hf

/-- An edge of the chosen polarity is seen (R76). -/
theorem ppsEdge_seen : s.power = .on ∧ s.on TIME.CTRL.PPSEN = true ∧
    s.on TIME.CTRL.PPSPOL = !(!s.on TIME.CTRL.PPSPOL) ∧ ¬ s.isFollower = true :=
  ⟨hon, hen, (Bool.not_not _).symm, by simp [hf]⟩

theorem ppsEdge_accepted
    (ha : s.pps.last = none ∧ s.pps.armed = true ∨ ∃ l, s.pps.last = some l ∧ s.ppsInWindow l (s.cycle - 40) = true) :
    exec (.ppsEdge (!s.on TIME.CTRL.PPSPOL)) s = .next ((s.ppsStamp (s.cycle - 40)).ppsAccept (s.cycle - 40)) := by
  refine congrArg _ ((if_pos (ppsEdge_seen hon hen hf)).trans ?_)
  obtain ⟨hl, harm⟩ | ⟨l, hl, hw⟩ := ha
  · rw [hl]
    exact if_pos harm
  · rw [hl]
    exact if_pos hw

theorem ppsEdge_rejected {l : Nat} (hl : s.pps.last = some l) (hw : s.ppsInWindow l (s.cycle - 40) = false) :
    exec (.ppsEdge (!s.on TIME.CTRL.PPSPOL)) s = .next (s.ppsStamp (s.cycle - 40)).ppsReject := by
  refine congrArg _ ((if_pos (ppsEdge_seen hon hen hf)).trans ?_)
  rw [hl]
  exact if_neg (by simp [hw])

theorem ppsEdge_unarmed (hl : s.pps.last = none) (ha : s.pps.armed = false) :
    exec (.ppsEdge (!s.on TIME.CTRL.PPSPOL)) s = .next (s.ppsStamp (s.cycle - 40)) := by
  refine congrArg _ ((if_pos (ppsEdge_seen hon hen hf)).trans ?_)
  rw [hl]
  exact if_neg (by simp [ha])

end

/-- An edge of the other polarity changes nothing. -/
theorem ppsEdge_otherPolarity : exec (.ppsEdge (s.on TIME.CTRL.PPSPOL)) s = .next s :=
  congrArg _ (if_neg fun ⟨_, _, h, _⟩ => by simp at h)

/-- A follower of the chain ignores PPS (R78). -/
theorem ppsEdge_follower (b : Bool) (hf : s.isFollower = true) : exec (.ppsEdge b) s = .next s :=
  congrArg _ (if_neg fun ⟨_, _, _, h⟩ => h hf)

theorem ppsEdgeMissed_follower (hf : s.isFollower = true) : exec .ppsEdgeMissed s = .next s := by
  show execPpsEdgeMissed s = _
  unfold execPpsEdgeMissed
  split
  · rfl
  · exact congrArg _ (if_neg fun ⟨_, _, h, _⟩ => by simp [hf] at h)

/-- A miss, and the fourth in a row (R77). -/
theorem ppsEdgeMissed_next (hon : s.power = .on) (hen : s.on TIME.CTRL.PPSEN = true) (hf : s.isFollower = false) {l : Nat}
    (hl : s.pps.last = some l) (hc : l + 204800000 * (s.pps.missed + 1) + 20480 < s.cycle) :
    exec .ppsEdgeMissed s = .next (if s.pps.missed + 1 < 4 then
      { s with pps := { s.pps with missed := s.pps.missed + 1, run := 0 } }
      else { (s.flag TIME.UTCSTAT.PPSLOCK false).raise TIME.UTCSTAT.PPSLOST 0x15 with
        pps := { s.pps with last := none, run := 0, missed := 0, armed := false } }) := by
  show execPpsEdgeMissed s = _
  unfold execPpsEdgeMissed
  rw [hl]
  exact congrArg _ (if_pos ⟨hon, hen, hf, hc⟩)

/-- The loss of lock (R77). -/
theorem ppsLost_effect (x : Pps) (hx : x.last = none) :
    let t := { (s.flag TIME.UTCSTAT.PPSLOCK false).raise TIME.UTCSTAT.PPSLOST 0x15 with pps := x }
    t.on TIME.UTCSTAT.PPSLOCK = false ∧ t.on TIME.UTCSTAT.PPSLOST = true ∧ t.pps.last = none ∧
    (s.on TIME.UTCSTAT.PPSLOST = false → Arrived 0x15 s t) ∧
    Same [.pps] ([TIME.UTCSTAT.PPSLOCK, TIME.UTCSTAT.PPSLOST] ++ arrivalOf 0x15) s t := by
  intro t
  let u := s.flag TIME.UTCSTAT.PPSLOCK false
  let w := u.raise TIME.UTCSTAT.PPSLOST 0x15
  have hraise : Same [] (TIME.UTCSTAT.PPSLOST :: arrivalOf 0x15) u w :=
    State.raise_frame [] u _ _ (List.mem_cons_self ..) fun _ h => List.mem_cons_of_mem _ h
  refine ⟨?_, u.on_raise rfl (by decide), hx, fun h => ?_, ?_⟩
  · exact (State.on_of_get (hraise.get (by decide))).trans (State.on_flag_same s _ rfl)
  · have hclear : u.on TIME.UTCSTAT.PPSLOST = false := (State.on_flag_other s _ (by decide)).trans h
    refine (State.raise_arrived (s := u) (src := 0x15) rfl (by decide) hclear).congr (fun f hf => ?_) fun _ _ => rfl
    exact State.get_set_other s (by rintro rfl; revert hf; decide) _
  · have hflag : Same [.pps] ([TIME.UTCSTAT.PPSLOCK, TIME.UTCSTAT.PPSLOST] ++ arrivalOf 0x15) s u :=
      State.flag_frame _ s _ _ (by decide)
    exact (hflag.then (hraise.mono nofun fun _ h => List.mem_cons_of_mem _ h)).then (pps_frame w x _)

end

/-- PPS: an edge by its outcome, and a miss. -/
theorem ppsEdges : Claims.PpsEdges := by
  intro s hon hen edge accepts stamped written
  let u := s.ppsStamp edge
  have hstamp : Same [] stampFields s u := s.ppsStamp_frame edge
  have hpps : u.pps = s.pps := rfl
  have hcyc : u.get TIME.PPSCYC.CYC = edge % 6400 := s.ppsStamp_cycle edge
  refine ⟨fun hf ha => ?accepted, fun l hf hl hw => ?rejected, fun hf hl ha => ?unarmed, ppsEdge_otherPolarity,
    fun hf => ⟨ppsEdge_follower _ hf, ppsEdgeMissed_follower hf⟩, fun l hf hl hc => ?missed⟩
  case accepted =>
    refine ⟨_, ppsEdge_accepted hon hen hf ha, ?_⟩
    obtain ⟨hsec, hsrc, hvalid, hlock, hlast, hmissed, harr, hframe⟩ := ppsAccept_effect (e := edge) u
    refine ⟨hsec.trans ?_, hsrc, hvalid, hlock, (hframe.get (by decide)).trans hcyc, hlast, hmissed, ?_, ?_⟩
    · rw [hstamp.get (by decide)]
    · refine harr.congr (fun f hf => hstamp.get ?_) fun _ _ => rfl
      revert f
      decide
    · exact (hstamp.mono nofun fun f hf => List.mem_append_left _ (List.mem_append_right acceptFields hf)).then
        (hframe.mono (fun _ h => h) fun f hf => by
          obtain hf | hf := List.mem_append.1 hf
          · exact List.mem_append_left _ (List.mem_append_left _ hf)
          · exact List.mem_append_right _ hf)
  case rejected =>
    refine ⟨_, ppsEdge_rejected hon hen hf hl hw, ?_⟩
    obtain ⟨hcount, hnew, hframe⟩ := ppsReject_effect u
    rw [hstamp.get (by decide)] at hcount
    exact ⟨hcount, (hframe.get (by decide)).trans hcyc, hnew,
      (hstamp.mono nofun fun _ h => List.mem_append_right _ h).then
        (hframe.mono (fun _ h => h) fun _ h => List.mem_append_left _ h)⟩
  case unarmed => exact ⟨_, ppsEdge_unarmed hon hen hf hl ha, hcyc, hstamp⟩
  case missed =>
    refine ⟨_, ppsEdgeMissed_next hon hen hf hl hc, fun h => if_pos (by omega), fun h => ?_⟩
    rw [if_neg (by omega)]
    exact ppsLost_effect _ rfl

/-- Settles O21: the monitors and the tie, and PPS. -/
theorem clocksTieAndPps : Obligations.ClocksTieAndPps := ⟨clockMonitorsAndTie, ppsEdges⟩

end Sys2Proof.Machine

namespace Sys2Proof.Machine
open Sys2Proof.Claims

/-! SUPPORT. Frames by units: what an operation touches, as the units whose fields it may write. -/

/-- t differs from s at most in the components cs and in fields of the units us. -/
def Within (cs : List Comp) (us : List Nat) (s t : State) : Prop := Frame cs (fun f => us.contains f.unit = true) s t

section
variable {cs : List Comp} {us : List Nat} {s₀ s t : State}

theorem Within.refl (s : State) : Within cs us s s := Frame.refl ..

theorem Within.get (h : Within cs us s t) {f : Fld} (hf : us.contains f.unit = false) : t.get f = s.get f :=
  h.1 f (by simp only [hf, Bool.false_eq_true, not_false_eq_true])

theorem Within.comp (h : Within cs us s t) {c : Comp} (hc : c ∉ cs) : c.same s t := h.2 c hc

theorem Within.trans (h : Within cs us s₀ s) (h' : Within cs us s t) : Within cs us s₀ t := Frame.then h h'

theorem Within.mono {cs' : List Comp} {us' : List Nat} (h : Within cs us s t) (hc : cs ⊆ cs') (hu : us ⊆ us') :
    Within cs' us' s t :=
  Frame.mono h (fun _ hx => hc hx) fun _ hf => List.contains_iff_mem.2 (hu (List.contains_iff_mem.1 hf))

theorem Within.set {f : Fld} {v : Nat} (h : Within cs us s₀ s) (hf : us.contains f.unit = true) :
    Within cs us s₀ (s.set f v) := h.trans (State.set_frame cs s f v hf)

theorem Within.flag {f : Fld} {b : Bool} (h : Within cs us s₀ s) (hf : us.contains f.unit = true) :
    Within cs us s₀ (s.flag f b) := h.set hf

theorem Within.raise {f : Fld} {src : Nat} (h : Within cs us s₀ s) (hf : us.contains f.unit = true)
    (hi : us.contains 8 = true) : Within cs us s₀ (s.raise f src) :=
  h.trans (State.raise_frame cs s f src hf fun g hg => by
    simp only [arrivalOf, List.mem_cons, List.not_mem_nil, or_false] at hg
    obtain rfl | rfl | rfl := hg <;> exact hi)

theorem Within.ite {c : Prop} [Decidable c] (h : Within cs us s₀ s) (h' : Within cs us s₀ t) :
    Within cs us s₀ (if c then s else t) := by
  split
  · exact h
  · exact h'

theorem Within.foldl {α : Type} {f : State → α → State} {l : List α} (h : Within cs us s₀ s)
    (hf : ∀ t, ∀ x ∈ l, Within cs us s₀ t → Within cs us s₀ (f t x)) : Within cs us s₀ (l.foldl f s) := by
  induction l generalizing s with
  | nil => exact h
  | cons x l ih =>
    exact ih (hf s x (List.mem_cons_self ..) h) fun t y hy => hf t y (List.mem_cons_of_mem _ hy)

theorem Within.forN {n : Nat} {f : Nat → State → State} (h : Within cs us s₀ s)
    (hf : ∀ t i, i < n → Within cs us s₀ t → Within cs us s₀ (f i t)) : Within cs us s₀ (s.forN n f) :=
  h.foldl fun t i hi => hf t i (List.mem_range.1 hi)

end

/-! ## The recovery (R341, R348, R349) -/

/-- What is rebuilt behind the registers once the totals and the journal stand. -/
def rebuiltComps : List Comp := [.resp, .access, .glass, .shNode, .rampBlocks, .driftBlocks]

/-- The units that are rebuilt besides. -/
def rebuiltUnits : List Nat := [0x00, 0x04, 0x08, 0x10, 0x11, 0x12, 0x13, 0x28, 0x2C, 0x38, 0x3C, 0x3D]

/-- One of those components rebuilt. -/
theorem rebuilt_update {s₀ s : State} {resp access glass shNode rampBlocks driftBlocks}
    (h : Within rebuiltComps rebuiltUnits s₀ s) :
    Within rebuiltComps rebuiltUnits s₀ { s with resp, access, glass, shNode, rampBlocks, driftBlocks } :=
  h.trans (.of_flds rfl fun c hc => by
    cases c with
    | resp | access | glass | shNode | rampBlocks | driftBlocks => exact absurd (by decide) hc
    | _ => rfl)

section
variable {s₀ s : State}

abbrev Rebuilt (s t : State) : Prop := Within rebuiltComps rebuiltUnits s t

theorem Rebuilt.restoreTamper {e : Evidence} (h : Rebuilt s₀ s) : Rebuilt s₀ (s.restoreTamper e) :=
  rebuilt_update ((((((h.set rfl).set rfl).flag rfl).set rfl).set rfl).set rfl)

theorem Rebuilt.setBst {v : Nat} (h : Rebuilt s₀ s) : Rebuilt s₀ (s.setBst v) := (h.set rfl).set rfl

theorem Rebuilt.modGlass {f : GlassSt → GlassSt} (h : Rebuilt s₀ s) : Rebuilt s₀ (s.modGlass f) := rebuilt_update h

theorem Rebuilt.glassCold (h : Rebuilt s₀ s) : Rebuilt s₀ s.glassCold := by
  unfold State.glassCold
  split
  · exact h
  · exact .ite ((h.setBst.flag rfl).flag rfl) ((h.modGlass.setBst.flag rfl).flag rfl)

theorem Rebuilt.showFrozen (h : Rebuilt s₀ s) : Rebuilt s₀ s.showFrozen := h.flag rfl

theorem Rebuilt.inForce (h : Rebuilt s₀ s) : Rebuilt s₀ s.inForce := Rebuilt.showFrozen (((h.set rfl).flag rfl).flag rfl)

/-- A quad's number gives one of the four units. -/
theorem rebuiltUnits_quad {q : Nat} (h : q < 4) : rebuiltUnits.contains (16 + q) = true := by
  interval_cases q <;> rfl

theorem Rebuilt.loadRetired (h : Rebuilt s₀ s) : Rebuilt s₀ s.loadRetired :=
  (h.set rfl).forN fun _ _ hq ht =>
    (((((ht.set (rebuiltUnits_quad hq)).set (rebuiltUnits_quad hq)).flag (rebuiltUnits_quad hq)).flag
      (rebuiltUnits_quad hq)).flag rfl).forN fun _ _ _ hu => ((hu.flag rfl).flag rfl).set (rebuiltUnits_quad hq)

theorem Rebuilt.noteClamps (h : Rebuilt s₀ s) : Rebuilt s₀ s.noteClamps :=
  h.forN fun _ _ _ ht => .ite (.ite (ht.flag rfl) ht) ht

theorem Rebuilt.loadDrift (h : Rebuilt s₀ s) : Rebuilt s₀ s.loadDrift :=
  Rebuilt.showFrozen (Rebuilt.noteClamps (rebuilt_update
    (((h.flag rfl).forN fun _ _ _ ht => ((((ht.set rfl).set rfl).set rfl).set rfl).set rfl).forN
      fun _ _ _ ht => (ht.set rfl).set rfl)))

theorem Rebuilt.setRoles (h : Rebuilt s₀ s) : Rebuilt s₀ s.setRoles :=
  ((((h.set rfl).set rfl).set rfl).flag rfl).flag rfl

theorem Rebuilt.jrnlStatus (h : Rebuilt s₀ s) : Rebuilt s₀ s.jrnlStatus :=
  ((Within.ite (h.raise rfl rfl) (h.flag rfl)).flag rfl).flag rfl

end
end Sys2Proof.Machine

namespace Sys2Proof.Machine
open Sys2Proof.Claims

/-! ## The totals and the journal of the recovery (R348, R349) -/

/-- The components that the first half of the recovery writes. -/
def recoveredComps : List Comp := [.slots, .cairn, .jrnl, .pwr, .free]

/-- Unit 0x20 holds the totals' flags and T, unit 0x29 the cairn's flags. -/
def recoveredUnits : List Nat := [0x20, 0x29]

/-- The epoch of a start: one on at a cold start (R349). -/
def State.epochAfter (s : State) (cold : Bool) (kept : Nat) : Nat :=
  match s.restored cold with
  | some b => (b.epoch + ofB cold) % 2 ^ 16
  | none => if cold then 1 else kept

/-- The first half of the recovery: the totals, the journal and the gap record owed. -/
def State.recoverTotals (s : State) (cold : Bool) (kept : Nat) : State :=
  ((s.cairnFlags.restoreSlots (s.restored cold)).recoverJournal (s.restored cold) (s.epochAfter cold kept)).modPwr
    fun p => { p with gap := some (s.gapOwed (s.restored cold) (s.epochAfter cold kept)
      (decide (genOf s.committedRec < genOf (s.keptHalf cold)))) }

/-- The registers and slots that the totals' recovery writes. -/
theorem State.restoreSlots_within (s : State) (b : Option Belay) :
    Within [.slots] recoveredUnits s (s.cairnFlags.restoreSlots b) := by
  have hslots (t : State) (slots) : Within [.slots] recoveredUnits t { t with slots } :=
    .of_flds rfl fun c hc => by
      cases c with
      | slots => exact absurd (by decide) hc
      | _ => rfl
  have hflags : Within [.slots] recoveredUnits s s.cairnFlags :=
    ((((Within.refl s).flag rfl).flag rfl).flag rfl).set rfl
  exact (((hflags.trans (hslots ..)).set rfl).forN fun _ _ _ ht =>
    ((((ht.set rfl).set rfl).set rfl).set rfl).set rfl).forN fun _ _ _ ht => ((ht.set rfl).set rfl).set rfl

/-- The journal's recovery draws open values at most, and writes the journal and the ring. -/
theorem State.recoverJournal_frame (s : State) (st : Option Belay) (epoch : Nat) :
    Within [.cairn, .jrnl, .free] [] s (s.recoverJournal st epoch) := by
  have hnumbers : Within [.cairn, .jrnl, .free] [] s (s.journalFrom st).2 := by
    unfold State.journalFrom
    split
    · exact .refl s
    · exact .refl s
    · split
      · exact .refl s
      · exact .of_flds rfl fun c hc => by
          cases c with
          | free => exact absurd (by decide) hc
          | _ => rfl
  exact hnumbers.trans (.of_flds rfl fun c hc => by
    cases c with
    | cairn | jrnl => exact absurd (by decide) hc
    | _ => rfl)

theorem State.modPwr_pwr (s : State) (f : PowerSt → PowerSt) : (s.modPwr f).pwr = f s.pwr := rfl

theorem State.modPwr_within (s : State) (f : PowerSt → PowerSt) :
    Within [.cairn, .jrnl, .pwr, .free] [] s (s.modPwr f) :=
  .of_flds rfl fun c hc => by
    cases c with
    | pwr => exact absurd (by decide) hc
    | _ => rfl

/-- After the slots' registers, the journal and the gap record follow. -/
theorem State.recoverTotals_frame (s : State) (cold : Bool) (kept : Nat) :
    Within [.cairn, .jrnl, .pwr, .free] [] (s.cairnFlags.restoreSlots (s.restored cold)) (s.recoverTotals cold kept) :=
  ((State.recoverJournal_frame _ (s.restored cold) (s.epochAfter cold kept)).mono (by decide) (by decide)).trans
    (State.modPwr_within ..)

theorem State.recoverTotals_within (s : State) (cold : Bool) (kept : Nat) :
    Within recoveredComps recoveredUnits s (s.recoverTotals cold kept) :=
  ((s.restoreSlots_within (s.restored cold)).mono (by decide) (by decide)).trans
    ((s.recoverTotals_frame cold kept).mono (by decide) (by decide))

/-- The second half of the recovery: what is rebuilt behind the registers. -/
theorem State.recover_rebuilt (s : State) (cold : Bool) (kept : Nat) :
    Rebuilt (s.recoverTotals cold kept) (s.recover cold kept) := by
  have hcold {u t : State} (e : Evidence) (h : Rebuilt u t) :
      Rebuilt u (if cold then (t.restoreTamper e).glassCold else t) := Within.ite h.restoreTamper.glassCold h
  have hrest {u t : State} (h : Rebuilt u t) : Rebuilt u t.inForce.loadRetired.loadDrift.setRoles.jrnlStatus :=
    h.inForce.loadRetired.loadDrift.setRoles.jrnlStatus
  have hall := hrest (hcold (match s.restored cold with | none => Belay.factory.ev | some b => b.ev)
    (Within.refl (s.recoverTotals cold kept)))
  exact Within.ite hall.modGlass hall

/-- The recovery leaves the fields of other units alone. -/
theorem State.recover_get (s : State) (cold : Bool) (kept : Nat) {f : Fld} (hf : recoveredUnits.contains f.unit = false)
    (hf' : rebuiltUnits.contains f.unit = false) : (s.recover cold kept).get f = s.get f :=
  ((s.recover_rebuilt cold kept).get hf').trans ((s.recoverTotals_within cold kept).get hf)

/-- The recovery leaves these components alone. -/
theorem State.recover_comp (s : State) (cold : Bool) (kept : Nat) {c : Comp} (hc : c ∉ recoveredComps ++ rebuiltComps) :
    c.same s (s.recover cold kept) := by
  have h : Within (recoveredComps ++ rebuiltComps) (recoveredUnits ++ rebuiltUnits) s (s.recover cold kept) :=
    ((s.recoverTotals_within cold kept).mono (List.subset_append_left ..) (List.subset_append_left ..)).trans
      ((s.recover_rebuilt cold kept).mono (List.subset_append_right ..) (List.subset_append_right ..))
  exact h.comp hc

/-! What the recovery takes from the belay restored. -/

theorem Frame.forN {cs : List Comp} {P : Fld → Prop} {f : Nat → State → State} (s : State) (n : Nat)
    (h : ∀ t i, Frame cs P t (f i t)) : Frame cs P s (s.forN n f) := by
  unfold State.forN
  generalize List.range n = l
  induction l generalizing s with
  | nil => exact .refl ..
  | cons i l ih => exact .then (h s i) (ih _)

/-- The writes of the slots' registers leave the slots as they are and T as it was set. -/
theorem State.restoreSlots_kept (s : State) (b : Option Belay) :
    (s.restoreSlots b).slots = Vector.ofFn (fun n : Fin 72 =>
      { (match b with | none => SlotImg.zero | some x => x.slots.getD n SlotImg.zero).slot with
        newBind := decide (64 ≤ n.val) }) ∧
    (s.restoreSlots b).get NRG.TARIFF.T = (match b with | none => 0 | some x => x.t) % 2 ^ NRG.TARIFF.T.w := by
  have hflags (f : Nat → Nat) (t : State) (n : Nat) : Frame [] (· ≠ NRG.TARIFF.T) t
      (((((t.set (NRG.SFLAGS.MRK n) (field (f n) 0 1)).set (NRG.SFLAGS.INV n) (field (f n) 1 1)).set
        (NRG.SFLAGS.UNVER n) (field (f n) 2 1)).set (NRG.SFLAGS.CLAMP n) (field (f n) 3 1)).set
        (NRG.SFLAGS.WRAP n) (field (f n) 4 1)) :=
    .then (.then (.then (.then (State.set_frame _ _ _ _ (by nofun)) (State.set_frame _ _ _ _ (by nofun)))
      (State.set_frame _ _ _ _ (by nofun))) (State.set_frame _ _ _ _ (by nofun))) (State.set_frame _ _ _ _ (by nofun))
  have hbinds (f g h : Nat → Nat) (t : State) (n : Nat) : Frame [] (· ≠ NRG.TARIFF.T) t
      (((t.set (NRG.BIND.QTY n) (f n)).set (NRG.BIND.MODE n) (g n)).set (NRG.BIND.QD n) (h n)) :=
    .then (.then (State.set_frame _ _ _ _ (by nofun)) (State.set_frame _ _ _ _ (by nofun)))
      (State.set_frame _ _ _ _ (by nofun))
  obtain ⟨hget, hcomp⟩ := Frame.then (Frame.forN _ 72 (hflags _)) (Frame.forN _ 64 (hbinds _ _ _))
  exact ⟨hcomp .slots (by simp), (hget _ (by simp)).trans (State.get_set_same ..)⟩

theorem State.recover_slots (s : State) (cold : Bool) (kept : Nat) (n : Fin 72) :
    (s.recover cold kept).slots[n].tot =
      match s.restored cold with | none => 0 | some x => (x.slots.getD n SlotImg.zero).tot := by
  have hrebuilt : (s.recover cold kept).slots = (s.recoverTotals cold kept).slots :=
    (s.recover_rebuilt cold kept).comp (c := .slots) (by decide)
  have hkept : (s.recoverTotals cold kept).slots = (s.cairnFlags.restoreSlots (s.restored cold)).slots :=
    (s.recoverTotals_frame cold kept).comp (c := .slots) (by decide)
  rw [hrebuilt, hkept, (State.restoreSlots_kept ..).1]
  cases s.restored cold <;> simp [SlotImg.slot, SlotImg.zero]

theorem State.recover_tariff (s : State) (cold : Bool) (kept : Nat) :
    (s.recover cold kept).get NRG.TARIFF.T =
      match s.restored cold with | none => 0 | some x => x.t % 2 ^ NRG.TARIFF.T.w := by
  have hrebuilt := (s.recover_rebuilt cold kept).get (f := NRG.TARIFF.T) rfl
  have hkept : (s.recoverTotals cold kept).get NRG.TARIFF.T =
    (s.cairnFlags.restoreSlots (s.restored cold)).get NRG.TARIFF.T := (s.recoverTotals_frame cold kept).get rfl
  rw [hrebuilt, hkept, (State.restoreSlots_kept ..).2]
  cases s.restored cold <;> rfl

/-- The journal after the recovery: nothing staged, its numbers those of the belay restored. -/
theorem State.recover_jrnl (s : State) (cold : Bool) (kept : Nat) :
    (s.recover cold kept).jrnl.staged = [] ∧ (s.recover cold kept).jrnl.epoch = s.epochAfter cold kept ∧
      (s.recover cold kept).jrnl.gen = genOf (s.restored cold) ∧
      ∀ x, s.restored cold = some x → (s.recover cold kept).jrnl.lastord = x.lastord := by
  have hrebuilt : (s.recover cold kept).jrnl = (s.recoverTotals cold kept).jrnl :=
    (s.recover_rebuilt cold kept).comp (c := .jrnl) (by decide)
  rw [hrebuilt]
  refine ⟨rfl, rfl, rfl, fun x hx => ?_⟩
  show (match s.restored cold with | none => _ | some b => b.lastord) = _
  rw [hx]

/-- The gap record is owed; a reset decided is left as it stands. -/
theorem State.recover_pwr (s : State) (cold : Bool) (kept : Nat) :
    (s.recover cold kept).pwr.gap.isSome = true ∧ (s.recover cold kept).pwr.reset = s.pwr.reset := by
  have hrebuilt : (s.recover cold kept).pwr = (s.recoverTotals cold kept).pwr :=
    (s.recover_rebuilt cold kept).comp (c := .pwr) (by decide)
  have hjournal : ((s.cairnFlags.restoreSlots (s.restored cold)).recoverJournal (s.restored cold)
      (s.epochAfter cold kept)).pwr = (s.cairnFlags.restoreSlots (s.restored cold)).pwr :=
    (State.recoverJournal_frame ..).comp (c := .pwr) (by decide)
  have hslots : (s.cairnFlags.restoreSlots (s.restored cold)).pwr = s.pwr :=
    (s.restoreSlots_within (s.restored cold)).comp (c := .pwr) (by decide)
  rw [hrebuilt, State.recoverTotals, State.modPwr_pwr, hjournal, hslots]
  exact ⟨rfl, rfl⟩

/-- The recovery restores the newest valid generation. -/
theorem State.recover_recovered (s : State) (cold : Bool) (kept : Nat) : Recovered s (s.recover cold kept) cold := by
  obtain ⟨-, hepoch, hgen, hlastord⟩ := s.recover_jrnl cold kept
  refine ⟨s.recover_slots cold kept, s.recover_tariff cold kept, fun x hx => ?_⟩
  replace hx : s.restored cold = some x := hx
  refine ⟨?_, ?_, hlastord x hx⟩
  · rw [hepoch, State.epochAfter, hx]; rfl
  · rw [hgen, hx]; rfl

end Sys2Proof.Machine

namespace Sys2Proof.Machine
open Sys2Proof.Claims

/-! ## What a stop leaves (R511, R512) -/

/-- A filter by the keys leaves the entries of the keys that meet it and drops the others. -/
theorem sparseGet_filter_key {κ α : Type} [DecidableEq κ] (d : α) (k : κ) (p : κ × α → Bool) (q : κ → Bool)
    (hp : ∀ e, p e = q e.1) (l : List (κ × α)) :
    sparseGet d k (l.filter p) = if q k then sparseGet d k l else d := by
  induction l with
  | nil => simp [sparseGet]
  | cons e l ih =>
    obtain ⟨k', v⟩ := e
    by_cases hk : k' = k
    · subst hk
      cases hq : q k' <;> simp_all [sparseGet]
    · cases hq : q k' <;> simp_all [sparseGet]

/-- The fields that survive, and the two that are read again after the stop. -/
theorem State.keepFields_get (s : State) (cold s1 : Bool) (f : Fld) :
    (s.keepFields cold s1).get f =
      if f.surv.kept cold s1 || f == HOST.OUTSEQ.SEQ || f == RST.CAUSE.CAUSE then s.get f else f.reset :=
  sparseGet_filter_key f.reset f _ (fun f => f.surv.kept cold s1 || f == HOST.OUTSEQ.SEQ || f == RST.CAUSE.CAUSE)
    (fun _ => rfl) s.flds

/-- Main SRAM is cleared by every stop. -/
theorem State.dropAlwaysOn_sram (s : State) (cold : Bool) (a : Nat) (h : 0x10000000 ≤ a) (h' : a < 0x20000000) :
    (s.dropAlwaysOn cold).byte a = 0 := by
  cases cold with
  | true => exact if_neg (by omega)
  | false =>
    have hmem : (s.dropAlwaysOn false).mem = s.mem.filter (fun e => decide (0x20000000 ≤ e.1)) := rfl
    rw [State.byte, if_neg (by omega), hmem, sparseGet_filter_key 0 a _ (fun x => decide (0x20000000 ≤ x)) fun _ => rfl]
    exact if_neg (by simpa using h')

/-- Always-on SRAM is retained but at a cold start. -/
theorem State.dropAlwaysOn_aon (s : State) (a : Nat) (h : 0x20000000 ≤ a) : (s.dropAlwaysOn false).byte a = s.byte a := by
  have hmem : (s.dropAlwaysOn false).mem = s.mem.filter (fun e => decide (0x20000000 ≤ e.1)) := rfl
  rw [State.byte, State.byte, hmem, sparseGet_filter_key 0 a _ (fun x => decide (0x20000000 ≤ x)) fun _ => rfl,
    if_pos (c := decide _ = true) (by simpa using h)]

/-- Bytes that are the same read as the same run. -/
theorem State.bytes_congr {s t : State} {a n : Nat} (h : ∀ b, a ≤ b → t.byte b = s.byte b) : t.bytes a n = s.bytes a n := by
  induction n generalizing a with
  | zero => rfl
  | succ n ih => rw [State.bytes, State.bytes, h a le_rfl, ih fun b hb => h b (by omega)]

/-- A stop writes one register field at most: what an update was driving is unknown. -/
theorem State.dropVolatile_get (s : State) (cold s1 : Bool) {f : Fld} (h : f ≠ GLASS.BSTHI.UNKNOWN) :
    (s.dropVolatile cold s1).get f = s.get f := by
  cases cold with
  | true => rfl
  | false =>
    show (if s.updDriving then s.flag GLASS.BSTHI.UNKNOWN true else s).get f = s.get f
    split
    · exact State.get_set_other s (Ne.symm h) _
    · rfl

/-- A stop leaves these as they are. -/
theorem State.dropVolatile_kept (s : State) (cold s1 : Bool) :
    (s.dropVolatile cold s1).part = s.part ∧ (s.dropVolatile cold s1).pending = s.pending ∧
      (s.dropVolatile cold s1).cairn = s.cairn := by
  have hflag : (if s.updDriving then s.flag GLASS.BSTHI.UNKNOWN true else s).part = s.part ∧
      (if s.updDriving then s.flag GLASS.BSTHI.UNKNOWN true else s).pending = s.pending ∧
      (if s.updDriving then s.flag GLASS.BSTHI.UNKNOWN true else s).cairn = s.cairn := by
    split <;> exact ⟨rfl, rfl, rfl⟩
  cases cold with
  | true => exact ⟨rfl, rfl, rfl⟩
  | false => exact hflag

/-- The counts of an output that are kept over a warm start. -/
def pulseCount (f : Fld) : Prop := ∃ n, n < 4 ∧ (f = PULSE.BLOG.COUNT n ∨ f = PULSE.CNT.COUNT n)

theorem State.pulseKept_frame (s : State) (cold : Bool) :
    Frame [] (fun f => cold = false ∧ pulseCount f) s (s.pulseKept cold) := by
  cases cold with
  | true => exact .refl ..
  | false =>
    have hstep (t : State) (n : Fin 4) : Frame [] (fun f => false = false ∧ pulseCount f) t
        ((t.set (PULSE.BLOG.COUNT n) s.pulse[n].held.blog).set (PULSE.CNT.COUNT n) s.pulse[n].held.cnt) :=
      .then (State.set_frame _ _ _ _ ⟨rfl, n, n.isLt, .inl rfl⟩) (State.set_frame _ _ _ _ ⟨rfl, n, n.isLt, .inr rfl⟩)
    exact .then (.then (.then (hstep s 0) (hstep _ 1)) (hstep _ 2)) (hstep _ 3)

theorem State.pulseKept_get (s : State) (n : Fin 4) :
    (s.pulseKept false).get (PULSE.BLOG.COUNT n) = s.pulse[n].held.blog % 2 ^ 16 ∧
      (s.pulseKept false).get (PULSE.CNT.COUNT n) = s.pulse[n].held.cnt % 2 ^ 32 := by
  have hunfold : s.pulseKept false = [0, 1, 2, 3].foldl (fun (t : State) (n : Fin 4) =>
    (t.set (PULSE.BLOG.COUNT n) s.pulse[n].held.blog).set (PULSE.CNT.COUNT n) s.pulse[n].held.cnt) s := rfl
  fin_cases n <;> simp [hunfold, State.get_set, PULSE.BLOG.COUNT, PULSE.CNT.COUNT]

/-- The state that a start has before the recovery: power, cause, count of resets, the SLOW clock's state. -/
def State.started (s : State) (kind : Nat) (cold s1 : Bool) : State :=
  let t : State := { ((s.dropVolatile cold s1).keepFields cold s1).pulseKept cold with power := .on }
  let t := (t.set RST.CAUSE.PREV (if cold then 0 else s.get RST.CAUSE.CAUSE)).set RST.CAUSE.CAUSE kind
  let t := if cold then t else t.bump RST.NRESET.COUNT RST.NRESET.SAT
  t.flag SYS.STATUS.SLOWDEG (!t.slowGood)

theorem State.restart_eq (s : State) (kind : Nat) (cold s1 : Bool) :
    s.restart kind cold s1 = (s.started kind cold s1).recover cold s.jrnl.epoch := rfl

/-- The fields that a start writes before the recovery. -/
def startFlds : List Fld := [RST.CAUSE.PREV, RST.CAUSE.CAUSE, RST.NRESET.COUNT, RST.NRESET.SAT, SYS.STATUS.SLOWDEG]

theorem State.started_frame (s : State) (kind : Nat) (cold s1 : Bool) :
    Frame [.power] (fun f => cold = false ∧ pulseCount f ∨ f ∈ startFlds)
      ((s.dropVolatile cold s1).keepFields cold s1) (s.started kind cold s1) := by
  have hpower (t : State) {P : Fld → Prop} : Frame [.power] P t { t with power := .on } :=
    .of_flds rfl fun c hc => by
      cases c with
      | power => exact absurd (by decide) hc
      | _ => rfl
  have hcount (t : State) : Frame [.power] (fun f => cold = false ∧ pulseCount f ∨ f ∈ startFlds) t
      (if cold then t else t.bump RST.NRESET.COUNT RST.NRESET.SAT) := by
    split
    · exact .refl ..
    · exact State.bump_frame _ _ _ _ (.inr (by decide)) (.inr (by decide))
  have hpulse := (State.pulseKept_frame ((s.dropVolatile cold s1).keepFields cold s1) cold).mono
    (cs' := [.power]) (P' := fun f => cold = false ∧ pulseCount f ∨ f ∈ startFlds) nofun fun _ => .inl
  exact .then (.then (.then (.then (.then hpulse (hpower _)) (State.set_frame _ _ _ _ (.inr (by decide))))
    (State.set_frame _ _ _ _ (.inr (by decide)))) (hcount _)) (State.flag_frame _ _ _ _ (.inr (by decide)))

end Sys2Proof.Machine

namespace Sys2Proof.Machine
open Sys2Proof.Claims

/-! ## The state that a start leaves (R509, R511, R512) -/

/-- The writes of a start after the cause leave the other registers of the start alone. -/
theorem State.started_after (s : State) (kind : Nat) (cold s1 : Bool) {f : Fld}
    (hf : f ∉ [RST.NRESET.COUNT, RST.NRESET.SAT, SYS.STATUS.SLOWDEG]) :
    (s.started kind cold s1).get f =
      (((((s.dropVolatile cold s1).keepFields cold s1).pulseKept cold).set RST.CAUSE.PREV
        (if cold then 0 else s.get RST.CAUSE.CAUSE)).set RST.CAUSE.CAUSE kind).get f := by
  simp only [List.mem_cons, List.not_mem_nil, or_false, not_or] at hf
  obtain ⟨hcount, hsat, hslow⟩ := hf
  have hbump (t : State) : (if cold then t else t.bump RST.NRESET.COUNT RST.NRESET.SAT).get f = t.get f := by
    split
    · rfl
    · exact (State.bump_frame [] (P := (· ∈ [RST.NRESET.COUNT, RST.NRESET.SAT])) t _ _ (by simp) (by simp)).1 f
        (by simp [hcount, hsat])
  exact (State.get_set_other _ (Ne.symm hslow) _).trans (hbump _)

theorem State.started_cause (s : State) (kind : Nat) (cold s1 : Bool) :
    (s.started kind cold s1).get RST.CAUSE.CAUSE = kind % 256 ∧
      (s.started kind cold s1).get RST.CAUSE.PREV = if cold then 0 else s.get RST.CAUSE.CAUSE % 256 := by
  constructor
  · exact (s.started_after kind cold s1 (by decide)).trans (State.get_set_same ..)
  · have hprev := (s.started_after kind cold s1 (f := RST.CAUSE.PREV) (by decide)).trans
      ((State.get_set_other _ (by decide) _).trans (State.get_set_same ..))
    rw [hprev]
    split <;> rfl

theorem State.started_pulses (s : State) (kind : Nat) (s1 : Bool) (n : Fin 4) :
    (s.started kind false s1).get (PULSE.BLOG.COUNT n) = s.pulse[n].held.blog % 2 ^ 16 ∧
      (s.started kind false s1).get (PULSE.CNT.COUNT n) = s.pulse[n].held.cnt % 2 ^ 32 := by
  have hkept := State.pulseKept_get ((s.dropVolatile false s1).keepFields false s1) n
  have hheld : ((s.dropVolatile false s1).keepFields false s1).pulse[n].held = s.pulse[n].held := by
    simp [State.keepFields, State.dropVolatile, State.dropAlwaysOn]
  rw [hheld] at hkept
  have hset (f : Fld) (hf : f ∉ startFlds) : (s.started kind false s1).get f =
      (((s.dropVolatile false s1).keepFields false s1).pulseKept false).get f := by
    simp only [startFlds, List.mem_cons, List.not_mem_nil, or_false, not_or] at hf
    obtain ⟨hprev, hcause, hrest⟩ := hf
    exact (s.started_after kind false s1 (by simpa using hrest)).trans
      ((State.get_set_other _ (Ne.symm hcause) _).trans (State.get_set_other _ (Ne.symm hprev) _))
  have hunit (f : Fld) (h : f.unit = 33) : f ∉ startFlds := fun hm =>
    absurd h ((by decide : ∀ g ∈ startFlds, g.unit ≠ 33) f hm)
  exact ⟨(hset _ (hunit _ rfl)).trans hkept.1, (hset _ (hunit _ rfl)).trans hkept.2⟩

/-- The units whose fields follow their survival classes. -/
def classUnits : List Nat := [0x01, 0x02, 0x03, 0x14, 0x18, 0x19, 0x21, 0x24, 0x25, 0x30, 0x34, 0x40]

/-- Nothing but the survival classes rules these units' fields. -/
theorem State.restart_class (s : State) (kind : Nat) (cold s1 : Bool) {f : Fld} (hu : f.unit ∈ classUnits)
    (hp : cold = false → ∀ n, n < 4 → f ≠ PULSE.BLOG.COUNT n ∧ f ≠ PULSE.CNT.COUNT n) :
    (s.restart kind cold s1).get f = if f.surv.kept cold s1 then s.get f else f.reset := by
  have hne (g : Fld) (hg : g.unit ∉ classUnits) : f ≠ g := fun h => hg (h ▸ hu)
  have hrecover : (s.restart kind cold s1).get f = (s.started kind cold s1).get f := by
    refine State.recover_get _ cold s.jrnl.epoch ?_ ?_ <;>
      · simp only [classUnits, List.mem_cons, List.not_mem_nil, or_false] at hu
        obtain hu | hu | hu | hu | hu | hu | hu | hu | hu | hu | hu | hu := hu <;> rw [hu] <;> rfl
  have hstart : (s.started kind cold s1).get f = ((s.dropVolatile cold s1).keepFields cold s1).get f := by
    refine (s.started_frame kind cold s1).1 f ?_
    rintro (⟨hc, n, hn, h⟩ | h)
    · exact h.elim (hp hc n hn).1 (hp hc n hn).2
    · exact (by decide : ∀ g ∈ startFlds, g.unit ∉ classUnits) f h hu
  rw [hrecover, hstart, State.keepFields_get, State.dropVolatile_get _ _ _ (hne _ (by decide)),
    beq_false_of_ne (hne HOST.OUTSEQ.SEQ (by decide)), beq_false_of_ne (hne RST.CAUSE.CAUSE (by decide)),
    Bool.or_false, Bool.or_false]

theorem State.restart_comp (s : State) (kind : Nat) (cold s1 : Bool) {c : Comp}
    (hc : c ∉ .power :: (recoveredComps ++ rebuiltComps)) :
    c.same ((s.dropVolatile cold s1).keepFields cold s1) (s.restart kind cold s1) := by
  obtain ⟨hpower, hrest⟩ := not_or.1 (mt List.mem_cons.2 hc)
  have hstart := (s.started_frame kind cold s1).2 c (by simpa using hpower)
  have hrecover := (s.started kind cold s1).recover_comp cold s.jrnl.epoch hrest
  cases c <;> exact Eq.trans hrecover hstart

theorem State.restart_pwr (s : State) (kind : Nat) (cold s1 : Bool) :
    (s.restart kind cold s1).pwr.gap.isSome = true ∧ (s.restart kind cold s1).pwr.reset = none := by
  have hstart : (s.started kind cold s1).pwr = ((s.dropVolatile cold s1).keepFields cold s1).pwr :=
    (s.started_frame kind cold s1).2 .pwr (by decide)
  obtain ⟨hgap, hreset⟩ := (s.started kind cold s1).recover_pwr cold s.jrnl.epoch
  exact ⟨hgap, hreset.trans (congrArg PowerSt.reset hstart)⟩

theorem State.restart_power (s : State) (kind : Nat) (cold s1 : Bool) : (s.restart kind cold s1).power = .on := by
  have hstart : (s.started kind cold s1).power = .on := by
    cases cold with
    | true => rfl
    | false =>
      exact (State.bump_frame [] (P := fun _ => True) _ RST.NRESET.COUNT RST.NRESET.SAT trivial trivial).2 .power nofun
  exact Eq.trans ((s.started kind cold s1).recover_comp cold s.jrnl.epoch (c := .power) (by decide)) hstart

/-- A start of a kind leaves what its kind and the survival classes say. -/
theorem State.restart_restarted (s : State) (kind : Nat) (cold s1 : Bool) :
    Restarted s (s.restart kind cold s1) kind cold s1 := by
  have hcomp {c : Comp} (hc : c ∉ .power :: (recoveredComps ++ rebuiltComps)) := s.restart_comp kind cold s1 hc
  have hclock : (s.restart kind cold s1).clock = ((s.dropVolatile cold s1).keepFields cold s1).clock :=
    hcomp (c := .clock) (by decide)
  have hmem : (s.restart kind cold s1).mem = (s.dropAlwaysOn cold).mem := hcomp (c := .mem) (by decide)
  have hget {f : Fld} (h : recoveredUnits.contains f.unit = false) (h' : rebuiltUnits.contains f.unit = false) :
      (s.restart kind cold s1).get f = (s.started kind cold s1).get f := State.recover_get _ cold s.jrnl.epoch h h'
  obtain ⟨hcause, hprev⟩ := s.started_cause kind cold s1
  obtain ⟨hpart, hpending, -⟩ := s.dropVolatile_kept cold s1
  exact {
    power := s.restart_power kind cold s1
    cause := (hget rfl rfl).trans hcause
    prev := (hget rfl rfl).trans hprev
    pll := congrArg Clock.pllLock hclock
    lanes := hcomp (c := .lanes) (by decide)
    cues := hcomp (c := .cues) (by decide)
    staged := ((s.started kind cold s1).recover_jrnl cold s.jrnl.epoch).1
    gap := s.restart_pwr kind cold s1
    same := ⟨Eq.trans (hcomp (c := .part) (by decide)) hpart, Eq.trans (hcomp (c := .pending) (by decide)) hpending⟩
    now := congrArg Clock.now hclock
    pulses := by
      rintro rfl n
      obtain ⟨hblog, hcnt⟩ := s.started_pulses kind s1 n
      exact ⟨(hget rfl rfl).trans hblog, (hget rfl rfl).trans hcnt⟩
    sram := fun a ha ha' => by
      have hbyte : (s.restart kind cold s1).byte a = (s.dropAlwaysOn cold).byte a := by
        rw [State.byte, State.byte, hmem]
      rw [hbyte, s.dropAlwaysOn_sram cold a ha ha']
    fields := fun f hu hp => by
      rw [s.restart_class kind cold s1 hu hp]
      cases f.surv <;> cases cold <;> rfl }

/-- The halves of always-on SRAM are retained over a warm start. -/
theorem State.started_half (s : State) (kind : Nat) (s1 : Bool) (h : Nat) :
    (s.started kind false s1).half h = s.half h := by
  have hmem : (s.started kind false s1).mem = (s.dropAlwaysOn false).mem :=
    (s.started_frame kind false s1).2 .mem (by decide)
  have hbyte (a : Nat) (ha : halfAddr h ≤ a) : (s.started kind false s1).byte a = s.byte a := by
    rw [← s.dropAlwaysOn_aon a (by unfold halfAddr at ha; omega), State.byte, State.byte, hmem]
  rw [State.half, State.half, State.bytes_congr hbyte]

/-- Recovered speaks of the belay restored alone. -/
theorem recovered_congr {s s' t : State} {cold : Bool} (h : Recovered s t cold) (hb : s.restored cold = s'.restored cold) :
    Recovered s' t cold := by
  have hiff (u : State) : Recovered u t cold ↔ (∀ n : Fin 72, t.slots[n].tot =
      match u.restored cold with | none => 0 | some x => (x.slots.getD n SlotImg.zero).tot) ∧
    t.get NRG.TARIFF.T = (match u.restored cold with | none => 0 | some x => x.t % 2 ^ NRG.TARIFF.T.w) ∧
    ∀ x, u.restored cold = some x → t.jrnl.epoch = (x.epoch + if cold then 1 else 0) % 2 ^ 16 ∧ t.jrnl.gen = x.gen ∧
      t.jrnl.lastord = x.lastord := Iff.rfl
  rw [hiff, hb] at h
  rwa [hiff]

/-- A start restores the newest valid generation. -/
theorem State.restart_recovered (s : State) (kind : Nat) (cold s1 : Bool) : Recovered s (s.restart kind cold s1) cold := by
  have hcairn : (s.started kind cold s1).cairn = s.cairn :=
    Eq.trans ((s.started_frame kind cold s1).2 .cairn (by decide)) (s.dropVolatile_kept cold s1).2.2
  have hall := (s.started kind cold s1).recover_recovered cold s.jrnl.epoch
  have hhalves : (s.started kind cold s1).keptHalf cold = s.keptHalf cold := by
    cases cold with
    | true => simp only [State.keptHalf, if_true]
    | false => simp only [State.keptHalf, s.started_half kind s1]
  rw [← State.restart_eq] at hall
  exact recovered_congr hall (by
    rw [State.restored, State.restored, State.committedRec, State.committedRec, hcairn, hhalves])

end Sys2Proof.Machine

namespace Sys2Proof.Machine
open Sys2Proof.Claims

/-! ## What happens before a start: the link lost, open writes torn -/

theorem State.linkLost_frame (s : State) : Same [.link] [HOST.OUTSEQ.SEQ] s s.linkLost :=
  .then (State.set_frame _ s _ 0 (List.mem_singleton.2 rfl)) (.of_flds rfl fun c hc => by
    cases c with
    | link => exact absurd (by decide) hc
    | _ => rfl)

/-- What a torn write may change. -/
abbrev Torn (s t : State) : Prop := Same [.cairn, .free, .mem] [] s t

/-- Those components changed. -/
theorem torn_update {s₀ s : State} {cairn free mem} (h : Torn s₀ s) : Torn s₀ { s with cairn, free, mem } :=
  .then h (.of_flds rfl fun c hc => by
    cases c with
    | cairn | free | mem => exact absurd (by decide) hc
    | _ => rfl)

/-- A write torn where it had begun. -/
theorem torn_where {s₀ s : State} {c : Prop} [Decidable c] {torn : State → State} (h : Torn s₀ s)
    (ht : ∀ t, Torn s₀ t → Torn s₀ (torn t)) :
    Torn s₀ (if c then if s.openBit.1 then torn s.openBit.2 else s.openBit.2 else s) := by
  have hopen : Torn s₀ s.openBit.2 := torn_update h
  split
  · split
    · exact ht _ hopen
    · exact hopen
  · exact h

theorem State.tear_frame (s : State) : Torn s s.tear :=
  torn_where (torn := State.tearHalf) (torn_where (torn := fun t => { t with cairn := t.cairn.tearOrder _ })
    (torn_where (torn := fun t => { t with cairn := t.cairn.tearCarry })
      (torn_where (torn := fun t => { t with cairn := t.cairn.tearState }) (.refl ..) fun _ => torn_update)
      fun _ => torn_update) fun _ => torn_update)
    fun _ h => .then h (State.setBytes_frame _ _ _ _ _ (by decide))

/-- What a stop may change before the start. -/
abbrev Stopped (s t : State) : Prop := Same [.cairn, .free, .mem, .link] [HOST.OUTSEQ.SEQ] s t

theorem State.linkLost_stopped (s : State) : Stopped s s.linkLost := s.linkLost_frame.mono (by decide) fun _ h => h

theorem State.tear_stopped (s : State) : Stopped s s.tear := s.tear_frame.mono (by decide) nofun

/-- With no other write open, an order's entry alone can be torn. -/
theorem State.tear_settled (s : State) (h : Settled s) :
    s.tear.mem = s.mem ∧ s.tear.cairn.stA = s.cairn.stA ∧ s.tear.cairn.stB = s.cairn.stB := by
  obtain ⟨hwriting, hcarry, haon⟩ := h
  have htear : s.tear = if s.orderArriving then
      if s.openBit.1 then { s.openBit.2 with cairn := s.openBit.2.cairn.tearOrder s.jrnl.nextord } else s.openBit.2
    else s := by
    simp only [State.tear, hwriting, hcarry, Bool.false_eq_true, if_false, Option.isSome_none]
    split
    · split <;> exact if_neg (by simp [State.openBit, haon])
    · exact if_neg (by simp [haon])
  rw [htear]
  split
  · split <;> exact ⟨rfl, rfl, rfl⟩
  · exact ⟨rfl, rfl, rfl⟩

/-- What a start leaves is said of the registers, the part and the outputs alone. -/
theorem restarted_of_stopped {s s' t : State} {kind : Nat} {cold s1 : Bool} (hs : Stopped s s')
    (h : Restarted s' t kind cold s1) : Restarted s t kind cold s1 := by
  have hpart : s'.part = s.part := hs.2 .part (by decide)
  have hpending : s'.pending = s.pending := hs.2 .pending (by decide)
  have hpulse : s'.pulse = s.pulse := hs.2 .pulse (by decide)
  exact { h with
    prev := by rw [h.prev, Same.get hs (by decide)]
    same := ⟨h.same.1.trans hpart, h.same.2.trans hpending⟩
    pulses := fun hc n => by rw [← hpulse]; exact h.pulses hc n
    fields := fun f hu hp => by
      have hf : f ∉ [HOST.OUTSEQ.SEQ] := fun hm => by
        rw [List.mem_singleton.1 hm] at hu
        exact absurd hu (by decide)
      rw [h.fields f hu hp, Same.get hs hf] }

/-- What is restored is said of the two memories alone. -/
theorem restored_congr {s s' : State} (hm : s'.mem = s.mem) (ha : s'.cairn.stA = s.cairn.stA)
    (hb : s'.cairn.stB = s.cairn.stB) (cold : Bool) : s'.restored cold = s.restored cold := by
  have hbyte (a : Nat) : s'.byte a = s.byte a := by rw [State.byte, State.byte, hm]
  have hhalf (h : Nat) : s'.half h = s.half h := by rw [State.half, State.half, State.bytes_congr fun a _ => hbyte a]
  simp only [State.restored, State.committedRec, State.keptHalf, ha, hb, hhalf]

/-- A start after a stop without warning. -/
theorem State.tear_restart (s : State) {s' : State} (hs : Stopped s s') (kind : Nat) (hm : s'.mem = s.mem)
    (hc : s'.cairn = s.cairn) (hj : s'.jrnl = s.jrnl) :
    Restarted s (s'.tear.restart kind false false) kind false false ∧
      (Settled s → Recovered s (s'.tear.restart kind false false) false) := by
  refine ⟨restarted_of_stopped (.then hs s'.tear_stopped) (State.restart_restarted ..), fun hsettled => ?_⟩
  have hw : s'.cairnWriting = s.cairnWriting := by
    simp only [State.cairnWriting, State.portHeld, hj, Same.get hs (f := LEASE.HOLD.STATE 0) (by decide),
      Same.get hs (f := LEASE.HOLD.HOLDER 0) (by decide)]
  obtain ⟨hmem, hstA, hstB⟩ := s'.tear_settled (by rwa [Settled, hw, hj])
  exact recovered_congr (State.restart_recovered ..)
    (restored_congr (hmem.trans hm) (by rw [hstA, hc]) (by rw [hstB, hc]) false)

/-! ## The commands that start anew (R347, R509, R511, R530) -/

/-- The reset decided is made once its belay is committed or its time is up. -/
theorem exec_resetAssert (s : State) (hp : s.power = .on) {d : ResetDue} (hd : s.pwr.reset = some d)
    (h : d.grain + 48 ≤ s.clock.grain ∨ .prereset ∉ s.jrnl.due ∧ s.jrnl.cairnPend = none ∧
      ∃ b, s.jrnl.committed = some b ∧ b.kind = 4 ∧ d.grain < b.snap) :
    exec .resetAssert s = .next (s.tear.restart d.kind false false) := by
  have hbelayed : s.resetBelayed d = true ∨ d.grain + 48 ≤ s.clock.grain := by
    refine h.symm.imp (fun ⟨hdue, hpend, b, hb, hkind, hsnap⟩ => ?_) id
    simp [State.resetBelayed, hdue, hpend, hb, hkind, hsnap]
  show execResetAssert s = _
  unfold execResetAssert
  rw [hd]
  exact congrArg _ (if_pos ⟨hp, hbelayed⟩)

theorem exec_brownOut (s : State) (hp : s.power = .on) : exec .brownOut s = .next (s.tear.restart 4 false false) :=
  congrArg _ (if_pos hp)

theorem exec_hreset (s : State) (hv : s.link.hvdd = true) :
    exec .hreset s = .next (if s.power = .on then s.linkLost.tear.restart 9 false false else s.linkLost) :=
  congrArg _ (if_neg (not_not_intro hv))

theorem exec_mainsReturn (s : State) (save aon : Bool) (hp : s.power = .bivouac) (hs : s.pwr.saved = true) :
    exec (.mainsReturn save aon) s = .next (if ¬ aon then s.restart 1 true false
      else if save then (s.restart 3 false true).expFromMark
      else (s.restart 2 false false).flag RST.CAUSE.SAVEBAD true) := congrArg _ (if_pos ⟨hp, hs⟩)

theorem exec_mainsUp_cold (s : State) (aon : Bool)
    (h : s.power = .off ∨ s.power = .bivouac ∧ s.pwr.saved = false ∧ aon = false) :
    exec (.mainsUp aon) s = .next (s.restart 1 true false) := by
  show execMainsUp aon s = _
  unfold execMainsUp
  obtain hp | ⟨hp, hs, rfl⟩ := h
  · rw [hp]
  · rw [hp, hs]
    rfl

theorem exec_mainsUp_warm (s : State) (hp : s.power = .bivouac) (hs : s.pwr.saved = false) :
    exec (.mainsUp true) s = .next (s.restart 2 false false) := by
  show execMainsUp true s = _
  unfold execMainsUp
  rw [hp, hs]
  rfl

/-- A write of a register outside those named leaves what a start is said to leave. -/
theorem restarted_set {s t : State} {kind : Nat} {cold s1 : Bool} (h : Restarted s t kind cold s1) {f : Fld} (v : Nat)
    (hu : f.unit ∉ classUnits) (hcause : f ≠ RST.CAUSE.CAUSE) (hprev : f ≠ RST.CAUSE.PREV) :
    Restarted s (t.set f v) kind cold s1 := by
  have hget {g : Fld} (hg : g.unit ∈ classUnits) : (t.set f v).get g = t.get g :=
    State.get_set_other t (fun h : f = g => hu (h ▸ hg)) v
  exact { h with
    cause := (State.get_set_other t hcause v).trans h.cause
    prev := (State.get_set_other t hprev v).trans h.prev
    pulses := fun hc n => by
      rw [hget (g := PULSE.BLOG.COUNT n) (by simp [PULSE.BLOG.COUNT, classUnits]),
        hget (g := PULSE.CNT.COUNT n) (by simp [PULSE.CNT.COUNT, classUnits])]
      exact h.pulses hc n
    fields := fun g hg hp => (hget hg).trans (h.fields g hg hp) }

/-- Nor does it touch the totals. -/
theorem recovered_set {s t : State} {cold : Bool} (h : Recovered s t cold) {f : Fld} (v : Nat)
    (hf : f ≠ NRG.TARIFF.T) : Recovered s (t.set f v) cold := by
  obtain ⟨hslots, htariff, hjrnl⟩ := h
  exact ⟨hslots, (State.get_set_other t hf v).trans htariff, hjrnl⟩

/-- A bivouac exit: EXP is one on from the watermark (R529). -/
theorem State.restart_expFromMark (s : State) :
    Restarted s (s.restart 3 false true).expFromMark 3 false true ∧ Recovered s (s.restart 3 false true).expFromMark false ∧
      (s.restart 3 false true).expFromMark.get HOST.EXP.SEQ =
        ((s.restart 3 false true).expFromMark.get HOST.WMARK.SEQ + 1) % 2 ^ 32 ∧
      (s.restart 3 false true).expFromMark.on HOST.STATUS.EXPVALID = true := by
  generalize ht : s.restart 3 false true = t
  have hr : Restarted s t 3 false true := ht ▸ s.restart_restarted 3 false true
  have hc : Recovered s t false := ht ▸ s.restart_recovered 3 false true
  refine ⟨restarted_set (restarted_set hr _ (by decide) (by decide) (by decide)) _ (by decide) (by decide) (by decide),
    recovered_set (recovered_set hc _ (by decide)) _ (by decide), ?_, State.on_flag_same _ true rfl⟩
  have hexp : t.expFromMark.get HOST.EXP.SEQ = (t.get HOST.WMARK.SEQ + 1) % 2 ^ 32 :=
    (State.get_set_other _ (by decide) _).trans (State.get_set_same ..)
  have hmark : t.expFromMark.get HOST.WMARK.SEQ = t.get HOST.WMARK.SEQ :=
    (State.get_set_other _ (by decide) _).trans (State.get_set_other _ (by decide) _)
  rw [hexp, hmark]

/-- A save that fails its check: a warm start with SAVEBAD (R509). -/
theorem State.restart_saveBad (s : State) :
    Restarted s ((s.restart 2 false false).flag RST.CAUSE.SAVEBAD true) 2 false false ∧
      Recovered s ((s.restart 2 false false).flag RST.CAUSE.SAVEBAD true) false ∧
      ((s.restart 2 false false).flag RST.CAUSE.SAVEBAD true).on RST.CAUSE.SAVEBAD = true :=
  ⟨restarted_set (s.restart_restarted 2 false false) _ (by decide) (by decide) (by decide),
    recovered_set (s.restart_recovered 2 false false) _ (by decide), State.on_flag_same _ true rfl⟩

/-- The host die's link state after HRESET (R530). -/
theorem State.linkLost_link (s : State) :
    s.linkLost.get HOST.OUTSEQ.SEQ = 0 ∧ s.linkLost.link.inb = [] ∧ s.linkLost.link.outb = [] :=
  ⟨State.get_set_same s HOST.OUTSEQ.SEQ 0, rfl, rfl⟩

/-- The module SEQ and the outbound buffer are the host die's: a start leaves them. -/
theorem State.restart_link (s : State) (kind : Nat) (cold s1 : Bool) :
    (s.restart kind cold s1).get HOST.OUTSEQ.SEQ = s.get HOST.OUTSEQ.SEQ ∧ (s.restart kind cold s1).link.inb = [] ∧
      (s.restart kind cold s1).link.outb = s.link.outb := by
  have hlink : (s.restart kind cold s1).link = (s.dropVolatile cold s1).link :=
    s.restart_comp kind cold s1 (c := .link) (by decide)
  have hstart : (s.started kind cold s1).get HOST.OUTSEQ.SEQ =
      ((s.dropVolatile cold s1).keepFields cold s1).get HOST.OUTSEQ.SEQ := by
    refine (s.started_frame kind cold s1).1 _ ?_
    rintro (⟨-, n, -, h | h⟩ | h)
    · simp [HOST.OUTSEQ.SEQ, PULSE.BLOG.COUNT] at h
    · simp [HOST.OUTSEQ.SEQ, PULSE.CNT.COUNT] at h
    · exact absurd h (by decide)
  have hkept : ((s.dropVolatile cold s1).keepFields cold s1).get HOST.OUTSEQ.SEQ = s.get HOST.OUTSEQ.SEQ := by
    rw [State.keepFields_get, if_pos (by simp), State.dropVolatile_get _ _ _ (by decide)]
  have houtb : (s.dropVolatile cold s1).link.outb = s.link.outb := rfl
  exact ⟨(State.recover_get _ cold s.jrnl.epoch rfl rfl).trans (hstart.trans hkept), congrArg LinkSt.inb hlink,
    (congrArg LinkSt.outb hlink).trans houtb⟩

end Sys2Proof.Machine

namespace Sys2Proof.Machine
open Sys2Proof.Claims

/-! ## The rest of a start once the PLL locks (R70, R72, R349, R554) -/

/-- The components and the units that the checks, the measures and the staged records of a start write. -/
def bootComps : List Comp := [.access, .jrnl, .free, .mem, .tamp]
def bootUnits : List Nat := [0x00, 0x08, 0x2C, 0x3C, 0x3D]

/-- t has what was staged in s, and more staged at most. -/
def Booted (s t : State) : Prop := Within bootComps bootUnits s t ∧ s.jrnl.staged <+: t.jrnl.staged

section
variable {s₀ s t : State}

theorem Booted.refl (s : State) : Booted s s := ⟨.refl s, List.prefix_rfl⟩

theorem Booted.trans (h : Booted s₀ s) (h' : Booted s t) : Booted s₀ t :=
  ⟨h.1.trans h'.1, h.2.trans h'.2⟩

theorem Booted.set {f : Fld} {v : Nat} (h : Booted s₀ s) (hf : bootUnits.contains f.unit = true) :
    Booted s₀ (s.set f v) := ⟨h.1.set hf, h.2⟩

theorem Booted.flag {f : Fld} {b : Bool} (h : Booted s₀ s) (hf : bootUnits.contains f.unit = true) :
    Booted s₀ (s.flag f b) := h.set hf

theorem Booted.ite {c : Prop} [Decidable c] (h : Booted s₀ s) (h' : Booted s₀ t) : Booted s₀ (if c then s else t) := by
  split
  · exact h
  · exact h'

theorem Booted.foldl {α : Type} {f : State → α → State} {l : List α} (h : Booted s₀ s)
    (hf : ∀ t x, Booted s₀ t → Booted s₀ (f t x)) : Booted s₀ (l.foldl f s) := by
  induction l generalizing s with
  | nil => exact h
  | cons x l ih => exact ih (hf s x h)

/-- What a start writes besides the journal. -/
theorem Booted.update {access free mem tamp} (h : Booted s₀ s) : Booted s₀ { s with access, free, mem, tamp } :=
  h.trans ⟨.of_flds rfl fun c hc => by
    cases c with
    | access | free | mem | tamp => exact absurd (by decide) hc
    | _ => rfl, List.prefix_rfl⟩

theorem Booted.modJrnl {jrnl : Jrnl} (h : Booted s₀ s) (hj : s.jrnl.staged <+: jrnl.staged) :
    Booted s₀ { s with jrnl } :=
  h.trans ⟨.of_flds rfl fun c hc => by
    cases c with
    | jrnl => exact absurd (by decide) hc
    | _ => rfl, hj⟩

theorem Booted.stageAt {type grain : Nat} {reconstructed : Bool} {body : List Byte} (h : Booted s₀ s) :
    Booted s₀ (s.stageAt type grain reconstructed body) := h.modJrnl (List.prefix_append ..)

theorem Booted.arrive {src : Nat} (h : Booted s₀ s) : Booted s₀ (s.arrive src) :=
  h.trans ⟨State.arrive_frame _ s src fun f hf => by
      simp only [arrivalOf, List.mem_cons, List.not_mem_nil, or_false] at hf
      obtain rfl | rfl | rfl := hf <;> rfl,
    by
      have hj : (s.arrive src).jrnl = s.jrnl :=
        (State.arrive_frame [] (P := fun _ => True) s src fun _ _ => trivial).2 .jrnl nofun
      rw [hj]⟩

theorem Booted.checkTrims (h : Booted s₀ s) : Booted s₀ s.checkTrims :=
  ((((h.flag rfl).flag rfl).flag rfl).flag rfl).flag rfl

theorem Booted.measureBoot (h : Booted s₀ s) : Booted s₀ s.measureBoot :=
  h.foldl fun _ _ ht => .update (.ite (ht.set rfl) ht)

theorem Booted.stageOwed (h : Booted s₀ s) : Booted s₀ s.stageOwed := by
  unfold State.stageOwed
  split
  · exact h
  · exact h.stageAt

theorem Booted.stageRetirements (h : Booted s₀ s) : Booted s₀ s.stageRetirements :=
  .modJrnl (h.foldl fun _ _ ht => ht.stageAt) List.prefix_rfl

theorem Booted.rebuiltData {e : QEntry} (h : Booted s₀ s) : Booted s₀ (s.rebuiltData e).2 := by
  unfold State.rebuiltData
  split
  · exact h.update
  · split
    · exact h
    · split
      · exact h
      · exact h.update

theorem Booted.stageOutcomes (h : Booted s₀ s) : Booted s₀ s.stageOutcomes :=
  h.foldl fun _ _ ht => ht.rebuiltData.stageAt

theorem Booted.setBytes {a : Nat} {bs : List Byte} (h : Booted s₀ s) : Booted s₀ (s.setBytes a bs) := h.update

theorem Booted.modTamp {f : Tamp → Tamp} (h : Booted s₀ s) : Booted s₀ (s.modTamp f) := h.update

theorem Booted.belayDue {k : BelayKind} (h : Booted s₀ s) : Booted s₀ (s.belayDue k) :=
  .ite h (h.modJrnl List.prefix_rfl)

theorem Booted.stageRing (h : Booted s₀ s) : Booted s₀ s.stageRing :=
  .ite h (.belayDue (.set (.setBytes (.modTamp (h.foldl fun _ _ ht => .ite ht.stageAt.arrive ht.stageAt))) rfl))

end

/-- The cell-only ring is empty once its entries are staged. -/
theorem State.stageRing_ring (s : State) : s.stageRing.tamp.ring = [] := by
  have hdue (t : State) (k : BelayKind) : (t.belayDue k).tamp = t.tamp := by unfold State.belayDue; split <;> rfl
  unfold State.stageRing
  split
  · next h => exact h
  · rw [hdue]; rfl

/-- The gap record owed is staged. -/
theorem State.stageOwed_staged (s : State) (h : s.pwr.gap.isSome = true) : ∃ r ∈ s.stageOwed.jrnl.staged, r.type = 5 := by
  obtain ⟨g, hg⟩ := Option.isSome_iff_exists.1 h
  have hstaged : s.stageOwed = s.stageGap g.start s.clock.grain g.cause g.flags g.epoch := by
    rw [State.stageOwed, hg]
  rw [hstaged]
  exact ⟨_, List.mem_append_right _ (List.mem_singleton.2 rfl), rfl⟩

/-- The clock after the lock: from the tie where there is one, 0 without. -/
theorem State.startGrains_clock (s : State) :
    s.startGrains.clock.pllLock = true ∧
      (s.clock.tie = none → s.startGrains.clock.grain = 0 ∧ s.startGrains.clock.phase = 0) ∧
      ∀ τ, s.clock.tie = some τ → s.startGrains.clock.phase < 6400 ∧
        6400 * s.startGrains.clock.grain + s.startGrains.clock.phase =
          6400 * τ.grain + τ.phase + 6250 * (s.clock.rtc - τ.rtc) := by
  have hclock : s.startGrains.clock = { s.clock with
    pllLock := true
    grain := (match s.clock.tie with | none => (0, 0) | some t => rebuild t s.clock.rtc).1
    phase := (match s.clock.tie with | none => (0, 0) | some t => rebuild t s.clock.rtc).2
    glen := 6400 } := rfl
  rw [hclock]
  refine ⟨rfl, fun h => ?_, fun τ h => ?_⟩
  · simp only [h, and_self]
  · simp only [h, rebuild]
    omega

theorem State.startGrains_kept (s : State) :
    s.startGrains.get TIME.TRK.STATE = 0 ∧ s.startGrains.pwr = s.pwr ∧ s.startGrains.slots = s.slots ∧
      s.startGrains.cairn = s.cairn ∧ s.startGrains.lanes = s.lanes :=
  ⟨(State.get_set_other _ (f := TIME.TRK.QUAL) (by decide) 0).trans (State.get_set_same _ TIME.TRK.STATE 0),
    rfl, rfl, rfl, rfl⟩

/-- The start report is owed, or stands at the end of the outbound buffer. -/
theorem State.sendReport_placed (s : State) (h : s.link.owed = true) :
    s.sendReport.link.owed = true ∨
      ∃ b, s.sendReport.link.outb.getLast? = some b ∧ byteAt b 2 = 0x85 ∧ byteAt b 16 = 1 := by
  unfold State.sendReport
  split
  · exact .inr ⟨_, List.getLast?_concat, rfl, rfl⟩
  · exact .inl h

theorem State.sendReport_frame (s : State) : Same [.link] [HOST.OUTSEQ.SEQ] s s.sendReport := by
  have hlink (t : State) (f : LinkSt → LinkSt) : Same [.link] [HOST.OUTSEQ.SEQ] t (t.modLink f) :=
    .of_flds rfl fun c hc => by
      cases c with
      | link => exact absurd (by decide) hc
      | _ => rfl
  unfold State.sendReport
  split
  · exact .then (.then (hlink ..) (State.set_frame _ _ _ _ (List.mem_singleton.2 rfl))) (hlink ..)
  · exact .refl ..

/-- The state before base camp runs: trims checked, the boot measured, the records of the start staged. -/
def State.bootStaged (s : State) : State :=
  s.startGrains.checkTrims.measureBoot.stageOwed.stageRetirements.stageOutcomes.stageRing

theorem State.bootStaged_booted (s : State) : Booted s.startGrains s.bootStaged :=
  (Booted.refl s.startGrains).checkTrims.measureBoot.stageOwed.stageRetirements.stageOutcomes.stageRing

/-- Base camp runs and the report is owed. -/
def State.reportOwed (s : State) : State :=
  (s.flag NRG.BCSTAT.BCRUN true).modLink fun l =>
    { l with report := (s.flag NRG.BCSTAT.BCRUN true).startReport, owed := true }

theorem State.bootDone_eq (s : State) : s.bootDone = s.bootStaged.reportOwed.sendReport := rfl

/-- The start's own gap record is staged with the rest. -/
theorem State.bootStaged_gap (s : State) (h : s.pwr.gap.isSome = true) : ∃ r ∈ s.bootStaged.jrnl.staged, r.type = 5 := by
  have hpwr : s.startGrains.checkTrims.measureBoot.pwr = s.startGrains.pwr :=
    (Booted.refl s.startGrains).checkTrims.measureBoot.1.comp (c := .pwr) (by decide)
  obtain ⟨r, hr, htype⟩ := s.startGrains.checkTrims.measureBoot.stageOwed_staged (by rw [hpwr, s.startGrains_kept.2.1, h])
  have hmore := (Booted.refl s.startGrains.checkTrims.measureBoot.stageOwed).stageRetirements.stageOutcomes.stageRing.2
  exact ⟨r, hmore.subset hr, htype⟩

/-- The last steps of a start leave the rest as the staged records left it. -/
theorem State.reportOwed_kept (s : State) :
    (∀ f : Fld, f.unit ≠ 72 → f ≠ NRG.BCSTAT.BCRUN → s.reportOwed.sendReport.get f = s.get f) ∧
      s.reportOwed.sendReport.on NRG.BCSTAT.BCRUN = true ∧ ∀ c : Comp, c ≠ .link → c.same s s.reportOwed.sendReport := by
  obtain ⟨hget, hcomp⟩ := s.reportOwed.sendReport_frame
  refine ⟨fun f hu hf => ?_, ?_, fun c hc => ?_⟩
  · have hseq : f ∉ [HOST.OUTSEQ.SEQ] := fun hm => hu (List.mem_singleton.1 hm ▸ rfl)
    exact (hget f hseq).trans (State.get_set_other s (Ne.symm hf) (ofB true))
  · exact (State.on_of_get (hget NRG.BCSTAT.BCRUN (by decide))).trans (State.on_flag_same s true rfl)
  · have hsent := hcomp c (by simpa using hc)
    cases c with
    | link => exact absurd rfl hc
    | _ => exact hsent

theorem exec_pllLock (s : State) (hp : s.power = .on) (hl : s.clock.pllLock = false) :
    exec .pllLock s = .next s.bootDone := congrArg _ (if_pos ⟨hp, by simp [hl]⟩)

/-- What the lock of the PLL leaves. -/
theorem State.bootDone_started (s : State) :
    s.bootDone.clock.pllLock = true ∧
      (s.clock.tie = none → s.bootDone.clock.grain = 0 ∧ s.bootDone.clock.phase = 0) ∧
      (∀ τ, s.clock.tie = some τ → τ.rtc ≤ s.clock.rtc → s.bootDone.clock.phase < 6400 ∧
        6400 * s.bootDone.clock.grain + s.bootDone.clock.phase =
          6400 * τ.grain + τ.phase + 6250 * (s.clock.rtc - τ.rtc)) ∧
      s.bootDone.get TIME.TRK.STATE = 0 ∧ s.bootDone.on NRG.BCSTAT.BCRUN = true ∧ s.bootDone.tamp.ring = [] ∧
      (s.pwr.gap.isSome = true → ∃ r ∈ s.bootDone.jrnl.staged, r.type = 5) ∧
      (s.bootDone.link.owed = true ∨
        ∃ b, s.bootDone.link.outb.getLast? = some b ∧ byteAt b 2 = 0x85 ∧ byteAt b 16 = 1) ∧
      s.bootDone.slots = s.slots ∧ s.bootDone.cairn = s.cairn ∧ s.bootDone.lanes = s.lanes := by
  obtain ⟨hget, hrun, hcomp⟩ := s.bootStaged.reportOwed_kept
  rw [← State.bootDone_eq] at hget hrun hcomp
  obtain ⟨htrk, -, hslots, hcairn, hlanes⟩ := s.startGrains_kept
  obtain ⟨hlock, hnone, htie⟩ := s.startGrains_clock
  have hbooted := s.bootStaged_booted.1
  have hclock : s.bootDone.clock = s.startGrains.clock :=
    Eq.trans (hcomp .clock nofun) (hbooted.comp (c := .clock) (by decide))
  have htamp : s.bootDone.tamp = s.bootStaged.tamp := hcomp .tamp nofun
  have hjrnl : s.bootDone.jrnl = s.bootStaged.jrnl := hcomp .jrnl nofun
  rw [hclock, htamp, hjrnl]
  exact ⟨hlock, hnone, fun τ hτ _ => htie τ hτ,
    (hget _ (by decide) (by decide)).trans ((hbooted.get rfl).trans htrk), hrun, State.stageRing_ring _, s.bootStaged_gap,
    s.bootStaged.reportOwed.sendReport_placed rfl,
    (Eq.trans (hcomp .slots nofun) (hbooted.comp (c := .slots) (by decide))).trans hslots,
    (Eq.trans (hcomp .cairn nofun) (hbooted.comp (c := .cairn) (by decide))).trans hcairn,
    (Eq.trans (hcomp .lanes nofun) (hbooted.comp (c := .lanes) (by decide))).trans hlanes⟩

/-! ## The obligation -/

/-- HRESET clears the host link whether the mains side starts anew or not. -/
theorem exec_hreset_link (s : State) (hv : s.link.hvdd = true) :
    ∃ t, exec .hreset s = .next t ∧ t.get HOST.OUTSEQ.SEQ = 0 ∧ t.link.inb = [] ∧ t.link.outb = [] ∧
      (s.power ≠ .on → Same [.link] [HOST.OUTSEQ.SEQ] s t) := by
  obtain ⟨hseq, hin, hout⟩ := s.linkLost_link
  rw [exec_hreset s hv]
  by_cases hp : s.power = .on
  · rw [if_pos hp]
    obtain ⟨hseq', hin', hout'⟩ := State.restart_link s.linkLost.tear 9 false false
    have hlink : s.linkLost.tear.link = s.linkLost.link := s.linkLost.tear_frame.2 .link (by decide)
    have hget : s.linkLost.tear.get HOST.OUTSEQ.SEQ = s.linkLost.get HOST.OUTSEQ.SEQ := s.linkLost.tear_frame.get (by decide)
    exact ⟨_, rfl, (hseq'.trans hget).trans hseq, hin', (hout'.trans (congrArg LinkSt.outb hlink)).trans hout,
      fun h => absurd hp h⟩
  · rw [if_neg hp]
    exact ⟨_, rfl, hseq, hin, hout, fun _ => s.linkLost_frame⟩

/-- Settles O47: each command is a start of its kind, whose state `restart_restarted` and `restart_recovered` give, a stop
before it tearing nothing that is recovered; the lock of the PLL is the rest of the start. -/
theorem restarts : Obligations.Restarts := by
  intro s starts
  refine ⟨fun hp => ⟨fun d hd h => ?_, ?_, fun hv => ?_⟩, exec_hreset_link s, fun aon save hp hs => ?_,
    fun aon => ⟨fun h => ?_, fun hp hs ha => ?_⟩, fun hp hl => ⟨_, exec_pllLock s hp hl, s.bootDone_started⟩⟩
  · obtain ⟨hstart, hrec⟩ := s.tear_restart (.refl ..) d.kind rfl rfl rfl
    exact ⟨_, exec_resetAssert s hp hd h, hstart, hrec⟩
  · obtain ⟨hstart, hrec⟩ := s.tear_restart (.refl ..) 4 rfl rfl rfl
    exact ⟨_, exec_brownOut s hp, hstart, hrec⟩
  · obtain ⟨hstart, hrec⟩ := s.tear_restart s.linkLost_stopped 9 rfl rfl rfl
    exact ⟨_, (exec_hreset s hv).trans (congrArg _ (if_pos hp)), hstart, hrec⟩
  · refine ⟨_, exec_mainsReturn s save aon hp hs, ?_, ?_, ?_⟩
    · rintro rfl
      exact ⟨s.restart_restarted 1 true false, s.restart_recovered 1 true false⟩
    · rintro rfl rfl
      exact s.restart_expFromMark
    · rintro rfl rfl
      exact s.restart_saveBad
  · exact ⟨_, exec_mainsUp_cold s aon h, s.restart_restarted 1 true false, s.restart_recovered 1 true false⟩
  · subst ha
    exact ⟨_, exec_mainsUp_warm s hp hs, s.restart_restarted 2 false false, s.restart_recovered 2 false false⟩

end Sys2Proof.Machine

namespace Sys2Proof.Machine
open Sys2Proof.Claims

/-! SUPPORT. CUE: the checks in their order, the table's entry, a lane's queue (R86, R87, R94, R224). -/

/-! ## The table (R87) -/

/-- An entry stands after those due no later and before the first that is due later. -/
theorem cueInsert_place (c : Cue) (l : List Cue) : ∃ pre post, l = pre ++ post ∧ cueInsert c l = pre ++ c :: post ∧
    (∀ x ∈ pre, x.due ≤ c.due) ∧ ∀ x, post.head? = some x → c.due < x.due := by
  induction l with
  | nil => exact ⟨[], [], rfl, rfl, nofun, nofun⟩
  | cons y l ih =>
    rw [cueInsert]
    split
    · next h => exact ⟨[], y :: l, rfl, rfl, nofun, fun x hx => by obtain rfl := Option.some.inj hx; exact h⟩
    · next h =>
      obtain ⟨pre, post, hl, hi, hpre, hpost⟩ := ih
      exact ⟨y :: pre, post, by rw [hl, List.cons_append], by rw [hi, List.cons_append],
        List.forall_mem_cons.2 ⟨by omega, hpre⟩, hpost⟩

/-- The cue table is that change alone. -/
theorem cues_frame (s : State) (l : List Cue) (fs : List Fld) : Same [.cues] fs s { s with cues := l } :=
  .of_flds rfl fun c hc => by
    cases c with
    | cues => simp at hc
    | _ => rfl

/-- What a refused insertion writes (R86). -/
def refusalFields : List Fld := [TIME.CUEREF.COUNT, TIME.CUEREF.SAT] ++ arrivalOf 0x13

/-- A refused insertion is counted, and its source arrives (R86). -/
theorem State.cueRefused_effect (s : State) :
    Arrived 0x13 s s.cueRefused ∧
    (s.get TIME.CUEREF.COUNT + 1 < 2 ^ TIME.CUEREF.COUNT.w →
      s.cueRefused.get TIME.CUEREF.COUNT = s.get TIME.CUEREF.COUNT + 1) ∧
    Same [] refusalFields s s.cueRefused := by
  have hbump : Same [] refusalFields s (s.bump TIME.CUEREF.COUNT TIME.CUEREF.SAT) :=
    State.bump_frame [] s _ _ (by decide) (by decide)
  refine ⟨?_, fun h => ?_, hbump.then (State.arrive_frame [] _ 0x13 fun _ h => List.mem_append_right _ h)⟩
  · refine (State.arrive_arrived _ (src := 0x13) rfl).congr (fun f hf => State.bump_get_other s ?_) fun _ _ => rfl
    revert f
    decide
  · have hcount : s.bump TIME.CUEREF.COUNT TIME.CUEREF.SAT = s.set TIME.CUEREF.COUNT (s.get TIME.CUEREF.COUNT + 1) := if_pos h
    rw [State.cueRefused, State.arrive_get_other _ (by decide), hcount, State.get_set_same, Nat.mod_eq_of_lt h]

/-- A full table refuses (R86). -/
theorem State.cueAdd_full {s : State} (c : Cue) (h : 256 ≤ s.cues.length) : s.cueAdd c = (2, s.cueRefused) := if_pos h

/-- A table with room takes the entry, the selected index moving with its own (R87). -/
theorem State.cueAdd_takes {s : State} (c : Cue) (h : s.cues.length < 256) :
    (s.cueAdd c).1 = 0 ∧ (s.cueAdd c).2.cues = cueInsert c s.cues ∧ Same [.cues] [TIME.CUEIDX.IDX] s (s.cueAdd c).2 := by
  have hnew : Same [.cues] [TIME.CUEIDX.IDX] s { s with cues := cueInsert c s.cues } := cues_frame s _ _
  rw [State.cueAdd, if_neg (by omega)]
  refine ⟨rfl, ?_, ?_⟩
  · dsimp only; split <;> rfl
  · dsimp only
    split
    · exact hnew.then (State.set_frame _ _ _ _ (List.mem_cons_self ..))
    · exact hnew

/-! ## The checks (R86, R224) -/

/-- A cue names the launch of a cue program (R84, R86). -/
def Cue.Launches (e : Cue) : Prop := e.action = 4 ∧ e.unit = 1 ∧ e.reg ≤ 2 ∧ e.arg ≤ 63

/-- A cue names a register that the part has and that is nobody's own (R84, R86). -/
def Cue.Accesses (e : Cue) (p : Part) : Prop :=
  1 ≤ e.action ∧ e.action ≤ 3 ∧ p.defines e.unit e.reg = true ∧ isPrivate e.unit e.reg = false

/-- The checks of result code 3. -/
theorem cueBad_iff (p : Part) (e : Cue) (f : Option (Nat → Nat)) :
    cueBad p e f = false ↔ (if e.action = 4 then e.unit = 1 ∧ e.reg ≤ 2 ∧ e.arg ≤ 63 else e.Accesses p) ∧
      ∀ g, f = some g → g e.unit = 2 := by
  unfold cueBad
  rw [Bool.or_eq_false_iff]
  refine and_congr ?_ ?_
  · split <;> simp [Cue.Accesses, and_assoc]
  · cases f <;> simp

theorem Cue.launches_or_accesses (e : Cue) (p : Part) :
    e.Launches ∨ e.Accesses p ↔ if e.action = 4 then e.unit = 1 ∧ e.reg ≤ 2 ∧ e.arg ≤ 63 else e.Accesses p := by
  split
  · next h => simp [Cue.Launches, Cue.Accesses, h]
  · next h => simp [Cue.Launches, h]

/-- The result code of the checks that come before the table's room, in their order. -/
theorem cueCheck_code (p : Part) (e : Cue) (f : Option (Nat → Nat)) (grain : Nat) :
    (cueBad p e f = true → cueCheck p e f grain = 3) ∧
    (cueBad p e f = false → e.due ≤ grain → cueCheck p e f grain = 1) ∧
    (cueBad p e f = false → grain < e.due → cueCheck p e f grain = 0) := by
  refine ⟨fun h => by rw [cueCheck, if_pos h], fun h hd => ?_, fun h hd => ?_⟩
  · rw [cueCheck, if_neg (by simp [h]), if_pos hd]
  · rw [cueCheck, if_neg (by simp [h]), if_neg (by omega)]

/-! ## The instruction (R224) -/

section
variable {s : State} {p : Proc} {d : Fin 32} {a : Fin 16} {o : Nat} (he : s.Executes p 1)
include he

/-- CUE faults where the entry's unit is absent. -/
theorem cue_faults (h : s.part.hasUnit (cueOf (s.bankOf p).v[a] o).unit = false) :
    Faults (.cue p d a) p s ⟨0x0E, (cueOf (s.bankOf p).v[a] o).unit, none⟩ :=
  Faults.of_instr he rfl (if_pos (by rw [Bool.not_eq_true]; exact h))

/-- CUE hands its entry over and writes the result code. -/
theorem cue_acts (h : s.part.hasUnit (cueOf (s.bankOf p).v[a] o).unit = true) {k : Nat} {m : State}
    (hx : s.cueIssue p (s.bankOf p).v[a] = (k, m)) : Acts (.cue p d a) p 1 s m (putS (s.bankOf p) d (BitVec.ofNat 32 k)) := by
  refine Acts.of_instr he rfl ((if_neg (not_not.2 h)).trans ?_)
    (Regs.bank_setS ⟨s.bankOf p, [SigItem.cue ((s.bankOf p).v[a]).toNat]⟩ d _)
  dsimp only
  rw [show s.cueIssue p (Regs.vr ⟨s.bankOf p, []⟩ a) = (k, m) from hx]
  rfl

end

/-- A control core's entry, by what the checks and the table say. -/
theorem cueIssue_core {s : State} {c : Fin 2} {v : Vec} :
    let e := cueOf v (8 + c)
    (cueBad s.part e none = true → s.cueIssue (.cc c) v = (3, s.cueRefused)) ∧
    (cueBad s.part e none = false → e.due ≤ s.clock.grain → s.cueIssue (.cc c) v = (1, s.cueRefused)) ∧
    (cueBad s.part e none = false → s.clock.grain < e.due → s.cueIssue (.cc c) v = s.cueAdd e) := by
  intro e
  obtain ⟨hbad, hpast, hgood⟩ := cueCheck_code s.part e none s.clock.grain
  have hissue : s.cueIssue (.cc c) v = if cueCheck s.part e none s.clock.grain = 0 then s.cueAdd e
    else (cueCheck s.part e none s.clock.grain, s.cueRefused) := rfl
  refine ⟨fun h => ?_, fun h hd => ?_, fun h hd => ?_⟩
  · rw [hissue, hbad h, if_neg (by decide)]
  · rw [hissue, hpast h hd, if_neg (by decide)]
  · rw [hissue, hgood h hd, if_pos rfl]

/-- A lane's entry goes to its run's queue, or is refused and counted once for the pair (R94). -/
theorem cueIssue_lane {s : State} {n : Fin 5} {v : Vec} :
    let e := cueOf v (s.holder (.lane n))
    let f := some (s.lane n).declared
    let refused := if s.countsRefusal n then s.cueRefused else s
    (cueBad s.part e f = true → s.cueIssue (.lane n) v = (3, refused)) ∧
    (cueBad s.part e f = false → e.due ≤ s.clock.grain → s.cueIssue (.lane n) v = (1, refused)) ∧
    (cueBad s.part e f = false → s.clock.grain < e.due →
      s.cueIssue (.lane n) v = (0, s.setLane n { s.lane n with cueq := (s.lane n).cueq ++ [v] })) := by
  intro e f refused
  obtain ⟨hbad, hpast, hgood⟩ := cueCheck_code s.part e f s.clock.grain
  have hissue : s.cueIssue (.lane n) v = if cueCheck s.part e f s.clock.grain = 0 then
      (0, s.setLane n { s.lane n with cueq := (s.lane n).cueq ++ [v] })
    else (cueCheck s.part e f s.clock.grain, refused) := rfl
  refine ⟨fun h => ?_, fun h hd => ?_, fun h hd => ?_⟩
  · rw [hissue, hbad h, if_neg (by decide)]
  · rw [hissue, hpast h hd, if_neg (by decide)]
  · rw [hissue, hgood h hd, if_pos rfl]

/-- CUE of a control core, by its checks. -/
theorem cueInstruction : Claims.CueInstruction := by
  intro s c d a he p i B e launch access refused
  have hgood : launch ∨ access ↔ cueBad s.part e none = false := by
    rw [cueBad_iff, ← Cue.launches_or_accesses]
    exact (and_iff_left nofun).symm
  obtain ⟨hbad, hpast, hadd⟩ := cueIssue_core (s := s) (c := c) (v := B.v[a])
  obtain ⟨harr, hcount, hframe⟩ := s.cueRefused_effect
  refine ⟨cue_faults he, fun hu => ?_⟩
  have of_issue {k : Nat} (hx : s.cueIssue p B.v[a] = (k, s.cueRefused)) : refused k :=
    ⟨_, cue_acts he hu hx, harr, hcount, hframe⟩
  refine ⟨fun hl ha => of_issue (hbad ?_), fun hg hd => of_issue (hpast (hgood.1 hg) hd), fun hg hd hfull => ?_,
    fun hg hd hroom => ?_⟩
  · rw [← Bool.not_eq_false, ← hgood]
    exact not_or.2 ⟨hl, ha⟩
  · exact of_issue ((hadd (hgood.1 hg) hd).trans (State.cueAdd_full e hfull))
  · obtain ⟨hcode, hcues, hsame⟩ := State.cueAdd_takes e hroom
    obtain ⟨pre, post, hl, hi, hpre, hpost⟩ := cueInsert_place e s.cues
    exact ⟨_, pre, post, cue_acts he hu ((hadd (hgood.1 hg) hd).trans (Prod.ext hcode rfl)), hl, hcues.trans hi, hpre, hpost,
      hsame⟩

/-- CUE of a lane, by its checks. -/
theorem cueInstructionOfALane : Claims.CueInstructionOfALane := by
  intro s n d a he p i B e l good refused
  have hgood : good ↔ cueBad s.part e (some l.declared) = false := by
    rw [cueBad_iff]
    exact and_congr_right fun _ => ⟨fun h _ hg => Option.some.inj hg ▸ h, fun h => h _ rfl⟩
  obtain ⟨hbad, hpast, hqueue⟩ := cueIssue_lane (s := s) (n := n) (v := B.v[a])
  refine ⟨cue_faults he, fun hu => ?_⟩
  have of_issue {k : Nat} (hx : s.cueIssue p B.v[a] = (k, if s.countsRefusal n then s.cueRefused else s)) : refused k := by
    obtain ⟨harr, -, hframe⟩ := s.cueRefused_effect
    refine ⟨_, cue_acts he hu hx, fun h => ?_, fun h => ?_, ?_⟩
    · rw [if_pos h]; exact harr
    · rw [if_neg (by simp [h])]
    · split
      · exact hframe
      · exact .refl ..
  refine ⟨fun hg => of_issue (hbad ?_), fun hg hd => of_issue (hpast (hgood.1 hg) hd), fun hg hd => ?_⟩
  · rw [← Bool.not_eq_false, ← hgood]
    exact hg
  · exact cue_acts he hu (hqueue (hgood.1 hg) hd)

/-- Settles O18: CUE on a control core, whose entry the table takes at once, and on a lane, whose entry waits in the run's
queue. -/
theorem cueInstructions : Obligations.CueInstructions := ⟨cueInstruction, cueInstructionOfALane⟩

end Sys2Proof.Machine

namespace Sys2Proof.Machine
open Sys2Proof.Claims

/-! SUPPORT. The cancelling of cues, and the chain link (R87, R92, R95–R106). -/

/-- A command answers the state that its meaning equals. -/
theorem next_congr {s t : State} (h : s = t) : (.next s : Host.Outcome State Fault Refusal) = .next t := congrArg _ h

/-! ## Cancelling (R87, R92) -/

/-- The cues that a condition names are removed, and no other. -/
theorem State.cueRemove_effect (s : State) (p : Cue → Bool) :
    (∀ c, c ∈ (s.cueRemove p).cues ↔ c ∈ s.cues ∧ p c = false) ∧ (s.cueRemove p).cues.Sublist s.cues ∧
      Same [.cues] [TIME.CUEIDX.IDX] s (s.cueRemove p) := by
  refine ⟨fun c => ?_, List.filter_sublist, ?_⟩
  · simp [State.cueRemove]
  · exact (State.set_frame _ s _ _ (List.mem_cons_self ..)).then (cues_frame _ _ _)

/-- Cancelling by tag, and of all. -/
theorem cueCancelling : Claims.CueCancelling := by
  intro s tag hon
  obtain ⟨hmem, hsub, hframe⟩ := s.cueRemove_effect fun c => c.tag == tag.toNat
  obtain ⟨hall, -, hframe'⟩ := s.cueRemove_effect fun _ => true
  refine ⟨⟨s.cueRemove fun c => c.tag == tag.toNat, congrArg _ (State.whenOn_on hon), fun c => ?_, hsub, hframe⟩,
    s.cueRemove fun _ => true, congrArg _ (State.whenOn_on hon), ?_, hframe'⟩
  · simpa using hmem c
  · exact List.eq_nil_iff_forall_not_mem.2 fun c hc => nomatch ((hall c).1 hc).2

/-! ## Bytes -/

theorem leBytes_length (n x : Nat) : (leBytes n x).length = n := by
  induction n generalizing x with
  | zero => rfl
  | succ n ih => rw [leBytes, List.length_cons, ih]

/-- Bytes of a number spell it, cut to their length (R13). -/
theorem leNat_leBytes (n x : Nat) : leNat (leBytes n x) = x % 256 ^ n := by
  induction n generalizing x with
  | zero => rw [Nat.pow_zero, Nat.mod_one]; rfl
  | succ n ih =>
    have hlow : (BitVec.ofNat 8 x).toNat = x % 256 := BitVec.toNat_ofNat x 8
    rw [leBytes, leNat, ih, hlow, Nat.pow_succ', Nat.mod_mul]

/-- A bit cleared in a number is clear. -/
theorem bitOf_withBit_false (x i : Nat) : bitOf (withBit x i false) i = false := by
  unfold withBit
  split
  · next h =>
    have hcut : (x - 2 ^ i) / 2 ^ i = x / 2 ^ i - 1 := by simpa using Nat.sub_mul_div x (2 ^ i) 1
    simp only [bitOf, beq_iff_eq] at h
    simp only [bitOf, Bool.false_eq_true, if_false, beq_eq_false_iff_ne, hcut]
    omega
  · next h => simpa using h

/-- A bit that is cleared in a field reads as clear. -/
theorem State.bit_setBit_clear (s : State) {f : Fld} {i : Nat} (h : i < f.w) : (s.setBit f i false).bit f i = false := by
  rw [State.bit, State.get_setBit, if_pos rfl, bitOf_mod _ h, bitOf_withBit_false]

theorem State.bit_of_get {s t : State} {f : Fld} (h : t.get f = s.get f) (i : Nat) : t.bit f i = s.bit f i := by
  simp only [State.bit, h]

/-! ## Shared steps of the link -/

/-- The link's own state is that change alone. -/
theorem State.modChain_frame (s : State) (f : Chain → Chain) (fs : List Fld) : Same [.chain] fs s (s.modChain f) :=
  .of_flds rfl fun c hc => by
    cases c with
    | chain => simp at hc
    | _ => rfl

/-- A record staged is a change of the journal alone. -/
theorem State.stageEvent_frame (s : State) (unit kind : Nat) (data : List Byte) (fs : List Fld) :
    Same [.jrnl] fs s (s.stageEvent unit kind data) :=
  .of_flds rfl fun c hc => by
    cases c with
    | jrnl => simp at hc
    | _ => rfl

/-- The fields of a change of STATE, its source among them (R99, R406). -/
def stateFields : List Fld := CHAIN.STATUS.STATE :: arrivalOf 0x17

theorem State.chainGo_frame (s : State) (k : Nat) : Same [] stateFields s (s.chainGo k) := by
  unfold State.chainGo
  split
  · exact .refl ..
  · exact (State.set_frame [] s _ _ (List.mem_cons_self ..)).then
      (State.arrive_frame [] _ _ fun _ h => List.mem_cons_of_mem _ h)

/-- From s to t the link's STATE goes to k, and its change raises source 0x17. -/
def LinkGoes (s t : State) (k : Nat) : Prop :=
  t.get CHAIN.STATUS.STATE = k ∧ (s.get CHAIN.STATUS.STATE ≠ k → t.bit (IRQ.SPEND.PEND 0) 7 = true)

theorem State.chainGo_goes (s : State) {k : Nat} (hk : k < 8) : LinkGoes s (s.chainGo k) k := by
  unfold State.chainGo
  split
  · next h => exact ⟨h, fun hn => absurd h hn⟩
  · refine ⟨?_, fun _ => ((s.set CHAIN.STATUS.STATE k).arrive_arrived (src := 0x17) rfl).1⟩
    rw [State.arrive_get_other _ (by decide), State.get_set_same]
    exact Nat.mod_eq_of_lt hk

/-- Steps that leave STATE and the pending word alone may come before and after. -/
theorem LinkGoes.congr {s s' t t' : State} {k : Nat} (h : LinkGoes s t k)
    (hs : s.get CHAIN.STATUS.STATE = s'.get CHAIN.STATUS.STATE)
    (ht : ∀ f ∈ [CHAIN.STATUS.STATE, IRQ.SPEND.PEND 0], t'.get f = t.get f) : LinkGoes s' t' k := by
  refine ⟨(ht _ (by decide)).trans h.1, fun hn => ?_⟩
  rw [State.bit_of_get (ht _ (by decide))]
  exact h.2 fun he => hn (hs.symm.trans he)

/-- The same, the later steps given by their frame. -/
theorem LinkGoes.then {s t u : State} {k : Nat} {cs : List Comp} {fs : List Fld} (h : LinkGoes s t k) (hf : Same cs fs t u)
    (hn : ∀ f ∈ [CHAIN.STATUS.STATE, IRQ.SPEND.PEND 0], f ∉ fs) : LinkGoes s u k :=
  h.congr rfl fun f hm => hf.get (hn f hm)

/-! ## The leader's frame (R95, R96, R105) -/

section
variable (s : State) (r : Option (Nat × Nat))

/-- The timecode frame: its length, its first bytes, the grain it carries. -/
theorem State.timecode_form : (s.timecode r).length = 36 ∧ (s.timecode r).take 4 = [0xAA, 0xAA, 0xC3, 1] ∧
    unAt (s.timecode r) 6 8 = s.clock.grain % 2 ^ 64 := by
  refine ⟨?_, rfl, ?_⟩
  · simp [State.timecode, leBytes_length]
  · have htake : ((s.timecode r).drop 6).take 8 = leBytes 8 s.clock.grain := by
      simp only [State.timecode, List.append_assoc]
      exact List.take_left' (leBytes_length 8 _)
    rw [unAt, htake, leNat_leBytes, show 256 ^ 8 = 2 ^ 64 from rfl]

/-- The silence after corrupted read-backs leaves the frame sent alone; with none there is no silence (R105). -/
theorem State.silence_kept : s.silence.chain.tx = s.chain.tx ∧ s.silence.chain.frameStart = s.chain.frameStart ∧
    s.silence.chain.sent = s.chain.sent ∧ (s.chain.badReadback < 2 → s.silence = s) := by
  unfold State.silence
  split
  · next h =>
    let d : State := s.draw.2.modChain fun c =>
      { c with badReadback := 0, silentUntil := some (s.clock.grain + 32 + s.draw.1.toNat % 224) }
    have hchain : (d.chainGo 1).chain = d.chain := (d.chainGo_frame 1).2 .chain (by decide)
    have htx : (d.chainGo 1).chain.tx = s.chain.tx := (congrArg Chain.tx hchain).trans rfl
    have hstart : (d.chainGo 1).chain.frameStart = s.chain.frameStart :=
      (congrArg Chain.frameStart hchain).trans rfl
    have hsent : (d.chainGo 1).chain.sent = s.chain.sent := (congrArg Chain.sent hchain).trans rfl
    exact ⟨htx, hstart, hsent, fun hn => absurd h (by omega)⟩
  · exact ⟨rfl, rfl, rfl, fun _ => rfl⟩

end

/-- The frame of a grain goes out. -/
theorem timecodeFrameSend_next {s : State} (hc : s.chainOn = true) (hst : s.get CHAIN.STATUS.STATE = 6)
    (hg : s.clock.grain % 32 = 0) (hp : s.clock.phase = 0) (hs : s.chain.sent ≠ some s.clock.grain)
    (hh : s.handedOver = false) (bad : Bool) : ∃ t, exec (.timecodeFrameSend bad) s = .next t ∧
      t.chain.tx.length = 36 ∧ t.chain.tx.take 4 = [0xAA, 0xAA, 0xC3, 1] ∧ unAt t.chain.tx 6 8 = s.clock.grain % 2 ^ 64 ∧
      t.chain.frameStart = s.clock.now ∧ t.chain.sent = some s.clock.grain ∧
      (bad = false → t.chain.badReadback = 0 ∧ Same [.chain] [] s t) := by
  let r := s.countReplies.chain.pickRanged
  let f := s.countReplies.frameSent r bad
  obtain ⟨hlen, hhead, hgrain⟩ := s.countReplies.timecode_form r
  obtain ⟨htx, hstart, hsent, hquiet⟩ := f.silence_kept
  have htx : f.silence.chain.tx = s.countReplies.timecode r := htx
  refine ⟨f.silence, congrArg _ (if_pos ⟨hc, hst, hg, hp, hs, hh⟩), by rw [htx, hlen], by rw [htx, hhead], by rw [htx, hgrain]; rfl,
    hstart, hsent, fun hb => ?_⟩
  have hzero : f.chain.badReadback = 0 := if_neg (by simp [hb])
  rw [hquiet (by omega)]
  exact ⟨hzero, (State.modChain_frame ..).then (State.modChain_frame ..)⟩

/-! ## The leader and its followers (R97, R98, R104–R106) -/

section
variable {s : State} (hc : s.chainOn = true)
include hc

/-- A reply joins its follower; one that fails its check is counted (R98). -/
theorem followerReplyReceive_next (frame : List Byte) (hst : s.get CHAIN.STATUS.STATE = 6) :
    ∃ t, exec (.followerReplyReceive frame) s = .next t ∧
      (frameGood 2 14 frame = true → t.bit CHAIN.MEMBERS.MEM (byteAt frame 4 % 8) = true ∧
        Same [.chain] [CHAIN.MEMBERS.MEM] s t) ∧
      (frameGood 2 14 frame = false → Same [] [CHAIN.CRCERR.COUNT, CHAIN.CRCERR.SAT] s t) := by
  refine ⟨_, next_congr (if_pos ⟨hc, hst⟩), fun h => ?_, fun h => ?_⟩
  · rw [if_pos h]
    have hset : (s.setBit CHAIN.MEMBERS.MEM (byteAt frame 4 % 8) true).bit CHAIN.MEMBERS.MEM (byteAt frame 4 % 8) = true :=
      State.bit_setBit_same s (Nat.mod_lt _ (by decide))
    exact ⟨hset, (State.setBit_frame _ s _ _ _ (List.mem_cons_self ..)).then (State.modChain_frame ..)⟩
  · rw [if_neg (by simp [h])]
    exact State.bump_frame [] s _ _ (by decide) (by decide)

/-- The third reply missed in a row loses the member (R97). -/
theorem replyMissed_next {pos : Fin 8} (hst : s.get CHAIN.STATUS.STATE = 6) (hm : s.bit CHAIN.MEMBERS.MEM pos = true)
    (h3 : 3 ≤ s.chain.miss.getD pos 0) : ∃ t, exec (.replyMissed pos) s = .next t ∧ t.bit CHAIN.MEMBERS.MEM pos = false ∧
      t.on CHAIN.FLAGS.MEMBERLOST = true ∧
      Same [.chain] ([CHAIN.MEMBERS.MEM, CHAIN.FLAGS.MEMBERLOST] ++ arrivalOf 0x16) s t := by
  let u := s.setBit CHAIN.MEMBERS.MEM pos false
  have hraise : Same [] (CHAIN.FLAGS.MEMBERLOST :: arrivalOf 0x16) u (u.raise CHAIN.FLAGS.MEMBERLOST 0x16) :=
    State.raise_frame [] u _ _ (List.mem_cons_self ..) fun _ h => List.mem_cons_of_mem _ h
  refine ⟨_, next_congr (if_pos ⟨hc, hst, hm, h3⟩), ?_, u.on_raise rfl (by decide), ?_⟩
  · have hbit : (u.raise CHAIN.FLAGS.MEMBERLOST 0x16).bit CHAIN.MEMBERS.MEM pos = u.bit CHAIN.MEMBERS.MEM pos :=
      State.bit_of_get (hraise.get (by decide)) _
    exact hbit.trans (s.bit_setBit_clear pos.isLt)
  · exact ((State.setBit_frame _ s _ _ _ (by decide)).then (hraise.mono nofun fun _ h => List.mem_cons_of_mem _ h)).then
      (State.modChain_frame ..)

/-- A hand-over is asked for (R106, R109). -/
theorem handoverGo_next {pos : Fin 8} (hst : s.get CHAIN.STATUS.STATE = 6) : ∃ t, exec (.handoverGo pos) s = .next t ∧
      (s.bit CHAIN.MEMBERS.MEM pos = true → t.chain.handover = some (pos.val, 4) ∧ Same [.chain] [] s t) ∧
      (s.bit CHAIN.MEMBERS.MEM pos = false → t.on CHAIN.FLAGS.MEMBERLOST = true ∧
        Same [] (CHAIN.FLAGS.MEMBERLOST :: arrivalOf 0x16) s t) := by
  have hon : s.power = .on := by simp [State.chainOn] at hc; exact hc.1.1
  refine ⟨_, next_congr ((State.whenOn_on hon).trans (if_neg (not_not.2 hst))), fun h => ?_, fun h => ?_⟩
  · rw [if_pos h]
    exact ⟨rfl, State.modChain_frame ..⟩
  · rw [if_neg (by simp [h])]
    exact ⟨s.on_raise rfl (by decide),
      State.raise_frame [] s _ _ (List.mem_cons_self ..) fun _ h => List.mem_cons_of_mem _ h⟩

end

/-- The module becomes leader, its own position the leader's (R104–R106). -/
theorem State.lead_effect (s : State) : LinkGoes s s.lead 6 ∧ s.lead.get CHAIN.STATUS.LPOS = s.get CHAIN.CTRL.POS % 8 ∧
    s.lead.chain.listenUntil = none := by
  have hset : Same [.chain] [CHAIN.STATUS.LPOS] (s.chainGo 6) s.lead :=
    (State.set_frame _ _ _ _ (List.mem_cons_self ..)).then (State.modChain_frame ..)
  exact ⟨(s.chainGo_goes (by decide)).then hset (by decide), State.get_set_same .., rfl⟩

/-- The module becomes a follower that listens (R105, R106). -/
theorem State.follow_goes (s : State) : LinkGoes s s.follow 1 := by
  have hset : Same [.chain] [CHAIN.MEMBERS.MEM] (s.chainGo 1) s.follow :=
    (State.set_frame _ _ _ _ (List.mem_cons_self ..)).then (State.modChain_frame ..)
  exact (s.chainGo_goes (by decide)).then hset (by decide)

/-- A module set as leader listens for 64 grains (R105). -/
theorem State.listen_effect (s : State) : LinkGoes s s.listen 1 ∧
    s.listen.chain.listenUntil = some (s.clock.grain + 64) :=
  ⟨(s.chainGo_goes (by decide)).then (State.modChain_frame _ _ []) (by simp), rfl⟩

/-- The old leader listens once the hand-over has been counted down (R106). -/
theorem handoverSwitch_old {s : State} (hc : s.chainOn = true) (hst : s.get CHAIN.STATUS.STATE = 6) (hh : s.handedOver = true)
    (hg : s.clock.grain % 32 = 0) (hs : s.chain.sent ≠ some s.clock.grain) :
    exec .handoverSwitch s = .next s.follow :=
  congrArg _ ((if_pos hc).trans (if_pos ⟨hst, hh, hg, hs⟩))

/-- The target leads from the grain it was told (R106). -/
theorem handoverSwitch_new {s : State} (hc : s.chainOn = true) {g : Nat} (hh : s.handedOver = false)
    (hw : s.chain.switchAt = some g) (hg : g ≤ s.clock.grain) : exec .handoverSwitch s = .next s.lead := by
  refine congrArg _ ((if_pos hc).trans ((if_neg fun h => by simp [hh] at h).trans ?_))
  rw [hw]
  exact if_pos hg

theorem leaderListenEnd_next {s : State} (hc : s.chainOn = true) {g : Nat} (hl : s.chain.listenUntil = some g)
    (hg : g ≤ s.clock.grain) : exec .leaderListenEnd s = .next s.lead := by
  show execLeaderListenEnd s = _
  unfold execLeaderListenEnd
  rw [hl]
  exact congrArg _ (if_pos ⟨hc, hg⟩)

theorem leaderSilenceEnd_next {s : State} (hc : s.chainOn = true) {g : Nat} (hl : s.chain.silentUntil = some g)
    (hg : g ≤ s.clock.grain) : exec .leaderSilenceEnd s = .next s.listen := by
  show execLeaderSilenceEnd s = _
  unfold execLeaderSilenceEnd
  rw [hl]
  exact congrArg _ (if_pos ⟨hc, hg⟩)

/-! ## The follower (R97, R99, R103, R105) -/

/-- A frame that fails its check is counted and breaks a row of good ones. -/
theorem timecodeFrameReceive_bad {s : State} (hc : s.chainOn = true) {frame : List Byte} (hf : frameGood 1 36 frame = false) :
    ∃ t, exec (.timecodeFrameReceive frame) s = .next t ∧
      t.chain = { s.chain with good := 0 } ∧ Same [.chain] [CHAIN.CRCERR.COUNT, CHAIN.CRCERR.SAT] s t := by
  have hbump : Same [] [CHAIN.CRCERR.COUNT, CHAIN.CRCERR.SAT] s (s.bump CHAIN.CRCERR.COUNT CHAIN.CRCERR.SAT) :=
    State.bump_frame [] s _ _ (by decide) (by decide)
  have hchain : (s.bump CHAIN.CRCERR.COUNT CHAIN.CRCERR.SAT).chain = s.chain := hbump.2 .chain (by decide)
  refine ⟨_, next_congr ((if_pos hc).trans (if_neg (by simp [hf]))), ?_,
    (hbump.mono nofun fun _ h => h).then (State.modChain_frame ..)⟩
  exact (congrArg (fun c : Chain => { c with good := 0 }) hchain).trans rfl

/-- The fields that a good frame's UTC writes (R78). -/
def chainUtcFields : List Fld := [TIME.UTCOFFLO.ULO, TIME.UTCOFFHI.UHI, TIME.UTCOFFFR.UFR, TIME.UTCSTAT.VALID,
  TIME.UTCSTAT.PPSLOCK, TIME.UTCSTAT.SRC]

theorem State.chainUtc_frame (s : State) (f : List Byte) : Same [] chainUtcFields s (s.chainUtc f) := by
  have hset (u : State) {g : Fld} (v : Nat) (h : g ∈ chainUtcFields) : Same [] chainUtcFields u (u.set g v) :=
    State.set_frame [] u g v h
  have hfive := ((((hset s (u32At f 14) (by decide : TIME.UTCOFFLO.ULO ∈ _)).then (hset _ (u32At f 18) (by decide :
    TIME.UTCOFFHI.UHI ∈ _))).then (hset _ (u32At f 22) (by decide : TIME.UTCOFFFR.UFR ∈ _))).then
    (hset _ (ofB (bitOf (byteAt f 5) 0)) (by decide : TIME.UTCSTAT.VALID ∈ _))).then
    (hset _ (ofB (bitOf (byteAt f 5) 1)) (by decide : TIME.UTCSTAT.PPSLOCK ∈ _))
  unfold State.chainUtc
  dsimp only
  split
  · exact hfive.then (hset _ _ (by decide))
  · exact hfive

/-- What a follower notes of a good frame before it acts on it (R78, R97, R99, R106). -/
def State.frameNoted (s : State) (f : List Byte) : State :=
  let ho := byteAt f 27
  let u := (s.chainUtc f).set CHAIN.STATUS.LPOS (byteAt f 4 % 8)
  u.modChain (fun c => { c with
    lastFrame := u.clock.grain
    sync := some u.clock.now
    good := if c.lastFrame + 33 < u.clock.grain then 1 else c.good + 1
    switchAt := if bitOf (byteAt f 5) 2 && ho % 8 == s.get CHAIN.CTRL.POS then
      some (u.clock.grain + 32 * (ho / 16 % 8)) else none })

/-- What is noted: the leader's position, the frame's grain, the row of good frames. -/
theorem State.frameNoted_effect (s : State) (f : List Byte) :
    (s.frameNoted f).get CHAIN.STATUS.LPOS = byteAt f 4 % 8 ∧
    (s.frameNoted f).get CHAIN.STATUS.STATE = s.get CHAIN.STATUS.STATE ∧
    (s.frameNoted f).chain.lastFrame = s.clock.grain ∧
    (s.frameNoted f).chain.good = if s.chain.lastFrame + 33 < s.clock.grain then 1 else s.chain.good + 1 := by
  let u := (s.chainUtc f).set CHAIN.STATUS.LPOS (byteAt f 4 % 8)
  have hu : Same [] (CHAIN.STATUS.LPOS :: chainUtcFields) s u :=
    ((s.chainUtc_frame f).mono nofun fun _ h => List.mem_cons_of_mem _ h).then
      (State.set_frame [] _ _ _ (List.mem_cons_self ..))
  have hclock : u.clock = s.clock := hu.2 .clock (by decide)
  have hchain : u.chain = s.chain := hu.2 .chain (by decide)
  refine ⟨(State.get_set_same ..).trans (Nat.mod_mod ..), hu.get (by decide), (congrArg Clock.grain hclock :), ?_⟩
  have hgood : (s.frameNoted f).chain.good = if u.chain.lastFrame + 33 < u.clock.grain then 1 else u.chain.good + 1 := rfl
  rw [hgood, hclock, hchain]

/-- A follower that listens counts good frames up to three (R99). -/
theorem State.followFrame_listening {s : State} (hst : s.get CHAIN.STATUS.STATE = 1) (f : List Byte) : s.followFrame f =
    if 3 ≤ (s.frameNoted f).chain.good then (s.frameNoted f).chainGo 2 else s.frameNoted f :=
  (if_neg (by simp [hst])).trans (if_pos hst)

/-- A listening follower's third good frame in a row starts RANGING (R99). -/
theorem timecodeFrameReceive_listening {s : State} (hc : s.chainOn = true) {frame : List Byte}
    (hf : frameGood 1 36 frame = true) (hst : s.get CHAIN.STATUS.STATE = 1) (hl : s.chain.listenUntil = none)
    (hs : s.chain.silentUntil = none) : ∃ t, exec (.timecodeFrameReceive frame) s = .next t ∧
      t.chain.lastFrame = s.clock.grain ∧ t.get CHAIN.STATUS.LPOS = byteAt frame 4 % 8 ∧
      LinkGoes s t (if 2 ≤ s.chain.good ∧ s.clock.grain ≤ s.chain.lastFrame + 33 then 2 else 1) := by
  obtain ⟨hlpos, hstate, hlast, hgood⟩ := s.frameNoted_effect frame
  refine ⟨s.followFrame frame, next_congr ((if_pos hc).trans ((if_pos hf).trans ((if_neg (by simp [hst])).trans
    (if_neg (by simp [hst, hl, hs]))))), ?_⟩
  rw [State.followFrame_listening hst, hgood]
  by_cases hthird : 2 ≤ s.chain.good ∧ s.clock.grain ≤ s.chain.lastFrame + 33
  · have hgo := (s.frameNoted frame).chainGo_frame 2
    rw [if_pos hthird, if_pos (by rw [if_neg (by omega)]; omega)]
    exact ⟨(congrArg Chain.lastFrame (hgo.2 .chain (by decide)) :).trans hlast, (hgo.get (by decide)).trans hlpos,
      ((s.frameNoted frame).chainGo_goes (by decide)).congr hstate fun _ _ => rfl⟩
  · rw [if_neg hthird, if_neg (by split <;> omega)]
    exact ⟨hlast, hlpos, hstate.trans hst, fun h => absurd hst h⟩

/-- A follower's reply goes out at its time after the sync (R97). -/
theorem followerReplySend_next {s : State} (hc : s.chainOn = true) {d : Nat} (hd : s.chain.sync = some d)
    (hf : s.isFollower = true) (ht : d + (4 * s.get CHAIN.CTRL.POS + 2) * 6400 ≤ s.clock.now) :
    exec .followerReplySend s = .next (s.modChain fun c => { c with sync := none, tx := s.reply }) := by
  show execFollowerReplySend s = _
  unfold execFollowerReplySend
  rw [hd]
  exact next_congr (if_pos ⟨hc, hf, ht⟩)

theorem State.reply_length (s : State) : s.reply.length = 14 := by
  simp [State.reply, leBytes_length]

/-- Three frames missed: HOLDOVER, with LOSS and an event record (R103). -/
theorem frameLoss_next {s : State} (hc : s.chainOn = true) (h2 : 2 ≤ s.get CHAIN.STATUS.STATE)
    (h4 : s.get CHAIN.STATUS.STATE ≤ 4) (hl : s.chain.lastFrame + 96 ≤ s.clock.grain) :
    ∃ t, exec .frameLoss s = .next t ∧ LinkGoes s t 5 ∧ t.on CHAIN.FLAGS.LOSS = true ∧
      t.clock = { s.clock with glen := 6400 } := by
  let u : State := { s with clock := { s.clock with glen := 6400 } }
  let v : State := u.modChain fun c => { c with good := 0, stepPend := none, outliers := 0, sync := none, lost := true }
  let w := v.raise CHAIN.FLAGS.LOSS 0x16
  have hraise : Same [] (CHAIN.FLAGS.LOSS :: arrivalOf 0x16) v w :=
    State.raise_frame [] v _ _ (List.mem_cons_self ..) fun _ h => List.mem_cons_of_mem _ h
  have hgo := w.chainGo_frame 5
  have hstage := (w.chainGo 5).stageEvent_frame 2 2 [] []
  have hloss : ((w.chainGo 5).stageEvent 2 2 []).on CHAIN.FLAGS.LOSS = w.on CHAIN.FLAGS.LOSS :=
    State.on_of_get ((hstage.get (by simp)).trans (hgo.get (by decide)))
  refine ⟨(w.chainGo 5).stageEvent 2 2 [], next_congr (if_pos ⟨hc, h2, h4, hl⟩), ?_, hloss.trans (v.on_raise rfl (by decide)), ?_⟩
  · exact ((w.chainGo_goes (by decide)).congr (hraise.get (by decide)) fun _ _ => rfl).then hstage (by simp)
  · exact (hgo.2 .clock (by decide)).trans (hraise.2 .clock (by decide))

/-! ## The step (R93, R101) -/

theorem wrapN_lt (w : Nat) (x : Int) : wrapN w x < 2 ^ w := by
  have h : x % (2 ^ w : Nat) < (2 ^ w : Nat) := Int.emod_lt_of_pos _ (by positivity)
  unfold wrapN
  omega

/-- A 64-bit value written into its two fields reads back. -/
theorem State.get2_of_halves {s : State} {lo hi : Fld} {v : Nat} (hl : s.get lo = v % 2 ^ 32)
    (hh : s.get hi = v / 2 ^ 32 % 2 ^ 32) : s.get2 lo hi = v % 2 ^ 64 := by
  rw [State.get2, hl, hh]
  omega

/-- The step: the grain count under its new number, STEP and its amount; the cues wait for the dispatch. -/
theorem State.chainStepBy_effect (s : State) (d : Int) : (s.chainStepBy d).cues = s.cues ∧
    (s.chainStepBy d).clock.grain = ((s.clock.grain : Int) + d).toNat ∧ (s.chainStepBy d).chain.stepPend = none ∧
    (s.chainStepBy d).on CHAIN.FLAGS.STEP = true ∧
    (s.chainStepBy d).get2 CHAIN.STEPLO.SLO CHAIN.STEPHI.SHI = wrapN 64 d := by
  let u := (s.renumberGrains d).modChain fun c => { c with stepPend := none }
  let v := u.set2 CHAIN.STEPLO.SLO CHAIN.STEPHI.SHI (wrapN 64 d)
  let w := v.raise CHAIN.FLAGS.STEP 0x16
  have hraise : Same [] (CHAIN.FLAGS.STEP :: arrivalOf 0x16) v w :=
    State.raise_frame [] v _ _ (List.mem_cons_self ..) fun _ h => List.mem_cons_of_mem _ h
  have hrest : Same [.jrnl] stateFields w (s.chainStepBy d) :=
    (State.stageEvent_frame w 2 1 _ stateFields).then ((State.chainGo_frame _ 3).mono nofun fun _ h => h)
  have hcomp {c : Comp} (hj : c ≠ .jrnl) : c.same v (s.chainStepBy d) :=
    c.same_trans (hraise.2 c (by simp)) (hrest.2 c (by simp [hj]))
  have hlo : (s.chainStepBy d).get CHAIN.STEPLO.SLO = wrapN 64 d % 2 ^ 32 := by
    rw [hrest.get (by decide), hraise.get (by decide), State.get_set2, if_neg (by decide), if_pos rfl]
    rfl
  have hhi : (s.chainStepBy d).get CHAIN.STEPHI.SHI = wrapN 64 d / 2 ^ 32 % 2 ^ 32 := by
    rw [hrest.get (by decide), hraise.get (by decide), State.get_set2, if_pos rfl]
    rfl
  refine ⟨hcomp (c := .cues) nofun, (congrArg Clock.grain (hcomp (c := .clock) nofun) :),
    (congrArg Chain.stepPend (hcomp (c := .chain) nofun) :), ?_, ?_⟩
  · exact (State.on_of_get (hrest.get (by decide))).trans (v.on_raise rfl (by decide))
  · rw [State.get2_of_halves hlo hhi, Nat.mod_eq_of_lt (wrapN_lt 64 d)]

theorem chainStep_next {s : State} (hc : s.chainOn = true) {d : Int} {g : Nat} (hp : s.chain.stepPend = some (d, g))
    (hg : g < s.clock.grain) : exec .chainStep s = .next (s.chainStepBy d).dispatchDue := by
  show execChainStep s = _
  unfold execChainStep
  rw [hp]
  exact next_congr (if_pos ⟨hc, hg⟩)

/-- The link, event by event. -/
theorem chainLink : Claims.ChainLink := by
  intro s hc state goes
  refine ⟨fun bad hst hg hp hs hh => timecodeFrameSend_next hc hst hg hp hs hh bad,
    fun bad hs => next_congr (if_neg fun ⟨_, _, _, _, hn, _⟩ => hn hs),
    fun frame hst => followerReplyReceive_next hc frame hst, fun pos hst hm h3 => replyMissed_next hc hst hm h3,
    fun pos hst => handoverGo_next hc hst, fun hst hh hg hs => ⟨_, handoverSwitch_old hc hst hh hg hs, s.follow_goes⟩,
    fun g hh hw hg => ?_, fun g hl hg => ?_, fun g hl hg => ⟨_, leaderSilenceEnd_next hc hl hg, s.listen_effect⟩,
    fun hheir hf hl => ?_, fun frame hf => timecodeFrameReceive_bad hc hf,
    fun frame hf hst hl hs => timecodeFrameReceive_listening hc hf hst hl hs,
    fun d hd hf ht => ⟨_, followerReplySend_next hc hd hf ht, s.reply_length, rfl, State.modChain_frame ..⟩,
    fun h2 h4 hl => frameLoss_next hc h2 h4 hl,
    fun d g hp hg => ⟨_, chainStep_next hc hp hg, s.chainStepBy_effect d⟩⟩
  · obtain ⟨hgo, hlpos, -⟩ := s.lead_effect
    exact ⟨_, handoverSwitch_new hc hh hw hg, hgo, hlpos⟩
  · obtain ⟨hgo, -, hlisten⟩ := s.lead_effect
    exact ⟨_, leaderListenEnd_next hc hl hg, hgo, hlisten⟩
  · obtain ⟨hgo, -, -⟩ := s.lead_effect
    exact ⟨s.lead, next_congr (if_pos ⟨hc, hheir, hf, hl⟩), hgo⟩

/-- Settles O23: the cancelling of cues, and the chain link event by event. -/
theorem cancellingAndTheChain : Obligations.CancellingAndTheChain := ⟨cueCancelling, chainLink⟩

end Sys2Proof.Machine

namespace Sys2Proof.Machine
open Sys2Proof.Claims

/-! SUPPORT. The length of a grain at whose tail the roped pair turns the chain link off (R68, R95, R100, R195).

The link's slew gives a grain 6399 or 6401 cycles; where the link is turned off the length in force becomes 6400 at once.
A write that the pair has queued is applied at the boundary, before the rest of the ended grain passes, so that such a grain
does not last as long as its length before the boundary says. -/

/-! ## From the stream fill on: nothing of the boundary's work touches the clock (R69) -/

/-- The components that the fill, the appending of records, the pulse outputs and the held pitches change. -/
def fillComps : List Comp := [.streams, .bitMon, .pq, .mem, .capt, .pulse, .tracker, .jrnl, .cairn]

/-- From s to t only those components and register fields have changed. -/
def Filled (s t : State) : Prop := Frame fillComps (fun _ => True) s t

section
variable {s₀ s t : State}

theorem Filled.update {streams bitMon pq mem capt pulse tracker jrnl cairn} (h : Filled s₀ s) :
    Filled s₀ { s with streams, bitMon, pq, mem, capt, pulse, tracker, jrnl, cairn } :=
  h.then (.of_flds rfl fun c hc => by
    cases c with
    | streams | bitMon | pq | mem | capt | pulse | tracker | jrnl | cairn => exact absurd (by decide) hc
    | _ => rfl)

theorem Filled.set {f : Fld} {v : Nat} (h : Filled s₀ s) : Filled s₀ (s.set f v) := h.then (State.set_frame _ s f v trivial)

theorem Filled.setBit {f : Fld} {i : Nat} {b : Bool} (h : Filled s₀ s) : Filled s₀ (s.setBit f i b) := h.set

theorem Filled.bump {c f : Fld} (h : Filled s₀ s) : Filled s₀ (s.bump c f) :=
  h.then (State.bump_frame _ s c f trivial trivial)

theorem Filled.arrive {src : Nat} (h : Filled s₀ s) : Filled s₀ (s.arrive src) :=
  h.then (State.arrive_frame _ s src fun _ _ => trivial)

theorem Filled.raise {f : Fld} {src : Nat} (h : Filled s₀ s) : Filled s₀ (s.raise f src) :=
  h.then (State.raise_frame _ s f src trivial fun _ _ => trivial)

theorem Filled.ite {c : Prop} [Decidable c] (h : Filled s₀ s) (h' : Filled s₀ t) : Filled s₀ (if c then s else t) := by
  split
  · exact h
  · exact h'

theorem Filled.foldl {α : Type} {f : State → α → State} {l : List α} (h : Filled s₀ s)
    (hf : ∀ {t x}, Filled s₀ t → Filled s₀ (f t x)) : Filled s₀ (l.foldl f s) := by
  induction l generalizing s with
  | nil => exact h
  | cons x l ih => exact ih (hf h)

theorem Filled.stageSat {mask : Nat} (h : Filled s₀ s) : Filled s₀ (s.stageSat mask) := .ite h h.set.arrive

theorem Filled.fillGrain {g : GrainWords} (h : Filled s₀ s) : Filled s₀ (s.fillGrain g) := h.update.stageSat

theorem Filled.supraFill (h : Filled s₀ s) : Filled s₀ s.supraFill :=
  .ite (.ite h.update h) (Filled.ite h.update h).update

theorem Filled.captFill (h : Filled s₀ s) : Filled s₀ s.captFill := .ite h.update.update h

theorem Filled.writeEvent {e : PqEvent} {extra : Nat} {stop : Option Nat} (h : Filled s₀ s) :
    Filled s₀ (s.writeEvent e extra stop) := h.update.update.arrive

theorem Filled.pqReopen {cold : Bool} (h : Filled s₀ s) : Filled s₀ (s.pqReopen cold) :=
  .ite h (h.foldl fun ht => .ite ht.writeEvent ht.writeEvent).update

theorem State.supraFill_kept (s : State) : s.supraFill.streams = s.streams ∧ s.supraFill.tracker = s.tracker := by
  unfold State.supraFill
  dsimp only
  split <;> split <;> exact ⟨rfl, rfl⟩

/-- The samples of a grain leave the pitches that are being evaluated, and those that run, alone. -/
theorem State.samples_kept (s : State) (g : GrainWords) :
    (s.fillGrain g).supraFill.bitRange.streams.builds = s.streams.builds ∧
    (s.fillGrain g).supraFill.bitRange.tracker = s.tracker := by
  obtain ⟨hstreams, htracker⟩ := (s.fillGrain g).supraFill_kept
  have hsat (u : State) (mask : Nat) : Frame [] (fun _ => True) u (u.stageSat mask) := by
    unfold State.stageSat
    split
    · exact .refl ..
    · exact (State.set_frame [] u _ _ trivial).then (State.arrive_frame [] _ _ fun _ _ => trivial)
  exact ⟨(congrArg Streams.builds (hstreams.trans ((hsat _ _).2 .streams (by decide))) :),
    htracker.trans ((hsat _ _).2 .tracker (by decide))⟩

/-- With no pitch begun no point is evaluated, and no pitch becomes whole. -/
theorem State.fillPoints_idle {s : State} (hb : s.streams.builds = []) (hr : s.tracker.running = []) :
    s.fillPoints = (false, { s with streams := { s.streams with builds := [] } }) := by
  simp [State.fillPoints, State.stageSat, hb, hr]

theorem State.pqFill_idle {s : State} (hb : s.streams.builds = []) : s.pqFill false = s := by
  simp [State.pqFill, State.pqPoints, hb]

/-- The fill of a grain in which no pitch runs and no swap is due. -/
theorem Filled.fillPhase {g : GrainWords} (h : Filled s₀ s) (hs : s.streams.swap = none) (hb : s.streams.builds = [])
    (hr : s.tracker.running = []) : Filled s₀ (s.fillPhase g) := by
  obtain ⟨hbuilds, htracker⟩ := s.samples_kept g
  have hswap : s.swapApply = s := by simp only [State.swapApply, hs]
  have hidle := State.fillPoints_idle (hbuilds.trans hb) (htracker ▸ hr)
  have hu : Filled s₀ (s.fillGrain g).supraFill.bitRange := h.fillGrain.supraFill.update
  unfold State.fillPhase
  dsimp only
  rw [hswap, hidle, if_neg Bool.false_ne_true, State.pqFill_idle rfl]
  exact hu.update.captFill.pqReopen

theorem Filled.appendOne {r : JRec} (h : Filled s₀ s) : Filled s₀ (s.appendOne r).2 := by
  unfold State.appendOne
  dsimp only
  split
  · exact h.update
  · exact .ite h.update.bump h.update

theorem Filled.appendAll {l : List JRec} (h : Filled s₀ s) : Filled s₀ (s.appendAll l) := by
  induction l generalizing s with
  | nil => exact .ite h.update h.update.update
  | cons r l ih =>
    have hr : Filled s₀ (s.appendOne r).2 := h.appendOne
    unfold State.appendAll
    split
    · next t e => rw [e] at hr; exact ih hr
    · next t e => rw [e] at hr; exact hr.update

theorem Filled.appendStaged (h : Filled s₀ s) : Filled s₀ s.appendStaged :=
  .ite h (Filled.update (Filled.set (Filled.set (.ite h.appendAll.raise h.appendAll.set))))

theorem Filled.pulseBoundary (h : Filled s₀ s) : Filled s₀ s.pulseBoundary :=
  (h.foldl fun ht => .ite ht.update.setBit.set.setBit.update ht.update.setBit).update

theorem Filled.holdRun {n upTo : Nat} (h : Filled s₀ s) : Filled s₀ (State.holdRun n upTo s) := by
  induction n generalizing s with
  | zero => exact h
  | succ n ih => exact .ite (ih h.set.update.update) h

/-- The boundary's work from the stream fill on. -/
def State.boundaryRest (s : State) (g : GrainWords) : State :=
  let s := (s.fillPhase g).appendStaged.pulseBoundary
  (State.holdRun 4 (s.clock.grain * 2 ^ 32) s).arrive 0x10

/-- The boundary's work before it. -/
def State.boundaryStart (s : State) (m : Measure) : State :=
  let w := s.finishGrain.frontEnd m
  let s := (w.2.nextGrain.settingsBoundary m.fmeas.toNat).gapEnds.orderBoundary
  let s := s.lanesBoundary.permitCount.glassGrain.bootServe
  (if s.stepDue then s else s.dispatchDue).modemWords

theorem exec_grainBoundary {s : State} (hp : s.power = .on) (hl : s.clock.pllLock = true) (m : Measure) :
    exec (.grainBoundary m) s = .next ((s.boundaryStart m).boundaryRest (s.finishGrain.frontEnd m).1) := by
  show execGrainBoundary m s = _
  unfold execGrainBoundary State.boundaryRest State.boundaryStart
  rw [if_pos ⟨hp, hl⟩]

theorem State.boundaryRest_clock {s : State} (g : GrainWords) (hs : s.streams.swap = none) (hb : s.streams.builds = [])
    (hr : s.tracker.running = []) : (s.boundaryRest g).clock = s.clock := by
  have hfill : Filled s (s.fillPhase g) := .fillPhase (Frame.refl ..) hs hb hr
  exact hfill.appendStaged.pulseBoundary.holdRun.arrive.2 .clock (by decide)

end

/-! ## The counterexample -/

/-- The link slews in a grain of 6399 cycles, and both members of the roped pair have queued a write that turns it off. -/
def linkTurnedOff : State :=
  let s := State.reset
  let s : State := { s with
    clock := { s.clock with pllLock := true, grain := 1000, glen := 6399 }, chain := { s.chain with chvdd := true } }
  let s := (s.set CHAIN.CTRL.EN 1).set CHAIN.STATUS.STATE 3
  let l : Lane := { Lane.zero with outQ := [⟨0x02, 0x00, .write, 0⟩] }
  (s.setLane 0 l).setLane 1 l

/-- Converters that show nothing. -/
def noBits : Measure := ⟨Vector.replicate 38 0, Vector.replicate 8 0, 0, 0⟩

/-- The ended grain has lasted 6400 cycles. -/
theorem linkTurnedOff_boundary : (linkTurnedOff.boundaryStart noBits).clock.now = 6400 ∧
    (linkTurnedOff.boundaryStart noBits).streams.swap = none ∧ (linkTurnedOff.boundaryStart noBits).streams.builds = [] ∧
    (linkTurnedOff.boundaryStart noBits).tracker.running = [] := by
  decide +kernel

/-- Refutes O27: where the roped pair has queued a write that turns the chain link off, a grain slewed to 6399 cycles lasts
6400, since the length in force changes before the rest of the grain passes. -/
theorem not_grainsPitchesBlocks : ¬ Obligations.GrainsPitchesBlocks := by
  unfold Obligations.GrainsPitchesBlocks
  intro h
  obtain ⟨t, hexec, -, -, hnow, -⟩ := (h linkTurnedOff rfl).1 noBits rfl
  obtain ⟨hlong, hs, hb, hr⟩ := linkTurnedOff_boundary
  rw [exec_grainBoundary rfl rfl] at hexec
  obtain rfl : _ = t := Host.Outcome.next.inj hexec
  rw [State.boundaryRest_clock _ hs hb hr, hlong] at hnow
  exact absurd hnow (by decide)

end Sys2Proof.Machine

namespace Sys2Proof.Machine
open Sys2Proof.Claims

/-! SUPPORT. Entry into BIVOUAC and OFF, a window in BIVOUAC and a WAKE line (R72, R417, R461, R500–R505, R511). -/

/-! ## Entry (R503, R72) -/

/-- What the entry sequence does once its last writes are made: the mains side goes, what waits in SENTRY goes on. -/
def State.sleep (t : State) : State :=
  let u := (t.dropVolatile false true).keepFields false true
  let u : State := { u with power := .bivouac, second := t.second.filter (fun d => d.what.sentry) }
  u.modPwr (fun p => { p with saved := true, lastWindow := t.clock.rtc })

/-- The entry sequence ends on a SLOW edge, with the tie written there. -/
theorem State.enterBivouac_sleep (s : State) :
    ∃ w : State, w.clock.slowPh < 6250 ∧ s.enterBivouac = w.toSlowEdge.tieNow.sleep :=
  ⟨_, Nat.mod_lt _ (by decide), rfl⟩

/-- CORE stops where a SLOW cycle begins. -/
theorem State.toSlowEdge_slowPh {w : State} (h : w.clock.slowPh < 6250) : w.toSlowEdge.clock.slowPh = 0 := by
  show (w.clock.slowPh + (6250 - w.clock.slowPh) % 6250) % 6250 = 0
  omega

/-- A warm stop keeps the RTC and the tie, and the count and phase at which CORE stops (R512). -/
theorem State.dropVolatile_clock (s : State) (s1 : Bool) : (s.dropVolatile false s1).clock =
    { s.clock with now := 0, pllLock := false, glen := 6400, xtalOk := true } := by
  have hclock : (s.dropAlwaysOn false).clock = s.clock := by
    show (if s.updDriving then s.flag GLASS.BSTHI.UNKNOWN true else s).clock = s.clock
    split <;> rfl
  show { (s.dropAlwaysOn false).clock with now := 0, pllLock := false, glen := 6400, xtalOk := true } = _
  rw [hclock]

/-- The state in BIVOUAC after an entry. -/
def Asleep (t : State) : Prop :=
  t.power = .bivouac ∧ t.pwr.saved = true ∧
  t.clock.slowPh = 0 ∧ t.clock.pllLock = false ∧ t.clock.tie = some ⟨t.clock.rtc, t.clock.grain, t.clock.phase⟩ ∧
  t.pwr.lastWindow = t.clock.rtc ∧ t.lanes = Vector.replicate 5 Lane.zero ∧ t.cues = [] ∧
  (∀ f : Fld, f.surv = .s0 → f ≠ HOST.OUTSEQ.SEQ → f ≠ RST.CAUSE.CAUSE → t.get f = f.reset) ∧
  ∀ a, 0x10000000 ≤ a → a < 0x20000000 → t.byte a = 0

theorem State.sleep_asleep {t : State} (hedge : t.clock.slowPh = 0)
    (htie : t.clock.tie = some ⟨t.clock.rtc, t.clock.grain, t.clock.phase⟩) : Asleep t.sleep := by
  have hclock : t.sleep.clock = { t.clock with now := 0, pllLock := false, glen := 6400, xtalOk := true } :=
    t.dropVolatile_clock true
  have hbyte (a : Nat) : t.sleep.byte a = (t.dropAlwaysOn false).byte a := rfl
  unfold Asleep
  rw [hclock]
  refine ⟨rfl, rfl, hedge, rfl, htie, rfl, rfl, rfl, fun f hf hseq hcause => ?_, fun a ha ha' => ?_⟩
  · refine (State.keepFields_get _ false true f).trans (if_neg ?_)
    simp [hf, hseq, hcause, Surv.kept]
  · rw [hbyte, t.dropAlwaysOn_sram false a ha ha']

theorem State.enterBivouac_asleep (s : State) : Asleep s.enterBivouac := by
  obtain ⟨w, hw, he⟩ := s.enterBivouac_sleep
  rw [he]
  exact State.sleep_asleep (State.toSlowEdge_slowPh hw) rfl

/-- Entry is possible under the warning while the cell is good. -/
theorem State.canEnter_of {s : State} (hp : s.power = .on) (hl : s.clock.pllLock = true) (hw : s.on PWR.STATE.SFW = true)
    (hc : s.on PWR.STATE.CELLOK = true) : s.canEnter = true := by
  simp [State.canEnter, hp, hl, hw, hc]

theorem bulkDropout_next {s : State} (h : s.canEnter = true) : exec .bulkDropout s = .next s.enterBivouac :=
  next_congr (if_pos h)

theorem bivouacEntryDecide_next {s : State} (h : s.canEnter = true) {w : Nat} (hw : s.pwr.warnAt = some w)
    (hpast : w + 512 ≤ s.clock.grain) : exec .bivouacEntryDecide s = .next s.enterBivouac := by
  show execBivouacEntryDecide s = _
  unfold execBivouacEntryDecide
  rw [hw]
  exact next_congr (if_pos ⟨h, hpast⟩)

/-! ## OFF (R500, R511) -/

/-- t is in OFF, reached from s: the fields of classes S3 and S4 alone are kept. -/
def SwitchedOff (s t : State) : Prop :=
  t.power = .off ∧ t.mem = [] ∧ t.lanes = Vector.replicate 5 Lane.zero ∧ t.part = s.part ∧ t.pending = s.pending ∧
  (∀ f : Fld, f.surv = .s3 ∨ f.surv = .s4 → t.get f = s.get f) ∧
  (∀ f : Fld, f.surv = .s0 ∨ f.surv = .s1 ∨ f.surv = .s2 → f ≠ HOST.OUTSEQ.SEQ → f ≠ RST.CAUSE.CAUSE → t.get f = f.reset)

theorem State.goOff_switchedOff (s : State) : SwitchedOff s s.goOff := by
  refine ⟨rfl, rfl, rfl, rfl, rfl, fun f hf => ?_, fun f hf hseq hcause => ?_⟩
  · refine (State.keepFields_get (s.dropVolatile true false) true false f).trans (if_pos ?_)
    obtain hf | hf := hf <;> simp [hf, Surv.kept]
  · refine (State.keepFields_get (s.dropVolatile true false) true false f).trans (if_neg ?_)
    obtain hf | hf | hf := hf <;> simp [hf, hseq, hcause, Surv.kept]

/-- A write torn before the stop is none of what OFF keeps. -/
theorem SwitchedOff.torn {s s' t : State} (h : SwitchedOff s' t) (ht : Torn s s') : SwitchedOff s t := by
  obtain ⟨hpower, hmem, hlanes, hpart, hpending, hkept, hlost⟩ := h
  exact ⟨hpower, hmem, hlanes, hpart.trans (ht.2 .part (by decide)), hpending.trans (ht.2 .pending (by decide)),
    fun f hf => (hkept f hf).trans (ht.get (by simp)), hlost⟩

/-! ## A tick of the tamper supervisor leaves the supply's side alone (R466) -/

/-- The components that a tick of the supervisor changes. -/
def tickComps : List Comp := [.tamp, .mem, .jrnl, .second, .free]

/-- From s to t only those components have changed, and register fields of other units than PWR. -/
def Ticked (s t : State) : Prop := Frame tickComps (fun f => f.unit ≠ 64) s t

section
variable {s₀ s t : State}

theorem Ticked.update {tamp mem jrnl second free} (h : Ticked s₀ s) :
    Ticked s₀ { s with tamp, mem, jrnl, second, free } :=
  h.then (.of_flds rfl fun c hc => by
    cases c with
    | tamp | mem | jrnl | second | free => exact absurd (by decide) hc
    | _ => rfl)

theorem Ticked.set {f : Fld} {v : Nat} (h : Ticked s₀ s) (hf : f.unit ≠ 64 := by nofun) : Ticked s₀ (s.set f v) :=
  h.then (State.set_frame _ s f v hf)

theorem Ticked.setBit {f : Fld} {i : Nat} {b : Bool} (h : Ticked s₀ s) (hf : f.unit ≠ 64 := by nofun) :
    Ticked s₀ (s.setBit f i b) := h.set hf

theorem Ticked.arrive {src : Nat} (h : Ticked s₀ s) : Ticked s₀ (s.arrive src) :=
  h.then (State.arrive_frame _ s src fun f hf => by
    simp only [arrivalOf, List.mem_cons, List.not_mem_nil, or_false] at hf
    obtain rfl | rfl | rfl := hf <;> nofun)

theorem Ticked.ite {c : Prop} [Decidable c] (h : Ticked s₀ s) (h' : Ticked s₀ t) : Ticked s₀ (if c then s else t) := by
  split
  · exact h
  · exact h'

theorem Ticked.when {c : Prop} [Decidable c] (h : Ticked s₀ s) (hf : Ticked s₀ s → Ticked s₀ t) :
    Ticked s₀ (if c then t else s) := .ite (hf h) h

theorem Ticked.foldl {α : Type} {f : State → α → State} {l : List α} (h : Ticked s₀ s)
    (hf : ∀ {t x}, Ticked s₀ t → Ticked s₀ (f t x)) : Ticked s₀ (l.foldl f s) := by
  induction l generalizing s with
  | nil => exact h
  | cons x l ih => exact ih (hf h)

theorem Ticked.mirrorRing (h : Ticked s₀ s) : Ticked s₀ s.mirrorRing := h.update.set

theorem Ticked.ringAdd {e : RingEntry} (h : Ticked s₀ s) : Ticked s₀ (s.ringAdd e) :=
  .ite h.update.mirrorRing (Ticked.ite h.set h).update.mirrorRing

theorem Ticked.tampRecord {src kind resp dets code1 code2 : Nat} (h : Ticked s₀ s) :
    Ticked s₀ (s.tampRecord src kind resp dets code1 code2) :=
  .ite (.ite h.update h.update.update) h.ringAdd

theorem Ticked.detFault {n : Fin 8} (h : Ticked s₀ s) : Ticked s₀ (s.detFault n) := h.setBit.tampRecord.arrive


theorem Ticked.decideFirst {d : Decision} (h : Ticked s₀ s) : Ticked s₀ (s.decideFirst d) := h.update

theorem Ticked.tickSource {ti : TickIn} {n : Fin 8} (h : Ticked s₀ s) : Ticked s₀ (s.tickSource ti n) :=
  .when (.ite ((h.update.when (·.setBit.setBit.setBit.setBit.setBit)).setBit.when (·.setBit.detFault))
    ((h.update.when (·.setBit.setBit.setBit.setBit.setBit)).when (·.detFault))) (·.decideFirst)

/-- The tick of all eight sources, and its time. -/
theorem State.tampTick_ticked (s : State) (ti : TickIn) :
    Ticked s (s.tampTick ti) ∧ (s.tampTick ti).tamp.lastTick = s.clock.rtc := by
  have hfold : Ticked s ((List.finRange 8).foldl (fun u n => u.tickSource ti n) s) :=
    Ticked.foldl (.refl ..) fun ht => ht.tickSource
  have hclock := hfold.2 .clock (by decide)
  exact ⟨hfold.update, congrArg Clock.rtc hclock⟩

end

/-! ## The entries of a window (R504) -/

theorem State.forN_succ (s : State) (n : Nat) (f : Nat → State → State) : s.forN (n + 1) f = f n (s.forN n f) := by
  simp [State.forN, List.range_succ]

/-- A counter below its greatest value counts on. -/
theorem State.bump_get_same (s : State) {c f : Fld} (h : s.get c + 1 < 2 ^ c.w) : (s.bump c f).get c = s.get c + 1 := by
  rw [State.bump, if_pos h, State.get_set_same, Nat.mod_eq_of_lt h]

theorem outside_iff (signed : Bool) (lo hi : Nat) (c : Int) : outside signed lo hi c = true ↔
    if signed then c < sextN 16 lo ∨ sextN 16 hi < c else c < lo ∨ hi < c := by
  cases signed <;> simp [outside]

/-- From s to t entry n has taken its code, and counted it where it lies outside its limits. -/
def EntryTaken (s t : State) (n : Nat) (code : Int) : Prop :=
  let ch := s.get (PWR.BVCH.SEL n)
  let lo := s.get (PWR.BVTHR.LO n)
  let hi := s.get (PWR.BVTHR.HI n)
  let used := s.bit PWR.BVCFG.EN n = true ∧ s.part.bvChannel ch = true
  let out := if auxSigned ch then code < sextN 16 lo ∨ sextN 16 hi < code else code < lo ∨ hi < code
  (used → t.get (PWR.BVLAST.CODE n) = wrapN 16 code ∧ (out → s.get (PWR.BVCNT.COUNT n) + 1 < 2 ^ 31 →
    t.get (PWR.BVCNT.COUNT n) = s.get (PWR.BVCNT.COUNT n) + 1) ∧
    (¬ out → t.get (PWR.BVCNT.COUNT n) = s.get (PWR.BVCNT.COUNT n))) ∧
  (¬ used → t.get (PWR.BVLAST.CODE n) = s.get (PWR.BVLAST.CODE n) ∧
    t.get (PWR.BVCNT.COUNT n) = s.get (PWR.BVCNT.COUNT n))

/-- The fields that entry n writes. -/
def bvFields (n : Nat) : List Fld := [PWR.BVLAST.CODE n, PWR.BVCNT.COUNT n, PWR.BVCNT.SAT n]

/-- The fields on which entry n depends. -/
def bvReads (n : Nat) : List Fld :=
  [PWR.BVCH.SEL n, PWR.BVTHR.LO n, PWR.BVTHR.HI n, PWR.BVCFG.EN, PWR.BVLAST.CODE n, PWR.BVCNT.COUNT n]

theorem EntryTaken.congr {s s' t t' : State} {n : Nat} {code : Int} (h : EntryTaken s t n code) (hp : s.part = s'.part)
    (hs : ∀ f ∈ bvReads n, s.get f = s'.get f) (ht : ∀ f ∈ bvReads n, t'.get f = t.get f) :
    EntryTaken s' t' n code := by
  simp only [bvReads, List.forall_mem_cons] at hs ht
  obtain ⟨hsel, hlo, hhi, hen, hlast, hcount, -⟩ := hs
  obtain ⟨-, -, -, -, hlast', hcount', -⟩ := ht
  simpa only [EntryTaken, State.bit, hp, hsel, hlo, hhi, hen, hlast, hcount, hlast', hcount'] using h

theorem State.bvEntry_used {s : State} {n : Nat} (code : Int)
    (h : s.bit PWR.BVCFG.EN n = true ∧ s.part.bvChannel (s.get (PWR.BVCH.SEL n)) = true) :
    s.bvEntry n code = if outside (auxSigned (s.get (PWR.BVCH.SEL n))) (s.get (PWR.BVTHR.LO n)) (s.get (PWR.BVTHR.HI n)) code
      then (s.set (PWR.BVLAST.CODE n) (wrapN 16 code)).bump (PWR.BVCNT.COUNT n) (PWR.BVCNT.SAT n)
      else s.set (PWR.BVLAST.CODE n) (wrapN 16 code) := if_pos h

theorem State.bvEntry_unused {s : State} {n : Nat} (code : Int)
    (h : ¬ (s.bit PWR.BVCFG.EN n = true ∧ s.part.bvChannel (s.get (PWR.BVCH.SEL n)) = true)) :
    s.bvEntry n code = s := if_neg h

theorem State.bvEntry_frame (s : State) (n : Nat) (code : Int) : Same [] (bvFields n) s (s.bvEntry n code) := by
  have hset : Same [] (bvFields n) s (s.set (PWR.BVLAST.CODE n) (wrapN 16 code)) :=
    State.set_frame _ s _ _ (by simp [bvFields])
  by_cases h : s.bit PWR.BVCFG.EN n = true ∧ s.part.bvChannel (s.get (PWR.BVCH.SEL n)) = true
  · rw [State.bvEntry_used code h]
    split
    · exact hset.then (State.bump_frame _ _ _ _ (by simp [bvFields]) (by simp [bvFields]))
    · exact hset
  · rw [State.bvEntry_unused code h]
    exact .refl ..

theorem State.bvEntry_taken (s : State) (n : Nat) (code : Int) : EntryTaken s (s.bvEntry n code) n code := by
  refine ⟨fun h => ?_, fun h => by rw [State.bvEntry_unused code h]; exact ⟨rfl, rfl⟩⟩
  rw [State.bvEntry_used code h, ← outside_iff]
  have hlast : (s.set (PWR.BVLAST.CODE n) (wrapN 16 code)).get (PWR.BVLAST.CODE n) = wrapN 16 code :=
    (State.get_set_same ..).trans (Nat.mod_eq_of_lt (wrapN_lt 16 code))
  have hcount : (s.set (PWR.BVLAST.CODE n) (wrapN 16 code)).get (PWR.BVCNT.COUNT n) = s.get (PWR.BVCNT.COUNT n) :=
    State.get_set_other s (by simp [PWR.BVLAST.CODE, PWR.BVCNT.COUNT]) _
  split
  · next hout =>
    refine ⟨(State.bump_get_other _ (by simp [PWR.BVLAST.CODE, PWR.BVCNT.COUNT, PWR.BVCNT.SAT])).trans hlast,
      fun _ hroom => ?_, fun hn => absurd hout hn⟩
    rw [State.bump_get_same _ (by rw [hcount]; exact hroom), hcount]
  · next hout => exact ⟨hlast, fun ho => absurd ho hout, fun _ => hcount⟩

/-- An entry's registers are its own. -/
theorem bvFields_apart {i n : Nat} (h : i ≠ n) {f : Fld} (hf : f ∈ bvReads n) : f ∉ bvFields i := by
  simp only [bvReads, List.mem_cons, List.not_mem_nil, or_false] at hf
  obtain rfl | rfl | rfl | rfl | rfl | rfl := hf <;>
    simp [bvFields, PWR.BVCH.SEL, PWR.BVTHR.LO, PWR.BVTHR.HI, PWR.BVCFG.EN, PWR.BVLAST.CODE, PWR.BVCNT.COUNT,
      PWR.BVCNT.SAT, Ne.symm h]

/-- The first m entries change their own registers alone. -/
theorem State.bvEntries_frame (s : State) (code : Nat → Int) (m : Nat) :
    Frame [] (fun f => ∃ i < m, f ∈ bvFields i) s (s.forN m fun i v => v.bvEntry i (code i)) := by
  induction m with
  | zero => exact .refl ..
  | succ m ih =>
    rw [State.forN_succ]
    exact .then (ih.mono (fun _ h => h) fun f ⟨i, hi, hf⟩ => ⟨i, by omega, hf⟩)
      ((State.bvEntry_frame _ m _).mono (fun _ h => h) fun f hf => ⟨m, by omega, hf⟩)

/-- Each of the first m entries takes its code. -/
theorem State.bvEntries_taken (s : State) (code : Nat → Int) {m n : Nat} (h : n < m) :
    EntryTaken s (s.forN m fun i v => v.bvEntry i (code i)) n (code n) := by
  induction m with
  | zero => exact absurd h (by omega)
  | succ m ih =>
    rw [State.forN_succ]
    have hbefore := s.bvEntries_frame code m
    obtain hn | rfl := Nat.lt_succ_iff_lt_or_eq.1 h
    · exact (ih hn).congr rfl (fun _ _ => rfl) fun f hf =>
        (State.bvEntry_frame _ m _).get (bvFields_apart (by omega) hf)
    · refine (State.bvEntry_taken _ n _).congr (hbefore.2 .part (by decide)) (fun f hf => hbefore.1 f ?_) fun _ _ => rfl
      rintro ⟨i, hi, hfi⟩
      exact bvFields_apart (by omega) hf hfi

/-! ## The window (R504) -/

/-- The window is noted and counted. -/
def State.windowStart (s : State) : State :=
  (s.modPwr (fun p => { p with lastWindow := s.clock.rtc, alarmWatch := p.alarmWatch - 1 })).bump PWR.BVWIN.COUNT
    PWR.BVWIN.SAT

/-- The entries take their codes, the supervisor its readings. -/
def State.windowRead (s : State) (codes : List Int) (ti : TickIn) : State :=
  (s.windowStart.forN 8 fun n v => v.bvEntry n (codes.getD n 0)).tampTick ti

theorem bivouacWindow_next {s : State} {codes : List Int} (ti : TickIn) (ok : Bool) (hp : s.power = .bivouac)
    (hl : codes.length = 8)
    (hd : s.pwr.lastWindow + (if s.pwr.alarmWatch = 0 then s.get PWR.BVCFG.PERIOD else 1) * 8192 ≤ s.clock.rtc) :
    exec (.bivouacWindow codes ti ok) s =
      .next (if s.part.optG then (s.windowRead codes ti).pulseCheck ok else s.windowRead codes ti) := by
  show execBivouacWindow codes ti ok s = _
  unfold execBivouacWindow
  rw [if_neg (not_not_intro hl)]
  exact next_congr (if_pos ⟨hp, hd⟩)

theorem State.modPwr_frame (s : State) (f : PowerSt → PowerSt) (fs : List Fld) : Same [.pwr] fs s (s.modPwr f) :=
  .of_flds rfl fun c hc => by
    cases c with
    | pwr => simp at hc
    | _ => rfl

theorem State.modGlass_frame (s : State) (f : GlassSt → GlassSt) (fs : List Fld) : Same [.glass] fs s (s.modGlass f) :=
  .of_flds rfl fun c hc => by
    cases c with
    | glass => simp at hc
    | _ => rfl

theorem State.windowStart_frame (s : State) : Same [.pwr] [PWR.BVWIN.COUNT, PWR.BVWIN.SAT] s s.windowStart :=
  (s.modPwr_frame _ _).then (State.bump_frame _ _ _ _ (by decide) (by decide))

theorem State.windowStart_pwr (s : State) :
    s.windowStart.pwr = { s.pwr with lastWindow := s.clock.rtc, alarmWatch := s.pwr.alarmWatch - 1 } := by
  unfold State.windowStart State.bump
  split <;> rfl

section
variable (s : State) (codes : List Int) (ti : TickIn)

/-- Codes and readings change what the supervisor's tick does, and no other component. -/
theorem State.windowRead_comp {c : Comp} (hc : c ∉ tickComps) : c.same s.windowStart (s.windowRead codes ti) :=
  c.same_trans ((s.windowStart.bvEntries_frame (codes.getD · 0) 8).2 c (by simp))
    ((State.tampTick_ticked _ ti).1.2 c hc)

/-- Of PWR's registers they change those of the entries. -/
theorem State.windowRead_get {f : Fld} (hu : f.unit = 64) :
    (s.windowRead codes ti).get f = (s.windowStart.forN 8 fun n v => v.bvEntry n (codes.getD n 0)).get f :=
  (State.tampTick_ticked _ ti).1.1 f (not_not_intro hu)

theorem State.windowRead_count (h : s.get PWR.BVWIN.COUNT + 1 < 2 ^ PWR.BVWIN.COUNT.w) :
    (s.windowRead codes ti).get PWR.BVWIN.COUNT = s.get PWR.BVWIN.COUNT + 1 := by
  have hother : ¬ ∃ i < 8, PWR.BVWIN.COUNT ∈ bvFields i := by decide
  rw [s.windowRead_get codes ti rfl, (s.windowStart.bvEntries_frame (codes.getD · 0) 8).1 _ hother]
  exact State.bump_get_same _ h

theorem State.windowRead_entry (n : Fin 8) : EntryTaken s (s.windowRead codes ti) n (codes.getD n 0) := by
  have hunit : ∀ f ∈ bvReads n, f.unit = 64 ∧ f ∉ [PWR.BVWIN.COUNT, PWR.BVWIN.SAT] := by decide +revert
  exact (s.windowStart.bvEntries_taken (codes.getD · 0) n.isLt).congr (s.windowStart_frame.2 .part (by decide))
    (fun f hf => s.windowStart_frame.get (hunit f hf).2) fun f hf => s.windowRead_get codes ti (hunit f hf).1

theorem State.windowRead_lastTick : (s.windowRead codes ti).tamp.lastTick = s.clock.rtc := by
  have hentries := (s.windowStart.bvEntries_frame (codes.getD · 0) 8).2 .clock (by decide)
  have hstart := s.windowStart_frame.2 .clock (by decide)
  exact (State.tampTick_ticked _ ti).2.trans (congrArg Clock.rtc (hentries.trans hstart))

end

/-- The crack loop's pulse check on the cell changes the count of its failures alone (R463). -/
theorem State.pulseCheck_kept {u : State} (ok : Bool) (h : u.power ≠ .on) : Same [.glass] [] u (u.pulseCheck ok) ∧
    (u.pulseCheck ok).glass.pulseFails = if ok then 0 else u.glass.pulseFails + 1 := by
  have hcheck : u.pulseCheck ok = u.modGlass fun g =>
      { g with pulseAt := u.clock.rtc, pulseFails := if ok then 0 else g.pulseFails + 1 } := if_neg h
  rw [hcheck]
  exact ⟨u.modGlass_frame _ _, rfl⟩

/-- A window has been taken from s to t. -/
def WindowTaken (s t : State) (codes : List Int) (ok : Bool) : Prop :=
  t.power = .bivouac ∧ t.tamp.lastTick = s.clock.rtc ∧
  t.pwr = { s.pwr with lastWindow := s.clock.rtc, alarmWatch := s.pwr.alarmWatch - 1 } ∧
  (s.get PWR.BVWIN.COUNT + 1 < 2 ^ PWR.BVWIN.COUNT.w → t.get PWR.BVWIN.COUNT = s.get PWR.BVWIN.COUNT + 1) ∧
  (s.part.optG = true → t.glass.pulseFails = if ok then 0 else s.glass.pulseFails + 1) ∧
  ∀ n : Fin 8, EntryTaken s t n (codes.getD n 0)

theorem bivouacWindow_taken {s : State} {codes : List Int} (ti : TickIn) (ok : Bool) (hp : s.power = .bivouac)
    (hl : codes.length = 8)
    (hd : s.pwr.lastWindow + (if s.pwr.alarmWatch = 0 then s.get PWR.BVCFG.PERIOD else 1) * 8192 ≤ s.clock.rtc) :
    ∃ t, exec (.bivouacWindow codes ti ok) s = .next t ∧ WindowTaken s t codes ok := by
  refine ⟨_, bivouacWindow_next ti ok hp hl hd, ?_⟩
  have hpower : (s.windowRead codes ti).power = .bivouac :=
    ((s.windowRead_comp codes ti (c := .power) (by decide)).trans (s.windowStart_frame.2 .power (by decide))).trans hp
  have hpwr := (s.windowRead_comp codes ti (c := .pwr) (by decide)).trans s.windowStart_pwr
  have hglass := (s.windowRead_comp codes ti (c := .glass) (by decide)).trans (s.windowStart_frame.2 .glass (by decide))
  have hread : ∀ t, Same [.glass] [] (s.windowRead codes ti) t →
      (s.part.optG = true → t.glass.pulseFails = if ok then 0 else s.glass.pulseFails + 1) → WindowTaken s t codes ok :=
    fun t ht hfails => ⟨(ht.2 .power (by decide)).trans hpower,
      (congrArg Tamp.lastTick (ht.2 .tamp (by decide))).trans (s.windowRead_lastTick codes ti),
      (ht.2 .pwr (by decide)).trans hpwr, fun h => (ht.get (by simp)).trans (s.windowRead_count codes ti h), hfails,
      fun n => (s.windowRead_entry codes ti n).congr rfl (fun _ _ => rfl) fun f _ => ht.get (by simp)⟩
  split
  · obtain ⟨hframe, hfails⟩ := State.pulseCheck_kept (u := s.windowRead codes ti) ok (by rw [hpower]; nofun)
    exact hread _ hframe fun _ => by rw [hfails, hglass]
  · next hg => exact hread _ (.refl ..) fun h => absurd h hg

/-! ## A WAKE line (R417, R461, R505) -/

/-- In BIVOUAC a matching edge is latched; what else it changes is the line and the supervisor's own latch. -/
def State.edgeLatched (s : State) (l : Fin 3) (rising : Bool) : State :=
  let t := s.rawEdge l rising
  if l = 0 then t.modSrc 0 (fun x => { x with latch1 := true }) else t

/-- The watch that a WAKE line starts. -/
def State.woken (s : State) (l : Fin 3) (rising : Bool) : State :=
  if s.on (IRQ.XCFG.WAKE l) then (s.edgeLatched l rising).watchAlarm else s.edgeLatched l rising

theorem lineEdgeLatch_next {s : State} {l : Fin 3} {rising : Bool} (hp : s.power = .bivouac)
    (he : s.edgeMatches l rising = true) :
    exec (.lineEdgeLatch l rising) s = .next ((s.woken l rising).outageView l) := by
  have hrun : ¬ (s.power ≠ .bivouac ∨ s.edgeMatches l rising = false) := by simp [hp, he]
  show execLineEdgeLatch l rising s = _
  unfold execLineEdgeLatch
  exact next_congr ((if_neg (by rw [hp]; nofun)).trans (if_neg hrun))

/-- A matching edge without the mains side is latched (R417). -/
theorem State.rawEdge_matching {s : State} {l : Fin 3} {rising : Bool} (hp : s.power ≠ .on)
    (he : s.edgeMatches l rising = true) : s.rawEdge l rising = (s.setBit IRQ.XSTAT.LATCH l true).setLine l
      { s.irq.lines[l] with raw := rising, since := s.clock.rtc, unconfirmed := s.irq.lines[l].unconfirmed || true } := by
  simp only [State.rawEdge, he, if_true]
  exact if_neg fun h => hp h.1

/-- Lines and detectors changed. -/
theorem edge_update (s : State) (irq : Irq) (tamp : Tamp) (fs : List Fld) :
    Same [.irq, .tamp] fs s { s with irq, tamp } :=
  .of_flds rfl fun c hc => by
    cases c with
    | irq | tamp => simp at hc
    | _ => rfl

theorem State.edgeLatched_frame {s : State} {l : Fin 3} {rising : Bool} (hp : s.power ≠ .on)
    (he : s.edgeMatches l rising = true) : Same [.irq, .tamp] [IRQ.XSTAT.LATCH] s (s.edgeLatched l rising) ∧
      (s.edgeLatched l rising).bit IRQ.XSTAT.LATCH l = true := by
  have hset := State.setBit_frame [.irq, .tamp] (P := (· ∈ [IRQ.XSTAT.LATCH])) s IRQ.XSTAT.LATCH l true (by simp)
  have hbit := s.bit_setBit_same (f := IRQ.XSTAT.LATCH) (i := l) (show l.val < 3 from l.isLt)
  unfold State.edgeLatched
  simp only [State.rawEdge_matching hp he]
  split <;> exact ⟨hset.then (edge_update ..), hbit⟩

/-- The outage view touches GLASS alone. -/
theorem State.outageView_frame (s : State) (l : Fin 3) : Same [.glass] [GLASS.STATUS.VIEWON] s (s.outageView l) := by
  unfold State.outageView
  split
  · exact .then (State.flag_frame _ s _ _ (by simp)) (State.modGlass_frame ..)
  · exact .refl ..

/-- A line that VIEW names shows the outage view for ten seconds (R461). -/
theorem State.outageView_on {s : State} {l : Fin 3} (hl : l ≠ 0) (hg : s.part.optG = true)
    (hen : s.on GLASS.VIEW.EN = true) (hm : s.get GLASS.CTRL.MODE = 0)
    (hline : s.bit GLASS.VIEW.LINES (l.val - 1) = true) :
    (s.outageView l).on GLASS.STATUS.VIEWON = true ∧ (s.outageView l).glass.viewEnd = some (s.clock.rtc + 327680) := by
  have hpos : 1 ≤ l.val := Nat.one_le_iff_ne_zero.2 fun h => hl (Fin.ext h)
  rw [State.outageView, if_pos ⟨hg, hen, hm, hpos, hline⟩]
  exact ⟨s.on_flag_same true rfl, rfl⟩

theorem State.woken_frame {s : State} {l : Fin 3} {rising : Bool} (hp : s.power ≠ .on)
    (he : s.edgeMatches l rising = true) : Same [.irq, .tamp, .pwr] [IRQ.XSTAT.LATCH] s (s.woken l rising) ∧
      (s.woken l rising).bit IRQ.XSTAT.LATCH l = true ∧
      (s.woken l rising).pwr = if s.on (IRQ.XCFG.WAKE l) then { s.pwr with alarmWatch := 256 } else s.pwr := by
  obtain ⟨hframe, hbit⟩ := State.edgeLatched_frame hp he
  have hpwr : (s.edgeLatched l rising).pwr = s.pwr := hframe.2 .pwr (by decide)
  have hwide : Same [.irq, .tamp, .pwr] [IRQ.XSTAT.LATCH] s (s.edgeLatched l rising) :=
    hframe.mono (by decide) fun _ h => h
  unfold State.woken
  split
  · refine ⟨hwide.then ((State.modPwr_frame _ _ _).mono (by decide) fun _ h => h), hbit, ?_⟩
    rw [← hpwr]
    rfl
  · exact ⟨hwide, hbit, hpwr⟩

/-- The edge of a line has been latched from s to t. -/
def LineLatched (s t : State) (l : Fin 3) : Prop :=
  t.bit IRQ.XSTAT.LATCH l = true ∧
  t.pwr = (if s.on (IRQ.XCFG.WAKE l) then { s.pwr with alarmWatch := 256 } else s.pwr) ∧
  (l ≠ 0 → s.part.optG = true → s.on GLASS.VIEW.EN = true → s.get GLASS.CTRL.MODE = 0 →
    s.bit GLASS.VIEW.LINES (l.val - 1) = true → t.on GLASS.STATUS.VIEWON = true ∧
    t.glass.viewEnd = some (s.clock.rtc + 327680))

theorem lineEdgeLatch_latched {s : State} {l : Fin 3} {rising : Bool} (hp : s.power = .bivouac)
    (he : s.edgeMatches l rising = true) : ∃ t, exec (.lineEdgeLatch l rising) s = .next t ∧ LineLatched s t l := by
  refine ⟨_, lineEdgeLatch_next hp he, ?_⟩
  obtain ⟨hframe, hbit, hpwr⟩ := State.woken_frame (s := s) (by rw [hp]; nofun) he
  have hview := (s.woken l rising).outageView_frame l
  refine ⟨(State.bit_of_get (hview.get (by decide)) _).trans hbit, (hview.2 .pwr (by decide)).trans hpwr,
    fun hl hg hen hm hline => ?_⟩
  have hclock : (s.woken l rising).clock = s.clock := hframe.2 .clock (by decide)
  rw [← hclock]
  exact State.outageView_on hl ((congrArg Part.optG (hframe.2 .part (by decide) :)).trans hg)
    ((State.on_of_get (hframe.get (by decide))).trans hen) ((hframe.get (by decide)).trans hm)
    ((State.bit_of_get (hframe.get (by decide)) _).trans hline)

/-- Settles O48, by what an entry, a stop, a window and an edge each leave. -/
theorem bivouacAndOff : Obligations.BivouacAndOff := by
  unfold Obligations.BivouacAndOff
  intro s
  refine ⟨fun hp hl hw hc => ?_, fun hp hc => ?_, fun hp => ?_, fun codes ti ok hlen => if_pos hlen,
    fun codes ti ok hp hlen hd => bivouacWindow_taken ti ok hp hlen hd, fun l rising hp he => lineEdgeLatch_latched hp he⟩
  · have hcan := State.canEnter_of hp hl hw hc
    exact ⟨⟨_, bulkDropout_next hcan, s.enterBivouac_asleep⟩,
      fun w hw hpast => ⟨_, bivouacEntryDecide_next hcan hw hpast, s.enterBivouac_asleep⟩⟩
  · exact ⟨_, next_congr (if_pos ⟨hp, by simp [hc]⟩), s.tear.goOff_switchedOff.torn s.tear_frame⟩
  · exact ⟨_, next_congr (if_pos hp), s.goOff_switchedOff⟩

end Sys2Proof.Machine

namespace Sys2Proof.Machine
open Sys2Proof.Claims

/-! SUPPORT. The commands of the quads (R113–R137, R470). -/

/-! ## Overload (R113) -/

/-- A clear bit added to a number does not carry. -/
theorem add_two_pow_div {x i : Nat} (h : bitOf x i = false) : (x + 2 ^ i) / 2 ^ (i + 1) = x / 2 ^ (i + 1) := by
  simp only [bitOf, beq_eq_false_iff_ne] at h
  rw [Nat.pow_succ, ← Nat.div_div_eq_div_mul, ← Nat.div_div_eq_div_mul, Nat.add_div_right _ (Nat.two_pow_pos i)]
  omega

/-- A bit set in a number leaves the others alone. -/
theorem bitOf_withBit_true_other (x : Nat) {i j : Nat} (h : j ≠ i) : bitOf (withBit x i true) j = bitOf x j := by
  unfold withBit
  split
  · rfl
  · next hi =>
    rw [if_pos rfl, bitOf_eq_testBit, bitOf_eq_testBit]
    obtain hlt | hgt := Nat.lt_or_gt_of_ne h
    · rw [Nat.add_comm, Nat.testBit_two_pow_add_gt hlt]
    · have hj : j = (j - (i + 1)) + (i + 1) := by omega
      rw [hj, Nat.testBit_add, Nat.testBit_add, add_two_pow_div (by simpa using hi)]

/-- Core n's trip is kept for the grain's words, and the pitch counts it (R113). -/
def State.tripNoted (s : State) (n : Nat) : State :=
  { s with streams := { s.streams with front := { s.streams.front with
      trips := s.streams.front.trips ++ [(n, min 399 (s.clock.phase / 16))]
      tripped := withBit s.streams.front.tripped n true } } }

theorem State.tripNoted_frame (s : State) (n : Nat) (fs : List Fld) : Same [.streams] fs s (s.tripNoted n) :=
  .of_flds rfl fun c hc => by
    cases c with
    | streams => simp at hc
    | _ => rfl

/-- The overload bit of a slot's core (R113, R144). -/
def ovlField (q k : Nat) : Fin 3 → Fld
  | 0 => QUAD.CHST.OVL0 q k
  | 1 => QUAD.CHST.OVL1 q k
  | 2 => QUAD.CHST.OVLS q k

theorem ovlField_w (q k : Nat) (which : Fin 3) : (ovlField q k which).w = 1 := by
  match which with
  | 0 | 1 | 2 => rfl

theorem overloadTrip_next {s : State} {q : Fin 4} (hp : s.power = .on) (hq : s.part.hasQuad q = true) (k : Fin 4)
    (which : Fin 3) : exec (.overloadTrip q k which) s =
      .next ((s.tripNoted (tripCore q k which)).flag (ovlField q k which) true) := by
  refine next_congr ((if_pos ⟨hp, hq⟩).trans ?_)
  match which with
  | 0 | 1 | 2 => simp only [State.tripNoted, withBit, if_true]; rfl

/-- A trip noted is counted by the pitch, and no other core's. -/
theorem State.tripNoted_tripped (s : State) (n : Nat) :
    (s.tripNoted n).tripped n = true ∧ ∀ m, m ≠ n → (s.tripNoted n).tripped m = s.tripped m :=
  ⟨bitOf_withBit_true _ _, fun _ hm => bitOf_withBit_true_other _ hm⟩

/-! ## The spare (R117, R126, R128) -/

theorem State.setQuad_frame (s : State) (q : Fin 4) (x : Quad) (fs : List Fld) : Same [.quads] fs s (s.setQuad q x) :=
  .of_flds rfl fun c hc => by
    cases c with
    | quads => simp at hc
    | _ => rfl

theorem State.setQuad_same (s : State) (q : Fin 4) (x : Quad) : (s.setQuad q x).quads[q] = x := by
  simp [State.setQuad]

theorem State.setQuad_other (s : State) {q r : Fin 4} (h : r ≠ q) (x : Quad) :
    (s.setQuad q x).quads[r] = s.quads[r] := by
  have hne : q.val ≠ r.val := fun e => h (Fin.ext e.symm)
  simp [State.setQuad, hne]

theorem spareSettled_next {s : State} {q : Fin 4} (hp : s.power = .on) (hq : s.part.hasQuad q = true)
    (hs : s.get (QUAD.STATUS.SPAT q) < 8) (hc : s.quads[q].connected + 64 ≤ s.clock.grain) :
    exec (.spareSettled q) s = .next (s.setQuad q { s.quads[q] with settled := true }) :=
  next_congr (if_pos ⟨hp, hq, hs, hc⟩)

/-- The fields that internal dwells post (R128, R144). -/
def internalFields (q : Nat) : List Fld :=
  [QUAD.IREF.DEV q, QUAD.IREF.VALID q, QUAD.IAVDD.MV q, QUAD.IAVDD.VALID q, QUAD.ITEMP.T q, QUAD.ITEMP.VALID q,
    QUAD.IZERO.OFS q, QUAD.IZERO.VALID q]

/-- A result posted in the low half of a register reads back, with its valid bit in bit 31. -/
theorem State.posted (s : State) (r : Int) {f v : Fld} (hf : f.w = 16 ∧ f.lo = 0) (hv : v.w = 1 ∧ v.lo = 31) :
    ((s.set f (wrapN 16 r)).flag v true).get f = wrapN 16 r ∧ ((s.set f (wrapN 16 r)).flag v true).on v = true := by
  obtain ⟨hfw, hflo⟩ := hf
  obtain ⟨hvw, hvlo⟩ := hv
  have hne : v ≠ f := fun e => by
    rw [e, hflo] at hvlo
    exact absurd hvlo (by decide)
  refine ⟨?_, State.on_flag_same _ _ hvw⟩
  rw [State.flag, State.get_set_other _ hne, State.get_set_same, hfw, Nat.mod_eq_of_lt (wrapN_lt 16 r)]

theorem State.postInternal_frame (s : State) (q pos : Nat) (r : Int) :
    Same [] (internalFields q) s (s.postInternal q pos r) := by
  have hpost {f v : Fld} (hf : f ∈ internalFields q) (hv : v ∈ internalFields q) :
      Same [] (internalFields q) s ((s.set f (wrapN 16 r)).flag v true) :=
    (State.set_frame [] s f _ hf).then (State.flag_frame [] _ v _ hv)
  unfold State.postInternal
  dsimp only
  split
  · exact hpost (by simp [internalFields]) (by simp [internalFields])
  · exact hpost (by simp [internalFields]) (by simp [internalFields])
  · exact hpost (by simp [internalFields]) (by simp [internalFields])
  · exact hpost (by simp [internalFields]) (by simp [internalFields])
  · exact .refl ..

/-- The quad whose dwell has ended: the next position, its dwell, the sums begun anew (R126). -/
def State.dwellEnded (s : State) (q : Fin 4) : Quad :=
  let x := s.quads[q]
  let next := (x.pos + 1) % s.part.positions
  { x with
    pos := next
    dwell := if 4 ≤ next then s.get (QUAD.DWELL.IDWELL q) else s.get (QUAD.DWELL.DWELL q)
    dwSum := 0
    dwN := 0
    dev := if x.pos = 4 then s.dwellResult q x else x.dev
    os := if x.pos = 7 then s.dwellResult q x else x.os }

/-- The result that a dwell ended posts: that of an internal position. -/
def State.dwellPosted (s : State) (q : Fin 4) : State :=
  if 4 ≤ s.quads[q].pos then s.postInternal q s.quads[q].pos (s.dwellResult q s.quads[q]) else s

theorem State.dwellPosted_frame (s : State) (q : Fin 4) : Same [] (internalFields q) s (s.dwellPosted q) := by
  unfold State.dwellPosted
  split
  · exact s.postInternal_frame ..
  · exact .refl ..

theorem traverseDwellEnd_next {s : State} {q : Fin 4} (hp : s.power = .on) (hq : s.part.hasQuad q = true)
    (hu : s.get (QUAD.STATUS.SPUSE q) = 0) (hd : s.quads[q].dwell = 0) {pos : Fin 8} (hpos : s.quads[q].pos = pos) :
    exec (.traverseDwellEnd q pos) s = .next ((s.dwellPosted q).setQuad q (s.dwellEnded q)) :=
  next_congr (if_pos ⟨hp, hq, hu, hd, hpos⟩)

/-- The dwell ended at an internal position leaves its result in the position's register. -/
theorem State.dwellPosted_at (s : State) (q : Fin 4) {f v : Fld} {n : Nat} (hpos : s.quads[q].pos = n) (h4 : 4 ≤ n)
    (hpost : ∀ r, s.postInternal q n r = (s.set f (wrapN 16 r)).flag v true) (hf : f.w = 16 ∧ f.lo = 0)
    (hv : v.w = 1 ∧ v.lo = 31) :
    (s.dwellPosted q).get f = wrapN 16 (s.dwellResult q s.quads[q]) ∧ (s.dwellPosted q).on v = true := by
  rw [State.dwellPosted, hpos, if_pos h4, hpost]
  exact s.posted _ hf hv

/-! ## A request for Stride (R129) -/

/-- A write of MODE with v is refused (R129). -/
def StrideRefused (s : State) (q : Fin 4) (v : Word) : Prop :=
  (s.on (QUAD.MODE.STRIDE q) = true ∧ v.toNat / 2 % 4 ≠ s.get (QUAD.MODE.SCH q)) ∨
  (v.getLsbD 0 = true ∧ s.on (QUAD.MODE.STRIDE q) = false ∧ (s.on (QUAD.STATUS.NOSPARE q) = true ∨
    s.quads[q].summons.isSome = true ∨ s.get (FILT.CFG.ORDER (slotChan (4 * q + v.toNat / 2 % 4))) ≠ 5))

theorem getLsbD_eq_bitOf (v : Word) (i : Nat) : v.getLsbD i = bitOf v.toNat i := (bitOf_eq_testBit ..).symm

theorem State.strideBad_iff (s : State) (q : Fin 4) (v : Word) :
    s.strideBad q v.toNat = true ↔ StrideRefused s q v := by
  have hsch : field v.toNat 1 2 = v.toNat / 2 % 4 := rfl
  simp only [State.strideBad, StrideRefused, hsch, getLsbD_eq_bitOf, Bool.or_eq_true, Bool.and_eq_true, bne_iff_ne,
    Bool.not_eq_true', or_assoc, and_assoc]

/-- The fields of MODE. -/
def modeFields (q : Nat) : List Fld := [QUAD.MODE.STRIDE q, QUAD.MODE.SCH q, QUAD.MODE.TRAVEN q]

/-- MODE's cells, as the register table has them (R144). -/
theorem modeCells (q : Fin 4) :
    (cellsOf regsQuad (16 + q) 0 0).getD [] = (modeFields q).reverse.map fun f => ⟨f, []⟩ := rfl

/-- MODE as a write leaves it. -/
def State.modeWritten (s : State) (q : Fin 4) (v : Word) : State :=
  s.writeCells ((modeFields q).reverse.map fun f => ⟨f, []⟩) v.toNat

theorem State.modeWritten_frame (s : State) (q : Fin 4) (v : Word) : Same [] (modeFields q) s (s.modeWritten q v) :=
  (s.writeCells_same _ _).mono (fun _ h => h) fun _ h => (List.mem_reverse (as := modeFields q)).1 h

/-- A field of MODE holds its bits of the word written. -/
theorem State.modeWritten_get (s : State) (q : Fin 4) (v : Word) {f : Fld} (hf : f ∈ modeFields q) :
    (s.modeWritten q v).get f = field v.toNat f.lo f.w % 2 ^ f.w := by
  have hcell : (⟨f, []⟩ : Cell) ∈ (modeFields q).reverse.map fun f => ⟨f, []⟩ :=
    List.mem_map_of_mem (List.mem_reverse.2 hf)
  have hacc : f.acc = .rw := by
    simp only [modeFields, List.mem_cons, List.not_mem_nil, or_false] at hf
    obtain rfl | rfl | rfl := hf <;> rfl
  exact (s.writeCells_get v.toNat (by simp [modeFields, QUAD.MODE.TRAVEN, QUAD.MODE.SCH, QUAD.MODE.STRIDE]) hcell).trans
    (Cell.written_rw hacc)

/-- A bit of a word is its one-bit field. -/
theorem field_one_bne (x i : Nat) : (field x i 1 % 2 ^ 1 != 0) = bitOf x i := by
  obtain h | h := Nat.mod_two_eq_zero_or_one (x / 2 ^ i) <;> simp [field, bitOf, h]

theorem strideRequest_refused {s : State} {q : Fin 4} {v : Word} (hp : s.power = .on) (hq : s.part.hasQuad q = true)
    (h : StrideRefused s q v) : exec (.strideRequest q v) s = .next (s.raise (QUAD.STATUS.STRIDEREF q) 0x1B) := by
  refine next_congr ((State.whenOn_on hp).trans ((if_pos hq).trans ?_))
  rw [State.modeWrite, if_pos (s.strideBad_iff q v |>.2 h)]

theorem strideRequest_written {s : State} {q : Fin 4} {v : Word} (hp : s.power = .on) (hq : s.part.hasQuad q = true)
    (h : ¬ StrideRefused s q v) : exec (.strideRequest q v) s = .next (s.modeWritten q v) := by
  refine next_congr ((State.whenOn_on hp).trans ((if_pos hq).trans ?_))
  rw [State.modeWrite, if_neg (mt (s.strideBad_iff q v).1 h), modeCells]
  rfl

/-! ## An open-wire test (R137) -/

/-- One-bit fields cleared where p holds: no other changes. -/
theorem State.forN_clear_frame (s : State) (n : Nat) (p : Nat → Bool) (F : Nat → Fld) :
    Same [] (((List.range n).filter p).map F) s (s.forN n fun k t => if p k then t.flag (F k) false else t) := by
  induction n with
  | zero => exact .refl ..
  | succ n ih =>
    have hwide : Same [] (((List.range (n + 1)).filter p).map F) s
        (s.forN n fun k t => if p k then t.flag (F k) false else t) :=
      ih.mono (fun _ h => h) fun f h => by
        rw [List.range_succ, List.filter_append, List.map_append]
        exact List.mem_append_left _ h
    rw [State.forN_succ]
    refine hwide.then ?_
    split
    · next hn =>
      have hmem : n ∈ (List.range (n + 1)).filter p := List.mem_filter.2 ⟨List.self_mem_range_succ, hn⟩
      exact State.flag_frame [] _ _ _ (List.mem_map_of_mem hmem)
    · exact .refl ..

/-- And each of those reads as clear. -/
theorem State.forN_clear_off (s : State) {n k : Nat} (p : Nat → Bool) {F : Nat → Fld} (hw : ∀ i, (F i).w = 1)
    (hk : k < n) (hp : p k = true) : (s.forN n fun k t => if p k then t.flag (F k) false else t).on (F k) = false := by
  induction n with
  | zero => exact absurd hk (Nat.not_lt_zero k)
  | succ n ih =>
    rw [State.forN_succ]
    by_cases hF : F n = F k ∧ p n = true
    · rw [if_pos hF.2, ← hF.1, State.on_flag_same _ _ (hw n)]
    · have hlt : k < n := by
        obtain h | rfl := Nat.lt_succ_iff_lt_or_eq.1 hk
        · exact h
        · exact absurd ⟨rfl, hp⟩ hF
      split
      · next hn => rw [State.on_flag_other _ _ fun e => hF ⟨e, hn⟩, ih hlt]
      · exact ih hlt

/-- The slot is to be tested. -/
def State.owMasked (s : State) (q : Fin 4) (k : Nat) : Bool := bitOf (s.get (QUAD.OWCTL.MASK q)) k

/-- A test asked for: DONE of the slots to test is clear. -/
def State.owAsked (s : State) (q : Fin 4) : State :=
  (s.setQuad q { s.quads[q] with owGo := true }).forN 4 fun k t =>
    if s.owMasked q k then t.flag (QUAD.OWRES.DONE q k) false else t

theorem owTestGo_running {s : State} {q : Fin 4} (hp : s.power = .on) (hq : s.part.hasQuad q = true)
    (h : s.quads[q].ow.isSome = true ∨ s.quads[q].owGo = true) : exec (.owTestGo q) s = .next s := by
  refine next_congr ((State.whenOn_on hp).trans ((if_pos hq).trans ?_))
  rw [State.owStart, if_pos h]

theorem owTestGo_asked {s : State} {q : Fin 4} (hp : s.power = .on) (hq : s.part.hasQuad q = true)
    (h : s.quads[q].ow = none) (hgo : s.quads[q].owGo = false) : exec (.owTestGo q) s = .next (s.owAsked q) := by
  refine next_congr ((State.whenOn_on hp).trans ((if_pos hq).trans ?_))
  rw [State.owStart, if_neg (not_or.2 ⟨by rw [h]; nofun, by rw [hgo]; nofun⟩)]
  rfl

theorem State.owAsked_effect (s : State) (q : Fin 4) :
    (s.owAsked q).quads = s.quads.set q { s.quads[q] with owGo := true } ∧
    (∀ k : Fin 4, s.owMasked q k = true → (s.owAsked q).on (QUAD.OWRES.DONE q k) = false) ∧
    Same [.quads] (((List.range 4).filter (s.owMasked q)).map (QUAD.OWRES.DONE q)) s (s.owAsked q) := by
  have hclear := (s.setQuad q { s.quads[q] with owGo := true }).forN_clear_frame 4 (s.owMasked q) (QUAD.OWRES.DONE q)
  exact ⟨hclear.2 .quads (by decide), fun k hk => State.forN_clear_off _ _ (fun _ => rfl) k.isLt hk,
    (s.setQuad_frame q _ _).then (hclear.mono nofun fun _ h => h)⟩

/-! ## The second decision on a retirement (R119, R470) -/

theorem State.belayDue_frame (s : State) (k : BelayKind) (fs : List Fld) : Same [.jrnl] fs s (s.belayDue k) := by
  unfold State.belayDue
  split
  · exact .refl ..
  · exact .of_flds rfl fun c hc => by
      cases c with
      | jrnl => simp at hc
      | _ => rfl

theorem State.belayDue_mem (s : State) (k : BelayKind) : k ∈ (s.belayDue k).jrnl.due := by
  unfold State.belayDue
  split
  · next h => simpa using h
  · simp

theorem State.stageTamper_frame (s : State) (source kind responses : Nat) (copied : Bool) (rtc : Nat) (fs : List Fld) :
    Same [.jrnl] fs s (s.stageTamper source kind responses copied rtc) :=
  .of_flds rfl fun c hc => by
    cases c with
    | jrnl => simp at hc
    | _ => rfl

/-- Disagreeing paths set FI and raise source 0x42, and evidence falls due (R470). -/
theorem State.faultInjection_effect (s : State) (source third : Nat) :
    (s.faultInjection source third).on TAMP.STICKY.FI = true ∧ .evidence ∈ (s.faultInjection source third).jrnl.due ∧
    Arrived 0x42 s (s.faultInjection source third) ∧
    Same [.jrnl] (TAMP.STICKY.FI :: arrivalOf 0x42) s (s.faultInjection source third) := by
  let u := (s.flag TAMP.STICKY.FI true).stageTamper source 3 third false s.clock.rtc
  have hu : Same [.jrnl] [TAMP.STICKY.FI] s u :=
    (State.flag_frame _ s _ _ (List.mem_singleton_self _)).then (State.stageTamper_frame _ _ _ _ _ _ _)
  have harr : Same [] (arrivalOf 0x42) u (u.arrive 0x42) := State.arrive_frame [] u _ fun _ h => h
  have hdue (fs : List Fld) : Same [.jrnl] fs (u.arrive 0x42) (s.faultInjection source third) := State.belayDue_frame ..
  refine ⟨?_, State.belayDue_mem .., ?_, ?_⟩
  · rw [State.on_of_get ((hdue []).get nofun), State.on_of_get (harr.get (by decide))]
    exact State.on_flag_same s true rfl
  · exact (u.arrive_arrived (src := 0x42) rfl).congr (fun f hf => hu.get (by rintro hm; revert f; decide))
      fun f _ => (hdue []).get nofun
  · exact ((hu.mono (fun _ h => h) fun f h => by simp_all).then
      (harr.mono nofun fun _ h => List.mem_cons_of_mem _ h)).then (hdue _)

/-- The oldest decision, its delay passed, leaves the list. -/
theorem dualDecisionSecond_next {s : State} {w : RetireWhat} {due : Nat} {rest : List Pending2} (hp : s.power = .on)
    (hs : s.second = ⟨.retire w, due⟩ :: rest) (hd : due ≤ s.clock.now) (agree : Bool) :
    exec (.dualDecisionSecond agree) s = .next
      (if agree then { s with second := rest, retiring := s.retiring ++ [w] }
        else ({ s with second := rest } : State).faultInjection (retireSource w).1 (retireSource w).2) := by
  show execDualDecisionSecond agree s = _
  unfold execDualDecisionSecond
  rw [hs, List.find?_cons_of_pos (by simp [hd])]
  dsimp only
  rw [List.erase_cons_head, if_neg (by simp [hp])]
  cases agree with
  | true => rfl
  | false => exact next_congr (if_pos hp)

theorem second_frame (s : State) (l : List Pending2) (fs : List Fld) : Same [.second] fs s { s with second := l } :=
  .of_flds rfl fun c hc => by
    cases c with
    | second => simp at hc
    | _ => rfl

/-! ## A retirement committed (R120, R122, R258) -/

/-- A retirement that names a converter of the module. -/
def RetireWhat.Converter : RetireWhat → Prop
  | .core q _ _ => q < 4
  | .spare q => q < 4
  | .lane _ => False

/-- The units that show a retirement: the quads and TRIM. -/
def shownUnits : List Nat := [0x10, 0x11, 0x12, 0x13, 0x2C]

theorem shownUnits_quad {q : Nat} (h : q < 4) : shownUnits.contains (16 + q) = true := by
  interval_cases q <;> rfl

theorem State.showRetired_within (s : State) {w : RetireWhat} (hw : w.Converter) :
    Within [] shownUnits s (s.showRetired w) := by
  cases w with
  | core q k j =>
    refine Within.flag (Within.set (.refl s) ?_) rfl
    split
    · exact shownUnits_quad hw
    · exact shownUnits_quad hw
  | spare q => exact ((Within.refl s).flag (shownUnits_quad hw)).flag rfl
  | lane n => exact hw.elim

theorem State.stageRetireOf_frame (s : State) (w : RetireWhat) (us : List Nat) :
    Within [.jrnl] us s (s.stageRetireOf w) := by
  cases w with
  | core | spare | lane =>
    exact .of_flds rfl fun c hc => by
      cases c with
      | jrnl => simp at hc
      | _ => rfl

/-- The record of a retirement leaves RETGEN to its commit. -/
theorem State.stageRetireOf_retgen (s : State) (w : RetireWhat) : (s.stageRetireOf w).jrnl.retgen = s.jrnl.retgen := by
  cases w with
  | core | spare | lane => rfl

/-- What the supervisor holds becomes free: fields of LEASE alone (R258). -/
theorem State.supervisorDone_within (s : State) : Within [] [4] s s.supervisorDone :=
  .ite (.refl s) (Within.foldl (.refl s) fun _ _ _ h => .ite ((h.set rfl).set rfl) h)

/-- A commit writes the registers first, then RETGEN, the trim record and the retirement's record (R120). -/
theorem State.commitRetire_after (s : State) (w : RetireWhat) (us : List Nat) :
    Within [.jrnl, .cairn] us (s.showRetired w) (s.commitRetire w) := by
  let u := s.showRetired w
  have hwrite : Within [.jrnl, .cairn] us u { u with
      cairn := u.cairn.writeTrim (retireTrim u.cairn.trim.words w (u.get SYS.LANE.INSVC))
      jrnl := { u.jrnl with retgen := u.jrnl.retgen + 1 } } :=
    .of_flds rfl fun c hc => by
      cases c with
      | jrnl | cairn => exact absurd (by decide) hc
      | _ => rfl
  exact hwrite.trans ((State.stageRetireOf_frame _ w us).mono (by decide) fun _ h => h)

theorem State.commitRetire_retgen (s : State) {w : RetireWhat} (hw : w.Converter) :
    (s.commitRetire w).jrnl.retgen = s.jrnl.retgen + 1 := by
  have hjrnl : (s.showRetired w).jrnl = s.jrnl := (s.showRetired_within hw).comp (c := .jrnl) nofun
  exact (State.stageRetireOf_retgen ..).trans (congrArg (·.retgen + 1) hjrnl)

theorem State.commitRetire_within (s : State) {w : RetireWhat} (hw : w.Converter) :
    Within [.jrnl, .cairn] shownUnits s (s.commitRetire w) :=
  ((s.showRetired_within hw).mono nofun fun _ h => h).trans (s.commitRetire_after w _)

theorem arrivalOf_unit {src : Nat} {f : Fld} (h : f ∈ arrivalOf src) : f.unit = 8 := by
  simp only [arrivalOf, List.mem_cons, List.not_mem_nil, or_false] at h
  obtain rfl | rfl | rfl := h <;> rfl

theorem State.arrive_within (s : State) (src : Nat) (cs : List Comp) : Within cs [8] s (s.arrive src) :=
  State.arrive_frame cs s src fun f hf => by rw [arrivalOf_unit hf]; rfl

/-- A retirement committed, its change-over left to the next boundary (R120). -/
def State.retired (s : State) (w : RetireWhat) (rest : List RetireWhat) : State :=
  { (s.commitRetire w).arrive 0x1A with retiring := rest, changeOver := s.changeOver ++ [w] }

/-- The components that a retirement changes. -/
def retireComps : List Comp := [.retiring, .changeOver, .jrnl, .cairn]

/-- The units that a retirement changes: those that show it, LEASE and IRQ. -/
def retireUnits : List Nat := 4 :: 8 :: shownUnits

theorem changeOver_within (s : State) (retiring changeOver : List RetireWhat) (us : List Nat) :
    Within retireComps us s { s with retiring, changeOver } :=
  .of_flds rfl fun c hc => by
    cases c with
    | retiring | changeOver => exact absurd (by decide) hc
    | _ => rfl

theorem State.retired_after (s : State) (w : RetireWhat) (rest : List RetireWhat) :
    Within retireComps [8] (s.commitRetire w) (s.retired w rest) :=
  (State.arrive_within ..).trans (changeOver_within ..)

theorem retireCommit_next {s : State} {w : RetireWhat} {rest : List RetireWhat} (hp : s.power = .on) (hw : w.Converter)
    (hheld : s.portHeld = false) (hr : s.retiring = w :: rest) :
    exec .retireCommit s = .next (s.retired w rest).supervisorDone := by
  have hcommit : Within [.jrnl, .cairn] (8 :: shownUnits) s ((s.commitRetire w).arrive 0x1A) :=
    ((s.commitRetire_within hw).mono (fun _ h => h) (by decide)).trans
      ((State.arrive_within ..).mono (fun _ h => h) (by decide))
  have hret : ((s.commitRetire w).arrive 0x1A).retiring = w :: rest :=
    (hcommit.comp (c := .retiring) (by decide)).trans hr
  have hchange : ((s.commitRetire w).arrive 0x1A).changeOver = s.changeOver :=
    hcommit.comp (c := .changeOver) (by decide)
  refine next_congr ((if_pos ⟨hp, by simp [hheld]⟩).trans ?_)
  rw [hr, List.find?_cons_of_pos]
  · dsimp only
    rw [hret, hchange, List.erase_cons_head]
    rfl
  · cases w with
    | core | spare => rfl
    | lane => exact hw.elim

/-- A register of the quads or of TRIM is left as the retirement shows in it. -/
theorem State.retired_shown (s : State) (w : RetireWhat) (rest : List RetireWhat) {f : Fld} (hf : 16 ≤ f.unit) :
    (s.retired w rest).supervisorDone.get f = (s.showRetired w).get f :=
  (((s.commitRetire_after w [4, 8]).mono (cs' := retireComps) (by decide) fun _ h => h).trans
    (((s.retired_after w rest).mono (fun _ h => h) (by decide)).trans
      ((State.supervisorDone_within _).mono nofun (by decide)))).get (by
    have h4 : f.unit ≠ 4 := by omega
    have h8 : f.unit ≠ 8 := by omega
    simp [h4, h8])

theorem State.showRetired_spare (s : State) (r : Nat) :
    (s.showRetired (.spare r)).on (QUAD.RETIRED.SPRET r) = true ∧
    (s.showRetired (.spare r)).on (TRIM.CSTAT.RETIRED (32 + r)) = true :=
  ⟨(State.on_flag_other _ _ (by simp [QUAD.RETIRED.SPRET, TRIM.CSTAT.RETIRED])).trans (State.on_flag_same _ _ rfl),
    State.on_flag_same _ _ rfl⟩

/-- The bits of a quad's retired cores. -/
def retiredField (r : Nat) (j : Fin 2) : Fld := if j = 0 then QUAD.RETIRED.C0RET r else QUAD.RETIRED.C1RET r

theorem retiredField_unit (r : Nat) (j : Fin 2) : (retiredField r j).unit = 16 + r := by
  match j with
  | 0 | 1 => rfl

theorem State.showRetired_core (s : State) (r : Nat) (j : Fin 2) {k : Nat} (hk : k < 4) :
    (s.showRetired (.core r k j)).bit (retiredField r j) k = true ∧
    (s.showRetired (.core r k j)).on (TRIM.CSTAT.RETIRED (coreNo r k j)) = true := by
  have hw : (retiredField r j).w = 4 := by match j with | 0 | 1 => rfl
  have hidx : (retiredField r j).idx = 5 := by match j with | 0 | 1 => rfl
  have hne : TRIM.CSTAT.RETIRED (coreNo r k j) ≠ retiredField r j := fun e => by
    simpa [TRIM.CSTAT.RETIRED, hidx] using congrArg Fld.idx e
  have hshow : s.showRetired (.core r k j) =
      (s.setBit (retiredField r j) k true).flag (TRIM.CSTAT.RETIRED (coreNo r k j)) true := by
    match j with | 0 | 1 => rfl
  rw [hshow]
  exact ⟨(State.bit_of_get (State.get_set_other _ hne _) k).trans (State.bit_setBit_same _ (hk.trans_eq hw.symm)),
    State.on_flag_same _ _ rfl⟩

theorem State.retired_effect (s : State) {w : RetireWhat} (hw : w.Converter) (rest : List RetireWhat) :
    let t := (s.retired w rest).supervisorDone
    t.retiring = rest ∧ t.changeOver = s.changeOver ++ [w] ∧ t.jrnl.retgen = s.jrnl.retgen + 1 ∧ Arrived 0x1A s t ∧
      Within retireComps retireUnits s t := by
  intro t
  have hdone : Within [] [4] (s.retired w rest) t := State.supervisorDone_within _
  have hcommit := s.commitRetire_within hw
  have harr : Arrived 0x1A (s.commitRetire w) ((s.commitRetire w).arrive 0x1A) := State.arrive_arrived _ rfl
  refine ⟨hdone.comp (c := .retiring) nofun, hdone.comp (c := .changeOver) nofun, ?_, harr.congr ?_ ?_, ?_⟩
  · have hjrnl : t.jrnl = ((s.commitRetire w).arrive 0x1A).jrnl := hdone.comp (c := .jrnl) nofun
    have harrive : ((s.commitRetire w).arrive 0x1A).jrnl = (s.commitRetire w).jrnl :=
      (State.arrive_within _ 0x1A []).comp (c := .jrnl) nofun
    rw [hjrnl, harrive, s.commitRetire_retgen hw]
  · exact fun f hf => hcommit.get (by rw [arrivalOf_unit hf]; rfl)
  · exact fun f hf => hdone.get (by rw [arrivalOf_unit hf]; rfl)
  · exact ((hcommit.mono (by decide) (by decide)).trans
      ((s.retired_after w rest).mono (fun _ h => h) (by decide))).trans (hdone.mono nofun (by decide))

/-! ## The seven commands -/

/-- Field by field, what a request for Stride leaves in MODE. -/
theorem State.modeWritten_effect (s : State) (q : Fin 4) (v : Word) :
    (s.modeWritten q v).on (QUAD.MODE.STRIDE q) = v.getLsbD 0 ∧
    (s.modeWritten q v).get (QUAD.MODE.SCH q) = v.toNat / 2 % 4 ∧
    (s.modeWritten q v).on (QUAD.MODE.TRAVEN q) = v.getLsbD 4 := by
  have hstride := s.modeWritten_get q v (f := QUAD.MODE.STRIDE q) (by simp [modeFields])
  have hsch := s.modeWritten_get q v (f := QUAD.MODE.SCH q) (by simp [modeFields])
  have htrav := s.modeWritten_get q v (f := QUAD.MODE.TRAVEN q) (by simp [modeFields])
  refine ⟨?_, hsch.trans (Nat.mod_mod ..), ?_⟩
  · rw [State.on, hstride, getLsbD_eq_bitOf]
    exact field_one_bne ..
  · rw [State.on, htrav, getLsbD_eq_bitOf]
    exact field_one_bne ..

/-- The commands of the quads. -/
theorem quadCommands : Claims.QuadCommands := by
  intro s q hp
  refine ⟨fun hq => ⟨fun k which => ?trip, fun hs hc => spareSettled_next hp hq hs hc, fun hu hd pos hpos => ?dwell,
    fun v => ?stride, owTestGo_running hp hq, fun h hgo => ⟨_, owTestGo_asked hp hq h hgo, s.owAsked_effect q⟩⟩,
    fun w due rest hs hd => ?second, fun w rest hw hheld hr => ?retire⟩
  case trip =>
    obtain ⟨htrip, hother⟩ := s.tripNoted_tripped (tripCore q k which)
    exact ⟨_, overloadTrip_next hp hq k which, State.on_flag_same _ _ (ovlField_w ..), rfl, htrip, hother, rfl,
      (s.tripNoted_frame _ _).then (State.flag_frame _ _ (ovlField q k which) _ (List.mem_singleton_self _))⟩
  case dwell =>
    have hquads : (s.dwellPosted q).quads = s.quads := (s.dwellPosted_frame q).2 .quads nofun
    have hend := (s.dwellPosted q).setQuad_same q (s.dwellEnded q)
    refine ⟨_, traverseDwellEnd_next hp hq hu hd hpos, ?_⟩
    rw [hend]
    exact ⟨rfl, rfl, rfl, rfl,
      fun h => s.dwellPosted_at q h (by decide) (fun _ => rfl) ⟨rfl, rfl⟩ ⟨rfl, rfl⟩,
      fun h => s.dwellPosted_at q h (by decide) (fun _ => rfl) ⟨rfl, rfl⟩ ⟨rfl, rfl⟩,
      fun h => s.dwellPosted_at q h (by decide) (fun _ => rfl) ⟨rfl, rfl⟩ ⟨rfl, rfl⟩,
      fun h => s.dwellPosted_at q h (by decide) (fun _ => rfl) ⟨rfl, rfl⟩ ⟨rfl, rfl⟩,
      fun r hr => (State.setQuad_other _ hr _).trans (by rw [hquads]),
      ((s.dwellPosted_frame q).mono nofun fun _ h => h).then (State.setQuad_frame ..)⟩
  case stride =>
    intro sch refused
    by_cases h : StrideRefused s q v
    · have hnot : QUAD.STATUS.STRIDEREF q ∉ arrivalOf 0x1B := fun hm => by
        have hunit : 16 + q.val = 8 := arrivalOf_unit hm
        omega
      exact ⟨_, strideRequest_refused hp hq h, fun _ => ⟨State.on_raise s rfl hnot, State.raise_arrived rfl hnot,
        State.raise_frame [] s _ _ (List.mem_cons_self ..) fun _ h => List.mem_cons_of_mem _ h⟩, fun hn => absurd h hn⟩
    · obtain ⟨hstride, hsch, htrav⟩ := s.modeWritten_effect q v
      exact ⟨_, strideRequest_written hp hq h, fun hr => absurd hr h,
        fun _ => ⟨hstride, hsch, htrav, s.modeWritten_frame q v⟩⟩
  case second =>
    obtain ⟨hfi, hdue, harr, hframe⟩ :=
      State.faultInjection_effect { s with second := rest } (retireSource w).1 (retireSource w).2
    have hsecond := hframe.2 .second nofun
    exact ⟨dualDecisionSecond_next hp hs hd true, _, dualDecisionSecond_next hp hs hd false, hfi, hsecond, hdue,
      harr.congr (fun _ _ => rfl) fun _ _ => rfl,
      ((second_frame s rest _).mono (by decide) fun _ h => h).then (hframe.mono (by decide) fun _ h => h)⟩
  case retire =>
    have hconv : w.Converter := by cases w <;> exact hw
    obtain ⟨hret, hchange, hgen, harr, hframe⟩ := s.retired_effect hconv rest
    refine ⟨_, retireCommit_next hp hconv hheld hr, hret, hchange, hgen, harr, ?_, ?_, ?_⟩
    · rintro r rfl
      obtain ⟨hspare, htrim⟩ := s.showRetired_spare r
      exact ⟨(State.on_of_get (s.retired_shown _ rest (Nat.le_add_right 16 r))).trans hspare,
        (State.on_of_get (s.retired_shown _ rest (show 16 ≤ 44 by decide))).trans htrim⟩
    · rintro r k j rfl
      obtain ⟨hbit, htrim⟩ := s.showRetired_core r j k.isLt
      exact ⟨(State.bit_of_get (s.retired_shown _ rest (retiredField_unit r j ▸ Nat.le_add_right 16 r)) k).trans hbit,
        (State.on_of_get (s.retired_shown _ rest (show 16 ≤ 44 by decide))).trans htrim⟩
    · exact Frame.mono hframe (fun _ h => h) fun f hf => List.contains_iff_mem.1 hf

end Sys2Proof.Machine

namespace Sys2Proof.Machine
open Sys2Proof.Claims

/-! SUPPORT. The bitstream inputs: the clock lost and good again, a stuck bitstream and one out of its range (R142,
R143). -/

/-! ## Records and their sources -/

theorem bitMon_frame (s : State) (b : BitMon) (fs : List Fld) : Same [.bitMon] fs s { s with bitMon := b } :=
  .of_flds rfl fun c hc => by
    cases c with
    | bitMon => simp at hc
    | _ => rfl

/-- From s to t a record is staged, then source src arrives. -/
theorem State.recorded_arrived (s : State) (unit kind : Nat) (data : List Byte) {src : Nat}
    (hs : s.part.hasSource src = true) :
    let t := (s.stageEvent unit kind data).arrive src
    t.jrnl.staged.length = s.jrnl.staged.length + 1 ∧ Arrived src s t ∧ Same [.jrnl] (arrivalOf src) s t := by
  intro t
  have harr : Same [] (arrivalOf src) (s.stageEvent unit kind data) t := State.arrive_frame [] _ _ fun _ h => h
  have hjrnl : t.jrnl = (s.stageEvent unit kind data).jrnl := harr.2 .jrnl nofun
  refine ⟨?_, ?_, ?_⟩
  · rw [hjrnl]
    exact List.length_append
  · exact ((s.stageEvent unit kind data).arrive_arrived hs).congr (fun _ _ => rfl) fun _ _ => rfl
  · exact (State.stageEvent_frame ..).then (harr.mono nofun fun _ h => h)

/-- The same after a step that leaves the journal and the source's registers alone. -/
theorem State.recorded_after {s u : State} {cs : List Comp} {fs : List Fld} (h : Same cs fs s u) (hj : .jrnl ∉ cs)
    (hp : .part ∉ cs) {src : Nat} (hf : ∀ f ∈ arrivalOf src, f ∉ fs) (hs : s.part.hasSource src = true)
    (unit kind : Nat) (data : List Byte) :
    let t := (u.stageEvent unit kind data).arrive src
    t.jrnl.staged.length = s.jrnl.staged.length + 1 ∧ Arrived src s t ∧
      Same (.jrnl :: cs) (fs ++ arrivalOf src) s t := by
  obtain ⟨hlen, harr, hframe⟩ := u.recorded_arrived unit kind data
    (show u.part.hasSource src = true by rw [show u.part = s.part from h.2 .part hp]; exact hs)
  have hjrnl : u.jrnl = s.jrnl := h.2 .jrnl hj
  refine ⟨by rw [hlen, hjrnl], harr.congr (fun f hm => h.get (hf f hm)) fun _ _ => rfl, ?_⟩
  exact (h.mono (fun _ h => List.mem_cons_of_mem _ h) fun _ h => List.mem_append_left _ h).then
    (hframe.mono (by simp) fun _ h => List.mem_append_right _ h)

/-! ## The clock lost (R142) -/

/-- The fields of a clock loss. -/
def lossFields : List Fld :=
  [BITIN.FMEAS.F, BITIN.STATUS.REQUAL, BITIN.STATUS.CLKOK, BITIN.STATUS.CLKLOST, BITIN.STATUS.VALID,
    BITIN.LOSSCNT.COUNT, BITIN.LOSSCNT.SAT]

/-- A clock loss as BITIN shows it, before it is counted. -/
def State.lossSeen (s : State) (f : BitVec 18) : State :=
  let s : State := { s with bitMon := { s.bitMon with inRange := false, goodSince := s.clock.grain } }
  (((s.set BITIN.FMEAS.F f.toNat).flag BITIN.STATUS.REQUAL true).flag BITIN.STATUS.CLKLOST true).flag
    BITIN.STATUS.CLKOK false

/-- A clock loss as BITIN shows it. -/
def State.lossShown (s : State) (f : BitVec 18) : State :=
  ((s.lossSeen f).bump BITIN.LOSSCNT.COUNT BITIN.LOSSCNT.SAT).set BITIN.STATUS.VALID 0

/-- What BITIN.STATUS reads, as the event records carry it (R355). -/
def State.bitStatus (s : State) : List Byte :=
  [BitVec.ofNat 8 (s.readCells ((cellsOf regsBitin 0x14 1 0).getD []))]

theorem bitclkLoss_next {s : State} (hp : s.power = .on) (f : BitVec 18) : exec (.bitclkLoss f) s =
    .next (((s.lossShown f).stageEvent 0x14 1 (s.lossShown f).bitStatus).arrive 0x1D) :=
  next_congr (if_pos hp)

theorem State.lossShown_frame (s : State) (f : BitVec 18) : Same [.bitMon] lossFields s (s.lossShown f) :=
  (((((bitMon_frame s _ _).then (State.set_frame _ _ _ _ (by decide))).then (State.flag_frame _ _ _ _ (by decide))).then
    ((State.flag_frame _ _ _ _ (by decide)).then (State.flag_frame _ _ _ _ (by decide)))).then
      (State.bump_frame _ _ _ _ (by decide) (by decide))).then (State.set_frame _ _ _ _ (by decide))

/-- A field of a loss that is neither its count nor VALID. -/
theorem State.lossShown_get (s : State) (f : BitVec 18) {g : Fld}
    (hg : g ∉ [BITIN.LOSSCNT.COUNT, BITIN.LOSSCNT.SAT, BITIN.STATUS.VALID]) : (s.lossShown f).get g =
      if BITIN.STATUS.CLKOK = g then 0 else if BITIN.STATUS.CLKLOST = g then 1 else if BITIN.STATUS.REQUAL = g then 1
      else if BITIN.FMEAS.F = g then f.toNat else s.get g := by
  have hbump : (s.lossShown f).get g = (s.lossSeen f).get g :=
    (State.get_set_other _ (by rintro rfl; simp at hg) _).trans (State.bump_get_other _ fun h => by simp_all)
  rw [hbump, State.lossSeen, State.get_flag, State.get_flag, State.get_flag, State.get_set]
  rw [show f.toNat % 2 ^ BITIN.FMEAS.F.w = f.toNat from Nat.mod_eq_of_lt f.isLt]
  rfl

theorem State.lossShown_count (s : State) (f : BitVec 18) (h : s.get BITIN.LOSSCNT.COUNT + 1 < 2 ^ 31) :
    (s.lossShown f).get BITIN.LOSSCNT.COUNT = s.get BITIN.LOSSCNT.COUNT + 1 := by
  have hseen : (s.lossSeen f).get BITIN.LOSSCNT.COUNT = s.get BITIN.LOSSCNT.COUNT := by
    rw [State.lossSeen, State.get_flag, State.get_flag, State.get_flag, State.get_set]
    rfl
  rw [State.lossShown, State.get_set_other _ (by decide), State.bump_get_same _ (by rw [hseen]; exact h), hseen]

/-- A clock loss is shown, counted, recorded, and raises its source (R142). -/
theorem bitclkLoss_effect (s : State) (f : BitVec 18) :
    let t := ((s.lossShown f).stageEvent 0x14 1 (s.lossShown f).bitStatus).arrive 0x1D
    t.get BITIN.FMEAS.F = f.toNat ∧ t.on BITIN.STATUS.REQUAL = true ∧
    t.bitMon = { s.bitMon with inRange := false, goodSince := s.clock.grain } ∧ t.on BITIN.STATUS.CLKOK = false ∧
    t.on BITIN.STATUS.CLKLOST = true ∧ t.get BITIN.STATUS.VALID = 0 ∧
    (s.get BITIN.LOSSCNT.COUNT + 1 < 2 ^ 31 → t.get BITIN.LOSSCNT.COUNT = s.get BITIN.LOSSCNT.COUNT + 1) ∧
    t.jrnl.staged.length = s.jrnl.staged.length + 1 ∧ Arrived 0x1D s t ∧
    Same [.bitMon, .jrnl] (lossFields ++ arrivalOf 0x1D) s t := by
  intro t
  obtain ⟨hlen, harr, hframe⟩ := State.recorded_after (s.lossShown_frame f) (by decide) (by decide) (src := 0x1D)
    (by decide) rfl 0x14 1 (s.lossShown f).bitStatus
  have hrecord : Same [.jrnl] (arrivalOf 0x1D) (s.lossShown f) t := ((s.lossShown f).recorded_arrived _ _ _ rfl).2.2
  have hget {g : Fld} (hg : g ∉ arrivalOf 0x1D) : t.get g = (s.lossShown f).get g := hrecord.get hg
  have hmon : (s.lossShown f).bitMon = (s.lossSeen f).bitMon :=
    ((State.bump_frame [] (P := (· ∈ lossFields)) (s.lossSeen f) _ _ (by decide) (by decide)).then
      (State.set_frame [] _ _ _ (by decide))).2 .bitMon nofun
  refine ⟨?_, ?_, (hrecord.2 .bitMon (by decide)).trans hmon, ?_, ?_, ?_, fun h => ?_, hlen, harr,
    hframe.mono (by decide) fun _ h => h⟩
  · exact (hget (by decide)).trans (s.lossShown_get f (by decide))
  · exact (State.on_of_get (hget (by decide))).trans (by rw [State.on, s.lossShown_get f (by decide)]; rfl)
  · exact (State.on_of_get (hget (by decide))).trans (by rw [State.on, s.lossShown_get f (by decide)]; rfl)
  · exact (State.on_of_get (hget (by decide))).trans (by rw [State.on, s.lossShown_get f (by decide)]; rfl)
  · exact (hget (by decide)).trans (State.get_set_same ..)
  · exact (hget (by decide)).trans (s.lossShown_count f h)

/-! ## The clock good again (R142) -/

/-- BITIN's status once the clock is good again. -/
def State.requalified (s : State) : State := (s.bitFlush.flag BITIN.STATUS.CLKOK true).flag BITIN.STATUS.REQUAL false

theorem bitclkRequalify_next {s : State} (hp : s.power = .on) (hk : s.on BITIN.STATUS.CLKOK = false)
    (hg : s.bitMon.goodSince + 1024 ≤ s.clock.grain) :
    exec .bitclkRequalify s = .next ((s.requalified.stageEvent 0x14 2 s.requalified.bitStatus).arrive 0x1D) :=
  next_congr (if_pos ⟨hp, by simp [hk], hg⟩)

theorem State.bitFlush_frame (s : State) (fs : List Fld) : Same [.streams] fs s s.bitFlush :=
  .of_flds rfl fun c hc => by
    cases c with
    | streams => simp at hc
    | _ => rfl

theorem State.requalified_frame (s : State) :
    Same [.streams] [BITIN.STATUS.CLKOK, BITIN.STATUS.REQUAL] s s.requalified :=
  (s.bitFlush_frame _).then ((State.flag_frame _ _ _ _ (by decide)).then (State.flag_frame _ _ _ _ (by decide)))

/-- The streams after a requalification are those flushed. -/
theorem State.requalified_streams (s : State) :
    ((s.requalified.stageEvent 0x14 2 s.requalified.bitStatus).arrive 0x1D).streams = s.bitFlush.streams :=
  (s.requalified.recorded_arrived 0x14 2 _ (src := 0x1D) rfl).2.2.2 .streams (by decide)

/-- The flush leaves the cores' decimators, where all are listed. -/
theorem State.bitFlush_core {s : State} (h : 38 ≤ s.streams.front.cics.length) {k : Nat} (hk : k < 38) :
    s.bitFlush.streams.front.cics[k]? = s.streams.front.cics[k]? := by
  have hlen : k < (s.streams.front.cics.take 38).length := by rw [List.length_take]; omega
  exact (List.getElem?_append_left hlen).trans (List.getElem?_take_of_lt hk)

/-- All are listed after reset. -/
theorem reset_lists_cores : 38 ≤ State.reset.streams.front.cics.length := by decide

/-- A requalification clears REQUAL, flushes the bitstreams, is recorded, and raises its source (R142). -/
theorem bitclkRequalify_effect {s : State} (h : 38 ≤ s.streams.front.cics.length) :
    let t := (s.requalified.stageEvent 0x14 2 s.requalified.bitStatus).arrive 0x1D
    t.on BITIN.STATUS.CLKOK = true ∧ t.on BITIN.STATUS.REQUAL = false ∧
    t.jrnl.staged.length = s.jrnl.staged.length + 1 ∧ Arrived 0x1D s t ∧
    t.streams.front.conv = List.replicate 8 [] ∧
    (∀ k, k < 38 → t.streams.front.cics[k]? = s.streams.front.cics[k]?) ∧
    t.streams = { s.streams with front := { s.streams.front with
      cics := t.streams.front.cics, conv := t.streams.front.conv } } ∧
    Same [.jrnl, .streams] ([BITIN.STATUS.CLKOK, BITIN.STATUS.REQUAL] ++ arrivalOf 0x1D) s t := by
  intro t
  obtain ⟨hlen, harr, hframe⟩ := State.recorded_after s.requalified_frame (by decide) (by decide) (src := 0x1D)
    (by decide) rfl 0x14 2 s.requalified.bitStatus
  have hrecord : Same [.jrnl] (arrivalOf 0x1D) s.requalified t := (s.requalified.recorded_arrived _ _ _ rfl).2.2
  have hstreams : t.streams = s.bitFlush.streams := s.requalified_streams
  refine ⟨?_, ?_, hlen, harr, by rw [hstreams]; rfl, fun k hk => by rw [hstreams, State.bitFlush_core h hk],
    by rw [hstreams]; rfl, hframe⟩
  · rw [State.on_of_get (hrecord.get (by decide)), State.requalified, State.on_flag_other _ _ (by decide),
      State.on_flag_same _ _ rfl]
  · rw [State.on_of_get (hrecord.get (by decide)), State.requalified, State.on_flag_same _ _ rfl]

/-! ## A stuck bitstream and one out of its range (R143) -/

/-- A status bit of a bitstream sets. -/
def State.bitstreamMarked (s : State) (f : Fld) (k : Nat) : State := (s.setBit f k true).arrive 0x1E

theorem State.bitstreamMarked_effect (s : State) {f : Fld} {k : Nat} (hk : k < f.w) (hf : f ∉ arrivalOf 0x1E) :
    (s.bitstreamMarked f k).bit f k = true ∧ Arrived 0x1E s (s.bitstreamMarked f k) ∧
    Same [] (f :: arrivalOf 0x1E) s (s.bitstreamMarked f k) := by
  have harr : Same [] (arrivalOf 0x1E) (s.setBit f k true) (s.bitstreamMarked f k) :=
    State.arrive_frame [] _ _ fun _ h => h
  refine ⟨(State.bit_of_get (harr.get hf) k).trans (State.bit_setBit_same s hk), ?_, ?_⟩
  · exact ((s.setBit f k true).arrive_arrived (src := 0x1E) rfl).congr
      (fun g hg => State.get_set_other s (by rintro rfl; exact hf hg) _) fun _ _ => rfl
  · exact (State.setBit_frame [] s _ _ _ (List.mem_cons_self ..)).then
      (harr.mono nofun fun _ h => List.mem_cons_of_mem _ h)

theorem bitstreamRangeExceed_next {s : State} {k : Fin 8} (hp : s.power = .on)
    (hr : s.get BITIN.RLIM.RGRAINS ≤ s.bitMon.above.getD k 0) (ho : s.bit BITIN.STATUS.OVR k = false) :
    exec (.bitstreamRangeExceed k) s = .next (s.bitstreamMarked BITIN.STATUS.OVR k) :=
  next_congr (if_pos ⟨hp, hr, by simp [ho]⟩)

/-- A bitstream's STUCK bit sets where it was clear. -/
def State.stuckSeen (s : State) (k : Nat) : State :=
  if s.bit BITIN.STATUS.STUCK k then s else s.bitstreamMarked BITIN.STATUS.STUCK k

/-- A stuck bitstream's samples are invalid for 64 grains more. -/
def State.stuckShown (s : State) (k : Nat) : State :=
  { s.stuckSeen k with bitMon := { s.bitMon with stuckEnd := s.bitMon.stuckEnd.set k (s.clock.grain + 65) } }

theorem State.stuckSeen_effect (s : State) {k : Nat} (hk : k < 8) :
    (s.stuckSeen k).bit BITIN.STATUS.STUCK k = true ∧
    (s.bit BITIN.STATUS.STUCK k = false → Arrived 0x1E s (s.stuckSeen k)) ∧
    Same [] (BITIN.STATUS.STUCK :: arrivalOf 0x1E) s (s.stuckSeen k) := by
  obtain ⟨hbit, harr, hframe⟩ := s.bitstreamMarked_effect (f := BITIN.STATUS.STUCK) hk (by decide)
  unfold State.stuckSeen
  split
  · next h => exact ⟨h, fun hc => absurd (h.symm.trans hc) nofun, .refl ..⟩
  · exact ⟨hbit, fun _ => harr, hframe⟩

theorem bitstreamStuck_next {s : State} {k : Fin 8} (hp : s.power = .on) (he : s.bit BITIN.CTRL.EN k = true) :
    exec (.bitstreamStuck k) s = .next (s.stuckShown k) := by
  obtain ⟨-, -, hframe⟩ := s.stuckSeen_effect k.isLt
  have hmon : (s.stuckSeen k).bitMon = s.bitMon := hframe.2 .bitMon nofun
  have hclock : (s.stuckSeen k).clock = s.clock := hframe.2 .clock nofun
  refine next_congr ((if_pos ⟨hp, he⟩).trans ?_)
  rw [State.stuckShown, ← hmon, ← hclock]
  rfl

/-- A stuck bitstream (R143). -/
theorem bitstreamStuck_effect (s : State) {k : Nat} (hk : k < 8) :
    (s.stuckShown k).bit BITIN.STATUS.STUCK k = true ∧
    (s.bit BITIN.STATUS.STUCK k = false → Arrived 0x1E s (s.stuckShown k)) ∧
    Same [.bitMon] (BITIN.STATUS.STUCK :: arrivalOf 0x1E) s (s.stuckShown k) := by
  obtain ⟨hbit, harr, hframe⟩ := s.stuckSeen_effect hk
  exact ⟨hbit, fun h => (harr h).congr (fun _ _ => rfl) fun _ _ => rfl,
    (hframe.mono nofun fun _ h => h).then (bitMon_frame ..)⟩

/-! ## The counterexample -/

/-- The clock is good again after 1024 grains, and no decimator is listed. -/
def noDecimators : State :=
  let s := State.reset
  { s with
    clock := { s.clock with grain := 1024 }
    streams := { s.streams with front := { s.streams.front with cics := [] } } }

/-- Refutes O29: it speaks of every state, and where none of the 46 decimators is listed the flush of the bitstreams'
leaves core 0 with one. Its other clauses hold: `quadCommands`, `bitclkLoss_effect`,
`bitstreamStuck_effect`, `State.bitstreamMarked_effect`; so does this one, `bitclkRequalify_effect`, where the cores'
decimators are listed. -/
theorem not_quadsAndBitstreams : ¬ Obligations.QuadsAndBitstreams := by
  unfold Obligations.QuadsAndBitstreams
  rintro ⟨-, h⟩
  obtain ⟨t, hexec, -, -, -, -, -, hcics, -⟩ := (h noDecimators rfl).2.1 rfl (by decide)
  rw [bitclkRequalify_next rfl rfl (by decide)] at hexec
  obtain rfl : _ = t := Host.Outcome.next.inj hexec
  have hcore := hcics 0 (by decide)
  rw [State.requalified_streams] at hcore
  exact absurd hcore nofun

end Sys2Proof.Machine

namespace Sys2Proof.Machine
open Sys2Proof.Claims

/-! SUPPORT. The filter chain's registers, the bindings of the energy slots and the tariff (R150, R155, R165–R169, R268,
R274, R275). -/

/-! ## What the writes share -/

/-- A field written without restriction holds its bits of the word, or what is stored in their place. -/
theorem State.writeCells_rw (s : State) {cs : List Cell} (v : Nat) (hn : (cs.map Cell.fld).Nodup) {f : Fld}
    {sub : List (Nat × Nat × Nat)} (hc : ⟨f, sub⟩ ∈ cs) (ha : f.acc = .rw) :
    (s.writeCells cs v).get f = storedAs sub (field v f.lo f.w) % 2 ^ f.w :=
  (s.writeCells_get v hn hc).trans (Cell.written_rw ha)

/-- A register of one 32-bit field holds the word written. -/
theorem State.writeCells_word (s : State) {f : Fld} (ha : f.acc = .rw) (hlo : f.lo = 0) (hw : f.w = 32) (v : Word) :
    (s.writeCells [⟨f, []⟩] v.toNat).get f = v.toNat ∧ Same [] [f] s (s.writeCells [⟨f, []⟩] v.toNat) := by
  refine ⟨?_, s.writeCells_same [⟨f, []⟩] v.toNat⟩
  rw [s.writeCells_rw v.toNat (by simp) (List.mem_singleton_self _) ha, hlo, hw]
  have hv := v.isLt
  simp only [storedAs, List.find?_nil, field]
  omega

/-- A refusal sets its flag and lets the source arrive where the flag was clear (R406). -/
theorem State.raise_effect (s : State) {f : Fld} {src : Nat} (hw : f.w = 1) (hf : f ∉ arrivalOf src)
    (hp : s.part.hasSource src = true) :
    let t := s.raise f src
    t.on f = true ∧ (s.on f = false → Arrived src s t) ∧ Same [] (f :: arrivalOf src) s t :=
  ⟨s.on_raise hw hf, State.raise_arrived hp hf,
    s.raise_frame [] f src (List.mem_cons_self ..) fun _ h => List.mem_cons_of_mem _ h⟩

/-! ## Filter configuration (R150, R155) -/

theorem filtCfgWrite_next {s : State} (hp : s.power = .on) (k : Fin 24) (v : Word) :
    exec (.filtCfgWrite k v) s = .next (s.cfgWrite k v.toNat) := next_congr (State.whenOn_on hp)

/-- The cells of CFGk, as the register table has them (R169). -/
def cfgCells (k : Nat) : List Cell := [⟨FILT.CFG.OPT k, []⟩, ⟨FILT.CFG.ORDER k, [(0, 2, 5), (6, 7, 5)]⟩]

theorem cellsOf_cfg (k : Fin 24) : (cellsOf regsFilt 0x18 (0x20 + k) 0).getD [] = cfgCells k := by
  revert k
  decide

/-- An ORDER outside 3 to 5 is stored as 5. -/
theorem storedAs_order (x : Fin 8) :
    storedAs [(0, 2, 5), (6, 7, 5)] x % 8 = if x.val ∈ [3, 4, 5] then x.val else 5 := by
  revert x
  decide

theorem State.cfgWrite_absent {s : State} {k : Nat} (h : s.part.hasChan k = false) (v : Nat) : s.cfgWrite k v = s :=
  if_pos (by simp [h])

theorem State.cfgWrite_refused {s : State} {k v : Nat} (h : s.part.hasChan k = true) (hb : s.cfgBad k v = true) :
    s.cfgWrite k v = s.raise FILT.STATUS.CFGREF 0x1F := by
  simp only [State.cfgWrite, h, hb, not_true, if_false, if_true]

theorem State.cfgWrite_stored {s : State} {k : Fin 24} {v : Nat} (h : s.part.hasChan k = true)
    (hb : s.cfgBad k v = false) : s.cfgWrite k v = s.writeCells (cfgCells k) v := by
  simp only [State.cfgWrite, h, hb, not_true, if_false, Bool.false_eq_true, cellsOf_cfg]

theorem State.cfgStored_effect (s : State) (k : Nat) (v : Word) :
    let t := s.writeCells (cfgCells k) v.toNat
    t.get (FILT.CFG.ORDER k) = (if v.toNat % 8 ∈ [3, 4, 5] then v.toNat % 8 else 5) ∧
    t.on (FILT.CFG.OPT k) = v.getLsbD 4 ∧ Same [] [FILT.CFG.ORDER k, FILT.CFG.OPT k] s t := by
  intro t
  have hn : ((cfgCells k).map Cell.fld).Nodup := by simp [cfgCells, FILT.CFG.OPT, FILT.CFG.ORDER]
  have hopt : t.get (FILT.CFG.OPT k) = field v.toNat 4 1 % 2 ^ 1 :=
    s.writeCells_rw v.toNat hn (List.mem_cons_self ..) rfl
  have horder : t.get (FILT.CFG.ORDER k) = storedAs [(0, 2, 5), (6, 7, 5)] (field v.toNat 0 3) % 2 ^ 3 :=
    s.writeCells_rw v.toNat hn (List.mem_cons_of_mem _ (List.mem_singleton_self _)) rfl
  have hlow : field v.toNat 0 3 = v.toNat % 8 := by simp only [field]; omega
  refine ⟨?_, ?_, (s.writeCells_same (cfgCells k) v.toNat).mono (fun _ h => h) fun f hf => ?_⟩
  · rw [horder, hlow]
    exact storedAs_order ⟨v.toNat % 8, Nat.mod_lt _ (by omega)⟩
  · rw [State.on, hopt, getLsbD_eq_bitOf]
    exact field_one_bne ..
  · simpa [cfgCells, or_comm] using hf

/-! ## The order to swap banks (R166, R167) -/

/-- The channels that an order to swap names, of those that the part has. -/
def State.swapMask (s : State) (v : Nat) : Nat := bitsOf 24 (fun k => bitOf v k && s.part.hasChan k)

theorem filtSwap_refused {s : State} (hp : s.power = .on) {v : Word} (h : s.splitsPair (s.swapMask v.toNat) = true) :
    exec (.filtSwap v) s = .next (s.raise FILT.STATUS.SWAPREF 0x1F) :=
  next_congr ((State.whenOn_on hp).trans (congrArg Prod.snd (if_pos h)))

theorem filtSwap_ordered {s : State} (hp : s.power = .on) {v : Word} (h : s.splitsPair (s.swapMask v.toNat) = false) :
    exec (.filtSwap v) s =
      .next { s with streams := { s.streams with swap := some (s.swapMask v.toNat, v.toNat / 2 ^ 25 % 2) } } :=
  next_congr ((State.whenOn_on hp).trans (congrArg Prod.snd (if_neg (by rw [State.swapMask] at h; simp [h]))))

/-! ## Bank registers (R165, R169, R170) -/

/-- The rows of bank registers: the unit, the index for channel 0, whether the bank is B. -/
def bankRows : List (Nat × Nat × Bool) :=
  [(0x18, 0x40, false), (0x18, 0x60, true), (0x18, 0x80, false), (0x18, 0xA0, true), (0x19, 0x20, false),
    (0x19, 0x40, true)]

theorem bankReg_of_row {u lo : Nat} {b : Bool} (h : (u, lo, b) ∈ bankRows) (k : Fin 24) :
    bankReg u (lo + k) = some (k.val, b) := by
  have hall : ∀ r ∈ bankRows, ∀ k : Fin 24, bankReg r.1 (r.2.1 + k) = some (k.val, r.2.2) := by decide
  exact hall _ h k

/-- The unit whose bank register is written. -/
def bankUnit (rsmp : Bool) : Nat := if rsmp then 0x19 else 0x18

theorem exec_activeBankWrite (r : Bool) (idx : Fin 256) (v : Word) (s : State) :
    exec (.activeBankWrite r idx v) s = execActiveBankWrite r idx v s := rfl

theorem activeBankWrite_next {s : State} (hp : s.power = .on) {r b : Bool} {lo : Nat}
    (h : (bankUnit r, lo, b) ∈ bankRows) {k : Fin 24} {idx : Fin 256} (hi : idx.val = lo + k) (v : Word) :
    exec (.activeBankWrite r idx v) s = .next (s.bankWrite (bankUnit r) (lo + k) k b v.toNat) := by
  have hreg := bankReg_of_row h k
  rw [← hi] at hreg ⊢
  rw [exec_activeBankWrite, execActiveBankWrite, ← bankUnit, hreg]
  exact next_congr (State.whenOn_on hp)

/-- An index outside the rows names no bank register. -/
theorem activeBankWrite_illFormed {idx : Fin 256} (h : idx.val < 0x40 ∨ 0xC0 ≤ idx.val ∨ 24 ≤ idx.val % 32) (v : Word)
    (s : State) : exec (.activeBankWrite false idx v) s = .refused .illFormed := by
  have hreg : bankReg 0x18 idx = none := if_neg (by simp only [if_true]; omega)
  simp only [exec_activeBankWrite, execActiveBankWrite, Bool.false_eq_true, if_false, hreg]

/-- The flag of a write to the active bank. -/
def actwr (rsmp : Bool) : Fld := if rsmp then RSMP.STATUS.ACTWR else FILT.STATUS.ACTWR

section
variable {s : State} {r b : Bool} {lo v : Nat} {k : Fin 24}

/-- A write to the active bank is ignored and flagged (R165). -/
theorem State.bankWrite_active (hc : s.part.hasChan k = true) (hb : s.bit FILT.ACTIVE.B k = b) :
    s.bankWrite (bankUnit r) (lo + k) k b v = s.raise (actwr r) 0x1F := by
  have hflag : (if bankUnit r = 0x18 then FILT.STATUS.ACTWR else RSMP.STATUS.ACTWR) = actwr r := by cases r <;> rfl
  simp only [State.bankWrite, State.bankB, hc, hb, hflag, not_true, if_false, if_true]

/-- The cells of a bank register. -/
def bankCells (rsmp : Bool) (idx : Nat) : List Cell :=
  (cellsOf (if bankUnit rsmp = 0x18 then regsFilt else regsRsmp) (bankUnit rsmp) idx 0).getD []

/-- A write to the other bank stores the word; a voltage channel's INTEN stays zero (R159). -/
theorem State.bankWrite_inactive (hc : s.part.hasChan k = true) (hb : s.bit FILT.ACTIVE.B k = !b) :
    s.bankWrite (bankUnit r) (lo + k) k b v =
      let t := s.writeCells (bankCells r (lo + k)) v
      if bankUnit r = 0x18 ∧ isVoltage k ∧ lo + k < 0x80 then
        t.set (if b then FILT.CHB.INTEN k else FILT.CHA.INTEN k) 0 else t := by
  have hne : ¬ s.bit FILT.ACTIVE.B k = b := by rw [hb]; exact Bool.not_ne_self b
  simp only [State.bankWrite, State.bankB, hc, hne, not_true, if_false]
  rfl

end

/-! ### INTEN, LEAK and DRPSET of a channel (R169) -/

/-- The index of a bank's row of channel registers. -/
def chRow (b : Bool) : Nat := if b then 0x60 else 0x40

/-- LEAK of a channel in a bank: CHA's or CHB's. -/
def chLeak (b : Bool) (k : Nat) : Fld := { FILT.CHA.LEAK k with idx := chRow b + k }

/-- INTEN of a channel in a bank. -/
def chInten (b : Bool) (k : Nat) : Fld := { FILT.CHA.INTEN k with idx := chRow b + k }

/-- DRPSET of a channel in a bank. -/
def chDrp (b : Bool) (k : Nat) : Fld := { FILT.CHA.DRPSET k with idx := chRow b + k }

/-- The cells of a channel in a bank, as the register table has them. -/
def chCells (b : Bool) (k : Nat) : List Cell :=
  [⟨chLeak b k, [(0, 9, 10), (26, 31, 25)]⟩, ⟨chInten b k, []⟩, ⟨chDrp b k, []⟩]

theorem bankCells_ch (b : Bool) (k : Fin 24) : bankCells false (chRow b + k) = chCells b k := by
  revert b k
  decide

theorem chRow_mem (b : Bool) : (bankUnit false, chRow b, b) ∈ bankRows := by
  revert b
  decide

/-- A LEAK outside 10 to 25 is stored as the nearer bound. -/
theorem storedAs_leak (x : Fin 32) : storedAs [(0, 9, 10), (26, 31, 25)] x % 32 = max 10 (min 25 x.val) := by
  revert x
  decide

/-- A channel's bank register as a write leaves it (R159, R169). -/
def State.chWritten (s : State) (b : Bool) (k : Fin 24) (v : Word) : State :=
  if isVoltage k then (s.writeCells (chCells b k) v.toNat).set (chInten b k) 0 else s.writeCells (chCells b k) v.toNat

theorem State.bankWrite_ch {s : State} {b : Bool} {k : Fin 24} (hc : s.part.hasChan k = true)
    (hb : s.bit FILT.ACTIVE.B k = !b) (v : Word) :
    s.bankWrite (bankUnit false) (chRow b + k) k b v.toNat = s.chWritten b k v := by
  have hinten : (if b then FILT.CHB.INTEN k else FILT.CHA.INTEN k) = chInten b k := by cases b <;> rfl
  have hlow : chRow b + k < 0x80 := by
    have hk := k.isLt
    unfold chRow
    split <;> omega
  rw [State.bankWrite_inactive hc hb, bankCells_ch, hinten, State.chWritten]
  simp only [show bankUnit false = 0x18 from rfl, hlow, true_and, and_true]

theorem State.chWritten_effect (s : State) (b : Bool) (k : Fin 24) (v : Word) :
    let t := s.chWritten b k v
    t.get (chLeak b k) = max 10 (min 25 (v.toNat / 8 % 32)) ∧ t.on (chInten b k) = (v.getLsbD 2 && !isVoltage k) ∧
    t.get (chDrp b k) = v.toNat % 4 ∧ Same [] [chLeak b k, chInten b k, chDrp b k] s t := by
  intro t
  let u := s.writeCells (chCells b k) v.toNat
  have hn : ((chCells b k).map Cell.fld).Nodup := by
    simp [chCells, chLeak, chInten, chDrp, FILT.CHA.LEAK, FILT.CHA.INTEN, FILT.CHA.DRPSET]
  have hleak : u.get (chLeak b k) = storedAs [(0, 9, 10), (26, 31, 25)] (field v.toNat 3 5) % 2 ^ 5 :=
    s.writeCells_rw v.toNat hn (by simp [chCells]) rfl
  have hinten : u.get (chInten b k) = field v.toNat 2 1 % 2 ^ 1 :=
    s.writeCells_rw (sub := []) v.toNat hn (by simp [chCells]) rfl
  have hdrp : u.get (chDrp b k) = field v.toNat 0 2 % 2 ^ 2 :=
    s.writeCells_rw (sub := []) v.toNat hn (by simp [chCells]) rfl
  have hframe : Same [] [chLeak b k, chInten b k, chDrp b k] s u := s.writeCells_same (chCells b k) v.toNat
  have hset : Same [] [chInten b k] u t := by
    show Same [] [chInten b k] u (if isVoltage k then u.set (chInten b k) 0 else u)
    split
    · exact State.set_frame [] u _ _ (List.mem_singleton_self _)
    · exact .refl ..
  refine ⟨?_, ?_, ?_, hframe.then (hset.mono nofun fun _ h => List.mem_cons_of_mem _ (by simp_all))⟩
  · rw [hset.get (by simp [chLeak, chInten, FILT.CHA.LEAK, FILT.CHA.INTEN]), hleak]
    exact storedAs_leak ⟨v.toNat / 8 % 32, Nat.mod_lt _ (by omega)⟩
  · have hon : u.on (chInten b k) = v.getLsbD 2 := by
      rw [State.on, hinten, getLsbD_eq_bitOf]
      exact field_one_bne ..
    show (if isVoltage k then u.set (chInten b k) 0 else u).on (chInten b k) = _
    cases isVoltage k with
    | true => exact (u.on_flag_same false rfl).trans (Bool.and_false _).symm
    | false => simpa using hon
  · rw [hset.get (by simp [chDrp, chInten, FILT.CHA.DRPSET, FILT.CHA.INTEN]), hdrp]
    simp only [field]
    omega

/-! ### The gain and phase corrections: one word for each channel (R169, R170) -/

/-- The index of a bank's row of words. -/
def wordRow : Bool → Bool → Nat
  | false, false => 0x80
  | false, true => 0xA0
  | true, false => 0x20
  | true, true => 0x40

/-- The field that a bank's word of channel k holds. -/
def wordField : Bool → Bool → Nat → Fld
  | false, false => FILT.IGA.K
  | false, true => FILT.IGB.K
  | true, false => RSMP.PHA.PH
  | true, true => RSMP.PHB.PH

theorem bankCells_word (r b : Bool) (k : Fin 24) : bankCells r (wordRow r b + k) = [⟨wordField r b k, []⟩] := by
  revert r b k
  decide

theorem wordRow_mem (r b : Bool) : (bankUnit r, wordRow r b, b) ∈ bankRows := by
  revert r b
  decide

theorem State.bankWrite_word {s : State} {r b : Bool} {k : Fin 24} (hc : s.part.hasChan k = true)
    (hb : s.bit FILT.ACTIVE.B k = !b) (v : Nat) :
    s.bankWrite (bankUnit r) (wordRow r b + k) k b v = s.writeCells [⟨wordField r b k, []⟩] v := by
  have hrow : ¬ (bankUnit r = 0x18 ∧ isVoltage k ∧ wordRow r b + k < 0x80) := by
    rintro ⟨hu, -, hlow⟩
    match r, b with
    | false, false | false, true => exact absurd hlow (by simp only [wordRow]; omega)
    | true, _ => exact absurd hu (by decide)
  rw [State.bankWrite_inactive hc hb, bankCells_word]
  exact if_neg hrow

theorem State.wordWritten_effect (s : State) (r b : Bool) (k : Nat) (v : Word) :
    let t := s.writeCells [⟨wordField r b k, []⟩] v.toNat
    t.get (wordField r b k) = v.toNat ∧ Same [] [wordField r b k] s t := by
  match r, b with
  | false, false | false, true | true, false | true, true => exact s.writeCells_word rfl rfl rfl v

/-! ### The three kinds of write, as commands -/

section
variable {s : State} {r b : Bool} {k : Fin 24} {idx : Fin 256}

/-- A write to the active bank (R165). -/
theorem activeBankWrite_ignored {lo : Nat} (hp : s.power = .on) (hc : s.part.hasChan k = true)
    (h : (bankUnit r, lo, b) ∈ bankRows) (hi : idx.val = lo + k) (hb : s.bit FILT.ACTIVE.B k = b) (v : Word) :
    ∃ t, exec (.activeBankWrite r idx v) s = .next t ∧ t.on (actwr r) = true ∧
      (s.on (actwr r) = false → Arrived 0x1F s t) ∧ Same [] (actwr r :: arrivalOf 0x1F) s t := by
  have hw : (actwr r).w = 1 := by cases r <;> rfl
  have hf : actwr r ∉ arrivalOf 0x1F := by cases r <;> decide
  refine ⟨s.raise (actwr r) 0x1F, ?_, s.raise_effect hw hf rfl⟩
  rw [activeBankWrite_next hp h hi, State.bankWrite_active hc hb]

/-- A write of a channel's register in the other bank. -/
theorem activeBankWrite_ch (hp : s.power = .on) (hc : s.part.hasChan k = true) (hi : idx.val = chRow b + k)
    (hb : s.bit FILT.ACTIVE.B k = !b) (v : Word) :
    ∃ t, exec (.activeBankWrite false idx v) s = .next t ∧ t.get (chLeak b k) = max 10 (min 25 (v.toNat / 8 % 32)) ∧
      t.on (chInten b k) = (v.getLsbD 2 && !isVoltage k) ∧ t.get (chDrp b k) = v.toNat % 4 ∧
      Same [] [chLeak b k, chInten b k, chDrp b k] s t :=
  ⟨s.chWritten b k v, (activeBankWrite_next hp (chRow_mem b) hi v).trans (next_congr (State.bankWrite_ch hc hb v)),
    s.chWritten_effect b k v⟩

/-- A write of a word in the other bank. -/
theorem activeBankWrite_word (hp : s.power = .on) (hc : s.part.hasChan k = true) (hi : idx.val = wordRow r b + k)
    (hb : s.bit FILT.ACTIVE.B k = !b) (v : Word) :
    ∃ t, exec (.activeBankWrite r idx v) s = .next t ∧ t.get (wordField r b k) = v.toNat ∧
      Same [] [wordField r b k] s t :=
  ⟨_, (activeBankWrite_next hp (wordRow_mem r b) hi v).trans (next_congr (State.bankWrite_word hc hb v.toNat)),
    s.wordWritten_effect r b k v⟩

end

/-! ## The coefficient window (R169) -/

theorem coefDataAccess_read {s : State} (hp : s.power = .on) (v : Word) : exec (.coefDataAccess false v) s =
    .next { s.tapNext with readData := BitVec.ofNat 32 (s.get (FILT.CDATA.COEF s.coefBank)) } :=
  next_congr (State.whenOn_on hp)

theorem coefDataAccess_write {s : State} (hp : s.power = .on) (v : Word) :
    exec (.coefDataAccess true v) s = .next (s.coefWrite v.toNat) := next_congr (State.whenOn_on hp)

theorem State.tapNext_get (s : State) : s.tapNext.get FILT.CADDR.TAP = (s.get FILT.CADDR.TAP + 1) % 128 :=
  State.get_set_same ..

theorem State.tapNext_frame (s : State) : Same [] [FILT.CADDR.TAP] s s.tapNext :=
  State.set_frame [] s _ _ (List.mem_singleton_self _)

/-- After a step that leaves TAP alone, TAP advances by one. -/
theorem State.tapNext_after {s u : State} {fs : List Fld} (h : Same [] fs s u) (hf : FILT.CADDR.TAP ∉ fs) :
    u.tapNext.get FILT.CADDR.TAP = (s.get FILT.CADDR.TAP + 1) % 128 ∧
      Same [] (FILT.CADDR.TAP :: fs) s u.tapNext := by
  refine ⟨by rw [State.tapNext_get, h.get hf], ?_⟩
  exact (h.mono nofun fun _ h => List.mem_cons_of_mem _ h).then (u.tapNext_frame.mono nofun (by simp))

theorem State.coefRead_effect (s : State) (x : Word) :
    let t : State := { s.tapNext with readData := x }
    t.get FILT.CADDR.TAP = (s.get FILT.CADDR.TAP + 1) % 128 ∧ t.readData = x ∧ Same [.readData] [FILT.CADDR.TAP] s t :=
  ⟨s.tapNext_get, rfl, (s.tapNext_frame.mono nofun fun _ h => h).then (readData_same ..)⟩

theorem State.coefWrite_stored {s : State} (h : s.setActive = false) (v : Nat) :
    let t := s.coefWrite v
    t.get FILT.CADDR.TAP = (s.get FILT.CADDR.TAP + 1) % 128 ∧ t.get (FILT.CDATA.COEF s.coefBank) = v % 2 ^ 24 ∧
      Same [] [FILT.CDATA.COEF s.coefBank, FILT.CADDR.TAP] s t := by
  intro t
  let u := s.set (FILT.CDATA.COEF s.coefBank) v
  have ht : t = u.tapNext := by simp only [t, u, State.coefWrite, h, Bool.false_eq_true, if_false]
  have hne : FILT.CADDR.TAP ∉ [FILT.CDATA.COEF s.coefBank] := by simp [FILT.CADDR.TAP, FILT.CDATA.COEF]
  have hset : Same [] [FILT.CDATA.COEF s.coefBank] s u := State.set_frame [] s _ _ (List.mem_singleton_self _)
  obtain ⟨htap, hframe⟩ := State.tapNext_after hset hne
  rw [ht]
  refine ⟨htap, ?_, hframe.mono nofun (by simp [or_comm])⟩
  rw [u.tapNext_frame.get (by simp [FILT.CADDR.TAP, FILT.CDATA.COEF])]
  exact State.get_set_same ..

theorem State.coefWrite_active {s : State} (h : s.setActive = true) (v : Nat) :
    let t := s.coefWrite v
    t.get FILT.CADDR.TAP = (s.get FILT.CADDR.TAP + 1) % 128 ∧ t.on FILT.STATUS.ACTWR = true ∧
      Same [] ([FILT.STATUS.ACTWR, FILT.CADDR.TAP] ++ arrivalOf 0x1F) s t := by
  intro t
  let u := s.raise FILT.STATUS.ACTWR 0x1F
  have ht : t = u.tapNext := by simp only [t, u, State.coefWrite, h, if_true]
  obtain ⟨hon, -, hraise⟩ := s.raise_effect (f := FILT.STATUS.ACTWR) (src := 0x1F) rfl (by decide) rfl
  obtain ⟨htap, hframe⟩ := State.tapNext_after hraise (by decide)
  rw [ht]
  refine ⟨htap, ?_, hframe.mono nofun (by simp [or_left_comm])⟩
  rw [State.on_of_get (u.tapNext_frame.get (by decide))]
  exact hon

/-! ## A slot's binding (R268) -/

theorem slots_frame (s : State) (x : Vector Slot 72) (fs : List Fld) : Same [.slots] fs s { s with slots := x } :=
  .of_flds rfl fun c hc => by
    cases c with
    | slots => simp at hc
    | _ => rfl

theorem nrgBindWrite_next {s : State} (hp : s.power = .on) (p : Proc) (idx : Fin 3) (v : Word) :
    exec (.nrgBindWrite p idx v) s = .next (s.bindWrite (s.nrgSlot (s.copyOf p)) (2 + idx) v.toNat) :=
  next_congr (State.whenOn_on hp)

/-- The cells of BIND, KLO and KHI of a slot, as the register table has them (R295). -/
def bindCells (n : Nat) : Fin 3 → List Cell
  | 0 => [⟨NRG.BIND.QTY n, []⟩, ⟨NRG.BIND.MODE n, []⟩, ⟨NRG.BIND.WT n, []⟩, ⟨NRG.BIND.TEN n, []⟩, ⟨NRG.BIND.QD n, []⟩,
      ⟨NRG.BIND.OWNER n, []⟩]
  | 1 => [⟨NRG.KLO.KFR n, []⟩]
  | 2 => [⟨NRG.KHI.KINT n, []⟩]

theorem cellsOf_bind (n : Nat) (idx : Fin 3) : (cellsOf regsNrg 0x20 (2 + idx) n).getD [] = bindCells n idx := by
  match idx with
  | 0 | 1 | 2 => rfl

/-- A write of a binding register is refused whole (R268). -/
def BindRefused (s : State) (n : Fin 72) (idx : Fin 3) (v : Nat) : Prop :=
  64 ≤ n.val ∨ (idx = 0 ∧ s.bindBad n v = true)

/-- A slot's binding as a write leaves it: stored, and new until the boundary. -/
def State.bound (s : State) (n : Fin 72) (idx : Fin 3) (v : Nat) : State :=
  { s.writeCells (bindCells n idx) v with slots := s.slots.set n { s.slots[n] with newBind := true } }

theorem bindRefused_iff {s : State} {n : Fin 72} {idx : Fin 3} {v : Nat} :
    BindRefused s n idx v ↔ 64 ≤ n.val ∨ (2 + idx.val = 2 ∧ s.bindBad n v = true) := by
  rw [BindRefused, Fin.ext_iff, Nat.add_eq_left]
  rfl

theorem State.bindWrite_refused {s : State} {n : Fin 72} {idx : Fin 3} {v : Nat} (h : BindRefused s n idx v) :
    s.bindWrite n (2 + idx) v = s.flag NRG.STATUS.BINDREF true := if_pos (bindRefused_iff.1 h)

theorem State.bindWrite_stored {s : State} {n : Fin 72} {idx : Fin 3} {v : Nat} (h : ¬ BindRefused s n idx v) :
    s.bindWrite n (2 + idx) v = s.bound n idx v := by
  have hslots : (s.writeCells (bindCells n idx) v).slots = s.slots := (s.writeCells_same _ v).2 .slots nofun
  rw [State.bindWrite, if_neg (mt bindRefused_iff.2 h), cellsOf_bind]
  simp only [State.setSlot, State.bound, hslots]

theorem State.bound_frame (s : State) (n : Fin 72) (idx : Fin 3) (v : Nat) :
    Same [.slots] ((bindCells n idx).map Cell.fld) s (s.bound n idx v) :=
  ((s.writeCells_same _ v).mono nofun fun _ h => h).then (slots_frame ..)

theorem State.bound_bind (s : State) (n : Fin 72) (v : Word) :
    let t := s.bound n 0 v.toNat
    t.get (NRG.BIND.QTY n) = v.toNat / 2 ^ 24 ∧ t.get (NRG.BIND.MODE n) = v.toNat / 2 ^ 22 % 4 ∧
    t.on (NRG.BIND.WT n) = v.getLsbD 21 ∧ t.on (NRG.BIND.TEN n) = v.getLsbD 20 := by
  intro t
  have hn : ((bindCells n 0).map Cell.fld).Nodup := by
    simp [bindCells, NRG.BIND.QTY, NRG.BIND.MODE, NRG.BIND.WT, NRG.BIND.TEN, NRG.BIND.QD, NRG.BIND.OWNER]
  have hget {f : Fld} (hc : ⟨f, []⟩ ∈ bindCells n 0) (ha : f.acc = .rw) : t.get f = field v.toNat f.lo f.w % 2 ^ f.w :=
    s.writeCells_rw (sub := []) v.toNat hn hc ha
  have hv := v.isLt
  refine ⟨?_, ?_, ?_, ?_⟩
  · rw [hget (by simp [bindCells]) rfl]
    simp only [field, NRG.BIND.QTY]
    omega
  · rw [hget (by simp [bindCells]) rfl]
    simp only [field, NRG.BIND.MODE]
    omega
  · rw [State.on, hget (by simp [bindCells]) rfl, getLsbD_eq_bitOf]
    exact field_one_bne ..
  · rw [State.on, hget (by simp [bindCells]) rfl, getLsbD_eq_bitOf]
    exact field_one_bne ..

/-! ## The tariff (R275) -/

theorem tariffWrite_next {s : State} (hp : s.power = .on) (new : BitVec 3) (byCue : Bool) :
    exec (.tariffWrite new byCue) s = .next (s.setTariff new.toNat (if byCue then 0 else 1)) :=
  next_congr (State.whenOn_on hp)

/-- T and the grain of its change, before the change is recorded. -/
def State.tariffShown (s : State) (new : Nat) : State :=
  (s.set NRG.TARIFF.T new).set2 NRG.TSWLO.GLO NRG.TSWHI.GHI s.clock.grain

theorem State.setTariff_same {s : State} {new : BitVec 3} (h : s.get NRG.TARIFF.T = new.toNat) (cause : Nat) :
    s.setTariff new.toNat cause = s := if_pos (h.trans (Nat.mod_eq_of_lt new.isLt).symm)

theorem State.setTariff_changed {s : State} {new : BitVec 3} (h : s.get NRG.TARIFF.T ≠ new.toNat) (cause : Nat) :
    s.setTariff new.toNat cause = (s.tariffShown new.toNat).stageEvent 0x20 1
      [BitVec.ofNat 8 (s.get NRG.TARIFF.T), BitVec.ofNat 8 new.toNat, BitVec.ofNat 8 cause] := by
  have hnew : new.toNat % 8 = new.toNat := Nat.mod_eq_of_lt new.isLt
  simp only [State.setTariff, hnew, h, if_false]
  rfl

theorem State.tariffShown_effect (s : State) (new : BitVec 3) :
    let t := s.tariffShown new.toNat
    t.get NRG.TARIFF.T = new.toNat ∧ t.get2 NRG.TSWLO.GLO NRG.TSWHI.GHI = s.clock.grain % 2 ^ 64 ∧
      Same [] [NRG.TARIFF.T, NRG.TSWLO.GLO, NRG.TSWHI.GHI] s t := by
  intro t
  have hget (f : Fld) : t.get f = if NRG.TSWHI.GHI = f then s.clock.grain / 2 ^ 32 % 2 ^ 32
      else if NRG.TSWLO.GLO = f then s.clock.grain % 2 ^ 32 else (s.set NRG.TARIFF.T new.toNat).get f :=
    State.get_set2 ..
  refine ⟨?_, State.get2_of_halves (hget _) (hget _), ?_⟩
  · exact (hget _).trans ((State.get_set_same ..).trans (Nat.mod_eq_of_lt new.isLt))
  · exact (State.set_frame [] s _ _ (by decide)).then (State.set2_frame [] _ _ _ _ (by decide) (by decide))

/-- An event record staged, with its grain and the first three bytes of its data (R355). -/
theorem State.stageEvent_record (s : State) (unit kind : Nat) (a b c : Byte) :
    ∃ r : JRec, (s.stageEvent unit kind [a, b, c]).jrnl = { s.jrnl with staged := s.jrnl.staged ++ [r] } ∧ r.type = 2 ∧
      r.grain = s.clock.grain ∧ r.body.take 7 = [BitVec.ofNat 8 unit, BitVec.ofNat 8 kind, 0, 0, a, b, c] :=
  ⟨_, rfl, rfl, rfl, rfl⟩

/-! ## The two halves of O30 -/

/-- The registers of the filter chain. -/
theorem filterCommands : Claims.FilterCommands := by
  intro s hp raised
  refine ⟨fun k v => ⟨fun hc => ?absent, fun hc hb => ?cfgref, fun hc hb => ?cfg⟩,
    fun v => ⟨fun h => ?swapref, filtSwap_ordered hp⟩, fun k idx v hc => ?banks,
    fun idx v h => activeBankWrite_illFormed h v s,
    fun v => ⟨?read, s.coefWrite v.toNat, coefDataAccess_write hp v, ?write⟩⟩
  case absent => rw [filtCfgWrite_next hp, State.cfgWrite_absent hc]
  case cfgref =>
    refine ⟨_, ?_, s.raise_effect (f := FILT.STATUS.CFGREF) (src := 0x1F) rfl (by decide) rfl⟩
    rw [filtCfgWrite_next hp, State.cfgWrite_refused hc hb]
  case cfg =>
    refine ⟨_, ?_, s.cfgStored_effect k v⟩
    rw [filtCfgWrite_next hp, State.cfgWrite_stored hc hb]
  case swapref =>
    exact ⟨_, filtSwap_refused hp h, s.raise_effect (f := FILT.STATUS.SWAPREF) (src := 0x1F) rfl (by decide) rfl⟩
  case banks =>
    exact ⟨
      fun hi => ⟨fun hb => activeBankWrite_ch (b := false) hp hc hi hb v,
        fun hb => activeBankWrite_ignored (r := false) hp hc (chRow_mem false) hi hb v⟩,
      fun hi => ⟨fun hb => activeBankWrite_ch (b := true) hp hc hi hb v,
        fun hb => activeBankWrite_ignored (r := false) hp hc (chRow_mem true) hi hb v⟩,
      fun hi hb => activeBankWrite_word (r := false) (b := false) hp hc hi hb v,
      fun hi hb => activeBankWrite_word (r := false) (b := true) hp hc hi hb v,
      fun hi => ⟨fun hb => activeBankWrite_word (r := true) (b := false) hp hc hi hb v,
        fun hb => activeBankWrite_ignored (r := true) hp hc (wordRow_mem true false) hi hb v⟩,
      fun hi hb => activeBankWrite_word (r := true) (b := true) hp hc hi hb v⟩
  case read => exact ⟨_, coefDataAccess_read hp v, s.coefRead_effect _⟩
  case write =>
    cases hset : s.setActive with
    | false =>
      obtain ⟨htap, hstored⟩ := State.coefWrite_stored hset v.toNat
      exact ⟨htap, fun _ => hstored, nofun⟩
    | true =>
      obtain ⟨htap, hactive⟩ := State.coefWrite_active hset v.toNat
      exact ⟨htap, nofun, fun _ => hactive⟩

/-- A write of a binding register is refused whole or stored (R268). -/
theorem nrgBindWrite_effect {s : State} (hp : s.power = .on) (p : Proc) (idx : Fin 3) (v : Word) :
    let n := s.nrgSlot (s.copyOf p)
    ∃ t, exec (.nrgBindWrite p idx v) s = .next t ∧
      (BindRefused s n idx v.toNat → t.on NRG.STATUS.BINDREF = true ∧ Same [] [NRG.STATUS.BINDREF] s t) ∧
      (¬ BindRefused s n idx v.toNat → t = s.bound n idx v.toNat) := by
  intro n
  refine ⟨_, nrgBindWrite_next hp p idx v, fun h => ?_, State.bindWrite_stored⟩
  rw [State.bindWrite_refused h]
  exact ⟨s.on_flag_same true rfl, State.flag_frame [] s _ _ (List.mem_singleton_self _)⟩

/-- The bindings of the slots, and the tariff. -/
theorem bindingsAndTariff : Claims.BindingsAndTariff := by
  intro s hp
  refine ⟨fun p idx v => ?binding, fun new byCue => ⟨fun h => ?same, fun h => ?changed⟩⟩
  case binding =>
    intro n bad all
    obtain ⟨t, hexec, hbad, hgood⟩ := nrgBindWrite_effect hp p idx v
    refine ⟨t, hexec, hbad, fun h => ?_⟩
    obtain rfl := hgood h
    refine ⟨rfl, ?_, ?_, ?_⟩
    · rintro rfl
      obtain ⟨hqty, hmode, hwt, hten⟩ := s.bound_bind n v
      exact ⟨hqty, hmode, hwt, hten, s.bound_frame n 0 v.toNat⟩
    · rintro rfl
      exact ⟨(s.writeCells_word (f := NRG.KLO.KFR n) rfl rfl rfl v).1, s.bound_frame n 1 v.toNat⟩
    · rintro rfl
      exact ⟨(s.writeCells_word (f := NRG.KHI.KINT n) rfl rfl rfl v).1, s.bound_frame n 2 v.toNat⟩
  case same => rw [tariffWrite_next hp, State.setTariff_same h]
  case changed =>
    obtain ⟨htariff, hgrain, hframe⟩ := s.tariffShown_effect new
    obtain ⟨r, hjrnl, htype, hat, hbody⟩ := (s.tariffShown new.toNat).stageEvent_record 0x20 1
      (BitVec.ofNat 8 (s.get NRG.TARIFF.T)) (BitVec.ofNat 8 new.toNat) (BitVec.ofNat 8 (if byCue then 0 else 1))
    have hcause : BitVec.ofNat 8 (if byCue then 0 else 1) = if byCue then (0 : Byte) else 1 := by cases byCue <;> rfl
    refine ⟨_, r, (tariffWrite_next hp new byCue).trans (next_congr (State.setTariff_changed h _)), htariff, hgrain,
      hjrnl, htype, hat, hbody.trans (by rw [hcause]; rfl), ?_⟩
    exact (hframe.mono nofun fun _ h => h).then (State.stageEvent_frame ..)

/-- Settles O30: it holds, by the registers of the filter chain and by those of the slots and the tariff. -/
theorem filtersBindingsTariff : Obligations.FiltersBindingsTariff := ⟨filterCommands, bindingsAndTariff⟩

end Sys2Proof.Machine

namespace Sys2Proof.Machine
open Sys2Proof.Claims

/-! SUPPORT. Vectors and multiply-accumulates: rounding, clamping, elements (R177, R178, R211, R212, R215). -/

/-! ## Rounding and clamping (R177, R178) -/

theorem clampI_eq {lo hi : Int} (h : lo ≤ hi) (x : Int) : clampI lo hi x = max lo (min hi x) := by
  unfold clampI
  split_ifs <;> omega

theorem sat32_fst (x : Int) : (sat32 x).1 = satW x := by
  rw [sat32, satW, clampI_eq (by decide)]

theorem sat32_snd (x : Int) : (sat32 x).2 = overW x := by
  rw [sat32, overW, ← Bool.decide_or]
  exact decide_eq_decide.2 (or_congr_right Int.sub_one_lt_iff.symm)

theorem accClamp_fst (x : Int) : (accClamp x).1 = satA x := by
  rw [accClamp, satA, clampI_eq (by decide)]

theorem accClamp_snd (x : Int) : (accClamp x).2 = overA x := by
  rw [accClamp, overA, ← Bool.decide_or]
  exact decide_eq_decide.2 (or_congr_right Int.sub_one_lt_iff.symm)

/-- The quotient lies below or above by less than one, and `rneDiv` takes the nearer, the even one of a tie. -/
theorem rneDiv_nearest (x : Int) (n : Nat) : Nearest x n (rneDiv x (2 ^ n)) := by
  have hd : (0 : Int) < 2 ^ n := by positivity
  have hdiv := Int.mul_ediv_add_emod x (2 ^ n)
  have hr := Int.emod_nonneg x hd.ne'
  have hlt := Int.emod_lt_of_pos x hd
  have below : |x - x / 2 ^ n * 2 ^ n| = x % 2 ^ n := by
    rw [show x - x / 2 ^ n * 2 ^ n = x % 2 ^ n by linarith, abs_of_nonneg hr]
  have above : |x - (x / 2 ^ n + 1) * 2 ^ n| = 2 ^ n - x % 2 ^ n := by
    rw [show x - (x / 2 ^ n + 1) * 2 ^ n = -(2 ^ n - x % 2 ^ n) by linarith, abs_neg, abs_of_pos (by linarith)]
  simp only [rneDiv, Nearest, Nat.cast_pow, Nat.cast_ofNat]
  split_ifs
  · rw [below]; omega
  · rw [above]; omega
  · rw [below]; omega
  · rw [above]; omega

/-! ## Vectors, element by element (R211) -/

theorem toInt_le_iff (u v : Word) : u.toInt ≤ v.toInt ↔ u.slt v = true ∨ u = v := by
  rw [BitVec.slt_iff_toInt_lt, ← BitVec.toInt_inj, le_iff_lt_or_eq]

theorem ite_slt_left (u v : Word) : (if u.slt v then u else v) = if u.toInt ≤ v.toInt then u else v := by
  by_cases he : u = v
  · rw [he, ite_self, ite_self]
  · simp only [toInt_le_iff, he, or_false]

theorem ite_slt_right (u v : Word) : (if u.slt v then v else u) = if u.toInt ≤ v.toInt then v else u := by
  by_cases he : u = v
  · rw [he, ite_self, ite_self]
  · simp only [toInt_le_iff, he, or_false]

theorem el_vmap2 (f : Word → Word → Word) (u v : Vec) (i : Fin 4) : el (vmap2 f u v) i = f (el u i) (el v i) :=
  el_vec4 (fun i => f (el u i) (el v i)) i

@[simp] theorem sticky_false (fl : Word) (i : Nat) : sticky fl i false = fl := rfl

@[simp] theorem Regs.bank_stick (r : Regs) (i : Nat) (c : Bool) :
    (r.stick i c).bank = { r.bank with fl := sticky r.bank.fl i c } := Regs.bank_setFl ..

section
variable {s : State} {p : Proc} {c : Instr} {d a b : Fin 16}

/-- A function of the elements that cannot clamp. -/
theorem valu0_computes {f : Word → Word → Word} (h : s.Executes p 1) (he : exec c s = .next (s.valu0 p d a b f)) :
    Computes c p 1 s (putV (s.bankOf p) d (vmap2 f (s.bankOf p).v[a] (s.bankOf p).v[b])) := by
  rw [State.valu0, State.valu] at he
  refine Computes.of_regOp _ h he ?_
  rw [Regs.bank_stick, show vany2 (fun _ _ => false) _ _ = false from rfl, sticky_false]
  rfl

/-- A function of the elements that holds an exact value to 32 bits: SAT where one of the four does not fit. -/
theorem valuSat_computes {f : Word → Word → Int} (h : s.Executes p 1) (he : exec c s = .next (s.valuSat p d a b f)) :
    let z := fun i : Fin 4 => f (el (s.bankOf p).v[a] i) (el (s.bankOf p).v[b] i)
    ComputesFl c p 1 s (putV (s.bankOf p) d (vmap2 (fun u v => satW (f u v)) (s.bankOf p).v[a] (s.bankOf p).v[b]))
      [(8, (s.bankOf p).fl.getLsbD 8 || overW (z 0) || overW (z 1) || overW (z 2) || overW (z 3))] := by
  intro z
  have hflags := sticky_are (s.bankOf p).fl 8 (overW (z 0) || overW (z 1) || overW (z 2) || overW (z 3)) (by omega)
  simp only [← Bool.or_assoc] at hflags
  rw [State.valuSat, State.valu] at he
  refine ComputesFl.of_regOp _ h he hflags ?_
  simp only [Regs.bank_stick, Regs.bank_setV, putV_fl, sat32_fst, sat32_snd]
  rfl

end

/-- Settles O4: each function of VALU is one of the two kinds. -/
theorem vectorElements : Obligations.VectorElements := by
  intro s p d a b x h B A C plain held
  have of_valu0 {c : Instr} {f : Word → Word → Word} (he : exec c s = .next (s.valu0 p d a b f)) : plain c f :=
    ⟨_, el_vmap2 f A C, valu0_computes h he⟩
  have of_shift {c : Instr} (f : Word → Word) (he : exec c s = .next (s.valu0 p d a a fun u _ => f u)) :
      plain c fun u _ => f u := ⟨_, el_vmap2 (fun u _ => f u) A A, valu0_computes h he⟩
  have of_valuSat {c : Instr} (f : Word → Word → Int) (he : exec c s = .next (s.valuSat p d a b f)) :
      held c fun u v z => z = f u v :=
    ⟨_, fun i => f (el A i) (el C i), fun i => ⟨rfl, el_vmap2 _ A C i⟩, valuSat_computes h he⟩
  refine ⟨of_valu0 rfl, of_valu0 rfl, of_valu0 rfl, of_valu0 rfl, of_valu0 rfl, of_valu0 rfl, ?min, ?max,
    of_shift (· <<< x.val) rfl, of_shift (·.sshiftRight x.val) rfl, of_valuSat (fun u v => u.toInt + v.toInt) rfl,
    of_valuSat (fun u v => u.toInt - v.toInt) rfl, ?mul, ?abs⟩
  case min => simpa only [ite_slt_left] using of_valu0 (c := .vmin p d a b) rfl
  case max => simpa only [ite_slt_right] using of_valu0 (c := .vmax p d a b) rfl
  case mul =>
    exact ⟨_, fun i => qmulRaw (el A i) (el C i), fun i => ⟨rneDiv_nearest _ 31, el_vmap2 _ A C i⟩,
      valuSat_computes (f := qmulRaw) h rfl⟩
  case abs =>
    exact ⟨_, fun i => ((el A i).toInt.natAbs : Int), fun i => ⟨(Int.abs_eq_natAbs _).symm, el_vmap2 _ A A i⟩,
      valuSat_computes (f := fun u _ => (u.toInt.natAbs : Int)) h rfl⟩

/-! ## Multiply-accumulates (R178, R212, R215) -/

/-- An instruction that adds t to an accumulator: held to its range, AOV where it did not fit (R178). -/
theorem addAcc_computes {s : State} {p : Proc} {c : Instr} {d : Fin 8} {f : Regs → Int} {t : Int} (h : s.Executes p 1)
    (he : exec c s = .next (s.regOp p 1 fun r => r.addAcc d (f r))) (ht : f ⟨s.bankOf p, []⟩ = t) :
    let z := ((s.bankOf p).acc[d]).toInt + t
    ComputesFl c p 1 s (putA (s.bankOf p) d (satA z)) [(9, (s.bankOf p).fl.getLsbD 9 || overA z)] := by
  subst ht
  refine ComputesFl.of_regOp _ h he (sticky_are _ 9 _ (by omega)) ?_
  rw [Regs.addAcc, Regs.stick, Regs.bank_setFl, Regs.bank_setA, accClamp_fst, accClamp_snd]
  rfl

/-- The raw value of a product is its exact multiple, or the nearest one where bits fall away (R178). -/
theorem macRaw_scaled (integer : Bool) (q : Int) (x : Nat) :
    if integer then macRaw integer q x = q * 2 ^ (x + 32)
    else if 30 ≤ x then macRaw integer q x = q * 2 ^ (x - 30) else Nearest q (30 - x) (macRaw integer q x) := by
  cases integer with
  | true => rfl
  | false =>
    by_cases h : 30 ≤ x
    · simp only [macRaw, h, Bool.false_eq_true, if_false, if_true]
    · simp only [macRaw, h, Bool.false_eq_true, if_false, rneDiv_nearest]

theorem dot_eq_sum (u v : Vec) :
    dot u v = ((List.finRange 4).map fun i => (el u i).toInt * (el v i).toInt).sum := by
  simp only [dot, List.finRange_succ, List.finRange_zero, List.map_cons, List.map_nil, List.sum_cons, List.sum_nil]
  rw [add_zero, ← add_assoc, ← add_assoc]
  rfl

/-- Settles O5: all eight add the raw value of their product, or its negative, to the accumulator. -/
theorem multiplyAccumulate : Obligations.MultiplyAccumulate := by
  intro s p d x h B scaled does
  have of_add {c : Instr} (integer : Bool) {q : Int} {f : Regs → Int}
      (he : exec c s = .next (s.regOp p 1 fun r => r.addAcc d (f r)))
      (hf : f ⟨B, []⟩ = macRaw integer q x) : does c integer 1 q :=
    ⟨_, macRaw_scaled integer q x, addAcc_computes h he (by rw [hf, one_mul])⟩
  have of_sub {c : Instr} (integer : Bool) {q : Int} {f : Regs → Int}
      (he : exec c s = .next (s.regOp p 1 fun r => r.addAcc d (f r)))
      (hf : f ⟨B, []⟩ = -macRaw integer q x) : does c integer (-1) q :=
    ⟨_, macRaw_scaled integer q x, addAcc_computes h he (by rw [hf, neg_one_mul])⟩
  refine ⟨fun a b => ?_, fun a b => ?_⟩
  · exact ⟨of_add false rfl rfl, of_add true rfl rfl, of_sub false rfl rfl, of_sub true rfl rfl⟩
  · simp only [← dot_eq_sum]
    exact ⟨of_add false rfl rfl, of_add true rfl rfl, of_sub false rfl rfl, of_sub true rfl rfl⟩

end Sys2Proof.Machine

namespace Sys2Proof.Machine
open Sys2Proof.Claims

/-! SUPPORT. Hardware loops (R188, R216). -/

/-- Goes, from the body of a meaning that jumps. -/
theorem Goes.of_instr {c : Instr} {p : Proc} {cost : Nat} {s : State} {b : Bank} {pc : Word} {loops : List Loop}
    {body : State → Regs → Except Trap Eff} {r : Regs} (h : s.Executes p cost)
    (he : exec c s = .next (s.instr p cost body)) (hb : body s ⟨s.bankOf p, []⟩ = .ok ⟨r, s, some pc, loops⟩)
    (hr : r.bank = b) : Goes c p cost s b pc loops := by
  refine ⟨_, he, ?_⟩
  rw [State.instr_ok h hb]
  exact hr ▸ State.setRun_ran s p cost r _ _

/-- An instruction that only computes goes on where the loop stack says. -/
theorem Computes.goes {c : Instr} {p : Proc} {cost : Nat} {s : State} {b : Bank} {pc : Word} {loops : List Loop}
    (h : Computes c p cost s b) (hn : nextPc (s.pcOf p) (s.loopsOf p) = (pc, loops)) : Goes c p cost s b pc loops := by
  rwa [Computes, Acts, State.flow, hn] at h

theorem nop_computes {s : State} {p : Proc} (h : s.Executes p 1) : Computes (.nop p) p 1 s (s.bankOf p) :=
  Computes.of_regOp id h rfl rfl

/-! ## The end of a body (R216) -/

/-- The entries whose last iteration ends here are popped. -/
theorem nextPc_append {pc : Word} {out : List Loop} (h : ∀ o ∈ out, o.last = pc ∧ o.n ≤ 1) (ls : List Loop) :
    nextPc pc (out ++ ls) = nextPc pc ls := by
  induction out with
  | nil => rfl
  | cons o out ih =>
    obtain ⟨hlast, hn⟩ := h o (List.mem_cons_self ..)
    rw [List.cons_append, nextPc, if_pos hlast, if_neg (by omega)]
    exact ih fun x hx => h x (List.mem_cons_of_mem _ hx)

theorem nextPc_inside {pc : Word} {l : Loop} (h : l.last ≠ pc) (ls : List Loop) :
    nextPc pc (l :: ls) = (pc + 4, l :: ls) := by
  rw [nextPc, if_neg h]

theorem nextPc_again {pc : Word} {l : Loop} (h : l.last = pc) (hn : 1 < l.n) (ls : List Loop) :
    nextPc pc (l :: ls) = (l.first, { l with n := l.n - 1 } :: ls) := by
  rw [nextPc, if_pos h, if_pos hn]

/-! ## LOOP (R188) -/

/-- The count that LOOP runs its body. -/
theorem loop_count (k : Bool) (x n : Nat) :
    (if (k && !(k && decide (n < x))) = true then x else n) = if k then min x n else n := by
  cases k with
  | false => rfl
  | true => by_cases h : n < x <;> simp [h] <;> omega

section
variable {s : State} {p : Proc} {k : Bool} {a : Fin 32} {cnt : BitVec 12} {len : BitVec 8} {n : Nat} {above : Bool}
  (hn : (if k then min (valS (s.bankOf p) a).toNat (cnt.toNat + 1) else cnt.toNat + 1) = n)
  (ha : (k && decide (cnt.toNat + 1 < (valS (s.bankOf p) a).toNat)) = above)
include hn ha

theorem loop_skips (h : s.Executes p 1) (h0 : n = 0) :
    Goes (.loop p k a cnt len) p 1 s { s.bankOf p with fl := sticky (s.bankOf p).fl 12 above }
      (s.pcOf p + BitVec.ofNat 32 (4 * (len.toNat + 1)) + 4) (s.loopsOf p) := by
  refine Goes.of_instr (r := (Regs.mk (s.bankOf p) []).stick 12 above) h rfl ?_ (Regs.bank_stick ..)
  dsimp only
  rw [Regs.sr_eq, loop_count, hn, ha, if_pos h0, add_right_comm]

theorem loop_pushes (h : s.Executes p 1) (h0 : 0 < n) :
    Goes (.loop p k a cnt len) p 1 s { s.bankOf p with fl := sticky (s.bankOf p).fl 12 above } (s.pcOf p + 4)
      (⟨s.pcOf p + 4, s.pcOf p + BitVec.ofNat 32 (4 * (len.toNat + 1)), n⟩ :: s.loopsOf p) := by
  refine Goes.of_instr (r := (Regs.mk (s.bankOf p) []).stick 12 above) h rfl ?_ (Regs.bank_stick ..)
  dsimp only
  rw [Regs.sr_eq, loop_count, hn, ha, if_neg h0.ne', add_right_comm, add_sub_cancel_right]

end

/-- Settles O7: LOOP by its count, the flow of NOP by the entries that end with it. -/
theorem hardwareLoops : Obligations.HardwareLoops := by
  intro s p h B pc
  refine ⟨?loop, fun out l ls hs hout => ?flow, fun hout => ?out⟩
  case loop =>
    intro k a cnt len x most n clamped first last
    exact ⟨_, sticky_are B.fl 12 clamped (by omega), loop_skips rfl rfl h, loop_pushes rfl rfl h⟩
  case flow =>
    have hpop : nextPc pc (s.loopsOf p) = nextPc pc (l :: ls) := hs ▸ nextPc_append hout _
    exact ⟨fun hl => (nop_computes h).goes (hpop.trans (nextPc_inside hl ls)),
      fun hl hn => (nop_computes h).goes (hpop.trans (nextPc_again hl hn ls))⟩
  case out =>
    refine (nop_computes h).goes ?_
    rw [← List.append_nil (s.loopsOf p), nextPc_append hout, nextPc]

end Sys2Proof.Machine

namespace Sys2Proof.Machine
open Sys2Proof.Claims

/-! SUPPORT. Control-status registers (R196, R227), stream takes and increments (R190, R220, R221), the pair's reads (R195),
MEXT and BSWAP (R225, R226). -/

/-! ## Control-status registers (R196, R227) -/

section
variable {s : State} {c : Fin 2} {d a i : Fin 32} {k : Instr} {f : Nat → Nat → Option Nat}

theorem csr_faults (he : s.Executes (.cc c) 1) (hx : exec k s = s.csrOp (.cc c) d a i f)
    (hi : cellsOf regsCsr (0x100 + c) i 0 = none) : Faults k (.cc c) s ⟨0x06, 0xFF, none⟩ := by
  refine Faults.of_instr he hx ?_
  simp only [State.csrRead, hi]
  rfl

/-- What an instruction reads of a control-status register, and what it leaves in it. -/
theorem csr_acts {cs : List Cell} {old : Nat} (he : s.Executes (.cc c) 1) (hx : exec k s = s.csrOp (.cc c) d a i f)
    (hi : cellsOf regsCsr (0x100 + c) i 0 = some cs)
    (ho : (if i.val = 0 then c.val else if i.val = 8 then s.clock.now % 2 ^ 32 else s.readCells cs) = old) :
    Acts k (.cc c) 1 s
      (match f old (valS (s.bankOf (.cc c)) a).toNat with
        | some v => (s.csrLatch c i).writeCells cs v
        | none => s.csrLatch c i)
      (putS (s.bankOf (.cc c)) d (BitVec.ofNat 32 old)) := by
  refine Acts.of_instr he hx ?_ (Regs.bank_setS ⟨s.bankOf (.cc c), []⟩ d _)
  simp only [State.csrRead, hi, ho, Regs.sr_eq]
  cases f old (valS (s.bankOf (.cc c)) a).toNat <;> rfl

end

/-- Settles O10: an undefined index faults, a defined one is read and written by its cells. -/
theorem controlStatusRegisters : Obligations.ControlStatusRegisters := by
  intro s c d a i he p B x
  have hread : exec (.csrRead p d i) s = s.csrOp p d 0 i fun _ _ => none := rfl
  have hwrite : exec (.csrWrite p d a i) s = s.csrOp p d a i fun _ v => some v := rfl
  have hset : exec (.csrSet p d a i) s = s.csrOp p d a i fun old v => some (old ||| v) := rfl
  have hclear : exec (.csrClear p d a i) s = s.csrOp p d a i fun old v => some (old &&& (2 ^ 32 - 1 - v)) := rfl
  refine ⟨fun hi => ?faults, fun cs hi => ?acts⟩
  case faults =>
    simp only [List.forall_mem_cons, List.not_mem_nil, false_imp_iff, implies_true, and_true]
    exact ⟨csr_faults he hread hi, csr_faults he hwrite hi, csr_faults he hset hi, csr_faults he hclear hi⟩
  case acts =>
    exact ⟨csr_acts he hread hi rfl, csr_acts he hwrite hi rfl, csr_acts he hset hi rfl, csr_acts he hclear hi rfl⟩

/-! ## Stream takes (R190, R220) -/

/-- What a take reads: an invalid or missing sample is zero. -/
def smpValue : Option Smp → Word
  | some y => if y.inv then 0 else y.val
  | none => 0

/-- A take finds no valid sample. -/
def smpMissing : Option Smp → Bool
  | some y => y.inv
  | none => true

/-- A take finds a valid sample that is marked. -/
def smpMarked : Option Smp → Bool
  | some y => !y.inv && decide (y.marks ≠ 0)
  | none => false

theorem Streams.take_eq (b : Streams) (st : Stream) (ch i : Nat) :
    b.take st ch i = (smpValue (b.sample st ch i), smpMarked (b.sample st ch i), smpMissing (b.sample st ch i)) := by
  unfold Streams.take
  cases b.sample st ch i with
  | none => rfl
  | some y => cases h : y.inv <;> simp [smpValue, smpMarked, smpMissing, h]

@[simp] theorem Regs.bank_marks (r : Regs) (mrk inv : Bool) :
    (r.marks mrk inv).bank = { r.bank with fl := sticky (sticky r.bank.fl flMRK mrk) flINV inv } := by
  rw [Regs.marks, Regs.bank_stick, Regs.bank_stick]

/-- MRK and INV are sticky (R179). -/
theorem marks_are (fl : Word) (mrk inv : Bool) : FlagsAre fl (sticky (sticky fl flMRK mrk) flINV inv)
    [(13, fl.getLsbD 13 || inv), (14, fl.getLsbD 14 || mrk)] :=
  ((FlagsAre.refl fl).stick 14 mrk (by omega) rfl).stick 13 inv (by omega) rfl

theorem any_map_four {α : Type} (f : Fin 4 → α) (g : α → Bool) :
    ((List.finRange 4).map f).any g = (g (f 0) || g (f 1) || g (f 2) || g (f 3)) := by
  simp only [List.finRange_succ, List.finRange_zero, List.map_cons, List.map_nil, List.any_cons, List.any_nil,
    Bool.or_false, Bool.or_assoc]
  rfl

section
variable {s : State} {n : Fin 5} {st : Stream} {i : Fin 512} {a : Fin 32} {c : Instr} {span j : Nat}
  {wr : Regs → Nat → Regs} (hj : i.val + (valS (s.bankOf (.lane n)) a).toNat = j)
include hj

theorem stream_faults (he : s.Executes (.lane n) 2) (hx : exec c s = .next (s.streamOp (.lane n) st i a span wr))
    (hs : streamSize st < j + span) : Faults c (.lane n) s ⟨0x08, 0xFF, none⟩ := by
  refine Faults.of_instr he hx ?_
  simp only [Regs.index, Regs.sr_eq, hj, hs, if_true]
  rfl

theorem stream_acts {b : Bank} (he : s.Executes (.lane n) 2)
    (hx : exec c s = .next (s.streamOp (.lane n) st i a span wr)) (hs : j + span ≤ streamSize st)
    (hb : (wr ⟨s.bankOf (.lane n), []⟩ j).bank = b) : Computes c (.lane n) 2 s b := by
  refine Acts.of_instr he hx ?_ hb
  simp only [Regs.index, Regs.sr_eq, hj, Nat.not_lt.2 hs, if_false]

/-- One take into a scalar register. -/
theorem stg_computes {d : Fin 32} {ch : Fin 24} (he : s.Executes (.lane n) 2) (hs : j + 1 ≤ streamSize st) :
    let x := s.streams.sample st ch j
    ComputesFl (.stg (.lane n) d ch st i a) (.lane n) 2 s (putS (s.bankOf (.lane n)) d (smpValue x))
      [(13, (s.bankOf (.lane n)).fl.getLsbD 13 || [x].any smpMissing),
       (14, (s.bankOf (.lane n)).fl.getLsbD 14 || [x].any smpMarked)] := by
  intro x
  simp only [List.any_cons, List.any_nil, Bool.or_false]
  refine ⟨_, by rw [putS_fl]; exact marks_are _ (smpMarked x) (smpMissing x), stream_acts hj he rfl hs ?_⟩
  simp only [Streams.take_eq, Regs.bank_marks, Regs.bank_setS, putS_fl, x]

/-- Four takes into a vector register, each on its own. -/
theorem takeFour_computes {d : Fin 16} {ch k : Nat → Nat → Nat} (he : s.Executes (.lane n) 2)
    (hx : exec c s =
      .next (s.streamOp (.lane n) st i a span fun r j => takeFour s.streams st r d (ch j) (k j)))
    (hs : j + span ≤ streamSize st) :
    let x := fun e : Fin 4 => s.streams.sample st (ch j e) (k j e)
    ∃ v, (∀ e, el v e = smpValue (x e)) ∧ ComputesFl c (.lane n) 2 s (putV (s.bankOf (.lane n)) d v)
      [(13, (s.bankOf (.lane n)).fl.getLsbD 13 || ((List.finRange 4).map x).any smpMissing),
       (14, (s.bankOf (.lane n)).fl.getLsbD 14 || ((List.finRange 4).map x).any smpMarked)] := by
  intro x
  simp only [any_map_four]
  refine ⟨_, el_vec4 fun e => smpValue (x e), _, marks_are _ _ _, stream_acts hj he hx hs ?_⟩
  simp only [takeFour, Streams.take_eq, Regs.bank_marks, Regs.bank_setV, putV_fl]
  rfl

end

/-- The indices of a stream are those the statement lists (R190). -/
theorem streamTakes : Claims.StreamTakes := by
  intro s n ch st i a he p B j size value missing marked flags
  have hsize : size = streamSize st := by cases st <;> rfl
  refine ⟨fun d => ⟨fun h => ?stg, fun h => ?stgOut⟩, fun d hch => ?stvc, fun d => ?stvi⟩
  case stg => exact stg_computes rfl he (hsize ▸ h)
  case stgOut => exact stream_faults rfl he rfl (hsize ▸ Nat.lt_succ_of_le h)
  case stvc =>
    have hx : exec (.stvc p d ch st i a) s = .next (s.streamOp p st i a 1 fun r k =>
      takeFour s.streams st r d (fun e => ch + e) (fun _ => k)) := if_neg (Nat.not_lt.2 hch)
    exact ⟨fun h => takeFour_computes rfl he hx (hsize ▸ h),
      fun h => stream_faults rfl he hx (hsize ▸ Nat.lt_succ_of_le h)⟩
  case stvi =>
    have hx : exec (.stvi p d ch st i a) s = .next (s.streamOp p st i a 4 fun r k =>
      takeFour s.streams st r d (fun _ => ch) (fun e => k + e)) := rfl
    exact ⟨fun h => takeFour_computes rfl he hx (hsize ▸ h),
      fun h => stream_faults rfl he hx (hsize ▸ Nat.lt_succ_of_le h)⟩

/-! ## Increments (R221) -/

section
variable {s : State} {n : Fin 5} {d : Fin 32} {a : Fin 8} {x : Fin 64}

theorem State.slotOwner_quantity (s : State) (x : Fin 64) : s.slotOwner x = s.eff (NRG.BIND.OWNER x) :=
  if_neg (Nat.not_le.2 x.isLt)

theorem jacc_unbound (he : s.Executes (.lane n) 4) (ho : s.eff (NRG.BIND.OWNER x) = 0xF) :
    Computes (.jacc (.lane n) d a x) (.lane n) 4 s (putS (s.bankOf (.lane n)) d 1) := by
  refine Acts.of_instr he rfl ?_ (Regs.bank_setS ⟨s.bankOf (.lane n), []⟩ d _)
  simp only [State.slotOwner_quantity, ho, if_true]

theorem jacc_foreign (he : s.Executes (.lane n) 4) (hb : s.eff (NRG.BIND.OWNER x) ≠ 0xF)
    (ho : s.eff (NRG.BIND.OWNER x) ≠ s.ownerCode n) :
    Computes (.jacc (.lane n) d a x) (.lane n) 4 s (putS (s.bankOf (.lane n)) d 2) := by
  refine Acts.of_instr he rfl ?_ (Regs.bank_setS ⟨s.bankOf (.lane n), []⟩ d _)
  simp only [State.slotOwner_quantity, hb, if_false, ho, if_true, ne_eq, not_false_eq_true]

theorem jacc_taken (he : s.Executes (.lane n) 4) (hb : s.eff (NRG.BIND.OWNER x) ≠ 0xF)
    (ho : s.eff (NRG.BIND.OWNER x) = s.ownerCode n) :
    let B := s.bankOf (.lane n)
    Acts (.jacc (.lane n) d a x) (.lane n) 4 s
      (s.setLane n ((s.lane n).addInc ⟨x, (B.acc[a]).toInt, B.fl.getLsbD 14, B.fl.getLsbD 13⟩))
      (putS (putA B a 0) d 0) := by
  intro B
  refine Acts.of_instr (r := ((Regs.mk B [.jacc x (B.acc[a]).toNat (B.fl.getLsbD 14) (B.fl.getLsbD 13)]).setA a 0).setS d 0)
    he rfl ?_ (by rw [Regs.bank_setS, Regs.bank_setA])
  simp only [State.slotOwner_quantity]
  rw [if_neg hb, if_neg (not_not.2 ho)]
  rfl

end

theorem handingOverIncrements : Claims.HandingOverIncrements := by
  intro s n d a x he p B l owner mine
  exact ⟨jacc_unbound he, jacc_foreign he, jacc_taken he⟩

/-- Settles O14: the takes of a lane, and what JACC hands over. -/
theorem streamsAndIncrements : Obligations.StreamsAndIncrements := ⟨streamTakes, handingOverIncrements⟩

/-! ## What the pair reads (R195) -/

section
variable {s : State} {n : Fin 5} {f : State → Word × State}

/-- What was served for a member of the pair is taken first. -/
theorem State.serve_inbox {v : Word} {rest : List Word} (h : (s.lane n).inbox = v :: rest) :
    s.serve (.lane n) f = (v, s.setLane n { s.lane n with inbox := rest }) := by
  simp only [State.serve, h]

/-- The first member that asks is served, and leaves the value for the other where no standby is. -/
theorem State.serve_first (hp : s.inPair n = true) (hs : s.standIn n = false) (hi : (s.lane n).inbox = [])
    (hb : 5 ≤ s.get SYS.LANE.STBY) :
    let k := (f s).2.lane (s.partner n)
    s.serve (.lane n) f = ((f s).1, (f s).2.setLane (s.partner n) { k with inbox := k.inbox ++ [(f s).1] }) := by
  have halso : s.alsoServed n = [s.partner n] := by
    simp only [State.alsoServed, hp, if_true, dif_neg (Nat.not_lt.2 hb)]
  simp only [State.serve, hi, hs, halso, List.foldl_cons, List.foldl_nil, Bool.false_eq_true, and_false, if_false]

end

/-- UR as the one who serves answers it. -/
theorem ur_served {s m : State} {p : Proc} {d a : Fin 32} {unit reg : Fin 256} {i : Nat} {v : Word}
    (hi : reg.val + (valS (s.bankOf p) a).toNat = i) (he : s.Executes p 2)
    (hc : s.busCheck (s.holder p) unit i none = none)
    (hv : s.serve p (fun s' => (BitVec.ofNat 32 (s'.busRead (s.copyOf p) unit i).1, (s'.busRead (s.copyOf p) unit i).2)) =
      (v, m)) : Acts (.ur p d unit reg a) p 2 s m (putS (s.bankOf p) d v) := by
  refine Acts.of_instr he rfl ?_ (Regs.bank_setS ⟨s.bankOf p, []⟩ d _)
  simp only [Regs.index, Regs.sr_eq, hi, hc, hv]

/-- Settles O16: a value that waits is taken, and where none waits one is read and left for the other. -/
theorem thePairIsServedOnce : Obligations.ThePairIsServedOnce := by
  intro s n d unit reg a he p B i hp hs hc
  exact ⟨fun v rest h => ur_served rfl he hc (State.serve_inbox h),
    fun h hb => ur_served rfl he hc (State.serve_first hp hs h hb)⟩

/-! ## MEXT (R225) -/

theorem extendable_iff (a : Nat) :
    extendable a = true ↔ a + 32 ≤ 0x80000 ∨ (0x10400000 ≤ a ∧ a + 32 ≤ 0x10580000) := by
  simp only [extendable, Bool.or_eq_true, Bool.and_eq_true, decide_eq_true_eq]

theorem regionOf_rom_iff (a : Nat) : regionOf a = .rom ↔ a < 0x80000 := by
  constructor
  · intro h
    have := regionOf_holds a
    rw [h] at this
    exact this
  · exact fun h => if_pos h

theorem State.bytes_eq_map (s : State) (a n : Nat) : s.bytes a n = (List.range n).map fun k => s.byte (a + k) := by
  induction n generalizing a with
  | zero => rfl
  | succ n ih =>
    rw [State.bytes, ih, List.range_succ_eq_map, List.map_cons, List.map_map, Nat.add_zero]
    refine congrArg _ (List.map_congr_left fun k _ => ?_)
    rw [Function.comp, Nat.add_assoc, Nat.add_comm 1 k]

/-- An extension writes one measurement register and its count. -/
theorem State.extend_effect (s : State) (x : Fin 4) (bs : List Byte) :
    let t := s.extend x bs
    t.access.meas[x] = sha256 (s.access.meas[x] ++ bs) ∧ (∀ y, y ≠ x → t.access.meas[y] = s.access.meas[y]) ∧
    { t.access with meas := s.access.meas } = s.access ∧ Same [.access] [ACCESS.MCNT.CNT] s t := by
  have of_count {m : State} (hm : Same [] [ACCESS.MCNT.CNT] s m) :
      let t := m.modAccess fun a => { a with meas := a.meas.set x (sha256 (a.meas[x] ++ bs)) }
      t.access.meas[x] = sha256 (s.access.meas[x] ++ bs) ∧ (∀ y, y ≠ x → t.access.meas[y] = s.access.meas[y]) ∧
      { t.access with meas := s.access.meas } = s.access ∧ Same [.access] [ACCESS.MCNT.CNT] s t := by
    have ha : m.access = s.access := hm.2 .access (by simp)
    have hmod : Same [.access] [ACCESS.MCNT.CNT] m
        (m.modAccess fun a => { a with meas := a.meas.set x (sha256 (a.meas[x] ++ bs)) }) :=
      .of_flds rfl fun c hc => by
        cases c with
        | access => simp at hc
        | _ => rfl
    refine ⟨?_, fun y hy => ?_, ?_, (hm.mono (by simp) fun _ h => h).then hmod⟩
    · simp [State.modAccess, ha]
    · simp [State.modAccess, ha, Fin.val_ne_of_ne hy.symm]
    · simp [State.modAccess, ha]
  unfold State.extend
  dsimp only
  split
  · exact of_count (State.set_frame [] s _ _ (List.mem_singleton_self _))
  · exact of_count (.refl ..)

section
variable {s : State} {c : Fin 2} {x : Fin 4} {a : Fin 32} {v : Word} (hv : valS (s.bankOf (.cc c)) a = v)
include hv

theorem mext_unaligned (he : s.Executes (.cc c) 80) (h : v.toNat % 4 ≠ 0) :
    Faults (.mext (.cc c) x a) (.cc c) s ⟨0x03, 0xFF, some v⟩ := by
  refine Faults.of_instr he rfl ?_
  simp only [Regs.sr_eq, hv, if_pos h]

theorem mext_outside (he : s.Executes (.cc c) 80) (h : v.toNat % 4 = 0) (hi : ¬ extendable v.toNat = true) :
    Faults (.mext (.cc c) x a) (.cc c) s ⟨0x04, 0xFF, some v⟩ := by
  refine Faults.of_instr he rfl ?_
  simp only [Regs.sr_eq, hv, h, ne_eq, not_true_eq_false, if_false, if_pos hi]

theorem mext_reserved (he : s.Executes (.cc c) 80) (h : v.toNat % 4 = 0) (hi : extendable v.toNat = true)
    (hr : x = 0 ∧ regionOf (s.pcOf (.cc c)).toNat ≠ .rom) :
    Faults (.mext (.cc c) x a) (.cc c) s ⟨0x09, 0xFF, none⟩ := by
  refine Faults.of_instr he rfl ?_
  simp only [Regs.sr_eq, hv, h, ne_eq, not_true_eq_false, if_false, hi, if_pos hr]
  rfl

theorem mext_extends (he : s.Executes (.cc c) 80) (h : v.toNat % 4 = 0) (hi : extendable v.toNat = true)
    (hr : ¬ (x = 0 ∧ regionOf (s.pcOf (.cc c)).toNat ≠ .rom)) :
    Acts (.mext (.cc c) x a) (.cc c) 80 s (s.extend x (s.bytes v.toNat 32)) (s.bankOf (.cc c)) := by
  refine Acts.of_instr (r := ⟨s.bankOf (.cc c), []⟩) he rfl ?_ rfl
  simp only [Regs.sr_eq, hv, h, ne_eq, not_true_eq_false, if_false, hi, if_neg hr]

end

/-- The checks in their order, then the extension. -/
theorem measurementExtend : Claims.MeasurementExtend := by
  intro s c x a he p i v m inside
  refine ⟨mext_unaligned rfl he, fun h hi => mext_outside rfl he h (mt (extendable_iff m).1 hi), fun h hi hx hpc => ?rom,
    fun h hi hr => ?good⟩
  case rom =>
    exact mext_reserved rfl he h ((extendable_iff m).2 hi) ⟨hx, mt (regionOf_rom_iff _).1 (Nat.not_lt.2 hpc)⟩
  case good =>
    have hfree : ¬ (x = 0 ∧ regionOf (s.pcOf p).toNat ≠ .rom) := fun ⟨hx, hn⟩ => hn ((regionOf_rom_iff _).2 (hr hx))
    refine ⟨_, mext_extends rfl he h ((extendable_iff m).2 hi) hfree, ?_⟩
    rw [← State.bytes_eq_map]
    exact s.extend_effect x _

/-! ## BSWAP (R226) -/

theorem bswap_acts {s : State} {p : Proc} {a : Fin 32} {toB : Bool} {w : Nat} (he : s.Executes p 1)
    (hw : (valS (s.bankOf p) a).toNat % 2 ^ 24 + 2 ^ 25 * ofB toB = w) :
    Acts (.bswap p a toB) p 1 s (s.unitPost p 0x18 1 .write (BitVec.ofNat 32 w)) (s.bankOf p) := by
  refine Acts.of_instr (r := ⟨s.bankOf p, [writeSig 0x18 1 .write (BitVec.ofNat 32 w)]⟩) he rfl ?_ rfl
  simp only [Regs.sr_eq, hw, List.nil_append]

theorem bankSwapInstruction : Claims.BankSwapInstruction := by
  intro s p a toB he B w
  have hw : (valS B a).toNat % 2 ^ 24 + 2 ^ 25 * ofB toB = w := by cases toB <;> rfl
  have hfits : (BitVec.ofNat 32 w).toNat = w := by
    refine (BitVec.toNat_ofNat ..).trans (Nat.mod_eq_of_lt ?_)
    rw [← hw]
    cases toB <;> simp only [ofB, if_true, Bool.false_eq_true, if_false] <;> omega
  have hact := bswap_acts he hw
  refine ⟨fun n hp hr => ?queued, fun hn => ?now⟩
  case queued =>
    subst hp
    rwa [State.unitPost_roped hr] at hact
  case now =>
    rwa [State.unitPost_unroped hn, State.opValue, hfits] at hact

/-- Settles O19: MEXT by its checks, BSWAP as a write handed over. -/
theorem measurementAndBankSwap : Obligations.MeasurementAndBankSwap := ⟨measurementExtend, bankSwapInstruction⟩

end Sys2Proof.Machine

namespace Sys2Proof.Machine
open Sys2Proof.Claims

/-! SUPPORT. SYS, the two profiles, and what a word spells (R180, R181, R185–R187, R198, R228). -/

/-! ## SYS (R228, R198) -/

section
variable {s : State} {p : Proc}

theorem flr_computes {d : Fin 32} (h : s.Executes p 1) :
    Computes (.flr p d) p 1 s (putS (s.bankOf p) d (s.bankOf p).fl) :=
  Computes.of_regOp (fun r => r.setS d r.fl) h rfl (Regs.bank_setS ..)

theorem flw_computes {a : Fin 32} (h : s.Executes p 1) :
    Computes (.flw p a) p 1 s { s.bankOf p with fl := valS (s.bankOf p) a &&& flMask } :=
  Computes.of_regOp (fun r => r.setFl (r.sr a &&& flMask)) h rfl (Regs.bank_setFl ..)

end

section
variable {s : State} {c : Fin 2}

theorem wait_acts (h : s.Executes (.cc c) 1) :
    Acts (.wait (.cc c)) (.cc c) 1 s (s.setCore c { s.core c with waiting := true }) (s.bankOf (.cc c)) :=
  Acts.of_instr h rfl rfl rfl

theorem trap_faults (h : s.Executes (.cc c) 1) (x : Fin 64) : Faults (.trap (.cc c) x) (.cc c) s ⟨0x0B, 0xFF, none⟩ :=
  Faults.of_instr h rfl rfl

theorem reti_faults (h : s.runs (.cc c) = true) (hh : s.inHandler c = false) :
    Faults (.reti (.cc c)) (.cc c) s ⟨0x02, 0xFF, none⟩ := by
  change Host.Outcome.next (if s.runs (.cc c) = true then _ else _) = _
  rw [if_pos h, if_neg (by simp [hh])]
  rfl

theorem State.svcNext_stays {t : State} (h : (t.core c).run ≠ .idle ∨ (t.core c).newSvc = none) : t.svcNext c = t := by
  unfold State.svcNext
  cases hn : (t.core c).newSvc with
  | none => rfl
  | some pc => exact if_neg fun hi => h.elim (· hi.1) (by simp [hn])

@[simp] theorem State.returnFrom_run : ((s.returnFrom c).core c).run = (s.core c).run := by
  unfold State.returnFrom; split <;> simp

@[simp] theorem State.returnFrom_newSvc : ((s.returnFrom c).core c).newSvc = (s.core c).newSvc := by
  unfold State.returnFrom; split <;> simp

/-- A return at a level with a program to go on with, or with none waiting, is the return alone. -/
theorem reti_next (h : s.runs (.cc c) = true) (hh : s.inHandler c = true)
    (hs : (s.core c).run ≠ .idle ∨ (s.core c).newSvc = none) : exec (.reti (.cc c)) s = .next (s.returnFrom c) := by
  have hstay : (s.returnFrom c).svcNext c = s.returnFrom c := State.svcNext_stays (by simpa using hs)
  change Host.Outcome.next (if s.runs (.cc c) = true then (if s.inHandler c = true then _ else _) else _) = _
  rw [if_pos h, if_pos hh]
  exact congrArg _ hstay

/-- What a return leaves alone (R216, R198). -/
theorem State.returnFrom_keeps (s : State) (c : Fin 2) :
    let t := s.returnFrom c
    (t.core c).loopsBase = (s.core c).loopsBase ∧ (t.core c).shadow = (s.core c).shadow ∧
    (t.core c).bank.s = (s.core c).bank.s ∧ (t.core c).bank.v = (s.core c).bank.v ∧
    (t.core c).bank.acc = (s.core c).bank.acc ∧ ∀ e, e ≠ c → t.core e = s.core e := by
  unfold State.returnFrom
  split <;>
    simp only [State.core_setCore_same, true_and] <;>
    exact fun e he => State.core_setCore_other _ he.symm _

/-- The return from the fast handler (R198). -/
theorem State.returnFrom_fast (h : s.on (CSR.STAT.INFAST c) = true) :
    let t := s.returnFrom c
    t.pcOf (.cc c) = BitVec.ofNat 32 (s.get (CSR.FEPC.PC c)) ∧
    (t.core c).bank.fl = BitVec.ofNat 32 (s.get (CSR.FFL.FL c)) &&& flMask ∧
    (t.core c).loopsMid = (s.core c).loopsMid ∧ t.on (CSR.STAT.INFAST c) = false ∧
    Same [.cores] [CSR.STAT.INFAST c] s t := by
  rw [State.returnFrom, if_pos h]
  refine ⟨by simp [State.pcOf], by simp, by simp, State.on_flag_same s false rfl, ?_⟩
  exact (State.flag_frame _ s _ _ (List.mem_singleton_self _)).then (State.setCore_frame _ _ _ c _ (by simp))

/-- The return from a normal or a fault handler (R198). -/
theorem State.returnFrom_slow (h : s.on (CSR.STAT.INFAST c) = false) :
    let t := s.returnFrom c
    t.pcOf (.cc c) = BitVec.ofNat 32 (s.get (CSR.EPC.PC c)) ∧
    (t.core c).bank.fl = BitVec.ofNat 32 (s.get (CSR.EFL.FL c)) &&& flMask ∧
    t.inHandler c = false ∧ Same [.cores] [CSR.STAT.INFAULT c, CSR.STAT.INNORM c] s t := by
  have hnorm : ((s.flag (CSR.STAT.INNORM c) false).flag (CSR.STAT.INFAULT c) false).on (CSR.STAT.INNORM c) = false :=
    (State.on_flag_other _ _ (by simp [CSR.STAT.INNORM, CSR.STAT.INFAULT])).trans (State.on_flag_same s false rfl)
  have hfast : ((s.flag (CSR.STAT.INNORM c) false).flag (CSR.STAT.INFAULT c) false).on (CSR.STAT.INFAST c) = false := by
    rw [State.on_flag_other _ _ (by simp [CSR.STAT.INFAST, CSR.STAT.INFAULT]),
      State.on_flag_other _ _ (by simp [CSR.STAT.INFAST, CSR.STAT.INNORM]), h]
  rw [State.returnFrom, if_neg (by simp [h])]
  refine ⟨by simp [State.pcOf], by simp, ?_, ?_⟩
  · rw [State.inHandler_setCore, State.inHandler, State.on_flag_same _ false rfl, hnorm, hfast]
    rfl
  · exact ((State.flag_frame _ s _ _ (by simp)).then (State.flag_frame _ _ _ _ (by simp))).then
      (State.setCore_frame _ _ _ c _ (by simp))

end

theorem sysInstructions : Claims.SysInstructions := by
  intro s p B
  refine ⟨fun h => ⟨nop_computes h, fun d => flr_computes h, fun a => flw_computes h⟩, ?core⟩
  rintro c rfl h
  refine ⟨wait_acts h, trap_faults h, reti_faults h.1, fun hh hs => ⟨_, reti_next h.1 hh hs, ?_⟩⟩
  exact ⟨State.returnFrom_fast, State.returnFrom_slow, s.returnFrom_keeps c⟩

/-! ## The profiles (R180, R181) -/

/-- On a core no slice runs out, so what runs executes at any cost (R244). -/
theorem State.Executes.core {s : State} {c : Fin 2} {cost : Nat} (h : s.Executes (.cc c) cost) (cost' : Nat) :
    s.Executes (.cc c) cost' := ⟨h.1, rfl⟩

/-- A stream instruction is none of a core's (R180). -/
theorem stream_faults_core {s : State} {c : Fin 2} {k : Instr} {st : Stream} {i : Fin 512} {a : Fin 32} {span : Nat}
    {wr : Regs → Nat → Regs} (h : s.Executes (.cc c) 2)
    (hx : exec k s = .next (s.streamOp (.cc c) st i a span wr)) : Faults k (.cc c) s ⟨0x02, 0xFF, none⟩ :=
  Faults.of_instr h hx rfl

section
variable {s : State} {d : Fin 32} {x : Fin 64} {op : Nat} {f : State → Fin 12 → Nat × State} {k : Instr}

theorem lease_excluded {n : Fin 5} (hl : leaseX x = false) (hx : exec k s = s.leaseOp (.lane n) d x op f) :
    exec k s = .fault .loaderExcludes := by
  rw [hx, State.leaseOp, if_neg (by simp [hl])]

theorem lease_faults {c : Fin 2} (h : s.Executes (.cc c) 1) (hl : leaseX x = false)
    (hx : exec k s = s.leaseOp (.cc c) d x op f) : Faults k (.cc c) s ⟨0x01, 0xFF, none⟩ := by
  rw [State.leaseOp, if_neg (by simp [hl])] at hx
  exact Faults.of_instr h hx rfl

end

theorem profilesKeepApart : Claims.ProfilesKeepApart := by
  intro s
  refine ⟨?control, ?channel, ?lane, fun d x hx => ?lease⟩
  case control =>
    intro n d a b imm cls nw x m
    simp only [List.forall_mem_cons, List.not_mem_nil, false_imp_iff, implies_true, and_true]
    exact ⟨rfl, rfl, rfl, rfl, rfl, rfl, rfl, rfl, rfl, rfl, rfl⟩
  case channel => exact fun n d ch st i a h => if_pos h
  case lane =>
    intro c d v ch st i a r x h
    refine ⟨stream_faults_core (h.core 2) rfl, stream_faults_core (h.core 2) rfl, fun hch => ?_, fun hch => ?_,
      Faults.of_instr h rfl rfl⟩
    · exact stream_faults_core (h.core 2) (if_neg (Nat.not_lt.2 hch))
    · exact Faults.of_instr (h.core 2) (if_pos hch) rfl
  case lease =>
    have hl : leaseX x = false := decide_eq_false hx
    intro leases
    simp only [leases, List.forall_mem_cons, List.not_mem_nil, false_imp_iff, implies_true, and_true]
    exact ⟨fun n => ⟨lease_excluded hl rfl, lease_excluded hl rfl, lease_excluded hl rfl, lease_excluded hl rfl⟩,
      fun c h => ⟨lease_faults h hl rfl, lease_faults h hl rfl, lease_faults h hl rfl, lease_faults h hl rfl⟩⟩

/-! ## Words (R180, R185–R187) -/

/-- A well-formed command is spelled. -/
def Spells (o : Option Instr) : Prop := ∃ i, o = some i ∧ i.wellFormed = true

theorem legal_eq_some {c : Bool} {d e : QDec} : legal c d = some e ↔ c = true ∧ d = e := by
  cases c <;> simp [legal]

/-! ### The functions that a legal word can name -/

section
variable {d x fn a b : Nat} {e : QDec}

theorem decAlu_fn (h : decAlu x fn b = some e) : fn ≤ 0x13 := by
  unfold decAlu at h
  split_ifs at h with hshift habs
  · simp only [List.mem_cons, List.not_mem_nil, or_false] at hshift
    omega
  · simp only [List.mem_cons, List.not_mem_nil, or_false] at habs
    omega
  · simp only [legal_eq_some, decide_eq_true_eq] at h
    exact h.1.1

theorem decMds_fn (h : decMds x fn b = some e) : fn ≤ 9 := by
  unfold decMds at h
  split_ifs at h
  · omega
  · omega
  · simp only [legal_eq_some, decide_eq_true_eq] at h
    exact h.1.1

theorem decValu_fn (h : decValu d x fn a b = some e) : fn ≤ 0xD := by
  unfold decValu at h
  split_ifs at h with hshift habs
  · simp only [List.mem_cons, List.not_mem_nil, or_false] at hshift
    omega
  · omega
  · simp only [legal_eq_some, Bool.and_eq_true, decide_eq_true_eq] at h
    omega

theorem decVln_fn (h : decVln d x fn a b = some e) : fn ≤ 4 := by
  by_contra hn
  obtain ⟨k, rfl⟩ := Nat.exists_eq_add_of_le' (Nat.not_le.1 hn)
  simp [decVln, legal_eq_some] at h

theorem decAcc_fn (h : decAcc d x fn a b = some e) : fn ≤ 7 := by
  by_contra hn
  obtain ⟨k, rfl⟩ := Nat.exists_eq_add_of_le' (Nat.not_le.1 hn)
  simp [decAcc, legal_eq_some] at h

theorem decSys_fn (h : decSys d x fn a b = some e) : fn ≤ 6 := by
  by_contra hn
  obtain ⟨k, rfl⟩ := Nat.exists_eq_add_of_le' (Nat.not_le.1 hn)
  simp [decSys] at h

end

/-! ### Each of them spells a command -/

section
variable (p : Proc) {n : Nat}

theorem qAlu_spells (d a b x : Fin 32) (h : n ≤ 0x13) : Spells (qAlu p d a b x n) := by
  interval_cases n <;> exact ⟨_, rfl, rfl⟩

theorem qMds_spells (d a b : Fin 32) (h : n ≤ 9) : Spells (qMds p d a b n) := by
  interval_cases n <;> exact ⟨_, rfl, rfl⟩

theorem qValu_spells (d a b : Fin 16) (x : Fin 32) (h : n ≤ 0xD) : Spells (qValu p d a b x n) := by
  interval_cases n <;> exact ⟨_, rfl, rfl⟩

theorem qVmac_spells (d : Fin 8) (a b : Fin 16) (x : Fin 64) (h : n < 4) : Spells (qVmac p d a b x n) := by
  interval_cases n <;> exact ⟨_, rfl, rfl⟩

theorem qMac_spells (d : Fin 8) (a b : Fin 32) (x : Fin 64) (h : n < 4) : Spells (qMac p d a b x n) := by
  interval_cases n <;> exact ⟨_, rfl, rfl⟩

theorem qVln_spells (d a x : Nat) (h : n ≤ 4) : Spells (qVln p d a x n) := by
  interval_cases n <;> exact ⟨_, rfl, rfl⟩

theorem qAcc_spells (d a x : Nat) (h : n ≤ 7) : Spells (qAcc p d a x n) := by
  interval_cases n <;> exact ⟨_, rfl, rfl⟩

/-- A lease names a resource (R222). -/
theorem qLease_spells (d : Fin 32) {x : Nat} (hx : leaseX x = true) (h : n < 4) : Spells (qLease p d (q6 x) n) := by
  have hlt : x < 64 := by simp only [leaseX, decide_eq_true_eq] at hx; omega
  have hr : leaseResource (q6 x) = true := by rwa [show (q6 x).val = x from Nat.mod_eq_of_lt hlt]
  interval_cases n <;> exact ⟨_, rfl, hr⟩

theorem qSys_spells (d a : Fin 32) (x : Fin 64) (h : n ≤ 6) : Spells (qSys p d a x n) := by
  interval_cases n <;> exact ⟨_, rfl, rfl⟩

theorem qCsr_spells (d a : Fin 32) (imm : Nat) (h : n < 4) : Spells (qCsr p d a imm n) := by
  interval_cases n <;> exact ⟨_, rfl, rfl⟩

theorem qB_spells (a b : Fin 32) (off : BitVec 16) (h : 0x1C ≤ n ∧ n ≤ 0x21) : Spells (qB p a b off n) := by
  obtain ⟨hlo, hhi⟩ := h
  interval_cases n <;> exact ⟨_, rfl, rfl⟩

theorem qU_spells (d : Fin 32) (unit reg : Fin 256) (a : Fin 32) (h : 0x28 ≤ n ∧ n ≤ 0x2B) :
    Spells (qU p d unit reg a n) := by
  obtain ⟨hlo, hhi⟩ := h
  interval_cases n <;> exact ⟨_, rfl, rfl⟩

/-- A loop by its own count names no count register (R216). -/
theorem loop_spells {k : Bool} {a : Nat} (cnt : BitVec 12) (len : BitVec 8) (h : (k || a == 0) = true) :
    Spells (some (.loop p k (q5 a) cnt len)) := by
  refine ⟨_, rfl, ?_⟩
  cases k with
  | true => rfl
  | false => rw [show a = 0 by simpa using h]; rfl

/-- Four channels end at channel 23 (R220). -/
theorem qS_spells (d : Nat) {ch : Nat} (strm : Stream) (idx : Fin 512) (a : Fin 32) (h : 0x2C ≤ n ∧ n ≤ 0x2E)
    (hch : n = 0x2D → ch ≤ 20) : Spells (qS p d (Fin.ofNat 24 ch) strm idx a n) := by
  obtain ⟨hlo, hhi⟩ := h
  interval_cases n
  · exact ⟨_, rfl, rfl⟩
  · exact ⟨_, rfl, decide_eq_true ((Nat.mod_le ..).trans (hch rfl))⟩
  · exact ⟨_, rfl, rfl⟩

end

/-! ### The formats -/

section
variable (p : Proc) {op d x fn a b : Nat} {e : QDec}

theorem qT_spells (h : decT op d x fn a b = some e) : Spells (qT p op d x fn a b) := by
  unfold decT at h
  split at h
  · exact qAlu_spells p _ _ _ _ (decAlu_fn h)
  · exact qMds_spells p _ _ _ (decMds_fn h)
  · exact qValu_spells p _ _ _ _ (decValu_fn h)
  · simp only [legal_eq_some, decide_eq_true_eq] at h
    exact qVmac_spells p _ _ _ _ (by omega)
  · exact qVln_spells p _ _ _ (decVln_fn h)
  · exact qAcc_spells p _ _ _ (decAcc_fn h)
  · simp only [legal_eq_some, decide_eq_true_eq] at h
    exact qMac_spells p _ _ _ _ (by omega)
  · exact ⟨_, rfl, rfl⟩
  · exact ⟨_, rfl, rfl⟩
  · simp only [legal_eq_some, Bool.and_eq_true, decide_eq_true_eq] at h
    obtain ⟨⟨⟨_, _, hfn⟩, hx⟩, _⟩ := h
    exact qLease_spells p _ hx hfn
  · exact ⟨_, rfl, rfl⟩
  · exact ⟨_, rfl, rfl⟩
  · exact ⟨_, rfl, rfl⟩
  · exact ⟨_, rfl, rfl⟩
  · exact qSys_spells p _ _ _ (decSys_fn h)
  · cases h

theorem qI_spells {imm : Nat} (memErr : Bool) (h : decI op d imm a = some e) : Spells (qI p op d imm a memErr) := by
  unfold decI at h
  split at h
  case h_14 => cases h
  case h_13 => exact qCsr_spells p _ _ imm (Nat.mod_lt _ (by omega))
  all_goals exact ⟨_, rfl, rfl⟩

end

/-- A legal word spells a well-formed command. -/
theorem qfields_spells (p : Proc) {w : Nat} (memErr : Bool) {e : QDec} (h : qdecode w = some e) :
    Spells (qfields p w memErr) := by
  unfold qdecode at h
  unfold qfields
  dsimp only at h ⊢
  split_ifs at h with himm hloop hbranch hread hwrite hstream
  · rw [if_pos himm]
    exact qI_spells p memErr h
  · rw [if_neg himm, if_pos hloop]
    exact loop_spells p _ _ (legal_eq_some.1 h).1
  · rw [if_neg himm, if_neg hloop, if_pos hbranch]
    exact qB_spells p _ _ _ hbranch
  · rw [if_neg himm, if_neg hloop, if_neg hbranch, if_pos (by omega)]
    exact qU_spells p _ _ _ _ (by omega)
  · rw [if_neg himm, if_neg hloop, if_neg hbranch, if_pos (by omega)]
    exact qU_spells p _ _ _ _ (by omega)
  · rw [if_neg himm, if_neg hloop, if_neg hbranch, if_neg (by omega), if_pos hstream]
    refine qS_spells p _ _ _ _ hstream fun hop => ?_
    simp only [decS, legal_eq_some, hop, Bool.and_eq_true, bne_self_eq_false, Bool.false_or, decide_eq_true_eq] at h
    exact h.1.2
  · rw [if_neg himm, if_neg hloop, if_neg hbranch, if_neg (by omega), if_neg hstream]
    exact qT_spells p h

theorem wordsSpellInstructions : Claims.WordsSpellInstructions := by
  intro p w memErr
  refine ⟨fun d hd hfits => ?legal, fun d hd hfits => ?profile, fun hd => ?illegal, rfl⟩
  case legal =>
    rw [qcommand, hd]
    simp only [hfits, if_true]
    exact qfields_spells p memErr hd
  case profile =>
    rw [qcommand, hd]
    simp only [hfits, Bool.false_eq_true, if_false]
  case illegal => rw [qcommand, hd]

/-- Settles O9: SYS, the profiles, and the words. -/
theorem sysFunctionsAndProfiles : Obligations.SysFunctionsAndProfiles :=
  ⟨sysInstructions, profilesKeepApart, wordsSpellInstructions⟩

end Sys2Proof.Machine

namespace Sys2Proof.Machine
open Sys2Proof.Claims

/-! SUPPORT. The entry into a handler and the controller's choice of one cycle (R198, R409–R411, R414). -/

theorem State.on_of_one {s : State} {f : Fld} (h : s.get f = 1) : s.on f = true := by
  rw [State.on, h]
  rfl

/-! ## Several fields written -/

/-- The fields of a list written one after the other. -/
def State.writes (s : State) (l : List (Fld × Nat)) : State := l.foldl (fun t e => t.set e.1 e.2) s

theorem State.writes_frame (s : State) (l : List (Fld × Nat)) : Same [] (l.map Prod.fst) s (s.writes l) := by
  induction l generalizing s with
  | nil => exact .refl ..
  | cons e l ih =>
    have hhead : Same [] ((e :: l).map Prod.fst) s (s.set e.1 e.2) := State.set_frame [] s _ _ (List.mem_cons_self ..)
    exact hhead.then ((ih _).mono (fun _ h => h) fun f hf => List.mem_cons_of_mem _ hf)

/-- Distinct fields read back what each was given. -/
theorem State.writes_get (s : State) {l : List (Fld × Nat)} (hn : (l.map Prod.fst).Nodup) {e : Fld × Nat} (he : e ∈ l)
    (hw : e.2 < 2 ^ e.1.w) : (s.writes l).get e.1 = e.2 := by
  induction l generalizing s with
  | nil => cases he
  | cons x l ih =>
    obtain ⟨hx, hl⟩ := List.nodup_cons.1 hn
    obtain rfl | he := List.mem_cons.1 he
    · exact ((State.writes_frame (s.set e.1 e.2) l).get hx).trans ((State.get_set_same ..).trans (Nat.mod_eq_of_lt hw))
    · exact ih (s.set x.1 x.2) hl he

/-! ## Pending bits (R407) -/

/-- The register that holds a source's pending bit. -/
def irqPendField (core src : Nat) : Fld :=
  if src < 0x10 then IRQ.PPEND.PEND core else IRQ.SPEND.PEND ((src - 0x10) / 32)

/-- The place of a source's pending bit in it. -/
def irqPendBit (src : Nat) : Nat := if src < 0x10 then src else (src - 0x10) % 32

theorem irqPendBit_lt (core src : Nat) : irqPendBit src < (irqPendField core src).w := by
  unfold irqPendBit irqPendField
  split
  · assumption
  · exact Nat.mod_lt _ (by omega)

theorem State.irqPending_eq (s : State) (core src : Nat) :
    s.irqPending core src = s.bit (irqPendField core src) (irqPendBit src) := by
  unfold State.irqPending irqPendField irqPendBit
  split <;> rfl

theorem State.irqUnpend_eq (s : State) (core src : Nat) :
    s.irqUnpend core src = s.setBit (irqPendField core src) (irqPendBit src) false := by
  unfold State.irqUnpend irqPendField irqPendBit
  split <;> rfl

/-- A pending bit lies in none of the controller's other registers. -/
theorem ne_irqPendField {f : Fld} {core src : Nat}
    (h : f.unit ≠ 8 ∨ f.idx < 8 ∨ 0x18 ≤ f.idx) (hc : core < 2) (hs : src < 0x63) : f ≠ irqPendField core src := by
  rintro rfl
  unfold irqPendField at h
  split at h <;> simp only [IRQ.PPEND.PEND, IRQ.SPEND.PEND] at h <;> omega

/-- The fields that an entry writes are none of those that taking a source writes. -/
theorem ne_taken {f : Fld} {core src : Nat} (h : f.unit ≠ 8 ∨ 5 ≤ f.idx ∧ f.idx < 8) (hc : core < 2)
    (hs : src < 0x63) :
    f ≠ irqPendField core src ∧ f ≠ IRQ.SCFG.RRLAST (irqBank core src) := by
  refine ⟨ne_irqPendField (by omega) hc hs, ?_⟩
  rintro rfl
  simp only [IRQ.SCFG.RRLAST] at h
  omega

/-! ## Taking a source (R410, R411, R414) -/

/-- The hold-off of a source's group starts (R414). -/
def State.startHoldoff (s : State) (b : Nat) : State :=
  let g := s.get (IRQ.SCFG.GRP b)
  let h := s.get (IRQ.HOLD.HOLD g)
  if h = 0 then s
  else { s with irq := { s.irq with
      holdEnd := Vector.ofFn (fun i : Fin 8 => if i.val = g then s.clock.now + 200 * h else s.irq.holdEnd[i]) } }

theorem State.startHoldoff_frame (s : State) (b : Nat) : Same [.irq] [] s (s.startHoldoff b) := by
  unfold State.startHoldoff
  dsimp only
  split
  · exact .refl ..
  · exact .of_flds rfl fun c hc => by
      cases c with
      | irq => simp at hc
      | _ => rfl

theorem State.startHoldoff_irq (s : State) (b : Nat) :
    let t := s.startHoldoff b
    let hold := s.get (IRQ.HOLD.HOLD (s.get (IRQ.SCFG.GRP b)))
    t.irq = { s.irq with holdEnd := t.irq.holdEnd } ∧ ∀ g : Fin 8, t.irq.holdEnd[g] =
      if s.get (IRQ.SCFG.GRP b) = g.val ∧ hold ≠ 0 then s.clock.now + 200 * hold else s.irq.holdEnd[g] := by
  intro t hold
  by_cases h : hold = 0
  · have ht : t = s := if_pos h
    exact ⟨by rw [ht], fun g => by rw [ht, if_neg fun hg => hg.2 h]⟩
  · have ht : t = _ := if_neg h
    refine ⟨by rw [ht], fun g => ?_⟩
    simp only [ht, Fin.getElem_fin, Vector.getElem_ofFn, h, ne_eq, not_false_eq_true, and_true,
      eq_comm (a := s.get (IRQ.SCFG.GRP b))]
    rfl

section
variable {s : State} {c : Fin 2} {src : Nat}

theorem State.takeSource_eq (s : State) (core src taker : Nat) : s.takeSource core src taker =
    ((s.setBit (irqPendField core src) (irqPendBit src) false).set (IRQ.SCFG.RRLAST (irqBank core src))
      taker).startHoldoff (irqBank core src) := by
  rw [← State.irqUnpend_eq]
  rfl

theorem State.unpended_frame (s : State) (core src taker : Nat) :
    Same [] [irqPendField core src, IRQ.SCFG.RRLAST (irqBank core src)] s
      ((s.setBit (irqPendField core src) (irqPendBit src) false).set (IRQ.SCFG.RRLAST (irqBank core src)) taker) :=
  (State.setBit_frame [] s _ _ _ (by simp)).then (State.set_frame [] _ _ _ (by simp))

theorem State.takeSource_frame (s : State) (core src taker : Nat) :
    Same [.irq] [irqPendField core src, IRQ.SCFG.RRLAST (irqBank core src)] s (s.takeSource core src taker) := by
  rw [State.takeSource_eq]
  exact ((s.unpended_frame core src taker).mono (by simp) fun _ h => h).then
    ((State.startHoldoff_frame ..).mono (fun _ h => h) nofun)

/-- What taking a source does: it no longer pends, its taker is noted, its group's hold-off starts. -/
theorem State.takeSource_effect (hs : src < 0x63) :
    let t := s.takeSource c src c
    let hold := s.get (IRQ.HOLD.HOLD (s.get (IRQ.SCFG.GRP (irqBank c src))))
    t.bit (irqPendField c src) (irqPendBit src) = false ∧ t.get (IRQ.SCFG.RRLAST (irqBank c src)) = c.val ∧
    t.irq = { s.irq with holdEnd := t.irq.holdEnd } ∧ ∀ g : Fin 8, t.irq.holdEnd[g] =
      if s.get (IRQ.SCFG.GRP (irqBank c src)) = g.val ∧ hold ≠ 0 then s.clock.now + 200 * hold
      else s.irq.holdEnd[g] := by
  intro t hold
  have ht : t = _ := s.takeSource_eq c src c
  have hm := s.unpended_frame c src c
  generalize hmid : (s.setBit (irqPendField c src) (irqPendBit src) false).set (IRQ.SCFG.RRLAST (irqBank c src)) c = m
    at ht hm
  have hkeep {f : Fld} (hp : f ≠ irqPendField c src) (hr : f ≠ IRQ.SCFG.RRLAST (irqBank c src)) : m.get f = s.get f :=
    hm.get (by simp [hp, hr])
  have hgrp : m.get (IRQ.SCFG.GRP (irqBank c src)) = s.get (IRQ.SCFG.GRP (irqBank c src)) :=
    hkeep (ne_irqPendField (.inr (.inl (by simp [IRQ.SCFG.GRP]))) c.isLt hs) (by simp [IRQ.SCFG.GRP, IRQ.SCFG.RRLAST])
  have hhold (g : Nat) : m.get (IRQ.HOLD.HOLD g) = s.get (IRQ.HOLD.HOLD g) :=
    hkeep (ne_irqPendField (.inr (.inr (show 0x18 ≤ 0x20 + g by omega))) c.isLt hs)
      (by simp [IRQ.HOLD.HOLD, IRQ.SCFG.RRLAST])
  have hirq : m.irq = s.irq := hm.2 .irq (by simp)
  have hclock : m.clock = s.clock := hm.2 .clock (by simp)
  obtain ⟨hsame, hend⟩ := m.startHoldoff_irq (irqBank c src)
  rw [← ht] at hsame hend
  simp only [hgrp, hhold, hirq, hclock] at hsame hend
  have hflds (f : Fld) : t.get f = m.get f := ht ▸ (m.startHoldoff_frame _).get List.not_mem_nil
  refine ⟨?_, ?_, hsame, hend⟩
  · rw [State.bit_of_get (hflds _), ← hmid, State.bit_of_get (State.get_set_other _ _ _)]
    · exact State.bit_setBit_clear s (irqPendBit_lt ..)
    · exact ne_irqPendField (.inr (.inl (by simp [IRQ.SCFG.RRLAST]))) c.isLt hs
  · rw [hflds, ← hmid, State.get_set_same]
    exact Nat.mod_eq_of_lt (c.isLt.trans (by simp [IRQ.SCFG.RRLAST]))

end

/-! ## Entering a handler (R198, R411) -/

/-- Core c takes a source; the entry writes the fields of a list and leaves the core as given. -/
def State.enter (s : State) (c : Fin 2) (src : Nat) (l : List (Fld × Nat)) (K : CoreSt) : State :=
  ((s.takeSource c src c).writes l).setCore c K

section
variable {s : State} {c : Fin 2} {src : Nat} {l : List (Fld × Nat)} {K : CoreSt}

theorem State.takeSource_core (s : State) (core src taker : Nat) (d : Fin 2) :
    (s.takeSource core src taker).core d = s.core d :=
  State.core_congr ((s.takeSource_frame core src taker).2 .cores (by simp)) d

theorem State.enter_frame : Same [.cores, .irq]
    ([irqPendField c src, IRQ.SCFG.RRLAST (irqBank c src)] ++ l.map Prod.fst) s (s.enter c src l K) :=
  (((s.takeSource_frame c src c).mono (by simp) fun _ h => List.mem_append_left _ h).then
    ((State.writes_frame _ l).mono (by simp) fun _ h => List.mem_append_right _ h)).then
    (State.setCore_frame _ _ _ c K (by simp))

theorem State.enter_get {e : Fld × Nat} (he : e ∈ l) (hn : (l.map Prod.fst).Nodup) (hw : e.2 < 2 ^ e.1.w) :
    (s.enter c src l K).get e.1 = e.2 := State.writes_get _ hn he hw

theorem State.enter_core : (s.enter c src l K).core c = K := State.core_setCore_same ..

/-- An entry takes its source, whatever it writes beside. -/
theorem State.enter_taken (hs : src < 0x63)
    (hl : ∀ f ∈ l.map Prod.fst, f.unit ≠ 8 ∨ 5 ≤ f.idx ∧ f.idx < 8) :
    let t := s.enter c src l K
    let hold := s.get (IRQ.HOLD.HOLD (s.get (IRQ.SCFG.GRP (irqBank c src))))
    t.irqPending c src = false ∧ t.get (IRQ.SCFG.RRLAST (irqBank c src)) = c.val ∧
    (∀ d, d ≠ c → t.core d = s.core d) ∧ t.irq = { s.irq with holdEnd := t.irq.holdEnd } ∧
    ∀ g : Fin 8, t.irq.holdEnd[g] =
      if s.get (IRQ.SCFG.GRP (irqBank c src)) = g.val ∧ hold ≠ 0 then s.clock.now + 200 * hold
      else s.irq.holdEnd[g] := by
  intro t hold
  obtain ⟨hpend, hlast, hirq⟩ := s.takeSource_effect (c := c) hs
  have hw := State.writes_frame (s.takeSource c src c) l
  have hi : t.irq = (s.takeSource c src c).irq := hw.2 .irq (by simp)
  refine ⟨?_, (hw.get fun h => (ne_taken (hl _ h) c.isLt hs).2 rfl).trans hlast, fun d hd => ?_, hi ▸ hirq⟩
  · rw [State.irqPending_eq]
    exact (State.bit_of_get (hw.get fun h => (ne_taken (hl _ h) c.isLt hs).1 rfl) _).trans hpend
  · calc t.core d = ((s.takeSource c src c).writes l).core d := State.core_setCore_other _ hd.symm _
      _ = (s.takeSource c src c).core d := State.core_congr (hw.2 .cores (by simp)) d
      _ = s.core d := s.takeSource_core ..

end

/-- What the entry into a normal handler writes. -/
def normalWrites (c : Fin 2) (K : CoreSt) (src : Nat) : List (Fld × Nat) :=
  [(IRQ.CCSTAT.PRES c, 0xFF), (CSR.EPC.PC c, K.pc.toNat), (CSR.EFL.FL c, K.bank.fl.toNat), (CSR.ECAUSE.INT c, 1),
   (CSR.ECAUSE.CODE c, src), (CSR.STAT.INNORM c, 1)]

/-- What the entry into a fast handler writes. -/
def fastWrites (c : Fin 2) (K : CoreSt) (src : Nat) : List (Fld × Nat) :=
  [(IRQ.CCSTAT.FAST c, src), (CSR.FEPC.PC c, K.pc.toNat), (CSR.FFL.FL c, K.bank.fl.toNat), (CSR.STAT.INFAST c, 1)]

/-- The vector of a core stays where it is while a source is taken and an entry writes. -/
theorem State.takeSource_vec (s : State) (c : Fin 2) {src : Nat} (hs : src < 0x63) {l : List (Fld × Nat)}
    (hl : CSR.VEC.BASE c ∉ l.map Prod.fst) :
    ((s.takeSource c src c).writes l).get (CSR.VEC.BASE c) = s.get (CSR.VEC.BASE c) := by
  obtain ⟨hp, hr⟩ := ne_taken (f := CSR.VEC.BASE c) (.inl (by simp [CSR.VEC.BASE]; omega)) c.isLt hs
  exact ((State.writes_frame _ l).get hl).trans ((s.takeSource_frame c src c).get (by simp [hp, hr]))

section
variable {s : State} {c : Fin 2} {K : CoreSt} {src : Nat}

theorem normalWrites_apart : ∀ f ∈ (normalWrites c K src).map Prod.fst, f.unit ≠ 8 ∨ 5 ≤ f.idx ∧ f.idx < 8 := by
  simp [normalWrites, IRQ.CCSTAT.PRES, CSR.EPC.PC, CSR.EFL.FL, CSR.ECAUSE.INT, CSR.ECAUSE.CODE, CSR.STAT.INNORM]
  omega

theorem fastWrites_apart : ∀ f ∈ (fastWrites c K src).map Prod.fst, f.unit ≠ 8 ∨ 5 ≤ f.idx ∧ f.idx < 8 := by
  simp [fastWrites, IRQ.CCSTAT.FAST, CSR.FEPC.PC, CSR.FFL.FL, CSR.STAT.INFAST]
  omega

theorem normalWrites_nodup : ((normalWrites c K src).map Prod.fst).Nodup := by
  simp [normalWrites, IRQ.CCSTAT.PRES, CSR.EPC.PC, CSR.EFL.FL, CSR.ECAUSE.INT, CSR.ECAUSE.CODE, CSR.STAT.INNORM]

theorem fastWrites_nodup : ((fastWrites c K src).map Prod.fst).Nodup := by
  simp [fastWrites, IRQ.CCSTAT.FAST, CSR.FEPC.PC, CSR.FFL.FL, CSR.STAT.INFAST]

end

section
variable {s : State} {c : Fin 2} {q : Present} (hp : s.power = .on) (hh : (s.core c).halted = false)
  (hie : s.on (CSR.STAT.IE c) = true) (hs : q.src < 0x63)
include hp hh hie hs

theorem normalEntry_next (hq : (s.core c).normal = some q) (hin : s.inHandler c = false) :
    exec (.normalEntry c) s = .next (s.enter c q.src (normalWrites c (s.core c) q.src) { s.core c with
      pc := BitVec.ofNat 32 (256 * s.get (CSR.VEC.BASE c) + 0x40), loopsMid := [], waiting := false, normal := none }) := by
  have hbase := s.takeSource_vec c hs (l := normalWrites c (s.core c) q.src)
    (by simp [normalWrites, IRQ.CCSTAT.PRES, CSR.EPC.PC, CSR.EFL.FL, CSR.ECAUSE.INT, CSR.ECAUSE.CODE, CSR.STAT.INNORM,
      CSR.VEC.BASE])
  change execNormalEntry c s = _
  rw [execNormalEntry, hq]
  dsimp only
  rw [if_pos ⟨hp, by simp [hh], hie, by simp [hin]⟩, State.enter, ← hbase, ← s.takeSource_core c q.src c c]
  generalize s.takeSource c q.src c = m
  simp only [State.writes, normalWrites, List.foldl_cons, List.foldl_nil]
  rfl

theorem fastEntry_next (hq : (s.core c).fast = some q) (hin : s.on (CSR.STAT.INFAST c) = false) :
    exec (.fastEntry c) s = .next (s.enter c q.src (fastWrites c (s.core c) q.src) { s.core c with
      pc := BitVec.ofNat 32 (256 * s.get (CSR.VEC.BASE c) + 0x80), loopsFast := [], waiting := false, fast := none }) := by
  have hbase := s.takeSource_vec c hs (l := fastWrites c (s.core c) q.src)
    (by simp [fastWrites, IRQ.CCSTAT.FAST, CSR.FEPC.PC, CSR.FFL.FL, CSR.STAT.INFAST, CSR.VEC.BASE])
  change execFastEntry c s = _
  rw [execFastEntry, hq]
  dsimp only
  rw [if_pos ⟨hp, by simp [hh], hie, by simp [hin]⟩, State.enter, ← hbase, ← s.takeSource_core c q.src c c]
  generalize s.takeSource c q.src c = m
  simp only [State.writes, fastWrites, List.foldl_cons, List.foldl_nil]
  rfl

end

/-- A core in WAIT goes on where an eligible source pends and IE keeps it from being taken (R409). -/
theorem waitWake_next {s : State} {c : Fin 2} (hp : s.power = .on) (hw : (s.core c).waiting = true)
    (hie : s.on (CSR.STAT.IE c) = false) {x : Nat × Nat} (hx : x ∈ sourcesOf c) (hc : s.considered x.1 x.2 = true)
    (ht : bitOf (s.tset x.1 x.2) c = true) (ho : s.coreOpen c (s.irqFast x.1 x.2) = true) :
    exec (.waitWake c) s = .next (s.setCore c { s.core c with waiting := false }) := by
  have hany : (sourcesOf c).any
      (fun x => s.considered x.1 x.2 && bitOf (s.tset x.1 x.2) c && s.coreOpen c (s.irqFast x.1 x.2)) = true :=
    List.any_eq_true.2 ⟨x, hx, by rw [hc, ht, ho]; rfl⟩
  exact congrArg _ (if_pos ⟨hp, hw, by simp [hie], hany⟩)

section
variable {s : State} {c : Fin 2} {K H : CoreSt} {src : Nat} (hs : src < 0x63)
include hs

/-- What the entry into a normal handler saves, and that it runs. -/
theorem State.enterNormal_saves :
    let t := s.enter c src (normalWrites c K src) H
    t.get (CSR.EPC.PC c) = K.pc.toNat ∧ t.get (CSR.EFL.FL c) = K.bank.fl.toNat ∧ t.on (CSR.ECAUSE.INT c) = true ∧
    t.get (CSR.ECAUSE.CODE c) = src ∧ t.on (CSR.STAT.INNORM c) = true ∧ t.get (IRQ.CCSTAT.PRES c) = 0xFF := by
  intro t
  have get {f : Fld} {v : Nat} (he : (f, v) ∈ normalWrites c K src) (hw : v < 2 ^ f.w) : t.get f = v :=
    State.enter_get he normalWrites_nodup hw
  exact ⟨get (by simp [normalWrites]) K.pc.isLt, get (by simp [normalWrites]) K.bank.fl.isLt,
    State.on_of_one (get (by simp [normalWrites]) Nat.one_lt_two),
    get (by simp [normalWrites]) (show src < 256 by omega),
    State.on_of_one (get (by simp [normalWrites]) Nat.one_lt_two), get (by simp [normalWrites]) (show 255 < 256 by omega)⟩

/-- What the entry into a fast handler saves, and that it runs. -/
theorem State.enterFast_saves :
    let t := s.enter c src (fastWrites c K src) H
    t.get (CSR.FEPC.PC c) = K.pc.toNat ∧ t.get (CSR.FFL.FL c) = K.bank.fl.toNat ∧ t.on (CSR.STAT.INFAST c) = true ∧
    t.get (IRQ.CCSTAT.FAST c) = src := by
  intro t
  have get {f : Fld} {v : Nat} (he : (f, v) ∈ fastWrites c K src) (hw : v < 2 ^ f.w) : t.get f = v :=
    State.enter_get he fastWrites_nodup hw
  exact ⟨get (by simp [fastWrites]) K.pc.isLt, get (by simp [fastWrites]) K.bank.fl.isLt,
    State.on_of_one (get (by simp [fastWrites]) Nat.one_lt_two),
    get (by simp [fastWrites]) (show src < 256 by omega)⟩

end

/-- Both entries take their source, save the core's place and go to the vector; WAIT alone ends without one. -/
theorem handlerEntry : Claims.HandlerEntry := by
  intro s c q hp hs k pend hold K taken
  refine ⟨fun hh hie => ⟨fun hq hin => ?normal, fun hq hin => ?fast⟩, ?wake⟩
  case normal =>
    obtain ⟨hpc, hfl, hint, hcode, hnorm, hpres⟩ := State.enterNormal_saves hs
    exact ⟨_, normalEntry_next hp hh hie hs hq hin, State.enter_taken hs normalWrites_apart, State.enter_core,
      hpc, hfl, hint, hcode, hnorm, hpres,
      State.enter_frame (l := normalWrites c K q.src)⟩
  case fast =>
    obtain ⟨hpc, hfl, hfast, hsrc⟩ := State.enterFast_saves hs
    exact ⟨_, fastEntry_next hp hh hie hs hq hin, State.enter_taken hs fastWrites_apart, State.enter_core,
      hpc, hfl, hfast, hsrc, State.enter_frame (l := fastWrites c K q.src)⟩
  case wake => exact fun hw hie x hx hc ht ho => waitWake_next hp hw hie hx hc ht ho

/-! ## The choice of one cycle (R409, R410) -/

theorem sourcesOf_ascending (c : Nat) : (sourcesOf c).Pairwise fun x y => x.2 < y.2 := by
  rw [sourcesOf, List.pairwise_append, List.pairwise_map, List.pairwise_map]
  refine ⟨List.pairwise_lt_range, List.pairwise_lt_range.imp fun h => Nat.add_lt_add_left h _, fun x hx y hy => ?_⟩
  obtain ⟨i, hi, rfl⟩ := List.mem_map.1 hx
  obtain ⟨j, _, rfl⟩ := List.mem_map.1 hy
  have := List.mem_range.1 hi
  dsimp only
  omega

/-- In an ascending list the first of its kind is the least. -/
theorem find?_eq_of_least {l : List (Nat × Nat)} (hl : l.Pairwise fun x y => x.2 < y.2) {p : Nat × Nat → Bool}
    {x : Nat × Nat} (hx : x ∈ l) (hp : p x = true) (hmin : ∀ y ∈ l, p y = true → x.2 ≤ y.2) : l.find? p = some x := by
  induction l with
  | nil => cases hx
  | cons y l ih =>
    obtain ⟨hy, hl⟩ := List.pairwise_cons.1 hl
    obtain rfl | hx := List.mem_cons.1 hx
    · exact List.find?_cons_of_pos hp
    · have hn : ¬ p y = true := fun hpy => absurd (hmin y (List.mem_cons_self ..) hpy) (Nat.not_le.2 (hy x hx))
      rw [List.find?_cons_of_neg hn]
      exact ih hl hx fun z hz => hmin z (List.mem_cons_of_mem _ hz)

/-- The sources whose turn core c is, in rising order. -/
def State.turns (s : State) (c : Nat) : List (Nat × Nat) :=
  (sourcesOf c).filter fun x => s.chosen x.1 x.2 == some c

section
variable {s : State} {c : Nat} {x : Nat × Nat}

theorem State.mem_turns : x ∈ s.turns c ↔ x ∈ sourcesOf c ∧ s.chosen x.1 x.2 = some c := by
  rw [State.turns, List.mem_filter, beq_iff_eq]

theorem State.turns_ascending (s : State) (c : Nat) : (s.turns c).Pairwise fun x y => x.2 < y.2 :=
  (sourcesOf_ascending c).filter _

theorem State.winner_eq (s : State) (c : Nat) : s.winner c =
    ((s.turns c).find? fun x => s.irqFast x.1 x.2).or ((s.turns c).find? fun x => !s.irqFast x.1 x.2) := rfl

/-- The lowest fast source wins. -/
theorem State.winner_fast (hx : x ∈ s.turns c) (hf : s.irqFast x.1 x.2 = true)
    (hmin : ∀ y ∈ s.turns c, s.irqFast y.1 y.2 = true → x.2 ≤ y.2) : s.winner c = some x := by
  rw [State.winner_eq, find?_eq_of_least (s.turns_ascending c) hx hf hmin, Option.some_or]

/-- Where no source is fast, the lowest one wins. -/
theorem State.winner_normal (hx : x ∈ s.turns c)
    (hmin : ∀ y ∈ s.turns c, s.irqFast y.1 y.2 = false ∧ x.2 ≤ y.2) : s.winner c = some x := by
  have hnone : ((s.turns c).find? fun x => s.irqFast x.1 x.2) = none :=
    List.find?_eq_none.2 fun y hy => by simp [(hmin y hy).1]
  rw [State.winner_eq, hnone, Option.none_or]
  exact find?_eq_of_least (s.turns_ascending c) hx (by simp [(hmin x hx).1]) fun y hy _ => (hmin y hy).2

theorem State.winner_none (h : ∀ x ∈ sourcesOf c, s.chosen x.1 x.2 ≠ some c) : s.winner c = none := by
  have hnil : s.turns c = [] := List.filter_eq_nil_iff.2 fun x hx => by simpa using h x hx
  rw [State.winner_eq, hnil]
  rfl

end

/-! ### The presentations -/

section
variable {s : State}

/-- A presentation touches its core and the source shown of it. -/
theorem State.presentCore_frame (s : State) (c : Fin 2) (x : Option (Nat × Nat)) :
    Same [.cores] [IRQ.CCSTAT.PRES c] s (s.presentCore c x) := by
  unfold State.presentCore
  split
  · exact .refl ..
  · dsimp only
    split
    · exact State.setCore_frame _ _ s c _ (by simp)
    · exact (State.set_frame _ s _ _ (by simp)).then (State.setCore_frame _ _ _ c _ (by simp))

theorem State.presentCore_other (s : State) {c d : Fin 2} (h : d ≠ c) (x : Option (Nat × Nat)) :
    (s.presentCore c x).core d = s.core d := by
  unfold State.presentCore
  split
  · rfl
  · dsimp only
    split
    · exact State.core_setCore_other _ h.symm _
    · exact State.core_setCore_other _ h.symm _

theorem State.presentCore_fast (s : State) (c : Fin 2) {x : Nat × Nat} (h : s.irqFast x.1 x.2 = true) :
    s.presentCore c (some x) = s.setCore c { s.core c with fast := some ⟨x.2, s.clock.now + 1⟩ } := if_pos h

theorem State.presentCore_normal (s : State) (c : Fin 2) {x : Nat × Nat} (h : s.irqFast x.1 x.2 = false) :
    s.presentCore c (some x) = (s.set (IRQ.CCSTAT.PRES c) x.2).setCore c { s.core c with
      normal := some ⟨x.2, s.clock.now + 1⟩ } := if_neg (by simp [h])

end

/-- The fields that a presentation to the host writes. -/
def hostPendFields : List Fld := [IRQ.HPEND.PEND 0, IRQ.HPEND.PEND 1, IRQ.HPEND.PEND 2]

/-- A source stands before the host: its bit is set and its presentation is kept. -/
def State.beforeHost (s : State) (src cycle : Nat) : Prop :=
  s.bit (IRQ.HPEND.PEND ((src - 0x10) / 32)) ((src - 0x10) % 32) = true ∧ (⟨src, cycle⟩ : Present) ∈ s.irq.host

section
variable {s : State} {src : Nat}

theorem State.presentHost_frame (s : State) (hs : src < 0x63) :
    Same [.irq] hostPendFields s (s.presentHost src) := by
  have hn : (src - 0x10) / 32 = 0 ∨ (src - 0x10) / 32 = 1 ∨ (src - 0x10) / 32 = 2 := by omega
  refine (State.setBit_frame [.irq] s _ ((src - 0x10) % 32) true ?_).then (.of_flds rfl fun c hc => ?_)
  · obtain h | h | h := hn <;> simp [h, hostPendFields]
  · cases c with
    | irq => simp at hc
    | _ => rfl

theorem State.presentHost_same (s : State) (src : Nat) :
    (s.presentHost src).beforeHost src (s.clock.now + 1) :=
  ⟨State.bit_setBit_same s (Nat.mod_lt _ (by omega)), List.mem_append_right _ (List.mem_singleton_self _)⟩

/-- A bit that is set stays so while others are set. -/
theorem State.bit_setBit_true (s : State) {f g : Fld} {i j : Nat} (hw : j < f.w) (h : s.bit f j = true) :
    (s.setBit g i true).bit f j = true := by
  by_cases hf : g = f
  · subst hf
    rw [State.bit, State.get_setBit, if_pos rfl, bitOf_mod _ hw]
    by_cases hj : j = i
    · rw [hj, bitOf_withBit_true]
    · rw [bitOf_withBit_true_other _ hj]
      exact h
  · exact (State.bit_of_get (State.get_set_other s hf _) j).trans h

theorem State.beforeHost.presentHost {cycle : Nat} (h : s.beforeHost src cycle) (src' : Nat) :
    (s.presentHost src').beforeHost src cycle :=
  ⟨State.bit_setBit_true s (Nat.mod_lt _ (by omega)) h.1, List.mem_append_left _ h.2⟩

theorem State.beforeHost.presentHosts {cycle : Nat} (h : s.beforeHost src cycle) (l : List Nat) :
    (l.foldl State.presentHost s).beforeHost src cycle := by
  induction l generalizing s with
  | nil => exact h
  | cons x l ih => exact ih (h.presentHost x)

/-- Every source of a list comes before the host. -/
theorem State.presentHosts_mem {l : List Nat} (h : src ∈ l) :
    (l.foldl State.presentHost s).beforeHost src (s.clock.now + 1) := by
  induction l generalizing s with
  | nil => cases h
  | cons x l ih =>
    obtain rfl | h := List.mem_cons.1 h
    · exact (s.presentHost_same src).presentHosts l
    · exact ih h

theorem State.presentHosts_frame (s : State) {l : List Nat} (hl : ∀ x ∈ l, x < 0x63) :
    Same [.irq] hostPendFields s (l.foldl State.presentHost s) := by
  induction l generalizing s with
  | nil => exact .refl ..
  | cons x l ih =>
    exact (s.presentHost_frame (hl x (List.mem_cons_self ..))).then (ih _ fun y hy => hl y (List.mem_cons_of_mem _ hy))

end

/-- The sources whose turn the host is. -/
def State.hostTurns (s : State) : List Nat :=
  ((List.range 0x53).map (· + 0x10)).filter fun src => s.chosen 0 src == some 2


/-- The presentations to both cores. -/
def State.presentCores (s : State) : State := (s.presentCore 0 (s.winner 0)).presentCore 1 (s.winner 1)

section
variable {s : State}

theorem irqPresent_next (hp : s.power = .on) :
    exec .irqPresent s = .next (s.hostTurns.foldl State.presentHost s.presentCores) := congrArg _ (if_pos hp)

theorem State.mem_hostTurns {src : Nat} :
    src ∈ s.hostTurns ↔ (0x10 ≤ src ∧ src < 0x63) ∧ s.chosen 0 src = some 2 := by
  rw [State.hostTurns, List.mem_filter, beq_iff_eq, List.mem_map]
  refine and_congr_left fun _ => ⟨?_, fun h => ⟨src - 0x10, List.mem_range.2 (by omega), by omega⟩⟩
  rintro ⟨i, hi, rfl⟩
  have := List.mem_range.1 hi
  omega

theorem State.presentCores_frame (s : State) :
    Same [.cores] [IRQ.CCSTAT.PRES 0, IRQ.CCSTAT.PRES 1] s s.presentCores :=
  ((s.presentCore_frame 0 _).mono (fun _ h => h) (by simp)).then
    ((State.presentCore_frame _ 1 _).mono (fun _ h => h) (by simp))

/-- A core finds its presentation made at a state that has its core, the clock and the classes of the sources. -/
theorem State.presentCores_of (s : State) (c : Fin 2) : ∃ u : State,
    (u.core c = s.core c ∧ u.clock = s.clock ∧ ∀ k src, u.irqFast k src = s.irqFast k src) ∧
    s.presentCores.core c = (u.presentCore c (s.winner c)).core c ∧
    s.presentCores.get (IRQ.CCSTAT.PRES c) = (u.presentCore c (s.winner c)).get (IRQ.CCSTAT.PRES c) := by
  match c with
  | 0 =>
    exact ⟨s, ⟨rfl, rfl, fun _ _ => rfl⟩, State.presentCore_other _ (by decide) _,
      (State.presentCore_frame _ 1 _).get (by simp [IRQ.CCSTAT.PRES])⟩
  | 1 =>
    have h := s.presentCore_frame 0 (s.winner 0)
    exact ⟨s.presentCore 0 (s.winner 0), ⟨s.presentCore_other (by decide) _, h.2 .clock (by simp),
      fun k src => State.on_of_get (h.get (by simp [IRQ.SCFG.CLASS, IRQ.CCSTAT.PRES]))⟩, rfl, rfl⟩

/-- The core's lowest fast source is presented in the next cycle. -/
theorem State.presentCores_fast {c : Fin 2} {x : Nat × Nat} (hw : s.winner c = some x) (hf : s.irqFast x.1 x.2 = true) :
    s.presentCores.core c = { s.core c with fast := some ⟨x.2, s.clock.now + 1⟩ } := by
  obtain ⟨u, ⟨hcore, hclock, hclass⟩, hpres, _⟩ := s.presentCores_of c
  rw [hpres, hw, State.presentCore_fast u c ((hclass ..).trans hf), State.core_setCore_same, hcore, hclock]

/-- Its lowest normal source is presented in the next cycle, and shown. -/
theorem State.presentCores_normal {c : Fin 2} {x : Nat × Nat} (hw : s.winner c = some x)
    (hf : s.irqFast x.1 x.2 = false) (hx : x.2 < 256) :
    s.presentCores.core c = { s.core c with normal := some ⟨x.2, s.clock.now + 1⟩ } ∧
    s.presentCores.get (IRQ.CCSTAT.PRES c) = x.2 := by
  obtain ⟨u, ⟨hcore, hclock, hclass⟩, hpres, hshown⟩ := s.presentCores_of c
  rw [hpres, hshown, hw, State.presentCore_normal u c ((hclass ..).trans hf), State.core_setCore_same, hcore, hclock]
  exact ⟨rfl, (State.get_set_same ..).trans (Nat.mod_eq_of_lt hx)⟩

theorem State.presentCores_none {c : Fin 2} (hw : s.winner c = none) : s.presentCores.core c = s.core c := by
  obtain ⟨u, ⟨hcore, _⟩, hpres, _⟩ := s.presentCores_of c
  rw [hpres, hw]
  exact hcore

theorem sourcesOf_lt {c : Nat} {x : Nat × Nat} (hx : x ∈ sourcesOf c) : x.2 < 0x63 := by
  obtain hx | hx := List.mem_append.1 hx <;>
    obtain ⟨i, hi, rfl⟩ := List.mem_map.1 hx <;>
    have := List.mem_range.1 hi <;>
    dsimp only <;>
    omega

end

/-- The cores' presentations by their winners, the host's by the sources whose turn it is. -/
theorem interruptSelection : Claims.InterruptSelection := by
  intro s hp
  have hhost := s.presentCores.presentHosts_frame (l := s.hostTurns) fun x hx => (State.mem_hostTurns.1 hx).1.2
  have hcores (c : Fin 2) : (s.hostTurns.foldl State.presentHost s.presentCores).core c = s.presentCores.core c :=
    State.core_congr (hhost.2 .cores (by simp)) c
  refine ⟨_, irqPresent_next hp, ?frame, fun c x hx hc => ?core, fun c h => ?none, fun src hlo hhi hc => ?host⟩
  case frame =>
    exact (s.presentCores_frame.mono (by simp) (by simp)).then (hhost.mono (by simp) (by simp [hostPendFields]))
  case core =>
    intro mine
    have hmine {y : Nat × Nat} : y ∈ s.turns c ↔ mine y := State.mem_turns
    refine ⟨fun hf hmin => ?_, fun hf hmin => ?_⟩
    · rw [hcores]
      exact State.presentCores_fast (State.winner_fast (hmine.2 ⟨hx, hc⟩) hf fun y hy => hmin y (hmine.1 hy)) hf
    · obtain ⟨hcore, hpres⟩ := State.presentCores_normal
        (State.winner_normal (hmine.2 ⟨hx, hc⟩) fun y hy => hmin y (hmine.1 hy)) hf
        ((sourcesOf_lt hx).trans (by omega))
      rw [hcores]
      refine ⟨hcore, (hhost.get ?_).trans hpres⟩
      simp [hostPendFields, IRQ.HPEND.PEND, IRQ.CCSTAT.PRES]
  case none => rw [hcores, State.presentCores_none (State.winner_none h)]
  case host =>
    have hclock : s.presentCores.clock = s.clock := s.presentCores_frame.2 .clock (by simp)
    rw [← hclock]
    exact State.presentHosts_mem (State.mem_hostTurns.2 ⟨⟨hlo, hhi⟩, hc⟩)

/-- Settles O24: the entries, and the controller's choice. -/
theorem handlersSelectedAndEntered : Obligations.HandlersSelectedAndEntered := ⟨handlerEntry, interruptSelection⟩

end Sys2Proof.Machine

namespace Sys2Proof.Machine
open Sys2Proof.Claims

/-! SUPPORT. Scalar arithmetic: the ALU functions, the immediates, products, quotients and roots (R205–R209). -/

/-! ## The immediates (R209) -/

theorem toInt_signExtend_imm (imm : BitVec 16) : (imm.signExtend 32).toInt = imm.toInt :=
  BitVec.toInt_signExtend_of_le (by decide)

theorem toNat_ofNat_imm (imm : BitVec 16) : (BitVec.ofNat 32 imm.toNat).toNat = imm.toNat := by
  rw [BitVec.toNat_ofNat, Nat.mod_eq_of_lt (by omega)]

theorem ofNat_shift_imm (imm : BitVec 16) :
    BitVec.ofNat 32 imm.toNat <<< 16 = BitVec.ofNat 32 (imm.toNat * 2 ^ 16) := by
  refine BitVec.eq_of_toNat_eq ?_
  rw [BitVec.toNat_shiftLeft, toNat_ofNat_imm, Nat.shiftLeft_eq, BitVec.toNat_ofNat]

theorem boolWord_slt (x y : Word) : boolWord (x.slt y) = bit01 (decide (x.toInt < y.toInt)) := rfl

theorem boolWord_ult (x y : Word) : boolWord (x.ult y) = bit01 (decide (x.toNat < y.toNat)) := rfl

/-- An immediate function that sets Z and N from its result (R206, R209). -/
theorem aluImmZN_computes {c : Instr} {s : State} {p : Proc} {d a : Fin 32} {k r : Word} {f : Word → Word → Word}
    (h : s.Executes p 1) (he : exec c s = .next (s.aluImm p d a k f fun fl x y => flagsZN fl (f x y)))
    (hr : f (valS (s.bankOf p) a) k = r) : ComputesFl c p 1 s (putS (s.bankOf p) d r) (zn r) :=
  hr ▸ aluImm_computes h he (flagsZN_are _ _)

/-- Settles O3: each immediate is the two-operand function of its extended operand. -/
theorem immediateResults : Obligations.ImmediateResults := by
  intro s p d a imm h B x i z
  have hzext : imm.zeroExtend 32 = z := (BitVec.ofNat_toNat 32 imm).symm
  have hlt : boolWord (x.slt i) = bit01 (decide (x.toInt < imm.toInt)) := by
    rw [boolWord_slt, show i.toInt = imm.toInt from toInt_signExtend_imm imm]
  have hltu : boolWord (x.ult (imm.zeroExtend 32)) = bit01 (decide (x.toNat < imm.toNat)) := by
    rw [hzext, boolWord_ult, show z.toNat = imm.toNat from toNat_ofNat_imm imm]
  refine ⟨?addi, ?andi, ?ori, ?xori, ?cmplti, ?cmpltiu, ?himm⟩
  case addi => exact aluImm_computes h rfl (flagsAdd_are B.fl x i)
  case andi => exact aluImmZN_computes h rfl (congrArg (x &&& ·) hzext)
  case ori => exact aluImmZN_computes h rfl (congrArg (x ||| ·) hzext)
  case xori => exact aluImmZN_computes h rfl (congrArg (x ^^^ ·) hzext)
  case cmplti => exact aluImmZN_computes h rfl hlt
  case cmpltiu => exact aluImmZN_computes h rfl hltu
  case himm =>
    refine Computes.of_regOp _ h rfl ((Regs.bank_setS ..).trans (congrArg (putS B d) ?_))
    rw [hzext, ofNat_shift_imm]

/-! ## The ALU functions (R205, R206) -/

/-- A saturating function of two registers, as its exact value held to 32 bits (R177, R206). -/
theorem aluSat_holds {c : Instr} {s : State} {p : Proc} {d a b : Fin 32} {f : Int → Int → Int} {x : Int}
    (h : s.Executes p 1) (he : exec c s = .next (s.aluSat p d a b f))
    (hx : f (valS (s.bankOf p) a).toInt (valS (s.bankOf p) b).toInt = x) :
    ComputesFl c p 1 s (putS (s.bankOf p) d (satW x)) ((8, (s.bankOf p).fl.getLsbD 8 || overW x) :: zn (satW x)) := by
  rw [← sat32_fst, ← sat32_snd]
  exact aluSat_computes h he hx

theorem wrappingResults : Claims.WrappingResults := by
  intro s p d a b h B x y
  refine ⟨?add, ?sub, ?and, ?or, ?xor, ?andn, ?sllv, ?srlv, ?srav, ?cmplt, ?cmpltu, ?min, ?max, fun k => ?shift⟩
  case add => exact alu_computes h rfl (flagsAdd_are B.fl x y)
  case sub => exact alu_computes h rfl (flagsSub_are B.fl x y)
  case and => exact aluZN_computes h rfl rfl
  case or => exact aluZN_computes h rfl rfl
  case xor => exact aluZN_computes h rfl rfl
  case andn => exact aluZN_computes h rfl rfl
  case sllv => exact aluZN_computes h rfl rfl
  case srlv => exact aluZN_computes h rfl rfl
  case srav => exact aluZN_computes h rfl rfl
  case cmplt => exact aluZN_computes h rfl (boolWord_slt x y)
  case cmpltu => exact aluZN_computes h rfl (boolWord_ult x y)
  case min => exact aluZN_computes h rfl (ite_slt_left x y)
  case max => exact aluZN_computes h rfl (ite_slt_right x y)
  case shift => exact ⟨aluShift_computes h rfl, aluShift_computes h rfl, aluShift_computes h rfl⟩

theorem saturatingResults : Claims.SaturatingResults := by
  intro s p d a b h B x y sat
  refine ⟨?qadd, ?qsub, ?qabs, ?qneg⟩
  case qadd => exact aluSat_holds h rfl rfl
  case qsub => exact aluSat_holds h rfl rfl
  case qabs => exact aluSat_holds h rfl (Int.abs_eq_natAbs x).symm
  case qneg => exact aluSat_holds h rfl rfl

/-- Settles O1: the functions that wrap, and those that saturate. -/
theorem aluResultsAndFlags : Obligations.AluResultsAndFlags := ⟨wrappingResults, saturatingResults⟩

/-! ## Products (R207) -/

section
variable {c : Instr} {s : State} {p : Proc} {cost : Nat} {d a b : Fin 32} {f : Word → Word → Word} {k : Nat}
  {g : Word → Word → Bool} {r : Word} {t : Bool} (h : s.Executes p cost)
  (he : exec c s = .next (s.mds p cost d a b f k g)) (hr : f (valS (s.bankOf p) a) (valS (s.bankOf p) b) = r)
include h he hr

/-- An MDS function, by its result and whether the condition of its flag holds. -/
theorem mds_gives (hk : k < 32) (hg : g (valS (s.bankOf p) a) (valS (s.bankOf p) b) = t) :
    ComputesFl c p cost s (putS (s.bankOf p) d r) [(k, (s.bankOf p).fl.getLsbD k || t)] :=
  hr ▸ hg ▸ mds_computes hk h he

/-- Where the condition of its flag fails, an MDS function is a plain computation. -/
theorem mds_plain (hg : g (valS (s.bankOf p) a) (valS (s.bankOf p) b) = false) :
    Computes c p cost s (putS (s.bankOf p) d r) := by
  refine Computes.of_regOp _ h he ?_
  simp only [Regs.bank_stick, Regs.bank_setS, Regs.sr_eq, hg, hr, sticky_false]

end

/-! ## Square roots (R207, R208) -/

/-- The invariant of the root by bits: the root lies in the 2^i values from r on. -/
theorem isqrtFrom_eq_sqrt (n i r : Nat) (hlo : r * r ≤ n) (hhi : n < (r + 2 ^ i) * (r + 2 ^ i)) :
    isqrtFrom n i r = Nat.sqrt n := by
  induction i generalizing r with
  | zero => exact Nat.eq_sqrt.2 ⟨hlo, hhi⟩
  | succ i ih =>
    have hstep : r + 2 ^ (i + 1) = r + 2 ^ i + 2 ^ i := by rw [pow_succ]; ring
    rw [isqrtFrom]
    split
    case isTrue hbit => exact ih _ hbit (hstep ▸ hhi)
    case isFalse hbit => exact ih _ hlo (Nat.not_le.1 hbit)

theorem isqrt_eq_sqrt {n : Nat} (h : n < 2 ^ 64) : isqrt n = Nat.sqrt n :=
  isqrtFrom_eq_sqrt n 32 0 (Nat.zero_le n) (by simpa using h)

theorem msb_iff_neg (x : Word) : x.msb = true ↔ x.toInt < 0 := by
  rw [BitVec.msb_eq_toInt, decide_eq_true_eq]

/-- A root: SQN and 0 for a negative operand, else the floor of the root of the operand as the function scales it. -/
theorem root_computes {c : Instr} {s : State} {p : Proc} {d a : Fin 32} {f : Nat → Nat} {x : Word}
    (hx : valS (s.bankOf p) a = x) (hf : f x.toNat < 2 ^ 64) (h : s.Executes p 20)
    (he : exec c s = .next (s.mds p 20 d a 0
      (fun x _ => if x.msb then 0 else BitVec.ofNat 32 (isqrt (f x.toNat))) flSQN fun x _ => x.msb)) :
    ComputesFl c p 20 s (putS (s.bankOf p) d (if x.toInt < 0 then 0 else BitVec.ofNat 32 (Nat.sqrt (f x.toNat))))
      [(11, (s.bankOf p).fl.getLsbD 11 || decide (x.toInt < 0))] := by
  refine mds_gives h he ?_ (by decide) ?_
  · simp only [hx, isqrt_eq_sqrt hf, msb_iff_neg]
  · rw [hx, BitVec.msb_eq_toInt]

theorem productsAndRoots : Claims.ProductsAndRoots := by
  intro s p d a b B x y
  refine ⟨fun h => ⟨?mul, ?mulh, ?mulhu, qmulRaw x y, rneDiv_nearest _ 31, ?qmul⟩, fun h => ⟨?sqrt, ?qsqrt⟩⟩
  case mul =>
    refine mds_plain h rfl ?_ rfl
    change x * y = _
    rw [BitVec.ofNat_mul, BitVec.ofNat_toNat, BitVec.ofNat_toNat, BitVec.setWidth_eq, BitVec.setWidth_eq]
  case mulh => exact mds_plain h rfl rfl rfl
  case mulhu => exact mds_plain h rfl rfl rfl
  case qmul => exact mds_gives h rfl (sat32_fst _) (by decide) (sat32_snd _)
  case sqrt => exact root_computes (f := id) rfl (x.isLt.trans (by decide)) h rfl
  case qsqrt => exact root_computes (f := (· * 2 ^ 31)) rfl (by omega) h rfl

/-! ## Quotients and remainders (R207, R208) -/

section
variable {s : State} {p : Proc} {d a b : Fin 32} {x y : Word} (hx : valS (s.bankOf p) a = x)
  (hy : valS (s.bankOf p) b = y) (h : s.Executes p 18)
include hx hy h

/-- DIV by zero: the largest value of the dividend's sign, and DZ. -/
theorem div_by_zero (h0 : y = 0) :
    ComputesFl (.div p d a b) p 18 s (putS (s.bankOf p) d (if x.toInt < 0 then 0x80000000 else 0x7FFFFFFF))
      [(10, (s.bankOf p).fl.getLsbD 10 || true)] := by
  refine ComputesFl.of_regOp _ h rfl (by rw [putS_fl]; exact sticky_are _ 10 true (by decide)) ?_
  simp only [Regs.bank_stick, Regs.bank_setS, Regs.sr_eq, hx, hy, h0, divResult, if_true, msb_iff_neg, putS_fl,
    beq_self_eq_true, show ((0 : Word) == 0xFFFFFFFF) = false from rfl, Bool.and_false, sticky_false]

/-- DIV by another divisor: the quotient held to 32 bits, and SAT for the one that does not fit. -/
theorem div_by_nonzero (h0 : y ≠ 0) :
    ComputesFl (.div p d a b) p 18 s (putS (s.bankOf p) d (satW (x.toInt.tdiv y.toInt)))
      [(8, (s.bankOf p).fl.getLsbD 8 || decide (x = 0x80000000 ∧ y = 0xFFFFFFFF))] := by
  refine ComputesFl.of_regOp _ h rfl (by rw [putS_fl]; exact sticky_are _ 8 _ (by decide)) ?_
  simp only [Regs.bank_stick, Regs.bank_setS, Regs.sr_eq, hx, hy, divResult, h0, if_false, sat32_fst, putS_fl,
    beq_eq_false_iff_ne.2 h0, sticky_false, Bool.decide_and, beq_eq_decide]

end

theorem divisionFixedResults : Claims.DivisionFixedResults := by
  intro s p d a b h B x y dz
  refine ⟨fun h0 => ?zero, fun h0 => ?nonzero⟩
  case zero =>
    have hz : (y == 0) = true := beq_iff_eq.2 h0
    have of_mds {c : Instr} {f : Word → Word → Word} {r : Word}
        (he : exec c s = .next (s.mds p 18 d a b f 10 fun _ v => v == 0)) (hr : f x y = r) :
        ComputesFl c p 18 s (putS B d r) (dz true) :=
      mds_gives h he hr (by decide) hz
    exact ⟨div_by_zero rfl rfl h h0, of_mds rfl (if_pos h0), of_mds rfl (if_pos h0), of_mds rfl (if_pos h0)⟩
  case nonzero =>
    have hz : (y == 0) = false := beq_eq_false_iff_ne.2 h0
    have hrem : remResult x y = BitVec.ofInt 32 (x.toInt - y.toInt * x.toInt.tdiv y.toInt) := by
      rw [remResult, if_neg h0, Int.tmod_def]
    exact ⟨div_by_nonzero rfl rfl h h0, mds_plain h rfl (if_neg h0) hz, mds_plain h rfl hrem hz,
      mds_plain h rfl (if_neg h0) hz⟩

/-- Settles O2: the products and roots, and the quotients with their fixed results. -/
theorem productsQuotientsRoots : Obligations.ProductsQuotientsRoots := ⟨productsAndRoots, divisionFixedResults⟩

end Sys2Proof.Machine

namespace Sys2Proof.Machine
open Sys2Proof.Claims

/-! SUPPORT. Moves between scalars and vectors, and the accumulator functions (R213, R214). -/

/-! ## Moves (R213) -/

theorem el_setElem (v : Vec) (e : Fin 4) (x : Word) (i : Fin 4) :
    el (setElem v e x) i = if i = e then x else el v i :=
  (el_vec4 (fun j => if e = j then x else el v j) i).trans (if_congr eq_comm rfl rfl)

/-- The sum of the elements modulo 2^32 is that of their values. -/
theorem elem_sum (v : Vec) :
    elem v 0 + elem v 1 + elem v 2 + elem v 3 =
      BitVec.ofNat 32 ((List.finRange 4).map fun i => (el v i).toNat).sum := by
  simp only [List.finRange_succ, List.finRange_zero, List.map_cons, List.map_nil, List.sum_cons, List.sum_nil,
    BitVec.ofNat_add, BitVec.ofNat_toNat, BitVec.setWidth_eq, add_zero, ← add_assoc]
  rfl

section
variable {s : State} {p : Proc} {c : Instr} (h : s.Executes p 1)
include h

theorem setV_computes {d : Fin 16} {f : Regs → Vec} {x : Vec} (he : exec c s = .next (s.regOp p 1 fun r => r.setV d (f r)))
    (hx : f ⟨s.bankOf p, []⟩ = x) : Computes c p 1 s (putV (s.bankOf p) d x) :=
  Computes.of_regOp _ h he (hx ▸ Regs.bank_setV ..)

theorem setS_computes {d : Fin 32} {f : Regs → Word} {x : Word}
    (he : exec c s = .next (s.regOp p 1 fun r => r.setS d (f r))) (hx : f ⟨s.bankOf p, []⟩ = x) :
    Computes c p 1 s (putS (s.bankOf p) d x) := Computes.of_regOp _ h he (hx ▸ Regs.bank_setS ..)

theorem setA_computes {d : Fin 8} {f : Regs → Acc} {x : Acc} (he : exec c s = .next (s.regOp p 1 fun r => r.setA d (f r)))
    (hx : f ⟨s.bankOf p, []⟩ = x) : Computes c p 1 s (putA (s.bankOf p) d x) :=
  Computes.of_regOp _ h he (hx ▸ Regs.bank_setA ..)

end

theorem vectorMoves : Claims.VectorMoves := by
  intro s p e h B
  refine ⟨fun d a => ?vins, fun d a => ?vext, fun d a => ?vbc, fun d a => ?vmov, fun d a => ?vsum⟩
  case vins => exact ⟨_, el_setElem B.v[d] e (valS B a), setV_computes h rfl rfl⟩
  case vext => exact setS_computes h rfl rfl
  case vbc => exact ⟨_, el_vec4 fun _ => valS B a, setV_computes h rfl rfl⟩
  case vmov => exact setV_computes h rfl rfl
  case vsum => exact setS_computes h rfl (elem_sum B.v[a])

/-! ## Accumulators (R214) -/

/-- Word w of an accumulator, as the number its bits spell. -/
theorem accWord_toNat (v : Acc) (w : Nat) : (accWord v w).toNat = v.toNat / 2 ^ (32 * w) % 2 ^ 32 := by
  rw [accWord, BitVec.extractLsb'_toNat, Nat.shiftRight_eq_div_pow]

theorem accWord_append (f : Fin 3 → Word) (i : Fin 3) : accWord (f 2 ++ f 1 ++ f 0) i = f i := by
  refine BitVec.eq_of_toNat_eq ?_
  have h0 := (f 0).isLt
  have h1 := (f 1).isLt
  have h2 := (f 2).isLt
  rw [accWord_toNat, toNat_append_add, toNat_append_add]
  match i with
  | 0 => change _ / 1 % 2 ^ 32 = _; omega
  | 1 => change _ / 2 ^ 32 % 2 ^ 32 = _; omega
  | 2 => change _ / 2 ^ 64 % 2 ^ 32 = _; omega

theorem accWord_setAccWord (v : Acc) (w : Fin 3) (x : Word) (i : Fin 3) :
    accWord (setAccWord v w x) i = if i = w then x else accWord v i :=
  (accWord_append (fun j => if w = j then x else accWord v j) i).trans (if_congr eq_comm rfl rfl)

/-- ARND: the accumulator rounded, held to 32 bits, SAT where it did not fit (R177). -/
theorem arnd_computes {s : State} {p : Proc} {d : Fin 32} {a : Fin 8} {x : Fin 64} {q : Int} (h : s.Executes p 1)
    (hq : rneDiv ((s.bankOf p).acc[a]).toInt (2 ^ (x.val + 1)) = q) :
    ComputesFl (.arnd p d a x) p 1 s (putS (s.bankOf p) d (satW q)) [(8, (s.bankOf p).fl.getLsbD 8 || overW q)] := by
  subst hq
  refine ComputesFl.of_regOp _ h rfl (by rw [putS_fl]; exact sticky_are _ 8 _ (by decide)) ?_
  simp only [Regs.bank_stick, Regs.bank_setS, sat32_fst, sat32_snd, putS_fl]
  rfl

theorem accumulatorFunctions : Claims.AccumulatorFunctions := by
  intro s p h B word adds
  refine ⟨fun d => ?aclr, fun d a => ?amov, fun d a x => ?aadds, fun d a => ?aadd, fun d a => ?asub,
    fun d a x => ?arnd, fun d a w => ?ardw, fun d a w => ?awrw⟩
  case aclr => exact setA_computes h rfl rfl
  case amov => exact setA_computes h rfl rfl
  case aadds => exact addAcc_computes h rfl rfl
  case aadd => exact addAcc_computes h rfl rfl
  case asub => exact addAcc_computes h rfl rfl
  case arnd => exact ⟨_, rneDiv_nearest (B.acc[a]).toInt (x.val + 1), arnd_computes h rfl⟩
  case ardw =>
    refine setS_computes h rfl (BitVec.eq_of_toNat_eq ?_)
    rw [BitVec.toNat_ofNat, Nat.mod_mod]
    exact accWord_toNat ..
  case awrw =>
    refine ⟨_, fun i => ?_, setA_computes h rfl rfl⟩
    change _ = if i = w then _ else (B.acc[d]).toNat / 2 ^ (32 * i.val) % 2 ^ 32
    rw [← accWord_toNat, ← apply_ite BitVec.toNat, ← accWord_setAccWord]
    exact (accWord_toNat _ _).symm

/-- Settles O6: the moves, and the accumulator functions. -/
theorem vectorMovesAndAccumulators : Obligations.VectorMovesAndAccumulators := ⟨vectorMoves, accumulatorFunctions⟩

end Sys2Proof.Machine

namespace Sys2Proof.Machine
open Sys2Proof.Claims

/-! SUPPORT. Compare and branch, CALL and JUMP (R217, R218). -/

/-! ## Compare and branch (R217) -/

/-- A branch address counts in words from the instruction's own (R217, R218). -/
theorem branchTarget_eq (pc : Word) (off : BitVec 16) :
    branchTarget pc off = BitVec.ofInt 32 (pc.toNat + 4 * off.toInt) := by
  have hshift : off.signExtend 32 <<< 2 = BitVec.ofInt 32 4 * BitVec.ofInt 32 off.toInt := by
    rw [BitVec.shiftLeft_eq_mul_twoPow, BitVec.mul_comm]
    rfl
  rw [branchTarget, hshift, ← BitVec.ofInt_mul, BitVec.ofInt_add, BitVec.ofInt_natCast, BitVec.ofNat_toNat,
    BitVec.setWidth_eq]

theorem not_slt_iff (x y : Word) : (!x.slt y) = true ↔ y.toInt ≤ x.toInt := by
  rw [Bool.not_eq_true', BitVec.slt_eq_decide, decide_eq_false_iff_not, not_lt]

theorem not_ult_iff (x y : Word) : (!x.ult y) = true ↔ y.toNat ≤ x.toNat := by
  rw [Bool.not_eq_true', BitVec.ult_eq_decide, decide_eq_false_iff_not, not_lt]

section
variable {s : State} {p : Proc} {a b : Fin 32} {off : BitVec 16} {i : Instr} {c : Word → Word → Bool}
  (h : s.Executes p 1) (hx : exec i s = .next (s.branch p a b off c))
include h hx

theorem branch_taken (hc : c (valS (s.bankOf p) a) (valS (s.bankOf p) b) = true) :
    Goes i p 1 s (s.bankOf p) (BitVec.ofInt 32 ((s.pcOf p).toNat + 4 * off.toInt)) (s.loopsOf p) := by
  refine Goes.of_instr (r := ⟨s.bankOf p, []⟩) h hx ?_ rfl
  simp only [Regs.sr_eq, hc, if_true, branchTarget_eq]

theorem branch_not_taken (hc : ¬ c (valS (s.bankOf p) a) (valS (s.bankOf p) b) = true) :
    Computes i p 1 s (s.bankOf p) := by
  refine Acts.of_instr (r := ⟨s.bankOf p, []⟩) h hx ?_ rfl
  rw [Regs.sr_eq, Regs.sr_eq, if_neg hc]

end

theorem compareAndBranch : Claims.CompareAndBranch := by
  intro s p a b off h B x y target br
  have of_branch {i : Instr} {c : Word → Word → Bool} {taken : Prop} (hx : exec i s = .next (s.branch p a b off c))
      (hc : c x y = true ↔ taken) : br i taken :=
    ⟨fun ht => branch_taken h hx (hc.2 ht), fun hn => branch_not_taken h hx (mt hc.1 hn)⟩
  refine ⟨?ifeq, ?ifne, ?iflt, ?ifge, ?ifltu, ?ifgeu⟩
  case ifeq => exact of_branch rfl beq_iff_eq
  case ifne => exact of_branch rfl bne_iff_ne
  case iflt => exact of_branch rfl BitVec.slt_iff_toInt_lt
  case ifge => exact of_branch rfl (not_slt_iff x y)
  case ifltu => exact of_branch rfl BitVec.ult_iff_toNat_lt
  case ifgeu => exact of_branch rfl (not_ult_iff x y)

/-! ## CALL and JUMP (R218) -/

theorem regionOf_control_iff (a : Nat) : regionOf a = .control ↔ 0x10400000 ≤ a ∧ a < 0x10580000 := by
  constructor
  · intro h
    have := regionOf_holds a
    rwa [h] at this
  · intro h
    rw [regionOf, if_neg (by omega), if_neg (by omega), if_pos h]

/-- Where a program of a core may stand: the boot ROM and control memory (R35, R218). -/
theorem jumpable_iff (a : Nat) :
    (regionOf a = .rom ∨ regionOf a = .control) ↔ a < 0x80000 ∨ (0x10400000 ≤ a ∧ a < 0x10580000) := by
  rw [regionOf_rom_iff, regionOf_control_iff]

section
variable {s : State} {c : Fin 2} {d a : Fin 32} {imm : BitVec 16} (h : s.Executes (.cc c) 1)
include h

theorem call_faults (hl : s.loopsOf (.cc c) ≠ []) : Faults (.call (.cc c) d imm) (.cc c) s ⟨0x07, 0xFF, none⟩ :=
  Faults.of_instr h rfl (if_pos hl)

theorem call_goes (hl : s.loopsOf (.cc c) = []) :
    Goes (.call (.cc c) d imm) (.cc c) 1 s (putS (s.bankOf (.cc c)) d (s.pcOf (.cc c) + 4))
      (BitVec.ofInt 32 ((s.pcOf (.cc c)).toNat + 4 * imm.toInt)) [] := by
  refine Goes.of_instr h rfl ?_ (Regs.bank_setS ⟨s.bankOf (.cc c), []⟩ d _)
  rw [if_neg (not_not.2 hl), hl, branchTarget_eq]

theorem jump_faults_in_loop (hl : s.loopsOf (.cc c) ≠ []) :
    Faults (.jump (.cc c) d a) (.cc c) s ⟨0x07, 0xFF, none⟩ := Faults.of_instr h rfl (if_pos hl)

variable {t : Word} (hl : s.loopsOf (.cc c) = []) (ht : valS (s.bankOf (.cc c)) a = t)
include hl ht

theorem jump_unaligned (h4 : t.toNat % 4 ≠ 0) : Faults (.jump (.cc c) d a) (.cc c) s ⟨0x03, 0xFF, none⟩ := by
  refine Faults.of_instr h rfl ?_
  rw [if_neg (not_not.2 hl), Regs.sr_eq, ht, if_pos h4]
  rfl

theorem jump_outside (h4 : t.toNat % 4 = 0) (hr : ¬ (regionOf t.toNat = .rom ∨ regionOf t.toNat = .control)) :
    Faults (.jump (.cc c) d a) (.cc c) s ⟨0x04, 0xFF, none⟩ := by
  refine Faults.of_instr h rfl ?_
  rw [if_neg (not_not.2 hl), Regs.sr_eq, ht, if_neg (not_not.2 h4), if_pos (not_or.1 hr)]
  rfl

/-- JUMP reads its source before it writes its link. -/
theorem jump_goes (h4 : t.toNat % 4 = 0) (hr : regionOf t.toNat = .rom ∨ regionOf t.toNat = .control) :
    Goes (.jump (.cc c) d a) (.cc c) 1 s (putS (s.bankOf (.cc c)) d (s.pcOf (.cc c) + 4)) t [] := by
  refine Goes.of_instr h rfl ?_ (Regs.bank_setS ⟨s.bankOf (.cc c), []⟩ d _)
  rw [if_neg (not_not.2 hl), Regs.sr_eq, ht, if_neg (not_not.2 h4), if_neg fun hn => hr.elim hn.1 hn.2, hl]

end

theorem callAndJump : Claims.CallAndJump := by
  intro s c d a imm h p B t link target
  refine ⟨fun hl => ⟨call_faults h hl, jump_faults_in_loop h hl⟩,
    fun hl => ⟨call_goes h hl, jump_unaligned h hl rfl, ?_⟩⟩
  intro h4
  rw [← jumpable_iff]
  exact ⟨jump_goes h hl rfl h4, jump_outside h hl rfl h4⟩

/-- Settles O8: the compare and branch instructions, then CALL and JUMP. -/
theorem branchesCallsJumps : Obligations.BranchesCallsJumps := ⟨compareAndBranch, callAndJump⟩

end Sys2Proof.Machine

namespace Sys2Proof.Machine
open Sys2Proof.Claims

/-! SUPPORT. END: the end of a lane's run and of a core's program (R216, R221, R228, R244, R253, R254). -/

/-! ## Booking leaves the lanes alone (R269) -/

section
variable (s : State)

theorem foldl_lanes {α : Type} {f : State → α → State} (hf : ∀ t x, (f t x).lanes = t.lanes) (l : List α) :
    (l.foldl f s).lanes = s.lanes := by
  induction l generalizing s with
  | nil => rfl
  | cons x l ih => exact (ih (f s x)).trans (hf s x)

@[simp] theorem State.arrive_lanes (src : Nat) : (s.arrive src).lanes = s.lanes :=
  (State.arrive_frame (P := fun _ => True) [] s src fun _ _ => trivial).2 .lanes (List.not_mem_nil)

@[simp] theorem State.closeGap_lanes (grain : Nat) : (s.closeGap grain).lanes = s.lanes := by
  unfold State.closeGap
  split <;> rfl

@[simp] theorem State.setSlot_lanes (n : Fin 72) (x : Slot) : (s.setSlot n x).lanes = s.lanes := rfl

@[simp] theorem State.stageWrap_lanes (slot sub dir : Nat) : (s.stageWrap slot sub dir).lanes = s.lanes := rfl

@[simp] theorem State.slotAdd_lanes (n : Fin 72) (i : Nat) (v : Int) : (s.slotAdd n i v).lanes = s.lanes := by
  unfold State.slotAdd
  dsimp only
  split <;> simp

@[simp] theorem State.slotFlags_lanes (n : Nat) (mrk inv unver : Bool) : (s.slotFlags n mrk inv unver).lanes = s.lanes := by
  unfold State.slotFlags
  split_ifs <;> rfl

@[simp] theorem State.wholeLen_lanes : s.wholeLen.2.lanes = s.lanes := by
  unfold State.wholeLen
  split <;> rfl

@[simp] theorem State.pulseRequest_lanes (n : Fin 4) (k : Nat) : (s.pulseRequest n k).lanes = s.lanes := by
  unfold State.pulseRequest
  dsimp only
  split_ifs <;> simp

@[simp] theorem State.pulseBooked_lanes (slot : Nat) (signed : Bool) (sub : Nat) (v : Int) :
    (s.pulseBooked slot signed sub v).lanes = s.lanes := by
  refine foldl_lanes s (fun t n => ?_) _
  unfold State.pulseTake
  split_ifs <;> simp

@[simp] theorem State.post_lanes (n : Fin 72) (v : Int) : (s.post n v).lanes = s.lanes := by
  unfold State.post
  dsimp only
  split_ifs <;> simp

theorem State.book_lanes (n : Fin 64) (owner : Nat) (inc : Int) (mrk inv unver : Bool) :
    (s.book n owner inc mrk inv unver).lanes = s.lanes := by
  unfold State.book
  split_ifs <;> simp

theorem State.bookIncs_lanes (owner : Nat) (unver : Bool) (l : List Inc) : (s.bookIncs owner unver l).lanes = s.lanes := by
  refine (foldl_lanes _ (fun t n => ?_) _).trans ?_
  · split
    · rfl
    · exact State.book_lanes ..
  · split_ifs <;> simp

end

/-! ## A lane's run (R216, R221, R244) -/

section
variable {l : Lane}

theorem Lane.endRun_pitch (h : l.cur = some .pitch) : l.endRun =
    { (l.noteRun .pitch l.p.pc none).flush with
      p := { l.p with loops := [] }, pitchIncs := [], cur := none, pitchOn := false } := by
  simp only [Lane.endRun, h]

/-- The lane at the end of its grain program, before a slice begins. -/
def Lane.grainOver (l : Lane) : Lane :=
  { (l.noteRun .grain l.g.pc none).flush with g := { l.g with loops := [] }, incs := [], cur := none }

theorem Lane.endRun_grain (h : l.cur ≠ some .pitch) : l.endRun = l.grainOver.beginSlice := by
  unfold Lane.endRun
  split
  · next h' => exact absurd h' h
  · rfl

/-- Whatever ran, its queues go to what the grain puts out. -/
theorem Lane.endRun_queues : l.endRun.wq = [] ∧ l.endRun.cueq = [] ∧ l.endRun.outQ = l.outQ ++ l.wq ∧
    l.endRun.outCues = l.outCues ++ l.cueq ∧ l.endRun.outIncs = l.outIncs := by
  by_cases h : l.cur = some .pitch
  · rw [Lane.endRun_pitch h]
    exact ⟨rfl, rfl, rfl, rfl, rfl⟩
  · rw [Lane.endRun_grain h]
    obtain ⟨hwq, hcueq, hout, hcues, hincs, _⟩ := Lane.beginSlice_kept (l := l.grainOver)
    exact ⟨hwq, hcueq, hout, hcues, hincs⟩

/-- A pitch program's run has ended for this pitch (R228). -/
theorem Lane.endRun_pitch_ended (h : l.cur = some .pitch) : l.endRun.cur = none ∧ l.endRun.pitchOn = false ∧
    l.endRun.p.loops = [] ∧ l.endRun.p.bank = l.p.bank ∧ l.endRun.g = l.g := by
  rw [Lane.endRun_pitch h]
  exact ⟨rfl, rfl, rfl, rfl, rfl⟩

/-- A grain program gives way to the slice (R244). -/
theorem Lane.endRun_grain_ended (h : l.cur = some .grain) : l.endRun.g.loops = [] ∧ l.endRun.g.bank = l.g.bank ∧
    l.endRun.cur ≠ some .grain ∧
    (l.endRun.cur = some .pitch ↔ l.imgP.isSome = true ∧ (l.pitchOn = true ∨ l.pitchDue = true)) := by
  rw [Lane.endRun_grain (by simp [h])]
  obtain ⟨_, _, _, _, _, hg, _⟩ := Lane.beginSlice_kept (l := l.grainOver)
  rw [hg]
  exact ⟨rfl, rfl, Lane.beginSlice_cur⟩

end

section
variable {s : State} {n : Fin 5}

theorem State.lane_pairCompare (m : Fin 5) : (s.pairCompare n).lane m = s.lane m := by
  simp only [State.lane, show (s.pairCompare n).lanes = s.lanes from (s.pairCompare_frame n).2 .lanes (by decide)]

theorem State.lane_bookIncs {owner : Nat} {unver : Bool} {l : List Inc} (m : Fin 5) :
    (s.bookIncs owner unver l).lane m = s.lane m := by
  simp only [State.lane, State.bookIncs_lanes]

/-- The run has ended; a member of the pair keeps its increments for the comparison, and another lane's are booked, which
leaves the lane alone (R221). -/
theorem State.lane_laneEnd : (s.laneEnd n).lane n =
    { (s.lane n).endRun with
      outIncs := (s.lane n).endRun.outIncs ++ if s.roped n then [(s.lane n).runIncs] else [] } := by
  cases hr : s.roped n with
  | true => simp only [State.laneEnd, hr, if_true, State.lane_pairCompare, State.lane_setLane_same]
  | false =>
    simp only [State.laneEnd, hr, Bool.false_eq_true, if_false, State.lane_bookIncs, State.lane_setLane_same,
      List.append_nil]

theorem exec_endRun_lane (h : s.Executes (.lane n) 1) : exec (.endRun (.lane n)) s = .next (s.laneEnd n) := by
  change Host.Outcome.next (if s.runs (.lane n) = true then (if s.sliceOver (.lane n) 1 = true then _ else _) else _) = _
  rw [if_pos h.1, if_neg (by simp [h.2])]

end

/-! ## A core's program (R228, R253, R254) -/

section
variable {s : State} {c : Fin 2}

@[simp] theorem State.setCore_setCore (k k' : CoreSt) : (s.setCore c k).setCore c k' = s.setCore c k' := by
  simp only [State.setCore, Vector.set_set]

theorem exec_endRun_core (h : s.Executes (.cc c) 1) : exec (.endRun (.cc c)) s =
    .next (if s.inHandler c then s.trap (.cc c) (trapCode 0x02) else s.coreEnd c) := by
  change Host.Outcome.next (if s.runs (.cc c) = true then _ else _) = _
  rw [if_pos h.1]
  rfl

/-- The core as the end of its base level's program leaves it, when nothing else waits to run. -/
def CoreSt.ended (k : CoreSt) : CoreSt := { k with run := .idle, loopsBase := [], waiting := true }

/-- A start of a cue program changes its core alone. -/
theorem State.startCue_setCore (k : CoreSt) (m : Nat) : ∃ k', (s.setCore c k).startCue c m = s.setCore c k' :=
  ⟨_, State.setCore_setCore ..⟩

theorem State.svcNext_setCore (k : CoreSt) : ∃ k', (s.setCore c k).svcNext c = s.setCore c k' := by
  unfold State.svcNext
  split
  · split_ifs
    · exact ⟨_, State.setCore_setCore ..⟩
    · exact ⟨k, rfl⟩
  · exact ⟨k, rfl⟩

/-- The end of a program changes its core alone. -/
theorem State.coreEnd_setCore : ∃ k, s.coreEnd c = s.setCore c k := by
  unfold State.coreEnd
  dsimp only
  split
  · split
    · exact State.startCue_setCore ..
    · split
      · exact ⟨_, rfl⟩
      · exact State.svcNext_setCore ..
  · exact State.svcNext_setCore ..

/-- The next queued cue program starts (R253, R254). -/
theorem State.coreEnd_launches {n m : Nat} {rest : List Nat} (hr : (s.core c).run = .cueProg n)
    (hl : (s.core c).launch = m :: rest) :
    let k := (s.coreEnd c).core c
    k.run = .cueProg m ∧ k.launch = rest ∧ k.bank.s[1] = BitVec.ofNat 32 s.clock.grain ∧
    k.bank.s[2] = BitVec.ofNat 32 m ∧ k.loopsBase = [] ∧ k.saved = (s.core c).saved := by
  have he : s.coreEnd c = (s.setCore c { s.core c with launch := rest }).startCue c m := by
    simp only [State.coreEnd, hr, hl]
  rw [he, State.startCue, State.core_setCore_same, State.core_setCore_same]
  exact ⟨rfl, rfl, rfl, rfl, rfl, rfl⟩

/-- The saved service program goes on as it was (R253). -/
theorem State.coreEnd_resumes {n : Nat} {sv : SavedRun} (hr : (s.core c).run = .cueProg n)
    (hl : (s.core c).launch = []) (hs : (s.core c).saved = some sv) :
    let k := (s.coreEnd c).core c
    k.run = .service ∧ k.bank = sv.bank ∧ k.shadow = sv.shadow ∧ k.pc = sv.pc ∧ k.loopsBase = sv.loops ∧
    k.waiting = sv.waiting ∧ k.saved = none := by
  simp only [State.coreEnd, hr, hl, hs, State.core_setCore_same, and_self]

theorem State.coreEnd_service (hr : (s.core c).run = .service) :
    s.coreEnd c = (s.setCore c (s.core c).ended).svcNext c := by
  simp only [State.coreEnd, hr]
  rfl

/-- With no program left the core waits (R228). -/
theorem State.coreEnd_waits (hr : (s.core c).run = .service) (hn : (s.core c).newSvc = none) :
    let k := (s.coreEnd c).core c
    k.run = .idle ∧ k.waiting = true ∧ k.loopsBase = [] := by
  have hnew : ((s.setCore c (s.core c).ended).core c).newSvc = none := by
    rw [State.core_setCore_same]
    exact hn
  rw [State.coreEnd_service hr, State.svcNext_stays (.inr hnew), State.core_setCore_same]
  exact ⟨rfl, rfl, rfl⟩

/-- The new service program that waits for the core starts (R241). -/
theorem State.coreEnd_replaces {pc : Word} (hr : (s.core c).run = .service) (hn : (s.core c).newSvc = some pc)
    (hh : s.inHandler c = false) :
    let k := (s.coreEnd c).core c
    k.run = .service ∧ k.pc = pc ∧ k.waiting = false ∧ k.newSvc = none := by
  have hnew : (s.core c).ended.newSvc = some pc := hn
  have hidle : (s.core c).ended.run = .idle := rfl
  simp [State.coreEnd_service hr, State.svcNext, hnew, hidle, hh]

end

/-- Settles O20: the end of a lane's run, and of a core's program by what waits for the core. -/
theorem endOfARun : Obligations.EndOfARun := by
  intro s p h
  refine ⟨?lane, ?core⟩
  case lane =>
    rintro n rfl
    refine ⟨_, exec_endRun_lane h, ?_⟩
    intro l k
    obtain ⟨hwq, hcueq, hout, hcues, hincs⟩ := Lane.endRun_queues (l := l)
    have hk : k = _ := State.lane_laneEnd
    rw [hk]
    refine ⟨hwq, hcueq, hout, hcues, fun hr => ?_, Lane.endRun_pitch_ended, Lane.endRun_grain_ended⟩
    rw [if_pos hr, hincs]
    rfl
  case core =>
    rintro c rfl
    refine ⟨fun hh => ?handler, fun hh => ?program⟩
    case handler => exact (exec_endRun_core h).trans (congrArg _ (if_pos hh))
    case program =>
      refine ⟨s.coreEnd c, (exec_endRun_core h).trans (congrArg _ (if_neg (by simp [hh]))), ?_⟩
      intro k
      refine ⟨fun n m rest => State.coreEnd_launches, fun n sv => State.coreEnd_resumes, State.coreEnd_waits,
        fun pc hr hn => State.coreEnd_replaces hr hn hh, ?_⟩
      obtain ⟨k', he⟩ := State.coreEnd_setCore (s := s) (c := c)
      rw [he]
      exact ⟨State.setCore_frame _ _ s c k' (List.mem_singleton_self _),
        fun e hne => State.core_setCore_other s hne.symm k'⟩

end Sys2Proof.Machine

namespace Sys2Proof.Machine
open Sys2Proof.Claims

/-! SUPPORT. LEASE on a processor served for itself, PERMIT on a control core (R222, R223, R256–R258, R497, R498). -/

/-! ## The terms of a lease (R256) -/

section
variable (s : State) (p : Proc) (x : Fin 12)

theorem State.holder_lt : s.holder p < 2 ^ 8 := by
  cases p with
  | lane n =>
    have := n.isLt
    simp only [State.holder]
    split <;> omega
  | cc c =>
    have := c.isLt
    simp only [State.holder]
    omega

theorem State.modLease_same (f : LeaseSt → LeaseSt) : (s.modLease x f).leases[x] = f s.leases[x] := by
  simp [State.modLease]

theorem State.modLease_other (f : LeaseSt → LeaseSt) {q : Fin 12} (h : q ≠ x) :
    (s.modLease x f).leases[q] = s.leases[q] := by
  simp [State.modLease, Fin.val_ne_of_ne h.symm]

theorem State.modLease_frame (P : Fld → Prop) (f : LeaseSt → LeaseSt) : Frame [.leases] P s (s.modLease x f) :=
  .of_flds rfl fun c hc => by
    cases c with
    | leases => exact absurd (List.mem_singleton_self _) hc
    | _ => rfl

end

/-- From s to m the processor has come to hold resource r for a term from now, and nothing else has changed. -/
structure HoldsTerm (p : Proc) (r : Fin 12) (s m : State) : Prop where
  state : m.get (LEASE.HOLD.STATE r) = 1
  holder : m.get (LEASE.HOLD.HOLDER r) = s.holder p
  expires : m.leases[r].expires = s.clock.now + s.leaseTerm p
  others : ∀ q, q ≠ r → m.leases[q] = s.leases[q]
  frame : Same [.leases] [LEASE.HOLD.STATE r, LEASE.HOLD.HOLDER r] s m

section
variable {s : State} {p : Proc} {r : Fin 12}

/-- The holder's own lease runs anew. -/
theorem State.leaseExtend_term (h : s.holds p r = true) : HoldsTerm p r s (s.leaseExtend p r) where
  state := (State.holds_iff.1 h).1
  holder := (State.holds_iff.1 h).2
  expires := by rw [State.leaseExtend, State.modLease_same]
  others _ := s.modLease_other r _
  frame := s.modLease_frame r _ _

theorem State.leaseGive_frame (who : Nat) :
    Same [] [LEASE.HOLD.STATE r, LEASE.HOLD.HOLDER r] s (s.leaseGive r who) :=
  (State.set_frame [] s _ _ (by simp)).then (State.set_frame [] _ _ _ (by simp))

theorem State.leaseGive_term_length (who : Nat) : (s.leaseGive r who).leaseTerm p = s.leaseTerm p := by
  have hget (f : Fld) (hs : LEASE.HOLD.STATE r ≠ f) (hh : LEASE.HOLD.HOLDER r ≠ f) :
      (s.leaseGive r who).get f = s.get f :=
    (State.get_set_other _ hh _).trans (State.get_set_other _ hs _)
  cases p with
  | lane n => rfl
  | cc c =>
    simp only [State.leaseTerm, State.on, hget TIME.PLEN.PLEN (by simp [LEASE.HOLD.STATE, TIME.PLEN.PLEN])
      (by simp [LEASE.HOLD.HOLDER, TIME.PLEN.PLEN]), hget TIME.CTRL.NOM60 (by simp [LEASE.HOLD.STATE, TIME.CTRL.NOM60])
      (by simp [LEASE.HOLD.HOLDER, TIME.CTRL.NOM60])]
    rfl

/-- A free resource is given for a term, and an old mark of revocation ends. -/
theorem State.leaseGive_term :
    HoldsTerm p r s (((s.leaseGive r (s.holder p)).leaseExtend p r).leaseForget r (s.holder p)) where
  state := by
    change (s.leaseGive r (s.holder p)).get _ = 1
    rw [State.leaseGive, State.get_set_other _ (by simp [LEASE.HOLD.STATE, LEASE.HOLD.HOLDER]), State.get_set_same]
    rfl
  holder := by
    change (s.leaseGive r (s.holder p)).get _ = _
    rw [State.leaseGive, State.get_set_same]
    exact Nat.mod_eq_of_lt (s.holder_lt p)
  expires := by
    rw [State.leaseForget, State.modLease_same, State.leaseExtend, State.modLease_same, State.leaseGive_term_length]
    rfl
  others q hq := (State.modLease_other _ r _ hq).trans (State.modLease_other _ r _ hq)
  frame := (((State.leaseGive_frame _).mono (by simp) fun _ h => h).then (State.modLease_frame _ r _ _)).then
    (State.modLease_frame _ r _ _)

/-! ## What the four operations answer (R222) -/

section
variable (h : s.get (LEASE.HOLD.STATE r) = 2)
include h

theorem State.leaseTake_rolling : s.leaseTake p r = (3, s) := if_pos h

theorem State.leaseQuery_rolling : s.leaseQuery p r = (3, s) := by simp [State.leaseQuery, h]

end

section
variable (h : s.holds p r = true)
include h

theorem State.leaseTake_own (hw : s.on (LEASE.HOLD.SUPWAIT r) = false) :
    s.leaseTake p r = (0, s.leaseExtend p r) := by
  simp [State.leaseTake, (State.holds_iff.1 h).1, h, hw]

theorem State.leaseRenew_own (hw : s.on (LEASE.HOLD.SUPWAIT r) = false) :
    s.leaseRenew p r = (0, s.leaseExtend p r) := by
  simp [State.leaseRenew, h, hw]

theorem State.leaseRenew_wanted (hw : s.on (LEASE.HOLD.SUPWAIT r) = true) : s.leaseRenew p r = (4, s) := by
  simp [State.leaseRenew, h, hw]

theorem State.leaseQuery_own : s.leaseQuery p r = (2, s) := by
  simp [State.leaseQuery, (State.holds_iff.1 h).1, h]

theorem State.leaseRelease_own : s.leaseRelease p r = (0, s.rollback r) := if_pos h

end

section
variable (h : s.holds p r = false)
include h

theorem State.leaseTake_held (hs : s.get (LEASE.HOLD.STATE r) = 1) : s.leaseTake p r = (1, s) := by
  simp [State.leaseTake, hs, h]

theorem State.leaseQuery_held (hs : s.get (LEASE.HOLD.STATE r) = 1) : s.leaseQuery p r = (1, s) := by
  simp [State.leaseQuery, hs, h]

theorem State.leaseRenew_lost (hl : s.holder p ∈ (s.lease r).lost) : s.leaseRenew p r = (3, s) := by
  simp [State.leaseRenew, h, hl]

theorem State.leaseRenew_foreign (hl : s.holder p ∉ (s.lease r).lost) : s.leaseRenew p r = (2, s) := by
  simp [State.leaseRenew, h, hl]

theorem State.leaseRelease_lost (hl : s.holder p ∈ (s.lease r).lost) :
    s.leaseRelease p r = (3, s.leaseForget r (s.holder p)) := by
  simp [State.leaseRelease, h, hl]

theorem State.leaseRelease_foreign (hl : s.holder p ∉ (s.lease r).lost) : s.leaseRelease p r = (2, s) := by
  simp [State.leaseRelease, h, hl]

end

theorem State.leaseTake_free (h : s.get (LEASE.HOLD.STATE r) = 0) : s.leaseTake p r =
    (0, ((s.leaseGive r (s.holder p)).leaseExtend p r).leaseForget r (s.holder p)) := by
  have hh : s.holds p r = false := by simp [State.holds, h]
  simp [State.leaseTake, h, hh]

theorem State.leaseQuery_free (h : s.get (LEASE.HOLD.STATE r) = 0) : s.leaseQuery p r = (0, s) := by
  simp [State.leaseQuery, h]

theorem State.leaseForget_forgets (who : Nat) : who ∉ (s.leaseForget r who).leases[r].lost := by
  rw [State.leaseForget, State.modLease_same]
  simp

end

/-! ## LEASE (R222) -/

section
variable {s m : State} {p : Proc} {d : Fin 32} {x : Fin 64} {r : Fin 12} {k : Instr} {op n : Nat}
  {f : State → Fin 12 → Nat × State} (he : s.Executes p 1) (hr : x.val = r.val) (hl : leaseX x = true)
  (hx : exec k s = s.leaseOp p d x op f)
include he hr hl hx

/-- A resource whose unit the part lacks (R222). -/
theorem lease_absent (hu : s.part.hasUnit (leaseUnit r) = false) : Faults k p s ⟨0x0E, leaseUnit r, none⟩ := by
  unfold State.leaseOp at hx
  rw [if_pos hl] at hx
  refine Faults.of_instr he hx ?_
  simp only [hr, hu, Bool.false_eq_true, not_false_eq_true, if_true]

/-- The operation's answer, and what it changes. -/
theorem lease_acts (ha : ServedAlone s p) (hu : s.part.hasUnit (leaseUnit r) = true) (hf : f s r = (n, m)) :
    Acts k p 1 s m (putS (s.bankOf p) d (BitVec.ofNat 32 n)) := by
  have hix : Fin.ofNat 12 r.val = r := Fin.ext (Nat.mod_eq_of_lt r.isLt)
  unfold State.leaseOp at hx
  rw [if_pos hl] at hx
  refine Acts.of_instr he hx ?_ (Regs.bank_setS ⟨s.bankOf p, [.lease op x]⟩ d _)
  simp only [hr, hu, not_true_eq_false, if_false, State.serve_alone ha, hix, hf, List.nil_append]

end

theorem leaseInstructions : Claims.LeaseInstructions := by
  intro s p d x r he ha hr hres B me state holder wait lost gives term
  have hl : leaseX x = true := decide_eq_true (by omega)
  have holds_iff : s.holds p r = true ↔ state = 1 ∧ holder = me := State.holds_iff
  refine ⟨fun hu => ?absent, fun hu => ?present⟩
  case absent =>
    simp only [List.forall_mem_cons, List.not_mem_nil, false_imp_iff, implies_true, and_true]
    exact ⟨lease_absent he hr hl rfl hu, lease_absent he hr hl rfl hu, lease_absent he hr hl rfl hu,
      lease_absent he hr hl rfl hu⟩
  case present =>
    have answers {k : Instr} {op n : Nat} {f : State → Fin 12 → Nat × State} {m : State}
        (hx : exec k s = s.leaseOp p d x op f) (hf : f s r = (n, m)) : Acts k p 1 s m (putS B d (BitVec.ofNat 32 n)) :=
      lease_acts he hr hl hx ha hu hf
    have runs {k : Instr} {op : Nat} {f : State → Fin 12 → Nat × State} {m : State}
        (hx : exec k s = s.leaseOp p d x op f) (hf : f s r = (0, m)) (hm : HoldsTerm p r s m) : term k :=
      ⟨m, answers hx hf, hm.state, hm.holder, hm.expires, hm.others, hm.frame⟩
    refine ⟨fun hs => ?rolling, fun hs hh => ?own, fun hs hh => ?held, fun hs => ?free, fun hn => ?foreign⟩
    case rolling => exact ⟨answers rfl (State.leaseTake_rolling hs), answers rfl (State.leaseQuery_rolling hs)⟩
    case own =>
      have hown := holds_iff.2 ⟨hs, hh⟩
      refine ⟨fun hw => ⟨?_, ?_⟩, fun hw => answers rfl (State.leaseRenew_wanted hown hw),
        answers rfl (State.leaseQuery_own hown), _, answers rfl (State.leaseRelease_own hown), rfl⟩
      · exact runs rfl (State.leaseTake_own hown hw) (State.leaseExtend_term hown)
      · exact runs rfl (State.leaseRenew_own hown hw) (State.leaseExtend_term hown)
    case held =>
      have hnot : s.holds p r = false := Bool.eq_false_iff.2 fun h => hh (holds_iff.1 h).2
      exact ⟨answers rfl (State.leaseTake_held hnot hs), answers rfl (State.leaseQuery_held hnot hs)⟩
    case free => exact ⟨runs rfl (State.leaseTake_free hs) State.leaseGive_term, answers rfl (State.leaseQuery_free hs)⟩
    case foreign =>
      have hnot : s.holds p r = false := Bool.eq_false_iff.2 (mt holds_iff.1 hn)
      refine ⟨fun hlost => ⟨answers rfl (State.leaseRenew_lost hnot hlost), _,
        answers rfl (State.leaseRelease_lost hnot hlost), State.leaseForget_forgets me, s.modLease_frame r _ _⟩,
        fun hlost => ⟨answers rfl (State.leaseRenew_foreign hnot hlost),
          answers rfl (State.leaseRelease_foreign hnot hlost)⟩⟩

/-! ## The slots of the permits (R497, R498) -/

/-- The fields of permit slot n. -/
def permitFields (n : Nat) : List Fld :=
  [PERMIT.SLOT.STATE n, PERMIT.SLOT.HOLDER n, PERMIT.SLOT.CLASS n, PERMIT.SLOT.DRAW n, PERMIT.REM.GRAINS n]

section
variable {s : State} {n who cls draw hold : Nat}

theorem State.mem_freePermits : n ∈ s.freePermits ↔ n < 16 ∧ s.get (PERMIT.SLOT.STATE n) = 0 := by
  simp only [State.freePermits, List.mem_filter, List.mem_range, beq_iff_eq]

theorem State.pickPermit_none (h : ∀ n < 16, s.get (PERMIT.SLOT.STATE n) ≠ 0) : s.pickPermit = none := by
  have hnil : s.freePermits = [] :=
    List.eq_nil_iff_forall_not_mem.2 fun n hn => h n (State.mem_freePermits.1 hn).1 (State.mem_freePermits.1 hn).2
  simp only [State.pickPermit, hnil]

/-- The slot chosen is free, and the choice uses up an open value at most. -/
theorem State.pickPermit_some (h : ∃ n < 16, s.get (PERMIT.SLOT.STATE n) = 0) :
    ∃ n t, s.pickPermit = some (n, t) ∧ n < 16 ∧ s.get (PERMIT.SLOT.STATE n) = 0 ∧ Same [.free] [] s t := by
  obtain ⟨n₀, h₀⟩ := h
  have hmem := State.mem_freePermits.2 h₀
  unfold State.pickPermit
  split
  · next hl => simp [hl] at hmem
  · next n hl =>
    obtain ⟨hlt, hst⟩ := State.mem_freePermits.1 (hl ▸ List.mem_singleton_self n)
    exact ⟨n, s, rfl, hlt, hst, .refl ..⟩
  · have hpos : 0 < s.freePermits.length := List.length_pos_of_mem hmem
    have hin : s.freePermits.getD (s.openVal.1 % s.freePermits.length) 0 ∈ s.freePermits := by
      rw [List.getD_eq_getElem _ _ (Nat.mod_lt _ hpos)]
      exact List.getElem_mem _
    obtain ⟨hlt, hst⟩ := State.mem_freePermits.1 hin
    refine ⟨_, _, rfl, hlt, hst, .of_flds rfl fun c hc => ?_⟩
    cases c with
    | free => exact absurd (List.mem_singleton_self _) hc
    | _ => rfl

theorem State.fillPermit_frame : Same [] (permitFields n) s (s.fillPermit n who cls draw hold) :=
  ((((State.set_frame [] s _ _ (by simp [permitFields])).then (State.set_frame [] _ _ _ (by simp [permitFields]))).then
    (State.set_frame [] _ _ _ (by simp [permitFields]))).then (State.set_frame [] _ _ _ (by simp [permitFields]))).then
      (State.set_frame [] _ _ _ (by simp [permitFields]))

/-- What a slot holds once a request has taken it. -/
theorem State.fillPermit_fields (s : State) (n who cls draw hold : Nat) :
    let t := s.fillPermit n who cls draw hold
    t.get (PERMIT.SLOT.STATE n) = 1 ∧ t.get (PERMIT.SLOT.HOLDER n) = who % 2 ^ 8 ∧
    t.get (PERMIT.SLOT.CLASS n) = cls % 2 ^ 2 ∧ t.get (PERMIT.SLOT.DRAW n) = draw % 2 ^ (PERMIT.SLOT.DRAW n).w ∧
    t.get (PERMIT.REM.GRAINS n) = hold % 2 ^ (PERMIT.REM.GRAINS n).w := by
  simp [State.fillPermit, State.get_set, PERMIT.SLOT.STATE, PERMIT.SLOT.HOLDER, PERMIT.SLOT.CLASS, PERMIT.SLOT.DRAW,
    PERMIT.REM.GRAINS]

/-- A grant changes the slot's state and the lists of permits alone. -/
theorem State.grant_effect (s : State) (n : Nat) :
    (s.grant n).get (PERMIT.SLOT.STATE n) = 2 ∧ n ∈ (s.grant n).pwr.grants ∧
    Same [.pwr] [PERMIT.SLOT.STATE n] s (s.grant n) := by
  refine ⟨State.get_set_same s (PERMIT.SLOT.STATE n) 2, by simp [State.grant, State.modPwr], ?_⟩
  exact (State.set_frame [.pwr] s _ _ (List.mem_singleton_self _)).then (State.modPwr_frame _ _ _)

/-- From s to m slot n has taken a request and stands in the given state, and nothing but the slot and the lists of permits
has changed. -/
structure TakesSlot (who cls draw hold state n : Nat) (s m : State) : Prop where
  state : m.get (PERMIT.SLOT.STATE n) = state
  holder : m.get (PERMIT.SLOT.HOLDER n) = who
  cls : m.get (PERMIT.SLOT.CLASS n) = cls
  draw : m.get (PERMIT.SLOT.DRAW n) = draw % 2 ^ (PERMIT.SLOT.DRAW n).w
  hold : m.get (PERMIT.REM.GRAINS n) = hold % 2 ^ (PERMIT.REM.GRAINS n).w
  frame : Same [.pwr, .free] (permitFields n) s m

/-- A request in its slot, once the slot's state and the lists of permits have been written. -/
theorem TakesSlot.of_fill {t m : State} {state : Nat} (hwho : who < 2 ^ 8) (hcls : cls < 2 ^ 2)
    (ht : Same [.free] [] s t) (hm : Same [.pwr] [PERMIT.SLOT.STATE n] (t.fillPermit n who cls draw hold) m)
    (hs : m.get (PERMIT.SLOT.STATE n) = state) : TakesSlot who cls draw hold state n s m := by
  obtain ⟨_, hholder, hclass, hdraw, hhold⟩ := t.fillPermit_fields n who cls draw hold
  have kept (f : Fld) (hf : f ≠ PERMIT.SLOT.STATE n) : m.get f = (t.fillPermit n who cls draw hold).get f :=
    hm.1 f (by simpa using hf)
  refine ⟨hs, ?_, ?_, ?_, ?_, ?_⟩
  · rw [kept _ (by simp [PERMIT.SLOT.HOLDER, PERMIT.SLOT.STATE]), hholder, Nat.mod_eq_of_lt hwho]
  · rw [kept _ (by simp [PERMIT.SLOT.CLASS, PERMIT.SLOT.STATE]), hclass, Nat.mod_eq_of_lt hcls]
  · rw [kept _ (by simp [PERMIT.SLOT.DRAW, PERMIT.SLOT.STATE]), hdraw]
  · rw [kept _ (by simp [PERMIT.REM.GRAINS, PERMIT.SLOT.STATE]), hhold]
  · exact ((ht.mono (by simp) (by simp)).then (State.fillPermit_frame.mono (by simp) fun _ h => h)).then
      (hm.mono (by simp) fun _ h => List.mem_cons.2 (.inl (List.mem_singleton.1 h)))

theorem takesSlot_granted {t : State} (hwho : who < 2 ^ 8) (hcls : cls < 2 ^ 2) (ht : Same [.free] [] s t) :
    TakesSlot who cls draw hold 2 n s ((t.fillPermit n who cls draw hold).grant n) :=
  .of_fill hwho hcls ht (State.grant_effect _ n).2.2 (State.grant_effect _ n).1

theorem takesSlot_queued {t : State} {f : PowerSt → PowerSt} (hwho : who < 2 ^ 8) (hcls : cls < 2 ^ 2)
    (ht : Same [.free] [] s t) : TakesSlot who cls draw hold 1 n s ((t.fillPermit n who cls draw hold).modPwr f) :=
  .of_fill hwho hcls ht (State.modPwr_frame _ _ _) (State.fillPermit_fields t n who cls draw hold).1

end

/-! ## The request (R223, R498) -/

section
variable {s : State} {who cls draw hold : Nat} {nowait : Bool}

theorem State.granted_eq_sum (s : State) :
    s.granted = (s.pwr.grants.map fun n => s.get (PERMIT.SLOT.DRAW n)).sum := by
  rw [State.granted, State.draws, List.sum_eq_foldl, List.foldl_map]

theorem State.fitsNow_iff : s.fitsNow cls draw = true ↔ s.on PERMIT.STATUS.FROZEN = false ∧
    (s.pwr.grants.map fun n => s.get (PERMIT.SLOT.DRAW n)).sum + draw ≤ s.grantable ∧
    ∀ n ∈ s.pwr.queue, cls < s.get (PERMIT.SLOT.CLASS n) := by
  simp only [State.fitsNow, State.granted_eq_sum, Bool.and_eq_true, Bool.not_eq_true',
    List.any_eq_false, decide_eq_true_eq, not_le, and_assoc]
  rw [and_comm (a := ∀ _, _)]
  rfl

theorem State.permitRequest_empty (h : draw = 0 ∨ hold = 0) :
    s.permitRequest who cls draw hold nowait = (6, 0, s) := if_pos h

variable (hd : draw ≠ 0) (hh : hold ≠ 0)
include hd hh

theorem State.permitRequest_beyond (h : s.grantable < draw) :
    s.permitRequest who cls draw hold nowait = (2, 0, s) := by
  simp [State.permitRequest, hd, hh, h]

variable (hr : draw ≤ s.grantable)
include hr

theorem State.permitRequest_long (h : s.get PERMIT.MAXHOLD.GRAINS < hold) :
    s.permitRequest who cls draw hold nowait = (3, 0, s) := by
  simp [State.permitRequest, hd, hh, Nat.not_lt.2 hr, h]

variable (hm : hold ≤ s.get PERMIT.MAXHOLD.GRAINS)
include hm

theorem State.permitRequest_full (h : s.pickPermit = none) :
    s.permitRequest who cls draw hold nowait = (5, 0, s) := by
  simp [State.permitRequest, hd, hh, Nat.not_lt.2 hr, Nat.not_lt.2 hm, h]

variable {n : Nat} {t : State} (hp : s.pickPermit = some (n, t))
include hp

theorem State.permitRequest_granted (hf : s.fitsNow cls draw = true) :
    s.permitRequest who cls draw hold nowait = (0, n, (t.fillPermit n who cls draw hold).grant n) := by
  simp [State.permitRequest, hd, hh, Nat.not_lt.2 hr, Nat.not_lt.2 hm, hp, hf]

theorem State.permitRequest_refused (hf : ¬ s.fitsNow cls draw = true) :
    s.permitRequest who cls draw hold true = (4, 0, s) := by
  simp [State.permitRequest, hd, hh, Nat.not_lt.2 hr, Nat.not_lt.2 hm, hp, hf]

theorem State.permitRequest_queued (hf : ¬ s.fitsNow cls draw = true) :
    s.permitRequest who cls draw hold false =
      (1, n, (t.fillPermit n who cls draw hold).modPwr fun p => { p with queue := p.queue ++ [n] }) := by
  simp [State.permitRequest, hd, hh, Nat.not_lt.2 hr, Nat.not_lt.2 hm, hp, hf]

end

/-! ## PERMIT (R223) -/

/-- PERMIT returns the code of its request, and the slot's number where one took it. -/
theorem permit_acts {s m : State} {c : Fin 2} {d a b : Fin 32} {cls : Fin 4} {nowait : Bool} {draw hold code num : Nat}
    (he : s.Executes (.cc c) 1) (hdraw : (valS (s.bankOf (.cc c)) a).toNat = draw)
    (hhold : (valS (s.bankOf (.cc c)) b).toNat = hold)
    (hx : s.permitRequest (8 + c) cls draw hold nowait = (code, num, m)) :
    Acts (.permit (.cc c) d a b cls nowait) (.cc c) 1 s m (putS (s.bankOf (.cc c)) d (permitWord code num)) := by
  refine Acts.of_instr he rfl ?_ (Regs.bank_setS ⟨s.bankOf (.cc c), []⟩ d _)
  simp only [Regs.sr_eq, hdraw, hhold, State.holder, hx]

theorem permitInstruction : Claims.PermitInstruction := by
  intro s c d a b cls nowait he p i B draw hold room used now gives takes
  have acts {code num : Nat} {m : State} (hx : s.permitRequest (8 + c) cls draw hold nowait = (code, num, m)) :
      Acts i p 1 s m (putS B d (permitWord code num)) := permit_acts he rfl rfl hx
  have hwho : 8 + c.val < 2 ^ 8 := by omega
  have now_iff : s.fitsNow cls draw = true ↔ now := State.fitsNow_iff
  refine ⟨fun h0 => acts (State.permitRequest_empty h0),
    fun hd hh => ⟨fun hr => ?beyond, fun hr hm => ?long, fun hr hm => ?_⟩⟩
  case beyond => exact acts (State.permitRequest_beyond hd hh hr)
  case long => exact acts (State.permitRequest_long hd hh hr hm)
  refine ⟨fun hfull => ?full, fun hfree => ?slot⟩
  case full => exact acts (State.permitRequest_full hd hh hr hm (State.pickPermit_none hfull))
  case slot =>
    obtain ⟨n, t, hp, hlt, hst, ht⟩ := State.pickPermit_some hfree
    refine ⟨fun hn => ?granted, fun hn hw => ?refused, fun hn hw => ?queued⟩
    case granted =>
      have hm' := takesSlot_granted (n := n) (draw := draw) (hold := hold) hwho cls.isLt ht
      refine ⟨n, _, hlt, hst, ?_, hm'.state, hm'.holder, hm'.cls, hm'.draw, hm'.hold, ?_, hm'.frame⟩
      · exact acts (State.permitRequest_granted hd hh hr hm hp (now_iff.2 hn))
      · exact (State.grant_effect _ n).2.1
    case refused =>
      obtain rfl : nowait = true := hw
      exact acts (State.permitRequest_refused hd hh hr hm hp (mt now_iff.1 hn))
    case queued =>
      obtain rfl : nowait = false := hw
      have hpwr : t.pwr = s.pwr := ht.2 .pwr (by decide)
      have hm' := takesSlot_queued (n := n) (draw := draw) (hold := hold)
        (f := fun p => { p with queue := p.queue ++ [n] }) hwho cls.isLt ht
      refine ⟨n, _, hlt, hst, ?_, hm'.state, hm'.holder, hm'.cls, hm'.draw, hm'.hold, ?_, hm'.frame⟩
      · exact acts (State.permitRequest_queued hd hh hr hm hp (mt now_iff.1 hn))
      · exact hpwr ▸ ⟨rfl, rfl⟩

/-- Settles O17: LEASE by the state of the lease, PERMIT by the checks of its request. -/
theorem leaseAndPermitInstructions : Obligations.LeaseAndPermitInstructions := ⟨leaseInstructions, permitInstruction⟩

end Sys2Proof.Machine

namespace Sys2Proof.Machine
open Sys2Proof.Claims

/-! SUPPORT. The parcel handler: the parcel taken, its answer, and the room for it (R519–R523, R525). -/

/-! ## Parcels in the outbound buffer (R519, R522) -/

theorem parcelBytes_length (type flags seq : Nat) (body : List Byte) :
    (parcelBytes type flags seq body).length = 16 + body.length := by
  simp only [parcelBytes, zeros, List.length_append, List.length_cons, List.length_nil, List.length_replicate,
    leBytes_length]

theorem answerPrefix_length (code sub pseq : Nat) : (answerPrefix code sub pseq).length = 8 := by
  simp only [answerPrefix, List.length_append, List.length_cons, List.length_nil, leBytes_length]

/-- One more parcel uses its bytes of the buffer. -/
theorem State.outUsed_append {s t : State} {x : List Byte} (h : t.link.outb = s.link.outb ++ [x]) :
    t.outUsed = s.outUsed + x.length := by
  simp only [State.outUsed, h, List.map_append, List.map_cons, List.map_nil, List.foldl_append, List.foldl_cons,
    List.foldl_nil]

theorem State.orWait_fits {s t : State} (h : t.outUsed ≤ 8192) : s.orWait t = t := if_pos h

/-- A change of the link is that change alone. -/
theorem State.modLink_frame (s : State) (f : LinkSt → LinkSt) (P : Fld → Prop) : Frame [.link] P s (s.modLink f) :=
  .of_flds rfl fun c hc => by
    cases c with
    | link => simp at hc
    | _ => rfl

@[simp] theorem State.get_modLink (s : State) (f : LinkSt → LinkSt) (g : Fld) : (s.modLink f).get g = s.get g := rfl

/-! ## The parcel taken (R521) -/

/-- The registers that taking a parcel writes. -/
def takeFields : List Fld := [HOST.EXP.SEQ, HOST.STATUS.EXPVALID]

theorem State.seqTake_frame (s : State) (p : InParcel) : Same [.link] takeFields s (s.seqTake p) := by
  unfold State.seqTake
  split
  · exact .refl ..
  · exact ((State.set_frame _ s _ _ (by decide)).then (State.flag_frame _ _ _ _ (by decide))).then
      (State.modLink_frame ..)

end Sys2Proof.Machine

namespace Sys2Proof.Claims
open Sys2Proof.Machine

section
variable {s : State} {p : InParcel} {n : Nat} (hr : Ready s p n)
include hr

theorem Ready.seqTake_eq : s.seqTake p =
    ((s.set HOST.EXP.SEQ (p.seq + 1)).flag HOST.STATUS.EXPVALID true).modLink fun l => { l with taken := true } := by
  obtain ⟨_, _, _, _, htaken, _⟩ := hr
  exact if_neg (by simp [htaken])

theorem Ready.seqTake_link : (s.seqTake p).link = { s.link with taken := true } := by
  rw [hr.seqTake_eq]
  rfl

/-- A handler of parcels like p acts on p. -/
theorem Ready.handle_eq {kind : InParcel → Bool} (act : InParcel → State → State) (hk : kind p = true) :
    s.handle kind act = act p (s.seqTake p) := by
  obtain ⟨hon, hdec, howed, hfront, htaken, hvalid, hseq, _⟩ := hr
  have hact : s.seqVerdict p.seq = .act := by simp [State.seqVerdict, hvalid, hseq]
  have hgo : ¬ (s.power ≠ .on ∨ s.deciding = true ∨ s.link.owed = true) := by simp [hon, hdec, howed]
  rw [State.handle, if_neg hgo, show s.front = some p from hfront]
  simp [hk, htaken, hact]

end
end Sys2Proof.Claims

namespace Sys2Proof.Machine
open Sys2Proof.Claims

/-- What the handler reads of other registers it reads as before. -/
theorem State.seqTake_get {s : State} {p : InParcel} {f : Fld} (hf : f ∉ takeFields) : (s.seqTake p).get f = s.get f :=
  (s.seqTake_frame p).get hf

/-- The handler has taken p, and what it has done since has left the link's answers and numbers as p found them. -/
structure Taken (s u : State) (p : InParcel) : Prop where
  outb : u.link.outb = s.link.outb
  inb : u.link.inb = s.link.inb
  stored : u.link.stored = s.link.stored
  outSeq : u.get HOST.OUTSEQ.SEQ = s.get HOST.OUTSEQ.SEQ
  exp : u.get HOST.EXP.SEQ = (p.seq + 1) % 2 ^ 32
  valid : u.on HOST.STATUS.EXPVALID = true
  wmark : u.get HOST.WMARK.SEQ = s.get HOST.WMARK.SEQ
  rtc : u.clock.rtc = s.clock.rtc

section
variable {s u : State} {p : InParcel} {n : Nat}

theorem Taken.of_ready (hr : Ready s p n) : Taken s (s.seqTake p) p := by
  have hlink := hr.seqTake_link
  refine ⟨by rw [hlink], by rw [hlink], by rw [hlink], State.seqTake_get (by decide), ?_, ?_, State.seqTake_get (by decide), ?_⟩
  · rw [hr.seqTake_eq, State.get_modLink]
    exact (State.get_set_other _ (by decide) _).trans (State.get_set_same ..)
  · rw [hr.seqTake_eq, State.on, State.get_modLink]
    exact State.on_flag_same _ _ rfl
  · rw [show (s.seqTake p).clock = s.clock from (s.seqTake_frame p).2 .clock (by decide)]

/-- Work on other units, their components and the rest of the link leaves the answer to come alone. -/
theorem Taken.frame {t : State} {cs : List Comp} {P : Fld → Prop} (h : Taken s u p) (hf : Frame cs P u t)
    (hP : ∀ f ∈ HOST.STATUS.EXPVALID :: answerFlds, ¬ P f) (hclock : Comp.clock ∉ cs) (hlink : Comp.link ∉ cs) :
    Taken s t p := by
  have hl : t.link = u.link := hf.2 .link hlink
  have hk : t.clock = u.clock := hf.2 .clock hclock
  have hget (f : Fld) (hm : f ∈ HOST.STATUS.EXPVALID :: answerFlds) : t.get f = u.get f := hf.1 f (hP f hm)
  exact ⟨by rw [hl, h.outb], by rw [hl, h.inb], by rw [hl, h.stored], (hget _ (by decide)).trans h.outSeq,
    (hget _ (by decide)).trans h.exp, (State.on_of_get (hget _ (by decide))).trans h.valid,
    (hget _ (by decide)).trans h.wmark, by rw [hk, h.rtc]⟩

/-- The state within the host's registers is left alone by work within other units. -/
theorem Taken.within {t : State} {cs : List Comp} {us : List Nat} (h : Taken s u p) (hf : Within cs us u t)
    (hus : us.contains 72 = false) (hclock : Comp.clock ∉ cs) (hlink : Comp.link ∉ cs) : Taken s t p :=
  h.frame hf (fun f hm => by
    have hunit : f.unit = 72 := by
      revert f
      decide
    rw [hunit, hus]
    exact Bool.false_ne_true) hclock hlink

/-! ## The answer (R520, R522, R523) -/

theorem State.answerFault_frame (u : State) (p : InParcel) (code sub : Nat) :
    Same [.link] answerFlds u (u.answerFault p code sub) :=
  ((State.modLink_frame ..).then (State.set_frame _ _ _ _ (by decide))).then (State.modLink_frame ..)

theorem State.answerGood_frame (u : State) (p : InParcel) (type code sub : Nat) (rest : List Byte) :
    Same [.link] answerFlds u (u.answerGood p type code sub rest) :=
  ((((State.modLink_frame ..).then (State.set_frame _ _ _ _ (by decide))).then
    (State.set_frame _ _ _ _ (by decide))).then (State.modLink_frame ..)).then (State.modLink_frame ..)

theorem Taken.answerFault (h : Taken s u p) (code sub : Nat) :
    Answered s (u.answerFault p code sub) p 0x85 code sub [] := by
  have hget (f : Fld) (hf : HOST.OUTSEQ.SEQ ≠ f) : (u.answerFault p code sub).get f = u.get f :=
    State.get_set_other _ hf _
  have hnext : (u.answerFault p code sub).get HOST.OUTSEQ.SEQ = (u.get HOST.OUTSEQ.SEQ + 1) % 2 ^ 32 :=
    State.get_set_same ..
  refine ⟨?_, ?_, ?_, rfl, ?_, ?_, fun hne => absurd rfl hne, fun _ => ⟨?_, ?_⟩⟩
  · rw [← h.outb, ← h.outSeq, List.append_nil]
    rfl
  · rw [hnext, h.outSeq]
  · rw [← h.inb]
    rfl
  · rw [hget _ (by decide), h.exp]
  · rw [State.on_of_get (hget _ (by decide)), h.valid]
  · rw [hget _ (by decide), h.wmark]
  · exact h.stored

theorem Taken.answerGood (h : Taken s u p) {type : Nat} (hne : type ≠ 0x85) (code sub : Nat) (rest : List Byte) :
    Answered s (u.answerGood p type code sub rest) p type code sub rest := by
  let t := u.answerGood p type code sub rest
  have hmark : t.get HOST.WMARK.SEQ = p.seq % 2 ^ 32 := State.get_set_same ..
  have hget (f : Fld) (hm : HOST.WMARK.SEQ ≠ f) : t.get f = (u.outSeqNext).get f := State.get_set_other _ hm _
  have hnext : u.outSeqNext.get HOST.OUTSEQ.SEQ = (u.get HOST.OUTSEQ.SEQ + 1) % 2 ^ 32 := State.get_set_same ..
  have hother (f : Fld) (hf : HOST.OUTSEQ.SEQ ≠ f) : u.outSeqNext.get f = u.get f := State.get_set_other _ hf _
  refine ⟨?_, ?_, ?_, rfl, ?_, ?_, fun _ => ⟨hmark, h.rtc, ?_⟩, fun he => absurd he hne⟩
  · rw [← h.outb, ← h.outSeq]
    rfl
  · rw [hget _ (by decide), hnext, h.outSeq]
  · rw [← h.inb]
    rfl
  · rw [hget _ (by decide), hother _ (by decide), h.exp]
  · rw [State.on_of_get (hget _ (by decide)), State.on_of_get (hother _ (by decide)), h.valid]
  · let all := u.link.stored ++ [⟨p.seq, type, answerPrefix code sub p.seq ++ rest⟩]
    show (all.drop (all.length - 8)).getLast? = _
    rw [List.getLast?_drop, if_neg (by simp [all])]
    simp [all]

/-- The answer for which there was room has been placed. -/
theorem answer_fits {t : State} {type code sub : Nat} {rest : List Byte} (hr : Ready s p n)
    (h : Answered s t p type code sub rest) (hn : 8 + rest.length ≤ n) (v : State) : v.orWait t = t := by
  obtain ⟨_, _, _, _, _, _, _, hroom⟩ := hr
  obtain ⟨hout, _⟩ := h
  refine State.orWait_fits ?_
  rw [State.outUsed_append hout, parcelBytes_length, List.length_append, answerPrefix_length]
  omega

/-! ## A command of the handler -/

/-- The handler's work as it is written for every kind of parcel: taken, acted on, and put off where the answer has no
room. -/
def handles (c : Instr) (kind : InParcel → Bool) (act : InParcel → State → State) : Prop :=
  ∀ s, exec c s = .next (s.handle kind fun p t => t.orWait (act p t))

section
variable {c : Instr} {kind : InParcel → Bool} {act : InParcel → State → State} (he : handles c kind act)
  (hr : Ready s p n) (hk : kind p = true)
include he hr hk

theorem handles.next : exec c s = .next ((s.seqTake p).orWait (act p (s.seqTake p))) := by
  rw [he s, hr.handle_eq _ hk]

/-- The answer of the work is the command's. -/
theorem handles.answered {t : State} {type code sub : Nat} {rest : List Byte} (ht : act p (s.seqTake p) = t)
    (h : Answered s t p type code sub rest) (hn : 8 + rest.length ≤ n) : exec c s = .next t := by
  rw [he.next hr hk, ht, answer_fits hr h hn]

/-- Work that refuses at once is the refusal and nothing else (R525). -/
theorem handles.refuses {sub : Nat} (ht : act p (s.seqTake p) = (s.seqTake p).refuse p sub) (hn : 8 ≤ n) :
    Refuses c s p sub := by
  have hans : Answered s ((s.seqTake p).refuse p sub) p 0x85 6 sub [] := (Taken.of_ready hr).answerFault 6 sub
  exact ⟨_, he.answered hr hk ht hans hn, hans, ((s.seqTake_frame p).mono (fun _ h => h) (by decide)).then
    (State.answerFault_frame ..)⟩

/-- Work on other units that ends with ACCEPT is that work, and the answer (R523). -/
theorem handles.accepts {u : State} {rest : List Byte} {cs : List Comp} {fs : List Fld}
    (ht : act p (s.seqTake p) = u.accept p rest) (hu : Same cs fs (s.seqTake p) u) (htaken : Taken s u p)
    (hn : 8 + rest.length ≤ n) : Accepts c s p rest cs fs (u.accept p rest) := by
  have hans : Answered s (u.accept p rest) p 0x81 0 0 rest := htaken.answerGood (by decide) 0 0 rest
  refine ⟨he.answered hr hk ht hans hn, hans, ?_⟩
  have htake : Same (.link :: cs) (answerFlds ++ fs) s (s.seqTake p) :=
    (s.seqTake_frame p).mono (by simp) fun f hf => List.mem_append_left fs (by revert f; decide)
  exact (htake.then (hu.mono (fun _ h => List.mem_cons_of_mem _ h) fun _ h => List.mem_append_right _ h)).then
    ((State.answerGood_frame ..).mono (by simp) fun _ h => List.mem_append_left _ h)

end

end
end Sys2Proof.Machine

namespace Sys2Proof.Machine
open Sys2Proof.Claims

/-! SUPPORT. Durable orders: the checks in their order, the queue entry, the answer (R258, R366, R367, R485, R523). -/

/-- Bytes stored above the boot ROM read back. -/
theorem State.bytes_setBytes_same (s : State) {a : Nat} (bs : List Byte) (ha : 0x80000 ≤ a) :
    (s.setBytes a bs).bytes a bs.length = bs := by
  rw [State.bytes_eq_map]
  refine List.ext_getElem (by simp) fun i h _ => ?_
  rw [List.getElem_map, List.getElem_range]
  exact State.byte_setBytes_same s a i bs (by simpa using h) (by omega)

theorem State.bytes_of_mem {s t : State} (h : t.mem = s.mem) (a n : Nat) : t.bytes a n = s.bytes a n :=
  State.bytes_congr fun b _ => by simp only [State.byte, h]

/-! ## The queue (R366, R367) -/

/-- LOWFREE, ORDFULL and COAL belong to unit 0x28, the source to unit 8. -/
theorem State.jrnlStatus_within (s : State) (cs : List Comp) : Within cs [0x28, 0x08] s s.jrnlStatus :=
  (((Within.refl s).raise rfl rfl).ite ((Within.refl s).flag rfl)).flag rfl |>.flag rfl

theorem QEntry.bytes_length (e : QEntry) (h : e.body.length ≤ 96) : e.bytes.length = 128 := by
  simp only [QEntry.bytes, padTo, zeros, List.length_append, List.length_take, List.length_replicate, leBytes_length]
  omega

/-- The order queue with entry e in its place (R342, R366). -/
def State.queued (s : State) (e : QEntry) : State :=
  { s with
    cairn := { s.cairn with
      orders := s.cairn.orders.filter (fun x => (x.ordno - 1) % 128 != (e.ordno - 1) % 128) ++ [e], tornOrd := false }
    jrnl := { s.jrnl with nextord := s.jrnl.nextord + 1 } }

theorem State.queueOrder_full {s : State} (pseq code level kgen : Nat) (body : List Byte)
    (h : 128 ≤ s.ordersInUse.length) : s.queueOrder pseq code level kgen body = none := if_pos h

theorem State.queueOrder_taken {s : State} (pseq code level kgen : Nat) (body : List Byte)
    (h : ¬ 128 ≤ s.ordersInUse.length) : s.queueOrder pseq code level kgen body =
      some (s.jrnl.nextord, ((s.queued ⟨s.jrnl.nextord, pseq, code, level, kgen, body⟩).mirrorOrder
        ⟨s.jrnl.nextord, pseq, code, level, kgen, body⟩).jrnlStatus) := if_neg h

/-- A durable order's work before its answer: the entry and its mirror, the session's time where a level is asked for,
the port given back, DWMARK. -/
def State.orderKept (s : State) (e : QEntry) (need : Nat) : State :=
  let t := ((s.queued e).mirrorOrder e).jrnlStatus
  (if 0 < need then t.authenticated else t).supervisorDone.set HOST.DWMARK.SEQ e.pseq

section
variable (s : State) (e : QEntry) (need : Nat)

theorem State.queued_frame (P : Fld → Prop) : Frame [.cairn, .jrnl] P s (s.queued e) :=
  .of_flds rfl fun c hc => by
    cases c with
    | cairn | jrnl => exact absurd (by decide) hc
    | _ => rfl

theorem State.authenticated_frame (P : Fld → Prop) : Frame [.access] P s s.authenticated :=
  .of_flds rfl fun c hc => by
    cases c with
    | access => exact absurd (by decide) hc
    | _ => rfl

/-- The registers that a durable order's work writes. -/
def durableField (f : Fld) : Prop := f = HOST.DWMARK.SEQ ∨ f.unit ∈ [0x04, 0x08, 0x28]

theorem durable_of_within {s t : State} {cs : List Comp} {us : List Nat} (h : Within [] us s t)
    (hu : us ⊆ [0x04, 0x08, 0x28]) : Frame cs durableField s t :=
  Frame.mono h nofun fun _ hf => .inr (hu (List.contains_iff_mem.1 hf))

/-- From the entry in its mirror on, only registers and the session's time change. -/
theorem State.orderKept_after : Frame [.access] durableField ((s.queued e).mirrorOrder e) (s.orderKept e need) := by
  let m := ((s.queued e).mirrorOrder e)
  have hstatus : Frame [.access] durableField m m.jrnlStatus := durable_of_within (m.jrnlStatus_within []) (by decide)
  have hdone (t : State) : Frame [.access] durableField t t.supervisorDone :=
    durable_of_within t.supervisorDone_within (by decide)
  unfold State.orderKept
  dsimp only
  split
  · exact ((hstatus.then (State.authenticated_frame ..)).then (hdone _)).then (State.set_frame _ _ _ _ (.inl rfl))
  · exact (hstatus.then (hdone _)).then (State.set_frame _ _ _ _ (.inl rfl))

theorem State.orderKept_frame : Frame [.jrnl, .cairn, .access, .mem] durableField s (s.orderKept e need) :=
  (((s.queued_frame e _).mono (by simp) fun _ h => h).then (State.setBytes_frame _ _ _ _ _ (by decide))).then
    ((s.orderKept_after e need).mono (by simp) fun _ h => h)

theorem State.orderKept_jrnl : (s.orderKept e need).jrnl = { s.jrnl with nextord := s.jrnl.nextord + 1 } :=
  (s.orderKept_after e need).2 .jrnl (by decide)

/-- The entry stands in the queue, and only the one at its place has given way (R342). -/
theorem State.orderKept_orders : e ∈ (s.orderKept e need).cairn.orders ∧
    ∀ x ∈ s.cairn.orders, (x.ordno - 1) % 128 ≠ (e.ordno - 1) % 128 → x ∈ (s.orderKept e need).cairn.orders := by
  have hcairn : (s.orderKept e need).cairn = (s.queued e).cairn := (s.orderKept_after e need).2 .cairn (by decide)
  rw [hcairn]
  refine ⟨by simp [State.queued], fun x hx hne => ?_⟩
  simp [State.queued, hx, hne]

/-- The mirror in always-on SRAM has the entry's bytes, and no other byte has changed (R36). -/
theorem State.orderKept_mirror (h : e.body.length ≤ 96) :
    (s.orderKept e need).bytes (0x20009000 + 128 * ((e.ordno - 1) % 64)) 128 = e.bytes ∧
    KeptOutside 0x20009000 0x2000B000 s (s.orderKept e need) := by
  have hlen := e.bytes_length h
  have hmem : (s.orderKept e need).mem = ((s.queued e).mirrorOrder e).mem := (s.orderKept_after e need).2 .mem (by decide)
  constructor
  · have hsame := State.bytes_setBytes_same (s.queued e) (a := 0x20009000 + 128 * ((e.ordno - 1) % 64)) e.bytes (by omega)
    rw [hlen] at hsame
    rw [State.bytes_of_mem hmem]
    exact hsame
  · intro a ha
    rw [State.byte, hmem]
    exact State.byte_setBytes_other (s.queued e) _ a _ (by rw [hlen]; omega)

theorem State.orderKept_dwmark : (s.orderKept e need).get HOST.DWMARK.SEQ = e.pseq % 2 ^ 32 := State.get_set_same ..

/-- A level asked for authenticates the parcel (R485). -/
theorem State.orderKept_access : (0 < need → (s.orderKept e need).access.lastAuth = s.clock.rtc) ∧
    (need = 0 → (s.orderKept e need).access = s.access) := by
  let t := ((s.queued e).mirrorOrder e).jrnlStatus
  have hstatus : Within [] [0x28, 0x08] ((s.queued e).mirrorOrder e) t := State.jrnlStatus_within _ _
  have hdone (u : State) : (u.supervisorDone.set HOST.DWMARK.SEQ e.pseq).access = u.access :=
    u.supervisorDone_within.comp (c := .access) nofun
  refine ⟨fun hn => ?_, fun hn => ?_⟩
  · rw [State.orderKept, if_pos hn, hdone]
    exact congrArg Clock.rtc (hstatus.comp (c := .clock) nofun)
  · rw [State.orderKept, if_neg (by omega), hdone]
    exact hstatus.comp (c := .access) nofun

end

/-! ## The checks (R525, R258) -/

section
variable {s : State} {p : InParcel} {form cond : Bool} {need : Nat}

theorem State.durable_malformed (h : ¬ (form = true ∧ p.ord.length ≤ 96)) :
    s.durable p form need cond = s.refuse p 3 := if_pos (by rcases Bool.eq_false_or_eq_true form with hf | hf <;> simp_all)

section
variable (hf : form = true) (hn : p.ord.length ≤ 96)
include hf hn

theorem State.durable_closed (h : s.level < need) : s.durable p form need cond = s.refuse p 1 := by
  rw [State.durable, if_neg (by simp [hf, hn]), if_pos h]

variable (hl : need ≤ s.level)
include hl

theorem State.durable_refused (hc : cond = false) : s.durable p form need cond = s.refuse p 4 := by
  rw [State.durable, if_neg (by simp [hf, hn]), if_neg (by omega), if_pos (by simp [hc])]

variable (hc : cond = true)
include hc

theorem State.durable_waits (h : s.portHeld = true) : s.durable p form need cond = s.supervisorTake 0 := by
  rw [State.durable, if_neg (by simp [hf, hn]), if_neg (by omega), if_neg (by simp [hc]), if_pos h]

variable (hp : s.portHeld = false)
include hp

theorem State.durable_full (h : 128 ≤ s.ordersInUse.length) : s.durable p form need cond = s.refuse p 2 := by
  rw [State.durable, if_neg (by simp [hf, hn]), if_neg (by omega), if_neg (by simp [hc]), if_neg (by simp [hp]),
    State.queueOrder_full _ _ _ _ _ h]

theorem State.durable_accepted (h : ¬ 128 ≤ s.ordersInUse.length) : s.durable p form need cond =
    (s.orderKept ⟨s.jrnl.nextord, p.seq, p.code, s.level, s.get ACCESS.KGEN.KGEN, p.ord⟩ need).accept p
      (leBytes 4 s.jrnl.nextord) := by
  rw [State.durable, if_neg (by simp [hf, hn]), if_neg (by omega), if_neg (by simp [hc]), if_neg (by simp [hp]),
    State.queueOrder_taken _ _ _ _ _ h]
  rfl

end
end

theorem State.portHeld_iff (s : State) :
    s.portHeld = true ↔ s.get (LEASE.HOLD.STATE 0) ≠ 0 ∧ s.get (LEASE.HOLD.HOLDER 0) ≠ 0x10 := by
  simp [State.portHeld]

/-- What the supervisor waits for is marked (R258). -/
theorem State.supervisorTake_waits {s : State} {x : Fin 12} (h0 : s.get (LEASE.HOLD.STATE x) ≠ 0)
    (h1 : s.get (LEASE.HOLD.HOLDER x) ≠ 0x10) : s.supervisorTake x = s.flag (LEASE.HOLD.SUPWAIT x) true := by
  rw [State.supervisorTake, if_neg h0, if_neg fun h => h1 h.2]

/-- The state that a durable order's checks read is what it was as the parcel came. -/
theorem State.seqTake_checks (s : State) (p : InParcel) : (s.seqTake p).level = s.level ∧
    (s.seqTake p).portHeld = s.portHeld ∧ (s.seqTake p).ordersInUse = s.ordersInUse ∧
    (s.seqTake p).get ACCESS.KGEN.KGEN = s.get ACCESS.KGEN.KGEN ∧ (s.seqTake p).jrnl = s.jrnl := by
  have hget (f : Fld) (hf : f ∉ takeFields) : (s.seqTake p).get f = s.get f := State.seqTake_get hf
  have hcairn : (s.seqTake p).cairn = s.cairn := (s.seqTake_frame p).2 .cairn (by decide)
  refine ⟨?_, ?_, ?_, hget _ (by decide), (s.seqTake_frame p).2 .jrnl (by decide)⟩
  · simp only [State.level, State.on, hget ACCESS.LEVEL.PLOCK (by decide), hget ACCESS.LEVEL.LEVEL (by decide)]
    rfl
  · simp only [State.portHeld, hget (LEASE.HOLD.STATE 0) (by decide), hget (LEASE.HOLD.HOLDER 0) (by decide)]
  · simp only [State.ordersInUse, hcairn]

/-! ## The orders -/

section
variable {s : State} {p : InParcel} {c : Instr} {kind : InParcel → Bool} {form cond : Bool} {need : Nat}
  {act : InParcel → State → State} (he : handles c kind act) (hr : Ready s p 12) (hk : kind p = true)
  (ha : act p (s.seqTake p) = (s.seqTake p).durable p form need cond)
include he hr hk ha

/-- While another holds the port, the order waits with its parcel taken (R258). -/
theorem handles.durable_waits (hf : form = true) (hn : p.ord.length ≤ 96) (hl : need ≤ s.level) (hc : cond = true)
    (hheld : s.portHeld = true) : ∃ t, exec c s = .next t ∧ t.on (LEASE.HOLD.SUPWAIT 0) = true ∧
      t.link = { s.link with taken := true } ∧
      Same [.link] [LEASE.HOLD.SUPWAIT 0, HOST.EXP.SEQ, HOST.STATUS.EXPVALID] s t := by
  obtain ⟨hlevel, hport, _⟩ := s.seqTake_checks p
  let u := s.seqTake p
  let t := u.flag (LEASE.HOLD.SUPWAIT 0) true
  have hheld' : u.portHeld = true := hport.trans hheld
  obtain ⟨hstate, hholder⟩ := u.portHeld_iff.1 hheld'
  have hact : act p u = t := by
    rw [ha, State.durable_waits hf hn (hlevel ▸ hl) hc hheld']
    exact State.supervisorTake_waits (x := 0) hstate hholder
  have hlink : t.link = { s.link with taken := true } := hr.seqTake_link
  have hroom : t.outUsed ≤ 8192 := by
    obtain ⟨_, _, _, _, _, _, _, hroom⟩ := hr
    rw [State.outUsed, hlink]
    exact (show s.outUsed ≤ 8192 by omega)
  refine ⟨t, ?_, State.on_flag_same _ _ rfl, hlink, ?_⟩
  · rw [he.next hr hk, hact, State.orWait_fits hroom]
  · exact ((s.seqTake_frame p).mono (fun _ h => h) (by decide)).then (State.flag_frame _ _ _ _ (by simp))

/-- Accepted, the order has its queue entry, and its answer the number (R366, R523). -/
theorem handles.durable_accepted (hf : form = true) (hn : p.ord.length ≤ 96) (hl : need ≤ s.level) (hc : cond = true)
    (hfree : s.portHeld = false) (hroom : ¬ 128 ≤ s.ordersInUse.length) :
    let e : QEntry := ⟨s.jrnl.nextord, p.seq, p.code, s.level, s.get ACCESS.KGEN.KGEN, p.ord⟩
    ∃ t, exec c s = .next t ∧ Answered s t p 0x81 0 0 (leBytes 4 e.ordno) ∧
      t.get HOST.DWMARK.SEQ = p.seq % 2 ^ 32 ∧ e ∈ t.cairn.orders ∧
      (∀ x ∈ s.cairn.orders, (x.ordno - 1) % 128 ≠ (e.ordno - 1) % 128 → x ∈ t.cairn.orders) ∧
      t.jrnl = { s.jrnl with nextord := s.jrnl.nextord + 1 } ∧ KeptOutside 0x20009000 0x2000B000 s t ∧
      t.bytes (0x20009000 + 128 * ((e.ordno - 1) % 64)) 128 = e.bytes ∧
      (0 < need → t.access.lastAuth = s.clock.rtc) ∧ (need = 0 → t.access = s.access) ∧
      Frame [.link, .jrnl, .cairn, .access, .mem]
        (fun f => f ∈ HOST.DWMARK.SEQ :: answerFlds ∨ f.unit ∈ [0x04, 0x08, 0x28]) s t := by
  intro e
  obtain ⟨hlevel, hport, huse, hkgen, hjrnl⟩ := s.seqTake_checks p
  let u := s.seqTake p
  let k := u.orderKept e need
  let t := k.accept p (leBytes 4 e.ordno)
  have hact : act p u = t := by
    rw [ha, State.durable_accepted hf hn (hlevel ▸ hl) hc (hport.trans hfree) (huse ▸ hroom), hlevel, hkgen, hjrnl]
  have htake : Same [.link] takeFields s u := s.seqTake_frame p
  have hkept := u.orderKept_frame e need
  have hans : Same [.link] answerFlds k t := State.answerGood_frame ..
  have hanswered : Answered s t p 0x81 0 0 (leBytes 4 e.ordno) :=
    ((Taken.of_ready hr).frame hkept (by simp [durableField, answerFlds, HOST.STATUS.EXPVALID, HOST.OUTSEQ.SEQ,
      HOST.EXP.SEQ, HOST.WMARK.SEQ, HOST.DWMARK.SEQ]) (by decide) (by decide)).answerGood (by decide) 0 0 _
  obtain ⟨hmirror, houtside⟩ := u.orderKept_mirror e need hn
  obtain ⟨hin, hothers⟩ := u.orderKept_orders e need
  obtain ⟨hauth, hopen⟩ := u.orderKept_access e need
  have hmem : t.mem = k.mem := hans.2 .mem (by decide)
  have hcairn : t.cairn = k.cairn := hans.2 .cairn (by decide)
  have hold : u.cairn = s.cairn := htake.2 .cairn (by decide)
  have haccess : t.access = k.access := hans.2 .access (by decide)
  refine ⟨t, he.answered hr hk hact hanswered (by rw [leBytes_length]), hanswered, ?_, hcairn ▸ hin, ?_, ?_, ?_, ?_, ?_, ?_, ?_⟩
  · rw [hans.get (by decide)]
    exact u.orderKept_dwmark e need
  · rw [hcairn, ← hold]
    exact hothers
  · rw [show t.jrnl = k.jrnl from hans.2 .jrnl (by decide), u.orderKept_jrnl, hjrnl]
  · intro a h
    rw [State.byte, hmem, ← State.byte, houtside a h, State.byte, show u.mem = s.mem from htake.2 .mem (by decide)]
    rfl
  · rw [State.bytes_of_mem hmem, hmirror]
  · intro h
    rw [haccess, hauth h, show u.clock = s.clock from htake.2 .clock (by decide)]
  · intro h
    rw [haccess, hopen h, show u.access = s.access from htake.2 .access (by decide)]
  · refine ((htake.mono (by simp) fun f h => .inl ?_).then (hkept.mono (by simp) fun f h => ?_)).then
      (hans.mono (by simp) fun f h => .inl (List.mem_cons_of_mem _ h))
    · obtain rfl | h := h
      · exact .inl (List.mem_cons_self ..)
      · exact .inr h
    · have hsub : ∀ g ∈ takeFields, g ∈ HOST.DWMARK.SEQ :: answerFlds := by decide
      exact hsub f h

end

theorem isOrder_of {code : Nat} {p : InParcel} (ht : p.type = 2) (hb : 4 ≤ p.body.length) (hc : u16At p.body 0 = code) :
    isOrder code p = true := by
  simp [isOrder, ht, hb, InParcel.code, hc]

theorem isAccess_of {kind : Nat} {p : InParcel} (ht : p.type = 2) (hb : 4 ≤ p.body.length) (hc : u16At p.body 0 = 0x0104)
    (hk : byteAt p.ord 0 = kind) : isAccess kind p = true := by
  rw [isAccess, isOrder_of ht hb hc, Bool.true_and, beq_iff_eq]
  exact hk

/-- A command of the handler whose work is the acceptance of a durable order, of a form and under a condition of its own. -/
def durably (c : Instr) (s : State) (p : InParcel) (form : Bool) (need : Nat) (cond : Bool) : Prop :=
  ∃ kind act, handles c kind act ∧ kind p = true ∧ act p (s.seqTake p) = (s.seqTake p).durable p form need cond

/-- Each row of the statement is such a command. -/
theorem durably_of_mem {s : State} {p : InParcel} {c : Instr} {ocode need : Nat} {which form cond : Bool}
    (h : (c, ocode, which, form, need, cond) ∈ ([
        (.orderTariff, 0x0101, true, decide (1 ≤ p.ord.length ∧ byteAt p.ord 0 < 8), 0, true),
        (.orderAdjust, 0x0102, true, decide (16 ≤ p.ord.length ∧ byteAt p.ord 0 < 64 ∧ byteAt p.ord 1 ≤ 8), 2, true),
        (.orderTamperClear, 0x0103, true, decide (1 ≤ p.ord.length), 2, true),
        (.accessSetVerifier, 0x0104, decide (byteAt p.ord 0 = 1), decide (33 ≤ p.ord.length), 2, true),
        (.accessRemoveVerifier, 0x0104, decide (byteAt p.ord 0 = 2), true, 2, true),
        (.accessProductionLock, 0x0104, decide (byteAt p.ord 0 = 3), decide (33 ≤ p.ord.length), 0,
          !s.on ACCESS.LEVEL.PLOCK),
        (.accessSetIdle, 0x0104, decide (byteAt p.ord 0 = 0 ∨ 3 < byteAt p.ord 0),
          decide (2 ≤ p.ord.length ∧ byteAt p.ord 0 = 4), 2, true)] : List (Instr × Nat × Bool × Bool × Nat × Bool)))
    (ht : p.type = 2) (hb : 4 ≤ p.body.length) (hc : u16At p.body 0 = ocode) (hw : which = true) :
    durably c s p form need cond := by
  simp only [List.mem_cons, Prod.mk.injEq, List.not_mem_nil, or_false] at h
  obtain ⟨rfl, rfl, rfl, rfl, rfl, rfl⟩ | ⟨rfl, rfl, rfl, rfl, rfl, rfl⟩ | ⟨rfl, rfl, rfl, rfl, rfl, rfl⟩ |
    ⟨rfl, rfl, rfl, rfl, rfl, rfl⟩ | ⟨rfl, rfl, rfl, rfl, rfl, rfl⟩ | ⟨rfl, rfl, rfl, rfl, rfl, rfl⟩ |
    ⟨rfl, rfl, rfl, rfl, rfl, rfl⟩ := h
  case inl =>
    exact ⟨_, _, fun _ => rfl, isOrder_of ht hb hc, by rw [Bool.decide_and]⟩
  case inr.inl =>
    exact ⟨_, _, fun _ => rfl, isOrder_of ht hb hc, by rw [Bool.decide_and, Bool.decide_and, Bool.and_assoc]⟩
  case inr.inr.inl =>
    exact ⟨_, _, fun _ => rfl, isOrder_of ht hb hc, rfl⟩
  case inr.inr.inr.inl =>
    exact ⟨_, _, fun _ => rfl, isAccess_of ht hb hc (of_decide_eq_true hw), rfl⟩
  case inr.inr.inr.inr.inl =>
    exact ⟨_, _, fun _ => rfl, isAccess_of ht hb hc (of_decide_eq_true hw), rfl⟩
  case inr.inr.inr.inr.inr.inl =>
    have hlock : (s.seqTake p).on ACCESS.LEVEL.PLOCK = s.on ACCESS.LEVEL.PLOCK :=
      State.on_of_get (State.seqTake_get (by decide))
    exact ⟨_, _, fun _ => rfl, isAccess_of ht hb hc (of_decide_eq_true hw), by rw [← hlock]⟩
  case inr.inr.inr.inr.inr.inr =>
    have hkind : ¬ (1 ≤ byteAt p.ord 0 ∧ byteAt p.ord 0 ≤ 3) := by
      have := of_decide_eq_true hw
      omega
    refine ⟨_, _, fun _ => rfl, ?_, ?_⟩
    · show (isOrder 0x0104 p && !(decide (1 ≤ byteAt p.ord 0 ∧ byteAt p.ord 0 ≤ 3))) = true
      rw [isOrder_of ht hb hc, decide_eq_false hkind]
      rfl
    · rw [Bool.decide_and, ← beq_eq_decide]

/-- Settles O53: the checks one after the other, and the entry of an order that passes them. -/
theorem durableOrders : Obligations.DurableOrders := by
  intro s p hr ord n kind code c ocode which form need cond hmem ht hb hcode hwhich good held done full
  obtain ⟨kindOf, act, he, hk, ha⟩ := durably_of_mem hmem ht hb hcode hwhich
  obtain ⟨hlevel, hport, huse, _⟩ := s.seqTake_checks p
  have refused {sub : Nat} (h : (s.seqTake p).durable p form need cond = (s.seqTake p).refuse p sub) : Refuses c s p sub :=
    he.refuses hr hk (ha.trans h) (by omega)
  have hneeds : (need = 2 → 0 < need) := by omega
  have hfree (h : ¬ held) : s.portHeld = false := Bool.eq_false_iff.2 fun hp => h (s.portHeld_iff.1 hp)
  refine ⟨fun hg => ?malformed, fun hg hl => ?closed, fun hg hl hc => ?refused, fun hg hl hc hh => ?waits,
    fun hg hl hc hh hf => ?full, fun hg hl hc hh hf => ?accepted⟩
  case malformed => exact refused (State.durable_malformed hg)
  case closed => exact refused (State.durable_closed hg.1 hg.2 (hlevel.trans_lt hl))
  case refused => exact refused (State.durable_refused hg.1 hg.2 (hl.trans_eq hlevel.symm) hc)
  case waits => exact he.durable_waits hr hk ha hg.1 hg.2 hl hc (s.portHeld_iff.2 hh)
  case full =>
    exact refused (State.durable_full hg.1 hg.2 (hl.trans_eq hlevel.symm) hc (hport.trans (hfree hh)) (by rw [huse]; exact hf))
  case accepted =>
    obtain ⟨t, hex, hans, hdw, hin, hothers, hjrnl, hout, hmirror, hauth, hopen, hframe⟩ :=
      he.durable_accepted hr hk ha hg.1 hg.2 hl hc (hfree hh) hf
    exact ⟨t, hex, hans, hdw, hin, hothers, hjrnl, hout, hmirror, fun h => hauth (hneeds h), hopen, hframe⟩

end Sys2Proof.Machine

namespace Sys2Proof.Machine
open Sys2Proof.Claims

/-! SUPPORT. What operations on other units leave standing: their components, units and interrupt sources, and what only
accumulates: pending sources and belays that are due. -/

/-- Every member of the first list is one of the second. -/
def subsumed {α : Type} [BEq α] (l l' : List α) : Bool := l.all l'.contains

theorem subsumed_iff {α : Type} [BEq α] [LawfulBEq α] {l l' : List α} : subsumed l l' = true ↔ l ⊆ l' := by
  simp [subsumed, List.subset_def]

/-- From s to t only the components cs, the units us and the registers of the sources srcs have changed; what was pending
pends, a belay that was due is due, and no cairn write has been put off. -/
structure Grows (cs : List Comp) (us srcs : List Nat) (s t : State) : Prop where
  comps : ∀ c, c ∉ cs → c.same s t
  get : ∀ f : Fld, us.contains f.unit = false → (∀ src ∈ srcs, f ∉ arrivalOf src) → t.get f = s.get f
  pend : ∀ w b, b < 32 → s.bit (IRQ.SPEND.PEND w) b = true → t.bit (IRQ.SPEND.PEND w) b = true
  due : ∀ k ∈ s.jrnl.due, k ∈ t.jrnl.due
  noPend : s.jrnl.cairnPend = none → t.jrnl.cairnPend = none

section
variable {cs cs' : List Comp} {us us' srcs srcs' : List Nat} {s₀ s t : State}

theorem Grows.refl (s : State) : Grows cs us srcs s s :=
  ⟨fun c _ => c.same_refl s, fun _ _ _ => rfl, fun _ _ _ h => h, fun _ h => h, fun h => h⟩

/-- What an operation may touch is among what others may. -/
def within (cs cs' : List Comp) (us us' srcs srcs' : List Nat) : Bool :=
  subsumed cs cs' && subsumed us us' && subsumed srcs srcs'

theorem within_iff {cs cs' : List Comp} {us us' srcs srcs' : List Nat} :
    within cs cs' us us' srcs srcs' = true ↔ cs ⊆ cs' ∧ us ⊆ us' ∧ srcs ⊆ srcs' := by
  simp only [within, Bool.and_eq_true, subsumed_iff, and_assoc]

theorem within_self (cs : List Comp) (us srcs : List Nat) : within cs cs us us srcs srcs = true :=
  within_iff.2 ⟨List.Subset.refl _, List.Subset.refl _, List.Subset.refl _⟩

theorem Grows.mono (h : Grows cs us srcs s t) (hw : within cs cs' us us' srcs srcs' = true) : Grows cs' us' srcs' s t where
  comps c hn := h.comps c fun hm => hn ((within_iff.1 hw).1 hm)
  get f hf hsrc := h.get f (Bool.eq_false_iff.2 fun hm => by
    rw [List.contains_iff_mem.2 ((within_iff.1 hw).2.1 (List.contains_iff_mem.1 hm))] at hf
    cases hf) fun src hm => hsrc src ((within_iff.1 hw).2.2 hm)
  pend := h.pend
  due := h.due
  noPend := h.noPend

/-- One more operation, which touches no more than the others may. -/
theorem Grows.then (h : Grows cs us srcs s₀ s) (h' : Grows cs' us' srcs' s t)
    (hw : within cs' cs us' us srcs' srcs = true) : Grows cs us srcs s₀ t :=
  have h' : Grows cs us srcs s t := h'.mono hw
  ⟨fun c hn => c.same_trans (h.comps c hn) (h'.comps c hn), fun f hf hn => (h'.get f hf hn).trans (h.get f hf hn),
    fun w b hb hs => h'.pend w b hb (h.pend w b hb hs), fun k hk => h'.due k (h.due k hk), fun hn => h'.noPend (h.noPend hn)⟩

theorem Grows.ite {c : Prop} [Decidable c] (h : Grows cs us srcs s₀ s) (h' : Grows cs us srcs s₀ t) :
    Grows cs us srcs s₀ (if c then s else t) := by
  split
  · exact h
  · exact h'

theorem Grows.foldl {α : Type} {f : State → α → State} {l : List α} (h : Grows cs us srcs s₀ s)
    (hf : ∀ t, ∀ x ∈ l, Grows cs us srcs s₀ t → Grows cs us srcs s₀ (f t x)) : Grows cs us srcs s₀ (l.foldl f s) := by
  induction l generalizing s with
  | nil => exact h
  | cons x l ih => exact ih (hf s x (List.mem_cons_self ..) h) fun t y hy => hf t y (List.mem_cons_of_mem _ hy)

theorem Grows.forN {n : Nat} {f : Nat → State → State} (h : Grows cs us srcs s₀ s)
    (hf : ∀ t i, Grows cs us srcs s₀ t → Grows cs us srcs s₀ (f i t)) : Grows cs us srcs s₀ (s.forN n f) :=
  h.foldl fun t i _ => hf t i

/-- The field file is untouched, and so is what the journal has due. -/
theorem Grows.of_flds (hf : t.flds = s.flds) (hdue : t.jrnl.due = s.jrnl.due) (hpend : t.jrnl.cairnPend = s.jrnl.cairnPend)
    (hc : ∀ c, c ∉ cs → c.same s t) : Grows cs us srcs s t where
  comps := hc
  get f _ _ := State.get_of_flds hf f
  pend _ b _ h := by rwa [State.bit_of_get (State.get_of_flds hf _) b]
  due _ h := by rwa [hdue]
  noPend h := by rwa [hpend]

/-- A register may be written: of the units named, and not of IRQ. -/
def writable (us : List Nat) (f : Fld) : Bool := us.contains f.unit && f.unit != 8

theorem Grows.set {f : Fld} {v : Nat} (h : Grows cs us srcs s₀ s) (hf : writable us f = true) :
    Grows cs us srcs s₀ (s.set f v) := by
  obtain ⟨hin, h8⟩ := Bool.and_eq_true_iff.1 hf
  have hcomp (c : Comp) : c.same s (s.set f v) := (State.set_frame [] s f v (P := (· = f)) rfl).2 c nofun
  refine h.then (cs' := cs) (us' := us) (srcs' := srcs) ⟨fun c _ => hcomp c, fun g hg _ => State.get_set_other s ?_ v,
    fun w b _ hb => ?_, fun k hk => ?_, fun hn => ?_⟩ (within_self ..)
  · rintro rfl
    rw [hin] at hg
    cases hg
  · rwa [State.bit_of_get (State.get_set_other s (fun e => bne_iff_ne.1 h8 (congrArg Fld.unit e)) v) b]
  · exact hk
  · exact hn

theorem Grows.flag {f : Fld} {b : Bool} (h : Grows cs us srcs s₀ s) (hf : writable us f = true) :
    Grows cs us srcs s₀ (s.flag f b) := h.set hf

theorem Grows.setBit {f : Fld} {i : Nat} {b : Bool} (h : Grows cs us srcs s₀ s) (hf : writable us f = true) :
    Grows cs us srcs s₀ (s.setBit f i b) := h.set hf

theorem Grows.bump {c x : Fld} (h : Grows cs us srcs s₀ s) (hc : writable us c = true)
    (hx : writable us x = true) : Grows cs us srcs s₀ (s.bump c x) := .ite (h.set hc) (h.flag hx)

end

/-! ## Arrivals -/

/-- A bit that is set stays set where another is set. -/
theorem State.bit_setBit_mono (s : State) {f g : Fld} {i b : Nat} (hb : b < f.w) (h : s.bit g b = true) :
    (s.setBit f i true).bit g b = true := by
  by_cases hfg : f = g
  · subst hfg
    rw [State.bit, State.get_setBit, if_pos rfl, bitOf_mod _ hb]
    by_cases he : b = i
    · rw [he, bitOf_withBit_true]
    · rw [bitOf_withBit_true_other _ he]
      exact h
  · rwa [State.setBit, State.bit_of_get (State.get_set_other s hfg _) b]

theorem State.arrive_grows (s : State) (src : Nat) : Grows [] [] [src] s (s.arrive src) where
  comps c hc := (State.arrive_frame [] s src fun _ h => h).2 c hc
  get f _ hn := State.arrive_get_other s (hn src (List.mem_singleton_self _))
  pend w b hb h := by
    unfold State.arrive
    split
    · have hset : ((s.setBit (IRQ.SPEND.PEND ((src - 0x10) / 32)) ((src - 0x10) % 32) true)).bit (IRQ.SPEND.PEND w) b = true :=
        s.bit_setBit_mono hb h
      have hcount := State.countArrival_frame [] (P := fun f => f = IRQ.SCNT.COUNT src ∨ f = IRQ.SCNT.SAT src)
        (s.setBit (IRQ.SPEND.PEND ((src - 0x10) / 32)) ((src - 0x10) % 32) true) src (.inl rfl) (.inr rfl)
      rwa [State.bit_of_get (hcount.1 _ (by simp [IRQ.SPEND.PEND, IRQ.SCNT.COUNT, IRQ.SCNT.SAT])) b]
    · exact h
  due k h := by rwa [show (s.arrive src).jrnl = s.jrnl from (State.arrive_frame [] s src fun _ h => h).2 .jrnl nofun]
  noPend h := by rwa [show (s.arrive src).jrnl = s.jrnl from (State.arrive_frame [] s src fun _ h => h).2 .jrnl nofun]

section
variable {cs : List Comp} {us srcs : List Nat} {s₀ s t : State} {src : Nat}

theorem Grows.arrive (h : Grows cs us srcs s₀ s) (hs : srcs.contains src = true) : Grows cs us srcs s₀ (s.arrive src) :=
  h.then (s.arrive_grows src) (by simpa [within, subsumed] using hs)

/-- A component that no operation touches. -/
theorem Grows.comp (h : Grows cs us srcs s t) (c : Comp) (hc : cs.contains c = false) : c.same s t :=
  h.comps c fun hm => by
    rw [List.contains_iff_mem.2 hm] at hc
    cases hc

/-- A register is neither of the units named nor of IRQ. -/
def apartFrom (us : List Nat) (f : Fld) : Bool := !us.contains f.unit && f.unit != 8

theorem apartFrom_of_unit {us : List Nat} {f : Fld} {u : Nat} (hf : f.unit = u) (h : (!us.contains u && u != 8) = true) :
    apartFrom us f = true := by rwa [apartFrom, hf]

/-- A register outside IRQ is read as before. -/
theorem Grows.get_of_unit (h : Grows cs us srcs s t) {f : Fld} (hf : apartFrom us f = true) : t.get f = s.get f := by
  obtain ⟨hus, h8⟩ := Bool.and_eq_true_iff.1 hf
  exact h.get f (by simpa using hus) fun _ _ hm => bne_iff_ne.1 h8 (arrivalOf_unit hm)

theorem Grows.on_of_unit (h : Grows cs us srcs s t) {f : Fld} (hf : apartFrom us f = true) : t.on f = s.on f :=
  State.on_of_get (h.get_of_unit hf)

/-- The counts of other sources are not a source's own. -/
theorem count_notMem_arrivalOf {srcs : List Nat} (h : srcs.contains src = false) {x : Nat} (hx : x ∈ srcs) :
    IRQ.SCNT.COUNT src ∉ arrivalOf x ∧ IRQ.SCNT.SAT src ∉ arrivalOf x := by
  have hne : src ≠ x := by
    rintro rfl
    rw [List.contains_iff_mem.2 hx] at h
    cases h
  simpa [arrivalOf, IRQ.SCNT.COUNT, IRQ.SCNT.SAT, IRQ.SPEND.PEND] using hne

/-- A source that has arrived has arrived still, where no operation raises it again. -/
theorem Grows.arrived_then (h : Grows cs us srcs s t) (ha : Arrived src s₀ s) (h8 : us.contains 8 = false)
    (hs : srcs.contains src = false) : Arrived src s₀ t := by
  obtain ⟨hpend, hnext, hfull⟩ := ha
  have hcount : t.get (IRQ.SCNT.COUNT src) = s.get (IRQ.SCNT.COUNT src) :=
    h.get _ h8 fun x hx => (count_notMem_arrivalOf hs hx).1
  have hsat : t.on (IRQ.SCNT.SAT src) = s.on (IRQ.SCNT.SAT src) :=
    State.on_of_get (h.get _ h8 fun x hx => (count_notMem_arrivalOf hs hx).2)
  refine ⟨h.pend _ _ (Nat.mod_lt _ (by decide)) hpend, fun hlt => hcount.trans (hnext hlt), fun he => ?_⟩
  rw [hcount, hsat]
  exact hfull he

/-- A source that arrives after them has arrived since before. -/
theorem Grows.then_arrived (h : Grows cs us srcs s₀ s) (ha : Arrived src s t) (h8 : us.contains 8 = false)
    (hs : srcs.contains src = false) : Arrived src s₀ t := by
  obtain ⟨hpend, hnext, hfull⟩ := ha
  have hcount : s.get (IRQ.SCNT.COUNT src) = s₀.get (IRQ.SCNT.COUNT src) :=
    h.get _ h8 fun x hx => (count_notMem_arrivalOf hs hx).1
  rw [hcount] at hnext hfull
  exact ⟨hpend, hnext, hfull⟩

end

/-! ## Components alone -/

theorem State.modPwr_grows (s : State) (f : PowerSt → PowerSt) : Grows [.pwr] [] [] s (s.modPwr f) :=
  .of_flds rfl rfl rfl (s.modPwr_frame f []).2

end Sys2Proof.Machine

namespace Sys2Proof.Machine
open Sys2Proof.Claims

/-! SUPPORT. What each operation on a unit touches: the journal's stages, captures, the modem, the glass, SELFCAL, leases and
permits. -/

/-! ## Components alone -/

theorem State.modGlass_grows (s : State) (f : GlassSt → GlassSt) : Grows [.glass] [] [] s (s.modGlass f) :=
  .of_flds rfl rfl rfl fun c hc => by
    cases c with
    | glass => simp at hc
    | _ => rfl

theorem State.modModem_grows (s : State) (f : ModemSt → ModemSt) : Grows [.modem] [] [] s (s.modModem f) :=
  .of_flds rfl rfl rfl fun c hc => by
    cases c with
    | modem => simp at hc
    | _ => rfl

theorem State.modLease_grows (s : State) (x : Fin 12) (f : LeaseSt → LeaseSt) : Grows [.leases] [] [] s (s.modLease x f) :=
  .of_flds rfl rfl rfl fun c hc => by
    cases c with
    | leases => simp at hc
    | _ => rfl

theorem State.stageEvent_grows (s : State) (unit kind : Nat) (data : List Byte) :
    Grows [.jrnl] [] [] s (s.stageEvent unit kind data) :=
  .of_flds rfl rfl rfl fun c hc => by
    cases c with
    | jrnl => simp at hc
    | _ => rfl

theorem State.setBytes_grows (s : State) (a : Nat) (bs : List Byte) : Grows [.mem] [] [] s (s.setBytes a bs) :=
  .of_flds rfl rfl rfl fun c hc => by
    cases c with
    | mem => simp at hc
    | _ => rfl

theorem State.openVal_grows (s : State) : Grows [.free] [] [] s s.openVal.2 :=
  .of_flds rfl rfl rfl fun c hc => by
    cases c with
    | free => simp at hc
    | _ => rfl

theorem State.settleFor_grows (s : State) (k g n : Nat) : Grows [.streams] [] [] s (s.settleFor k g n) :=
  .of_flds rfl rfl rfl fun c hc => by
    cases c with
    | streams => simp at hc
    | _ => rfl

theorem State.belayDue_grows (s : State) (k : BelayKind) : Grows [.jrnl] [] [] s (s.belayDue k) where
  comps := (s.belayDue_frame k []).2
  get _ _ _ := (s.belayDue_frame k []).get nofun
  pend _ b _ h := by rwa [State.bit_of_get ((s.belayDue_frame k []).get nofun) b]
  due j h := by
    unfold State.belayDue
    split
    · exact h
    · exact List.mem_append_left _ h
  noPend h := by
    unfold State.belayDue
    split
    · exact h
    · exact h

/-! ## Captures, the modem, the auxiliary converter, the write port -/

theorem State.drawStop_grows (s : State) : Grows [] [0x25] [0x2A] s s.drawStop :=
  .ite ((((Grows.refl s).set rfl).flag rfl).arrive rfl) (.refl s)

theorem State.freeze_grows (s : State) (incomplete : Bool) (stop : Nat) :
    Grows [] [0x25] [0x29] s (s.freeze incomplete stop) := by
  have hset : Grows [] [0x25] [0x29] s ((s.set CAPT.STATUS.STATE 4).set CAPT.COUNT.COUNT
      (stop - s.get2 CAPT.FIRSTLO.GLO CAPT.FIRSTHI.GHI)) := ((Grows.refl s).set rfl).set rfl
  exact ((Grows.ite (hset.flag rfl) hset).set rfl).arrive rfl

theorem State.showPermit_grows (s : State) (n : Option Nat) : Grows [] [0x34] [] s (s.showPermit n) := by
  cases n with
  | none | some => exact ((Grows.refl s).flag rfl).set rfl

theorem State.txDone_grows (s : State) (result : Nat) : Grows [.modem] [0x34] [0x49, 0x4A] s (s.txDone result) := by
  unfold State.txDone
  extract_lets s₁ s₂ s₃
  have h₁ : Grows [.modem] [0x34] [0x49, 0x4A] s s₁ :=
    (((Grows.refl s).flag rfl).flag rfl).flag rfl
  have h₂ : Grows [.modem] [0x34] [0x49, 0x4A] s s₂ :=
    ((h₁.flag rfl).set rfl).then (State.showPermit_grows ..) rfl
  have h₃ : Grows [.modem] [0x34] [0x49, 0x4A] s s₃ := h₂.then (State.modModem_grows ..) rfl
  exact .ite (h₃.arrive rfl) (.ite (h₃.arrive rfl) h₃)

theorem State.txStop_grows (s : State) (result : Nat) : Grows [.modem] [0x34] [0x49, 0x4A] s (s.txStop result) := by
  unfold State.txStop
  extract_lets s₁
  have h₁ : Grows [.modem] [0x34] [0x49, 0x4A] s s₁ :=
    ((Grows.refl s).flag rfl).then (State.modModem_grows ..) rfl
  split
  · exact h₁
  · have hmod (f : ModemSt → ModemSt) : Grows [.modem] [0x34] [0x49, 0x4A] s (s₁.modModem f) :=
      h₁.then (State.modModem_grows ..) rfl
    refine .ite ?_ (.ite ((hmod _).then (State.txDone_grows ..) rfl) (hmod _))
    dsimp only
    exact .ite (.ite ((hmod _).then (State.txDone_grows ..) rfl) (hmod _))
      (h₁.then (State.modModem_grows ..) rfl)

theorem State.auxStop_grows (s : State) : Grows [.aux] [0x30] [] s s.auxStop := by
  have haux (f : AuxSt → AuxSt) : Grows [.aux] [0x30] [] s (s.modAux f) :=
    .of_flds rfl rfl rfl fun c hc => by
      cases c with
      | aux => simp at hc
      | _ => rfl
  have hs : Grows [.aux] [0x30] [] s s := .refl s
  exact .ite (hs.flag rfl) (.ite (.ite (haux _) (hs.flag rfl)) hs)

theorem State.portAbort_grows (s : State) : Grows [.port] [0x29] [] s s.portAbort :=
  ((Grows.refl s).flag (f := CAIRN.PSTAT.OPEN) (b := false) rfl).then (cs' := [.port]) (us' := []) (srcs' := [])
    (.of_flds rfl rfl rfl fun c hc => by
      cases c with
      | port => simp at hc
      | _ => rfl) rfl

/-! ## Permits asked for -/

theorem State.pickPermit_grows {s t : State} {n : Nat} (h : s.pickPermit = some (n, t)) : Grows [.free] [] [] s t := by
  unfold State.pickPermit at h
  split at h
  · cases h
  · cases h
    exact .refl s
  · cases h
    exact s.openVal_grows

theorem State.fillPermit_grows (s : State) (n who cls draw hold : Nat) :
    Grows [] [3] [] s (s.fillPermit n who cls draw hold) :=
  (((((Grows.refl s).set rfl).set rfl).set rfl).set rfl).set rfl

theorem State.grant_grows (s : State) (n : Nat) : Grows [.pwr] [3] [] s (s.grant n) := by
  unfold State.grant
  exact ((Grows.refl s).set rfl).then (State.modPwr_grows ..) rfl

theorem State.permitRequest_grows (s : State) (who cls draw hold : Nat) (nowait : Bool) :
    Grows [.pwr, .free] [3] [] s (s.permitRequest who cls draw hold nowait).2.2 := by
  unfold State.permitRequest
  split
  · exact .refl s
  split
  · exact .refl s
  split
  · exact .refl s
  split
  · exact .refl s
  · next n t hp =>
    have hfill : Grows [.pwr, .free] [3] [] s (t.fillPermit n who cls draw hold) :=
      ((State.pickPermit_grows hp).mono rfl).then (State.fillPermit_grows ..) rfl
    split
    · exact hfill.then (State.grant_grows ..) rfl
    split
    · exact .refl s
    · dsimp only
      exact hfill.then (State.modPwr_grows ..) rfl

/-! ## The glass -/

theorem State.stageStart_grows (s : State) (region mask : Nat) (req : GlassReq) :
    Grows [.glass, .jrnl] [] [] s (s.stageStart region mask req) := by
  unfold State.stageStart
  exact ((s.stageEvent_grows ..).mono rfl).then (State.modGlass_grows ..) rfl

theorem State.nextUpdate_grows (s : State) : Grows [.glass, .jrnl, .pwr, .free] [3] [] s s.nextUpdate := by
  unfold State.nextUpdate
  split
  · exact .refl s
  extract_lets tbl r s₁ m
  have hr : Grows [.glass, .jrnl, .pwr, .free] [3] [] s r.2.2 := by
    simp only [r]
    split
    · exact (s.permitRequest_grows ..).mono rfl
    · exact .refl s
  have hs : Grows [.glass, .jrnl, .pwr, .free] [3] [] s s₁ := .ite ((s.modGlass_grows _).mono rfl) (.refl s)
  split
  · exact (hr.then (State.modGlass_grows ..) rfl).then (State.stageStart_grows ..) rfl
  split
  · exact hs
  split
  · exact hs
  · exact (hs.then (State.modGlass_grows ..) rfl).then (State.stageStart_grows ..) rfl

/-- Under the warning no permit is granted (R495): a request that will not wait is refused. -/
theorem State.permitRequest_frozen {s : State} (h : s.on PERMIT.STATUS.FROZEN = true) (who cls draw hold : Nat) :
    (s.permitRequest who cls draw hold true).1 ≠ 0 := by
  have hfit : s.fitsNow cls draw = false := by simp [State.fitsNow, h]
  unfold State.permitRequest
  split
  · simp
  split
  · simp
  split
  · simp
  split
  · simp
  · simp [hfit]

/-- Under the warning the glass takes up no flag, and so asks for nothing. -/
theorem State.nextUpdate_frozen {s : State} (h : s.on PERMIT.STATUS.FROZEN = true) :
    Grows [.glass, .jrnl] [] [] s s.nextUpdate := by
  unfold State.nextUpdate
  split
  · exact .refl s
  extract_lets tbl r s₁ m
  have hr : r.1 ≠ 0 := by
    simp only [r]
    split
    · exact State.permitRequest_frozen h _ _ _ _
    · exact (by decide : (4 : Nat) ≠ 0)
  have hs : Grows [.glass, .jrnl] [] [] s s₁ := .ite ((s.modGlass_grows _).mono rfl) (.refl s)
  rw [if_neg hr]
  split
  · exact hs
  split
  · exact hs
  · exact (hs.then (State.modGlass_grows ..) rfl).then (State.stageStart_grows ..) rfl

/-- An update has ended, and the next is still to be chosen. -/
def State.updEnded (s : State) (u : GlassUpd) (res : Nat) : State :=
  let region := if u.region = 8 then s.get GLASS.BSTAT.LASTREG else u.region
  let s := ((s.set GLASS.BSTAT.LASTRES res).set GLASS.BSTAT.LASTREG region).flag GLASS.STATUS.BUSY false
  let s := (s.modGlass (fun g => { g with upd := none })).mirrorGlass.compPend.stageEvent 0x28 0x38 (s.glassData u 2 res)
  s.arrive 0x50

theorem State.updDone_eq (s : State) (u : GlassUpd) (res : Nat) : s.updDone u res = (s.updEnded u res).nextUpdate := rfl

theorem State.updEnded_grows (s : State) (u : GlassUpd) (res : Nat) :
    Grows [.glass, .mem, .jrnl] [0x38] [0x50] s (s.updEnded u res) := by
  unfold State.updEnded
  extract_lets region s₁ s₂
  have h₁ : Grows [.glass, .mem, .jrnl] [0x38] [0x50] s s₁ := (((Grows.refl s).set rfl).set rfl).flag rfl
  have hmem : Grows [.glass, .mem, .jrnl] [0x38] [0x50] s (s₁.modGlass fun g => { g with upd := none }).mirrorGlass :=
    (h₁.then (State.modGlass_grows ..) rfl).then (State.setBytes_grows ..) rfl
  exact ((hmem.flag rfl).then (State.stageEvent_grows ..) rfl).arrive rfl

/-- The components that the end of a glass update changes. -/
def glassComps : List Comp := [.glass, .mem, .jrnl, .pwr, .free]

theorem State.updDone_grows (s : State) (u : GlassUpd) (res : Nat) :
    Grows glassComps [0x38, 3] [0x50] s (s.updDone u res) :=
  ((s.updEnded_grows u res).mono rfl).then (State.nextUpdate_grows _) rfl

theorem State.updDone_frozen {s : State} (h : s.on PERMIT.STATUS.FROZEN = true) (u : GlassUpd) (res : Nat) :
    Grows [.glass, .mem, .jrnl] [0x38] [0x50] s (s.updDone u res) :=
  have hend := s.updEnded_grows u res
  hend.then (State.nextUpdate_frozen ((hend.on_of_unit rfl).trans h)) rfl

/-- A stop ends the update at once, or sets the time at which it will. -/
theorem State.updStop_cases (s : State) (res : Nat) (at' : GlassUpd → Nat) :
    (∃ u, s.updStop res at' = s.updDone u res) ∨ ∃ f, s.updStop res at' = s.modGlass f := by
  unfold State.updStop
  split
  · exact .inr ⟨id, rfl⟩
  · next u _ =>
    split
    · exact .inl ⟨u, rfl⟩
    split
    · exact .inr ⟨id, rfl⟩
    · exact .inr ⟨_, rfl⟩

theorem State.updStop_grows (s : State) (res : Nat) (at' : GlassUpd → Nat) :
    Grows glassComps [0x38, 3] [0x50] s (s.updStop res at') := by
  obtain ⟨u, h⟩ | ⟨f, h⟩ := s.updStop_cases res at'
  · exact h ▸ s.updDone_grows u res
  · exact h ▸ (s.modGlass_grows f).mono rfl

theorem State.updStop_frozen {s : State} (hf : s.on PERMIT.STATUS.FROZEN = true) (res : Nat) (at' : GlassUpd → Nat) :
    Grows [.glass, .mem, .jrnl] [0x38] [0x50] s (s.updStop res at') := by
  obtain ⟨u, h⟩ | ⟨f, h⟩ := s.updStop_cases res at'
  · exact h ▸ State.updDone_frozen hf u res
  · exact h ▸ (s.modGlass_grows f).mono rfl

theorem State.glassPermitEnd_grows (s : State) (n : Nat) : Grows glassComps [0x38, 3] [0x50] s (s.glassPermitEnd n) := by
  unfold State.glassPermitEnd
  split
  · exact .ite (State.updStop_grows ..) (.refl s)
  · exact .refl s

/-! ## SELFCAL -/

theorem State.rejoinSettle_grows (s : State) (q : Nat) : Grows [.streams] [] [] s (s.rejoinSettle q) :=
  .ite ((Grows.refl s).forN fun _ _ h => .ite h (h.then (State.settleFor_grows ..) rfl)) (.refl s)

theorem State.selfCalAbort_grows (s : State) : Grows [.selfCal, .streams] [0x2C] [0x30] s s.selfCalAbort := by
  unfold State.selfCalAbort
  split
  · exact .refl s
  · next c _ =>
    extract_lets running s₁
    have h₁ : Grows [.selfCal, .streams] [0x2C] [0x30] s s₁ := (Grows.refl s).forN fun t q h =>
      .ite ((h.then (t.rejoinSettle_grows q) rfl).setBit rfl) h
    have hstop : Grows [.selfCal] [] [] s₁ { s₁ with selfCal := none } := .of_flds rfl rfl rfl fun c hc => by
      cases c with
      | selfCal => simp at hc
      | _ => rfl
    exact (((h₁.then hstop rfl).set rfl).arrive rfl).flag rfl

/-! ## The end of a permit -/

theorem State.freePermit_grows (s : State) (n : Nat) : Grows [.pwr] [3] [] s (s.freePermit n) := by
  unfold State.freePermit
  exact ((((((Grows.refl s).set rfl).set rfl).set rfl).set rfl).set rfl).then (State.modPwr_grows ..) rfl

/-- The components that the end of a permit changes. -/
def permitComps : List Comp := [.selfCal, .streams, .modem, .glass, .mem, .jrnl, .pwr, .free]

theorem State.permitLost_grows (s : State) (n : Nat) :
    Grows permitComps [0x25, 0x2C, 0x34, 0x38, 3] [0x2A, 0x30, 0x49, 0x4A, 0x50] s (s.permitLost n) := by
  unfold State.permitLost
  extract_lets s₁ s₂ has s₃
  have h₁ : Grows permitComps [0x25, 0x2C, 0x34, 0x38, 3] [0x2A, 0x30, 0x49, 0x4A, 0x50] s s₁ :=
    .ite (s.drawStop_grows.mono rfl) (.refl s)
  have h₂ : Grows permitComps [0x25, 0x2C, 0x34, 0x38, 3] [0x2A, 0x30, 0x49, 0x4A, 0x50] s s₂ := by
    simp only [s₂]
    split
    · exact .ite (h₁.then s₁.selfCalAbort_grows rfl) h₁
    · exact h₁
  have h₃ : Grows permitComps [0x25, 0x2C, 0x34, 0x38, 3] [0x2A, 0x30, 0x49, 0x4A, 0x50] s s₃ :=
    .ite (h₂.then (s₂.txStop_grows 4) rfl) h₂
  exact h₃.then (s₃.glassPermitEnd_grows n) rfl

theorem State.permitReleased_grows (s : State) (n : Nat) :
    Grows permitComps [0x25, 0x2C, 0x34, 0x38, 3] [0x2A, 0x30, 0x49, 0x4A, 0x50, 0x36] s (s.permitEnd n false) :=
  (((s.freePermit_grows n).mono rfl).then (State.permitLost_grows ..) rfl).arrive rfl

/-! ## Leases -/

/-- A rollback touches the unit of its resource, and the glass its mirror too. -/
theorem State.leaseUndo_grows (s : State) (x : Fin 12) :
    Grows [.port, .jrnl, .modem, .glass, .mem, .pwr, .free, .aux] [0x29, 0x25, 0x34, 0x38, 3, 0x30] [0x2A, 0x49, 0x4A, 0x50] s
      (s.leaseUndo x) := by
  unfold State.leaseUndo
  split
  · exact s.portAbort_grows.mono rfl
  · exact .of_flds rfl rfl rfl fun c hc => by
      cases c with
      | jrnl => simp at hc
      | _ => rfl
  · exact s.drawStop_grows.mono rfl
  · exact (s.txStop_grows 4).mono rfl
  · exact (State.updStop_grows ..).mono rfl
  · exact s.auxStop_grows.mono rfl
  · exact .refl s

end Sys2Proof.Machine

namespace Sys2Proof.Machine
open Sys2Proof.Claims

/-! SUPPORT. Revocation of leases, what the supervisor takes for itself, and a decision to reset (R257, R258, R347, R509). -/

section
variable {cs : List Comp} {us srcs : List Nat} {s₀ s t : State}

/-- A frame in the form the claims have it. -/
theorem Grows.frame (h : Grows cs us [] s t) : Frame cs (fun f => us.contains f.unit = true) s t :=
  ⟨fun f hf => h.get f (Bool.eq_false_iff.2 hf) nofun, h.comps⟩

theorem Grows.raise {f : Fld} {src : Nat} (h : Grows cs us srcs s₀ s) (hf : writable us f = true)
    (hs : srcs.contains src = true) : Grows cs us srcs s₀ (s.raise f src) := .ite h ((h.flag hf).arrive hs)

end

theorem State.recordFault_grows (s : State) (who code unit pc : Nat) :
    Grows [] [0] [0x3B] s (s.recordFault who code unit pc) := by
  unfold State.recordFault
  extract_lets s₁
  have h₁ : Grows [] [0] [0x3B] s s₁ := (Grows.refl s).bump rfl rfl
  exact .ite (h₁.flag rfl) (((((((h₁.set rfl).set rfl).set rfl).set rfl).set rfl).set rfl).raise rfl rfl)

/-! ## A lease revoked (R257, R258) -/

/-- A holder is noted among those that lost a lease. -/
def noteLost (lost : List Nat) (who : Nat) : List Nat := if lost.contains who then lost else lost ++ [who]

theorem mem_noteLost (lost : List Nat) (who : Nat) : who ∈ noteLost lost who := by
  unfold noteLost
  split
  · next h => simpa using h
  · simp

/-- A revocation is counted and shown, and raises source 0x37. -/
def State.revokeShown (s : State) (x : Fin 12) (reason : Nat) : State :=
  ((((s.bump LEASE.REVOKES.COUNT LEASE.REVOKES.SAT).set LEASE.LASTREV.REASON reason).set LEASE.LASTREV.HOLDER
    (s.get (LEASE.HOLD.HOLDER x))).set LEASE.LASTREV.RES x).arrive 0x37

/-- The registers after a revocation, before the resource's own rollback. -/
def State.revocation (s : State) (x : Fin 12) (reason : Nat) : State :=
  ((s.revokeShown x reason).set (LEASE.HOLD.STATE x) 2).set (LEASE.HOLD.HOLDER x) 0xFF

/-- A revocation for a reason that records no fault. -/
def State.revokeFor (s : State) (x : Fin 12) (reason : Nat) : State :=
  ((s.revocation x reason).leaseUndo x).modLease x fun l => ⟨0, s.clock.now, noteLost l.lost (s.get (LEASE.HOLD.HOLDER x))⟩

theorem State.modLease_modLease (s : State) (x : Fin 12) (f g : LeaseSt → LeaseSt) :
    (s.modLease x f).modLease x g = s.modLease x fun l => g (f l) := by
  simp [State.modLease]

section
variable (s : State) (x : Fin 12)

theorem State.revokeShown_grows (reason : Nat) : Grows [] [4] [0x37] s (s.revokeShown x reason) :=
  (((((Grows.refl s).bump rfl rfl).set rfl).set rfl).set rfl).arrive rfl

theorem State.revocation_grows (reason : Nat) : Grows [] [4] [0x37] s (s.revocation x reason) :=
  ((s.revokeShown_grows x reason).set rfl).set rfl

theorem State.leaseRevoke_noFault {reason : Nat} (h : reason ≠ 0) : s.leaseRevoke x reason = s.revokeFor x reason := by
  have hclock : (s.revokeShown x reason).clock = s.clock := (s.revokeShown_grows x reason).comp .clock rfl
  rw [State.revokeFor, ← hclock, State.leaseRevoke]
  simp only [if_neg h]
  exact State.modLease_modLease ..

/-- An expiry records its fault first. -/
theorem State.leaseRevoke_expired : s.leaseRevoke x 0 = (s.supervisorFault 0x21 (leaseUnit x)).revokeFor x 0 := by
  let u := s.supervisorFault 0x21 (leaseUnit x)
  have hu : Grows [] [0] [0x3B] s u := State.recordFault_grows ..
  have hclock : (u.revokeShown x 0).clock = u.clock := (u.revokeShown_grows x 0).comp .clock rfl
  have hwho : u.get (LEASE.HOLD.HOLDER x) = s.get (LEASE.HOLD.HOLDER x) := hu.get_of_unit rfl
  show _ = u.revokeFor x 0
  rw [State.revokeFor, ← hclock, State.leaseRevoke, if_pos rfl, ← hwho]
  exact State.modLease_modLease ..

/-- What a revocation may touch: what its rollback may, LEASE and source 0x37. -/
theorem State.revokeFor_grows (reason : Nat) {cs : List Comp} {us srcs : List Nat}
    (hu : ∀ u : State, Grows cs us srcs u (u.leaseUndo x)) :
    Grows (.leases :: cs) (4 :: us) (0x37 :: srcs) s (s.revokeFor x reason) :=
  (((s.revocation_grows x reason).mono (by simp [within, subsumed])).then (hu _)
    (within_iff.2 ⟨List.subset_cons_self .., List.subset_cons_self .., List.subset_cons_self ..⟩)).then
    (State.modLease_grows ..) (by simp [within, subsumed])

/-- Behind the registers of LEASE nothing of LEASE changes. -/
theorem State.revokeFor_get (reason : Nat) {f : Fld} (hf : f.unit = 4) :
    (s.revokeFor x reason).get f = (s.revocation x reason).get f :=
  (State.leaseUndo_grows (s.revocation x reason) x).get_of_unit (apartFrom_of_unit hf rfl)

/-- The resource is in rollback without a holder, and LASTREV shows the revocation. -/
theorem State.revokeFor_held (reason : Nat) : let t := s.revokeFor x reason
    t.get (LEASE.HOLD.STATE x) = 2 ∧ t.get (LEASE.HOLD.HOLDER x) = 0xFF ∧ t.get LEASE.LASTREV.REASON = reason % 4 ∧
    t.get LEASE.LASTREV.HOLDER = s.get (LEASE.HOLD.HOLDER x) % 256 ∧ t.get LEASE.LASTREV.RES = x.val := by
  have hx : x.val % 256 = x.val := Nat.mod_eq_of_lt (x.isLt.trans (by decide))
  have harr (v : State) {f : Fld} (hf : f.unit = 4) : (v.arrive 0x37).get f = v.get f :=
    (v.arrive_grows 0x37).get_of_unit (apartFrom_of_unit hf rfl)
  intro t
  refine ⟨(s.revokeFor_get x reason rfl).trans ?_, (s.revokeFor_get x reason rfl).trans ?_,
    (s.revokeFor_get x reason rfl).trans ?_, (s.revokeFor_get x reason rfl).trans ?_,
    (s.revokeFor_get x reason rfl).trans ?_⟩
  all_goals
    simp [State.revocation, State.revokeShown, State.get_set, harr, LEASE.HOLD.STATE, LEASE.HOLD.HOLDER,
      LEASE.LASTREV.REASON, LEASE.LASTREV.HOLDER, LEASE.LASTREV.RES, hx]

/-- The registers that the revocation of resource x writes. -/
def revokeFields (x : Nat) : List Fld :=
  [LEASE.REVOKES.COUNT, LEASE.REVOKES.SAT, LEASE.LASTREV.REASON, LEASE.LASTREV.HOLDER, LEASE.LASTREV.RES,
    LEASE.HOLD.STATE x, LEASE.HOLD.HOLDER x]

theorem State.revokeFor_get_other (reason : Nat) {f : Fld} (hf : f.unit = 4) (hn : f ∉ revokeFields x) :
    (s.revokeFor x reason).get f = s.get f := by
  have hframe : Same [] (revokeFields x ++ arrivalOf 0x37) s (s.revocation x reason) :=
    ((((((State.bump_frame [] s _ _ (by simp [revokeFields]) (by simp [revokeFields])).then
      (State.set_frame [] _ _ _ (by simp [revokeFields]))).then (State.set_frame [] _ _ _ (by simp [revokeFields]))).then
      (State.set_frame [] _ _ _ (by simp [revokeFields]))).then
      (State.arrive_frame [] _ _ fun _ h => List.mem_append_right _ h)).then
      (State.set_frame [] _ _ _ (by simp [revokeFields]))).then (State.set_frame [] _ _ _ (by simp [revokeFields]))
  refine (s.revokeFor_get x reason hf).trans (hframe.get fun hm => ?_)
  obtain hm | hm := List.mem_append.1 hm
  · exact hn hm
  · have := arrivalOf_unit hm
    omega

theorem State.revokeFor_lease (reason : Nat) : let t := s.revokeFor x reason
    t.leases[x] = ⟨0, s.clock.now, noteLost s.leases[x].lost (s.get (LEASE.HOLD.HOLDER x))⟩ ∧
    ∀ y, y ≠ x → t.leases[y] = s.leases[y] := by
  have hleases : ((s.revocation x reason).leaseUndo x).leases = s.leases :=
    Eq.trans ((State.leaseUndo_grows _ x).comp .leases rfl) ((s.revocation_grows x reason).comp .leases rfl)
  refine ⟨?_, fun y hy => ?_⟩
  · rw [State.revokeFor, State.modLease_same, hleases]
  · rw [State.revokeFor, State.modLease_other (h := hy), hleases]

theorem State.revokeFor_arrived (reason : Nat) : Arrived 0x37 s (s.revokeFor x reason) := by
  have hbefore : Grows [] [4] [] s ((((s.bump LEASE.REVOKES.COUNT LEASE.REVOKES.SAT).set LEASE.LASTREV.REASON reason).set
    LEASE.LASTREV.HOLDER (s.get (LEASE.HOLD.HOLDER x))).set LEASE.LASTREV.RES x) :=
    ((((Grows.refl s).bump rfl rfl).set rfl).set rfl).set rfl
  have hshown : Arrived 0x37 s (s.revokeShown x reason) := hbefore.then_arrived (State.arrive_arrived _ rfl) rfl rfl
  have hset : Grows [] [4] [] (s.revokeShown x reason) (s.revocation x reason) := ((Grows.refl _).set rfl).set rfl
  have hundo := State.leaseUndo_grows (s.revocation x reason) x
  exact (State.modLease_grows ..).arrived_then (hundo.arrived_then (hset.arrived_then hshown rfl rfl) rfl rfl) rfl rfl

end

end Sys2Proof.Machine

namespace Sys2Proof.Machine
open Sys2Proof.Claims

/-! SUPPORT. What the supervisor takes for itself, and a decision to reset (R258, R347). -/

/-! ## The supervisor's priority (R258, R347) -/

/-- The supervisor revokes one resource from another holder and takes it. -/
def State.preemptOne (s : State) (x : Fin 12) : State :=
  if s.get (LEASE.HOLD.STATE x) = 1 ∧ s.get (LEASE.HOLD.HOLDER x) ≠ 0x10 then
    (s.flag (LEASE.HOLD.SUPWAIT x) true).leaseRevoke x 1
  else s.supervisorTake x

theorem State.preempt_eq (s : State) : s.preempt = (s.preemptOne 0).preemptOne 1 := rfl

/-- From s to t the supervisor has asked for resource x: another holder's is in rollback and it waits; a free one is its
own; its own stays so. -/
def TakenForSupervisor (x : Nat) (s t : State) : Prop :=
  (s.get (LEASE.HOLD.STATE x) = 1 → s.get (LEASE.HOLD.HOLDER x) ≠ 0x10 →
    t.get (LEASE.HOLD.STATE x) = 2 ∧ t.on (LEASE.HOLD.SUPWAIT x) = true) ∧
  (s.get (LEASE.HOLD.STATE x) = 0 → t.get (LEASE.HOLD.STATE x) = 1 ∧ t.get (LEASE.HOLD.HOLDER x) = 0x10) ∧
  (s.get (LEASE.HOLD.STATE x) = 1 → s.get (LEASE.HOLD.HOLDER x) = 0x10 →
    t.get (LEASE.HOLD.STATE x) = 1 ∧ t.get (LEASE.HOLD.HOLDER x) = 0x10)

/-- The registers of a resource's lease. -/
def leaseFields (x : Nat) : List Fld := [LEASE.HOLD.STATE x, LEASE.HOLD.HOLDER x, LEASE.HOLD.SUPWAIT x]

theorem TakenForSupervisor.congr {x : Nat} {s s' t t' : State} (h : TakenForSupervisor x s t)
    (hs : ∀ f ∈ leaseFields x, s'.get f = s.get f) (ht : ∀ f ∈ leaseFields x, t'.get f = t.get f) :
    TakenForSupervisor x s' t' := by
  simp only [leaseFields, List.forall_mem_cons, List.not_mem_nil, false_implies, implies_true, and_true] at hs ht
  obtain ⟨hst, hho, _⟩ := hs
  obtain ⟨hst', hho', hsup'⟩ := ht
  simpa only [TakenForSupervisor, State.on, hst, hho, hst', hho', hsup'] using h

section
variable (s : State) (x : Fin 12)

theorem State.leaseGive_held (who : Nat) : (s.leaseGive x who).get (LEASE.HOLD.STATE x) = 1 ∧
    (s.leaseGive x who).get (LEASE.HOLD.HOLDER x) = who % 256 := by
  simp [State.leaseGive, State.get_set, LEASE.HOLD.STATE, LEASE.HOLD.HOLDER]

theorem State.supervisorTake_grows : Grows [] [4] [] s (s.supervisorTake x) := by
  have hs : Grows [] [4] [] s s := .refl s
  exact .ite ((hs.set rfl).set rfl) (.ite hs (hs.flag rfl))

theorem State.preemptOne_taken : TakenForSupervisor x s (s.preemptOne x) := by
  refine ⟨fun hst hho => ?_, fun hst => ?_, fun hst hho => ?_⟩
  · have hsup : (s.flag (LEASE.HOLD.SUPWAIT x) true).on (LEASE.HOLD.SUPWAIT x) = true := State.on_flag_same s _ rfl
    obtain ⟨hstate, _⟩ := (s.flag (LEASE.HOLD.SUPWAIT x) true).revokeFor_held x 1
    rw [State.preemptOne, if_pos ⟨hst, hho⟩, State.leaseRevoke_noFault _ _ (by decide)]
    refine ⟨hstate, (State.on_of_get (State.revokeFor_get_other _ x 1 rfl ?_)).trans hsup⟩
    simp [revokeFields, LEASE.HOLD.SUPWAIT, LEASE.REVOKES.COUNT, LEASE.REVOKES.SAT, LEASE.LASTREV.REASON,
      LEASE.LASTREV.HOLDER, LEASE.LASTREV.RES, LEASE.HOLD.STATE, LEASE.HOLD.HOLDER]
  · rw [State.preemptOne, if_neg (fun h => by omega), State.supervisorTake, if_pos hst]
    exact s.leaseGive_held x 0x10
  · rw [State.preemptOne, if_neg (fun h => h.2 hho), State.supervisorTake, if_neg (by omega), if_pos ⟨hst, hho⟩]
    exact ⟨hst, hho⟩

/-- Taking one resource leaves the leases of the others alone. -/
theorem State.preemptOne_other {y : Nat} (hy : y ≠ x) {f : Fld} (hf : f ∈ leaseFields y) :
    (s.preemptOne x).get f = s.get f := by
  have hunit : f.unit = 4 := by
    simp only [leaseFields, List.mem_cons, List.not_mem_nil, or_false] at hf
    obtain rfl | rfl | rfl := hf <;> rfl
  have hidx : f.idx = 0x10 + y := by
    simp only [leaseFields, List.mem_cons, List.not_mem_nil, or_false] at hf
    obtain rfl | rfl | rfl := hf <;> rfl
  have hne (g : Fld) (hg : g.idx = 0x10 + x) : g ≠ f := by
    rintro rfl
    omega
  have hset (v : State) (g : Fld) (n : Nat) (hg : g.idx = 0x10 + x) : (v.set g n).get f = v.get f :=
    State.get_set_other v (hne g hg) n
  unfold State.preemptOne
  split
  · rw [State.leaseRevoke_noFault _ _ (by decide), State.revokeFor_get_other _ _ _ hunit, State.flag, hset _ _ _ rfl]
    intro hm
    simp only [revokeFields, List.mem_cons, List.not_mem_nil, or_false] at hm
    obtain rfl | rfl | rfl | rfl | rfl | rfl | rfl := hm <;>
      simp [LEASE.REVOKES.COUNT, LEASE.REVOKES.SAT, LEASE.LASTREV.REASON, LEASE.LASTREV.HOLDER, LEASE.LASTREV.RES,
        LEASE.HOLD.STATE, LEASE.HOLD.HOLDER] at hidx <;> omega
  · unfold State.supervisorTake
    split
    · rw [State.leaseGive, hset _ _ _ rfl, hset _ _ _ rfl]
    split
    · rfl
    · rw [State.flag, hset _ _ _ rfl]

end

/-- What the supervisor's taking of the port and the journal writer may touch. -/
def preemptComps : List Comp := [.leases, .port, .jrnl]

theorem State.preemptOne_grows (s : State) (x : Fin 12) (hx : x = 0 ∨ x = 1) :
    Grows preemptComps [4, 0x29] [0x37] s (s.preemptOne x) := by
  have hundo (u : State) : Grows [.port, .jrnl] [0x29] [] u (u.leaseUndo x) := by
    obtain rfl | rfl := hx
    · exact u.portAbort_grows.mono rfl
    · exact .of_flds rfl rfl rfl fun c hc => by
        cases c with
        | jrnl => simp at hc
        | _ => rfl
  have hs : Grows preemptComps [4, 0x29] [0x37] s s := .refl s
  refine .ite ?_ ((s.supervisorTake_grows x).mono rfl)
  rw [State.leaseRevoke_noFault _ _ (by decide)]
  exact (hs.flag rfl).then (State.revokeFor_grows _ x 1 hundo) rfl

theorem State.preempt_grows (s : State) : Grows preemptComps [4, 0x29] [0x37] s s.preempt :=
  (s.preemptOne_grows 0 (.inl rfl)).then ((s.preemptOne 0).preemptOne_grows 1 (.inr rfl)) rfl

/-- The supervisor has asked for the port and the journal writer. -/
theorem State.preempt_taken (s : State) : TakenForSupervisor 0 s s.preempt ∧ TakenForSupervisor 1 s s.preempt :=
  ⟨(s.preemptOne_taken 0).congr (fun _ _ => rfl) fun _ hf => State.preemptOne_other _ 1 (by decide) hf,
    ((s.preemptOne 0).preemptOne_taken 1).congr (fun _ hf => (s.preemptOne_other 0 (by decide) hf).symm) fun _ _ => rfl⟩

/-! ## A decision to reset (R347, R509) -/

theorem State.decideReset_grows (s : State) (kind : Nat) :
    Grows [.pwr, .leases, .port, .jrnl] [4, 0x29] [0x37] s (s.decideReset kind) := by
  have hs : Grows [.pwr, .leases, .port, .jrnl] [4, 0x29] [0x37] s s := .refl s
  exact .ite hs (((hs.then (State.modPwr_grows ..) rfl).then (State.belayDue_grows ..) rfl).then (State.preempt_grows _) rfl)

/-- The first decision stands: its kind is kept, and the pre-reset belay falls due. -/
theorem State.decideReset_decided {s : State} (h : s.pwr.reset = none) (kind : Nat) :
    (s.decideReset kind).pwr = { s.pwr with reset := some ⟨kind, s.clock.grain⟩ } ∧
    .prereset ∈ (s.decideReset kind).jrnl.due := by
  let u := (s.modPwr fun p => { p with reset := some ⟨kind, s.clock.grain⟩ }).belayDue .prereset
  have hu : Grows [.jrnl] [] [] (s.modPwr fun p => { p with reset := some ⟨kind, s.clock.grain⟩ }) u := State.belayDue_grows ..
  rw [State.decideReset, if_neg (by simp [h])]
  exact ⟨(u.preempt_grows.comp .pwr rfl).trans (hu.comp .pwr rfl),
    u.preempt_grows.due _ (State.belayDue_mem ..)⟩

theorem State.decideReset_stands {s : State} (h : s.pwr.reset ≠ none) (kind : Nat) : s.decideReset kind = s :=
  if_pos (Option.isSome_iff_ne_none.2 h)

end Sys2Proof.Machine

namespace Sys2Proof.Machine
open Sys2Proof.Claims

/-! SUPPORT. The events of leases: a term that has run out, a rollback done, a rollback overdue (R257, R258, R509). -/

/-! ## The term (R257) -/

theorem State.byte_of_mem {s t : State} (h : t.mem = s.mem) (a : Nat) : t.byte a = s.byte a := by
  rw [State.byte, State.byte, h]

theorem State.putArea_kept (s : State) {off len lo hi : Nat} (what : List Nat) (hlo : lo ≤ 0x20000000 + off)
    (hhi : 0x20000000 + off + len ≤ hi) : KeptOutside lo hi s (s.putArea off len what) := fun a ha =>
  State.byte_setBytes_other s _ a _ (by
    rw [List.length_map, List.length_range]
    omega)

/-- The end of a glass update leaves always-on SRAM alone outside the glass area. -/
theorem State.updDone_kept (s : State) (u : GlassUpd) (res : Nat) :
    KeptOutside 0x2000B000 0x2000B400 s (s.updDone u res) := by
  rw [State.updDone_eq]
  unfold State.updEnded
  extract_lets region s₁ s₂
  intro a ha
  have hbefore : Grows [.glass] [0x38] [] s (s₁.modGlass fun g => { g with upd := none }) :=
    ((((Grows.refl s).set rfl).set rfl).flag rfl).then (State.modGlass_grows ..) rfl
  have hafter : Grows [.glass, .jrnl, .pwr, .free] [0x38, 3] [0x50] (s₁.modGlass fun g => { g with upd := none }).mirrorGlass
      (s₂.arrive 0x50).nextUpdate :=
    ((((Grows.refl _).flag rfl).then (State.stageEvent_grows ..) rfl).arrive rfl).then (State.nextUpdate_grows _) rfl
  rw [State.byte_of_mem (hafter.comp .mem rfl), ← State.byte_of_mem (hbefore.comp .mem rfl) a]
  exact State.putArea_kept _ _ (by decide) (by decide) a ha

theorem State.updStop_kept (s : State) (res : Nat) (at' : GlassUpd → Nat) :
    KeptOutside 0x2000B000 0x2000B400 s (s.updStop res at') := by
  obtain ⟨u, h⟩ | ⟨f, h⟩ := s.updStop_cases res at'
  · exact h ▸ s.updDone_kept u res
  · exact h ▸ fun _ _ => rfl

/-- A rollback of another resource than the glass leaves memory alone. -/
theorem State.leaseUndo_mem (s : State) {x : Fin 12} (hx : x.val ≠ 4) : (s.leaseUndo x).mem = s.mem := by
  unfold State.leaseUndo
  split
  · exact s.portAbort_grows.comp .mem rfl
  · rfl
  · exact s.drawStop_grows.comp .mem rfl
  · exact (s.txStop_grows 4).comp .mem rfl
  · next h => exact absurd h hx
  · exact s.auxStop_grows.comp .mem rfl
  · rfl

theorem State.leaseUndo_kept (s : State) (x : Fin 12) : KeptOutside 0x2000B000 0x2000B400 s (s.leaseUndo x) := by
  by_cases hx : x = 4
  · subst hx
    exact s.updStop_kept 2 _
  · exact fun a _ => State.byte_of_mem (s.leaseUndo_mem fun h => hx (Fin.ext h)) a

theorem leaseUnit_lt (x : Fin 12) : leaseUnit x % 2 ^ 8 = leaseUnit x := by
  revert x
  decide

section
variable {s : State} {x : Fin 12} (hp : s.power = .on)
include hp

theorem leaseExpiry_next (hst : s.get (LEASE.HOLD.STATE x) = 1) (hwho : s.get (LEASE.HOLD.HOLDER x) ≠ 0x10)
    (hend : s.leases[x].expires ≤ s.clock.now) : exec (.leaseExpiry x) s = .next (s.leaseRevoke x 0) :=
  next_congr (if_pos ⟨hp, hst, hwho, hend⟩)

theorem leaseRollbackDone_next (hst : s.get (LEASE.HOLD.STATE x) = 2) (hu : s.undoing x = false) :
    exec (.leaseRollbackDone x) s = .next (if x = 4 then (s.leaseFree x).nextUpdate else s.leaseFree x) :=
  next_congr (if_pos ⟨hp, hst, by simp [hu]⟩)

theorem leaseRollbackOverdue_next (hst : s.get (LEASE.HOLD.STATE x) = 2)
    (hend : s.leases[x].rollAt + 2 * s.rollBound x ≤ s.clock.now) :
    exec (.leaseRollbackOverdue x) s = .next (s.decideReset 6) := next_congr (if_pos ⟨hp, hst, hend⟩)

end

/-! ## The rollback done (R257, R258) -/

theorem State.leaseFree_frame (s : State) (x : Fin 12) : Same [] (leaseFields x) s (s.leaseFree x) := by
  unfold State.leaseFree
  split
  · exact (State.flag_frame [] s _ _ (by simp [leaseFields])).then
      ((State.set_frame [] _ _ _ (by simp [leaseFields])).then (State.set_frame [] _ _ _ (by simp [leaseFields])))
  · exact (State.set_frame [] s _ _ (by simp [leaseFields])).then (State.set_frame [] _ _ _ (by simp [leaseFields]))

/-- A freed resource is the waiting supervisor's, or nobody's. -/
theorem State.leaseFree_held (s : State) (x : Fin 12) :
    (s.on (LEASE.HOLD.SUPWAIT x) = true → (s.leaseFree x).get (LEASE.HOLD.STATE x) = 1 ∧
      (s.leaseFree x).get (LEASE.HOLD.HOLDER x) = 0x10) ∧
    (s.on (LEASE.HOLD.SUPWAIT x) = false → (s.leaseFree x).get (LEASE.HOLD.STATE x) = 0 ∧
      (s.leaseFree x).get (LEASE.HOLD.HOLDER x) = 0xFF) ∧ (s.leaseFree x).on (LEASE.HOLD.SUPWAIT x) = false := by
  refine ⟨fun h => ?_, fun h => ?_, ?_⟩
  · rw [State.leaseFree, if_pos h]
    exact State.leaseGive_held _ x 0x10
  · rw [State.leaseFree, if_neg (by simp [h])]
    simp [State.get_set, LEASE.HOLD.STATE, LEASE.HOLD.HOLDER]
  · unfold State.leaseFree
    split
    · have hget : ((s.flag (LEASE.HOLD.SUPWAIT x) false).leaseGive x 0x10).get (LEASE.HOLD.SUPWAIT x) =
          (s.flag (LEASE.HOLD.SUPWAIT x) false).get (LEASE.HOLD.SUPWAIT x) :=
        Same.get (State.leaseGive_frame ..) (by simp [LEASE.HOLD.SUPWAIT, LEASE.HOLD.STATE, LEASE.HOLD.HOLDER])
      exact (State.on_of_get hget).trans (State.on_flag_same s _ rfl)
    · next h =>
      have hget : ((s.set (LEASE.HOLD.STATE x) 0).set (LEASE.HOLD.HOLDER x) 0xFF).get (LEASE.HOLD.SUPWAIT x) =
          s.get (LEASE.HOLD.SUPWAIT x) := by
        simp [State.get_set, LEASE.HOLD.SUPWAIT, LEASE.HOLD.STATE, LEASE.HOLD.HOLDER]
      exact (State.on_of_get hget).trans (by simpa using h)

/-! ## The three events -/

theorem leaseEvents : LeaseEvents := by
  intro s x hp who
  refine ⟨fun hst hwho hend => ?expired, fun hst hu => ?done, fun hst hend => ?overdue⟩
  case expired =>
    let u := s.supervisorFault 0x21 (leaseUnit x)
    have hu : Grows [] [0] [0x3B] s u := State.recordFault_grows ..
    have ht : Grows _ _ _ u (u.revokeFor x 0) := State.revokeFor_grows u x 0 fun v => State.leaseUndo_grows v x
    obtain ⟨hstate, hholder, hreason, hlost, hres⟩ := u.revokeFor_held x 0
    obtain ⟨hlease, hother⟩ := u.revokeFor_lease x 0
    have hwho' : u.get (LEASE.HOLD.HOLDER x) = who := hu.get_of_unit rfl
    have hclock : u.clock = s.clock := hu.comp .clock rfl
    have hleases : u.leases = s.leases := hu.comp .leases rfl
    refine ⟨_, (leaseExpiry_next hp hst hwho hend).trans (congrArg _ (s.leaseRevoke_expired x)), hstate, hholder, hreason,
      hwho' ▸ hlost, hres, ?_, ?_, hu.then_arrived (u.revokeFor_arrived x 0) rfl rfl, fun hv => ?_,
      (ht.comp .clock rfl).trans hclock,
      (ht.comp .lanes rfl).trans (hu.comp .lanes rfl), (ht.comp .cores rfl).trans (hu.comp .cores rfl),
      (ht.comp .slots rfl).trans (hu.comp .slots rfl), fun hx => ?_, fun a ha => ?_, fun y hy => ?_⟩
    · rw [hlease, hclock]
    · rw [hlease, hwho']
      exact mem_noteLost ..
    · obtain ⟨_, _, hcode, hunit, _⟩ := State.recordFault_first hv 0x10 0x21 (leaseUnit x) 0
      exact ⟨(ht.get_of_unit rfl).trans hcode, (ht.get_of_unit rfl).trans (hunit.trans (leaseUnit_lt x))⟩
    · have hmem : (u.revocation x 0).mem = s.mem :=
        Eq.trans ((u.revocation_grows x 0).comp .mem rfl) (hu.comp .mem rfl)
      exact (State.leaseUndo_mem _ hx).trans hmem
    · have hmem : (u.revocation x 0).mem = s.mem :=
        Eq.trans ((u.revocation_grows x 0).comp .mem rfl) (hu.comp .mem rfl)
      exact (State.leaseUndo_kept _ x a ha).trans (State.byte_of_mem hmem a)
    · rw [hother y hy, hleases]
  case done =>
    obtain ⟨hwait, hfree, hsup⟩ := s.leaseFree_held x
    have hframe := s.leaseFree_frame x
    refine ⟨_, leaseRollbackDone_next hp hst hu, ?_⟩
    split
    · next hx =>
      have ht := (s.leaseFree x).nextUpdate_grows
      have hget (f : Fld) (hf : f ∈ leaseFields x) : (s.leaseFree x).nextUpdate.get f = (s.leaseFree x).get f := by
        simp only [leaseFields, List.mem_cons, List.not_mem_nil, or_false] at hf
        obtain rfl | rfl | rfl := hf <;> exact ht.get_of_unit rfl
      refine ⟨fun h => ?_, fun h => ?_, (State.on_of_get (hget _ (by simp [leaseFields]))).trans hsup,
        fun hne => absurd (congrArg Fin.val hx) hne, ?_⟩
      · rw [hget _ (by simp [leaseFields]), hget _ (by simp [leaseFields])]
        exact hwait h
      · rw [hget _ (by simp [leaseFields]), hget _ (by simp [leaseFields])]
        exact hfree h
      · exact (hframe.mono nofun fun f hf => .inl hf).then (ht.frame.mono (fun _ h => h) fun f hf => .inr (by simpa using hf))
    · exact ⟨hwait, hfree, hsup, fun _ => hframe, hframe.mono nofun fun f hf => .inl hf⟩
  case overdue =>
    have ht := s.decideReset_grows 6
    refine ⟨_, leaseRollbackOverdue_next hp hst hend, fun h => ?_,
      fun h => State.decideReset_stands (by simpa [Option.isSome_iff_ne_none] using h) 6, ht.comp .clock rfl,
      ht.comp .mem rfl, ht.comp .cores rfl⟩
    obtain ⟨hpwr, hdue⟩ := State.decideReset_decided h 6
    exact ⟨by rw [hpwr], hdue⟩

end Sys2Proof.Machine

namespace Sys2Proof.Machine
open Sys2Proof.Claims

/-! SUPPORT. The supply-fail warning, its closing snapshots and its end (R258, R318, R329, R335, R345, R346, R441, R495). -/

/-! ## Power-quality events (R318, R320) -/

theorem State.modPq_grows (s : State) (pq : Pq) : Grows [.pq] [] [] s { s with pq := pq } :=
  .of_flds rfl rfl rfl fun c hc => by
    cases c with
    | pq => simp at hc
    | _ => rfl

theorem State.get_modPq (s : State) (pq : Pq) (f : Fld) : ({ s with pq := pq } : State).get f = s.get f := rfl

theorem State.writeEvent_grows (s : State) (e : PqEvent) (extra : Nat) (stop : Option Nat) :
    Grows [.mem, .jrnl] [] [0x27] s (s.writeEvent e extra stop) := by
  unfold State.writeEvent
  extract_lets a b
  exact (((Grows.refl s).then (State.setBytes_grows ..) rfl).then (State.stageEvent_grows ..) rfl).arrive rfl

theorem State.newEvent_grows (s : State) (kind port phases start : Nat) (held : Bool) :
    Grows [.mem] [0x24] [] s (s.newEvent kind port phases start held).2 :=
      ((Grows.refl s).set rfl).then (State.setBytes_grows ..) rfl

theorem State.countEvent_grows (s : State) (kind : Nat) : Grows [] [0x24] [] s (s.countEvent kind) := by
  have hs : Grows [] [0x24] [] s s := .refl s
  unfold State.countEvent
  split
  · exact hs.bump rfl rfl
  · exact hs.bump rfl rfl
  · exact hs.bump rfl rfl
  · exact hs.bump rfl rfl
  · exact hs.bump rfl rfl
  · exact hs

theorem State.trigger_grows (s : State) (b : Nat) : Grows [] [0x25] [] s (s.trigger b) := by
  have hs : Grows [] [0x25] [] s s := .refl s
  exact .ite (((((((hs.set rfl).set rfl).set rfl).set rfl).set rfl).flag rfl).set rfl) (.ite (hs.setBit rfl) (hs.bump rfl rfl))

theorem State.eventTrigger_grows (s : State) (kind : Nat) : Grows [] [0x25] [] s (s.eventTrigger kind) :=
  .ite (s.trigger_grows _) (.refl s)

/-- An event is written before it may trigger the capture. -/
theorem State.openEvent_eq (s : State) (kind port phases start ext extCh : Nat) (held : Bool) : ∃ t,
    (s.openEvent kind port phases start ext extCh held).2 = t.eventTrigger kind ∧
    Grows [.mem, .jrnl] [0x24] [0x27] s t :=
  ⟨_, rfl, (((s.newEvent_grows kind port phases start held).mono rfl).then (State.countEvent_grows _ kind) rfl).then
    (State.writeEvent_grows ..) rfl⟩

theorem State.openEvent_grows (s : State) (kind port phases start ext extCh : Nat) (held : Bool) :
    Grows [.mem, .jrnl] [0x24, 0x25] [0x27] s (s.openEvent kind port phases start ext extCh held).2 := by
  obtain ⟨t, h, ht⟩ := s.openEvent_eq kind port phases start ext extCh held
  exact h ▸ (ht.mono rfl).then (t.eventTrigger_grows kind) rfl

/-- A capture that runs towards its end still does after a trigger. -/
theorem State.trigger_running (s : State) (b : Nat) (h : s.get CAPT.STATUS.STATE ∈ [1, 3]) :
    (s.trigger b).get CAPT.STATUS.STATE ∈ [1, 3] := by
  unfold State.trigger
  extract_lets g st short first s₁
  split
  · rw [State.get_set_same]
    decide
  split
  · rwa [State.setBit, State.get_set_other _ (by decide)]
  · rwa [State.bump_get_other _ (by decide)]

theorem State.openEvent_running (s : State) (kind port phases start ext extCh : Nat) (held : Bool)
    (h : s.get CAPT.STATUS.STATE ∈ [1, 3]) :
    (s.openEvent kind port phases start ext extCh held).2.get CAPT.STATUS.STATE ∈ [1, 3] := by
  obtain ⟨t, he, ht⟩ := s.openEvent_eq kind port phases start ext extCh held
  have hstate : t.get CAPT.STATUS.STATE ∈ [1, 3] := by rwa [(ht.get_of_unit rfl)]
  rw [he, State.eventTrigger]
  split
  · exact t.trigger_running _ hstate
  · exact hstate

/-- The events active are written as open. -/
def State.eventsWritten (s : State) : State := s.activeEvents.foldl (fun (t : State) e => t.writeEvent e 1 none) s

theorem State.eventsWritten_grows (s : State) : Grows [.mem, .jrnl] [] [0x27] s s.eventsWritten :=
  (Grows.refl s).foldl fun _ _ _ h => h.then (State.writeEvent_grows ..) rfl

/-- The supply interruption opens. -/
def State.supplyOpened (s : State) : State :=
  let r := s.openEvent 4 0 0 (s.clock.grain * 2 ^ 32) 0 0 false
  ({ r.2 with pq := { r.2.pq with supply := some { r.1 with windows := 0 } } } : State).flag PQ.STATUS.SUPINT true

theorem State.pqWarning_eq (s : State) : s.pqWarning =
    if s.eventsWritten.pq.ports[0].int.isSome then s.eventsWritten else s.eventsWritten.supplyOpened := rfl

theorem State.supplyOpened_grows (s : State) : Grows [.mem, .jrnl, .pq] [0x24, 0x25] [0x27] s s.supplyOpened := by
  unfold State.supplyOpened
  exact (((s.openEvent_grows ..).mono rfl).then (State.modPq_grows ..) rfl).flag rfl

theorem State.pqWarning_grows (s : State) : Grows [.mem, .jrnl, .pq] [0x24, 0x25] [0x27] s s.pqWarning :=
  .ite (s.eventsWritten_grows.mono rfl) ((s.eventsWritten_grows.mono rfl).then s.eventsWritten.supplyOpened_grows rfl)

/-- Without an interruption of port A the supply interruption opens. -/
theorem State.pqWarning_opens {s : State} (h : s.pq.ports[0].int = none) :
    s.pqWarning.on PQ.STATUS.SUPINT = true ∧ s.pqWarning.pq.supply.isSome = true := by
  have hpq : s.eventsWritten.pq = s.pq := s.eventsWritten_grows.comp .pq rfl
  rw [State.pqWarning_eq, if_neg (by simp [hpq, h])]
  exact ⟨State.on_flag_same _ _ rfl, rfl⟩

theorem State.pqWarning_running {s : State} (h : s.get CAPT.STATUS.STATE ∈ [1, 3]) :
    s.pqWarning.get CAPT.STATUS.STATE ∈ [1, 3] := by
  have hw : s.eventsWritten.get CAPT.STATUS.STATE ∈ [1, 3] := by rwa [(s.eventsWritten_grows.get_of_unit rfl)]
  rw [State.pqWarning_eq]
  by_cases hint : s.eventsWritten.pq.ports[0].int.isSome = true
  · rw [if_pos hint]
    exact hw
  · rw [if_neg hint, State.supplyOpened, State.flag, State.get_set_other _ (by decide), State.get_modPq]
    exact State.openEvent_running _ _ _ _ _ _ _ _ hw

/-! ## Captures (R329) -/

theorem State.captWarning_grows (s : State) : Grows [] [0x25] [0x29] s s.captWarning := by
  have hs : Grows [] [0x25] [0x29] s s := .refl s
  exact .ite (((hs.set rfl).set rfl).then (State.freeze_grows ..) rfl) (.ite (s.freeze_grows ..) hs)

theorem State.freeze_incomplete (s : State) (stop : Nat) :
    (s.freeze true stop).get CAPT.STATUS.STATE = 4 ∧ (s.freeze true stop).on CAPT.STATUS.INCOMPLETE = true := by
  have harr (w : State) {f : Fld} (hf : f.unit = 0x25) : (w.arrive 0x29).get f = w.get f :=
    (w.arrive_grows 0x29).get_of_unit (apartFrom_of_unit hf rfl)
  refine ⟨?_, ?_⟩
  · simp [State.freeze, harr, State.flag, State.get_set, CAPT.STATUS.STATE, CAPT.COUNT.COUNT, CAPT.STATUS.INCOMPLETE,
      CAPT.MARKS.MARKS]
  · simp [State.freeze, harr, State.on, State.flag, State.get_set, CAPT.STATUS.STATE, CAPT.COUNT.COUNT,
      CAPT.STATUS.INCOMPLETE, CAPT.MARKS.MARKS, ofB]

theorem State.captWarning_frozen {s : State} (h : s.get CAPT.STATUS.STATE ∈ [1, 3]) :
    s.captWarning.get CAPT.STATUS.STATE = 4 ∧ s.captWarning.on CAPT.STATUS.INCOMPLETE = true := by
  simp only [List.mem_cons, List.not_mem_nil, or_false] at h
  obtain h | h := h
  · rw [State.captWarning, if_pos h]
    exact State.freeze_incomplete ..
  · rw [State.captWarning, if_neg (by omega), if_pos h]
    exact State.freeze_incomplete ..

/-! ## The modem (R441) -/

theorem State.txDone_effect (s : State) (result : Nat) :
    (s.txDone result).modem.tx = none ∧ (s.txDone result).get MODEM.TXRES.RESULT = result % 2 ^ MODEM.TXRES.RESULT.w := by
  have hmodem (src : Nat) (u : State) : (u.arrive src).modem = u.modem := (u.arrive_grows src).comp .modem rfl
  have hres (src : Nat) (u : State) : (u.arrive src).get MODEM.TXRES.RESULT = u.get MODEM.TXRES.RESULT :=
    (u.arrive_grows src).get_of_unit rfl
  unfold State.txDone
  extract_lets s₁ s₂ s₃
  have hshow (u : State) : (u.showPermit none).get MODEM.TXRES.RESULT = u.get MODEM.TXRES.RESULT := by
    rw [State.showPermit, State.flag, State.get_set_other _ (by decide), State.get_set_other _ (by decide)]
  have hset : s₃.get MODEM.TXRES.RESULT = result % 2 ^ MODEM.TXRES.RESULT.w := (hshow _).trans (State.get_set_same ..)
  split
  · exact ⟨congrArg (·.tx) (hmodem 0x49 s₃), (hres 0x49 s₃).trans hset⟩
  split
  · exact ⟨congrArg (·.tx) (hmodem 0x4A s₃), (hres 0x4A s₃).trans hset⟩
  · exact ⟨rfl, hset⟩

/-- A frame in progress that is not on the air ends at once. -/
theorem State.txStop_waiting {s : State} {f : TxFrame} (htx : s.modem.tx = some f) (hack : s.modem.ack = none)
    (hbusy : s.on MODEM.STATUS.TXBUSY = true) (hair : s.on MODEM.STATUS.TXON = false) (result : Nat) :
    (s.txStop result).modem.tx = none ∧
    (s.txStop result).get MODEM.TXRES.RESULT = result % 2 ^ MODEM.TXRES.RESULT.w := by
  unfold State.txStop
  extract_lets s₁
  have hframe : s₁.airFrame = some f := by
    rw [State.airFrame, show s₁.modem.ack = none from hack]
    exact htx
  have hon : s₁.onAir = false := (State.on_flag_other s (f := MODEM.STATUS.RXSYNC) false (by decide)).trans hair
  have hbusy₁ : s₁.on MODEM.STATUS.TXBUSY = true :=
    (State.on_flag_other s (f := MODEM.STATUS.RXSYNC) false (by decide)).trans hbusy
  rw [hframe]
  simp only [hon, hbusy₁]
  exact State.txDone_effect ..

/-! ## SELFCAL (R379) -/

theorem State.selfCalAbort_effect {s : State} (h : s.selfCal.isSome = true) :
    s.selfCalAbort.selfCal = none ∧ s.selfCalAbort.on TRIM.STATUS.SCABORT = true := by
  obtain ⟨c, hc⟩ := Option.isSome_iff_exists.1 h
  unfold State.selfCalAbort
  rw [hc]
  dsimp only
  refine ⟨?_, State.on_flag_same _ _ rfl⟩
  exact (State.arrive_grows _ 0x30).comp .selfCal rfl

end Sys2Proof.Machine

namespace Sys2Proof.Machine
open Sys2Proof.Claims

/-! ## The warning in its steps (R345, R495) -/

/-- The warning shows, and the budget is frozen. -/
def State.warnShown (s : State) (cell : Nat) : State :=
  (((s.flag PWR.STATE.SFW true).arrive 0x3C).cellAt cell).flag PERMIT.STATUS.FROZEN true

/-- No cairn write is put off. -/
def State.cairnCalledOff (s : State) : State := { s with jrnl := { s.jrnl with cairnPend := none } }

/-- No cairn write is put off, the supervisor takes port and journal writer, and the final belay falls due. -/
def State.warnTaken (s : State) : State :=
  (s.cairnCalledOff.preempt.belayDue .final).modPwr fun p => { p with warnAt := some s.clock.grain }

/-- What runs is stopped: the capture, the transmission, the glass update. -/
def State.warnStopped (s : State) : State := (s.pqWarning.captWarning.txStop 4).glassWarning

/-- SELFCAL is cut short. -/
def State.selfCalCut (s : State) : State := if s.selfCal.isSome then s.selfCalAbort else s

theorem supplyFailWarning_next {s : State} (hp : s.power = .on) (hlock : s.clock.pllLock = true)
    (hsfw : s.on PWR.STATE.SFW = false) (cell : BitVec 16) :
    exec (.supplyFailWarning cell) s = .next (((s.warnShown cell.toNat).warnTaken).warnStopped).selfCalCut :=
  next_congr (if_pos ⟨hp, hlock, by simp [hsfw]⟩)

theorem State.warnShown_grows (s : State) (cell : Nat) : Grows [] [0x40, 3] [0x3C] s (s.warnShown cell) :=
  (((((Grows.refl s).flag (f := PWR.STATE.SFW) rfl).arrive rfl).set rfl).flag rfl).flag rfl

/-- The warning's bits, the measured cell and its source (R345, R500). -/
theorem State.warnShown_effect (s : State) (cell : Nat) : let t := s.warnShown cell
    t.on PWR.STATE.SFW = true ∧ t.on PERMIT.STATUS.FROZEN = true ∧ t.bit (IRQ.SPEND.PEND 1) 12 = true ∧
    t.get PWR.CELL.MV = cell % 2 ^ 16 ∧ t.on PWR.STATE.CELLOK = decide (2400 ≤ cell) := by
  let u := (s.flag PWR.STATE.SFW true).arrive 0x3C
  have harr : Arrived 0x3C (s.flag PWR.STATE.SFW true) u := State.arrive_arrived _ rfl
  have hsfw : u.on PWR.STATE.SFW = true :=
    ((State.arrive_grows _ 0x3C).on_of_unit rfl).trans (State.on_flag_same s true rfl)
  have hcell : Grows [] [0x40, 3] [] u (s.warnShown cell) := (((Grows.refl u).set rfl).flag rfl).flag rfl
  refine ⟨?_, State.on_flag_same _ true rfl, hcell.pend _ _ (by decide) harr.1, ?_, ?_⟩
  · refine (State.on_flag_other _ _ (by decide)).trans ((State.on_flag_other _ _ (by decide)).trans ?_)
    exact (State.on_of_get (State.get_set_other _ (by decide) _)).trans hsfw
  · refine (State.get_set_other _ (by decide) _).trans ((State.get_set_other _ (by decide) _).trans ?_)
    exact State.get_set_same ..
  · exact (State.on_flag_other _ _ (by decide)).trans (State.on_flag_same _ _ rfl)

/-- The components that the warning's taking changes. -/
def warnComps : List Comp := [.pwr, .leases, .port, .jrnl]

theorem State.cairnCalledOff_grows (s : State) : Grows [.jrnl] [] [] s s.cairnCalledOff where
  comps c hc := by
    cases c with
    | jrnl => simp at hc
    | _ => rfl
  get _ _ _ := rfl
  pend _ _ _ h := h
  due _ h := h
  noPend _ := rfl

/-- What follows the supervisor's taking. -/
theorem State.warnTaken_after (s : State) : Grows [.jrnl, .pwr] [] [] s.cairnCalledOff.preempt s.warnTaken := by
  unfold State.warnTaken
  exact ((State.belayDue_grows ..).mono rfl).then (State.modPwr_grows ..) rfl

theorem State.warnTaken_grows (s : State) : Grows warnComps [4, 0x29] [0x37] s s.warnTaken :=
  ((s.cairnCalledOff_grows.mono rfl).then (State.preempt_grows _) rfl).then s.warnTaken_after rfl

theorem State.warnTaken_effect (s : State) : s.warnTaken.jrnl.cairnPend = none ∧ .final ∈ s.warnTaken.jrnl.due ∧
    TakenForSupervisor 0 s s.warnTaken ∧ TakenForSupervisor 1 s s.warnTaken ∧
    s.warnTaken.pwr.warnAt = some s.clock.grain := by
  have hlease (x : Nat) (f : Fld) (hf : f ∈ leaseFields x) : s.warnTaken.get f = s.cairnCalledOff.preempt.get f := by
    simp only [leaseFields, List.mem_cons, List.not_mem_nil, or_false] at hf
    obtain rfl | rfl | rfl := hf <;> exact s.warnTaken_after.get_of_unit rfl
  obtain ⟨hport, hwriter⟩ := s.cairnCalledOff.preempt_taken
  exact ⟨s.warnTaken_after.noPend (s.cairnCalledOff.preempt_grows.noPend rfl), State.belayDue_mem _ .final,
    hport.congr (fun _ _ => rfl) (hlease 0), hwriter.congr (fun _ _ => rfl) (hlease 1), rfl⟩

/-- The components that change when what runs is stopped. -/
def stopComps : List Comp := [.mem, .jrnl, .pq, .modem, .glass]

/-- The units that change when what runs is stopped. -/
def stopUnits : List Nat := [0x24, 0x25, 0x34, 0x38]

section
variable {s : State}

theorem State.events_grows (s : State) :
    Grows [.mem, .jrnl, .pq] [0x24, 0x25] [0x27, 0x29] s s.pqWarning.captWarning :=
  (s.pqWarning_grows.mono rfl).then (State.captWarning_grows _) rfl

theorem State.modemStopped_grows (s : State) :
    Grows stopComps stopUnits [0x27, 0x29, 0x49, 0x4A] s (s.pqWarning.captWarning.txStop 4) :=
  (s.events_grows.mono rfl).then (State.txStop_grows ..) rfl

variable (hfrozen : s.on PERMIT.STATUS.FROZEN = true)
include hfrozen

/-- The glass asks for no permit: the budget is frozen. -/
theorem State.glassStopped_grows :
    Grows [.glass, .mem, .jrnl] [0x38] [0x50] (s.pqWarning.captWarning.txStop 4) s.warnStopped :=
  State.updStop_frozen ((s.modemStopped_grows.on_of_unit rfl).trans hfrozen) 3 _

theorem State.warnStopped_grows : Grows stopComps stopUnits [0x27, 0x29, 0x49, 0x4A, 0x50] s s.warnStopped :=
  (s.modemStopped_grows.mono rfl).then (State.glassStopped_grows hfrozen) rfl

theorem State.warnStopped_pq (h : s.pq.ports[0].int = none) :
    s.warnStopped.on PQ.STATUS.SUPINT = true ∧ s.warnStopped.pq.supply.isSome = true := by
  have hafter : Grows [.modem, .glass, .mem, .jrnl] [0x25, 0x34, 0x38] [0x29, 0x49, 0x4A, 0x50] s.pqWarning s.warnStopped :=
    (((State.captWarning_grows _).mono rfl).then (State.txStop_grows ..) rfl).then (State.glassStopped_grows hfrozen) rfl
  obtain ⟨hint, hsome⟩ := State.pqWarning_opens h
  have hpq : s.warnStopped.pq = s.pqWarning.pq := hafter.comp .pq rfl
  exact ⟨(hafter.on_of_unit rfl).trans hint, hpq ▸ hsome⟩

theorem State.warnStopped_capt (h : s.get CAPT.STATUS.STATE ∈ [1, 3]) :
    s.warnStopped.get CAPT.STATUS.STATE = 4 ∧ s.warnStopped.on CAPT.STATUS.INCOMPLETE = true := by
  have hafter : Grows [.modem, .glass, .mem, .jrnl] [0x34, 0x38] [0x49, 0x4A, 0x50] s.pqWarning.captWarning s.warnStopped :=
    ((State.txStop_grows _ 4).mono rfl).then (State.glassStopped_grows hfrozen) rfl
  obtain ⟨hstate, hinc⟩ := State.captWarning_frozen (State.pqWarning_running h)
  exact ⟨(hafter.get_of_unit rfl).trans hstate, (hafter.on_of_unit rfl).trans hinc⟩

theorem State.warnStopped_modem {f : TxFrame} (htx : s.modem.tx = some f) (hack : s.modem.ack = none)
    (hbusy : s.on MODEM.STATUS.TXBUSY = true) (hair : s.on MODEM.STATUS.TXON = false) :
    s.warnStopped.modem.tx = none ∧ s.warnStopped.get MODEM.TXRES.RESULT = 4 := by
  have hbefore := s.events_grows
  have hmodem : s.pqWarning.captWarning.modem = s.modem := hbefore.comp .modem rfl
  have hafter := State.glassStopped_grows hfrozen
  have hkept : s.warnStopped.modem = (s.pqWarning.captWarning.txStop 4).modem := hafter.comp .modem rfl
  obtain ⟨hnone, hres⟩ := State.txStop_waiting (s := s.pqWarning.captWarning) (hmodem ▸ htx) (hmodem ▸ hack)
    ((hbefore.on_of_unit rfl).trans hbusy) ((hbefore.on_of_unit rfl).trans hair) 4
  exact ⟨hkept ▸ hnone, (hafter.get_of_unit rfl).trans hres⟩

end

theorem State.selfCalCut_grows (s : State) : Grows [.selfCal, .streams] [0x2C] [0x30] s s.selfCalCut :=
  .ite s.selfCalAbort_grows (.refl s)

end Sys2Proof.Machine

namespace Sys2Proof.Machine
open Sys2Proof.Claims

/-! ## Closing snapshots and the end of the warning (R318, R335, R495) -/

section
variable {s : State} (hp : s.power = .on)
include hp

theorem closingSnapshot_next {w : Nat} (hw : s.pwr.warnAt = some w) (hlt : w < s.clock.grain)
    (hmod : (s.clock.grain - w) % 64 = 0) : exec .closingSnapshot s = .next (s.belayDue .closing).preempt := by
  refine next_congr ?_
  rw [hw]
  exact if_pos ⟨hp, hlt, hmod⟩

end

/-- The warning's bits and its time are gone, and source 0x3D is raised. -/
def State.warnCleared (s : State) : State :=
  (((s.flag PWR.STATE.SFW false).flag PERMIT.STATUS.FROZEN false).arrive 0x3D).modPwr fun p => { p with warnAt := none }

theorem supplyFailClear_next {s : State} (hp : s.power = .on) (hsfw : s.on PWR.STATE.SFW = true) :
    exec .supplyFailClear s = .next s.warnCleared.pqClear := next_congr (if_pos ⟨hp, hsfw⟩)

theorem State.warnCleared_frame (s : State) :
    Same [.pwr] ([PWR.STATE.SFW, PERMIT.STATUS.FROZEN] ++ arrivalOf 0x3D) s s.warnCleared :=
  (((State.flag_frame _ s _ _ (by simp)).then (State.flag_frame _ _ _ _ (by simp))).then
    (State.arrive_frame _ _ _ fun _ h => List.mem_append_right _ h)).then (State.modPwr_frame ..)

theorem State.warnCleared_effect (s : State) : let t := s.warnCleared
    t.on PWR.STATE.SFW = false ∧ t.on PERMIT.STATUS.FROZEN = false ∧ t.bit (IRQ.SPEND.PEND 1) 13 = true ∧
    t.pwr = { s.pwr with warnAt := none } := by
  let u := (s.flag PWR.STATE.SFW false).flag PERMIT.STATUS.FROZEN false
  have hpwr : (u.arrive 0x3D).pwr = s.pwr := (u.arrive_grows 0x3D).comp .pwr rfl
  have hon {f : Fld} (hf : apartFrom [] f = true) : s.warnCleared.on f = u.on f := (u.arrive_grows 0x3D).on_of_unit hf
  have harr : Arrived 0x3D u (u.arrive 0x3D) := State.arrive_arrived _ rfl
  refine ⟨(hon rfl).trans ?_, (hon rfl).trans (State.on_flag_same _ false rfl), harr.1, ?_⟩
  · exact (State.on_flag_other _ _ (by decide)).trans (State.on_flag_same s false rfl)
  · show { (u.arrive 0x3D).pwr with warnAt := none } = _
    rw [hpwr]

theorem State.pqClear_grows (s : State) : Grows [.mem, .jrnl, .pq] [0x24] [0x27] s s.pqClear := by
  unfold State.pqClear
  split
  · exact .refl s
  · extract_lets u
    have hu : Grows [.mem, .jrnl, .pq] [0x24] [0x27] s u := (State.writeEvent_grows ..).mono rfl
    exact (hu.then (State.modPq_grows ..) rfl).flag rfl

theorem State.pqClear_none {s : State} (h : s.pq.supply = none) : s.pqClear = s := by
  unfold State.pqClear
  rw [h]

/-- The supply interruption that is open closes. -/
theorem State.pqClear_closes {s : State} (h : s.pq.supply ≠ none) :
    s.pqClear.on PQ.STATUS.SUPINT = false ∧ s.pqClear.pq.supply = none := by
  obtain ⟨e, he⟩ := Option.ne_none_iff_exists'.1 h
  unfold State.pqClear
  rw [he]
  exact ⟨State.on_flag_same _ false rfl, rfl⟩

/-! ## The whole warning -/

/-- The components that the warning changes. -/
def warnedComps : List Comp := .selfCal :: .streams :: (warnComps ++ stopComps)

/-- The units that the warning changes, IRQ apart. -/
def warnedUnits : List Nat := 0x40 :: 3 :: 4 :: 0x29 :: 0x2C :: stopUnits

/-- The sources that the warning raises. -/
def warnedSources : List Nat := [0x3C, 0x37, 0x27, 0x29, 0x49, 0x4A, 0x50, 0x30]

/-- The steps of the warning, one after the other, and what each leaves behind. -/
structure WarnSteps (cell : Nat) (s u v w t : State) : Prop where
  shown : Grows [] [0x40, 3] [0x3C] s u
  taken : Grows warnComps [4, 0x29] [0x37] u v
  stopped : Grows stopComps stopUnits [0x27, 0x29, 0x49, 0x4A, 0x50] v w
  cut : Grows [.selfCal, .streams] [0x2C] [0x30] w t
  bits : u.on PWR.STATE.SFW = true ∧ u.on PERMIT.STATUS.FROZEN = true ∧ u.bit (IRQ.SPEND.PEND 1) 12 = true
  cell : u.get PWR.CELL.MV = cell % 2 ^ 16 ∧ u.on PWR.STATE.CELLOK = decide (2400 ≤ cell)
  belay : v.jrnl.cairnPend = none ∧ .final ∈ v.jrnl.due ∧ v.pwr.warnAt = some u.clock.grain
  leases : TakenForSupervisor 0 u v ∧ TakenForSupervisor 1 u v
  event : v.pq.ports[0].int = none → w.on PQ.STATUS.SUPINT = true ∧ w.pq.supply.isSome = true
  capture : v.get CAPT.STATUS.STATE ∈ [1, 3] → w.get CAPT.STATUS.STATE = 4 ∧ w.on CAPT.STATUS.INCOMPLETE = true
  frame : ∀ f, v.modem.tx = some f → v.modem.ack = none → v.on MODEM.STATUS.TXBUSY = true →
    v.on MODEM.STATUS.TXON = false → w.modem.tx = none ∧ w.get MODEM.TXRES.RESULT = 4
  calStopped : w.selfCal.isSome = true → t.selfCal = none ∧ t.on TRIM.STATUS.SCABORT = true
  calNone : w.selfCal = none → t = w

section
variable {cell : Nat} {s u v w t : State} (h : WarnSteps cell s u v w t)
include h

theorem WarnSteps.afterTaking : Grows warnedComps warnedUnits warnedSources v t := (h.stopped.mono rfl).then h.cut rfl

theorem WarnSteps.all : Grows warnedComps warnedUnits warnedSources s t :=
  ((h.shown.mono rfl).then h.taken rfl).then h.afterTaking rfl

theorem WarnSteps.toTaking : Grows warnComps [0x40, 3, 4, 0x29] [0x3C, 0x37] s v := (h.shown.mono rfl).then h.taken rfl

/-- A register of PWR or PERMIT keeps what the warning's first step left in it. -/
theorem WarnSteps.shown_get {f : Fld} (hf : f.unit ∈ [0x40, 3]) : t.get f = u.get f := by
  have hset : f.unit = 0x40 ∨ f.unit = 3 := by simpa using hf
  have hrest : Grows warnedComps (4 :: 0x29 :: 0x2C :: stopUnits) warnedSources u t :=
    ((h.taken.mono rfl).then h.stopped rfl).then h.cut rfl
  obtain e | e := hset
  · exact hrest.get_of_unit (apartFrom_of_unit e rfl)
  · exact hrest.get_of_unit (apartFrom_of_unit e rfl)

theorem WarnSteps.lease (x : Nat) (hx : TakenForSupervisor x u v) : TakenForSupervisor x s t := by
  have hrest : Grows warnedComps (0x2C :: stopUnits) warnedSources v t := (h.stopped.mono rfl).then h.cut rfl
  have hunit (f : Fld) (hf : f ∈ leaseFields x) : f.unit = 4 := by
    simp only [leaseFields, List.mem_cons, List.not_mem_nil, or_false] at hf
    obtain rfl | rfl | rfl := hf <;> rfl
  exact hx.congr
    (fun f hf => (h.shown.get_of_unit (apartFrom_of_unit (hunit f hf) rfl)).symm)
    fun f hf => hrest.get_of_unit (apartFrom_of_unit (hunit f hf) rfl)

end

/-- SELFCAL is cut short where it runs. -/
theorem State.selfCalCut_effect (s : State) :
    (s.selfCal.isSome = true → s.selfCalCut.selfCal = none ∧ s.selfCalCut.on TRIM.STATUS.SCABORT = true) ∧
    (s.selfCal = none → s.selfCalCut = s) := by
  refine ⟨fun h => ?_, fun h => ?_⟩
  · rw [State.selfCalCut, if_pos h]
    exact State.selfCalAbort_effect h
  · rw [State.selfCalCut, if_neg (by simp [h])]

theorem State.warnSteps (s : State) (cell : Nat) : WarnSteps cell s (s.warnShown cell) (s.warnShown cell).warnTaken
    (s.warnShown cell).warnTaken.warnStopped (s.warnShown cell).warnTaken.warnStopped.selfCalCut := by
  have htaken := (s.warnShown cell).warnTaken_grows
  obtain ⟨hset, hfrozen, hpend, hmv, hok⟩ := s.warnShown_effect cell
  obtain ⟨hnone, hfinal, hport, hwriter, hwarn⟩ := (s.warnShown cell).warnTaken_effect
  obtain ⟨hcut, huncut⟩ := (s.warnShown cell).warnTaken.warnStopped.selfCalCut_effect
  have hkept : (s.warnShown cell).warnTaken.on PERMIT.STATUS.FROZEN = true := (htaken.on_of_unit rfl).trans hfrozen
  exact ⟨s.warnShown_grows _, htaken, State.warnStopped_grows hkept, State.selfCalCut_grows _, ⟨hset, hfrozen, hpend⟩,
    ⟨hmv, hok⟩, ⟨hnone, hfinal, hwarn⟩, ⟨hport, hwriter⟩, State.warnStopped_pq hkept, State.warnStopped_capt hkept,
    fun _ => State.warnStopped_modem hkept, hcut, huncut⟩

theorem supplyFailWarning_steps {s : State} (hp : s.power = .on) (hlock : s.clock.pllLock = true)
    (hsfw : s.on PWR.STATE.SFW = false) (cell : BitVec 16) :
    ∃ u v w t, exec (.supplyFailWarning cell) s = .next t ∧ WarnSteps cell.toNat s u v w t :=
  ⟨_, _, _, _, supplyFailWarning_next hp hlock hsfw cell, s.warnSteps cell.toNat⟩

/-! ## The warning, its snapshots, its end -/

/-- Settles O45: the warning's steps each touch components and units of their own, and what is due or pending only grows. -/
theorem supplyFailure : Obligations.SupplyFailure := by
  unfold Obligations.SupplyFailure
  intro s hp port
  refine ⟨fun cell hlock hsfw => ?warning, fun w hw hlt hmod => ?closing, fun hsfw => ?clear⟩
  case warning =>
    obtain ⟨u, v, w, t, hnext, hsteps⟩ := supplyFailWarning_steps hp hlock hsfw cell
    obtain ⟨hset, hfrozen, hpend⟩ := hsteps.bits
    obtain ⟨hmv, hok⟩ := hsteps.cell
    obtain ⟨hnone, hfinal, hwarn⟩ := hsteps.belay
    obtain ⟨hport, hwriter⟩ := hsteps.leases
    have hcs : ∀ c ∈ [Comp.part, .force, .clock, .lanes, .cores, .power, .tracker, .pps, .cues, .chain, .quads, .progs,
        .rope, .slots, .pulse, .cairn, .aux, .irq, .tamp, .access, .link, .pending], c ∉ warnedComps := by decide
    have hall := hsteps.all
    have hsv := hsteps.toTaking
    have hcut := hsteps.cut
    have hpq : v.pq = s.pq := hsv.comp .pq rfl
    have hmod : v.modem = s.modem := hsv.comp .modem rfl
    have hself : w.selfCal = s.selfCal := Eq.trans (hsteps.stopped.comp .selfCal rfl) (hsv.comp .selfCal rfl)
    have hclock : u.clock = s.clock := hsteps.shown.comp .clock rfl
    have hpwr : t.pwr = v.pwr := Eq.trans (hcut.comp .pwr rfl) (hsteps.stopped.comp .pwr rfl)
    have hshown (f : Fld) (hf : f.unit ∈ [0x40, 3]) : t.on f = u.on f := State.on_of_get (hsteps.shown_get hf)
    refine ⟨t, hnext, (hshown _ (by decide)).trans hset, (hshown _ (by decide)).trans hfrozen,
      hsteps.afterTaking.pend _ _ (by decide) (hsteps.taken.pend _ _ (by decide) hpend), ?_, ?_, ?_,
      hsteps.afterTaking.noPend hnone, hsteps.afterTaking.due _ hfinal, hsteps.lease 0 hport, hsteps.lease 1 hwriter,
      fun h => ?_, fun h => ?_, fun f htx hack hbusy hair => ?_, fun h => hsteps.calStopped (by rwa [hself]), fun h => ?_,
      fun c hc => hall.comps c (hcs c hc), fun f hf => ?_⟩
    · rw [hsteps.shown_get (by decide), hmv, Nat.mod_eq_of_lt cell.isLt]
    · rw [hshown _ (by decide), hok, decide_eq_true_iff]
    · rw [hpwr, hwarn, hclock]
    · obtain ⟨hint, hsome⟩ := hsteps.event (by rwa [hpq])
      have hpq' : t.pq = w.pq := hcut.comp .pq rfl
      exact ⟨(hcut.on_of_unit rfl).trans hint, by rwa [hpq']⟩
    · obtain ⟨hstate, hinc⟩ := hsteps.capture (by rwa [(hsv.get_of_unit rfl)])
      exact ⟨(hcut.get_of_unit rfl).trans hstate, (hcut.on_of_unit rfl).trans hinc⟩
    · obtain ⟨hgone, hres⟩ := hsteps.frame f (by rwa [hmod]) (by rwa [hmod]) ((hsv.on_of_unit rfl).trans hbusy)
        ((hsv.on_of_unit rfl).trans hair)
      have hmod' : t.modem = w.modem := hcut.comp .modem rfl
      exact ⟨by rwa [hmod'], (hcut.get_of_unit rfl).trans hres⟩
    · rw [hsteps.calNone (by rwa [hself])]
      exact Eq.trans (hsteps.stopped.comp .streams rfl) (hsv.comp .streams rfl)
    · have hkept : ∀ n ∈ [0x00, 0x01, 0x02, 0x10, 0x11, 0x12, 0x13, 0x14, 0x18, 0x19, 0x20, 0x21, 0x30, 0x3C, 0x3D, 0x41,
          0x48], (!warnedUnits.contains n && n != 8) = true := by decide
      exact hall.get_of_unit (hkept _ hf)
  case closing =>
    have hcs : ∀ c ∈ [Comp.clock, .mem, .lanes, .cores, .slots, .pwr, .cairn, .pq, .capt], c ∉ preemptComps := by decide
    have hget (f : Fld) : s.get f = (s.belayDue .closing).get f :=
      ((s.belayDue_frame .closing []).get List.not_mem_nil).symm
    have ht := (s.belayDue .closing).preempt_grows
    have hst : Grows preemptComps [4, 0x29] [0x37] s (s.belayDue .closing).preempt :=
      ((s.belayDue_grows _).mono rfl).then ht rfl
    obtain ⟨hport, hwriter⟩ := (s.belayDue .closing).preempt_taken
    refine ⟨_, closingSnapshot_next hp hw hlt hmod, ht.due _ (State.belayDue_mem ..),
      hport.congr (fun f _ => hget f) fun _ _ => rfl,
      hwriter.congr (fun f _ => hget f) fun _ _ => rfl, fun c hc => hst.comps c (hcs c hc)⟩
  case clear =>
    obtain ⟨hset, hfrozen, hpend, hpwr⟩ := s.warnCleared_effect
    have hframe := s.warnCleared_frame
    have ht := s.warnCleared.pqClear_grows
    have hcs : ∀ c ∈ [Comp.clock, .lanes, .cores, .slots, .leases, .cairn, .capt],
        c ∉ [Comp.pwr] ∧ c ∉ [Comp.mem, .jrnl, .pq] := by
      decide
    have hpq : s.warnCleared.pq = s.pq := hframe.2 .pq (by decide)
    refine ⟨_, supplyFailClear_next hp hsfw, (ht.on_of_unit rfl).trans hset, (ht.on_of_unit rfl).trans hfrozen,
      Eq.trans (ht.comp .pwr rfl) hpwr, ht.pend _ _ (by decide) hpend, fun h => ?_, fun h => ?_, fun c hc => ?_⟩
    · rw [State.pqClear_none (hpq ▸ h)]
      exact hframe
    · exact State.pqClear_closes (hpq ▸ h)
    · exact c.same_trans (hframe.2 c (hcs c hc).1) (ht.comps c (hcs c hc).2)

end Sys2Proof.Machine

namespace Sys2Proof.Machine
open Sys2Proof.Claims

/-! SUPPORT. The orders that are not durable: START, INSTALL and REMOVE (R239–R241, R284, R525, R563). -/

/-! ## What the handler reads once it has taken the parcel -/

/-- The parcel is taken, and EXP is one on. -/
def State.takenFor (s : State) (p : InParcel) : State :=
  ((s.set HOST.EXP.SEQ (p.seq + 1)).flag HOST.STATUS.EXPVALID true).modLink fun l => { l with taken := true }

section
variable (s : State) (p : InParcel)

theorem State.takenFor_get {f : Fld} (hf : (f.unit == 72) = false) : (s.takenFor p).get f = s.get f := by
  have hne (g : Fld) (hg : g.unit = 72) : g ≠ f := by
    rintro rfl
    simp [hg] at hf
  rw [State.takenFor, State.get_modLink, State.flag, State.get_set_other _ (hne HOST.STATUS.EXPVALID rfl),
    State.get_set_other _ (hne HOST.EXP.SEQ rfl)]

theorem State.takenFor_on {f : Fld} (hf : (f.unit == 72) = false) : (s.takenFor p).on f = s.on f :=
  State.on_of_get (s.takenFor_get p hf)

theorem State.takenFor_startBad (b : Nat) (e : List Byte) : (s.takenFor p).startBad b e = s.startBad b e := by
  simp only [State.startBad, State.slotOwner, State.slotQty, s.takenFor_get p (f := NRG.BIND.QTY _) rfl]
  rfl

theorem State.takenFor_inPair (n : Nat) : (s.takenFor p).inPair n = s.inPair n := by
  simp only [State.inPair, s.takenFor_get p (f := LEASE.ROPE.FIRST) rfl, s.takenFor_get p (f := LEASE.ROPE.SECOND) rfl]

theorem State.takenFor_targetLane (t : Nat) : (s.takenFor p).targetLane t = s.targetLane t := by
  simp only [State.targetLane, s.takenFor_get p (f := LEASE.ROPE.FIRST) rfl]

theorem State.takenFor_standby : (s.takenFor p).standby = s.standby := by
  simp only [State.standby, s.takenFor_get p (f := SYS.LANE.STBY) rfl, s.takenFor_on p (f := LEASE.ROPE.NOSTBY) rfl]

theorem State.takenFor_targetFree (i : List Byte) : (s.takenFor p).targetFree i = s.targetFree i := by
  simp only [State.targetFree, State.installing, s.takenFor_targetLane, s.takenFor_inPair,
    s.takenFor_get p (f := SYS.LANE.INSVC) rfl]
  rfl

theorem State.takenFor_setOf (i : List Byte) : (s.takenFor p).setOf i = s.setOf i := by
  simp only [State.setOf, State.partnerImage, s.takenFor_targetLane]
  rfl

theorem State.takenFor_installBad (t : Nat) (force : Bool) (i : List Byte) :
    (s.takenFor p).installBad t force i = s.installBad t force i := by
  simp only [State.installBad, s.takenFor_inPair, s.takenFor_targetFree, s.takenFor_setOf, s.takenFor_standby]
  rfl

theorem State.takenFor_pairsOk (i : List Byte) : (s.takenFor p).pairsOk i = s.pairsOk i := by
  simp only [State.pairsOk, s.takenFor_get p (f := FILT.CFG.OPT _) rfl, s.takenFor_get p (f := FILT.CHA.DRPSET _) rfl,
    s.takenFor_get p (f := FILT.CHB.DRPSET _) rfl]

end

end Sys2Proof.Machine

namespace Sys2Proof.Claims
open Sys2Proof.Machine

theorem Ready.takenFor_eq {s : State} {p : InParcel} {n : Nat} (hr : Ready s p n) : s.seqTake p = s.takenFor p :=
  hr.seqTake_eq

end Sys2Proof.Claims

namespace Sys2Proof.Machine
open Sys2Proof.Claims

/-! ## The handler's commands -/

theorem orderStart_handles : handles .orderStart (fun p => isOrder 1 p || unknownOrder p) fun p t =>
    if unknownOrder p then t.refuse p 3 else t.orderStart p := fun _ => rfl

theorem orderInstall_handles : handles .orderInstall (isOrder 2) State.orderInstall := fun _ => rfl
theorem orderRemove_handles : handles .orderRemove (isOrder 3) State.orderRemove := fun _ => rfl
theorem orderCue_handles : handles .orderCue (isOrder 4) State.orderCue := fun _ => rfl
theorem orderSetUtc_handles : handles .orderSetUtc (isOrder 5) State.orderSetUtc := fun _ => rfl
theorem orderSelfcal_handles : handles .orderSelfcal (isOrder 6) State.orderSelfcal := fun _ => rfl
theorem orderReset_handles : handles .orderReset (isOrder 7) State.orderReset := fun _ => rfl
theorem parcelAck_handles : handles .parcelAck (fun p => p.type == 4) fun p t =>
    if p.body.length < 6 then t.refuse p 3 else (t.ack (unAt p.body 0 6)).accept p [] := fun _ => rfl
theorem parcelLoad_handles : handles .parcelLoad (fun p => p.type == 1) State.loadPart := fun _ => rfl

end Sys2Proof.Machine

namespace Sys2Proof.Machine
open Sys2Proof.Claims

/-! ## START (R284, R558) -/

/-- Parcel p is an ORDER of a code. -/
def OrderOf (code : Nat) (p : InParcel) : Prop := p.type = 2 ∧ 4 ≤ p.body.length ∧ u16At p.body 0 = code

theorem OrderOf.isOrder {code : Nat} {p : InParcel} (h : OrderOf code p) : isOrder code p = true := by
  obtain ⟨ht, hb, hc⟩ := h
  exact isOrder_of ht hb hc

theorem OrderOf.known {code : Nat} {p : InParcel} (h : OrderOf code p) (hc : code ∈ orderCodes) :
    unknownOrder p = false := by
  obtain ⟨ht, hb, hcode⟩ := h
  have hb' : ¬ p.body.length < 4 := by omega
  simp [unknownOrder, InParcel.code, hcode, hc, hb']

section
variable {s : State} {p : InParcel} (hr : Ready s p 32)

/-- START cannot be taken now: base camp runs, the module is not in its lowest state, or an earlier START waits. -/
def State.StartClosed (s : State) : Prop := s.on NRG.BCSTAT.BCRUN = true ∨ s.get PWR.STATE.STATE ≠ 1 ∨ s.pwr.start ≠ none

/-- START's entries are too few, or one names no good target. -/
def State.StartMalformed (s : State) (ord : List Byte) : Prop :=
  ord.length < 32 ∨ ∃ b < 8, s.startBad b ((ord.drop (4 * b)).take 4) = true

theorem State.takenFor_startClosed (s : State) (p : InParcel) :
    ((s.takenFor p).on NRG.BCSTAT.BCRUN ∨ (s.takenFor p).get PWR.STATE.STATE ≠ 1 ∨ (s.takenFor p).pwr.start.isSome) ↔
      s.StartClosed := by
  rw [State.takenFor_on _ _ rfl, State.takenFor_get _ _ rfl, Option.isSome_iff_ne_none]
  rfl

theorem State.takenFor_startMalformed (s : State) (p : InParcel) :
    (p.ord.length < 32 ∨ (List.range 8).any fun b => (s.takenFor p).startBad b (startEntry p.ord b)) ↔
      s.StartMalformed p.ord := by
  simp only [State.takenFor_startBad, List.any_eq_true, List.mem_range]
  rfl

include hr

theorem orderStart_unknown (ht : p.type = 2) (h : p.body.length < 4 ∨ u16At p.body 0 ∉ orderCodes) :
    Refuses .orderStart s p 3 := by
  have hk : unknownOrder p = true := by simpa [unknownOrder, ht, InParcel.code] using h
  exact orderStart_handles.refuses hr (by simp [hk]) (if_pos hk) (by decide)

section
variable (ho : OrderOf 1 p)
include ho

theorem orderStart_act : (if unknownOrder p then (s.seqTake p).refuse p 3 else (s.seqTake p).orderStart p) =
    (s.takenFor p).orderStart p := by
  rw [ho.known (by decide), hr.takenFor_eq]
  rfl

theorem orderStart_closed (h : s.StartClosed) : Refuses .orderStart s p 4 := by
  refine orderStart_handles.refuses hr (by simp [ho.isOrder]) ((orderStart_act hr ho).trans ?_) (by decide)
  rw [hr.takenFor_eq]
  exact if_pos ((s.takenFor_startClosed p).2 h)

theorem orderStart_malformed (h : ¬ s.StartClosed) (hbad : s.StartMalformed p.ord) : Refuses .orderStart s p 3 := by
  refine orderStart_handles.refuses hr (by simp [ho.isOrder]) ((orderStart_act hr ho).trans ?_) (by decide)
  rw [hr.takenFor_eq, State.orderStart, if_neg (mt (s.takenFor_startClosed p).1 h),
    if_pos ((s.takenFor_startMalformed p).2 hbad)]

theorem orderStart_taken (h : ¬ s.StartClosed) (hbad : ¬ s.StartMalformed p.ord) :
    ∃ t, Accepts .orderStart s p [] [.pwr] [] t ∧ t.pwr = { s.pwr with start := some (p.seq, p.ord.take 32) } := by
  have hmod : Same [.pwr] [] (s.seqTake p) ((s.seqTake p).modPwr fun x => { x with start := some (p.seq, p.ord.take 32) }) :=
    State.modPwr_frame ..
  refine ⟨_, orderStart_handles.accepts hr (by simp [ho.isOrder]) ((orderStart_act hr ho).trans ?_) hmod
    ((Taken.of_ready hr).frame hmod (by simp) (by decide) (by decide)) (by decide), ?_⟩
  · rw [hr.takenFor_eq, State.orderStart, if_neg (mt (s.takenFor_startClosed p).1 h),
      if_neg (mt (s.takenFor_startMalformed p).1 hbad)]
  · rw [hr.takenFor_eq]
    rfl

end

end

/-! ## INSTALL (R239–R241) -/

/-- A lane order waits for the boundary. -/
def State.laneOrdered (s : State) (o : LaneOrder) : State := { s with laneOrders := s.laneOrders ++ [o] }

theorem State.laneOrdered_frame (s : State) (o : LaneOrder) (fs : List Fld) : Same [.laneOrders] fs s (s.laneOrdered o) :=
  .of_flds rfl fun c hc => by
    cases c with
    | laneOrders => simp at hc
    | _ => rfl

theorem State.copySections_frame (s : State) (base : Nat) (i : List Byte) : Same [.mem] [] s (s.copySections base i) := by
  unfold State.copySections
  generalize imgSections i = l
  induction l generalizing s with
  | nil => exact .refl ..
  | cons x l ih =>
    refine Frame.then ?_ (ih _)
    dsimp only
    split
    · exact State.setBytes_frame _ _ s _ _ (by decide)
    split
    · exact State.setBytes_frame _ _ s _ _ (by decide)
    · exact .refl ..

/-- The programs change alone. -/
theorem State.progs_frame (s : State) (l : List (Nat × List Byte)) (fs : List Fld) :
    Same [.progs] fs s { s with progs := l } :=
  .of_flds rfl fun c hc => by
    cases c with
    | progs => simp at hc
    | _ => rfl

theorem State.svcNext_frame (s : State) (c : Fin 2) (fs : List Fld) : Same [.cores] fs s (s.svcNext c) := by
  unfold State.svcNext
  split
  · split
    · exact State.setCore_frame _ _ s _ _ (by decide)
    · exact .refl ..
  · exact .refl ..

theorem State.installProg_effect (s : State) (i : List Byte) : (progCode i, i) ∈ (s.installProg i).progs ∧
    Same [.mem, .access, .progs, .cores] [ACCESS.MCNT.CNT] s (s.installProg i) := by
  unfold State.installProg
  extract_lets code s₁ had s₂ c k k'
  have h₁ : Same [.mem, .access, .progs, .cores] [ACCESS.MCNT.CNT] s s₁ :=
    ((s.copySections_frame 0 i).mono (by decide) (by simp)).then
      ((State.extend_effect _ _ _).2.2.2.mono (by decide) fun _ h => h)
  have h₂ : Same [.mem, .access, .progs, .cores] [ACCESS.MCNT.CNT] s s₂ :=
    h₁.then ((State.progs_frame ..).mono (by decide) fun _ h => h)
  have hmem : (progCode i, i) ∈ s₂.progs := List.mem_append_right _ (List.mem_singleton_self _)
  split
  · have hcore (k : CoreSt) : Same [.cores] [ACCESS.MCNT.CNT] s₂ ((s₂.setCore c k).svcNext c) :=
      (State.setCore_frame _ _ s₂ c k (by decide)).then (State.svcNext_frame _ c _)
    exact ⟨((hcore _).2 .progs (by decide)).symm ▸ hmem, h₂.then ((hcore _).mono (by decide) fun _ h => h)⟩
  · exact ⟨hmem, h₂⟩

section
variable {s : State} {p : InParcel} (hr : Ready s p 32)
include hr

section
variable (ho : OrderOf 2 p)
include ho

theorem orderInstall_short (h : p.ord.length < 8) : Refuses .orderInstall s p 3 :=
  orderInstall_handles.refuses hr ho.isOrder (if_pos h) (by decide)

theorem orderInstall_unstaged (h : 8 ≤ p.ord.length) (hno : ∀ i ∈ s.link.staged, imgId i ≠ u32At p.ord 4) :
    Refuses .orderInstall s p 4 := by
  have hfind : (s.takenFor p).link.staged.reverse.find? (fun i => imgId i == u32At p.ord 4) = none := by
    show s.link.staged.reverse.find? _ = none
    simpa using hno
  refine orderInstall_handles.refuses hr ho.isOrder ?_ (by decide)
  rw [hr.takenFor_eq, State.orderInstall]
  simp only [if_neg (Nat.not_lt.2 h), hfind]

variable {i : List Byte} (h : 8 ≤ p.ord.length) (hlast : s.link.staged.getLast? = some i) (hid : imgId i = u32At p.ord 4)
include h hlast hid

omit ho in
/-- INSTALL of the image staged last. -/
theorem orderInstall_act : (s.seqTake p).orderInstall p =
    (let bad := s.installBad (byteAt p.ord 0) (bitOf (byteAt p.ord 1) 0) i
     if bad ≠ 0 then (s.takenFor p).refuse p bad
     else ((s.takenFor p).install (byteAt p.ord 0) (bitOf (byteAt p.ord 1) 0) i).accept p []) := by
  have hhead : s.link.staged.reverse.head? = some i := by rw [List.head?_reverse, hlast]
  obtain ⟨rest, hrest⟩ := List.head?_eq_some_iff.1 hhead
  have hfind : (s.takenFor p).link.staged.reverse.find? (fun i => imgId i == u32At p.ord 4) = some i := by
    show s.link.staged.reverse.find? _ = _
    rw [hrest, List.find?_cons_of_pos (by simp [hid])]
  rw [hr.takenFor_eq, State.orderInstall]
  simp only [if_neg (Nat.not_lt.2 h), hfind, State.takenFor_installBad]

theorem orderInstall_bad (hbad : s.installBad (byteAt p.ord 0) (bitOf (byteAt p.ord 1) 0) i ≠ 0) :
    Refuses .orderInstall s p (s.installBad (byteAt p.ord 0) (bitOf (byteAt p.ord 1) 0) i) := by
  refine orderInstall_handles.refuses hr ho.isOrder ((orderInstall_act hr h hlast hid).trans ?_) (by decide)
  rw [hr.takenFor_eq]
  exact if_pos hbad

omit ho in
theorem orderInstall_good (hbad : s.installBad (byteAt p.ord 0) (bitOf (byteAt p.ord 1) 0) i = 0) :
    (s.seqTake p).orderInstall p =
      ((s.takenFor p).install (byteAt p.ord 0) (bitOf (byteAt p.ord 1) 0) i).accept p [] :=
  (orderInstall_act hr h hlast hid).trans (if_neg (not_not.2 hbad))

/-- A lane set waits for the boundary (R239). -/
theorem orderInstall_lane (hbad : s.installBad (byteAt p.ord 0) (bitOf (byteAt p.ord 1) 0) i = 0) (hi : imgLane i = true) :
    ∃ t, Accepts .orderInstall s p [] [.laneOrders] [] t ∧
      t.laneOrders = s.laneOrders ++ [⟨byteAt p.ord 0, some (s.setOf i), bitOf (byteAt p.ord 1) 0⟩] := by
  have hinst : (s.takenFor p).install (byteAt p.ord 0) (bitOf (byteAt p.ord 1) 0) i =
      (s.takenFor p).laneOrdered ⟨byteAt p.ord 0, some (s.setOf i), bitOf (byteAt p.ord 1) 0⟩ := by
    rw [State.install, if_pos hi, State.takenFor_setOf]
    rfl
  have hframe : Same [.laneOrders] [] (s.seqTake p)
      ((s.takenFor p).laneOrdered ⟨byteAt p.ord 0, some (s.setOf i), bitOf (byteAt p.ord 1) 0⟩) := by
    rw [hr.takenFor_eq]
    exact State.laneOrdered_frame ..
  exact ⟨_, orderInstall_handles.accepts hr ho.isOrder ((orderInstall_good hr h hlast hid hbad).trans (by rw [hinst])) hframe
    ((Taken.of_ready hr).frame hframe (by simp) (by decide) (by decide)) (by decide), rfl⟩

/-- A control program is installed at once (R241). -/
theorem orderInstall_program (hbad : s.installBad (byteAt p.ord 0) (bitOf (byteAt p.ord 1) 0) i = 0)
    (hi : imgLane i = false) :
    ∃ t, exec .orderInstall s = .next t ∧ Answered s t p 0x81 0 0 [] ∧ (progCode i, i) ∈ t.progs ∧
      t.laneOrders = s.laneOrders ∧ t.lanes = s.lanes ∧ t.slots = s.slots := by
  obtain ⟨hmem, hframe⟩ := (s.takenFor p).installProg_effect i
  have hframe' : Same [.mem, .access, .progs, .cores] [ACCESS.MCNT.CNT] (s.seqTake p) ((s.takenFor p).installProg i) := by
    rw [hr.takenFor_eq]
    exact hframe
  obtain ⟨hex, hans, hall⟩ := orderInstall_handles.accepts hr ho.isOrder (u := (s.takenFor p).installProg i)
    ((orderInstall_good hr h hlast hid hbad).trans (by rw [State.install, if_neg (by simp [hi])])) hframe'
    ((Taken.of_ready hr).frame hframe' (by decide) (by decide) (by decide)) (by decide)
  have hanswer := State.answerGood_frame ((s.takenFor p).installProg i) p 0x81 0 0 []
  exact ⟨_, hex, hans, (hanswer.2 .progs (by decide)).symm ▸ hmem, hall.2 .laneOrders (by decide), hall.2 .lanes (by decide),
    hall.2 .slots (by decide)⟩

end

end

end Sys2Proof.Machine

namespace Sys2Proof.Machine
open Sys2Proof.Claims

/-! ## REMOVE (R239, R563) -/

/-- What the removal of a control program leaves (R241, R563). -/
theorem State.removeProg_effect (s : State) (n : Nat) : let t := s.removeProg n
    let c : Fin 2 := Fin.ofNat 2 (n - 0x50)
    let next' := 0x50 ≤ n ∧ (s.core c).newSvc ≠ none ∧ s.serviceLive c = true
    Same [.progs, .cores] [] s t ∧ (n < 0x50 → t.cores = s.cores) ∧
    t.progs = (if next' then s.progs else s.progs.filter (fun e => e.1 != n)) ∧
    (0x50 ≤ n → ¬ next' → (t.core c).newSvc = none) := by
  intro t c next'
  have hgone : Same [.progs, .cores] [] s { s with progs := s.progs.filter (fun e => e.1 != n) } :=
    (State.progs_frame ..).mono (by decide) fun _ h => h
  by_cases hcue : n < 0x50
  · have ht : t = { s with progs := s.progs.filter (fun e => e.1 != n) } := if_pos hcue
    have hnot : ¬ next' := fun h => by
      have := h.1
      omega
    rw [ht, if_neg hnot]
    exact ⟨hgone, fun _ => rfl, rfl, fun h => by omega⟩
  have hn : 0x50 ≤ n := by omega
  by_cases hwaits : next'
  · obtain ⟨_, hnew, hlive⟩ := id hwaits
    have ht : t = (s.setCore c (s.core c).stopService).svcNext c :=
      (if_neg hcue).trans (if_pos ⟨Option.isSome_iff_ne_none.2 hnew, hlive⟩)
    have hframe : Same [.cores] [] s t := by
      rw [ht]
      exact (State.setCore_frame _ _ s c _ (by decide)).then (State.svcNext_frame _ c _)
    rw [if_pos hwaits]
    exact ⟨hframe.mono (by decide) fun _ h => h, fun h => absurd h hcue, hframe.2 .progs (by decide),
      fun _ h => absurd hwaits h⟩
  · have hno : ¬ ((s.core c).newSvc.isSome ∧ s.serviceLive c) := fun h =>
      hwaits ⟨hn, Option.isSome_iff_ne_none.1 h.1, h.2⟩
    let g : State := { s with progs := s.progs.filter (fun e => e.1 != n) }
    have ht : t = g.setCore c { (g.core c).stopService with newSvc := none } := (if_neg hcue).trans (if_neg hno)
    rw [ht, if_neg hwaits]
    exact ⟨hgone.then (State.setCore_frame _ _ g c _ (by decide)), fun h => absurd h hcue, rfl,
      fun _ _ => congrArg CoreSt.newSvc (State.core_setCore_same g c _)⟩

theorem State.takenFor_cueBusy (s : State) (p : InParcel) (n : Nat) : (s.takenFor p).cueBusy n = s.cueBusy n := rfl

/-- No installed program has the code. -/
theorem State.prog_none {s : State} {n : Nat} (h : ∀ e ∈ s.progs, e.1 ≠ n) : s.prog n = none := by
  rw [State.prog, List.find?_eq_none.2 fun e he => by simpa using h e he]
  rfl

section
variable {s : State} {p : InParcel} (hr : Ready s p 32) (ho : OrderOf 3 p)
include hr ho

theorem orderRemove_empty (h : p.ord = []) : Refuses .orderRemove s p 3 :=
  orderRemove_handles.refuses hr ho.isOrder (if_pos (by simp [h])) (by decide)

theorem orderRemove_unknown (h : p.ord ≠ []) (h5 : 5 ≤ byteAt p.ord 0) (h15 : byteAt p.ord 0 ≠ 0x0F)
    (hp : ¬ (0x10 ≤ byteAt p.ord 0 ∧ byteAt p.ord 0 ≤ 0x51)) : Refuses .orderRemove s p 3 := by
  have hlen : ¬ p.ord.length < 1 := by simpa [Nat.lt_one_iff] using h
  refine orderRemove_handles.refuses hr ho.isOrder ?_ (by decide)
  rw [State.orderRemove]
  simp only [if_neg hlen, if_neg (Nat.not_lt.2 h5), if_neg h15, if_neg hp]

theorem orderRemove_inPair (h : p.ord ≠ []) (h5 : byteAt p.ord 0 < 5) (hpair : s.inPair (byteAt p.ord 0) = true) :
    Refuses .orderRemove s p 4 := by
  have hlen : ¬ p.ord.length < 1 := by simpa [Nat.lt_one_iff] using h
  refine orderRemove_handles.refuses hr ho.isOrder ?_ (by decide)
  rw [State.orderRemove, hr.takenFor_eq]
  simp only [if_neg hlen, if_pos h5, State.takenFor_inPair, if_pos hpair]

/-- A lane's set is taken away at the boundary. -/
theorem orderRemove_lane (h : p.ord ≠ [])
    (hto : (byteAt p.ord 0 < 5 ∧ s.inPair (byteAt p.ord 0) = false) ∨ byteAt p.ord 0 = 0x0F) :
    ∃ t, Accepts .orderRemove s p [] [.laneOrders] [] t ∧ t.laneOrders = s.laneOrders ++ [⟨byteAt p.ord 0, none, false⟩] := by
  have hlen : ¬ p.ord.length < 1 := by simpa [Nat.lt_one_iff] using h
  have hact : (s.seqTake p).orderRemove p = ((s.takenFor p).laneOrdered ⟨byteAt p.ord 0, none, false⟩).accept p [] := by
    rw [State.orderRemove, hr.takenFor_eq]
    obtain ⟨h5, hpair⟩ | h15 := hto
    · simp only [if_neg hlen, if_pos h5, State.takenFor_inPair, hpair]
      rfl
    · have h5 : ¬ byteAt p.ord 0 < 5 := by omega
      simp only [if_neg hlen, if_neg h5, if_pos h15]
      rfl
  have hframe : Same [.laneOrders] [] (s.seqTake p) ((s.takenFor p).laneOrdered ⟨byteAt p.ord 0, none, false⟩) := by
    rw [hr.takenFor_eq]
    exact State.laneOrdered_frame ..
  exact ⟨_, orderRemove_handles.accepts hr ho.isOrder hact hframe
    ((Taken.of_ready hr).frame hframe (by simp) (by decide) (by decide)) (by decide), rfl⟩

section
variable (h : p.ord ≠ []) (hprog : 0x10 ≤ byteAt p.ord 0 ∧ byteAt p.ord 0 ≤ 0x51)
include h hprog

omit ho in
/-- REMOVE of a control program. -/
theorem orderRemove_act : (s.seqTake p).orderRemove p =
    if (byteAt p.ord 0 < 0x50 ∧ s.cueBusy (byteAt p.ord 0 - 0x10)) ∨ (s.prog (byteAt p.ord 0)).isNone then
      (s.takenFor p).refuse p 4 else ((s.takenFor p).removeProg (byteAt p.ord 0)).accept p [] := by
  have hlen : ¬ p.ord.length < 1 := by simpa [Nat.lt_one_iff] using h
  have h5 : ¬ byteAt p.ord 0 < 5 := by omega
  have h15 : byteAt p.ord 0 ≠ 0x0F := by omega
  rw [State.orderRemove, hr.takenFor_eq]
  simp only [if_neg hlen, if_neg h5, if_neg h15, if_pos hprog]
  rfl

theorem orderRemove_refused (hno : (byteAt p.ord 0 < 0x50 ∧ s.cueBusy (byteAt p.ord 0 - 0x10) = true) ∨
    s.prog (byteAt p.ord 0) = none) : Refuses .orderRemove s p 4 := by
  refine orderRemove_handles.refuses hr ho.isOrder ((orderRemove_act hr h hprog).trans ?_) (by decide)
  rw [hr.takenFor_eq]
  exact if_pos (hno.imp_right fun e => by rw [e]; rfl)

theorem orderRemove_program (hsome : (s.prog (byteAt p.ord 0)).isSome = true)
    (hidle : byteAt p.ord 0 < 0x50 → s.cueBusy (byteAt p.ord 0 - 0x10) = false) :
    Accepts .orderRemove s p [] [.progs, .cores] [] (((s.takenFor p).removeProg (byteAt p.ord 0)).accept p []) := by
  obtain ⟨hframe, _⟩ := (s.takenFor p).removeProg_effect (byteAt p.ord 0)
  have hgo : ¬ ((byteAt p.ord 0 < 0x50 ∧ s.cueBusy (byteAt p.ord 0 - 0x10)) ∨ (s.prog (byteAt p.ord 0)).isNone) := by
    rintro (⟨hlt, hbusy⟩ | hnone)
    · simp [hidle hlt] at hbusy
    · simp [Option.isNone_iff_eq_none.1 hnone] at hsome
  have hframe' : Same [.progs, .cores] [] (s.seqTake p) ((s.takenFor p).removeProg (byteAt p.ord 0)) := by
    rw [hr.takenFor_eq]
    exact hframe
  exact orderRemove_handles.accepts hr ho.isOrder ((orderRemove_act hr h hprog).trans (if_neg hgo)) hframe'
    ((Taken.of_ready hr).frame hframe' (by simp) (by decide) (by decide)) (by decide)

end

end

/-! ## SET UTC and RESET (R75, R347, R525) -/

section
variable {s : State} {p : InParcel} (hr : Ready s p 32)
include hr

theorem orderSetUtc_short (ho : OrderOf 5 p) (h : p.ord.length < 12) : Refuses .orderSetUtc s p 3 :=
  orderSetUtc_handles.refuses hr ho.isOrder (if_pos h) (by decide)

theorem orderSetUtc_taken (ho : OrderOf 5 p) (h : 12 ≤ p.ord.length) : ∃ t, Accepts .orderSetUtc s p [] [.utcSet] [] t ∧
    t.utcSet = some (u32At p.ord 0, leNat ((p.ord.drop 4).take 8)) := by
  let u : State := { s.seqTake p with utcSet := some (u32At p.ord 0, unAt p.ord 4 8) }
  have hframe : Same [.utcSet] [] (s.seqTake p) u := .of_flds rfl fun c hc => by
    cases c with
    | utcSet => simp at hc
    | _ => rfl
  exact ⟨_, orderSetUtc_handles.accepts hr ho.isOrder (u := u) (if_neg (Nat.not_lt.2 h)) hframe
    ((Taken.of_ready hr).frame hframe (by simp) (by decide) (by decide)) (by decide), rfl⟩

theorem orderReset_wrong (ho : OrderOf 7 p) (h : byteAt p.ord 0 ≠ 0xC3) : Refuses .orderReset s p 3 :=
  orderReset_handles.refuses hr ho.isOrder (if_neg h) (by decide)

end

end Sys2Proof.Machine

namespace Sys2Proof.Claims
open Sys2Proof.Machine

/-- An answer stands while the link and the numbers of the host's registers do. -/
theorem Answered.congr {s t t' : State} {p : InParcel} {type code sub : Nat} {rest : List Byte}
    (h : Answered s t p type code sub rest) (hl : t'.link = t.link) (hf : ∀ f ∈ answerFlds, t'.get f = t.get f) :
    Answered s t' p type code sub rest := by
  simp only [answerFlds, List.forall_mem_cons, List.not_mem_nil, false_implies, implies_true, and_true] at hf
  obtain ⟨hseq, hexp, hvalid, hmark⟩ := hf
  simpa only [Answered, State.on, hl, hseq, hexp, hvalid, hmark] using h

end Sys2Proof.Claims

namespace Sys2Proof.Machine
open Sys2Proof.Claims

/-! ## RESET (R347, R525) -/

section
variable {s : State} {p : InParcel} (hr : Ready s p 32)
include hr

/-- RESET is accepted, and then decided. -/
theorem orderReset_decides (ho : OrderOf 7 p) (h : byteAt p.ord 0 = 0xC3) :
    ∃ t, exec .orderReset s = .next t ∧ Answered s t p 0x81 0 0 [] ∧
      (s.pwr.reset = none → t.pwr.reset = some ⟨8, s.clock.grain⟩ ∧ .prereset ∈ t.jrnl.due) ∧
      (s.pwr.reset ≠ none → t.pwr = s.pwr) ∧ t.lanes = s.lanes ∧ t.cores = s.cores ∧ t.clock = s.clock := by
  let a := (s.seqTake p).accept p []
  have hans : Answered s a p 0x81 0 0 [] := (Taken.of_ready hr).answerGood (by decide) 0 0 []
  have hframe : Same [.link] answerFlds s a :=
    ((s.seqTake_frame p).mono (fun _ h => h) (by decide)).then (State.answerGood_frame ..)
  have hgrow := a.decideReset_grows 8
  have hans' : Answered s (a.decideReset 8) p 0x81 0 0 [] := hans.congr (hgrow.comp .link rfl) fun f hf =>
    hgrow.get_of_unit (apartFrom_of_unit (u := 72) (by revert f; decide) rfl)
  have hpwr : a.pwr = s.pwr := hframe.2 .pwr (by decide)
  have hclock : a.clock = s.clock := hframe.2 .clock (by decide)
  refine ⟨_, orderReset_handles.answered hr ho.isOrder (if_pos h) hans' (by decide), hans', fun hn => ?_, fun hn => ?_,
    Eq.trans (hgrow.comp .lanes rfl) (hframe.2 .lanes (by decide)),
    Eq.trans (hgrow.comp .cores rfl) (hframe.2 .cores (by decide)), Eq.trans (hgrow.comp .clock rfl) hclock⟩
  · obtain ⟨hdecided, hdue⟩ := State.decideReset_decided (s := a) (by rw [hpwr, hn]) 8
    exact ⟨by rw [hdecided, hclock], hdue⟩
  · rw [State.decideReset_stands (s := a) (by rwa [hpwr]), hpwr]

end

/-! ## ACK (R362) -/

/-- The registers that an acknowledgement writes. -/
def ackFields : List Fld :=
  [JRNL.STATUS.ACKHI, JRNL.STATUS.LOWFREE, JRNL.STATUS.ORDFULL, JRNL.STATUS.COAL] ++ arrivalOf 0x2B

theorem State.jrnlStatus_frame (s : State) :
    Same [] ([JRNL.STATUS.LOWFREE, JRNL.STATUS.ORDFULL, JRNL.STATUS.COAL] ++ arrivalOf 0x2B) s s.jrnlStatus := by
  refine Frame.then (Frame.then ?_ (State.flag_frame _ _ _ _ (by decide))) (State.flag_frame _ _ _ _ (by decide))
  split
  · exact State.raise_frame _ _ _ _ (by decide) (fun _ h => List.mem_append_right _ h)
  · exact State.flag_frame _ _ _ _ (by decide)

/-- The acknowledgement's mark of a number too high (R362). -/
def State.ackNoted (s : State) (n : Nat) : State :=
  if decide (s.jrnl.cseq ≤ n) = true then s.flag JRNL.STATUS.ACKHI true else s

/-- The journal with its acknowledged number moved on to n. -/
def State.acked (s : State) (n : Nat) : State :=
  { s with jrnl := { s.jrnl with
    ackseq := n, carry := if s.jrnl.carry.last ≤ n then { s.jrnl.carry with empty := true } else s.jrnl.carry } }

theorem State.acked_frame (s : State) (n : Nat) (P : Fld → Prop) : Frame [.jrnl] P s (s.acked n) :=
  .of_flds rfl fun c hc => by
    cases c with
    | jrnl => exact absurd (by decide) hc
    | _ => rfl

theorem State.ackNoted_frame (s : State) (n : Nat) (cs : List Comp) : Same cs ackFields s (s.ackNoted n) := by
  unfold State.ackNoted
  split
  · exact State.flag_frame _ _ _ _ (by decide)
  · exact .refl ..

theorem State.ackNoted_jrnl (s : State) (n : Nat) : (s.ackNoted n).jrnl = s.jrnl := (s.ackNoted_frame n []).2 .jrnl nofun

/-- The number acknowledged stays below the numbers that a belay has committed (R362). -/
theorem State.ack_eq (s : State) (n : Nat) (hpos : 0 < s.jrnl.cseq) : s.ack n =
    if min n (s.jrnl.cseq - 1) ≤ s.jrnl.ackseq then s.ackNoted n
    else ((s.ackNoted n).acked (min n (s.jrnl.cseq - 1))).jrnlStatus.mirrorHeads := by
  have hmin : (if decide (s.jrnl.cseq ≤ n) = true then s.jrnl.cseq - 1 else n) = min n (s.jrnl.cseq - 1) := by
    by_cases h : s.jrnl.cseq ≤ n
    · rw [if_pos (decide_eq_true h)]
      omega
    · rw [if_neg (by simpa using h)]
      omega
  have hplain : s.ack n = if (if decide (s.jrnl.cseq ≤ n) = true then s.jrnl.cseq - 1 else n) ≤ (s.ackNoted n).jrnl.ackseq
      then s.ackNoted n
      else ((s.ackNoted n).acked (if decide (s.jrnl.cseq ≤ n) = true then s.jrnl.cseq - 1
        else n)).jrnlStatus.mirrorHeads := rfl
  rw [hplain, hmin, s.ackNoted_jrnl]

theorem State.mirrorHeads_frame (s : State) (P : Fld → Prop) : Frame [.mem] P s s.mirrorHeads :=
  State.setBytes_frame _ _ _ _ _ (by decide)

theorem State.ack_effect (s : State) (n : Nat) (hpos : 0 < s.jrnl.cseq) : let t := s.ack n
    t.jrnl.ackseq = max s.jrnl.ackseq (min n (s.jrnl.cseq - 1)) ∧ KeptOutside 0x20002800 0x20003000 s t ∧
    (s.jrnl.cseq ≤ n → t.on JRNL.STATUS.ACKHI = true) ∧
    (n < s.jrnl.cseq → t.get JRNL.STATUS.ACKHI = s.get JRNL.STATUS.ACKHI) ∧ Same [.jrnl, .mem] ackFields s t := by
  intro t
  have hnoted := s.ackNoted_frame n [.jrnl, .mem]
  have hhigh (h : s.jrnl.cseq ≤ n) : (s.ackNoted n).on JRNL.STATUS.ACKHI = true := by
    rw [State.ackNoted, if_pos (by simpa using h)]
    exact State.on_flag_same _ _ rfl
  have hlow (h : n < s.jrnl.cseq) : s.ackNoted n = s := if_neg (by simpa using h)
  have hmem : (s.ackNoted n).mem = s.mem := (s.ackNoted_frame n []).2 .mem nofun
  by_cases hle : min n (s.jrnl.cseq - 1) ≤ s.jrnl.ackseq
  · rw [show t = s.ackNoted n from (s.ack_eq n hpos).trans (if_pos hle), s.ackNoted_jrnl]
    exact ⟨(max_eq_left hle).symm, fun a _ => State.byte_of_mem hmem a, hhigh, fun h => by rw [hlow h], hnoted⟩
  · let u := (s.ackNoted n).acked (min n (s.jrnl.cseq - 1))
    rw [show t = u.jrnlStatus.mirrorHeads from (s.ack_eq n hpos).trans (if_neg hle)]
    have hmark : u.jrnlStatus.mirrorHeads.get JRNL.STATUS.ACKHI = (s.ackNoted n).get JRNL.STATUS.ACKHI :=
      u.jrnlStatus_frame.get (by decide)
    refine ⟨(congrArg Jrnl.ackseq (u.jrnlStatus_frame.2 .jrnl nofun)).trans (max_eq_right (Nat.le_of_not_le hle)).symm,
      fun a ha => ?_, fun h => (State.on_of_get hmark).trans (hhigh h), fun h => hmark.trans (by rw [hlow h]), ?_⟩
    · rw [← State.byte_of_mem hmem, ← State.byte_of_mem (s := s.ackNoted n) (t := u.jrnlStatus)
        (u.jrnlStatus_frame.2 .mem nofun)]
      exact State.putArea_kept _ _ (by decide) (by decide) a ha
    · exact hnoted.then (((State.acked_frame ..).mono (by decide) fun _ h => h).then
        ((u.jrnlStatus_frame.mono nofun (by decide)).then ((State.mirrorHeads_frame ..).mono (by decide) fun _ h => h)))

section
variable {s : State} {p : InParcel} (hr : Ready s p 32) (ht : p.type = 4)
include hr ht

theorem parcelAck_short (h : p.body.length < 6) : Refuses .parcelAck s p 3 :=
  parcelAck_handles.refuses hr (by simp [ht]) (if_pos h) (by decide)

theorem parcelAck_taken (h : 6 ≤ p.body.length) (hpos : 0 < s.jrnl.cseq) :
    ∃ t, Accepts .parcelAck s p [] [.jrnl, .mem] ackFields t ∧
      t.jrnl.ackseq = max s.jrnl.ackseq (min (leNat (p.body.take 6)) (s.jrnl.cseq - 1)) ∧
      KeptOutside 0x20002800 0x20003000 s t ∧ (s.jrnl.cseq ≤ leNat (p.body.take 6) → t.on JRNL.STATUS.ACKHI = true) ∧
      (leNat (p.body.take 6) < s.jrnl.cseq → t.get JRNL.STATUS.ACKHI = s.get JRNL.STATUS.ACKHI) := by
  obtain ⟨hseq, hkept, hhigh, hlow, hframe⟩ := (s.takenFor p).ack_effect (leNat (p.body.take 6)) hpos
  have hframe' : Same [.jrnl, .mem] ackFields (s.seqTake p) ((s.takenFor p).ack (leNat (p.body.take 6))) := by
    rw [hr.takenFor_eq]
    exact hframe
  have hgood := State.answerGood_frame ((s.takenFor p).ack (leNat (p.body.take 6))) p 0x81 0 0 []
  have hget : (((s.takenFor p).ack (leNat (p.body.take 6))).accept p []).get JRNL.STATUS.ACKHI =
      ((s.takenFor p).ack (leNat (p.body.take 6))).get JRNL.STATUS.ACKHI := hgood.get (by decide)
  refine ⟨_, parcelAck_handles.accepts hr (by simp [ht]) ((if_neg (Nat.not_lt.2 h)).trans (by rw [hr.takenFor_eq]; rfl)) hframe'
    ((Taken.of_ready hr).frame hframe' (by decide) (by decide) (by decide)) (by decide),
    hseq, fun a ha => ?_, fun hn => (State.on_of_get hget).trans (hhigh hn),
    fun hn => (hget.trans (hlow hn)).trans (s.takenFor_get p rfl)⟩
  exact (State.byte_of_mem (hgood.2 .mem (by decide)) a).trans (hkept a ha)

end

end Sys2Proof.Machine

namespace Sys2Proof.Machine
open Sys2Proof.Claims

/-! SUPPORT. LOAD: the parts of an image, the image whole, and the loader's outcome (R237, R240, R526). -/

/-- A part of an image is in staging (R526). -/
def State.partStored (s : State) (off len : Nat) (data : List Byte) : State :=
  (s.setBytes (stagingBase + off) data).modLink fun l => { l with
    imgLen := some len, parts := l.parts ++ [(off, data.length)] }

theorem State.partStored_frame (s : State) (off len : Nat) (data : List Byte) (P : Fld → Prop) :
    Frame [.link, .mem] P s (s.partStored off len data) :=
  (State.setBytes_frame _ _ _ _ _ (by decide)).then ((State.modLink_frame ..).mono (by decide) fun _ h => h)

/-- The loader reads neither memory nor the parts in staging. -/
theorem State.partStored_loadOutcome (s : State) (off len : Nat) (data : List Byte) (i : List Byte) :
    (s.partStored off len data).loadOutcome i = s.loadOutcome i := rfl

theorem State.takenFor_loadOutcome (s : State) (p : InParcel) (i : List Byte) :
    (s.takenFor p).loadOutcome i = s.loadOutcome i := by
  have htables : (s.takenFor p).tablesOk i = s.tablesOk i := rfl
  have hcontrol : (s.takenFor p).controlPlaced i = s.controlPlaced i := rfl
  have hpart : (s.takenFor p).part = s.part := rfl
  simp only [State.loadOutcome, hpart, s.takenFor_pairsOk, s.takenFor_setOf, s.takenFor_targetFree, htables, hcontrol]

theorem State.partStored_mem (s : State) (off len : Nat) (data : List Byte) :
    (s.partStored off len data).mem = (s.setBytes (stagingBase + off) data).mem := rfl

/-- What a part in staging leaves of memory. -/
theorem State.partStored_bytes (s : State) (off len : Nat) (data : List Byte) :
    (s.partStored off len data).bytes (stagingBase + off) data.length = data ∧
    ∀ a, a < stagingBase + off ∨ stagingBase + off + data.length ≤ a → (s.partStored off len data).byte a = s.byte a := by
  have hrom : 0x80000 ≤ stagingBase + off := Nat.le_trans (by decide) (Nat.le_add_right stagingBase off)
  have hmem := s.partStored_mem off len data
  exact ⟨(State.bytes_of_mem hmem _ _).trans (s.bytes_setBytes_same data hrom),
    fun a ha => (State.byte_of_mem hmem a).trans (s.byte_setBytes_other _ a _ ha)⟩

/-- A part that belongs to no image in staging (R526). -/
def State.partBad (s : State) (p : InParcel) : Prop :=
  p.body.length < 8 ∨ 0x40000 < u32At p.body 4 ∨ u32At p.body 4 < u32At p.body 0 + (p.body.drop 8).length ∨
    u32At p.body 4 ≤ u32At p.body 0 ∨ ∃ n, s.link.imgLen = some n ∧ n ≠ u32At p.body 4

theorem State.imgLen_differs (o : Option Nat) (len : Nat) :
    (o.isSome = true ∧ o ≠ some len) ↔ ∃ n, o = some n ∧ n ≠ len := by
  cases o <;> simp

/-- The parts in staging once p's is there too. -/
def State.partsWith (s : State) (p : InParcel) :
    List (Nat × Nat) := s.link.parts ++ [(u32At p.body 0, (p.body.drop 8).length)]

/-- The state with p taken and its part in staging. -/
def State.partTaken (s : State) (p : InParcel) : State :=
  (s.takenFor p).partStored (u32At p.body 0) (u32At p.body 4) (p.body.drop 8)

/-- The image in staging once p's part is there. -/
def State.imageWith (s : State) (p : InParcel) : List Byte :=
  (s.setBytes (stagingBase + u32At p.body 0) (p.body.drop 8)).bytes stagingBase (u32At p.body 4)

theorem State.loadPart_bad {s : State} {p : InParcel} (h : s.partBad p) :
    (s.takenFor p).loadPart p = (s.takenFor p).refuse p 0x11 :=
  if_pos (by
    rw [State.partBad, ← State.imgLen_differs] at h
    exact h)

theorem State.loadPart_good {s : State} {p : InParcel} (h : ¬ s.partBad p) : (s.takenFor p).loadPart p =
    if imageWhole (s.partsWith p) (u32At p.body 4) = true then (s.partTaken p).loadImage p (u32At p.body 4)
    else (s.partTaken p).accept p (zeros 4) :=
  if_neg (by
    rw [State.partBad, ← State.imgLen_differs] at h
    exact h)

theorem State.partTaken_loadOutcome (s : State) (p : InParcel) (i : List Byte) :
    (s.partTaken p).loadOutcome i = s.loadOutcome i :=
  (State.partStored_loadOutcome ..).trans (s.takenFor_loadOutcome p i)

theorem State.partTaken_mem (s : State) (p : InParcel) :
    (s.partTaken p).mem = (s.setBytes (stagingBase + u32At p.body 0) (p.body.drop 8)).mem := rfl

theorem State.partTaken_image (s : State) (p : InParcel) :
    (s.partTaken p).bytes stagingBase (u32At p.body 4) = s.imageWith p :=
  State.bytes_of_mem (s.partTaken_mem p) _ _

/-- Staging holds nothing more, and the image is staged (R240). -/
def State.imageStaged (s : State) (i : List Byte) : State :=
  s.unstage.modLink fun l => { l with staged := l.staged ++ [i] }

theorem State.imageStaged_frame (s : State) (i : List Byte) (P : Fld → Prop) : Frame [.link, .mem] P s (s.imageStaged i) :=
  ((State.modLink_frame ..).then (State.modLink_frame ..)).mono (by decide) fun _ h => h

theorem State.imageStaged_staging (s : State) (i : List Byte) : (s.imageStaged i).mem = s.mem ∧
    (s.imageStaged i).link.imgLen = none ∧ (s.imageStaged i).link.parts = [] ∧
    (s.imageStaged i).link.staged = s.link.staged ++ [i] := ⟨rfl, rfl, rfl, rfl⟩

/-- The loader takes the whole image into staging, or refuses it with its outcome (R237, R240). -/
theorem State.loadImage_eq (s : State) (p : InParcel) : (s.partTaken p).loadImage p (u32At p.body 4) =
    if s.loadOutcome (s.imageWith p) = 0 then
      ((s.partTaken p).imageStaged (s.imageWith p)).accept p (loadReport (s.imageWith p))
    else (s.partTaken p).unstage.refuse p (0x10 + s.loadOutcome (s.imageWith p)) := by
  rw [← s.partTaken_image, ← s.partTaken_loadOutcome p]
  rfl

/-- Work on the parts in staging leaves the answer to come alone. -/
theorem Taken.of_link {s u t : State} {p : InParcel} (h : Taken s u p) (hout : t.link.outb = u.link.outb)
    (hin : t.link.inb = u.link.inb) (hstored : t.link.stored = u.link.stored) (hf : ∀ f, t.get f = u.get f)
    (hclock : t.clock = u.clock) : Taken s t p :=
  ⟨hout.trans h.outb, hin.trans h.inb, hstored.trans h.stored, (hf _).trans h.outSeq, (hf _).trans h.exp,
    (State.on_of_get (hf _)).trans h.valid, (hf _).trans h.wmark, by rw [hclock, h.rtc]⟩

/-- A refusal leaves staging alone. -/
theorem State.refuse_staging (s : State) (p : InParcel) (sub : Nat) : (s.refuse p sub).mem = s.mem ∧
    (s.refuse p sub).link.imgLen = s.link.imgLen ∧ (s.refuse p sub).link.parts = s.link.parts ∧
    (s.refuse p sub).link.staged = s.link.staged := ⟨rfl, rfl, rfl, rfl⟩

/-- So does an acceptance. -/
theorem State.accept_staging (s : State) (p : InParcel) (rest : List Byte) : (s.accept p rest).mem = s.mem ∧
    (s.accept p rest).link.imgLen = s.link.imgLen ∧ (s.accept p rest).link.parts = s.link.parts ∧
    (s.accept p rest).link.staged = s.link.staged := ⟨rfl, rfl, rfl, rfl⟩

theorem Taken.refuse {s u : State} {p : InParcel} (h : Taken s u p) (sub : Nat) :
    Answered s (u.refuse p sub) p 0x85 6 sub [] :=
  h.answerFault 6 sub

theorem Taken.imageStaged {s u : State} {p : InParcel} (h : Taken s u p) (i : List Byte) : Taken s (u.imageStaged i) p :=
  h.of_link rfl rfl rfl (fun _ => rfl) rfl

theorem loadReport_length (i : List Byte) : (loadReport i).length = 24 := by
  unfold loadReport
  split <;> simp [leBytes_length]

/-- What LOAD leaves in memory: its part. -/
theorem partTaken_stored {s t : State} {p : InParcel} (hm : t.mem = (s.partTaken p).mem) :
    t.bytes (stagingBase + u32At p.body 0) (p.body.drop 8).length = p.body.drop 8 ∧
    ∀ a, a < stagingBase + u32At p.body 0 ∨ stagingBase + u32At p.body 0 + (p.body.drop 8).length ≤ a → t.byte a = s.byte a := by
  obtain ⟨hin, hout⟩ := (s.takenFor p).partStored_bytes (u32At p.body 0) (u32At p.body 4) (p.body.drop 8)
  exact ⟨(State.bytes_of_mem hm _ _).trans hin, fun a ha => (State.byte_of_mem hm a).trans (hout a ha)⟩

section
variable {s : State} {p : InParcel} (hr : Ready s p 32)
include hr

theorem Taken.of_part : Taken s (s.partTaken p) p := by
  have htaken := Taken.of_ready hr
  rw [hr.takenFor_eq] at htaken
  exact htaken.of_link rfl rfl rfl (fun _ => rfl) rfl

theorem partTaken_frame : Same [.link, .mem] [] (s.seqTake p) (s.partTaken p) := by
  rw [hr.takenFor_eq]
  exact State.partStored_frame ..

variable (ht : p.type = 1)
include ht

theorem parcelLoad_bad (h : s.partBad p) : Refuses .parcelLoad s p 0x11 :=
  parcelLoad_handles.refuses hr (by simp [ht]) (by rw [hr.takenFor_eq, State.loadPart_bad h]) (by decide)

/-- LOAD's work up to ACCEPT is in the link and in staging. -/
theorem parcelLoad_accepts {u : State} {rest : List Byte} (hwork : (s.takenFor p).loadPart p = u.accept p rest)
    (hframe : Same [.link, .mem] [] (s.partTaken p) u) (htaken : Taken s u p) (hn : rest.length ≤ 24) :
    Accepts .parcelLoad s p rest [.mem] [] (u.accept p rest) := by
  obtain ⟨hexec, hans, hsame⟩ := parcelLoad_handles.accepts hr (by simp [ht]) (by rw [hr.takenFor_eq, hwork])
    ((partTaken_frame hr).then hframe) htaken (by omega)
  exact ⟨hexec, hans, hsame.mono (by decide) fun _ h => h⟩

theorem parcelLoad_part (hb : ¬ s.partBad p) (hw : imageWhole (s.partsWith p) (u32At p.body 4) = false) :
    ∃ t, Accepts .parcelLoad s p (zeros 4) [.mem] [] t ∧ t.mem = (s.partTaken p).mem ∧
      t.link.imgLen = some (u32At p.body 4) ∧ t.link.parts = s.partsWith p ∧ t.link.staged = s.link.staged := by
  have hwork := State.loadPart_good hb
  rw [if_neg (by rw [hw]; decide)] at hwork
  exact ⟨_, parcelLoad_accepts hr ht hwork (.refl ..) (Taken.of_part hr) (by decide), rfl, rfl, rfl, rfl⟩

theorem parcelLoad_refused (hb : ¬ s.partBad p) (hw : imageWhole (s.partsWith p) (u32At p.body 4) = true)
    (ho : s.loadOutcome (s.imageWith p) ≠ 0) : ∃ t, exec .parcelLoad s = .next t ∧
      Answered s t p 0x85 6 (0x10 + s.loadOutcome (s.imageWith p)) [] ∧ t.mem = (s.partTaken p).mem ∧
      t.link.imgLen = none ∧ t.link.parts = [] ∧ t.link.staged = s.link.staged := by
  have hwork := State.loadPart_good hb
  rw [if_pos hw, s.loadImage_eq, if_neg ho] at hwork
  have htaken : Taken s (s.partTaken p).unstage p := (Taken.of_part hr).of_link rfl rfl rfl (fun _ => rfl) rfl
  obtain ⟨hmem, hlen, hparts, hstaged⟩ := (s.partTaken p).unstage.refuse_staging p (0x10 + s.loadOutcome (s.imageWith p))
  have hans := htaken.refuse (0x10 + s.loadOutcome (s.imageWith p))
  have hexec := parcelLoad_handles.answered hr (by simp [ht]) (by rw [hr.takenFor_eq, hwork]) hans (by decide)
  exact ⟨_, hexec, hans, hmem, hlen, hparts, hstaged⟩

theorem parcelLoad_whole (hb : ¬ s.partBad p) (hw : imageWhole (s.partsWith p) (u32At p.body 4) = true)
    (ho : s.loadOutcome (s.imageWith p) = 0) : ∃ t, Accepts .parcelLoad s p (loadReport (s.imageWith p)) [.mem] [] t ∧
      t.mem = (s.partTaken p).mem ∧ t.link.imgLen = none ∧ t.link.parts = [] ∧
      t.link.staged = s.link.staged ++ [s.imageWith p] := by
  have hwork := State.loadPart_good hb
  rw [if_pos hw, s.loadImage_eq, if_pos ho] at hwork
  obtain ⟨hmem, hlen, hparts, hstaged⟩ := (s.partTaken p).imageStaged_staging (s.imageWith p)
  obtain ⟨amem, alen, aparts, astaged⟩ := ((s.partTaken p).imageStaged (s.imageWith p)).accept_staging p
    (loadReport (s.imageWith p))
  have hacc := parcelLoad_accepts hr ht hwork (State.imageStaged_frame ..) ((Taken.of_part hr).imageStaged _)
    (Nat.le_of_eq (loadReport_length _))
  exact ⟨_, hacc, amem.trans hmem, alen.trans hlen, aparts.trans hparts, astaged.trans hstaged⟩

end

end Sys2Proof.Machine

namespace Sys2Proof.Machine
open Sys2Proof.Claims

/-! SUPPORT. CUE and SELFCAL (R525), and the statement about LOAD, ACK and the orders that are not durable. -/

/-! ## CUE -/

theorem State.cueAdd_cues (s : State) (c : Cue) :
    (s.cueAdd c).2.cues = if 256 ≤ s.cues.length then s.cues else cueInsert c s.cues := by
  by_cases h : 256 ≤ s.cues.length
  · obtain ⟨-, -, hframe⟩ := s.cueRefused_effect
    rw [State.cueAdd_full c h, if_pos h]
    exact hframe.2 .cues nofun
  · obtain ⟨-, hcues, -⟩ := State.cueAdd_takes c (Nat.lt_of_not_le h)
    rw [hcues, if_neg h]

/-- The host's cue in the table, or refused: its result code, the table, and what it touches. -/
theorem State.cueIssue_core_effect (s : State) (v : Vec) :
    (s.cueIssue (.cc 0) v).1 = (if cueCheck s.part (cueOf v 8) none s.clock.grain = 0
      then if 256 ≤ s.cues.length then 2 else 0 else cueCheck s.part (cueOf v 8) none s.clock.grain) ∧
    (s.cueIssue (.cc 0) v).2.cues = (if cueCheck s.part (cueOf v 8) none s.clock.grain = 0
      then if 256 ≤ s.cues.length then s.cues else cueInsert (cueOf v 8) s.cues else s.cues) ∧
    Same [.cues] (TIME.CUEIDX.IDX :: refusalFields) s (s.cueIssue (.cc 0) v).2 := by
  have hissue : s.cueIssue (.cc 0) v = if cueCheck s.part (cueOf v 8) none s.clock.grain = 0 then s.cueAdd (cueOf v 8)
    else (cueCheck s.part (cueOf v 8) none s.clock.grain, s.cueRefused) := rfl
  obtain ⟨-, -, href⟩ := s.cueRefused_effect
  have href' : Same [.cues] (TIME.CUEIDX.IDX :: refusalFields) s s.cueRefused :=
    href.mono nofun fun _ h => List.mem_cons_of_mem _ h
  rw [hissue]
  split
  · refine ⟨?_, s.cueAdd_cues _, ?_⟩
    · split
      · next h => rw [State.cueAdd_full _ h]
      · next h => exact (State.cueAdd_takes _ (Nat.lt_of_not_le h)).1
    · by_cases h : 256 ≤ s.cues.length
      · rw [State.cueAdd_full _ h]
        exact href'
      · obtain ⟨-, -, hframe⟩ := State.cueAdd_takes (cueOf v 8) (Nat.lt_of_not_le h)
        exact hframe.mono (fun _ h => h) fun f hf => List.mem_cons.2 (.inl (List.mem_singleton.1 hf))
  · exact ⟨rfl, href.2 .cues nofun, href'⟩

/-- The cue that the order carries. -/
def cueVec (p : InParcel) : Vec :=
  vec4 (BitVec.ofNat 32 (u32At p.ord (4 * 0))) (BitVec.ofNat 32 (u32At p.ord (4 * 1))) (BitVec.ofNat 32 (u32At p.ord (4 * 2)))
    (BitVec.ofNat 32 (u32At p.ord (4 * 3)))

theorem State.orderCue_absent {s : State} {p : InParcel} (h : 16 ≤ p.ord.length)
    (hu : s.part.hasUnit (cueOf (cueVec p) 8).unit = false) : s.orderCue p = s.refuse p 4 := by
  unfold State.orderCue
  dsimp only
  rw [if_neg (Nat.not_lt.2 h), if_pos (by rw [Bool.not_eq_true]; exact hu)]

theorem State.orderCue_issued {s : State} {p : InParcel} (h : 16 ≤ p.ord.length)
    (hu : s.part.hasUnit (cueOf (cueVec p) 8).unit = true) : s.orderCue p =
      (s.cueIssue (.cc 0) (cueVec p)).2.answerGood p 0x81 0 (s.cueIssue (.cc 0) (cueVec p)).1 [] := by
  unfold cueVec at hu ⊢
  unfold State.orderCue
  dsimp only
  rw [if_neg (Nat.not_lt.2 h), if_neg (not_not.2 hu)]

section
variable {s : State} {p : InParcel} (hr : Ready s p 32) (ho : OrderOf 4 p)
include hr ho

theorem orderCue_short (h : p.ord.length < 16) : Refuses .orderCue s p 3 :=
  orderCue_handles.refuses hr ho.isOrder (if_pos h) (by decide)

theorem orderCue_absent (h : 16 ≤ p.ord.length) (hu : s.part.hasUnit (cueOf (cueVec p) 8).unit = false) :
    Refuses .orderCue s p 4 :=
  orderCue_handles.refuses hr ho.isOrder (by rw [hr.takenFor_eq, State.orderCue_absent (s := s.takenFor p) h hu]) (by decide)

theorem orderCue_answered (h : 16 ≤ p.ord.length) (hu : s.part.hasUnit (cueOf (cueVec p) 8).unit = true) :
    ∃ t, exec .orderCue s = .next t ∧ Answered s t p 0x81 0 (s.cueIssue (.cc 0) (cueVec p)).1 [] ∧
      t.cues = (s.cueIssue (.cc 0) (cueVec p)).2.cues ∧ t.lanes = s.lanes ∧ t.cores = s.cores ∧ t.clock = s.clock := by
  obtain ⟨hcode, hcues, -⟩ := s.cueIssue_core_effect (cueVec p)
  obtain ⟨hcode', hcues', hframe⟩ := (s.takenFor p).cueIssue_core_effect (cueVec p)
  have hsame : ((s.takenFor p).cueIssue (.cc 0) (cueVec p)).1 = (s.cueIssue (.cc 0) (cueVec p)).1 := hcode'.trans hcode.symm
  let u := ((s.takenFor p).cueIssue (.cc 0) (cueVec p)).2
  have hans : Answered s (u.answerGood p 0x81 0 (s.cueIssue (.cc 0) (cueVec p)).1 []) p 0x81 0
      (s.cueIssue (.cc 0) (cueVec p)).1 [] := by
    have htaken := Taken.of_ready hr
    rw [hr.takenFor_eq] at htaken
    exact (htaken.frame hframe (by decide) (by decide) (by decide)).answerGood (by decide) 0 _ []
  have hwork : (s.seqTake p).orderCue p = u.answerGood p 0x81 0 (s.cueIssue (.cc 0) (cueVec p)).1 [] := by
    rw [hr.takenFor_eq, State.orderCue_issued (s := s.takenFor p) h hu, hsame]
  have hgood := u.answerGood_frame p 0x81 0 (s.cueIssue (.cc 0) (cueVec p)).1 []
  have hall := (hframe.mono (cs' := [.link, .cues]) (by decide) fun _ h => List.mem_append_right answerFlds h).then
    (hgood.mono (by decide) fun _ h => List.mem_append_left _ h)
  exact ⟨_, orderCue_handles.answered hr ho.isOrder hwork hans (by decide), hans,
    (hgood.2 .cues (by decide)).trans (hcues'.trans hcues.symm), hall.2 .lanes (by decide), hall.2 .cores (by decide),
    hall.2 .clock (by decide)⟩

end

/-! ## SELFCAL -/

/-- A refused GO stays shown while a permit ends (R375, R379). -/
theorem State.selfCalAbort_scref (s : State) : s.selfCalAbort.get TRIM.STATUS.SCREF = s.get TRIM.STATUS.SCREF := by
  let other : Fld → Prop := fun f => f ≠ TRIM.STATUS.SCREF
  have hkept {t u : State} (h : Frame [.selfCal, .streams] other t u) :
      u.get TRIM.STATUS.SCREF = t.get TRIM.STATUS.SCREF := h.1 _ (not_not.2 rfl)
  unfold State.selfCalAbort
  split
  · rfl
  · next c _ =>
    extract_lets running s₁
    have habandoned : Frame [.selfCal, .streams] other s s₁ := Frame.forN s 4 fun t q => by
      split
      · exact ((t.rejoinSettle_grows q).frame.mono (by decide) (by simp)).then
          (State.setBit_frame _ _ _ _ _ (by simp [other, TRIM.SCSTAT.ABANDON, TRIM.STATUS.SCREF]))
      · exact .refl ..
    have hstop : (({ s₁ with selfCal := none } : State)).get TRIM.STATUS.SCREF = s₁.get TRIM.STATUS.SCREF := rfl
    have hphase : (s₁.selfCalStop 0).get TRIM.STATUS.SCREF = s₁.get TRIM.STATUS.SCREF :=
      (State.arrive_get_other _ (by decide)).trans ((State.get_set_other _ (by decide) _).trans hstop)
    exact (State.get_set_other _ (by decide) _).trans (hphase.trans (hkept habandoned))

theorem State.permitReleased_scref (s : State) (n : Nat) :
    (s.permitEnd n false).get TRIM.STATUS.SCREF = s.get TRIM.STATUS.SCREF := by
  have hfree : (s.freePermit n).get TRIM.STATUS.SCREF = s.get TRIM.STATUS.SCREF := (s.freePermit_grows n).get_of_unit rfl
  have hlost : ((s.freePermit n).permitLost n).get TRIM.STATUS.SCREF = (s.freePermit n).get TRIM.STATUS.SCREF := by
    unfold State.permitLost
    extract_lets s₁ s₂ has s₃
    have h₁ : s₁.get TRIM.STATUS.SCREF = (s.freePermit n).get TRIM.STATUS.SCREF := by
      simp only [s₁]
      split
      · exact (State.drawStop_grows _).get_of_unit rfl
      · rfl
    have h₂ : s₂.get TRIM.STATUS.SCREF = s₁.get TRIM.STATUS.SCREF := by
      simp only [s₂]
      split
      · split
        · exact s₁.selfCalAbort_scref
        · rfl
      · rfl
    have h₃ : s₃.get TRIM.STATUS.SCREF = s₂.get TRIM.STATUS.SCREF := by
      simp only [s₃]
      split
      · exact (s₂.txStop_grows 4).get_of_unit rfl
      · rfl
    exact ((s₃.glassPermitEnd_grows n).get_of_unit rfl).trans (h₃.trans (h₂.trans h₁))
  exact (State.arrive_get_other _ (by decide)).trans (hlost.trans hfree)

/-- Which slot a request takes hangs on the free slots and the next open value. -/
theorem State.pickPermit_number (s : State) : s.pickPermit.map Prod.fst =
    match s.freePermits with
    | [] => none
    | [n] => some n
    | l => some (l.getD (s.openVal.1 % l.length) 0) := by
  unfold State.pickPermit
  split <;> simp_all

section
variable (s : State) (p : InParcel)

theorem State.takenFor_grantable : (s.takenFor p).grantable = s.grantable := by
  simp only [State.grantable, s.takenFor_get p (f := PERMIT.EFFECT.EFF) rfl, s.takenFor_get p (f := PERMIT.BASE.BASE) rfl]

theorem State.takenFor_fitsNow (cls draw : Nat) : (s.takenFor p).fitsNow cls draw = s.fitsNow cls draw := by
  have hpwr : (s.takenFor p).pwr = s.pwr := rfl
  simp only [State.fitsNow, State.granted, State.draws, State.permitClass, s.takenFor_on p (f := PERMIT.STATUS.FROZEN) rfl, hpwr,
    s.takenFor_grantable p, s.takenFor_get p (f := PERMIT.SLOT.CLASS _) rfl, s.takenFor_get p (f := PERMIT.SLOT.DRAW _) rfl]
  rfl

theorem State.takenFor_pickPermit : (s.takenFor p).pickPermit.map Prod.fst = s.pickPermit.map Prod.fst := by
  have hfree : (s.takenFor p).freePermits = s.freePermits := by
    simp only [State.freePermits, s.takenFor_get p (f := PERMIT.SLOT.STATE _) rfl]
  have hopen : (s.takenFor p).openVal.1 = s.openVal.1 := rfl
  rw [State.pickPermit_number, State.pickPermit_number, hfree, hopen]

end

/-- The code and number of a request hang on the slot it would take. -/
theorem State.permitRequest_code (s : State) (who cls draw hold : Nat) (nowait : Bool) :
    let x := s.permitRequest who cls draw hold nowait
    (x.1, x.2.1) = if draw = 0 ∨ hold = 0 then (6, 0) else if s.grantable < draw then (2, 0)
      else if s.get PERMIT.MAXHOLD.GRAINS < hold then (3, 0)
      else match s.pickPermit.map Prod.fst with
        | none => (5, 0)
        | some n => if s.fitsNow cls draw then (0, n) else if nowait then (4, 0) else (1, n) := by
  unfold State.permitRequest
  split
  · rfl
  · split
    · rfl
    · split
      · rfl
      · split
        · next h => rw [h]; rfl
        · next n t h =>
          rw [h]
          dsimp only [Option.map]
          split
          · rfl
          · split <;> rfl

theorem State.takenFor_permitRequest (s : State) (p : InParcel) (who cls draw hold : Nat) (nowait : Bool) :
    ((s.takenFor p).permitRequest who cls draw hold nowait).1 = (s.permitRequest who cls draw hold nowait).1 ∧
    ((s.takenFor p).permitRequest who cls draw hold nowait).2.1 = (s.permitRequest who cls draw hold nowait).2.1 := by
  have hcode := s.permitRequest_code who cls draw hold nowait
  have hcode' := (s.takenFor p).permitRequest_code who cls draw hold nowait
  rw [s.takenFor_grantable p, s.takenFor_pickPermit p, s.takenFor_fitsNow p,
    s.takenFor_get p (f := PERMIT.MAXHOLD.GRAINS) rfl, ← hcode] at hcode'
  exact Prod.mk.inj hcode'

/-- A request that is granted at once has its slot (R498). -/
theorem State.permitRequest_takes {s : State} {who cls draw hold : Nat} (hwho : who < 2 ^ 8) (hcls : cls < 2 ^ 2)
    (h : (s.permitRequest who cls draw hold true).1 = 0) :
    TakesSlot who cls draw hold 2 (s.permitRequest who cls draw hold true).2.1 s
      (s.permitRequest who cls draw hold true).2.2 := by
  have hpick {n : Nat} {t : State} (h : s.pickPermit = some (n, t)) : Same [.free] [] s t := by
    have hfree : ∃ n < 16, s.get (PERMIT.SLOT.STATE n) = 0 := by
      by_contra hnone
      rw [State.pickPermit_none (by simpa using hnone)] at h
      cases h
    obtain ⟨n', t', h', -, -, hframe⟩ := State.pickPermit_some hfree
    rw [h] at h'
    obtain ⟨-, rfl⟩ := Prod.mk.inj (Option.some.inj h')
    exact hframe
  revert h
  unfold State.permitRequest
  split
  · nofun
  · split
    · nofun
    · split
      · nofun
      · split
        · nofun
        · next n t hp =>
          split
          · exact fun _ => takesSlot_granted hwho hcls (hpick hp)
          · nofun

end Sys2Proof.Machine

namespace Sys2Proof.Machine
open Sys2Proof.Claims

/-! ## ORDER SELFCAL (R375, R525) -/

/-- GO is refused exactly while SELFCAL runs or the supply fails, for the holder of a permit that suffices. -/
theorem TakesSlot.selfCalBad {n : Nat} {s m : State} (h : TakesSlot 8 1 180 2400 2 n s m) :
    m.selfCalBad 8 n = (m.selfCal.isSome || m.on PWR.STATE.SFW) := by
  have hdraw : m.get (PERMIT.SLOT.DRAW n) = 180 := h.draw
  have hhold : m.get (PERMIT.REM.GRAINS n) = 2400 := h.hold
  simp [State.selfCalBad, h.state, h.holder, hdraw, hhold]

/-- The units that SELFCAL's order writes. -/
def selfCalUnits : List Nat := [3, 0x2C]

theorem TakesSlot.within {who cls draw hold state n : Nat} {s m : State} (h : TakesSlot who cls draw hold state n s m) :
    Within [.pwr, .free, .selfCal] selfCalUnits s m :=
  Frame.mono h.frame (by decide) fun f hf => by
    simp only [permitFields, List.mem_cons, List.not_mem_nil, or_false] at hf
    obtain rfl | rfl | rfl | rfl | rfl := hf <;> rfl

/-- SELFCAL is to begin at the next boundary under permit n (R375). -/
def State.selfCalStarted (s : State) (n : Nat) : State :=
  (((({ s with selfCal := some ⟨s.clock.grain + 1, n, 0, List.replicate 38 0, List.replicate 38 0⟩ } : State).set
    TRIM.SCSTAT.PHASE 0).set TRIM.SCSTAT.ABANDON 0).set TRIM.SCSTAT.STRSKIP 0).set TRIM.SCSTAT.MSKIP 0

theorem State.selfCalStarted_within (s : State) (n : Nat) :
    Within [.pwr, .free, .selfCal] selfCalUnits s (s.selfCalStarted n) := by
  have hlist : Within [.pwr, .free, .selfCal] selfCalUnits s
      { s with selfCal := some ⟨s.clock.grain + 1, n, 0, List.replicate 38 0, List.replicate 38 0⟩ } :=
    .of_flds rfl fun c hc => by
      cases c with
      | selfCal => exact absurd (by decide) hc
      | _ => rfl
  exact (((hlist.set rfl).set rfl).set rfl).set rfl

theorem State.selfCalStarted_get (s : State) (n : Nat) {f : Fld}
    (hf : f ∉ [TRIM.SCSTAT.PHASE, TRIM.SCSTAT.ABANDON, TRIM.SCSTAT.STRSKIP, TRIM.SCSTAT.MSKIP]) :
    (s.selfCalStarted n).get f = s.get f := by
  simp only [List.mem_cons, List.not_mem_nil, or_false, not_or] at hf
  obtain ⟨hphase, habandon, hstride, hskip⟩ := hf
  unfold State.selfCalStarted
  rw [State.get_set_other _ (Ne.symm hskip), State.get_set_other _ (Ne.symm hstride), State.get_set_other _ (Ne.symm habandon),
    State.get_set_other _ (Ne.symm hphase)]
  rfl

/-- The request that the order makes. -/
def State.selfCalRequest (s : State) : Nat × Nat × State := s.permitRequest 8 1 180 2400 true

/-- The order's speed slot, written once the permit is there. -/
def State.selfCalSlot (s : State) (p : InParcel) : State := s.selfCalRequest.2.2.set TRIM.SCCTL.SPSLOT (byteAt p.ord 0)

theorem State.orderSelfcal_eq (s : State) (p : InParcel) : s.orderSelfcal p =
    if p.ord.length < 1 then s.refuse p 3
    else if s.selfCalRequest.1 ≠ 0 then s.refuse p 4
    else if ((s.selfCalSlot p).selfCalGo 8 s.selfCalRequest.2.1).selfCal.isSome ∧ ¬ s.selfCal.isSome then
      ((s.selfCalSlot p).selfCalGo 8 s.selfCalRequest.2.1).accept p []
    else (((s.selfCalSlot p).selfCalGo 8 s.selfCalRequest.2.1).permitEnd s.selfCalRequest.2.1 false).refuse p 4 := rfl

/-- GO looks at the permit, at SELFCAL and at the supply. -/
theorem State.selfCalBad_spslot (s : State) (v who n : Nat) :
    (s.set TRIM.SCCTL.SPSLOT v).selfCalBad who n = s.selfCalBad who n := by
  have hget {f : Fld} (hf : f.unit ≠ 0x2C) : (s.set TRIM.SCCTL.SPSLOT v).get f = s.get f :=
    State.get_set_other s (fun e => hf (by rw [← e]; rfl)) v
  have hcal : (s.set TRIM.SCCTL.SPSLOT v).selfCal = s.selfCal := rfl
  have h3 : (3 : Nat) ≠ 0x2C := by decide
  simp only [State.selfCalBad, State.on, hget (f := PERMIT.SLOT.STATE n) h3, hget (f := PERMIT.SLOT.HOLDER n) h3,
    hget (f := PERMIT.SLOT.DRAW n) h3, hget (f := PERMIT.REM.GRAINS n) h3, hget (f := PWR.STATE.SFW) (by decide), hcal]

section
variable {s : State} (p : InParcel) (h : s.selfCalRequest.1 = 0)
include h

theorem State.selfCalSlot_within : Within [.pwr, .free, .selfCal] selfCalUnits s (s.selfCalSlot p) :=
  (State.permitRequest_takes (by decide) (by decide) h).within.set rfl

theorem State.selfCalSlot_bad :
    (s.selfCalSlot p).selfCalBad 8 s.selfCalRequest.2.1 = (s.selfCal.isSome || s.on PWR.STATE.SFW) := by
  have htakes : TakesSlot 8 1 180 2400 2 s.selfCalRequest.2.1 s s.selfCalRequest.2.2 :=
    State.permitRequest_takes (by decide) (by decide) h
  have hcal : s.selfCalRequest.2.2.selfCal = s.selfCal := htakes.frame.2 .selfCal (by decide)
  have hsfw : s.selfCalRequest.2.2.on PWR.STATE.SFW = s.on PWR.STATE.SFW := State.on_of_get (htakes.within.get rfl)
  rw [State.selfCalSlot, State.selfCalBad_spslot, htakes.selfCalBad, hcal, hsfw]

/-- SELFCAL does not run, and the supply is good: GO is taken (R375). -/
theorem State.selfCalGo_taken (hcal : s.selfCal = none) (hsfw : s.on PWR.STATE.SFW = false) :
    (s.selfCalSlot p).selfCalGo 8 s.selfCalRequest.2.1 = (s.selfCalSlot p).selfCalStarted s.selfCalRequest.2.1 :=
  if_neg (by simp [State.selfCalSlot_bad p h, hcal, hsfw])

/-- Otherwise it is refused, and SCREF shows it. -/
theorem State.selfCalGo_refused (hbusy : s.selfCal ≠ none ∨ s.on PWR.STATE.SFW = true) :
    (s.selfCalSlot p).selfCalGo 8 s.selfCalRequest.2.1 = (s.selfCalSlot p).flag TRIM.STATUS.SCREF true :=
  if_pos (by
    rw [State.selfCalSlot_bad p h]
    simpa [Option.isSome_iff_ne_none] using hbusy)

end

/-- Work on other units and sources leaves the answer to come alone. -/
theorem Taken.grows {s u t : State} {p : InParcel} {cs : List Comp} {us srcs : List Nat} (h : Taken s u p)
    (hg : Grows cs us srcs u t) (hus : us.contains 72 = false) (hlink : cs.contains .link = false)
    (hclock : cs.contains .clock = false) : Taken s t p := by
  have hl : t.link = u.link := hg.comp .link hlink
  have hk : t.clock = u.clock := hg.comp .clock hclock
  have hget {f : Fld} (hf : f.unit = 72) : t.get f = u.get f :=
    hg.get_of_unit (apartFrom_of_unit hf (by rw [hus]; rfl))
  exact ⟨by rw [hl, h.outb], by rw [hl, h.inb], by rw [hl, h.stored], (hget rfl).trans h.outSeq, (hget rfl).trans h.exp,
    (State.on_of_get (hget rfl)).trans h.valid, (hget rfl).trans h.wmark, by rw [hk, h.rtc]⟩

/-- GO taken, the order is accepted (R525). -/
theorem State.orderSelfcal_started {s : State} {p : InParcel} (ho : p.ord ≠ []) (h : s.selfCalRequest.1 = 0)
    (hcal : s.selfCal = none) (hsfw : s.on PWR.STATE.SFW = false) :
    s.orderSelfcal p = ((s.selfCalSlot p).selfCalStarted s.selfCalRequest.2.1).accept p [] := by
  have hlen : ¬ p.ord.length < 1 := by simpa [List.length_pos_iff] using List.length_pos_iff.2 ho
  rw [s.orderSelfcal_eq, if_neg hlen, if_neg (not_not.2 h), s.selfCalGo_taken p h hcal hsfw, if_pos ⟨rfl, by simp [hcal]⟩]

/-- GO refused, the permit is given back and the order refused (R525). -/
theorem State.orderSelfcal_busy {s : State} {p : InParcel} (ho : p.ord ≠ []) (h : s.selfCalRequest.1 = 0)
    (hbusy : s.selfCal ≠ none ∨ s.on PWR.STATE.SFW = true) :
    s.orderSelfcal p =
      (((s.selfCalSlot p).flag TRIM.STATUS.SCREF true).permitEnd s.selfCalRequest.2.1 false).refuse p 4 := by
  have hlen : ¬ p.ord.length < 1 := by simpa [List.length_pos_iff] using List.length_pos_iff.2 ho
  have htakes : TakesSlot 8 1 180 2400 2 s.selfCalRequest.2.1 s s.selfCalRequest.2.2 :=
    State.permitRequest_takes (by decide) (by decide) h
  have hcal : ((s.selfCalSlot p).flag TRIM.STATUS.SCREF true).selfCal = s.selfCal := htakes.frame.2 .selfCal (by decide)
  rw [s.orderSelfcal_eq, if_neg hlen, if_neg (not_not.2 h), s.selfCalGo_refused p h hbusy, hcal,
    if_neg fun hc => hc.2 hc.1]

section
variable {s : State} {p : InParcel} (hr : Ready s p 32) (ho : OrderOf 6 p)
include hr ho

theorem orderSelfcal_empty (h : p.ord = []) : Refuses .orderSelfcal s p 3 :=
  orderSelfcal_handles.refuses hr ho.isOrder (if_pos (by simp [h])) (by decide)

variable (hord : p.ord ≠ [])
include hord

theorem orderSelfcal_refused (h : s.selfCalRequest.1 ≠ 0) : Refuses .orderSelfcal s p 4 := by
  have hlen : ¬ p.ord.length < 1 := by simpa [List.length_pos_iff] using List.length_pos_iff.2 hord
  have hcode : (s.takenFor p).selfCalRequest.1 = s.selfCalRequest.1 := (s.takenFor_permitRequest p 8 1 180 2400 true).1
  refine orderSelfcal_handles.refuses hr ho.isOrder ?_ (by decide)
  rw [hr.takenFor_eq, State.orderSelfcal_eq, if_neg hlen, if_pos (by rwa [hcode])]

variable (h : s.selfCalRequest.1 = 0)
include h

theorem orderSelfcal_busy (hbusy : s.selfCal ≠ none ∨ s.on PWR.STATE.SFW = true) : ∃ t, exec .orderSelfcal s = .next t ∧
    Answered s t p 0x85 6 4 [] ∧ t.on TRIM.STATUS.SCREF = true := by
  have h' : (s.takenFor p).selfCalRequest.1 = 0 := (s.takenFor_permitRequest p 8 1 180 2400 true).1.trans h
  have hbusy' : (s.takenFor p).selfCal ≠ none ∨ (s.takenFor p).on PWR.STATE.SFW = true := by
    rwa [s.takenFor_on p (f := PWR.STATE.SFW) rfl]
  have hwork := State.orderSelfcal_busy hord h' hbusy'
  have htaken : Taken s (s.takenFor p) p := hr.takenFor_eq ▸ Taken.of_ready hr
  have hslot : Taken s (((s.takenFor p).selfCalSlot p).flag TRIM.STATUS.SCREF true) p :=
    htaken.within ((State.selfCalSlot_within p h').flag rfl) rfl (by decide) (by decide)
  generalize ((s.takenFor p).selfCalSlot p) = u at hwork hslot
  generalize (s.takenFor p).selfCalRequest.2.1 = n at hwork
  have hend : Taken s ((u.flag TRIM.STATUS.SCREF true).permitEnd n false) p :=
    hslot.grows (State.permitReleased_grows ..) rfl rfl rfl
  have hans := hend.refuse 4
  refine ⟨_, orderSelfcal_handles.answered hr ho.isOrder (by rw [hr.takenFor_eq, hwork]) hans (by decide), hans, ?_⟩
  have hrefuse := ((u.flag TRIM.STATUS.SCREF true).permitEnd n false).answerFault_frame p 6 4
  exact (State.on_of_get ((hrefuse.get (by decide)).trans (State.permitReleased_scref ..))).trans (State.on_flag_same _ _ rfl)

theorem orderSelfcal_started (hcal : s.selfCal = none) (hsfw : s.on PWR.STATE.SFW = false) :
    ∃ t, exec .orderSelfcal s = .next t ∧ Answered s t p 0x81 0 0 [] ∧
      t.selfCal = some ⟨s.clock.grain + 1, s.selfCalRequest.2.1, 0, List.replicate 38 0, List.replicate 38 0⟩ ∧
      t.get TRIM.SCCTL.SPSLOT = byteAt p.ord 0 % 2 ^ TRIM.SCCTL.SPSLOT.w ∧
      t.get (PERMIT.SLOT.STATE s.selfCalRequest.2.1) = 2 ∧ t.get (PERMIT.SLOT.DRAW s.selfCalRequest.2.1) = 180 ∧
      t.lanes = s.lanes ∧ t.clock = s.clock := by
  obtain ⟨hcode, hnum⟩ : (s.takenFor p).selfCalRequest.1 = s.selfCalRequest.1 ∧
    (s.takenFor p).selfCalRequest.2.1 = s.selfCalRequest.2.1 := s.takenFor_permitRequest p 8 1 180 2400 true
  have h' : (s.takenFor p).selfCalRequest.1 = 0 := hcode.trans h
  have htaken : Taken s (s.takenFor p) p := hr.takenFor_eq ▸ Taken.of_ready hr
  have hslot := State.selfCalSlot_within p h'
  have htakes : TakesSlot 8 1 180 2400 2 (s.takenFor p).selfCalRequest.2.1 (s.takenFor p) (s.takenFor p).selfCalRequest.2.2 :=
    State.permitRequest_takes (by decide) (by decide) h'
  have hwork := State.orderSelfcal_started hord h' hcal ((s.takenFor_on p rfl).trans hsfw)
  have hstarted : Taken s (((s.takenFor p).selfCalSlot p).selfCalStarted (s.takenFor p).selfCalRequest.2.1) p :=
    htaken.within (hslot.trans (State.selfCalStarted_within ..)) rfl (by decide) (by decide)
  have hclock : ((s.takenFor p).selfCalSlot p).clock = s.clock := hslot.comp (c := .clock) (by decide)
  have hlanes : ((s.takenFor p).selfCalSlot p).lanes = s.lanes := hslot.comp (c := .lanes) (by decide)
  have hslotget {f : Fld} (hf : f.unit ≠ 0x2C) :
      ((s.takenFor p).selfCalSlot p).get f = (s.takenFor p).selfCalRequest.2.2.get f :=
    State.get_set_other _ (fun e => hf (by rw [← e]; rfl)) _
  have hspslot : ((s.takenFor p).selfCalSlot p).get TRIM.SCCTL.SPSLOT = byteAt p.ord 0 % 2 ^ TRIM.SCCTL.SPSLOT.w :=
    State.get_set_same ..
  have h3 : (3 : Nat) ≠ 0x2C := by decide
  have hstate := (hslotget (f := PERMIT.SLOT.STATE (s.takenFor p).selfCalRequest.2.1) h3).trans htakes.state
  have hdraw := (hslotget (f := PERMIT.SLOT.DRAW (s.takenFor p).selfCalRequest.2.1) h3).trans htakes.draw
  rw [hnum] at hwork hstarted hstate hdraw
  generalize (s.takenFor p).selfCalSlot p = u at *
  have hans : Answered s ((u.selfCalStarted s.selfCalRequest.2.1).accept p []) p 0x81 0 0 [] :=
    hstarted.answerGood (by decide) 0 0 []
  have hgood : Same [.link] answerFlds (u.selfCalStarted s.selfCalRequest.2.1)
      ((u.selfCalStarted s.selfCalRequest.2.1).accept p []) := State.answerGood_frame ..
  have hget {f : Fld} (hf : f ∉ answerFlds ++ [TRIM.SCSTAT.PHASE, TRIM.SCSTAT.ABANDON, TRIM.SCSTAT.STRSKIP,
      TRIM.SCSTAT.MSKIP]) : ((u.selfCalStarted s.selfCalRequest.2.1).accept p []).get f = u.get f :=
    (hgood.get fun hm => hf (List.mem_append_left _ hm)).trans
      (u.selfCalStarted_get _ fun hm => hf (List.mem_append_right _ hm))
  have hpermit {f : Fld} (hf : f.unit = 3) : ((u.selfCalStarted s.selfCalRequest.2.1).accept p []).get f = u.get f :=
    have hunits : ∀ g ∈ answerFlds ++ [TRIM.SCSTAT.PHASE, TRIM.SCSTAT.ABANDON, TRIM.SCSTAT.STRSKIP, TRIM.SCSTAT.MSKIP],
      g.unit ≠ 3 := by decide
    hget fun hm => hunits f hm hf
  have hcal : ((u.selfCalStarted s.selfCalRequest.2.1).accept p []).selfCal =
      some ⟨u.clock.grain + 1, s.selfCalRequest.2.1, 0, List.replicate 38 0, List.replicate 38 0⟩ :=
    hgood.2 .selfCal (by decide)
  refine ⟨_, orderSelfcal_handles.answered hr ho.isOrder (by rw [hr.takenFor_eq, hwork]) hans (by decide), hans, ?_,
    (hget (by decide)).trans hspslot, (hpermit rfl).trans hstate, (hpermit rfl).trans hdraw,
    (show _ = u.lanes from hgood.2 .lanes (by decide)).trans hlanes,
    (show _ = u.clock from hgood.2 .clock (by decide)).trans hclock⟩
  rw [hcal, hclock]

end

end Sys2Proof.Machine

namespace Sys2Proof.Machine
open Sys2Proof.Claims

/-- REMOVE of a control program, by what the removal does (R241, R525). -/
theorem orderRemove_effect {s : State} {p : InParcel} (hr : Ready s p 32) (ho : OrderOf 3 p) (h : p.ord ≠ [])
    (hprog : 0x10 ≤ byteAt p.ord 0 ∧ byteAt p.ord 0 ≤ 0x51) (hsome : (s.prog (byteAt p.ord 0)).isSome = true)
    (hidle : byteAt p.ord 0 < 0x50 → s.cueBusy (byteAt p.ord 0 - 0x10) = false) :
    let n := byteAt p.ord 0
    let c : Fin 2 := Fin.ofNat 2 (n - 0x50)
    let next' := 0x50 ≤ n ∧ (s.core c).newSvc ≠ none ∧ s.serviceLive c = true
    ∃ t, Accepts .orderRemove s p [] [.progs, .cores] [] t ∧ (n < 0x50 → t.cores = s.cores) ∧
      t.progs = (if next' then s.progs else s.progs.filter (fun e => e.1 != n)) ∧
      (0x50 ≤ n → ¬ next' → (t.core c).newSvc = none) := by
  intro n c next'
  obtain ⟨-, hcores, hprogs, hnew⟩ := (s.takenFor p).removeProg_effect n
  have hgood := ((s.takenFor p).removeProg n).answerGood_frame p 0x81 0 0 []
  have hkept : (((s.takenFor p).removeProg n).accept p []).cores = ((s.takenFor p).removeProg n).cores :=
    hgood.2 .cores (by decide)
  refine ⟨_, orderRemove_program hr ho h hprog hsome hidle, fun hlt => hkept.trans (hcores hlt),
    (hgood.2 .progs (by decide)).trans hprogs, fun hge hno => ?_⟩
  rw [State.core, hkept]
  exact hnew hge hno

/-- Settles O51: what each order is refused for, and what it does otherwise, order by order. -/
theorem loadsAndTransientOrders : Obligations.LoadsAndTransientOrders := by
  intro s p hr ord is answers
  refine ⟨orderStart_unknown hr, fun ho => ?_, fun ho => ?_, fun ho => ?_, fun ho => ?_, fun ho => ?_, fun ho => ?_,
    fun ho => ?_, fun ht => ?_, fun ht => ?_⟩
  -- START
  · exact ⟨orderStart_closed hr ho, orderStart_malformed hr ho, orderStart_taken hr ho⟩
  -- INSTALL
  · exact ⟨orderInstall_short hr ho, orderInstall_unstaged hr ho, fun i h hlast hid =>
      ⟨orderInstall_bad hr ho h hlast hid, orderInstall_lane hr ho h hlast hid, fun hbad hi =>
        let ⟨t, hex, hans, hrest⟩ := orderInstall_program hr ho h hlast hid hbad hi
        ⟨t, ⟨hex, hans⟩, hrest⟩⟩⟩
  -- REMOVE
  · refine ⟨orderRemove_empty hr ho, orderRemove_inPair hr ho, orderRemove_lane hr ho, fun h hprog hnone => ?_,
      fun h hprog hlt hbusy => ?_, orderRemove_effect hr ho, orderRemove_unknown hr ho⟩
    · exact orderRemove_refused hr ho h hprog (.inr (State.prog_none hnone))
    · exact orderRemove_refused hr ho h hprog (.inl ⟨hlt, hbusy⟩)
  -- CUE
  · refine ⟨orderCue_short hr ho, orderCue_absent hr ho, fun h hu => ?_⟩
    obtain ⟨t, hex, hans, hrest⟩ := orderCue_answered hr ho h hu
    exact ⟨t, ⟨hex, hans⟩, hrest⟩
  -- SET UTC
  · exact ⟨orderSetUtc_short hr ho, orderSetUtc_taken hr ho⟩
  -- SELFCAL
  · refine ⟨orderSelfcal_empty hr ho, orderSelfcal_refused hr ho, fun hord h hbusy => ?_, fun hord h hfree => ?_⟩
    · obtain ⟨t, hex, hans, href⟩ := orderSelfcal_busy hr ho hord h hbusy
      exact ⟨t, ⟨hex, hans⟩, href⟩
    · obtain ⟨hcal, hsfw⟩ := not_or.1 hfree
      obtain ⟨t, hex, hans, hrest⟩ := orderSelfcal_started hr ho hord h (not_not.1 hcal) (Bool.not_eq_true _ ▸ hsfw)
      exact ⟨t, ⟨hex, hans⟩, hrest⟩
  -- RESET
  · refine ⟨orderReset_wrong hr ho, fun h => ?_⟩
    obtain ⟨t, hex, hans, hrest⟩ := orderReset_decides hr ho h
    exact ⟨t, ⟨hex, hans⟩, hrest⟩
  -- ACK
  · exact ⟨parcelAck_short hr ht, parcelAck_taken hr ht⟩
  -- LOAD
  · refine ⟨parcelLoad_bad hr ht, fun hb hw => ?_, fun hb hw ho _ => ?_, fun hb hw ho => ?_⟩
    · obtain ⟨t, hacc, hmem, hrest⟩ := parcelLoad_part hr ht hb hw
      exact ⟨t, hacc, partTaken_stored hmem, hrest⟩
    · obtain ⟨t, hex, hans, hmem, hrest⟩ := parcelLoad_refused hr ht hb hw ho
      exact ⟨t, ⟨hex, hans⟩, partTaken_stored hmem, hrest⟩
    · obtain ⟨t, hacc, hmem, hrest⟩ := parcelLoad_whole hr ht hb hw ho
      exact ⟨t, hacc, partTaken_stored hmem, hrest⟩

end Sys2Proof.Machine

namespace Sys2Proof.Machine

/-! SUPPORT. A write of a register, a booking and a cue insertion let no time pass: the clock is as it was, but for the
length of the grain where the chain is switched off. -/

/-- The clock after a write that a unit may have of its own. -/
def State.clockOf (s : State) (o : Option State) : Clock := (o.getD s).clock

@[simp] theorem State.clockOf_none (s : State) : s.clockOf none = s.clock := rfl
@[simp] theorem State.clockOf_some (s t : State) : s.clockOf (some t) = t.clock := rfl

@[simp] theorem State.clockOf_ite (s : State) {c : Prop} [Decidable c] (a b : Option State) :
    s.clockOf (if c then a else b) = if c then s.clockOf a else s.clockOf b := apply_ite ..

@[simp] theorem State.clock_ite {c : Prop} [Decidable c] (s t : State) :
    (if c then s else t).clock = if c then s.clock else t.clock := apply_ite State.clock ..

theorem State.clock_foldl {α : Type} {f : State → α → State} (l : List α) (s : State) (h : ∀ t x, (f t x).clock = t.clock) :
    (l.foldl f s).clock = s.clock := by
  induction l generalizing s with
  | nil => rfl
  | cons x l ih => exact (ih _).trans (h s x)

theorem State.clock_forN {f : Nat → State → State} (s : State) (n : Nat) (h : ∀ t i, (f i t).clock = t.clock) :
    (s.forN n f).clock = s.clock := State.clock_foldl _ _ fun t i => h t i

/-! ## Registers, sources and faults -/
@[simp] theorem State.bump_clock (s : State) (count sat : Fld) :
    (s.bump count sat).clock = s.clock := by simp [State.bump]
@[simp] theorem State.countArrival_clock (s : State) (b : Nat) :
    (s.countArrival b).clock = s.clock := by simp [State.countArrival]
@[simp] theorem State.arrive_clock (s : State) (src : Nat) : (s.arrive src).clock = s.clock := by simp [State.arrive]
@[simp] theorem State.raise_clock (s : State) (f : Fld) (src : Nat) :
    (s.raise f src).clock = s.clock := by simp [State.raise]
@[simp] theorem State.recordFault_clock (s : State) (who code unit pc : Nat) :
    (s.recordFault who code unit pc).clock = s.clock := by simp [State.recordFault]
@[simp] theorem State.supervisorFault_clock (s : State) (code unit : Nat) :
    (s.supervisorFault code unit).clock = s.clock := by simp [State.supervisorFault]

/-! ## Cues and register cells -/
@[simp] theorem State.cueRemove_clock (s : State) (p : Cue → Bool) : (s.cueRemove p).clock = s.clock := rfl
@[simp] theorem State.writeCell_clock (s : State) (v : Nat) (c : Cell) : (s.writeCell v c).clock = s.clock := by
  unfold State.writeCell
  split <;> simp
@[simp] theorem State.writeCells_clock (s : State) (cs : List Cell) (v : Nat) :
    (s.writeCells cs v).clock = s.clock := State.clock_foldl _ _ fun t c => t.writeCell_clock v c
@[simp] theorem State.timeWrite_clock (s : State) (idx v : Nat) :
    s.clockOf (timeWrite s idx v) = s.clock := by simp [timeWrite]

/-! ## The chain and TIME -/
@[simp] theorem State.chainGo_clock (s : State) (st : Nat) : (s.chainGo st).clock = s.clock := by simp [State.chainGo]
@[simp] theorem State.ownLpos_clock (s : State) : (s.ownLpos).clock = s.clock := by simp [State.ownLpos]
@[simp] theorem State.modChain_clock (s : State) (f : Chain → Chain) : (s.modChain f).clock = s.clock := rfl
@[simp] theorem State.listen_clock (s : State) : (s.listen).clock = s.clock := by simp [State.listen]
@[simp] theorem State.follow_clock (s : State) : (s.follow).clock = s.clock := by simp [State.follow]
@[simp] theorem State.handoverGo_clock (s : State) (target : Nat) :
    (s.handoverGo target).clock = s.clock := by simp [State.handoverGo]

/-! ## Captures, SELFCAL and the modem's frames -/
@[simp] theorem State.budget_clock (s : State) : (s.budget).clock = s.clock := by simp [State.budget]
@[simp] theorem State.drawStop_clock (s : State) : (s.drawStop).clock = s.clock := by simp [State.drawStop]
@[simp] theorem State.settleFor_clock (s : State) (k g n : Nat) : (s.settleFor k g n).clock = s.clock := rfl
@[simp] theorem State.rejoinSettle_clock (s : State) (q : Nat) :
    (s.rejoinSettle q).clock = s.clock := (s.rejoinSettle_grows q).comp .clock rfl
@[simp] theorem State.selfCalStop_clock (s : State) (phase : Nat) :
    (s.selfCalStop phase).clock = s.clock := by simp [State.selfCalStop]
@[simp] theorem State.selfCalAbort_clock (s : State) :
    (s.selfCalAbort).clock = s.clock := s.selfCalAbort_grows.comp .clock rfl
@[simp] theorem State.modModem_clock (s : State) (f : ModemSt → ModemSt) : (s.modModem f).clock = s.clock := rfl
@[simp] theorem State.showPermit_clock (s : State) (n : Option Nat) : (s.showPermit n).clock = s.clock := by
  unfold State.showPermit
  split <;> simp
@[simp] theorem State.txDone_clock (s : State) (result : Nat) :
    (s.txDone result).clock = s.clock := by simp [State.txDone]
@[simp] theorem State.txStop_clock (s : State) (result : Nat) :
    (s.txStop result).clock = s.clock := (s.txStop_grows result).comp .clock rfl

/-! ## The journal's staging and the glass -/
@[simp] theorem State.stageAt_clock (s : State) (type grain : Nat) (reconstructed : Bool) (body : List Byte) :
    (s.stageAt type grain reconstructed body).clock = s.clock := rfl
@[simp] theorem State.stage_clock (s : State) (type : Nat) (body : List Byte) : (s.stage type body).clock = s.clock := rfl
@[simp] theorem State.stageEvent_clock (s : State) (unit kind : Nat) (data : List Byte) :
    (s.stageEvent unit kind data).clock = s.clock := rfl
@[simp] theorem State.compPend_clock (s : State) : (s.compPend).clock = s.clock := rfl
@[simp] theorem State.putArea_clock (s : State) (off len : Nat) (what : List Nat) :
    (s.putArea off len what).clock = s.clock := rfl
@[simp] theorem State.mirrorGlass_clock (s : State) : (s.mirrorGlass).clock = s.clock := rfl
@[simp] theorem State.modGlass_clock (s : State) (f : GlassSt → GlassSt) : (s.modGlass f).clock = s.clock := rfl

/-! ## Permits -/
@[simp] theorem State.modPwr_clock (s : State) (f : PowerSt → PowerSt) : (s.modPwr f).clock = s.clock := rfl
@[simp] theorem State.grant_clock (s : State) (n : Nat) : (s.grant n).clock = s.clock := rfl
@[simp] theorem State.fillPermit_clock (s : State) (n who cls draw hold : Nat) :
    (s.fillPermit n who cls draw hold).clock = s.clock := rfl
@[simp] theorem State.permitRequest_clock (s : State) (who cls draw hold : Nat) (nowait : Bool) :
    (s.permitRequest who cls draw hold nowait).2.2.clock = s.clock :=
      (s.permitRequest_grows who cls draw hold nowait).comp .clock rfl
@[simp] theorem State.stageStart_clock (s : State) (region mask : Nat) (req : GlassReq) :
    (s.stageStart region mask req).clock = s.clock := rfl
@[simp] theorem State.nextUpdate_clock (s : State) : (s.nextUpdate).clock = s.clock := s.nextUpdate_grows.comp .clock rfl
@[simp] theorem State.updDone_clock (s : State) (u : GlassUpd) (res : Nat) :
    (s.updDone u res).clock = s.clock := by simp [State.updDone]
@[simp] theorem State.updStop_clock (s : State) (res : Nat) (at' : GlassUpd → Nat) :
    (s.updStop res at').clock = s.clock := by
  unfold State.updStop
  split <;> simp
@[simp] theorem State.glassPermitEnd_clock (s : State) (n : Nat) : (s.glassPermitEnd n).clock = s.clock := by
  unfold State.glassPermitEnd
  split <;> simp
@[simp] theorem State.permitLost_clock (s : State) (n : Nat) :
    (s.permitLost n).clock = s.clock := (s.permitLost_grows n).comp .clock rfl
@[simp] theorem State.freePermit_clock (s : State) (n : Nat) : (s.freePermit n).clock = s.clock := rfl
@[simp] theorem State.permitEnd_clock (s : State) (n : Nat) (counted : Bool) :
    (s.permitEnd n counted).clock = s.clock := by simp [State.permitEnd]
@[simp] theorem State.permitRelease_clock (s : State) (who n : Nat) :
    (s.permitRelease who n).clock = s.clock := by simp [State.permitRelease]
@[simp] theorem State.permitWrite_clock (s : State) (who idx v : Nat) :
    s.clockOf (permitWrite s who idx v) = s.clock := by simp [permitWrite]

/-! ## Interrupts -/
@[simp] theorem State.withdraw_clock (s : State) (p : State → Nat → Nat → Present → Bool) :
    (s.withdraw p).clock = s.clock := by
  let core (s : State) (c : Fin 2) : State :=
    let s := match (s.core c).normal with
      | some q => if p s c c q then (s.set (IRQ.CCSTAT.PRES c) 0xFF).setCore c { s.core c with normal := none } else s
      | none => s
    match (s.core c).fast with
    | some q => if p s c c q then s.setCore c { s.core c with fast := none } else s
    | none => s
  have hcore (t : State) (c : Fin 2) : (core t c).clock = t.clock := by
    simp only [core]
    split <;> split <;> simp
  exact (State.clock_foldl _ _ fun t q => by split <;> rfl).trans ((hcore _ 1).trans (hcore s 0))
@[simp] theorem State.maskWithdraw_clock (s : State) : (s.maskWithdraw).clock = s.clock := by simp [State.maskWithdraw]
@[simp] theorem State.clearWithdraw_clock (s : State) : (s.clearWithdraw).clock = s.clock := by simp [State.clearWithdraw]
@[simp] theorem State.arrivePrivate_clock (s : State) (c src : Nat) :
    (s.arrivePrivate c src).clock = s.clock := by simp [State.arrivePrivate]
@[simp] theorem State.swset_clock (s : State) (c v : Nat) :
    (s.swset c v).clock = s.clock := State.clock_forN _ _ fun t i => by
  split
  · exact t.arrivePrivate_clock c i
  · rfl
@[simp] theorem State.timerWrite_clock (s : State) (c v : Nat) : (s.timerWrite c v).clock = s.clock := rfl
@[simp] theorem State.irqWrite_clock (s : State) (b idx v : Nat) :
    s.clockOf (irqWrite s b idx v) = s.clock := by simp [irqWrite]

/-! ## Quads and filters -/
@[simp] theorem State.modeWrite_clock (s : State) (q : Fin 4) (v : Nat) : (s.modeWrite q v).2.clock = s.clock := by
  unfold State.modeWrite
  split <;> simp
@[simp] theorem State.setQuad_clock (s : State) (q : Fin 4) (x : Quad) : (s.setQuad q x).clock = s.clock := rfl
@[simp] theorem State.modQuad_clock (s : State) (q : Fin 4) (f : Quad → Quad) : (s.modQuad q f).clock = s.clock := rfl
@[simp] theorem State.owStart_clock (s : State) (q : Fin 4) : (s.owStart q).2.clock = s.clock := by
  unfold State.owStart
  split
  · rfl
  · exact (State.clock_forN _ _ fun t k => by split <;> rfl).trans (State.modQuad_clock ..)
@[simp] theorem State.quadWrite_clock (s : State) (q : Fin 4) (idx v : Nat) :
    s.clockOf (quadWrite s q idx v) = s.clock := by simp [quadWrite]
@[simp] theorem State.bitinWrite_clock (s : State) (idx v : Nat) :
    s.clockOf (bitinWrite s idx v) = s.clock := by simp [bitinWrite]
@[simp] theorem State.swapOrder_clock (s : State) (v : Nat) : (s.swapOrder v).2.clock = s.clock := by
  unfold State.swapOrder
  extract_lets mask
  split
  · exact State.raise_clock ..
  · rfl
@[simp] theorem State.tapNext_clock (s : State) : (s.tapNext).clock = s.clock := rfl
@[simp] theorem State.coefWrite_clock (s : State) (v : Nat) : (s.coefWrite v).clock = s.clock := by simp [State.coefWrite]
@[simp] theorem State.cfgWrite_clock (s : State) (k v : Nat) :
    (s.cfgWrite k v).clock = s.clock := by simp [State.cfgWrite]
@[simp] theorem State.bankWrite_clock (s : State) (unit idx k : Nat) (b : Bool) (v : Nat) :
    (s.bankWrite unit idx k b v).clock = s.clock := by simp [State.bankWrite]
@[simp] theorem State.filtWrite_clock (s : State) (idx v : Nat) : s.clockOf (filtWrite s idx v) = s.clock := by
  unfold filtWrite
  cases bankReg 0x18 idx <;> simp
@[simp] theorem State.rsmpWrite_clock (s : State) (idx v : Nat) : s.clockOf (rsmpWrite s idx v) = s.clock := by
  unfold rsmpWrite
  cases bankReg 0x19 idx <;> simp

/-! ## Slots, tariff and pulses -/
@[simp] theorem State.setSlot_clock (s : State) (n : Fin 72) (x : Slot) : (s.setSlot n x).clock = s.clock := rfl
@[simp] theorem State.bindWrite_clock (s : State) (n : Fin 72) (idx v : Nat) :
    (s.bindWrite n idx v).clock = s.clock := by simp [State.bindWrite]
@[simp] theorem State.setTariff_clock (s : State) (t cause : Nat) :
    (s.setTariff t cause).clock = s.clock := by simp [State.setTariff]
@[simp] theorem State.nrgWrite_clock (s : State) (b idx v : Nat) :
    s.clockOf (nrgWrite s b idx v) = s.clock := by simp [nrgWrite]
@[simp] theorem State.pulseSource_clock (s : State) (n : Fin 4) (isSrc : Bool) (v : Nat) :
    (s.pulseSource n isSrc v).clock = s.clock := by simp [State.pulseSource]
@[simp] theorem State.watchDrive_clock (s : State) : (s.watchDrive).clock = s.clock := by simp [State.watchDrive]
@[simp] theorem State.watchValue_clock (s : State) (v : Nat) :
    (s.watchValue v).clock = s.clock := by simp [State.watchValue]
@[simp] theorem State.pulseWrite_clock (s : State) (idx v : Nat) : s.clockOf (pulseWrite s idx v) = s.clock := by
  unfold pulseWrite
  split
  · simp
  · split <;> simp

/-! ## Power quality and captures -/
@[simp] theorem State.udinWrite_clock (s : State) (p v : Nat) :
    (s.udinWrite p v).clock = s.clock := by simp [State.udinWrite]
@[simp] theorem State.thrWrite_clock (s : State) (i v : Nat) :
    (s.thrWrite i v).clock = s.clock := by simp [State.thrWrite]
@[simp] theorem State.pqWrite_clock (s : State) (idx v : Nat) : s.clockOf (pqWrite s idx v) = s.clock := by simp [pqWrite]
@[simp] theorem State.disarm_clock (s : State) : (s.disarm).clock = s.clock := by simp [State.disarm]
@[simp] theorem State.armed_clock (s : State) : (s.arm).clock = s.clock := by simp [State.arm]
@[simp] theorem State.trigger_clock (s : State) (b : Nat) : (s.trigger b).clock = s.clock := by simp [State.trigger]
@[simp] theorem State.drawGo_clock (s : State) (who v : Nat) : (s.drawGo who v).clock = s.clock := by simp [State.drawGo]
@[simp] theorem State.captWrite_clock (s : State) (who idx v : Nat) :
    s.clockOf (captWrite s who idx v) = s.clock := by simp [captWrite]

/-! ## The journal and the port -/
@[simp] theorem State.jrnlStatus_clock (s : State) : (s.jrnlStatus).clock = s.clock := by simp [State.jrnlStatus]
@[simp] theorem State.stageData_clock (s : State) (v : Word) :
    (s.stageData v).clock = s.clock := by simp [State.stageData]
@[simp] theorem State.stageGo_clock (s : State) : (s.stageGo).clock = s.clock := by simp [State.stageGo]
@[simp] theorem State.jrnlWrite_clock (s : State) (idx v : Nat) :
    s.clockOf (jrnlWrite s idx v) = s.clock := by simp [jrnlWrite]
@[simp] theorem State.portRefused_clock (s : State) : (s.portRefused).clock = s.clock := by simp [State.portRefused]
@[simp] theorem State.portClose_clock (s : State) : (s.portClose).clock = s.clock := rfl
@[simp] theorem State.portAbort_clock (s : State) : (s.portAbort).clock = s.clock := rfl
@[simp] theorem State.portCommit_clock (s : State) : (s.portCommit).clock = s.clock := by simp [State.portCommit]
@[simp] theorem State.portOpen_clock (s : State) : (s.portOpen).clock = s.clock := rfl
@[simp] theorem State.portCtl_clock (s : State) (v : Nat) : (s.portCtl v).clock = s.clock := by simp [State.portCtl]
@[simp] theorem State.portData_clock (s : State) (v : Word) : (s.portData v).clock = s.clock := by simp [State.portData]
@[simp] theorem State.cairnFetch_clock (s : State) : (s.cairnFetch).clock = s.clock := rfl
@[simp] theorem State.cairnAddr_clock (s : State) (v : Nat) : (s.cairnAddr v).clock = s.clock := rfl
@[simp] theorem State.cairnWrite_clock (s : State) (idx v : Nat) :
    s.clockOf (cairnWrite s idx v) = s.clock := by simp [cairnWrite]

/-! ## Trim and the auxiliary converter -/
@[simp] theorem State.selfCalGo_clock (s : State) (who permit : Nat) :
    (s.selfCalGo who permit).clock = s.clock := by simp [State.selfCalGo]
@[simp] theorem State.showFrozen_clock (s : State) : (s.showFrozen).clock = s.clock := rfl
@[simp] theorem State.driftReset_clock (s : State) : (s.driftReset).clock = s.clock := by
  unfold State.driftReset
  extract_lets t
  have hcores : t.clock = s.clock := State.clock_forN s 38 fun u n => by simp only [State.set_clock]
  exact (State.clock_forN t 4 fun u q => by simp only [State.set_clock]).trans hcores
@[simp] theorem State.shFollow_clock (s : State) : (s.shFollow).clock = s.clock := by simp [State.shFollow]
@[simp] theorem State.shWrite_clock (s : State) (v : Nat) : (s.shWrite v).clock = s.clock := by simp [State.shWrite]
@[simp] theorem State.trimWrite_clock (s : State) (who idx v : Nat) :
    s.clockOf (trimWrite s who idx v) = s.clock := by simp [trimWrite]
@[simp] theorem State.modAux_clock (s : State) (f : AuxSt → AuxSt) : (s.modAux f).clock = s.clock := rfl
@[simp] theorem State.auxCtrl_clock (s : State) (v : Nat) : (s.auxCtrl v).clock = s.clock := by simp [State.auxCtrl]
@[simp] theorem State.auxCh_clock (s : State) (v : Nat) : (s.auxCh v).clock = s.clock := by simp [State.auxCh]
@[simp] theorem State.auxStop_clock (s : State) : (s.auxStop).clock = s.clock := by simp [State.auxStop]
@[simp] theorem State.auxCal_clock (s : State) : (s.auxCal).clock = s.clock := by simp [State.auxCal]
@[simp] theorem State.convStart_clock (s : State) (at' : Nat) : (s.convStart at').clock = s.clock := rfl
@[simp] theorem State.auxResume_clock (s : State) (at' : Nat) :
    (s.auxResume at').clock = s.clock := by simp [State.auxResume]
@[simp] theorem State.resultStart_clock (s : State) (at' : Nat) :
    (s.resultStart at').clock = s.clock := by simp [State.resultStart]
@[simp] theorem State.auxGo_clock (s : State) : (s.auxGo).clock = s.clock := by simp [State.auxGo]
@[simp] theorem State.auxWrite_clock (s : State) (idx v : Nat) :
    s.clockOf (auxWrite s idx v) = s.clock := by simp [auxWrite]

/-! ## The modem's registers -/
@[simp] theorem State.txPermit_clock (s : State) (f : TxFrame) (nowait : Bool) :
    (s.txPermit f nowait).2.2.clock = s.clock := by simp [State.txPermit]
@[simp] theorem State.attempt_clock (s : State) (f : TxFrame) (from' : Nat) :
    (s.attempt f from').clock = s.clock := by simp [State.attempt]
@[simp] theorem State.txGo_clock (s : State) : (s.txGo).2.clock = s.clock := by
  unfold State.txGo
  dsimp only
  split
  · rfl
  · split
    · rfl
    · exact State.attempt_clock ..
@[simp] theorem State.txgoWrite_clock (s : State) (v : Nat) : (s.txgoWrite v).2.clock = s.clock := by
  unfold State.txgoWrite
  split
  · split <;> simp
  · split <;> simp
@[simp] theorem State.modemWrite_clock (s : State) (idx v : Nat) :
    s.clockOf (modemWrite s idx v) = s.clock := by simp [modemWrite]

/-! ## The glass registers -/
@[simp] theorem State.glassCtrl_clock (s : State) (v : Nat) : (s.glassCtrl v).clock = s.clock := by simp [State.glassCtrl]
@[simp] theorem State.lcdcfgWrite_clock (s : State) (v : Nat) :
    (s.lcdcfgWrite v).clock = s.clock := by simp [State.lcdcfgWrite]
@[simp] theorem State.ntcWrite_clock (s : State) (v : Nat) : (s.ntcWrite v).clock = s.clock := by simp [State.ntcWrite]
@[simp] theorem State.frozenWrite_clock (s : State) (idx v : Nat) :
    (s.frozenWrite idx v).clock = s.clock := by simp [State.frozenWrite]
@[simp] theorem State.maskWrite_clock (s : State) (idx v : Nat) :
    (s.maskWrite idx v).clock = s.clock := by simp [State.maskWrite]
@[simp] theorem State.glassGo_clock (s : State) (who v : Nat) : (s.glassGo who v).2.clock = s.clock := by
  unfold State.glassGo
  dsimp only
  split
  · rfl
  · split
    · rfl
    · simp
@[simp] theorem State.phaseNext_clock (s : State) : (s.phaseNext).clock = s.clock := rfl
@[simp] theorem State.tableWrite_clock (s : State) (v : Nat) : (s.tableWrite v).clock = s.clock := rfl
@[simp] theorem State.tableCheck_clock (s : State) (v : Nat) :
    (s.tableCheck v).clock = s.clock := by simp [State.tableCheck]
@[simp] theorem State.crkWrite_clock (s : State) (v : Nat) : (s.crkWrite v).clock = s.clock := by simp [State.crkWrite]
@[simp] theorem State.glassWrite_clock (s : State) (who idx v : Nat) :
    s.clockOf (glassWrite s who idx v) = s.clock := by simp [glassWrite]

/-! ## Tamper and access -/
@[simp] theorem State.modTamp_clock (s : State) (f : Tamp → Tamp) : (s.modTamp f).clock = s.clock := rfl
@[simp] theorem State.tampTest_clock (s : State) (v : Nat) : (s.tampTest v).clock = s.clock := rfl
@[simp] theorem State.tampWrite_clock (s : State) (b idx v : Nat) :
    s.clockOf (tampWrite s b idx v) = s.clock := by simp [tampWrite]
@[simp] theorem State.setLevel_clock (s : State) (v : Nat) : (s.setLevel v).clock = s.clock := by simp [State.setLevel]
@[simp] theorem State.endSession_clock (s : State) : (s.endSession).clock = s.clock := by simp [State.endSession]
@[simp] theorem State.accessWrite_clock (s : State) (idx v : Nat) :
    s.clockOf (accessWrite s idx v) = s.clock := by simp [accessWrite]

/-! ## Leases and resets -/
@[simp] theorem State.modLease_clock (s : State) (x : Fin 12) (f : LeaseSt → LeaseSt) :
    (s.modLease x f).clock = s.clock := rfl
@[simp] theorem State.glassRollback_clock (s : State) : (s.glassRollback).clock = s.clock := by simp [State.glassRollback]
@[simp] theorem State.leaseUndo_clock (s : State) (x : Fin 12) : (s.leaseUndo x).clock = s.clock := by
  unfold State.leaseUndo
  split <;> simp
@[simp] theorem State.rollback_clock (s : State) (x : Fin 12) : (s.rollback x).clock = s.clock := by simp [State.rollback]
@[simp] theorem State.leaseRevoke_clock (s : State) (x : Fin 12) (reason : Nat) :
    (s.leaseRevoke x reason).clock = s.clock := by simp [State.leaseRevoke]
@[simp] theorem State.leaseGive_clock (s : State) (x : Fin 12) (who : Nat) : (s.leaseGive x who).clock = s.clock := rfl
@[simp] theorem State.supervisorTake_clock (s : State) (x : Fin 12) :
    (s.supervisorTake x).clock = s.clock := by simp [State.supervisorTake]
@[simp] theorem State.preempt_clock (s : State) : (s.preempt).clock = s.clock := by simp [State.preempt]
@[simp] theorem State.belayDue_clock (s : State) (k : BelayKind) :
    (s.belayDue k).clock = s.clock := by simp [State.belayDue]
@[simp] theorem State.decideReset_clock (s : State) (kind : Nat) :
    (s.decideReset kind).clock = s.clock := by simp [State.decideReset]
@[simp] theorem State.wdConfig_clock (s : State) (c : Fin 2) (v : Nat) : (s.wdConfig c v).clock = s.clock := rfl
@[simp] theorem State.wdServe_clock (s : State) (c : Fin 2) : (s.wdServe c).clock = s.clock := rfl
@[simp] theorem State.rstWrite_clock (s : State) (p : Proc) (idx v : Nat) : s.clockOf (rstWrite s p idx v) = s.clock := by
  unfold rstWrite
  split <;> simp

/-! ## The host link -/
@[simp] theorem State.modLink_clock (s : State) (f : LinkSt → LinkSt) : (s.modLink f).clock = s.clock := rfl
@[simp] theorem State.outLen_clock (s : State) (v : Nat) : (s.outLen v).clock = s.clock := rfl
@[simp] theorem State.outData_clock (s : State) (v : Nat) : (s.outData v).clock = s.clock := rfl
@[simp] theorem State.outSeqNext_clock (s : State) : (s.outSeqNext).clock = s.clock := rfl
@[simp] theorem State.send_clock (s : State) (type flags : Nat) (body : List Byte) :
    (s.send type flags body).clock = s.clock := rfl
@[simp] theorem State.accepted_clock (s : State) (seq type : Nat) (body : List Byte) :
    (s.accepted seq type body).clock = s.clock := rfl
@[simp] theorem State.outGo_clock (s : State) (v : Nat) : (s.outGo v).clock = s.clock := by
  unfold State.outGo
  split
  · rfl
  · split
    · simp
    · dsimp only
      split
      · split
        · split <;> simp
        · simp
      · simp
@[simp] theorem State.hostWrite_clock (s : State) (idx v : Nat) :
    s.clockOf (hostWrite s idx v) = s.clock := by simp [hostWrite]

/-! ## Cue insertions and bookings -/
@[simp] theorem State.cueRefused_clock (s : State) : (s.cueRefused).clock = s.clock := by simp [State.cueRefused]
@[simp] theorem State.cueAdd_clock (s : State) (c : Cue) : (s.cueAdd c).2.clock = s.clock := by
  unfold State.cueAdd
  split <;> simp
@[simp] theorem State.closeGap_clock (s : State) (grain : Nat) : (s.closeGap grain).clock = s.clock := by
  unfold State.closeGap
  split <;> simp
@[simp] theorem State.wholeLen_clock (s : State) : (s.wholeLen).2.clock = s.clock := by
  unfold State.wholeLen
  split <;> simp
@[simp] theorem State.stageWrap_clock (s : State) (slot sub dir : Nat) : (s.stageWrap slot sub dir).clock = s.clock := rfl
@[simp] theorem State.slotAdd_clock (s : State) (n : Fin 72) (i : Nat) (v : Int) : (s.slotAdd n i v).clock = s.clock := by
  unfold State.slotAdd
  dsimp only
  split <;> simp
@[simp] theorem State.pulseRequest_clock (s : State) (n : Fin 4) (k : Nat) : (s.pulseRequest n k).clock = s.clock := by
  unfold State.pulseRequest
  dsimp only
  split
  · rfl
  · split
    · split <;> simp
    · split <;> simp
@[simp] theorem State.pulseTake_clock (s : State) (n : Fin 4) (slot : Nat) (signed : Bool) (sub : Nat) (v : Int) :
    (s.pulseTake n slot signed sub v).clock = s.clock := by simp [State.pulseTake]
@[simp] theorem State.pulseBooked_clock (s : State) (slot : Nat) (signed : Bool) (sub : Nat) (v : Int) :
    (s.pulseBooked slot signed sub v).clock = s.clock :=
      State.clock_foldl _ _ fun t n => t.pulseTake_clock n slot signed sub v
@[simp] theorem State.post_clock (s : State) (n : Fin 72) (v : Int) : (s.post n v).clock = s.clock := by simp [State.post]
@[simp] theorem State.slotFlags_clock (s : State) (n : Nat) (mrk inv unver : Bool) :
    (s.slotFlags n mrk inv unver).clock = s.clock := by simp [State.slotFlags]
@[simp] theorem State.book_clock (s : State) (n : Fin 64) (owner : Nat) (inc : Int) (mrk inv unver : Bool) :
    (s.book n owner inc mrk inv unver).clock = s.clock := by
  unfold State.book
  split
  · simp
  · dsimp only
    split <;> simp

/-! ## A write over the bus and what the tail of a grain applies -/

/-- The place in time: the grain and the phase within it. -/
def Clock.time (c : Clock) : Nat × Nat := (c.grain, c.phase)

/-- Switching the chain off makes the grain a plain one, and nothing else. -/
theorem State.chainCtrl_time (s : State) (v : Nat) : (s.chainCtrl v).clock.time = s.clock.time := by
  have hcells : (s.writeCells ((cellsOf regsChain 2 0 0).getD []) v).clock = s.clock := s.writeCells_clock ..
  unfold State.chainCtrl
  extract_lets was role s₁ t
  have hoff : ({ t with chain := { Chain.zero with chvdd := s₁.chain.chvdd }
                        clock := { t.clock with glen := 6400 } } : State).clock.time = s₁.clock.time := by
    have ht : t.clock = s₁.clock := by simp [t]
    simp [Clock.time, ht]
  rw [← hcells]
  split
  · split
    · exact hoff
    · rfl
  · split
    · rw [State.ownLpos_clock]
    · split
      · rw [State.listen_clock]
      · rw [State.follow_clock]

theorem State.chainWrite_time (s : State) (idx v : Nat) : (s.clockOf (chainWrite s idx v)).time = s.clock.time := by
  unfold chainWrite
  split
  · exact s.chainCtrl_time v
  · simp


end Sys2Proof.Machine

namespace Sys2Proof.Machine

theorem State.unitWrite_time (s : State) (b who u idx v : Nat) :
    (s.clockOf (s.unitWrite b who u idx v)).time = s.clock.time := by
  simp [State.unitWrite, apply_ite Clock.time, s.chainWrite_time]

theorem State.busWrite_time (s : State) (b who u idx v : Nat) : (s.busWrite b who u idx v).clock.time = s.clock.time := by
  have hunit := s.unitWrite_time b who u idx v
  unfold State.busWrite
  cases h : s.unitWrite b who u idx v with
  | none => rw [Option.getD_none, State.writeCells_clock]
  | some t => rwa [h] at hunit

/-- A queued write of the pair lets no time pass (R195). -/
theorem State.applyQueued_time (s : State) (w : QWrite) : (s.applyQueued w).clock.time = s.clock.time := by
  unfold State.applyQueued
  dsimp only
  split
  · rw [State.supervisorFault_clock]
  · exact s.busWrite_time ..

theorem State.applyCues_clock (s : State) (owner : Nat) (l : List Vec) : (s.applyCues owner l).clock = s.clock :=
  State.clock_foldl _ _ fun t e => t.cueAdd_clock (cueOf e owner)

theorem State.bookIncs_clock (s : State) (owner : Nat) (unver : Bool) (l : List Inc) :
    (s.bookIncs owner unver l).clock = s.clock := by
  unfold State.bookIncs
  extract_lets s₁
  have hgap : s₁.clock = s.clock := by simp [s₁]
  refine (State.clock_foldl _ s₁ fun t n => ?_).trans hgap
  split
  · rfl
  · exact t.book_clock ..

/-- The outputs of a lane are applied at once (R247). -/
theorem State.applyOutputs_time (s : State) (n : Fin 5) (unver : Bool) :
    (s.applyOutputs n unver).clock.time = s.clock.time := by
  have hqueue (l : List QWrite) (t : State) : (l.foldl State.applyQueued t).clock.time = t.clock.time := by
    induction l generalizing t with
    | nil => rfl
    | cons w l ih => exact (ih _).trans (t.applyQueued_time w)
  unfold State.applyOutputs
  extract_lets l
  rw [State.clock_foldl _ _ fun t i => t.bookIncs_clock 5 unver i, State.applyCues_clock, hqueue]

end Sys2Proof.Machine

namespace Sys2Proof.Machine
open Sys2Proof.Claims

/-! SUPPORT. The lane window: the phase reached, the standby's mirror, a lane's start and the standby's recomputation (R69,
R230, R247). -/

/-! ## The phase -/

/-- A state at another time. -/
def State.atClock (s : State) (c : Clock) : State := { s with clock := c }

theorem State.atClock_frame (s : State) (c : Clock) (cs : List Comp) (P : Fld → Prop) (h : Comp.clock ∈ cs) :
    Frame cs P s (s.atClock c) :=
  .of_flds rfl fun d hd => by
    cases d with
    | clock => exact absurd h hd
    | _ => rfl

/-- The grain goes on to a phase, and nothing else changes. -/
theorem State.toPhase_eq (s : State) (ph : Nat) : s.toPhase ph = s.atClock (s.toPhase ph).clock := by
  unfold State.toPhase
  split <;> rfl

theorem State.toPhase_time (s : State) (ph : Nat) :
    (s.toPhase ph).clock.grain = s.clock.grain ∧ (s.toPhase ph).clock.phase = max s.clock.phase ph := by
  unfold State.toPhase
  split
  · next h => exact ⟨rfl, (max_eq_right (Nat.le_of_lt h)).symm⟩
  · next h => exact ⟨rfl, (max_eq_left (Nat.le_of_not_lt h)).symm⟩

/-! ## The mirror (R247) -/

/-- The words of a store log, each at its place from a base on. -/
def State.logWords (s : State) (base : Nat) (l : List (Nat × Word)) : State :=
  l.foldl (fun t e => t.setWord (base + e.1) e.2) s

theorem State.logWords_frame (s : State) (base : Nat) (l : List (Nat × Word)) (P : Fld → Prop) :
    Frame [.mem] P s (s.logWords base l) := by
  induction l generalizing s with
  | nil => exact .refl ..
  | cons e l ih => exact (State.setBytes_frame _ _ _ _ _ (by decide)).then (ih _)

theorem State.logWords_atClock (s : State) (base : Nat) (l : List (Nat × Word)) (c : Clock) :
    (s.atClock c).logWords base l = (s.logWords base l).atClock c := by
  induction l generalizing s with
  | nil => rfl
  | cons e l ih => exact ih (s.setWord (base + e.1) e.2)

/-- The last word of the log stands in memory. -/
theorem State.logWords_last (s : State) {base : Nat} {l : List (Nat × Word)} (hb : 0x80000 ≤ base) {e : Nat × Word}
    (he : l.getLast? = some e) : (s.logWords base l).word (base + e.1) = e.2 := by
  obtain ⟨front, rfl⟩ := List.getLast?_eq_some_iff.1 he
  rw [State.logWords, List.foldl_append, State.word_eq_wordAt]
  exact wordAt_setWord _ _ _ (by omega)

/-- A byte that no word of the log covers is left alone. -/
theorem State.logWords_byte (s : State) (base : Nat) (l : List (Nat × Word)) {a : Nat}
    (ha : ∀ e ∈ l, a < base + e.1 ∨ base + e.1 + 4 ≤ a) : (s.logWords base l).byte a = s.byte a := by
  induction l generalizing s with
  | nil => rfl
  | cons e l ih =>
    exact (ih _ fun e' he' => ha e' (List.mem_cons_of_mem _ he')).trans
      (byte_setWord_other _ _ _ _ (ha e (List.mem_cons_self ..)))

/-- The selected contexts in the standby, where they came with the log. -/
def State.takeContexts (s : State) (n : Fin 5) (ctx : Option (Vector Context 4)) : State :=
  match ctx with
  | none => s
  | some x => s.setLane n { s.lane n with g := x[0], p := x[1], snapG := x[2], snapP := x[3] }

theorem State.takeContexts_frame (s : State) (n : Fin 5) (ctx : Option (Vector Context 4)) (P : Fld → Prop) :
    Frame [.lanes] P s (s.takeContexts n ctx) := by
  cases ctx with
  | none => exact .refl ..
  | some x => exact State.setLane_frame _ _ s _ _ (by decide)

/-- The mirror has taken what waited for it. -/
def State.mirrorDone (s : State) : State := { s with rope := { s.rope with mirror := none } }

theorem State.mirrorDone_frame (s : State) (P : Fld → Prop) : Frame [.rope] P s s.mirrorDone :=
  .of_flds rfl fun d hd => by
    cases d with
    | rope => exact absurd (by decide) hd
    | _ => rfl

theorem State.mirrorTakes_none {s : State} (h : s.rope.mirror = none) : s.mirrorTakes = s := by
  rw [State.mirrorTakes, h]

theorem State.mirrorTakes_some {s : State} {u : MirrorUp} (h : s.rope.mirror = some u) : s.mirrorTakes =
    ((s.logWords (laneBase u.lane) u.log).takeContexts (Fin.ofNat 5 u.lane) u.ctx).mirrorDone := by
  rw [State.mirrorTakes, h]
  rfl

theorem State.mirrorTakes_atClock (s : State) (c : Clock) : (s.atClock c).mirrorTakes = s.mirrorTakes.atClock c := by
  cases h : s.rope.mirror with
  | none => rw [State.mirrorTakes_none h, State.mirrorTakes_none (s := s.atClock c) h]
  | some u =>
    rw [State.mirrorTakes_some h, State.mirrorTakes_some (s := s.atClock c) h, State.logWords_atClock]
    cases u.ctx <;> rfl

theorem State.mirrorTakes_frame (s : State) (P : Fld → Prop) : Frame [.mem, .lanes, .rope] P s s.mirrorTakes := by
  cases h : s.rope.mirror with
  | none =>
    rw [State.mirrorTakes_none h]
    exact .refl ..
  | some u =>
    rw [State.mirrorTakes_some h]
    exact ((s.logWords_frame _ _ _).mono (by decide) fun _ h => h).then
      (((State.takeContexts_frame ..).mono (by decide) fun _ h => h).then
        ((State.mirrorDone_frame ..).mono (by decide) fun _ h => h))

theorem State.mirrorTakes_taken (s : State) : MirrorTaken s s.mirrorTakes := by
  refine ⟨State.mirrorTakes_none, fun u h => ?_⟩
  let w := s.logWords (laneBase u.lane) u.log
  let t := w.takeContexts (Fin.ofNat 5 u.lane) u.ctx
  have hw : Same [.mem] [] s w := s.logWords_frame ..
  have ht : Same [.lanes] [] w t := w.takeContexts_frame ..
  have hmem : t.mirrorDone.mem = w.mem := ht.2 .mem (by decide)
  have hrope : t.rope = s.rope := Eq.trans (b := w.rope) (ht.2 .rope (by decide)) (hw.2 .rope (by decide))
  rw [State.mirrorTakes_some h]
  refine ⟨congrArg (fun r : Rope => { r with mirror := none }) hrope, fun e he => ?_, fun a ha => ?_, fun hc => ?_,
    fun x hc k => ?_, ?_⟩
  · have hlast := s.logWords_last (base := laneBase u.lane) (by unfold laneBase; omega) he
    rw [State.word, State.bytes_of_mem hmem]
    exact hlast
  · exact (State.byte_of_mem hmem a).trans (s.logWords_byte _ _ ha)
  · have hlanes : t.lanes = w.lanes := by simp only [t, hc, State.takeContexts]
    exact hlanes.trans (hw.2 .lanes (by decide))
  · have hlane (j : Fin 5) : w.lane j = s.lane j := congrArg (fun l : Vector Lane 5 => l[j]) (hw.2 .lanes (by decide))
    have ht' : t = w.setLane (Fin.ofNat 5 u.lane) { w.lane (Fin.ofNat 5 u.lane) with
        g := x[0], p := x[1], snapG := x[2], snapP := x[3] } := by simp only [t, hc, State.takeContexts]
    show t.lane k = _
    rw [ht']
    split
    · next hk => rw [hk, State.lane_setLane_same, hlane]
    · next hk => rw [State.lane_setLane_other _ (Ne.symm hk), hlane]
  · have hall := s.mirrorTakes_frame (fun f => f ∈ [])
    rwa [State.mirrorTakes_some h] at hall

/-! ## A lane's start (R175, R230) -/

theorem Lane.beginGrain_grain (l : Lane) (g : Nat) {i : List Byte} (h : l.imgG = some i) : l.beginGrain g =
    { l with ranAt := g + 1, cur := some .grain, sig := [], g := ⟨{ l.g.bank with fl := 0 }, imgStart i, []⟩
             snapG := ⟨{ l.g.bank with fl := 0 }, imgStart i, []⟩ } := by
  simp only [Lane.beginGrain, h]

theorem Lane.beginGrain_slice (l : Lane) (g : Nat) {i : List Byte} (hg : l.imgG = none) (hp : l.imgP = some i)
    (hon : l.pitchOn = true) :
    l.beginGrain g = { l with ranAt := g + 1, cur := some .pitch, sliceLeft := imgSlice i, sig := [] } := by
  simp only [Lane.beginGrain, hg, Lane.beginSlice, hp, hon, if_true]

theorem State.lane_atClock (s : State) (c : Clock) (n : Fin 5) : (s.atClock c).lane n = s.lane n := rfl

/-- At the phase reached, the mirror has taken its update. -/
theorem State.mirrorAt (s : State) (ph : Nat) : ∃ c : Clock, (s.toPhase ph).mirrorTakes = s.mirrorTakes.atClock c ∧
    c.phase = max s.clock.phase ph :=
  ⟨(s.toPhase ph).clock, (congrArg State.mirrorTakes (s.toPhase_eq ph)).trans (s.mirrorTakes_atClock _),
    (s.toPhase_time ph).2⟩

theorem State.laneOpens_eq (s : State) : s.laneOpens = s.clock.glen - 6016 := rfl

/-- The lane window opens for lane n: the mirror follows, the phase is reached, and the lane begins. -/
theorem State.laneBegins_frame (m : State) (n : Fin 5) (l : Lane) (c : Clock) :
    Same [.lanes, .clock] [] m ((m.atClock c).setLane n l) :=
  (m.atClock_frame c _ _ (by decide)).then (State.setLane_frame _ _ _ _ _ (by decide))

section
variable {s : State} {n : Fin 5} (hp : s.power = .on) (hlock : s.clock.pllLock = true)
include hp hlock

theorem grainProgramStart_starts (hdue : s.laneDue n = true) :
    ∃ m t, exec (.grainProgramStart n) s = .next t ∧ MirrorTaken s m ∧
      let L := m.lane n
      (∀ k, k ≠ n → t.lane k = m.lane k) ∧ t.clock.phase = max s.clock.phase (s.clock.glen - 6016) ∧
      (∀ i, L.imgG = some i → let c : Context := ⟨{ L.g.bank with fl := 0 }, imgStart i, []⟩
        t.lane n = { L with ranAt := s.clock.grain + 1, cur := some .grain, sig := [], g := c, snapG := c }) ∧
      (∀ i, L.imgG = none → L.imgP = some i → L.pitchOn = true →
        t.lane n = { L with ranAt := s.clock.grain + 1, cur := some .pitch, sliceLeft := imgSlice i, sig := [] }) ∧
      Same [.lanes, .clock] [] m t := by
  let m := s.mirrorTakes
  obtain ⟨c, hopen, hphase⟩ := s.mirrorAt s.laneOpens
  have hexec : exec (.grainProgramStart n) s = .next ((m.atClock c).setLane n ((m.lane n).beginGrain s.clock.grain)) := by
    show execGrainProgramStart n s = _
    rw [execGrainProgramStart, if_pos ⟨hp, hlock, hdue⟩]
    dsimp only
    rw [hopen, State.lane_atClock]
  refine ⟨m, _, hexec, s.mirrorTakes_taken, fun k hk => State.lane_setLane_other _ (Ne.symm hk) _,
    hphase.trans (by rw [s.laneOpens_eq]), fun i hi => ?_, fun i hg hi hon => ?_, m.laneBegins_frame ..⟩
  · rw [State.lane_setLane_same]
    exact Lane.beginGrain_grain _ _ hi
  · rw [State.lane_setLane_same]
    exact Lane.beginGrain_slice _ _ hg hi hon

/-- The standby begins the grain anew (R247). -/
theorem standbyRecompute_starts (hsb : s.standby = some n) (hdis : s.pairDisagrees = true) (hre : s.rope.recomputing = false)
    (hsolo : s.on LEASE.ROPE.SOLO = false) (hready : (s.lane n).ready = true) :
    ∃ m t, exec .standbyRecompute s = .next t ∧ MirrorTaken s m ∧ (∀ k, k ≠ n → t.lane k = m.lane k) ∧
      t.clock.phase = max s.clock.phase 3340 ∧ t.rope = { m.rope with recomputing := true } ∧
      t.lane n = (m.lane n).beginGrain s.clock.grain ∧ Same [.lanes, .clock, .rope] [] m t := by
  let m := s.mirrorTakes
  obtain ⟨c, hopen, hphase⟩ := s.mirrorAt 3340
  let r : State := { m.atClock c with rope := { m.rope with recomputing := true } }
  have hexec : exec .standbyRecompute s = .next (r.setLane n ((m.lane n).beginGrain s.clock.grain)) := by
    show execStandbyRecompute s = _
    unfold execStandbyRecompute
    rw [hsb]
    dsimp only
    rw [if_pos ⟨hp, hlock, hdis, by simp [hre], by simp [hsolo], hready⟩, hopen]
    rfl
  have hrope : Same [.lanes, .clock, .rope] [] (m.atClock c) r := .of_flds rfl fun d hd => by
    cases d with
    | rope => exact absurd (by decide) hd
    | _ => rfl
  refine ⟨m, _, hexec, s.mirrorTakes_taken, fun k hk => State.lane_setLane_other _ (Ne.symm hk) _, hphase,
    rfl, State.lane_setLane_same .., ?_⟩
  exact ((m.atClock_frame c _ _ (by decide)).then hrope).then (State.setLane_frame _ _ _ _ _ (by decide))

end

end Sys2Proof.Machine

namespace Sys2Proof.Machine
open Sys2Proof.Claims

/-! SUPPORT. The tail of the grain (R247, R250, R251): its place in time, the records of the pair, a member replaced. -/

/-! ## No time passes in the tail -/

theorem State.mirrorFrom_clock (s : State) (sb sel : Fin 5) (contexts : Bool) :
    (s.mirrorFrom sb sel contexts).clock = s.clock := by
  unfold State.mirrorFrom
  dsimp only
  split <;> rfl

theorem State.mirrorUpdate_clock (s : State) (sel : Fin 5) : (s.mirrorUpdate sel).clock = s.clock := by
  unfold State.mirrorUpdate
  split
  · exact s.mirrorFrom_clock ..
  · split
    · rfl
    · split
      · exact s.mirrorFrom_clock ..
      · rfl

theorem State.undoStores_clock (s : State) (n src : Fin 5) : (s.undoStores n src).clock = s.clock :=
  State.clock_foldl _ _ fun _ _ => rfl

theorem State.recordVote_clock (s : State) (outcome loser : Nat) : (s.recordVote outcome loser).clock = s.clock := by
  simp [State.recordVote]

theorem State.countLost_clock (s : State) (n : Fin 5) : (s.countLost n).clock = s.clock := by
  unfold State.countLost
  dsimp only
  split <;> rfl

/-! ## The decision to retire a lane (R252, R470) -/

/-- A first decision waits for its second (R470). -/
theorem State.decideFirst_effect (s : State) (d : Decision) : ∃ t, (s.decideFirst d).second = s.second ++ [⟨d, t⟩] ∧
    s.clock.now + 1 ≤ t ∧ t ≤ s.clock.now + 255 ∧ Same [.second, .free] [] s (s.decideFirst d) := by
  refine ⟨s.clock.now + 1 + s.draw.1.toNat % 255, rfl, Nat.le_add_right .., ?_, .of_flds rfl fun c hc => ?_⟩
  · have := Nat.mod_lt s.draw.1.toNat (by decide : 255 > 0)
    omega
  · cases c with
    | second | free => exact absurd (by decide) hc
    | _ => rfl

theorem State.retireLane_frame (s : State) (n : Nat) : Same [.second, .free] [] s (s.retireLane n) := by
  unfold State.retireLane
  split
  · obtain ⟨-, -, -, -, hframe⟩ := s.decideFirst_effect (.retire (.lane n))
    exact hframe
  · exact .refl ..

/-! ## A member replaced (R251) -/

/-- The standby takes the loser's place from the next grain on, and copies from grain 257 on (R251). -/
theorem State.replaceMember_effect (s : State) (loser winner sb : Fin 5) : let t := s.replaceMember loser winner sb
    t.rope.roles = some (min winner.val sb.val, max winner.val sb.val, loser.val) ∧ t.on LEASE.ROPE.REBUILD = true ∧
    t.on LEASE.ROPE.NOSTBY = true ∧ t.rope.copyAt = some (s.clock.grain + 257) ∧ t.clock = s.clock := by
  intro t
  let v := (s.flag LEASE.ROPE.REBUILD true).flag LEASE.ROPE.NOSTBY true
  let u : State := { v with rope := { s.rope with
    copyAt := some (s.clock.grain + 257), roles := some (min winner.val sb.val, max winner.val sb.val, loser.val)
    lostAt := modAt s.rope.lostAt loser (fun _ => some s.clock.grain) } }
  have hnostby : v.on LEASE.ROPE.NOSTBY = true := State.on_flag_same _ _ rfl
  have hrebuild : v.on LEASE.ROPE.REBUILD = true :=
    (State.on_of_get (State.get_set_other _ (by decide) _)).trans (State.on_flag_same s _ rfl)
  have hretire (again : Bool) : Same [.second, .free] [] u (if again then u.retireLane loser else u) := by
    cases again with
    | true => exact u.retireLane_frame loser
    | false => exact .refl ..
  have hframe : Same [.second, .free] [] u t := hretire _
  have hrope : t.rope = u.rope := hframe.2 .rope (by decide)
  refine ⟨congrArg Rope.roles hrope, (State.on_of_get (hframe.get (by simp))).trans hrebuild,
    (State.on_of_get (hframe.get (by simp))).trans hnostby, congrArg Rope.copyAt hrope, hframe.2 .clock (by decide)⟩

/-! ## The vote (R250) -/

theorem State.vote_time (s : State) : s.vote.clock.time = s.clock.time := by
  unfold State.vote
  extract_lets a b o
  have hwon (x loser winner sb : Fin 5) : ((((s.recordVote o loser).countLost loser).applyOutputs x false).replaceMember
      loser winner sb).clock.time = s.clock.time := by
    obtain ⟨-, -, -, -, hclock⟩ := (((s.recordVote o loser).countLost loser).applyOutputs x false).replaceMember_effect
      loser winner sb
    rw [hclock, State.applyOutputs_time, State.countLost_clock, State.recordVote_clock]
  split
  · split
    · next ho =>
      rw [ho] at hwon
      exact hwon ..
    · split
      · next ho =>
        rw [ho] at hwon
        exact hwon ..
      · rw [State.mirrorUpdate_clock, State.undoStores_clock, State.applyOutputs_time, State.recordVote_clock]
  · rw [State.mirrorUpdate_clock, State.applyOutputs_time, State.recordVote_clock]

/-- The member that agrees with the standby stays (R250, R251). -/
def State.swapped (t : State) (stays goes sb : Fin 5) (grain : Nat) : Prop :=
  t.rope.roles = some (min stays.val sb.val, max stays.val sb.val, goes.val) ∧ t.on LEASE.ROPE.REBUILD = true ∧
    t.on LEASE.ROPE.NOSTBY = true ∧ t.rope.copyAt = some (grain + 257)

theorem State.vote_swaps {s : State} {n : Fin 5} (hsb : s.standby = some n) (hre : s.rope.recomputing = true) :
    (runsAgree (s.lane n).runs (s.lane s.firstLane).runs = true →
      s.vote.swapped s.firstLane s.secondLane n s.clock.grain) ∧
    (runsAgree (s.lane n).runs (s.lane s.firstLane).runs = false →
      runsAgree (s.lane n).runs (s.lane s.secondLane).runs = true →
      s.vote.swapped s.secondLane s.firstLane n s.clock.grain) := by
  have hout : s.voteOutcome = if runsAgree (s.lane n).runs (s.lane s.firstLane).runs then 1
      else if runsAgree (s.lane n).runs (s.lane s.secondLane).runs then 2 else 3 := by
    simp only [State.voteOutcome, hsb, hre, not_true, if_false]
  have hswap (loser winner : Fin 5) (o : Nat) :
      ((((s.recordVote o loser).countLost loser).applyOutputs winner false).replaceMember loser winner n).swapped winner loser n
        s.clock.grain := by
    let v := ((s.recordVote o loser).countLost loser).applyOutputs winner false
    have htime : v.clock.time = s.clock.time := by
      simp only [v, State.applyOutputs_time, State.countLost_clock, State.recordVote_clock]
    obtain ⟨hroles, hrebuild, hnostby, hcopy, -⟩ := v.replaceMember_effect loser winner n
    exact ⟨hroles, hrebuild, hnostby, hcopy.trans (by rw [(Prod.mk.inj htime).1])⟩
  refine ⟨fun h => ?_, fun h h' => ?_⟩
  · have ho : s.voteOutcome = 1 := by rw [hout, if_pos h]
    simp only [State.vote, hsb, ho, if_true]
    exact hswap ..
  · have ho : s.voteOutcome = 2 := by rw [hout, if_neg (by simp [h]), if_pos h']
    simp only [State.vote, hsb, ho, if_true]
    exact hswap ..

/-! ## The tail (R247) -/

/-- The outputs of the grain, from the standby alone, by the vote, or from the first member. -/
def State.tailOutputs (s : State) : State :=
  if s.on LEASE.ROPE.SOLO then
    (if h : s.get SYS.LANE.STBY < 5 then s.applyOutputs ⟨s.get SYS.LANE.STBY, h⟩ true else s)
  else if s.pairDisagrees then s.vote
  else (s.applyOutputs s.firstLane false).mirrorUpdate s.firstLane

theorem State.tailOutputs_time (s : State) : s.tailOutputs.clock.time = s.clock.time := by
  unfold State.tailOutputs
  split
  · split
    · exact s.applyOutputs_time ..
    · rfl
  · split
    · exact s.vote_time
    · rw [State.mirrorUpdate_clock, State.applyOutputs_time]

/-- The records of some lanes are cleared. -/
def State.clearGrains (s : State) (l : List (Fin 5)) : State := l.foldl (fun u n => u.setLane n (u.lane n).clearGrain) s

theorem State.clearGrains_frame (s : State) (l : List (Fin 5)) (P : Fld → Prop) : Frame [.lanes] P s (s.clearGrains l) := by
  induction l generalizing s with
  | nil => exact .refl ..
  | cons n l ih => exact (State.setLane_frame _ _ s n _ (by decide)).then (ih _)

/-- A lane's records of the grain are gone. -/
def Lane.cleared (l : Lane) : Prop := l.outQ = [] ∧ l.outIncs = [] ∧ l.runs = [] ∧ l.log = []

theorem State.clearGrains_kept {s : State} {k : Fin 5} (l : List (Fin 5)) (h : (s.lane k).cleared) :
    ((s.clearGrains l).lane k).cleared := by
  induction l generalizing s with
  | nil => exact h
  | cons n l ih =>
    refine ih ?_
    by_cases hk : n = k
    · rw [hk, State.lane_setLane_same]
      exact ⟨rfl, rfl, rfl, rfl⟩
    · rwa [State.lane_setLane_other _ hk]

theorem State.clearGrains_cleared (s : State) {k : Fin 5} {l : List (Fin 5)} (hk : k ∈ l) :
    ((s.clearGrains l).lane k).cleared := by
  induction l generalizing s with
  | nil => cases hk
  | cons n l ih =>
    obtain rfl | hk := List.mem_cons.1 hk
    · refine State.clearGrains_kept l ?_
      rw [State.lane_setLane_same]
      exact ⟨rfl, rfl, rfl, rfl⟩
    · exact ih _ hk

/-- The pair's grain is over. -/
def State.tailOver (s : State) : State := { s with rope := { s.rope with recomputing := false, voted := true } }

/-- The tail once the mirror has its update. -/
def State.tailRuns (s : State) : State := (s.tailOutputs.clearGrains s.ropedLanes).tailOver

theorem State.voteTail_eq (s : State) : s.voteTail = s.mirrorTakes.tailRuns := rfl

theorem State.tailRuns_time (s : State) : s.tailRuns.clock.time = s.clock.time := by
  have hclear : Same [.lanes] [] s.tailOutputs (s.tailOutputs.clearGrains s.ropedLanes) := State.clearGrains_frame ..
  exact (congrArg Clock.time (hclear.2 .clock (by decide))).trans s.tailOutputs_time

theorem State.tailRuns_cleared (s : State) {m : Fin 5} (hm : m ∈ s.ropedLanes) : (s.tailRuns.lane m).cleared :=
  s.tailOutputs.clearGrains_cleared hm

theorem State.swapped.tail {v : State} {stays goes sb : Fin 5} {grain : Nat} (h : v.swapped stays goes sb grain)
    (l : List (Fin 5)) : (v.clearGrains l).tailOver.swapped stays goes sb grain := by
  have hclear : Same [.lanes] [] v (v.clearGrains l) := v.clearGrains_frame ..
  have hrope : (v.clearGrains l).rope = v.rope := hclear.2 .rope (by decide)
  have hget (f : Fld) : (v.clearGrains l).tailOver.on f = v.on f := State.on_of_get (hclear.get (by simp))
  obtain ⟨hroles, hrebuild, hnostby, hcopy⟩ := h
  exact ⟨(congrArg Rope.roles hrope).trans hroles, (hget _).trans hrebuild, (hget _).trans hnostby,
    (congrArg Rope.copyAt hrope).trans hcopy⟩

/-- A grain in dispute: the member that agrees with the standby stays. -/
theorem State.tailRuns_swaps {s : State} {n : Fin 5} (hsb : s.standby = some n) (hre : s.rope.recomputing = true)
    (hsolo : s.on LEASE.ROPE.SOLO = false) (hdis : s.pairDisagrees = true) :
    (runsAgree (s.lane n).runs (s.lane s.firstLane).runs = true →
      s.tailRuns.swapped s.firstLane s.secondLane n s.clock.grain) ∧
    (runsAgree (s.lane n).runs (s.lane s.firstLane).runs = false →
      runsAgree (s.lane n).runs (s.lane s.secondLane).runs = true →
      s.tailRuns.swapped s.secondLane s.firstLane n s.clock.grain) := by
  have hvote : s.tailOutputs = s.vote := (if_neg (by simp [hsolo])).trans (if_pos hdis)
  obtain ⟨hfirst, hsecond⟩ := State.vote_swaps hsb hre
  rw [State.tailRuns, hvote]
  exact ⟨fun h => (hfirst h).tail _, fun h h' => (hsecond h h').tail _⟩

/-! The pair as the vote sees it. -/

/-- Two states in which the pair's registers, runs and grain are the same. -/
structure SamePair (s u : State) : Prop where
  get : ∀ f, u.get f = s.get f
  runs : ∀ k, (u.lane k).runs = (s.lane k).runs
  recomputing : u.rope.recomputing = s.rope.recomputing
  grain : u.clock.grain = s.clock.grain

theorem SamePair.trans {s t u : State} (h : SamePair s t) (h' : SamePair t u) : SamePair s u :=
  ⟨fun f => (h'.get f).trans (h.get f), fun k => (h'.runs k).trans (h.runs k), h'.recomputing.trans h.recomputing,
    h'.grain.trans h.grain⟩

/-- The mirror's update leaves the records of the runs and the registers alone. -/
theorem State.mirrorTakes_pair (s : State) : SamePair s s.mirrorTakes := by
  have hframe : Same [.mem, .lanes, .rope] [] s s.mirrorTakes := s.mirrorTakes_frame _
  obtain ⟨hnone, hsome⟩ := s.mirrorTakes_taken
  refine ⟨fun f => hframe.get (by simp), fun k => ?_, ?_, congrArg Clock.grain (hframe.2 .clock (by decide))⟩
  · cases h : s.rope.mirror with
    | none => rw [hnone h]
    | some u =>
      obtain ⟨-, -, -, hplain, hctx, -⟩ := hsome u h
      cases hx : u.ctx with
      | none => rw [State.lane, hplain hx, State.lane]
      | some x =>
        rw [hctx x hx k]
        split <;> rfl
  · cases h : s.rope.mirror with
    | none => rw [hnone h]
    | some u => rw [(hsome u h).1]

theorem State.toPhase_pair (s : State) (ph : Nat) : SamePair s (s.toPhase ph) := by
  obtain ⟨hgrain, -⟩ := s.toPhase_time ph
  rw [s.toPhase_eq ph]
  exact ⟨fun _ => rfl, fun _ => rfl, rfl, hgrain⟩

/-- What the tail does to the pair, in terms of the grain's state. -/
theorem SamePair.tail {s u : State} (h : SamePair s u) : (∀ m ∈ s.ropedLanes, (u.tailRuns.lane m).cleared) ∧
    ∀ n : Fin 5, s.standby = some n → s.rope.recomputing = true → s.on LEASE.ROPE.SOLO = false → s.pairDisagrees = true →
      (runsAgree (s.lane n).runs (s.lane s.firstLane).runs = true →
        u.tailRuns.swapped s.firstLane s.secondLane n s.clock.grain) ∧
      (runsAgree (s.lane n).runs (s.lane s.firstLane).runs = false →
        runsAgree (s.lane n).runs (s.lane s.secondLane).runs = true →
        u.tailRuns.swapped s.secondLane s.firstLane n s.clock.grain) := by
  obtain ⟨hget, hruns, hre, hgrain⟩ := h
  have hlanes : u.ropedLanes = s.ropedLanes := by simp only [State.ropedLanes, State.pairLanes, hget]
  have hfirst : u.firstLane = s.firstLane := by simp only [State.firstLane, hget]
  have hsecond : u.secondLane = s.secondLane := by simp only [State.secondLane, hget]
  refine ⟨fun m hm => u.tailRuns_cleared (hlanes ▸ hm), fun n hsb hrec hsolo hdis => ?_⟩
  have hsb' : u.standby = some n := by
    rw [← hsb]
    simp only [State.standby, State.on, hget]
    rfl
  have hsolo' : u.on LEASE.ROPE.SOLO = false := (State.on_of_get (hget _)).trans hsolo
  have hdis' : u.pairDisagrees = true := by simpa only [State.pairDisagrees, hget, hruns] using hdis
  have hswap := State.tailRuns_swaps hsb' (hre.trans hrec) hsolo' hdis'
  rwa [hruns, hruns, hruns, hfirst, hsecond, hgrain] at hswap

theorem voteTail_ends {s : State} (hp : s.power = .on) (hlock : s.clock.pllLock = true) (hvoted : s.rope.voted = false) :
    exec .voteTail s = .next (s.toPhase 6296).mirrorTakes.tailRuns ∧
      (s.toPhase 6296).mirrorTakes.tailRuns.clock.phase = max s.clock.phase 6296 := by
  obtain ⟨-, hphase⟩ := s.toPhase_time 6296
  have hmirror : Same [.mem, .lanes, .rope] [] (s.toPhase 6296) (s.toPhase 6296).mirrorTakes := State.mirrorTakes_frame ..
  have htime : (s.toPhase 6296).mirrorTakes.tailRuns.clock.time = (s.toPhase 6296).clock.time :=
    (State.tailRuns_time _).trans (congrArg Clock.time (hmirror.2 .clock (by decide)))
  refine ⟨?_, (Prod.mk.inj htime).2.trans hphase⟩
  show execVoteTail s = _
  rw [execVoteTail, if_pos ⟨hp, hlock, by simp [hvoted]⟩, State.voteTail_eq]

end Sys2Proof.Machine

namespace Sys2Proof.Machine
open Sys2Proof.Claims

/-! SUPPORT. The end of a rebuild, the sections of a set, a self-test that fails, a cue program's start (R239, R251–R253). -/

theorem Same.foldl {α : Type} {cs : List Comp} {fs : List Fld} {f : State → α → State} (l : List α) (s : State)
    (h : ∀ t x, Same cs fs t (f t x)) : Same cs fs s (l.foldl f s) := by
  induction l generalizing s with
  | nil => exact .refl ..
  | cons x l ih => exact (h s x).then (ih _)

/-- The copying is over (R251). -/
theorem standbyRebuildEnd_ends {s : State} (hp : s.power = .on) {c : Nat} (hc : s.rope.copyAt = some c)
    (hend : c + 768 ≤ s.clock.grain) : ∃ t, exec .standbyRebuildEnd s = .next t ∧
      t.on LEASE.ROPE.REBUILD = false ∧ t.on LEASE.ROPE.NOSTBY = false ∧ t.rope = { s.rope with copyAt := none } ∧
      Same [.rope] [LEASE.ROPE.REBUILD, LEASE.ROPE.NOSTBY] s t := by
  let u := (s.flag LEASE.ROPE.REBUILD false).flag LEASE.ROPE.NOSTBY false
  let t : State := { u with rope := { s.rope with copyAt := none } }
  have hrebuild : u.on LEASE.ROPE.REBUILD = false :=
    (State.on_of_get (State.get_set_other _ (by decide) _)).trans (State.on_flag_same s _ rfl)
  have hnostby : u.on LEASE.ROPE.NOSTBY = false := State.on_flag_same _ _ rfl
  have hflags : Same [.rope] [LEASE.ROPE.REBUILD, LEASE.ROPE.NOSTBY] s u :=
    (State.flag_frame _ s _ _ (by decide)).then (State.flag_frame _ _ _ _ (by decide))
  have hrope : Same [.rope] [LEASE.ROPE.REBUILD, LEASE.ROPE.NOSTBY] u t := .of_flds rfl fun d hd => by
    cases d with
    | rope => exact absurd (by decide) hd
    | _ => rfl
  refine ⟨t, ?_, hrebuild, hnostby, rfl, hflags.then hrope⟩
  show execStandbyRebuildEnd s = _
  unfold execStandbyRebuildEnd
  rw [hc]
  dsimp only
  rw [if_pos ⟨hp, hend⟩]
  rfl

/-! ## The sections of a set (R235, R238, R239) -/

/-- The sections stand in the lane's memory, and the lane's code is protected. -/
theorem State.placeSet_effect (s : State) (n : Fin 5) (g p : Option (List Byte)) : let t := s.placeSet n g p
    t.lane n = { s.lane n with imgG := g, imgP := p, prot := codeRanges g p } ∧ (∀ m, m ≠ n → t.lane m = s.lane m) ∧
    Same [.lanes, .mem] [] s t := by
  intro t
  let u := ([g, p].filterMap id).foldl (fun (t : State) i => t.copySections (laneBase n) i) s
  have hu : Same [.mem] [] s u := Same.foldl _ _ fun t i => t.copySections_frame ..
  have hlane (m : Fin 5) : u.lane m = s.lane m := congrArg (fun l : Vector Lane 5 => l[m]) (hu.2 .lanes (by decide))
  have ht : t = u.setLane n { u.lane n with imgG := g, imgP := p, prot := codeRanges g p } := rfl
  rw [ht, State.lane_setLane_same, hlane]
  exact ⟨rfl, fun m hm => (State.lane_setLane_other _ (Ne.symm hm) _).trans (hlane m),
    (hu.mono (by decide) fun _ h => h).then (State.setLane_frame _ _ u n _ (by decide))⟩

theorem State.measure_frame (s : State) (i : List Byte) : Same [.access] [ACCESS.MCNT.CNT] s (s.measure i) :=
  (State.extend_effect _ _ _).2.2.2

/-- Install: the sections stand, and the images are measured once for the pair. -/
theorem installSectionsDone_places {s : State} {n : Fin 5} (hp : s.power = .on)
    (him : (s.lane n).imgG.isSome ∨ (s.lane n).imgP.isSome)
    (hprot : (s.lane n).prot = []) (hpos : 0 < (s.lane n).startAt) (hstart : (s.lane n).startAt ≤ s.clock.grain) :
    ∃ t, exec (.installSectionsDone n) s = .next t ∧ (∀ m, m ≠ n → t.lane m = s.lane m) ∧
      t.lane n = { s.lane n with prot := codeRanges (s.lane n).imgG (s.lane n).imgP } ∧
      Same [.lanes, .mem, .access] [ACCESS.MCNT.CNT] s t := by
  obtain ⟨hlane, halone, hframe⟩ := s.placeSet_effect n (s.lane n).imgG (s.lane n).imgP
  have hexec : exec (.installSectionsDone n) s = .next (if s.get LEASE.ROPE.SECOND = n.val
      then s.placeSet n (s.lane n).imgG (s.lane n).imgP
      else ([(s.lane n).imgG, (s.lane n).imgP].filterMap id).foldl State.measure
        (s.placeSet n (s.lane n).imgG (s.lane n).imgP)) := by
    show execInstallSectionsDone n s = _
    unfold execInstallSectionsDone
    dsimp only
    rw [if_pos ⟨hp, him, hprot, hpos, hstart⟩]
  generalize s.placeSet n (s.lane n).imgG (s.lane n).imgP = u at hlane halone hframe hexec
  have hall (t : State) (ht : Same [.access] [ACCESS.MCNT.CNT] u t) : (∀ m, m ≠ n → t.lane m = s.lane m) ∧
      t.lane n = { s.lane n with prot := codeRanges (s.lane n).imgG (s.lane n).imgP } ∧
      Same [.lanes, .mem, .access] [ACCESS.MCNT.CNT] s t := by
    have hkept (m : Fin 5) : t.lane m = u.lane m := congrArg (fun l : Vector Lane 5 => l[m]) (ht.2 .lanes (by decide))
    exact ⟨fun m hm => (hkept m).trans (halone m hm), (hkept n).trans hlane,
      (hframe.mono (by decide) (by simp)).then (ht.mono (by decide) fun _ h => h)⟩
  refine ⟨_, hexec, hall _ ?_⟩
  split
  · exact .refl ..
  · exact Same.foldl _ _ State.measure_frame

/-! ## A self-test that fails (R252, R470) -/

theorem laneSelftestFail_decides {s : State} {n : Fin 5} (hp : s.power = .on) (hin : bitOf (s.get SYS.LANE.INSVC) n = true)
    (hno : s.retiringLane n = false) : ∃ t d, exec (.laneSelftestFail n) s = .next t ∧
      t.second = s.second ++ [⟨.retire (.lane n), d⟩] ∧ s.clock.now + 1 ≤ d ∧ d ≤ s.clock.now + 255 ∧
      Same [.second, .free] [] s t := by
  obtain ⟨d, hsecond, hlo, hhi, hframe⟩ := s.decideFirst_effect (.retire (.lane n))
  refine ⟨_, d, ?_, hsecond, hlo, hhi, hframe⟩
  show execLaneSelftestFail n s = _
  rw [execLaneSelftestFail, if_pos hp, State.retireLane, if_pos ⟨hin, by simp [hno]⟩]

/-! ## A cue program's start (R253) -/

theorem cueProgramStart_starts {s : State} {c : Fin 2} {k : Nat} {rest : List Nat} (hp : s.power = .on)
    (hlaunch : (s.core c).launch = k :: rest) (hhalt : (s.core c).halted = false) (hhand : s.inHandler c = false)
    (hbusy : ∀ j, (s.core c).run ≠ .cueProg j) :
    ∃ t, exec (.cueProgramStart c) s = .next t ∧ (t.core c).run = .cueProg k ∧ (t.core c).launch = rest ∧
      (t.core c).bank = { Bank.zero with s := (Bank.zero.s.set 1 (BitVec.ofNat 32 s.clock.grain)).set 2 (BitVec.ofNat 32 k) } ∧
      (t.core c).loopsBase = [] ∧ (t.core c).waiting = false ∧
      (∀ i, s.prog (0x10 + k) = some i → (t.core c).pc = imgStart i) ∧
      ((s.core c).run = .service → (t.core c).saved =
        some ⟨(s.core c).bank, (s.core c).shadow, (s.core c).pc, (s.core c).loopsBase, (s.core c).waiting⟩) ∧
      (∀ d, d ≠ c → t.core d = s.core d) ∧ Same [.cores] [] s t := by
  let K := s.core c
  let saved : Option SavedRun := if K.run = .service then some ⟨K.bank, K.shadow, K.pc, K.loopsBase, K.waiting⟩ else none
  let u := s.setCore c { K with saved := saved, launch := rest }
  have hfree : (match (s.core c).run with | .cueProg _ => true | _ => false) = false := by
    cases hrun : (s.core c).run with
    | cueProg j => exact absurd hrun (hbusy j)
    | _ => rfl
  have hexec : exec (.cueProgramStart c) s = .next (u.startCue c k) := by
    show execCueProgramStart c s = _
    unfold execCueProgramStart
    rw [hlaunch]
    dsimp only
    rw [if_pos ⟨hp, by simp [hhalt], by simp [hhand], fun e => Bool.false_ne_true (hfree.symm.trans e)⟩]
  have hcore : (u.startCue c k).core c = { u.core c with
      bank := { Bank.zero with s := (Bank.zero.s.set 1 (BitVec.ofNat 32 s.clock.grain)).set 2 (BitVec.ofNat 32 k) }
      shadow := Vector.replicate 16 0, pc := match s.prog (0x10 + k) with | none => 0 | some i => imgStart i
      loopsBase := [], run := .cueProg k, waiting := false } := State.core_setCore_same ..
  have hu : u.core c = { K with saved := saved, launch := rest } := State.core_setCore_same ..
  rw [hu] at hcore
  refine ⟨_, hexec, ?_⟩
  rw [hcore]
  refine ⟨rfl, rfl, rfl, rfl, rfl, fun i hi => ?_, fun hrun => if_pos hrun, fun d hd => ?_, ?_⟩
  · simp only [hi]
  · exact (State.core_setCore_other u (Ne.symm hd) _).trans (State.core_setCore_other s (Ne.symm hd) _)
  · exact (State.setCore_frame _ _ s c _ (by decide)).then (State.setCore_frame _ _ u c _ (by decide))

end Sys2Proof.Machine

namespace Sys2Proof.Machine
open Sys2Proof.Claims

/-! SUPPORT. A lane's retirement committed (R252, R258), and the events of lanes. -/

/-! ## The leases of a lane that retires (R258) -/

/-- The units and sources of a revocation. -/
def revokeComps : List Comp := [.leases, .port, .jrnl, .modem, .glass, .mem, .pwr, .free, .aux]
def revokeUnits : List Nat := [4, 0x29, 0x25, 0x34, 0x38, 3, 0x30]
def revokeSources : List Nat := [0x37, 0x2A, 0x49, 0x4A, 0x50]

/-- Resource x is taken from holder n, if n holds it. -/
def State.revokeHeld (s : State) (n : Nat) (x : Fin 12) : State :=
  if s.get (LEASE.HOLD.STATE x) = 1 ∧ s.get (LEASE.HOLD.HOLDER x) = n then s.leaseRevoke x 2 else s

theorem State.revokeHeld_grows (s : State) (n : Nat) (x : Fin 12) :
    Grows revokeComps revokeUnits revokeSources s (s.revokeHeld n x) := by
  unfold State.revokeHeld
  split
  · rw [State.leaseRevoke_noFault _ _ (by decide)]
    exact (s.revokeFor_grows x 2 fun u => u.leaseUndo_grows x).mono rfl
  · exact .refl s

theorem State.revokeHeld_get (s : State) (n : Nat) (x : Fin 12) {f : Fld} (hf : f.unit = 4) (hn : f ∉ revokeFields x) :
    (s.revokeHeld n x).get f = s.get f := by
  unfold State.revokeHeld
  split
  · rw [State.leaseRevoke_noFault _ _ (by decide), State.revokeFor_get_other _ _ _ hf hn]
  · rfl

theorem hold_notMem_revokeFields {x y : Fin 12} (h : x ≠ y) :
    LEASE.HOLD.STATE y ∉ revokeFields x ∧ LEASE.HOLD.HOLDER y ∉ revokeFields x := by
  have hne : x.val ≠ y.val := fun e => h (Fin.ext e)
  constructor <;>
    simp [revokeFields, LEASE.HOLD.STATE, LEASE.HOLD.HOLDER, LEASE.REVOKES.COUNT, LEASE.REVOKES.SAT, LEASE.LASTREV.REASON,
      LEASE.LASTREV.HOLDER, LEASE.LASTREV.RES] <;> omega

/-- Every resource in a list is taken from holder n, if n holds it. -/
def State.revokeAll (s : State) (n : Nat) (l : List (Fin 12)) : State := l.foldl (fun t x => t.revokeHeld n x) s

theorem State.revokeLane_eq (s : State) (n : Nat) : s.revokeLane n = s.revokeAll n (List.finRange 12) := rfl

theorem State.revokeAll_grows (s : State) (n : Nat) (l : List (Fin 12)) :
    Grows revokeComps revokeUnits revokeSources s (s.revokeAll n l) :=
  (Grows.refl s).foldl fun t x _ h => h.then (t.revokeHeld_grows n x) (within_self ..)

theorem State.revokeAll_get (s : State) (n : Nat) (l : List (Fin 12)) {f : Fld} (hf : f.unit = 4)
    (hn : ∀ x : Fin 12, f ∉ revokeFields x) : (s.revokeAll n l).get f = s.get f := by
  induction l generalizing s with
  | nil => rfl
  | cons x l ih => exact (ih _).trans (s.revokeHeld_get n x hf (hn x))

/-- A resource in rollback stays so. -/
theorem State.revokeAll_undone {s : State} {n : Nat} {x : Fin 12} (l : List (Fin 12)) (h : s.get (LEASE.HOLD.STATE x) = 2) :
    (s.revokeAll n l).get (LEASE.HOLD.STATE x) = 2 := by
  induction l generalizing s with
  | nil => exact h
  | cons y l ih =>
    refine ih ?_
    by_cases hy : y = x
    · subst hy
      show (s.revokeHeld n y).get (LEASE.HOLD.STATE y) = 2
      rw [State.revokeHeld, if_neg (by omega), h]
    · exact (s.revokeHeld_get n y rfl (hold_notMem_revokeFields hy).1).trans h

/-- A lease of the holder's goes into rollback. -/
theorem State.revokeAll_held {s : State} {n : Nat} {x : Fin 12} {l : List (Fin 12)} (hx : x ∈ l)
    (hst : s.get (LEASE.HOLD.STATE x) = 1) (hwho : s.get (LEASE.HOLD.HOLDER x) = n) :
    (s.revokeAll n l).get (LEASE.HOLD.STATE x) = 2 := by
  induction l generalizing s with
  | nil => cases hx
  | cons y l ih =>
    by_cases hy : y = x
    · subst hy
      have hrevoked : (s.revokeHeld n y).get (LEASE.HOLD.STATE y) = 2 := by
        rw [State.revokeHeld, if_pos ⟨hst, hwho⟩, State.leaseRevoke_noFault _ _ (by decide)]
        exact (s.revokeFor_held y 2).1
      exact State.revokeAll_undone l hrevoked
    · obtain ⟨hstate, hholder⟩ := hold_notMem_revokeFields hy
      exact ih ((List.mem_cons.1 hx).resolve_left (Ne.symm hy)) ((s.revokeHeld_get n y rfl hstate).trans hst)
        ((s.revokeHeld_get n y rfl hholder).trans hwho)

/-! ## The commitment (R120, R252) -/

/-- INSVC loses the lane, the record and the fault are written, source 0x39 is raised. -/
def State.laneCommitted (s : State) (n : Nat) : State :=
  ((s.commitRetire (.lane n)).supervisorFault 0x23 0xFF).arrive 0x39

theorem State.commitRetire_lane (s : State) (n : Nat) :
    Same [.jrnl, .cairn] [SYS.LANE.INSVC] s (s.commitRetire (.lane n)) := by
  have hafter : Within [.jrnl, .cairn] [] (s.setBit SYS.LANE.INSVC n false) (s.commitRetire (.lane n)) :=
    s.commitRetire_after (.lane n) []
  exact (State.setBit_frame _ s _ n false (by decide)).then (Frame.mono hafter (fun _ h => h) (by simp))

theorem State.commitRetire_insvc (s : State) {n : Nat} (hn : n < 5) :
    (s.commitRetire (.lane n)).bit SYS.LANE.INSVC n = false := by
  have hafter : Within [.jrnl, .cairn] [] (s.setBit SYS.LANE.INSVC n false) (s.commitRetire (.lane n)) :=
    s.commitRetire_after (.lane n) []
  rw [State.bit_of_get (hafter.get rfl), State.bit, State.get_setBit, if_pos rfl,
    bitOf_mod _ (show n < SYS.LANE.INSVC.w from hn)]
  exact bitOf_withBit_false ..

/-- The registers that the commitment writes. -/
def commitFields : List Fld := SYS.LANE.INSVC :: faultFields ++ arrivalOf 0x39

theorem State.laneCommitted_frame (s : State) (n : Nat) : Same [.jrnl, .cairn] commitFields s (s.laneCommitted n) :=
  ((((s.commitRetire_lane n).mono (fun _ h => h) (by decide))).then
    (State.recordFault_frame _ _ _ _ _ _ fun _ h => List.mem_append_left _ (List.mem_cons_of_mem _ h))).then
    (State.arrive_frame _ _ _ fun _ h => List.mem_append_right _ h)

theorem State.laneCommitted_insvc (s : State) {n : Nat} (hn : n < 5) :
    (s.laneCommitted n).bit SYS.LANE.INSVC n = false := by
  have hfault : Same [] faultFields (s.commitRetire (.lane n)) ((s.commitRetire (.lane n)).supervisorFault 0x23 0xFF) :=
    State.recordFault_frame _ _ _ _ _ _ fun _ h => h
  refine (State.bit_of_get ((State.arrive_get_other _ (by decide)).trans (hfault.get (by decide))) n).trans ?_
  exact s.commitRetire_insvc hn

theorem State.laneCommitted_pends (s : State) (n : Nat) : (s.laneCommitted n).bit (IRQ.SPEND.PEND 1) 9 = true :=
  (State.arrive_arrived ((s.commitRetire (.lane n)).supervisorFault 0x23 0xFF) (src := 0x39) rfl).1

/-! ## The lane leaves the pair and stops -/

/-- The standby leaves its role where the lane had it. -/
def State.leaveStandby (s : State) (n : Nat) : State := if s.get SYS.LANE.STBY = n then s.noStandby else s

/-- A lane outside the pair stops. -/
def State.stopLane (s : State) (n : Nat) : State := if s.inPair n then s else s.setLane (Fin.ofNat 5 n) Lane.zero

/-- The registers of the standby. -/
def standbyFields : List Fld := [SYS.LANE.STBY, LEASE.ROPE.NOSTBY, LEASE.ROPE.REBUILD]

theorem State.noStandby_grows (s : State) : Grows [.rope] [0, 4] [] s s.noStandby := by
  have hrope (t : State) (r : Rope) : Grows [.rope] [0, 4] [] t { t with rope := r } := .of_flds rfl rfl rfl fun c hc => by
    cases c with
    | rope => exact absurd (by decide) hc
    | _ => rfl
  exact ((((Grows.refl s).set rfl).flag rfl).flag rfl).then (hrope _ _) rfl

theorem State.noStandby_reads (s : State) (f : Fld) : s.noStandby.get f =
    (((s.set SYS.LANE.STBY 7).flag LEASE.ROPE.NOSTBY true).flag LEASE.ROPE.REBUILD false).get f := rfl

theorem State.noStandby_get (s : State) {f : Fld} (hf : f ∉ standbyFields) : s.noStandby.get f = s.get f := by
  simp only [standbyFields, List.mem_cons, List.not_mem_nil, or_false, not_or] at hf
  obtain ⟨hstby, hno, hre⟩ := hf
  exact (s.noStandby_reads f).trans ((State.get_set_other _ (Ne.symm hre) _).trans
    ((State.get_set_other _ (Ne.symm hno) _).trans (State.get_set_other _ (Ne.symm hstby) _)))

theorem State.noStandby_stby (s : State) : s.noStandby.get SYS.LANE.STBY = 7 :=
  (s.noStandby_reads _).trans ((State.get_set_other _ (by decide) _).trans
    ((State.get_set_other _ (by decide) _).trans (State.get_set_same ..)))

section
variable (s : State) (n : Nat)

theorem State.leaveStandby_grows (k : Nat) :
    Grows [.rope] [0, 4] [] s (s.leaveStandby k) := .ite s.noStandby_grows (.refl s)

theorem State.leaveStandby_get (k : Nat) {f : Fld} (hf : f ∉ standbyFields) : (s.leaveStandby k).get f = s.get f := by
  unfold State.leaveStandby
  split
  · exact s.noStandby_get hf
  · rfl

theorem State.stopLane_grows : Grows [.lanes] [] [] s (s.stopLane n) :=
  .ite (.refl s) (.of_flds rfl rfl rfl (State.setLane_frame _ (· ∈ []) s _ _ (by decide)).2)

theorem State.stopLane_get (f : Fld) : (s.stopLane n).get f = s.get f := by
  unfold State.stopLane
  split <;> rfl

theorem State.supervisorDone_grows : Grows [] [4] [] s s.supervisorDone := by
  unfold State.supervisorDone
  exact .ite (.refl _) ((Grows.refl _).foldl fun t x _ h => .ite ((h.set rfl).set rfl) h)

/-- The retirement is over: the decision is gone, and the port is given back. -/
def State.retireOver (w : RetireWhat) : State := ({ s with retiring := s.retiring.erase w } : State).supervisorDone

theorem State.retireOver_grows (w : RetireWhat) : Grows [.retiring] [4] [] s (s.retireOver w) := by
  have hgone : Grows [.retiring] [4] [] s { s with retiring := s.retiring.erase w } := .of_flds rfl rfl rfl fun c hc => by
    cases c with
    | retiring => exact absurd (by decide) hc
    | _ => rfl
  exact hgone.then (State.supervisorDone_grows _) rfl

/-- A resource in rollback is not the supervisor's to free. -/
theorem State.supervisorDone_undone {x : Fin 12} (h : s.get (LEASE.HOLD.STATE x) = 2) :
    s.supervisorDone.get (LEASE.HOLD.STATE x) = 2 := by
  have hstep (t : State) (y : Nat) (ht : t.get (LEASE.HOLD.STATE x) = 2) :
      (if t.get (LEASE.HOLD.STATE y) = 1 ∧ t.get (LEASE.HOLD.HOLDER y) = 0x10 then
        (t.set (LEASE.HOLD.STATE y) 0).set (LEASE.HOLD.HOLDER y) 0xFF else t).get (LEASE.HOLD.STATE x) = 2 := by
    split
    · next hy =>
      have hne : y ≠ x.val := by
        rintro rfl
        omega
      rw [State.get_set_other _ (by simp [LEASE.HOLD.HOLDER, LEASE.HOLD.STATE]),
        State.get_set_other _ (by simpa [LEASE.HOLD.STATE] using hne), ht]
    · exact ht
  unfold State.supervisorDone
  split
  · exact h
  · exact hstep _ 1 (hstep _ 0 h)

theorem State.retireOver_undone (w : RetireWhat) {x : Fin 12} (h : s.get (LEASE.HOLD.STATE x) = 2) :
    (s.retireOver w).get (LEASE.HOLD.STATE x) = 2 :=
  State.supervisorDone_undone { s with retiring := s.retiring.erase w } h

theorem State.retireOver_retiring (w : RetireWhat) : (s.retireOver w).retiring = s.retiring.erase w :=
  (State.supervisorDone_grows { s with retiring := s.retiring.erase w }).comp .retiring rfl

end

/-! ## LANE_RETIRE_COMMIT (R252) -/

/-- The state after the commitment of a lane's retirement. -/
def State.laneRetired (s : State) (n : Nat) : State :=
  ((((s.laneCommitted n).revokeAll n (List.finRange 12)).leaveStandby n).stopLane n).retireOver (.lane n)

theorem laneRetireCommit_next {s : State} {n : Fin 5} {rest : List RetireWhat} (hp : s.power = .on) (hport : s.portHeld = false)
    (hret : s.retiring = .lane n :: rest) : exec .laneRetireCommit s = .next (s.laneRetired n) := by
  show execLaneRetireCommit s = _
  unfold execLaneRetireCommit
  rw [if_pos ⟨hp, by simp [hport]⟩, hret]
  rfl

section
variable (s : State) (n : Fin 5)

/-- From the commitment on: what the revocations and the lane's leaving may touch. -/
theorem State.laneRetired_grows :
    Grows (.rope :: .lanes :: .retiring :: revokeComps) (0 :: revokeUnits) revokeSources (s.laneCommitted n) (s.laneRetired n) :=
  (((((s.laneCommitted n).revokeAll_grows n _).mono rfl).then (State.leaveStandby_grows _ n) rfl).then
    (State.stopLane_grows _ n) rfl).then (State.retireOver_grows _ _) rfl

/-- The state in which the lane's leases are revoked. -/
def State.laneRevoked : State := (s.laneCommitted n).revokeAll n (List.finRange 12)

theorem State.laneRevoked_get {f : Fld} (hf : f ∉ commitFields) (h : f.unit = 0 ∨ f ∈ [LEASE.ROPE.FIRST, LEASE.ROPE.SECOND]) :
    (s.laneRevoked n).get f = s.get f := by
  have hcommit : (s.laneCommitted n).get f = s.get f := (s.laneCommitted_frame n).get hf
  refine Eq.trans ?_ hcommit
  obtain hunit | hrope := h
  · exact ((s.laneCommitted n).revokeAll_grows n _).get_of_unit (apartFrom_of_unit hunit rfl)
  · simp only [List.mem_cons, List.not_mem_nil, or_false] at hrope
    obtain rfl | rfl := hrope <;>
      exact (s.laneCommitted n).revokeAll_get n _ rfl fun x => by
        simp [revokeFields, LEASE.ROPE.FIRST, LEASE.ROPE.SECOND, LEASE.HOLD.STATE, LEASE.HOLD.HOLDER, LEASE.REVOKES.COUNT,
          LEASE.REVOKES.SAT, LEASE.LASTREV.REASON, LEASE.LASTREV.HOLDER, LEASE.LASTREV.RES]

theorem State.laneRetired_insvc : (s.laneRetired n).bit SYS.LANE.INSVC n = false := by
  have hlast : (s.laneRetired n).get SYS.LANE.INSVC = (s.laneCommitted n).get SYS.LANE.INSVC :=
    (((State.retireOver_grows _ _).get_of_unit rfl).trans (State.stopLane_get ..)).trans
      ((State.leaveStandby_get _ _ (by decide)).trans (((s.laneCommitted n).revokeAll_grows n _).get_of_unit rfl))
  exact (State.bit_of_get hlast n).trans (s.laneCommitted_insvc n.isLt)

theorem State.laneRetired_stby (h : s.get SYS.LANE.STBY = n.val) : (s.laneRetired n).get SYS.LANE.STBY = 7 := by
  have hstby : (s.laneRevoked n).get SYS.LANE.STBY = n := (s.laneRevoked_get n (by decide) (.inl rfl)).trans h
  have hleave : ((s.laneRevoked n).leaveStandby n).get SYS.LANE.STBY = 7 := by
    rw [State.leaveStandby, if_pos hstby]
    exact State.noStandby_stby _
  exact (((State.retireOver_grows _ _).get_of_unit rfl).trans (State.stopLane_get ..)).trans hleave

theorem State.laneRetired_stops (h : s.inPair n = false) : (s.laneRetired n).lane n = Lane.zero := by
  have hpair : ((s.laneRevoked n).leaveStandby n).inPair n = false := by
    have hget {f : Fld} (hf : f ∈ [LEASE.ROPE.FIRST, LEASE.ROPE.SECOND]) :
        ((s.laneRevoked n).leaveStandby n).get f = s.get f :=
      (State.leaveStandby_get _ _ (by revert f; decide)).trans (s.laneRevoked_get n (by revert f; decide) (.inr hf))
    rw [State.inPair, hget (by decide), hget (by decide)]
    exact h
  have hn : Fin.ofNat 5 n.val = n := Fin.ext (Nat.mod_eq_of_lt n.isLt)
  have hstop : (((s.laneRevoked n).leaveStandby n).stopLane n).lane n = Lane.zero := by
    rw [State.stopLane, if_neg (by simp [hpair]), hn, State.lane_setLane_same]
  have hlanes := (State.retireOver_grows (((s.laneRevoked n).leaveStandby n).stopLane n) (.lane n)).comp .lanes rfl
  exact (congrArg (fun l : Vector Lane 5 => l[n]) hlanes).trans hstop

theorem State.laneRetired_lease {x : Fin 12} (hst : s.get (LEASE.HOLD.STATE x) = 1) (hwho : s.get (LEASE.HOLD.HOLDER x) = n.val) :
    (s.laneRetired n).get (LEASE.HOLD.STATE x) = 2 := by
  have hcommit {f : Fld} (hf : f.unit = 4) : (s.laneCommitted n).get f = s.get f :=
    (s.laneCommitted_frame n).get fun hm => (by decide : ∀ g ∈ commitFields, g.unit ≠ 4) f hm hf
  have hrevoked : (s.laneRevoked n).get (LEASE.HOLD.STATE x) = 2 :=
    State.revokeAll_held (List.mem_finRange x) ((hcommit rfl).trans hst) ((hcommit rfl).trans hwho)
  have hleft : (((s.laneRevoked n).leaveStandby n).stopLane n).get (LEASE.HOLD.STATE x) = 2 :=
    (State.stopLane_get ..).trans ((State.leaveStandby_get _ _ (by
      simp [standbyFields, LEASE.HOLD.STATE, SYS.LANE.STBY, LEASE.ROPE.NOSTBY, LEASE.ROPE.REBUILD])).trans hrevoked)
  exact State.retireOver_undone _ _ hleft

theorem State.laneRetired_retiring {rest : List RetireWhat} (h : s.retiring = .lane n :: rest) :
    (s.laneRetired n).retiring = rest := by
  let u := ((s.laneRevoked n).leaveStandby n).stopLane n
  have hu : u.retiring = s.retiring :=
    Eq.trans ((State.stopLane_grows _ n).comp .retiring rfl) (Eq.trans ((State.leaveStandby_grows _ _).comp .retiring rfl)
      (Eq.trans ((State.revokeAll_grows _ _ _).comp .retiring rfl) ((s.laneCommitted_frame n).2 .retiring (by decide))))
  have hdone : (s.laneRetired n).retiring = u.retiring.erase (.lane n) := State.retireOver_retiring ..
  rw [hdone, hu, h, List.erase_cons_head]

end

theorem laneRetireCommit_retires {s : State} {n : Fin 5} {rest : List RetireWhat} (hp : s.power = .on)
    (hport : s.portHeld = false) (hret : s.retiring = .lane n :: rest) : ∃ t, exec .laneRetireCommit s = .next t ∧
      t.bit SYS.LANE.INSVC n = false ∧ t.retiring = rest ∧ t.bit (IRQ.SPEND.PEND 1) 9 = true ∧
      (s.inPair n = false → t.lane n = Lane.zero) ∧ (s.get SYS.LANE.STBY = n.val → t.get SYS.LANE.STBY = 7) ∧
      (∀ x : Fin 12, s.get (LEASE.HOLD.STATE x) = 1 → s.get (LEASE.HOLD.HOLDER x) = n.val →
        t.get (LEASE.HOLD.STATE x) = 2) ∧
      t.clock = s.clock ∧ t.cores = s.cores ∧ t.tracker = s.tracker ∧ t.pending = s.pending := by
  have hgrow := s.laneRetired_grows n
  have hcommit := s.laneCommitted_frame n
  exact ⟨_, laneRetireCommit_next hp hport hret, s.laneRetired_insvc n, s.laneRetired_retiring n hret,
    hgrow.pend 1 9 (by decide) (s.laneCommitted_pends n), s.laneRetired_stops n, s.laneRetired_stby n,
    fun x => s.laneRetired_lease n, Eq.trans (hgrow.comp .clock rfl) (hcommit.2 .clock (by decide)),
    Eq.trans (hgrow.comp .cores rfl) (hcommit.2 .cores (by decide)),
    Eq.trans (hgrow.comp .tracker rfl) (hcommit.2 .tracker (by decide)),
    Eq.trans (hgrow.comp .pending rfl) (hcommit.2 .pending (by decide))⟩

/-! ## The events of lanes and cue programs -/

theorem laneEvents : LaneEvents := by
  intro s n hp L alone
  refine ⟨grainProgramStart_starts hp, standbyRecompute_starts hp, fun hlock hvoted => ?_,
    fun c => standbyRebuildEnd_ends hp, fun him hprot hpos hstart => installSectionsDone_places hp him hprot hpos hstart,
    laneSelftestFail_decides hp, fun rest => laneRetireCommit_retires hp, fun c k rest => cueProgramStart_starts hp⟩
  obtain ⟨hexec, hphase⟩ := voteTail_ends hp hlock hvoted
  obtain ⟨hcleared, hswap⟩ := ((s.toPhase_pair 6296).trans (State.mirrorTakes_pair _)).tail
  exact ⟨_, hexec, hphase, rfl, rfl, hcleared, hswap n⟩

/-- Settles O28: the lanes' events one by one, and the leases' (`leaseEvents`). -/
theorem laneAndLeaseEvents : Obligations.LaneAndLeaseEvents := ⟨laneEvents, leaseEvents⟩

end Sys2Proof.Machine
